-- ==== Sys2Proof/Word.lean ====
section
/-! DEFINITION. Words, bytes and sparse tables: the plain data every other file is written in. -/

namespace Sys2Proof

/-- One byte. -/
abbrev Byte := BitVec 8

/-- One 64-byte line, the unit of coherence, transfer and poison (00_scope, Hierarchy). Byte 0 is bits 7..0 (R7). -/
abbrev Line := BitVec 512

/-- A sparse table: pairs of index and content, indices strictly rising. An index that is not listed holds the
table's reset content, which the reader of the table names. -/
abbrev Tab (α : Type) := List (Nat × α)

end Sys2Proof
end

