-- ==== Sys2Proof/Wire.lean ====
section
/-! DEFINITION. What travels on the device's links, as data: CXL.mem messages, TLPs, trunk headers and records,
die-link headers, boot images. The commands carry these as operands and the state holds them in its queues. -/

namespace Sys2Proof

/-- MetaField of a CXL.mem request (R106): Meta0-State and No-Op are accepted. -/
inductive MetaField where
  | meta0
  | noOp
  | reserved
  deriving DecidableEq, Repr

/-- MetaValue (R106): I, S, A; the fourth encoding is not one of them. -/
inductive MetaValue where
  | I
  | S
  | A
  | reserved
  deriving DecidableEq, Repr

/-- Operation of an atomic (R150, R327). -/
inductive AtomOp where
  | fetchAdd
  | swap
  | cas
  deriving DecidableEq, Repr

/-- The messages of CXL.mem and of the home (R106, R166, R290). -/
inductive MsgOp where
  | memRd
  | memRdData
  | memInv
  | memWr
  | memWrPtl
  | memSpecRd
  | memData
  | cmp
  | cmpE
  | snpInv
  | snpData
  | snpCur
  | rspI
  | rspS
  | rspE
  | biConflict
  | biConflictAck
  | atom
  | atomResult
  | tlp
  | mirror
  | mgmt
  deriving DecidableEq, Repr

/-- Transaction layer packet kinds the model tells apart. -/
inductive TlpKind where
  | memRd
  | memWr
  | cfgRd
  | cfgWr
  | cplD
  | cpl
  | msg
  | atomic
  /-- A back-invalidate snoop that a directly bound LD starts (R89, R171). -/
  | biSnp (op : MsgOp)
  deriving DecidableEq, Repr

/-- Completion status of a TLP, and the ways a completion can fail to come (R330, R439). -/
inductive CplStatus where
  | success
  | unsupported
  | abort
  | retry
  | poisoned
  | timeout
  deriving DecidableEq, Repr

/-- A transaction layer packet (R171, R437, R445). -/
structure Tlp where
  kind : TlpKind := .memWr
  address : BitVec 64 := 0
  requester : BitVec 16 := 0
  tag : Nat := 0
  status : CplStatus := .success
  pasid : Option Nat := none
  egress : Nat := 0
  length : Nat := 0
  data : List Byte := []
  deriving DecidableEq, Repr

/-- Head of a mirror record (R304). -/
structure MirrorHead where
  stamp : BitVec 64 := 0
  mseq : BitVec 32 := 0
  unit : Nat := 0
  sync : Bool := false
  deriving DecidableEq, Repr

/-- Body of a mirror record (R305). -/
inductive MirrorBody where
  | config (table index : Nat) (image : BitVec 1024)
  | commit (proposal : BitVec 16) (records : Nat)
  | dir (set way : Nat) (entry : BitVec 64)
  | vaultDirty (set way : Nat) (tag : BitVec 48) (data : Line)
  | vaultClean (set way : Nat)
  | wbPending (pos pl : Nat) (poison : Bool) (data : Line)
  | wbDone (pos : Nat)
  | ack (mseq : BitVec 32)
  deriving DecidableEq, Repr

/-- A mirror record (R304, R305). -/
structure MirrorRec where
  head : MirrorHead := {}
  body : MirrorBody := .ack 0
  deriving DecidableEq, Repr

/-- The operands of an atomic on its way to a home (R150, R151). -/
structure AtomReq where
  op : AtomOp := .fetchAdd
  size : Nat := 0
  off : Nat := 0
  a : BitVec 128 := 0
  b : BitVec 128 := 0
  deriving DecidableEq, Repr

/-- One message inside a cell (R164, R166). -/
structure Msg where
  op : MsgOp := .cmp
  addr : BitVec 64 := 0
  metaValue : MetaValue := .I
  data : Line := 0
  mask : BitVec 64 := 0
  poison : Bool := false
  devload : Nat := 0
  ld : Nat := 0
  tlp : Option Tlp := none
  mirror : Option MirrorRec := none
  atom : Option AtomReq := none
  fail : Bool := false
  outcome : Nat := 0
  tag : Nat := 0
  deriving DecidableEq, Repr

/-- A message on a trunk with its trunk message header (R290). -/
structure TrunkMsg where
  dstDev : BitVec 4 := 0
  srcDev : BitVec 4 := 0
  ttl : BitVec 4 := 15
  cls : BitVec 2 := 0
  devload : BitVec 2 := 0
  kind : BitVec 2 := 0
  port : BitVec 7 := 0
  length : BitVec 8 := 0
  bed : BitVec 12 := 0
  line : BitVec 36 := 0
  plot : BitVec 9 := 0
  agent : BitVec 6 := 0
  msg : Msg := {}
  deriving DecidableEq, Repr

/-- The trunk link header (R265) but for its type, which the command names. -/
structure LinkHeader where
  vc : Nat := 0
  seq : BitVec 12 := 0
  ack : BitVec 12 := 0xFFF
  creditVc : Nat := 0
  creditCount : Nat := 0
  pause : Bool := false
  nakPresent : Bool := false
  cong : Bool := false
  stomp : Bool := false
  deriving DecidableEq, Repr

/-- The trunk link header's 48 bits (R265). -/
def LinkHeader.image (h : LinkHeader) (typ : Nat) : Nat :=
  typ * 2 ^ 44 + h.vc % 8 * 2 ^ 41 + h.seq.toNat * 2 ^ 29 + h.ack.toNat * 2 ^ 17 + h.creditVc % 8 * 2 ^ 14 + h.creditCount % 256 * 2 ^ 6 +
    h.pause.toNat * 2 ^ 3 + h.nakPresent.toNat * 2 ^ 2 + h.cong.toNat * 2 + h.stomp.toNat

/-- The trunk message header's 96 bits (R290). -/
def TrunkMsg.image (m : TrunkMsg) : Nat :=
  m.dstDev.toNat * 2 ^ 92 + m.srcDev.toNat * 2 ^ 88 + m.ttl.toNat * 2 ^ 84 + m.cls.toNat * 2 ^ 82 + m.devload.toNat * 2 ^ 80 +
    m.kind.toNat * 2 ^ 78 + m.port.toNat * 2 ^ 71 + m.length.toNat * 2 ^ 63 + m.bed.toNat * 2 ^ 51 + m.line.toNat * 2 ^ 15 +
    m.plot.toNat * 2 ^ 6 + m.agent.toNat

/-- A CXL.io or PCIe TLP for the bridge or the Barrow (R162, R166, R436, R444, R445). -/
inductive IoIn where
  /-- An inbound memory write to the bridge (R444). -/
  | write (requester : BitVec 16) (address : BitVec 64) (data : List Byte)
  /-- An inbound message to the bridge (R445). -/
  | message (vdm : Bool) (vendor : BitVec 16) (id : Byte) (requester : BitVec 16) (header : BitVec 128) (payload : List Byte)
  /-- A completion of one of the bridge's delayed requests (R439). -/
  | completion (slot : Nat) (status : CplStatus) (data : BitVec 64)
  /-- A completion of a host read of a Barrow slice (R330). -/
  | hostCompletion (slice : Nat) (status : CplStatus) (data : List Byte)
  /-- A submission to the Barrow (R324). -/
  | submission (offset length : Nat) (deferrable : Bool) (pasid : Option Nat) (data : BitVec 512)
  /-- A write to a slice's SLC_CONTROL (R337). -/
  | control (slice : Nat) (value : BitVec 64)
  /-- A write to another register of the Barrow function (R321). -/
  | bar (address : BitVec 64) (size : Nat) (value : BitVec 64)
  /-- A read of the Barrow function's BARs (R321). -/
  | barRead (address : BitVec 64) (length : Nat) (requester : BitVec 16) (tag : Nat)
  /-- A write or a message whose data was marked poisoned in the switch core (R196). -/
  | poisoned
  deriving DecidableEq, Repr

/-- How a trunk flit's CRC-64 comes out (R264, R270): true, matching only when inverted, or neither. -/
inductive FlitCheck where
  | good
  | stomped
  | bad
  deriving DecidableEq, Repr

/-- One record of a NAK payload (R275). -/
structure NakRecord where
  base : BitVec 12 := 0
  bitmap : BitVec 64 := 0
  deriving DecidableEq, Repr

/-- The content of a hello ordered set (R235), and whether it was received with the lane's polarity inverted (R236). -/
structure Hello where
  device : Nat := 0
  station : Nat := 0
  lane : Nat := 0
  width : Nat := 0
  rates : Nat := 0
  preset : Nat := 0xFF
  serial : BitVec 48 := 0
  inverted : Bool := false
  deriving DecidableEq, Repr

/-- Body of a MGMT record (R266, R360, R351, R85, R93, R148, R307, R313). -/
inductive MgmtBody where
  /-- A part of the parameter block of the command record that follows, or of a receipt's result block (R360; log 119). -/
  | part (ofReceipt : Bool) (index : Nat) (data : List Byte)
  /-- Some of the answering device's ports, ahead of its answer to a pair request (R296; log 106, log 119). -/
  | wiring (index : Nat) (ports : List (Nat × BitVec 64 × BitVec 64))
  | command (origin : Nat) (word : BitVec 512) (block : List Byte)
  | receipt (origin : Nat) (tag : BitVec 32) (opcode status : BitVec 16) (result : BitVec 128) (block : List Byte)
  | mapQuery (bed : Nat) (port : Nat) (plot slot : Nat)
  | mapAnswer (plot slot : Nat) (status : BitVec 16) (span count ways : Nat) (shared : Bool)
  | unmap (bed : Nat) (port : Nat) (plot : Nat)
  | capacity (bed port count : Nat) (release force : Bool) (sets : List Nat)
  /-- Whether more than one plot maps a bed now (R84; log 90). -/
  | shared (bed port : Nat) (shared : Bool)
  | accepted (bed : Nat) (port : Nat) (count : Nat)
  | lostWrite (bed : Nat)
  /-- A plot that maps the bed drains (R69, R92; log 72). -/
  | plotDrain (bed port plot : Nat)
  | plotDrained (bed plot : Nat)
  /-- A plot's drain has timed out: its agent counts as lost for the bed (R70; log 72). -/
  | plotLost (bed port plot : Nat)
  /-- A plot sanitises a bed that no other plot maps (R71; log 72). -/
  | plotZero (bed port plot : Nat)
  | plotZeroed (bed plot : Nat) (failed : Bool)
  | pairRequest (generation : BitVec 32) (pinPromote : Bool)
  /-- The answer to a pair request, with the answering device's ports: index, port entry and serial discovered (R296; log 106). -/
  | pairAnswer (accepted : Bool) (ports : List (Nat × BitVec 64 × BitVec 64))
  | handoff (generation : BitVec 32)
  | dissolve
  | unknown (recordType : BitVec 16)
  deriving DecidableEq, Repr

/-- Which of the device's own record types a body is (R266): none of an unknown one, which carries its number. -/
def MgmtBody.kind : MgmtBody → Option Nat
  | .part false _ _ => some 0
  | .part true _ _ => some 1
  | .wiring _ _ => some 2
  | .command _ _ _ => some 3
  | .receipt _ _ _ _ _ _ => some 4
  | .mapQuery _ _ _ _ => some 5
  | .mapAnswer _ _ _ _ _ _ _ => some 6
  | .unmap _ _ _ => some 7
  | .capacity _ _ _ _ _ _ => some 8
  | .shared _ _ _ => some 9
  | .accepted _ _ _ => some 10
  | .lostWrite _ => some 11
  | .plotDrain _ _ _ => some 12
  | .plotDrained _ _ => some 13
  | .plotLost _ _ _ => some 14
  | .plotZero _ _ _ => some 15
  | .plotZeroed _ _ _ => some 16
  | .pairRequest _ _ => some 17
  | .pairAnswer _ _ => some 18
  | .handoff _ => some 19
  | .dissolve => some 20
  | .unknown _ => none

/-- The bytes of a record's body (R266). DESIGN CHOICE (log 119): no chapter lays the bodies out; a command is its 64 bytes and its ring, a
receipt its 32 bytes and its ring, a run of sets its first and its length, and every other field takes its width in whole bytes. -/
def MgmtBody.length : MgmtBody → Nat
  | .part _ _ data => 2 + data.length
  | .wiring _ ports => 2 + 17 * ports.length
  | .command _ _ block => 66 + block.length
  | .receipt _ _ _ _ _ block => 34 + block.length
  | .mapQuery _ _ _ _ => 8
  | .mapAnswer _ _ _ _ _ _ _ => 12
  | .unmap _ _ _ => 6
  | .capacity _ _ _ _ _ _ => 10
  | .shared _ _ _ => 4
  | .accepted _ _ _ => 6
  | .lostWrite _ => 2
  | .plotDrain _ _ _ => 6
  | .plotDrained _ _ => 4
  | .plotLost _ _ _ => 6
  | .plotZero _ _ _ => 6
  | .plotZeroed _ _ _ => 5
  | .pairRequest _ _ => 5
  | .pairAnswer _ ports => 2 + 17 * ports.length
  | .handoff _ => 4
  | .dissolve => 1
  | .unknown _ => 0

/-- A list in runs of n, the last one what is left. -/
def inRuns (n : Nat) {α : Type} (l : List α) : List (Nat × List α) :=
  (List.range ((l.length + n - 1) / n)).map (fun i => (i, (l.drop (n * i)).take n))

/-- The records in which a body leaves (R266, R360): a block goes ahead in parts of 228 bytes, so up to 18 of them, and the ports of an answer
in runs of 13. -/
def MgmtBody.split : MgmtBody → List MgmtBody
  | .command origin word block => (inRuns 228 block).map (fun x => .part false x.1 x.2) ++ [.command origin word []]
  | .receipt origin tag opcode status result block =>
    (inRuns 228 block).map (fun x => .part true x.1 x.2) ++ [.receipt origin tag opcode status result []]
  | .pairAnswer yes ports => (inRuns 13 ports).map (fun x => .wiring x.1 x.2) ++ [.pairAnswer yes []]
  | b => [b]

/-- A MGMT record with its record header (R266). -/
structure MgmtRec where
  dst : Nat := 0
  src : Nat := 0
  hops : Nat := 0
  length : Nat := 0
  body : MgmtBody := .unknown 0
  deriving DecidableEq, Repr

/-- The two directions of the die link. -/
inductive LinkDir where
  | toSteward
  | toFabric
  deriving DecidableEq, Repr

/-- Header of a die-link flit (R428). -/
structure DieHeader where
  channel : Nat := 0
  typ : Nat := 0
  first : Bool := true
  last : Bool := true
  seq : BitVec 10 := 0
  ack : BitVec 10 := 0x3FF
  creditCh : Nat := 0
  creditCount : Nat := 0
  length : Nat := 0
  txn : Nat := 0
  hart : Nat := 0
  deriving DecidableEq, Repr

/-- What a memory device reports while a write may be open (R227). -/
inductive DeviceReport where
  | viral
  | errFatal
  | errNonfatal (dpa : Option (BitVec 64))
  | errCor
  | ldReset
  deriving DecidableEq, Repr

/-- What a memory device's completion says beside its line (R184, R185): its LD-ID and its DevLoad. -/
structure RspHead where
  ld : Nat := 0
  devload : BitVec 2 := 0
  deriving DecidableEq, Repr

/-- What discovery finds behind a DOWNSTREAM port (R201, R212, R228). -/
structure Discovery where
  partner : Nat := 0
  ldMask : BitVec 16 := 0
  dcd : Bool := false
  mhd : Bool := false
  bi : Bool := false
  cxl128 : Bool := false
  serial : BitVec 64 := 0
  /-- The L0s exit latency that it advertises, in ns (R242). -/
  l0sLatency : Option Nat := none
  /-- Capacity of each LD in bytes; the LD of an SLD is 0. -/
  capacities : List (Nat × BitVec 64) := []
  /-- Dynamic-capacity regions: LD-ID, first block of 256 MiB, count. -/
  regions : List (Nat × Nat × Nat) := []
  deriving DecidableEq, Repr

/-- A boot image as the ROM reads it (R420, R421): whether its magic and format, and its reserved fields, are correct, the other header
fields, the SHA-256 digest of its key, its signature and its body. -/
structure BootImage where
  formatGood : Bool := true
  reservedGood : Bool := true
  raiseFloor : Bool := false
  svn : Nat := 0
  length : Nat := 8
  load : Nat := 0x08000000
  entry : Nat := 0x08000000
  version : BitVec 64 := 0
  keyDigest : BitVec 256 := 0
  signature : Nat := 0
  body : List Byte := []
  deriving DecidableEq, Repr

/-- The wake sources of DORMANT (R486). -/
inductive WakeSource where
  | ring13
  | wakePin
  | presence
  | feed
  deriving DecidableEq, Repr

/-- The two feeds (R2). -/
inductive Feed where
  | A
  | B
  deriving DecidableEq, Repr

/-- Who writes a register (R24, R321, R367, R426). -/
inductive RegWriter where
  | jtag
  | hart (n : Nat)
  | countersign
  | host (port : Nat)
  deriving DecidableEq, Repr

end Sys2Proof
end

