-- ==== Sys2Proof/Syntax.lean ====
section
/-! DEFINITION. The commands: one constructor per row of spec/opcode_table.json. A Teller command is its ring: the 64-byte
word stands in the ring's next command slot, and its parameters in it or in its parameter block (R354, R355). -/

namespace Sys2Proof

/-- The commands of the block, in the table's order. -/
inductive Instr where
  /-- DEV_IDENTIFY (R384): Command that returns the device serial, revision, fabric device number and pair serial. -/
  | devIdentify (ring : Nat)
  /-- DEV_STATUS (R384): Command that returns the mode, pair state, flags, outstanding proposals and almanac counts. -/
  | devStatus (ring : Nat)
  /-- DEV_SET_MODE (R385): Command that requests a mode transition, or records one that hardware started on ring 15, under the transition table. -/
  | devSetMode (ring : Nat)
  /-- DEV_RESET (R386): Command that schedules a warm, fabric-only or steward-only reset for the next tick boundary. -/
  | devReset (ring : Nat)
  /-- DEV_SET_NUMBER (R387): Command that sets the fabric device number and writes it to the wear book. -/
  | devSetNumber (ring : Nat)
  /-- DEV_SET_KEY_SLOT (R388): Guarded command that replaces the key digest of a boot key slot at commit. -/
  | devSetKeySlot (ring : Nat)
  /-- DEV_REVOKE_KEY_SLOT (R388): Guarded command that revokes a boot key slot at commit, unless no valid slot would remain. -/
  | devRevokeKeySlot (ring : Nat)
  /-- PLOT_CONFIGURE (R66): Guarded command that binds a FREE plot to an upstream port and virtual switch slot. -/
  | plotConfigure (ring : Nat)
  /-- PLOT_RELEASE (R66): Guarded command that unmaps every slot of a CONFIGURED plot, unbinds its Barrow slices and returns it to FREE. -/
  | plotRelease (ring : Nat)
  /-- PLOT_MAP_BED (R65): Guarded command that maps a bed into a plot's bed slot and assigns the port's agent at the bed's home. -/
  | plotMapBed (ring : Nat)
  /-- PLOT_UNMAP_BED (R66): Guarded command that unmaps a bed slot and frees the port's agent mapping. -/
  | plotUnmapBed (ring : Nat)
  /-- PLOT_ENABLE (R66): Command that hot-adds the synthesised device and offers every slot's capacity, or queues while the plot drains or sanitises. -/
  | plotEnable (ring : Nat)
  /-- PLOT_DISABLE (R66): Command that takes an ACTIVE plot through DRAINING and SANITIZING to CONFIGURED. -/
  | plotDisable (ring : Nat)
  /-- PLOT_RESET (R66): Command that drains a plot, sanitises it if clear is set, and returns it to ACTIVE, or clears the fault of a CONFIGURED plot. -/
  | plotReset (ring : Nat)
  /-- PLOT_SET_SANITIZE (R66): Guarded command that sets the plot's sanitize_off bit. -/
  | plotSetSanitize (ring : Nat)
  /-- PLOT_SET_QOS (R189): Command that sets a plot's read and write caps, burst and weight. -/
  | plotSetQos (ring : Nat)
  /-- PLOT_READ (R389): Command that returns the plot table entry and the QoS entry. -/
  | plotRead (ring : Nat)
  /-- BED_DEFINE (R74): Guarded command that defines a bed's span, base, protocol, policies, ways and granularity. -/
  | bedDefine (ring : Nat)
  /-- BED_UNDEFINE (R392): Command that sets an unmapped bed RELEASING and sends its extents to zeroing. -/
  | bedUndefine (ring : Nat)
  /-- BED_SET_POLICY (R146): Command that changes a bed's vault policy or ripening age and runs a policy scan of every bank. -/
  | bedSetPolicy (ring : Nat)
  /-- BED_GROW (R85): Guarded command that zeroes and binds k more stripe sets to a bed and offers the added capacity. -/
  | bedGrow (ring : Nat)
  /-- BED_SHRINK (R87): Command that asks hosts to release the last k stripe sets of a bed and then removes them. -/
  | bedShrink (ring : Nat)
  /-- BED_EXPORT (R93): Guarded command that exports a bed to, or revokes it from, another fabric device. -/
  | bedExport (ring : Nat)
  /-- BED_READ (R391): Command that returns a bed table entry. -/
  | bedRead (ring : Nat)
  /-- EXTENT_DEFINE (R78): Command that scans the extent table and defines an entry for a physical extent. -/
  | extentDefine (ring : Nat)
  /-- EXTENT_UNDEFINE (R392): Command that returns a DEFINED extent entry to FREE. -/
  | extentUndefine (ring : Nat)
  /-- EXTENT_CLEAR_FAILED (R392): Command that zeroes a FAILED extent to return it to service. -/
  | extentClearFailed (ring : Nat)
  /-- EXTENT_READ (R391): Command that returns an extent table entry. -/
  | extentRead (ring : Nat)
  /-- PORT_SET_ROLE (R206): Guarded command that sets the layout of one station and retrains its changed ports. -/
  | portSetRole (ring : Nat)
  /-- PORT_SET_LINK (R229): Command that sets a port's max_rate, cxl128 and l0p and retrains it. -/
  | portSetLink (ring : Nat)
  /-- PORT_RETRAIN (R229): Command that retrains one port at its present settings. -/
  | portRetrain (ring : Nat)
  /-- PORT_READ (R205): Command that returns a port entry. -/
  | portRead (ring : Nat)
  /-- PORT_STATUS (R228): Command that returns a port's link status. -/
  | portStatus (ring : Nat)
  /-- PORT_PREPARE_REMOVAL (R223): Command that asserts PERST#, disables the link and switches off a downstream port's slot. -/
  | portPrepareRemoval (ring : Nat)
  /-- PORT_SET_IDE_KEY (R217): Command that installs one IDE key set for an upstream port. -/
  | portSetIdeKey (ring : Nat)
  /-- PORT_BIND_LD (R89): Guarded command that binds a downstream logical device to a vPPB of a host's virtual switch. -/
  | portBindLd (ring : Nat)
  /-- PORT_UNBIND_LD (R394): Guarded command that unbinds the device carried by a vPPB. -/
  | portUnbindLd (ring : Nat)
  /-- PORT_SET_LOAD_THRESHOLDS (R187): Command that sets the DevLoad thresholds of the ports in a mask. -/
  | portSetLoadThresholds (ring : Nat)
  /-- LANE_SET (R258): Command that writes lane entry fields for the lanes in a mask. -/
  | laneSet (ring : Nat)
  /-- LANE_READ (R256): Command that returns a lane entry. -/
  | laneRead (ring : Nat)
  /-- LANE_STATUS (R257): Command that returns a lane's status and optionally clears its sticky bits. -/
  | laneStatus (ring : Nat)
  /-- LANE_SET_LOOP (R250): Command, in PROBE only, that sets a test loop on the lanes in a mask. -/
  | laneSetLoop (ring : Nat)
  /-- LANE_PRBS (R252): Command, in PROBE only, that sets a lane's PRBS generator and checker. -/
  | lanePrbs (ring : Nat)
  /-- LANE_EYE_SCAN (R253): Command that starts an eye-margin scan of one active lane. -/
  | laneEyeScan (ring : Nat)
  /-- TRUNK_SET (R261): Command that writes a trunk entry and its wear book record. -/
  | trunkSet (ring : Nat)
  /-- TRUNK_READ (R294): Command that returns the trunk entry and the route table. -/
  | trunkRead (ring : Nat)
  /-- TRUNK_STATUS (R293): Command that returns a trunk's status. -/
  | trunkStatus (ring : Nat)
  /-- TRUNK_SET_LINK (R281): Command that starts a retrain of a trunk to a new width and rate. -/
  | trunkSetLink (ring : Nat)
  /-- TRUNK_RETRAIN (R281): Command that starts a retrain of a trunk at its present settings. -/
  | trunkRetrain (ring : Nat)
  /-- TRUNK_RESTART (R262): Command that moves a BROKEN or DOWN trunk to HELLO. -/
  | trunkRestart (ring : Nat)
  /-- TRUNK_SET_BUFFERS (R272): Command that sets the receive slots of each credited VC of a trunk. -/
  | trunkSetBuffers (ring : Nat)
  /-- TRUNK_SET_ROUTE (R291): Command that writes entries of the cascade route table. -/
  | trunkSetRoute (ring : Nat)
  /-- COH_SET_WEEDER (R130): Command that sets the weeder budget for the slices in a mask. -/
  | cohSetWeeder (ring : Nat)
  /-- COH_SET_SNOOP_TIMEOUT (R125): Command that sets the snoop timeout for all slices. -/
  | cohSetSnoopTimeout (ring : Nat)
  /-- COH_SET_LOAD_THRESHOLDS (R187): Command that sets the occupancy thresholds of the slices in a mask. -/
  | cohSetLoadThresholds (ring : Nat)
  /-- COH_READ_ENTRY (R103): Command that returns the directory entry at a slice, set and way. -/
  | cohReadEntry (ring : Nat)
  /-- COH_LOOKUP (R395): Command that looks up the directory entry of a bed offset. -/
  | cohLookup (ring : Nat)
  /-- COH_STATUS (R131): Command that returns the status of one home slice. -/
  | cohStatus (ring : Nat)
  /-- VAULT_FLUSH (R145): Command that scans each bank and writes back the dirty lines of the named beds. -/
  | vaultFlush (ring : Nat)
  /-- VAULT_SET_WRITE_TIMEOUT (R147): Command that sets the memory write timeout for all slices. -/
  | vaultSetWriteTimeout (ring : Nat)
  /-- VAULT_SET_PREDICTOR (R154): Command that sets park_on and pass_at for the slices in a mask. -/
  | vaultSetPredictor (ring : Nat)
  /-- VAULT_STATUS (R161): Command that returns the status of one vault bank. -/
  | vaultStatus (ring : Nat)
  /-- VAULT_READ_TAG (R137): Command that returns a vault tag. -/
  | vaultReadTag (ring : Nat)
  /-- VAULT_READ_PREDICTOR (R153): Command that returns a contention predictor entry. -/
  | vaultReadPredictor (ring : Nat)
  /-- SLICE_BIND (R322): Command that binds a Barrow slice to a plot. -/
  | sliceBind (ring : Nat)
  /-- SLICE_UNBIND (R334): Command that resets a slice, clears its entry and PASID entries and leaves it UNBOUND. -/
  | sliceUnbind (ring : Nat)
  /-- SLICE_MAP_PASID (R323): Command that writes a PASID table entry routing a port and PASID to a slice. -/
  | sliceMapPasid (ring : Nat)
  /-- SLICE_UNMAP_PASID (R323): Command that clears one PASID table entry. -/
  | sliceUnmapPasid (ring : Nat)
  /-- SLICE_FREEZE (R334): Command that freezes a slice in mode COMPLETE or BOUNDARY. -/
  | sliceFreeze (ring : Nat)
  /-- SLICE_THAW (R334): Command that returns a FROZEN slice to RUNNING. -/
  | sliceThaw (ring : Nat)
  /-- SLICE_RESET (R334): Command that aborts a slice's running descriptor, discards its queue and clears its fault. -/
  | sliceReset (ring : Nat)
  /-- SLICE_CLEAR_FAULT (R334): Command that clears a slice's fault. -/
  | sliceClearFault (ring : Nat)
  /-- SLICE_SAVE (R339): Command that writes a FROZEN slice's save image to host memory. -/
  | sliceSave (ring : Nat)
  /-- SLICE_RESTORE (R340): Command that reads and loads a save image into a FROZEN slice. -/
  | sliceRestore (ring : Nat)
  /-- SLICE_STATUS (R337): Command that returns SLC_STATUS and SLC_COUNTS of a slice. -/
  | sliceStatus (ring : Nat)
  /-- EXTENT_MIGRATE (R341): Command that starts moving a BOUND extent to a target location. -/
  | extentMigrate (ring : Nat)
  /-- EXTENT_MIGRATE_CANCEL (R345): Command that ends a running migration early. -/
  | extentMigrateCancel (ring : Nat)
  /-- PAIR_FORM (R308): Guarded command that forms a pair with this device ACTIVE and resyncs the partner. -/
  | pairForm (ring : Nat)
  /-- PAIR_DISSOLVE (R307): Guarded command that ends the pair. -/
  | pairDissolve (ring : Nat)
  /-- PAIR_SWITCHOVER (R313): Guarded command that exchanges ACTIVE and SHADOW roles without loss. -/
  | pairSwitchover (ring : Nat)
  /-- PAIR_ASSUME (R307): Guarded command that moves a WAITING device to ALONE with a new generation. -/
  | pairAssume (ring : Nat)
  /-- PAIR_PROMOTE (R309): Command accepted only from ring 13 that latches condition 2 of promotion. -/
  | pairPromote (ring : Nat)
  /-- PAIR_SET_LAG (R303): Command that sets async_lag. -/
  | pairSetLag (ring : Nat)
  /-- PAIR_CLEAR_RECOVERY (R314): Command that clears the recovery flag. -/
  | pairClearRecovery (ring : Nat)
  /-- PAIR_STATUS (R318): Command that returns the pair status. -/
  | pairStatus (ring : Nat)
  /-- EVT_SET_SOURCE (R454): Command that writes an event source's configuration word and vector address. -/
  | evtSetSource (ring : Nat)
  /-- EVT_READ_SOURCE (R401): Command that returns an event source's configuration, state, vector and stamp. -/
  | evtReadSource (ring : Nat)
  /-- EVT_TRIGGER (R402): Command that asserts software source 1536 + n. -/
  | evtTrigger (ring : Nat)
  /-- CTR_SET_SELECT (R522): Command that sets a programmable counter's event select and zeroes it. -/
  | ctrSetSelect (ring : Nat)
  /-- CTR_SNAPSHOT (R527): Command that takes a snapshot of all counter blocks at its boundary. -/
  | ctrSnapshot (ring : Nat)
  /-- CTR_READ (R403): Command that returns a counter block, live or snapshot. -/
  | ctrRead (ring : Nat)
  /-- STAT_READ (R530): Command that returns a plot's or port's season statistics, ledger or live. -/
  | statRead (ring : Nat)
  /-- SLOT_SET (R495): Command that writes a slot channel's settings to the power die. -/
  | slotSet (ring : Nat)
  /-- SLOT_ON (R519): Command that starts the ramp of an OFF slot channel. -/
  | slotOn (ring : Nat)
  /-- SLOT_OFF (R519): Command that switches a slot channel off. -/
  | slotOff (ring : Nat)
  /-- SLOT_CLEAR_LATCH (R405): Command that clears a channel's latch-off and retry count. -/
  | slotClearLatch (ring : Nat)
  /-- SLOT_READ (R404): Command that returns a channel's settings. -/
  | slotRead (ring : Nat)
  /-- SLOT_STATUS (R404): Command that returns a channel's state and telemetry. -/
  | slotStatus (ring : Nat)
  /-- FEED_SET (R509): Command that sets a feed's under-voltage threshold and the dead time. -/
  | feedSet (ring : Nat)
  /-- FEED_STATUS (R404): Command that returns feed selection and telemetry. -/
  | feedStatus (ring : Nat)
  /-- WEAR_READ (R407): Command that returns one monitor's prediction or a lane fault record. -/
  | wearRead (ring : Nat)
  /-- WEAR_SUMMARY (R556): Command that returns the device wear verdict. -/
  | wearSummary (ring : Nat)
  /-- LEDGER_READ (R406): Command that returns fault ledger entries. -/
  | ledgerRead (ring : Nat)
  /-- LEDGER_STATUS (R406): Command that returns ledger counts and the next index. -/
  | ledgerStatus (ring : Nat)
  /-- HEALTH_BIST (R557): Command, in PROBE, that runs SRAM BIST on the named arrays. -/
  | healthBist (ring : Nat)
  /-- HEALTH_VMIN (R557): Command, in PROBE, that lowers a supply until a check fails and reports the margin. -/
  | healthVmin (ring : Nat)
  /-- COUNTERSIGN (R371): Command that countersigns an outstanding proposal with its digest. -/
  | countersign (ring : Nat)
  /-- CS_WITHDRAW (R373): Command that withdraws an uncountersigned proposal. -/
  | csWithdraw (ring : Nat)
  /-- CS_LIST (R409): Command that lists the outstanding proposals. -/
  | csList (ring : Nat)
  /-- CS_SET_WINDOW (R373): Guarded command that sets the countersign window for later proposals. -/
  | csSetWindow (ring : Nat)
  /-- CS_SET_AUTHORITY (R373): Guarded command that replaces the authority table and writes it to the wear book. -/
  | csSetAuthority (ring : Nat)
  /-- TIME_SET_EPOCH (R44): Command that loads a new almanac value at the next tick boundary. -/
  | timeSetEpoch (ring : Nat)
  /-- TIME_SET_SEASON (R38): Command that changes the season exponent at the next season boundary. -/
  | timeSetSeason (ring : Nat)
  /-- TIME_SET_ROOT (R59): Command that names the cascade time root. -/
  | timeSetRoot (ring : Nat)
  /-- TIME_READ (R410): Command that returns almanac status, offset and season start. -/
  | timeRead (ring : Nat)
  /-- TRACE_SET_FILTER (R411): Command that sets a trace filter's point, match and mask. -/
  | traceSetFilter (ring : Nat)
  /-- TRACE_START (R535): Command that resets the trace index and starts capture. -/
  | traceStart (ring : Nat)
  /-- TRACE_STOP (R535): Command that ends trace capture and returns the captured count. -/
  | traceStop (ring : Nat)
  /-- TRACE_READ (R411): Command that returns trace entries after capture has stopped. -/
  | traceRead (ring : Nat)
  /-- PROPOSAL_COMMIT (R372): At its tick boundary a countersigned proposal runs its checks and executes, with receipts to both rings and a COMMIT ledger entry. -/
  | proposalCommit (n : Nat)
  /-- PROPOSAL_EXPIRY (R370): An uncountersigned proposal's window count reaches 0 and it expires with COUNTERSIGN_EXPIRED. -/
  | proposalExpiry (n : Nat)
  /-- RING_CMD_TAIL_WRITE (R353): A producer advances a ring's command tail, or the write is ignored with overrun; during DORMANT a ring 13 write wakes the device. -/
  | ringCmdTailWrite (ring : Nat) (value : BitVec 32)
  /-- RING_RCPT_HEAD_WRITE (R353): A consumer advances a ring's receipt head, or the write is ignored with overrun. -/
  | ringRcptHeadWrite (ring : Nat) (value : BitVec 32)
  /-- RECEIPT_WRITE_DEFERRED (R359): A final receipt waiting inside the Teller is written once receipt space frees. -/
  | receiptWriteDeferred (ring : Nat)
  /-- COMMAND_FORWARD (R360): A command with fwd = 1 is sent on VC0 to the partner's ring 14 instead of running locally. -/
  | commandForward (ring : Nat)
  /-- FORWARD_TIMEOUT (R360): No first receipt of a forwarded command arrives within 64 ticks and TIMEOUT is written. -/
  | forwardTimeout (ring : Nat) (tag : BitVec 32)
  /-- MGMT_RECORD (R266): A MGMT record on VC0 arrives and is delivered to the Teller, ring 14 or routed on, or discarded if malformed. -/
  | mgmtRecord (station : Nat) (rec : MgmtRec)
  /-- COUNTERSIGN_PORT_WRITE (R367): An I3C private write to the countersign port writes ring 13 slots, registers or the parameter buffer. -/
  | countersignPortWrite (offset : BitVec 16) (data : List Byte)
  /-- TICK_BOUNDARY (R571): The almanac reaches a multiple of 1,024 and beat 0 takes effect in its three phases. -/
  | tickBoundary
  /-- SEASON_CLOSE (R39): At a season boundary statistics are latched, a snapshot taken and season-bound work started. -/
  | seasonClose
  /-- QOS_REPLENISH (R191): In beat p % 64 of each tick a plot's balances are refilled and held requests released. -/
  | qosReplenish (plot : Nat)
  /-- ALMANAC_CORRECTION (R55): In the beat after a tick boundary the follower slews, steps or holds its almanac by the measured offset. -/
  | almanacCorrection
  /-- SYNC_HOLDOVER (R56): After 4 ticks with no exchange an IN_SYNC follower enters HOLDOVER. -/
  | syncHoldover
  /-- SYNC_FREE (R56): After 64 ticks with no exchange in HOLDOVER the device enters FREE. -/
  | syncFree
  /-- MEMRD (R107): A host MemRd is translated, charged and admitted at its home slice as RD_S, RD_A or RD_NC. -/
  | memrd (port : Nat) (hpa : BitVec 64) (mf : MetaField) (mv : MetaValue) (snpNoOp : Bool)
  /-- MEMRDDATA (R106): A host MemRdData is admitted at its home slice as RD_S. -/
  | memrddata (port : Nat) (hpa : BitVec 64) (snpNoOp : Bool)
  /-- MEMINV (R107): A host MemInv or MemInvNT is admitted as INV_A, CLN_I or CLN_S. -/
  | meminv (port : Nat) (hpa : BitVec 64) (mf : MetaField) (mv : MetaValue) (snpNoOp : Bool) (nt : Bool)
  /-- MEMWR (R117): A MemWr reaches its home slice as a write-back from the owner, absorbed dirty data or WR_NC. -/
  | memwr (port : Nat) (hpa : BitVec 64) (mf : MetaField) (mv : MetaValue) (snpNoOp : Bool) (data : Line) (poison : Bool)
  /-- MEMWRPTL (R109): A MemWrPtl is merged over the line's data and written as a write-back or WR_NC. -/
  | memwrptl (port : Nat) (hpa : BitVec 64) (mf : MetaField) (mv : MetaValue) (snpNoOp : Bool) (data : Line) (mask : BitVec 64) (poison : Bool)
  /-- MEMSPECRD (R106): A host MemSpecRd is discarded without a response. -/
  | memspecrd (port : Nat) (hpa : BitVec 64)
  /-- BICONFLICT (R118): A host BIConflict is answered with BIConflictAck ordered behind any earlier grant. -/
  | biconflict (port : Nat) (hpa : BitVec 64)
  /-- BIRSPI (R110): A BIRspI is matched to its snoop and, when all responses are in, the transaction grants, retags or closes. -/
  | birspi (port : Nat) (hpa : BitVec 64)
  /-- BIRSPS (R110): A BIRspS is matched to its snoop; the agent stays a sharer. -/
  | birsps (port : Nat) (hpa : BitVec 64)
  /-- BIRSPE (R110): A BIRspE is matched to its snoop, counted as a protocol error where it does not fit. -/
  | birspe (port : Nat) (hpa : BitVec 64)
  /-- DEVICE_MEMDATA (R109): A memory device's read data returns and the home fill grants, merges or allocates the line. -/
  | deviceMemdata (port : Nat) (head : RspHead) (dpa : BitVec 64) (data : Line) (poison : Bool)
  /-- DEVICE_WRITE_CMP (R120): A memory device completes a write and the write-buffer line is freed or a vault write-back ends. -/
  | deviceWriteCmp (port : Nat) (head : RspHead) (dpa : BitVec 64)
  /-- ATOMICOP (R150): A PCIe AtomicOp to the aperture reaches its home as ATOM and executes by park or pass. -/
  | atomicop (port : Nat) (vppb : Nat) (offset : BitVec 64) (op : AtomOp) (size : Nat) (a : BitVec 128) (b : BitVec 128)
  /-- APERTURE_READ (R150): A memory read to the atomic aperture is handled as RD_NC. -/
  | apertureRead (port : Nat) (vppb : Nat) (offset : BitVec 64)
  /-- APERTURE_WRITE (R150): A memory write to the atomic aperture is handled as WR_NC. -/
  | apertureWrite (port : Nat) (vppb : Nat) (offset : BitVec 64) (data : Line) (mask : BitVec 64)
  /-- TAIL_STATUS (R180): The tail status of an ingress flit arrives 16 cycles after it and a bad status removes every cell of the flit. -/
  | tailStatus (station : Nat) (flitTag : BitVec 12) (good : Bool)
  /-- CELL_MATCH (R173): In each beat the matcher pairs crossbar inputs and outputs in three rounds and cells traverse. -/
  | cellMatch
  /-- OVERFLOW_READMIT (R123): When a way of a wholly pinned set unpins, the oldest queued request for it is re-admitted. -/
  | overflowReadmit (slice : Nat)
  /-- SNOOP_TIMEOUT (R125): A snoop has no response within the snoop timeout, the agent is lost and its link taken down. -/
  | snoopTimeout (slice : Nat) (txn : Nat) (agent : Nat)
  /-- UPSTREAM_LINK_DOWN (R125): An upstream link leaves L0, its agent is lost and open snoops complete as lost. -/
  | upstreamLinkDown (port : Nat)
  /-- LOSS_SCAN_START (R127): At the first tick boundary after a loss each slice starts a scan resolving entries of the lost agent. -/
  | lossScanStart (agent : Nat)
  /-- LOSS_SCAN_COMPLETE (R128): A slice finishes its loss scan and raises its scan-complete event; the agent is served again when all finish. -/
  | lossScanComplete (slice : Nat) (agent : Nat)
  /-- UPSTREAM_LINK_RETURN (R577): A held upstream port leaves Detect once the loss scans end and trains again. -/
  | upstreamLinkReturn (port : Nat)
  /-- RETIREMENT_PASS_START (R572): At the first tick boundary after an agent ID retires, every slice starts a directory pass clearing its records. -/
  | retirementPassStart
  /-- RETIREMENT_PASS_END (R572): A full pass ends on every slice and the retiring agent IDs become free. -/
  | retirementPassEnd
  /-- WRITE_TIMEOUT (R147): A memory write has no Cmp within the write timeout and the attempt fails. -/
  | writeTimeout (slice : Nat) (pos : Nat)
  /-- WRITE_RETRY (R147): At the first tick boundary after a failed attempt the write is retried with the merged image. -/
  | writeRetry (slice : Nat) (pos : Nat)
  /-- POISON_WRITE (R148): After the last retry fails, the line is written once with poison if the port is in L0. -/
  | poisonWrite (slice : Nat) (pos : Nat)
  /-- LINE_RELEASE (R148): The release transaction reaches the head of its row, invalidates holders, drops the vault line and frees the buffer line. -/
  | lineRelease (slice : Nat) (pos : Nat)
  /-- RIPENER_PASS (R142): The ripener finds dirty lines ripe and starts their write-backs when credits are free. -/
  | ripenerPass (bank : Nat)
  /-- VAULT_FLUSH_COMPLETE (R145): A flush scan has ended and every started write-back has completed or failed; the final receipt is written. -/
  | vaultFlushComplete (job : Nat)
  /-- POLICY_SCAN_COMPLETE (R146): The policy scan of every bank finishes and BED_SET_POLICY's final receipt is written. -/
  | policyScanComplete (bed : Nat)
  /-- DOWNSTREAM_LINK_DOWN (R224): A downstream link leaves L0, open reads are poisoned, buffered writes lost and its extents failed. -/
  | downstreamLinkDown (port : Nat)
  /-- EXTENT_SCAN_START (R225): At the first tick boundary after a downstream loss an extent-table scan fails every entry naming the port. -/
  | extentScanStart (port : Nat)
  /-- EXTENT_SCAN_COMPLETE (R225): The extent-table scan after a downstream loss ends. -/
  | extentScanComplete (port : Nat)
  /-- DEVICE_ERROR_REPORT (R227): A memory device reports viral, ERR_FATAL, ERR_NONFATAL or an LD reset and open writes it names fail. -/
  | deviceErrorReport (port : Nat) (ld : Nat) (report : DeviceReport)
  /-- DEVICE_VIRAL (R548): Viral from a downstream device fails its writes and takes the link down, or is forwarded for a bound LD. -/
  | deviceViral (port : Nat) (ld : Nat)
  /-- HOST_VIRAL (R548): Viral from a host takes that host's link down and its agent is lost. -/
  | hostViral (port : Nat)
  /-- PORT_DISCOVERY (R212): A downstream port first reaches L0 and the station reads its partner's capabilities and programs its decoder. -/
  | portDiscovery (port : Nat) (found : Discovery)
  /-- CXL128_ATTEMPT (R202): Within one tick of its conditions holding a CXL port sets Target Link Speed to 128 GT/s and enters Recovery. -/
  | cxl128Attempt (port : Nat)
  /-- CXL128_FAILED (R203): A link returns to L0 below 128 GT/s and cxl128_failed is set. -/
  | cxl128Failed (port : Nat) (rate : BitVec 3)
  /-- YALKEL_DVSEC_WRITE (R200): Host software writes partner_cxl128 in the Yalkel DVSEC. -/
  | yalkelDvsecWrite (port : Nat) (value : BitVec 32)
  /-- HDM_DECODER_COMMIT (R79): A host commits an HDM decoder; unsupported ways set Commit Error and overlaps raise the port event. -/
  | hdmDecoderCommit (port : Nat) (vppb : Nat) (index : Nat) (base : BitVec 64) (size : BitVec 64) (ways : Nat) (gran : Nat) (dpaBase : BitVec 64) (position : Nat)
  /-- CONFIG_REQUEST_RETRY (R220): In SPROUT an upstream port answers a Configuration Request with Retry Status. -/
  | configRequestRetry (port : Nat)
  /-- HOST_CXL_RESET (R68): A host CXL Reset of a synthesised device enters ring 15 as PLOT_RESET. -/
  | hostCxlReset (port : Nat) (plot : Nat) (clear : Bool)
  /-- IDE_FAILURE (R219): An IDE MAC check or key-set fault takes the link down and logs IDE_FAILURE. -/
  | ideFailure (port : Nat)
  /-- LANE_MARGINING_REQUEST (R254): A host Lane Margining request takes the margin sampler and aborts any device scan. -/
  | laneMarginingRequest (lane : Nat) (active : Bool)
  /-- LOOPBACK_REQUEST (R251): A partner asks a CXL or PCIe port to enter Loopback and it follows on the far-end path. -/
  | loopbackRequest (port : Nat)
  /-- IDENTIFY_MEMORY_DEVICE (R83): Mailbox command on a synthesised device returning its identity. -/
  | identifyMemoryDevice (plot : Nat)
  /-- GET_DYNAMIC_CAPACITY_CONFIGURATION (R83): Mailbox command returning the dynamic-capacity regions. -/
  | getDynamicCapacityConfiguration (plot : Nat)
  /-- GET_DYNAMIC_CAPACITY_EXTENT_LIST (R84): Mailbox command returning the accepted stripe sets. -/
  | getDynamicCapacityExtentList (plot : Nat)
  /-- ADD_DYNAMIC_CAPACITY_RESPONSE (R86): A host's response raises its slot's accepted count over accepted stripe sets. -/
  | addDynamicCapacityResponse (plot : Nat) (slot : Nat) (sets : List Nat)
  /-- RELEASE_DYNAMIC_CAPACITY (R87): A host releases stripe sets, letting a BED_SHRINK proceed. -/
  | releaseDynamicCapacity (plot : Nat) (slot : Nat) (sets : List Nat)
  /-- GET_EVENT_RECORDS (R83): Mailbox command returning the synthesised device's event records. -/
  | getEventRecords (plot : Nat) (log : Nat)
  /-- CLEAR_EVENT_RECORDS (R83): Mailbox command clearing event records. -/
  | clearEventRecords (plot : Nat) (log : Nat) (handles : List Nat)
  /-- GET_SUPPORTED_LOGS (R83): Mailbox command returning the supported logs. -/
  | getSupportedLogs (plot : Nat)
  /-- GET_LOG (R83): Mailbox command returning a log. -/
  | getLog (plot : Nat) (log : Nat)
  /-- GET_POISON_LIST (R546): Mailbox command returning records for ledger entries that poisoned lines of the plot's beds. -/
  | getPoisonList (plot : Nat)
  /-- UNSUPPORTED_MAILBOX_COMMAND (R83): Any other mailbox command returns Unsupported. -/
  | unsupportedMailboxCommand (plot : Nat) (opcode : BitVec 16)
  /-- ADD_CAPACITY_EVENT (R216): A downstream dynamic-capacity device offers capacity and the device accepts it. -/
  | addCapacityEvent (port : Nat) (ld : Nat) (block : Nat) (count : Nat)
  /-- RELEASE_CAPACITY_REQUEST (R216): A downstream DCD asks for capacity back and the device releases only uncovered blocks. -/
  | releaseCapacityRequest (port : Nat) (ld : Nat) (block : Nat) (count : Nat)
  /-- FORCED_RELEASE (R216): A downstream DCD force-releases a block and every covering extent becomes FAILED. -/
  | forcedRelease (port : Nat) (ld : Nat) (block : Nat) (count : Nat)
  /-- BED_SHRINK_TIMEOUT (R87): Hosts have not released the stripe sets within the shrink timeout. -/
  | bedShrinkTimeout (bed : Nat)
  /-- BED_COUNT_CHANGE (R85): At a tick boundary a bed's count rises after grow or falls after shrink, and capacity events are sent. -/
  | bedCountChange (bed : Nat)
  /-- PLOT_DRAIN_COMPLETE (R69): Every response and write-back of a draining plot is in and the plot enters SANITIZING. -/
  | plotDrainComplete (plot : Nat)
  /-- PLOT_DRAIN_TIMEOUT (R70): A drain has not completed within 4,096 ticks and the plot's agent is treated as lost. -/
  | plotDrainTimeout (plot : Nat)
  /-- PLOT_SANITIZE_COMPLETE (R71): Zeroing of a sanitising plot's private beds ends and the plot reaches CONFIGURED or ACTIVE. -/
  | plotSanitizeComplete (plot : Nat)
  /-- PLOT_QUEUED_COMMAND_RUN (R67): A queued PLOT_ENABLE or PLOT_RESET runs at the first boundary after the plot leaves SANITIZING. -/
  | plotQueuedCommandRun (plot : Nat)
  /-- ZEROING_START (R95): A waiting extent takes a free place of the 16 and the Barrow begins writing it with zeros. -/
  | zeroingStart (extent : Nat)
  /-- ZEROING_COMPLETE (R95): An extent's zeroing finishes and it becomes DEFINED or BOUND with zeroed 1. -/
  | zeroingComplete (extent : Nat) (ok : Bool)
  /-- MIG_COPY (R343): The internal queue issues a MIG transaction copying one line of a migrating extent. -/
  | migCopy (extent : Nat)
  /-- EXTENT_FLIP (R344): At a tick boundary a finished migration flips the source entry to the target location. -/
  | extentFlip (extent : Nat)
  /-- SUBMISSION (R324): A 64-byte write to BAR 0 is checked and queued to a slice or refused. -/
  | submission (port : Nat) (offset : Nat) (length : Nat) (deferrable : Bool) (pasid : Option Nat) (data : BitVec 512)
  /-- DESCRIPTOR_START (R326): A slice starts its next queued descriptor after the previous one's completion. -/
  | descriptorStart (slice : Nat)
  /-- COPY (R329): Descriptor opcode that reads src and writes dst. -/
  | copy (slice : Nat)
  /-- FILL (R329): Descriptor opcode that writes dst with zeros or a pattern. -/
  | fill (slice : Nat)
  /-- COMPARE (R329): Descriptor opcode that compares two ranges or a range against a pattern. -/
  | compare (slice : Nat)
  /-- CRC (R329): Descriptor opcode that computes CRC-32C over src. -/
  | crc (slice : Nat)
  /-- ATOMIC (R329): Descriptor opcode that sends class ATOM to the home. -/
  | atomic (slice : Nat)
  /-- DESCRIPTOR_COMPLETE (R332): A descriptor ends, its completion record and interrupt are sent and a fault may be set. -/
  | descriptorComplete (slice : Nat)
  /-- BARROW_HOST_READ_TIMEOUT (R330): A Barrow host read has no completion within 16 ticks and fails. -/
  | barrowHostReadTimeout (slice : Nat)
  /-- SLICE_FROZEN (R334): A FREEZING slice finishes its work and becomes FROZEN with a final receipt. -/
  | sliceFrozen (slice : Nat)
  /-- SLICE_SAVE_COMPLETE (R339): The last write of a save image completes, or fails. -/
  | sliceSaveComplete (slice : Nat) (ok : Bool)
  /-- SLICE_RESTORE_COMPLETE (R340): A restore image has been read and is checked and loaded or refused. -/
  | sliceRestoreComplete (slice : Nat) (ok : Bool)
  /-- SLC_CONTROL_FREEZE_COMPLETE (R337): SLC_CONTROL action that requests SLICE_FREEZE mode COMPLETE. -/
  | slcControlFreezeComplete (port : Nat) (slice : Nat)
  /-- SLC_CONTROL_FREEZE_BOUNDARY (R337): SLC_CONTROL action that requests SLICE_FREEZE mode BOUNDARY. -/
  | slcControlFreezeBoundary (port : Nat) (slice : Nat)
  /-- SLC_CONTROL_THAW (R337): SLC_CONTROL action that requests SLICE_THAW. -/
  | slcControlThaw (port : Nat) (slice : Nat)
  /-- SLC_CONTROL_RESET (R337): SLC_CONTROL action that requests SLICE_RESET. -/
  | slcControlReset (port : Nat) (slice : Nat)
  /-- SLC_CONTROL_CLEAR_FAULT (R337): SLC_CONTROL action that requests SLICE_CLEAR_FAULT. -/
  | slcControlClearFault (port : Nat) (slice : Nat)
  /-- SLC_CONTROL_SAVE (R337): SLC_CONTROL action that requests SLICE_SAVE to SLC_IMAGE. -/
  | slcControlSave (port : Nat) (slice : Nat)
  /-- SLC_CONTROL_RESTORE (R337): SLC_CONTROL action that requests SLICE_RESTORE from SLC_IMAGE. -/
  | slcControlRestore (port : Nat) (slice : Nat)
  /-- SLC_CONTROL_MALFORMED (R337): A write to SLC_CONTROL with no or several action bits sets op_result 0x6. -/
  | slcControlMalformed (port : Nat) (slice : Nat) (value : BitVec 64)
  /-- PAIR_REQUEST (R307): A partner's pair request arrives and the device enters SYNCING or refuses it. -/
  | pairRequest (station : Nat) (serial : BitVec 48) (device : BitVec 4) (generation : BitVec 32) (pinPromote : Bool)
  /-- CONFIG (R305): Mirror record staging a table entry image at the partner. -/
  | config (head : MirrorHead) (table : Nat) (index : Nat) (image : BitVec 1024)
  /-- COMMIT (R302): Mirror record that makes staged CONFIG records due at the partner's next boundary. -/
  | commit (head : MirrorHead) (proposal : BitVec 16) (records : Nat)
  /-- DIR (R301): Mirror record writing a directory entry at the partner. -/
  | dir (head : MirrorHead) (set : Nat) (way : Nat) (entry : BitVec 64)
  /-- VAULT_DIRTY (R301): Mirror record writing a dirty vault line at the partner. -/
  | vaultDirty (head : MirrorHead) (set : Nat) (way : Nat) (tag : BitVec 48) (data : Line)
  /-- VAULT_CLEAN (R301): Mirror record freeing a mirrored vault line. -/
  | vaultClean (head : MirrorHead) (set : Nat) (way : Nat)
  /-- WB_PENDING (R301): Mirror record writing a write-buffer line at the partner. -/
  | wbPending (head : MirrorHead) (pos : Nat) (pl : Nat) (poison : Bool) (data : Line)
  /-- WB_DONE (R301): Mirror record freeing a mirrored write-buffer line. -/
  | wbDone (head : MirrorHead) (pos : Nat)
  /-- ACK (R300): Mirror acknowledgement that releases held-back actions of a unit. -/
  | ack (unit : Nat) (mseq : BitVec 32)
  /-- RESYNC_COMPLETE (R308): Every resync walk has ended and been acknowledged and the partner becomes SHADOW. -/
  | resyncComplete
  /-- MIRROR_LAG_EXCEEDED (R303): A unit's oldest unacknowledged record ages beyond async_lag and ASYNC requests are held. -/
  | mirrorLagExceeded (unit : Nat)
  /-- PROMOTION (R311): A SHADOW whose promotion conditions hold becomes ALONE and serves. -/
  | promotion
  /-- ASYNC_SWEEP_COMPLETE (R312): A slice's sweep of an ASYNC bed has all responses in, and the bed is served again. -/
  | asyncSweepComplete (slice : Nat) (bed : Nat)
  /-- HANDOFF (R313): The switchover handoff record arrives and the partner takes the ACTIVE role. -/
  | handoff (generation : BitVec 32)
  /-- SWITCHOVER_QUIESCED (R313): The ACTIVE's transactions have closed and records are acknowledged, and it sends the handoff and becomes SHADOW. -/
  | switchoverQuiesced
  /-- SWITCHOVER_TIMEOUT (R313): Quiescing for switchover exceeds 4,096 ticks and the switchover is abandoned. -/
  | switchoverTimeout
  /-- PAIR_ALIVE_EDGE (R298): An edge on PAIR_ALIVE_IN marks the partner alive again. -/
  | pairAliveEdge
  /-- PAIR_ALIVE_STOPPED (R298): 32 tick boundaries pass with no PAIR_ALIVE_IN edge. -/
  | pairAliveStopped
  /-- TRUNK_HELLO (R236): A trunk lane receives a hello and accepts it after 8 identical good hellos. -/
  | trunkHello (station : Nat) (lane : Nat) (hello : List (BitVec 10))
  /-- HELLO_TIMEOUT (R262): No acceptance within 4,096 ticks, or a failed check, returns the trunk to DOWN after a wait. -/
  | helloTimeout (station : Nat)
  /-- TRUNK_TRAIN (R263): TRAIN flits arrive during a speed step and the step succeeds after 64 good ones. -/
  | trunkTrain (station : Nat) (lane : Nat) (good : Bool)
  /-- SPEED_STEP_TIMEOUT (R263): A speed step has not succeeded within 256 ticks. -/
  | speedStepTimeout (station : Nat)
  /-- TRUNK_INIT (R283): An INIT flit sets credits, frees replay slots and brings the trunk UP with replays. -/
  | trunkInit (station : Nat) (hdr : LinkHeader) (device : BitVec 4) (serial : BitVec 48) (expLess1 : BitVec 12) (free : List Nat)
  /-- TRUNK_DATA (R274): A DATA flit is accepted, held, discarded as duplicate or treated as stomped. -/
  | trunkData (station : Nat) (hdr : LinkHeader) (check : FlitCheck) (msgs : List TrunkMsg)
  /-- TRUNK_NULL (R274): A NULL or other non-DATA flit's header ack, credits and sequence are applied. -/
  | trunkNull (station : Nat) (hdr : LinkHeader) (flitType : BitVec 4) (check : FlitCheck)
  /-- TRUNK_NAK (R276): A NAK flit makes the transmitter replay the named flits. -/
  | trunkNak (station : Nat) (hdr : LinkHeader) (count : Nat) (records : List NakRecord)
  /-- NAK_RESEND (R275): A hole still open 512 beats after its last NAK is named again. -/
  | nakResend (station : Nat)
  /-- REPLAY_TIMEOUT (R277): Ack has not advanced for 2,048 beats and every unacknowledged flit is replayed. -/
  | replayTimeout (station : Nat)
  /-- TRUNK_AUDIT (R279): An AUDIT flit reconciles credits, counting leaks or starting a retrain. -/
  | trunkAudit (station : Nat) (hdr : LinkHeader) (returned : List (BitVec 16))
  /-- TRUNK_TIME (R287): A TIME flit carries a time request or reply of the almanac exchange. -/
  | trunkTime (station : Nat) (hdr : LinkHeader) (kind : BitVec 8) (t1 : BitVec 64) (t2 : BitVec 64) (t3 : BitVec 64)
  /-- TRUNK_HEARTBEAT (R288): A HEARTBEAT flit carries the partner's identity, mode and pair flags. -/
  | trunkHeartbeat (station : Nat) (hdr : LinkHeader) (device : BitVec 4) (mode : BitVec 8) (serial : BitVec 48) (stamp : BitVec 64) (flags : BitVec 64)
  /-- TRUNK_RETRAIN_REQUEST (R282): A RETRAIN request or acknowledgement flit arrives and the side schedules its pause. -/
  | trunkRetrainRequest (station : Nat) (hdr : LinkHeader) (isAck : Bool) (width : BitVec 8) (rate : BitVec 8) (reason : BitVec 3)
  /-- RETRAIN_PAUSE (R282): At the second tick boundary after the request the side stops sending and its lanes retrain. -/
  | retrainPause (station : Nat)
  /-- RETRAIN_REQUEST_REPEAT (R282): An unacknowledged RETRAIN request is repeated each tick, and after 4 ticks the trunk breaks. -/
  | retrainRequestRepeat (station : Nat)
  /-- RETRAIN_TIMEOUT (R284): A retrain has not reached UP within 31 ticks. -/
  | retrainTimeout (station : Nat)
  /-- TRUNK_SILENCE (R285): 16 ticks pass in UP with no good flit. -/
  | trunkSilence (station : Nat)
  /-- CONTROL_CREDIT_STALL (R280): A control-class flit waits 4 ticks with no credit. -/
  | controlCreditStall (station : Nat) (vc : Nat)
  /-- TRUNK_AUTO_RESTART (R262): With auto_restart, a BROKEN trunk returns to HELLO after 1,024 ticks. -/
  | trunkAutoRestart (station : Nat)
  /-- LANE_IDLE_ENTRY (R243): A trunk transmitter with no flit for its idle count sends the sleep marker and goes idle. -/
  | laneIdleEntry (station : Nat)
  /-- LANE_IDLE_EXIT (R244): A flit is ready after the minimum idle and the transmitter wakes and sends the wake burst. -/
  | laneIdleExit (station : Nat)
  /-- L0S_ENTRY (R242): A non-flit downstream transmitter enters L0s after 6 ticks with nothing to send. -/
  | l0sEntry (port : Nat)
  /-- L0S_EXIT (R242): A transmitter in L0s has something to send and exits with FTS sets. -/
  | l0sExit (port : Nat)
  /-- LANE_LOS (R246): Loss of signal asserts on a lane after its debounce. -/
  | laneLos (lane : Nat)
  /-- LANE_LOL (R247): Loss of lock asserts on a lane's CDR. -/
  | laneLol (lane : Nat)
  /-- EYE_SCAN_COMPLETE (R253): An eye-margin scan ends and its margins are reported. -/
  | eyeScanComplete (lane : Nat) (left : BitVec 6) (right : BitVec 6) (top : BitVec 7) (bottom : BitVec 7)
  /-- SOURCE_ASSERTION (R452): An event source asserts, is stamped and sets pending. -/
  | sourceAssertion (source : Nat)
  /-- EVC_OFFER (R459): The EVC selects the best candidate for a free target and sends OFFER. -/
  | evcOffer (target : Nat)
  /-- WITHDRAW_ACKNOWLEDGED (R460): The die link acknowledges a WITHDRAW and the in-doubt offer is resolved. -/
  | withdrawAcknowledged (target : Nat)
  /-- TAKE (R462): A TAKE arrives and the source is pushed into the target's stack, late if withdrawn. -/
  | take (target : Nat) (source : Nat) (priority : Nat)
  /-- OFFER_TAKEN (R416): A hart takes an offer at an instruction boundary, enters the handler and sends TAKE. -/
  | offerTaken (hart : Nat)
  /-- WITHDRAW_RECEIVED (R417): A WITHDRAW reaches a hart and removes the offer if not yet committed. -/
  | withdrawReceived (hart : Nat) (source : Nat)
  /-- EVC_DONE (R465): A store to EVC_DONE pops the top, or raises a stack-order fault. -/
  | evcDone (hart : Nat) (value : BitVec 32)
  /-- EVC_TGT_RESET (R466): A store to EVC_TGT_RESET clears a target's stack, fault slot and halt. -/
  | evcTgtReset (value : BitVec 32)
  /-- EVC_SWTRIG (R473): A store to EVC_SWTRIG asserts software source 1536 + n. -/
  | evcSwtrig (value : BitVec 32)
  /-- EVC_PEND_CLEAR (R457): A write of 1 to EVC_PEND clears an edge source's pending. -/
  | evcPendClear (word : Nat) (value : BitVec 64)
  /-- DIE_LINK_DOWN (R433): The die link goes down; rings 0–12 pause and offers are withdrawn. -/
  | dieLinkDown
  /-- DIE_LINK_UP (R433): The die link retrains, exchanges INIT, restores credits and replays. -/
  | dieLinkUp (free : List Nat)
  /-- DIE_LINK_NAK (R431): A die-link NAK makes the sender replay from the named flit. -/
  | dieLinkNak (dir : LinkDir) (expected : BitVec 10)
  /-- DIE_LINK_CREDIT (R430): A die-link credit flit returns receive slots of a channel. -/
  | dieLinkCredit (dir : LinkDir) (channel : Nat) (count : Nat)
  /-- DIE_LINK_REPLAY_TIMEOUT (R431): No acknowledgement for 256 beats and the sender replays from its oldest flit. -/
  | dieLinkReplayTimeout (dir : LinkDir)
  /-- DIE_LINK_ACCESS_TIMEOUT (R433): An access waiting on a down die link completes with an access fault after 1,024 ticks. -/
  | dieLinkAccessTimeout (hart : Nat)
  /-- ALMANAC_BROADCAST (R46): A TIME flit reaches the steward and updates its almanac copy. -/
  | almanacBroadcast
  /-- POSTED_IN_WRITE (R429): A POSTED-IN write flit writes steward SRAM. -/
  | postedInWrite
  /-- TELLER_ACCESS (R429): A steward access to ring memory crosses on the TELLER channel. -/
  | tellerAccess (hart : Nat) (store : Bool) (address : BitVec 64) (size : Nat) (data : BitVec 64)
  /-- BRIDGE_LOAD (R439): A hart load to the bridge window is handled as a delayed request. -/
  | bridgeLoad (hart : Nat) (address : BitVec 64) (size : Nat)
  /-- BRIDGE_STORE (R438): A hart store to a memory aperture is sent as a posted MemWr. -/
  | bridgeStore (hart : Nat) (address : BitVec 64) (size : Nat) (data : BitVec 64)
  /-- BRIDGE_CONFIG_WRITE (R438): A configuration write through an aperture is handled as a delayed request. -/
  | bridgeConfigWrite (hart : Nat) (address : BitVec 64) (size : Nat) (data : BitVec 64)
  /-- BRIDGE_LR (R442): An LR takes the function's semaphore and reads as a delayed request. -/
  | bridgeLr (hart : Nat) (address : BitVec 64) (size : Nat)
  /-- BRIDGE_SC (R442): An SC writes and succeeds only under a matching reservation, then releases the semaphore. -/
  | bridgeSc (hart : Nat) (address : BitVec 64) (size : Nat) (data : BitVec 64)
  /-- BRIDGE_AMO (R442): An AMO takes the semaphore, reads, writes the new value and returns the old. -/
  | bridgeAmo (hart : Nat) (address : BitVec 64) (size : Nat) (funct : BitVec 5) (data : BitVec 64)
  /-- BRIDGE_COMPLETION (R439): The result of a delayed request arrives and is held in its slot. -/
  | bridgeCompletion (slot : Nat) (status : CplStatus) (data : BitVec 64)
  /-- DELAYED_READ_DISCARD (R440): A held delayed result is not collected before the discard timer expires. -/
  | delayedReadDiscard (slot : Nat)
  /-- BRIDGE_CPL_TIMEOUT (R440): A bridge request has no completion within cpl_timeout. -/
  | bridgeCplTimeout (slot : Nat)
  /-- SEMAPHORE_TIMEOUT (R443): A semaphore held for 63 ticks is released. -/
  | semaphoreTimeout (semaphore : Nat)
  /-- SEMAPHORE_WAIT_TIMEOUT (R443): An access answered retry for 8 ticks on a held semaphore completes with error 0x02. -/
  | semaphoreWaitTimeout (hart : Nat)
  /-- INBOUND_WRITE (R444): A memory write from a downstream device reaches the bridge and goes to SRAM, raises an MSI event or is discarded. -/
  | inboundWrite (port : Nat) (requester : BitVec 16) (address : BitVec 64) (data : List Byte)
  /-- INBOUND_MESSAGE (R445): An inbound vendor-defined message is routed to a mailbox queue or dropped. -/
  | inboundMessage (port : Nat) (kind : Bool) (vendor : BitVec 16) (id : Byte) (requester : BitVec 16) (header : BitVec 128) (payload : List Byte)
  /-- BRG_TX_SEND (R447): A write to BRG_TX_SEND builds and sends a message TLP. -/
  | brgTxSend (value : BitVec 64)
  /-- QSPI_TRANSFER (R424): Setting go in QSPI_CMD starts a flash transfer. -/
  | qspiTransfer (value : BitVec 32)
  /-- QSPI_TRANSFER_DONE (R424): A QSPI transfer ends and go clears. -/
  | qspiTransferDone (data : List Byte)
  /-- WATCHDOG_KICK (R425): Writing kick restarts the watchdog count. -/
  | watchdogKick
  /-- WATCHDOG_ENABLE (R425): Writing enable starts the watchdog permanently. -/
  | watchdogEnable
  /-- WATCHDOG_EXPIRY (R425): The watchdog count reaches timeout and a steward-only reset follows. -/
  | watchdogExpiry
  /-- STEWARD_BOOT (R419): The steward die leaves reset and the ROM verifies and starts an image. -/
  | stewardBoot (imageA : Option BootImage) (imageB : Option BootImage)
  /-- VAUX_POWER_ON (R475): VAUX rises, the power die starts and every slot gate is held off. -/
  | vauxPowerOn (present : List Nat) (goodA : Bool) (goodB : Bool)
  /-- VAUX_LOSS (R561): VAUX falls below 1.62 V and the power die and always-on domain are held in reset. -/
  | vauxLoss
  /-- PKG_RESET_ASSERT (R520): PKG_RESET_N falls and a cold reset switches off every slot and resets the device. -/
  | pkgResetAssert (present : List Nat)
  /-- FABRIC_RESET_RELEASE (R474): 200 µs after PKG_RESET_N rises the fabric die leaves reset and stage 2 begins. -/
  | fabricResetRelease
  /-- RECORDS_LOADED (R476): The wear book records are loaded and stages 3 and 4 begin. -/
  | recordsLoaded (bad : BitVec 5)
  /-- BIST_RESULT (R475): Directory and vault BIST finishes and at the next boundary SLOT_HOLD falls or the failure holds. -/
  | bistResult (failures : List (Nat × Nat))
  /-- SPROUT_DEADLINE (R477): The 1 s deadline is reached and the device leaves SPROUT by itself. -/
  | sproutDeadline
  /-- FALLOW_FLUSH_COMPLETE (R484): The FALLOW drain and flush end and event 8 is raised. -/
  | fallowFlushComplete
  /-- FALLOW_TIMEOUT (R484): The FALLOW flush has not ended within 65,536 ticks and the receipt is TIMEOUT. -/
  | fallowTimeout
  /-- DORMANT_ENTRY (R485): At the boundary after its receipt the device saves state and power-gates its domains. -/
  | dormantEntry
  /-- DORMANT_QUIET_TIMEOUT (R485): The EVC does not reach quiet within 64 ticks and DORMANT entry is abandoned. -/
  | dormantQuietTimeout
  /-- WAKE (R486): A wake source restarts the device from DORMANT into staged start. -/
  | wake (source : WakeSource)
  /-- RESET_START (R489): At the boundary after DEV_RESET a warm or fabric-only reset takes links down and reruns staged start. -/
  | resetStart
  /-- STEWARD_ONLY_RESET (R487): The steward die alone restarts while the datapath runs. -/
  | stewardOnlyReset
  /-- COUNTER_MODE_SWITCH (R526): At the boundary after a mode or recovery change counters are snapshotted and zeroed. -/
  | counterModeSwitch
  /-- COUNTER_TRIGGER_SNAPSHOT (R527): In the beat after a kind 0xF assertion a snapshot is taken. -/
  | counterTriggerSnapshot
  /-- LEDGER_WRITE (R538): The ledger takes one queued entry from a recording block and writes it. -/
  | ledgerWrite
  /-- LEDGER_PERSIST (R543): A persist-queue entry is written as a summary slot in the wear book. -/
  | ledgerPersist
  /-- LIFE_CLOCK_HOUR (R550): The power die counts an hour of VAUX and writes the life clock. -/
  | lifeClockHour
  /-- THERMAL_READING (R553): Every 1,024 ticks junction temperature is read into the thermal monitors. -/
  | thermalReading (celsius : Int)
  /-- THERMAL_TRIP (R563): A sensor reaches the trip point and THERMTRIP_N falls. -/
  | thermalTrip
  /-- VID_STEP (R559): Every 1,024 ticks the VID output may move by one code. -/
  | vidStep (up : Bool)
  /-- POWER_LINK_REGISTER_WRITE (R514): A register write frame reaches the power die and is applied and answered. -/
  | powerLinkRegisterWrite (index : Byte) (address : Byte) (value : BitVec 24) (crcGood : Bool)
  /-- POWER_LINK_REGISTER_READ (R514): A register read frame reaches the power die and is answered. -/
  | powerLinkRegisterRead (index : Byte) (address : Byte) (crcGood : Bool)
  /-- POWER_LINK_RESPONSE (R514): A response frame reaches the fabric die and updates its copy. -/
  | powerLinkResponse (index : Byte) (address : Byte) (value : BitVec 24) (crcGood : Bool)
  /-- POWER_LINK_TELEMETRY (R511): A telemetry frame delivers a channel, feed or die sample. -/
  | powerLinkTelemetry (slot : Nat) (sampleA : BitVec 12) (sampleB : BitVec 12) (crcGood : Bool)
  /-- POWER_LINK_ALARM (R515): An alarm frame reports a state register change to the fabric die. -/
  | powerLinkAlarm (crcGood : Bool)
  /-- WEAR_BOOK_READ (R31): A wear book read frame is served by the power die. -/
  | wearBookRead (address : BitVec 16) (crcGood : Bool)
  /-- WEAR_BOOK_WRITE (R31): A wear book write frame is written to the EEPROM. -/
  | wearBookWrite (address : BitVec 16) (data : List Byte) (crcGood : Bool)
  /-- POWER_LINK_RESEND (R32): A command frame has no response within 4 ticks and is resent, or the link is declared down. -/
  | powerLinkResend
  /-- POWER_LINK_PROBE (R516): While the power link is down a PD_ID read is sent every 1,024 ticks. -/
  | powerLinkProbe
  /-- CH_CTRL_ON (R514): CH_CTRL action that switches a channel on as SLOT_ON. -/
  | chCtrlOn (channel : Nat)
  /-- CH_CTRL_OFF (R514): CH_CTRL action that switches a channel off as SLOT_OFF. -/
  | chCtrlOff (channel : Nat)
  /-- CH_CTRL_CLEAR_LATCH (R514): CH_CTRL action that clears a latch as SLOT_CLEAR_LATCH. -/
  | chCtrlClearLatch (channel : Nat)
  /-- PRESENCE_DETECT (R497): A device's presence appears on an EMPTY channel and debounce starts. -/
  | presenceDetect (channel : Nat)
  /-- DEBOUNCE_COMPLETE (R497): Presence has held for 100 ms and the channel enters DELAY. -/
  | debounceComplete (channel : Nat)
  /-- PRESENCE_BOUNCE (R507): Presence returns within 100 ms and nothing changes, or a due retry starts. -/
  | presenceBounce (channel : Nat)
  /-- PRESENCE_LOST (R507): Presence has been lost for 100 ms and the channel goes EMPTY. -/
  | presenceLost (channel : Nat)
  /-- INSERTION_DELAY_END (R497): The insertion delay ends and the ramp starts when SLOT_HOLD and BROWNOUT are low. -/
  | insertionDelayEnd (channel : Nat)
  /-- RAMP_REACHED (R497): VOUT reaches the feed less 0.5 V and the channel enters QUALIFY. -/
  | rampReached (channel : Nat) (vout : BitVec 12)
  /-- QUALIFY_COMPLETE (R505): The qualification count reaches 10 ms, PG rises and the channel is ON. -/
  | qualifyComplete (channel : Nat)
  /-- FAULT_TIMER_EXPIRY (R500): The fault timer reaches its setting and the channel trips. -/
  | faultTimerExpiry (channel : Nat)
  /-- FAST_TRIP (R501): Shunt voltage exceeds twice the limit and the comparator pulls the gate low. -/
  | fastTrip (channel : Nat) (shunt : Nat)
  /-- RAMP_TIMEOUT (R499): A RAMP lasts beyond its limit and the channel trips. -/
  | rampTimeout (channel : Nat)
  /-- GATE_RISE_TIMEOUT (R503): The gate fails to rise in time and the channel latches with a gate fault. -/
  | gateRiseTimeout (channel : Nat)
  /-- RETRY_INTERVAL_END (R502): A retry interval ends and the channel ramps again. -/
  | retryIntervalEnd (channel : Nat)
  /-- PG_HELD_60S (R497): PG has held for 60 s and retries_left is restored. -/
  | pgHeld60s (channel : Nat)
  /-- STUCK_ON (R504): VOUT rises with the gate low and the branch is opened and the channel latched. -/
  | stuckOn (channel : Nat)
  /-- FEED_BAD (R509): A feed stays below its threshold for 50 µs and becomes bad, switching or browning out. -/
  | feedBad (feed : Feed)
  /-- FEED_GOOD (R509): A feed rises above its threshold plus 0.2 V and becomes good. -/
  | feedGood (feed : Feed)
  /-- FEED_RETURN_TO_A (R510): Feed A has been good for 1 s while B is selected and selection switches back. -/
  | feedReturnToA
  /-- FEED_DEAD_TIME_END (R510): The dead time of a switchover ends and the other feed closes. -/
  | feedDeadTimeEnd
  /-- PERST_RELEASE (R508): 100 ms after PG rises the fabric die deasserts the slot's PERST_N. -/
  | perstRelease (channel : Nat)
  /-- PG_FALL (R508): The fabric die sees a channel's PG fall and drives PERST_N low. -/
  | pgFall (channel : Nat)
  /-- REGISTER_WRITE (R9): A write to a register without behaviour of its own stores its RW and W1C fields. -/
  | registerWrite (writer : RegWriter) (address : BitVec 64) (size : Nat) (value : BitVec 64)
  /-- PASS_THROUGH_TLP (R171): A CXL.io TLP or a request or response of a directly bound LD arrives at a port and is forwarded through the core to another port. -/
  | passThroughTlp (port : Nat) (tlp : Tlp)
  /-- PORT_REACHES_L0 (R226): A port whose link had left L0 trains and reaches L0 again, clearing PORT_STATUS.lost. -/
  | portReachesL0 (port : Nat) (rate : BitVec 3) (width : BitVec 4) (cxl : Bool) (flit : Bool)
  /-- REMOTE_MAP_TIMEOUT (R93): The home does not answer a remote PLOT_MAP_BED within 64 ticks and the mapping is refused with TIMEOUT. -/
  | remoteMapTimeout (plot : Nat) (slot : Nat)
  /-- PAIR_FORM_TIMEOUT (R319): The partner does not answer PAIR_FORM within 64 ticks and the command ends with TIMEOUT. -/
  | pairFormTimeout
  /-- HELLO_WAIT_END (R262): The 1,024-tick wait after a failed or timed-out hello phase ends, and the trunk passes through DOWN to HELLO again. -/
  | helloWaitEnd (station : Nat)
  /-- FURTHER_HELLOS_DONE (R262): The 1,024 further hellos sent after acceptance end, and the trunk enters STEP and begins the speed steps. -/
  | furtherHellosDone (station : Nat)
  /-- RETRAIN_END (R283): The lanes of a retraining trunk finish training, and each side sends INIT. -/
  | retrainEnd (station : Nat) (locked : Nat)
  /-- LOS_DEASSERT (R246): Received amplitude stays above the threshold for the debounce time and a lane's LOS deasserts. -/
  | losDeassert (lane : Nat)
  /-- LOL_DEASSERT (R247): After 4 consecutive windows within 300 ppm a lane's LOL deasserts and it stops passing error symbols. -/
  | lolDeassert (lane : Nat)
  /-- PRBS_LOCK (R252): A PRBS checker finds the next 64 bits match its seed and declares lock. -/
  | prbsLock (lane : Nat)
  /-- PRBS_LOCK_LOST (R252): A locked PRBS checker sees 64 mismatches within 1,024 bits, loses lock and seeds again. -/
  | prbsLockLost (lane : Nat) (errors : Nat)
  /-- DIE_LINK_CRC_ERROR (R431): A die-link receiver gets a flit that fails its CRC, discards it, sends NAK and discards later flits until the expected one arrives. -/
  | dieLinkCrcError (dir : LinkDir)
  /-- DIE_LINK_MALFORMED_FLIT (R432): A die-link flit passes its CRC but names a reserved channel or type or an overlong length, and is taken in sequence, discarded and answered with error 0x03. -/
  | dieLinkMalformedFlit (dir : LinkDir) (hdr : DieHeader)
  /-- BARROW_HOST_COMPLETION (R330): A completion for a Barrow host-memory read, including a save or restore image read, arrives and feeds the running descriptor. -/
  | barrowHostCompletion (slice : Nat) (status : CplStatus) (data : List Byte)
  /-- DYNAMIC_ADDRESS_ASSIGNMENT (R366): The I3C controller assigns the countersign port a dynamic address by SETDASA or ENTDAA. -/
  | dynamicAddressAssignment (address : BitVec 7) (byEntdaa : Bool)
  /-- ALM_NOW_LOW_LOAD (R60): A 32-bit load of ALM_NOW[31:0] latches the high word into ALM_NOW_HI. -/
  | almNowLowLoad
  /-- EXTENT_DEFINE_SCAN_COMPLETE (R78): The 64 Ki-cycle scan of EXTENT_DEFINE ends, the entry is written or refused, and the final receipt follows. -/
  | extentDefineScanComplete (extent : Nat)
  /-- HEALTH_BIST_COMPLETE (R557): A commanded BIST run ends, repairs are added to the monitor and failures logged, and the final receipt is written. -/
  | healthBistComplete (repairs : Nat) (failing : Nat)
  /-- HEALTH_VMIN_COMPLETE (R557): The Vmin search finds a failing check, restores the supply and writes the final receipt with the margin. -/
  | healthVminComplete (vmin : Nat)
  deriving DecidableEq, Repr

end Sys2Proof
end

