-- ==== Sys2Proof/Decode.lean ====
section
/-! DEFINITION. Decoding of the rows that give bits. No row of spec/opcode_table.json gives any: the commands come as
messages, not as words. -/

namespace Sys2Proof

/-- The command that a word spells by the table's bits: none, for the table gives no row bits. -/
def decodeTableWord (_nbits _w : Nat) : Option Instr := none

end Sys2Proof
end

