-- ==== Sys2Proof/Machine/Bits.lean ====
section
/-! DEFINITION. Bit fields, byte order and saturating counters: the helpers every meaning uses. -/

namespace Sys2Proof

/-- The bytes of a bit vector, byte 0 first (little-endian, R7). -/
def bytesOf (n w : Nat) (v : BitVec w) : List Byte :=
  (List.range n).map (fun i => BitVec.ofNat 8 (v.toNat / 256 ^ i))

/-- The number a list of bytes spells, byte 0 first (R7). -/
def natOfBytes : List Byte → Nat
  | [] => 0
  | b :: rest => b.toNat + 256 * natOfBytes rest

/-- Bits `hi..lo` of a word as a number. -/
def bitsOf {w : Nat} (v : BitVec w) (hi lo : Nat) : Nat := (v.toNat / 2 ^ lo) % 2 ^ (hi + 1 - lo)

/-- One bit of a word. -/
def bitOf {w : Nat} (v : BitVec w) (i : Nat) : Bool := v.getLsbD i

/-- Add to a counter of a given width that stops at its largest value. -/
def satAdd {w : Nat} (v : BitVec w) (n : Nat) : BitVec w := BitVec.ofNat w (min (v.toNat + n) (2 ^ w - 1))

/-- 1 for true, 0 for false: a one-bit field. -/
def bit (b : Bool) : Nat := if b then 1 else 0

/-- A field placed at a bit position. -/
def fieldAt (v lo : Nat) : Nat := v * 2 ^ lo

/-- Every byte of a mask of `n` bits that is set, as the list of its bit numbers. -/
def bitsSet {w : Nat} (v : BitVec w) (n : Nat) : List Nat := (List.range n).filter (fun i => v.getLsbD i)

/-- Number of ones of a word. -/
def popCount {w : Nat} (v : BitVec w) : Nat := (bitsSet v w).length

/-- CRC-16 with polynomial 0x1021 and initial value 0xFFFF, most significant bit first (R235). -/
def crc16 (l : List Byte) : BitVec 16 :=
  l.foldl (fun c b => (List.range 8).foldl (fun c i =>
    let top := c.getLsbD 15 != b.getLsbD (7 - i)
    if top then (c <<< 1) ^^^ 0x1021 else c <<< 1) c) 0xFFFF

/-- Change the elements of a list that meet a test. -/
def mapIf {α : Type} (p : α → Bool) (f : α → α) (l : List α) : List α := l.map (fun x => if p x then f x else x)

end Sys2Proof
end

