-- ==== Sys2Proof/Machine/Digest.lean ====
section
/-! DEFINITION. The checksums and digests the spec names: CRC-32C (R329, R549) and SHA-256 (R368). -/

namespace Sys2Proof.Machine

/-- CRC-32C one bit step, reflected form of the polynomial 0x1EDC6F41. -/
def crc32cBit (c : BitVec 32) : BitVec 32 :=
  if c.getLsbD 0 then (c >>> 1) ^^^ 0x82F63B78#32 else c >>> 1

/-- CRC-32C over one byte. -/
def crc32cByte (c : BitVec 32) (b : Byte) : BitVec 32 :=
  let c0 := c ^^^ b.zeroExtend 32
  (List.range 8).foldl (fun x _ => crc32cBit x) c0

/-- CRC-32C over a list of bytes from a seed, with the inversions of the CRC-32C definition. -/
def crc32c (seed : BitVec 32) (bs : List Byte) : BitVec 32 :=
  (bs.foldl crc32cByte (seed ^^^ 0xFFFFFFFF#32)) ^^^ 0xFFFFFFFF#32

/-- The integer root of degree `n` of `x`, found bit by bit from bit `i - 1` down: `r` holds the bits found so far. -/
def rootBits (n x : Nat) : Nat → Nat → Nat
  | 0, r => r
  | i + 1, r => rootBits n x i (if (r + 2 ^ i) ^ n ≤ x then r + 2 ^ i else r)

/-- The first 32 bits behind the binary point of the root of degree `n` of a prime below 512. -/
def rootFraction (n prime : Nat) : BitVec 32 := BitVec.ofNat 32 (rootBits n (prime * 2 ^ (32 * n)) 37 0)

/-- The primes below a number, rising. -/
def primesBelow (m : Nat) : List Nat :=
  (List.range m).filter (fun p => decide (2 ≤ p) && (List.range p).all (fun d => decide (d < 2) || decide (p % d ≠ 0)))

/-- The 64 round constants of SHA-256: the cube roots of the 64 primes up to 311. -/
def shaConstants : List (BitVec 32) := (primesBelow 312).map (rootFraction 3)

/-- The chaining value before the first block of SHA-256, eight words: the square roots of the 8 primes up to 19. -/
def shaStart : List (BitVec 32) := (primesBelow 20).map (rootFraction 2)

/-- Three turned or shifted copies of a word, added without carries. -/
def turned (x : BitVec 32) (i j : Nat) (third : BitVec 32) : BitVec 32 := (x.rotateRight i ^^^ x.rotateRight j) ^^^ third

/-- The message word that follows a window of the last 16, oldest first. -/
def nextWord (window : List (BitVec 32)) : BitVec 32 :=
  let near := window.getD 1 0
  let far := window.getD 14 0
  turned near 7 18 (near >>> 3) + turned far 17 19 (far >>> 10) + window.getD 0 0 + window.getD 9 0

/-- One round over the eight working words, `add` being the sum of its constant and its message word: two new words enter at places 0 and
4, and the others move one place on. -/
def shaRound (add : BitVec 32) : List (BitVec 32) → List (BitVec 32)
  | [v0, v1, v2, v3, v4, v5, v6, v7] =>
    let enter := v7 + add + turned v4 6 11 (v4.rotateRight 25) + (v6 ^^^ (v4 &&& (v5 ^^^ v6)))
    let most := (v0 &&& v1) ||| (v2 &&& (v0 ||| v1))
    [enter + turned v0 2 13 (v0.rotateRight 22) + most, v0, v1, v2, v3 + enter, v4, v5, v6]
  | other => other

/-- The rounds of one block: the window of 16 message words moves on by one word a round. -/
def shaRounds : List (BitVec 32) → List (BitVec 32) → List (BitVec 32) → List (BitVec 32)
  | [], _, v => v
  | k :: ks, window, v => shaRounds ks (window.drop 1 ++ [nextWord window]) (shaRound (k + window.getD 0 0) v)

/-- A number as `n` bytes, most significant first. -/
def bytesBE (n v : Nat) : List Byte := (bytesOf n (8 * n) (BitVec.ofNat (8 * n) v)).reverse

/-- Word `i` of a list of bytes that spells words of four, most significant byte first. -/
def wordBE (bs : List Byte) (i : Nat) : BitVec 32 := BitVec.ofNat 32 (natOfBytes ((bs.drop (4 * i)).take 4).reverse)

/-- The chaining value after `n` blocks of 64 bytes. -/
def shaBlocks : Nat → List Byte → List (BitVec 32) → List (BitVec 32)
  | 0, _, v => v
  | n + 1, bs, v => shaBlocks n (bs.drop 64) (List.zipWith (· + ·) v (shaRounds shaConstants ((List.range 16).map (wordBE bs)) v))

/-- A message filled up to whole blocks: a byte 0x80, zeros, and the length in bits in the last 8 bytes. -/
def shaPadded (m : List Byte) : List Byte := m ++ 0x80#8 :: List.replicate ((119 - m.length % 64) % 64) 0#8 ++ bytesBE 8 (8 * m.length)

/-- The SHA-256 digest of a list of bytes (R368): 32 bytes, byte 0 of the digest first. -/
def sha256 (m : List Byte) : List Byte :=
  (shaBlocks (m.length / 64 + (if m.length % 64 < 56 then 1 else 2)) (shaPadded m) shaStart).flatMap (fun w => bytesBE 4 w.toNat)

end Sys2Proof.Machine
end

