-- ==== Sys2Proof/Config.lean ====
section
/-! DEFINITION. What one device fixes for good, and the free values. -/

namespace Sys2Proof

/-- Free value: what the part itself fixes and the spec gives no number for. -/
opaque Config.serial : BitVec 48

/-- Free value: the serial that the two devices of a pair present (R83, R297, R384): the spec does not say which number it is (log 37). -/
opaque Config.pairSerial : BitVec 48 → BitVec 48

/-- Free value: every value the spec leaves open after an operation, numbered by a counter that the step advances. -/
opaque Config.freeValue : Nat → BitVec 64

/-- Free value: the 512 bits of a line whose content the spec leaves open (the bits of a poisoned line, log 22). -/
opaque Config.freeLine : Nat → BitVec 512

/-- Free value: whether the signature of an image verifies (R421): a function of the image. The spec names ECDSA P-384 with SHA-384,
which the model does not compute (log 29). -/
opaque Config.signatureGood : BootImage → Bool

/-- Free value: the number of spare cells of the SRAM arrays (R552 class 0x03): the spec gives none (log 46). -/
opaque Config.spares : Nat

/-- Free value: the fused target code of VID (R559): 0 to 10. -/
opaque Config.vidTarget : Fin 11

/-- Free value: the measured lane deskew of a port in beats (R54, R287): the spec gives no way to read it (log 57). -/
opaque Config.deskew : Nat → Nat

/-- Free value: the bytes of the steward die's boot ROM (R418, R419): the spec does not give its code (log 61). -/
opaque Config.bootRom : Nat → Byte

/-- Free value: the transmit preset that a trunk lane asks of its partner in its hellos, 0 to 10, or 11 for none (R235, log 87). -/
opaque Config.askPreset : Nat → Fin 12

/-- Free value: where a capability lies in a function's configuration space (log 83). -/
opaque Config.capOffset : Nat → Nat

/-- Free value: what a register of a function's configuration space reads where the spec does not give it (log 83). -/
opaque Config.configWord : Nat → Nat → BitVec 32

/-- Free value: the number of each record type of a MGMT record (R266): no chapter gives them (log 119). -/
opaque Config.recordType : Nat → BitVec 16

/-- The device revision of R384: 0xA0. -/
def Config.revision : Nat := 0xA0

end Sys2Proof
end

