-- ==== Sys2Proof/Machine/Parts/Barrow.lean ====
section
/-! DEFINITION. The Barrow data mover of 11_barrow: slices, PASID table, descriptors. -/

namespace Sys2Proof.Machine

/-- Slice states (R334, R337). -/
inductive SliceState where
  | unbound
  | running
  | freezing
  | frozen
  deriving DecidableEq, Repr

/-- Where a descriptor of a slice that has been unbound still belongs (R334). -/
structure SliceRoute where
  port : Nat := 0                   -- R330: the plot's upstream port
  plot : Nat := 0                   -- R322: the plot
  pasid : Option Nat := none        -- R322, R330: the PASID of its host requests
  vector : Nat := 0                 -- R322: its MSI-X vector
  deriving DecidableEq, Repr

/-- The descriptor that runs (R326, R329). -/
structure Running where
  desc : BitVec 512 := 0            -- R327: the descriptor; 512
  done : Nat := 0                   -- R332: bytes of the longest prefix completed
  issued : Nat := 0                 -- R331: bytes whose requests are issued
  opened : Nat := 0                 -- R334: requests issued and not complete
  status : BitVec 8 := 0            -- R332: status, 0 while it runs; 8
  result : BitVec 128 := 0          -- R332: result; 128
  crc : BitVec 32 := 0              -- R329: CRC register; 32
  srcBuf : List Byte := []          -- R329: source bytes read for the current chunk
  dstBuf : List Byte := []          -- R329: destination bytes read for the current chunk
  phase : Nat := 0                  -- what the current chunk waits for: 0 nothing, 1 source, 2 destination, 3 write
  hostTick : Option Nat := none     -- R330: tick count of the host read that waits
  ended : Bool := false             -- the operation has ended, the record is due; 1
  stamp : BitVec 64 := 0            -- R332: almanac beat in which it ended; 64
  abort : Bool := false             -- R334: aborted, stops at its next line boundary; 1
  abortFault : Bool := false        -- R333: the abort comes from a plot drain; 1
  after : Option SliceRoute := none -- R334: its slice has been unbound: where its record goes once its open requests are complete
  deriving DecidableEq, Repr

/-- A save or restore that runs (R339, R340). -/
structure ImageJob where
  save : Bool := true               -- save, else restore; 1
  byBar : Bool := false             -- asked through SLC_CONTROL; 1
  address : BitVec 64 := 0          -- host address; 64
  usePasid : Bool := false          -- with dma_pasid; 1
  image : List Byte := []           -- the bytes written or read so far
  since : Nat := 0                  -- R330: tick count of the read that waits
  deriving DecidableEq, Repr

/-- One slice (R322 to R337). -/
structure BSlice where
  state : SliceState := .unbound    -- R337 state; 3; R322 bound: it is not UNBOUND
  plot : BitVec 9 := 0              -- R322, R337 plot; 9
  vector : BitVec 6 := 0            -- R322 vector; 6
  dmaPasid : BitVec 20 := 0         -- R322 dma_pasid; 20
  pasidEn : Bool := false           -- R322 pasid_en; 1
  queue : List (BitVec 512) := []   -- R326: queued descriptors, oldest first, at most 32
  running : Option Running := none  -- R326: the running descriptor
  lastSeq : BitVec 16 := 0          -- R325, R337 last_seq; 16
  seqValid : Bool := false          -- R325, R337 seq_valid; 1
  lastStatus : BitVec 8 := 0        -- R337 last_status; 8
  fault : Bool := false             -- R333, R337 fault; 1
  opResult : BitVec 4 := 0          -- R337 op_result; 4
  image : BitVec 64 := 0            -- R337 SLC_IMAGE; 64
  duplicates : BitVec 64 := 0       -- R338 duplicates counter; 64; R337 shows 16 bits of it
  refused : BitVec 64 := 0          -- R338 refused counter; 64; R337 shows 16 bits of it
  accepted : BitVec 64 := 0         -- R338 accepted counter; 64; R337 shows 32 bits of it
  completed : BitVec 64 := 0        -- R338 completed counter; 64
  faulted : BitVec 64 := 0          -- R338 faulted counter; 64
  lastRecord : BitVec 256 := 0      -- R338 last_record; 256
  pendingBar : Option (BitVec 8) := none  -- R334: a BAR 2 action that waits for its boundary, as SLC_CONTROL
  freezeAll : Bool := false         -- R334: FREEZING in mode COMPLETE, else BOUNDARY; 1
  freezeBar : Bool := false         -- R337: the freeze was asked through SLC_CONTROL; 1
  runNo : Nat := 0                  -- MODEL: descriptors started, by which an answer finds its descriptor
  job : Option ImageJob := none     -- R339, R340: the save or restore that runs
  deriving DecidableEq, Repr

/-- One PASID table entry (R323). -/
structure Pasid where
  valid : Bool := false             -- R323 valid; 1
  noPasid : Bool := false           -- R323 no_pasid; 1
  port : BitVec 7 := 0              -- R323 port; 7
  pasid : BitVec 20 := 0            -- R323 pasid; 20
  slice : BitVec 9 := 0             -- R323 slice; 9
  deriving DecidableEq, Repr

/-- The Barrow. -/
structure Barrow where
  slices : Tab BSlice := []         -- R322: 512 slices
  pasids : Tab Pasid := []          -- R323: 4,096 PASID entries
  turn : Nat := 0                   -- R331: slice served last
  turnBeat : Nat := 0               -- R331: 1 + the model beat whose turns are counted
  lines : Nat := 0                  -- R331: line requests issued in that beat, at most 2
  tlps : Nat := 0                   -- R331: TLPs issued in that beat, at most 2
  tlpOut : List (Nat × BitVec 2 × Tlp) := []  -- R331, R346: TLPs that wait for a turn, oldest first, each with its port and kind
  ownTurns : Nat := 0               -- R331: turns of the slices since the internal queue's last one
  deriving DecidableEq, Repr

end Sys2Proof.Machine
end

