-- ==== Sys2Proof/Machine/Parts/Counters.lean ====
section
/-! DEFINITION. The counter blocks, season statistics and trace of 18_counters_and_seasons. -/

namespace Sys2Proof.Machine

/-- One trace filter (R411, R532, R534). -/
structure TraceFilter where
  point : BitVec 8 := 0     -- R411: point code; 8
  enable : Bool := false    -- R411: enable; 1
  match' : BitVec 160 := 0  -- R534: match over bytes 0-19; 160
  mask : BitVec 160 := 0    -- R534: mask over bytes 0-19; 160
  deriving DecidableEq, Repr

/-- Counters, statistics and trace. The table indices: counter `8 * block + counter`; plot statistic
`32 * plot + j`; port statistic `16384 + 16 * port + j`. -/
structure Counters where
  cycleStart : Nat := 0                   -- R521: the model beat at which the cycle counters were last cleared (27 counters of 64)
  value : Tab (BitVec 48) := []           -- R521: programmable counters; 216 of 48
  select : Tab (BitVec 16) := []          -- R522: event selects; 216 of 16
  chained : Bool := true                  -- R525: the counters chain in pairs; 1
  modeDue : Bool := false                 -- R526: a change between saturating and chaining waits for its boundary; 1
  satSeen : Bool := false                 -- R536: a counter has saturated since the latest snapshot; 1
  snapCycle : BitVec 64 := 0              -- R527: the cycle counters of the snapshot copy; 64
  snap : Tab (BitVec 48) := []            -- R527: the programmable counters of the snapshot copy; 216 of 48
  snapBeat : Option Nat := none           -- R527: the model beat of the latest snapshot
  trigBeat : Option Nat := none           -- R527: the model beat of an assertion counted under kind 0xF whose snapshot is due
  live0 : Tab (BitVec 64) := []           -- R529: statistic cells 0; 64 each
  live1 : Tab (BitVec 64) := []           -- R529: statistic cells 1; 64 each
  parity : Bool := false                  -- R529: the live cell; 1
  statSat : Bool := false                 -- R536: a statistic has saturated in the live season; 1
  ledgerStart : BitVec 64 := 0            -- R530: start stamp of the season in the ledger; 64
  ledgerShort : Bool := false             -- R530: the ledger's season is marked short; 1
  ledgerSpanning : Bool := false          -- R530: the ledger's season is marked spanning; 1
  filters : Tab TraceFilter := []         -- R532: 16 trace filters
  trace : Tab (BitVec 256) := []          -- R532, R533: 262,144 trace entries of 256
  traceIndex : BitVec 18 := 0             -- R535: next trace index; 18
  captured : BitVec 32 := 0               -- R535: entries captured; 32
  capturing : Bool := false               -- R535: capture runs; 1
  stopWhenFull : Bool := false            -- R535: stop when full; 1
  capBeat : Nat := 0                      -- MODEL: the model beat whose occurrences capUsed counts (R521)
  capUsed : Tab Nat := []                 -- R521: occurrences that each programmable counter has taken in that beat, at most 16 in a cycle
  traceOpen : Bool := false               -- R411: a capture has started and TRACE_STOP has not taken effect since; 1
  traceDropped : Bool := false            -- R533, R534: an entry was dropped since the last entry written; 1
  traceBeat : Nat := 0                    -- R534: the model beat of the entries counted in traceInBeat
  traceInBeat : Nat := 0                  -- R534: entries accepted in that beat, at most 8
  deriving DecidableEq, Repr

end Sys2Proof.Machine
end

