-- ==== Sys2Proof/Machine/Parts/Dev.lean ====
section
/-! DEFINITION. Staged start, operating modes and reset scopes of 16_start_and_modes, and the device's own pins. -/

namespace Sys2Proof.Machine

/-- The operating modes (R481). -/
inductive Mode where
  | sprout
  | grow
  | shadow
  | fallow
  | dormant
  | probe
  deriving DecidableEq, Repr

/-- The reset scopes that DEV_RESET asks for (R386, R487). -/
inductive Scope where
  | warm
  | fabric
  | steward
  deriving DecidableEq, Repr

/-- A mode transition in progress (R385, R482 to R485): it runs from its command's start to its final receipt. -/
structure Transition where
  target : Mode := .grow      -- R385: the mode the transition enters
  entered : Bool := false     -- R484: the mode has been entered, the work goes on; 1
  started : Nat := 0          -- R484, R485: tick count at which its time limit began
  links : List Nat := []      -- R485 step 2: the ports that DORMANT entry has taken to Disabled
  deriving DecidableEq, Repr

/-- The work that follows an entry to FALLOW, and goes on after a TIMEOUT receipt (R484). -/
structure FallowWork where
  step : Nat := 0             -- R484: 0 waits for open transactions, 1 scans the directory, 2 flushes
  since : Nat := 0            -- R484 step 3: tick count at which the scan began
  job : Nat := 0              -- R484 step 4: the number of its flush
  deriving DecidableEq, Repr

/-- The start, mode and reset state of the device. -/
structure Dev where
  mode : Mode := .sprout                    -- R481, R482
  stage : BitVec 3 := 0                     -- R480 DEV_START.stage; 3
  slotHold : Bool := true                   -- R33, R480 DEV_START.slot_hold; 1
  bistDone : Bool := false                  -- R480 DEV_START.bist_done; 1
  bistFail : Bool := false                  -- R480 DEV_START.bist_fail; 1
  bistWait : Option (List (Nat × Nat)) := none  -- R475: a BIST result that waits for its boundary: (slice or bank, failing cells)
  deadline : Bool := false                  -- R480 DEV_START.deadline; 1
  deadlineDone : Bool := false              -- R477, R478: the deadline of this start has been dealt with; 1
  loadErrors : BitVec 5 := 0                -- R480 DEV_START.load_errors; 5
  lastReset : BitVec 4 := 0                 -- R480 DEV_START.last_reset; 4
  vaux : Bool := false                      -- R475, R491: VAUX is within range; 1
  pkgReset : Bool := true                   -- R474, R487: PKG_RESET_N is held low; 1
  inReset : Bool := true                    -- R474, R475: the fabric die is in reset; 1
  recordsDue : Bool := false                -- R475, R476: the wear book records are still to be loaded; 1
  resetDue : Option Scope := none           -- R386: a reset that begins at the next tick boundary
  resetScope : Option Scope := none         -- R489: the warm or fabric-only reset whose stage 2 runs
  transition : Option Transition := none    -- R385: the transition that runs
  fallow : List FallowWork := []            -- R484: the work of entries to FALLOW that runs, oldest first
  dormantDue : Bool := false                -- R485 step 5: DORMANT is entered at the next boundary; 1
  stageTick : Nat := 0                      -- R475, R477, R486: tick count at which stage 2 began
  wakeStamp : BitVec 64 := 0                -- R48, R486: the stamp of the last wake event; 64
  number : BitVec 4 := 0                    -- R387, R476: fabric device number; 4
  retryStatus : Bool := true                -- R220, R221: UPSTREAM ports answer configuration requests with Retry Status; 1
  weederBudget : Tab (BitVec 7) := []       -- R113, R395: probes per tick of each home slice, reset 8; 7
  snoopTimeout : BitVec 13 := 256           -- R125, R395: the snoop timeout in ticks; 13
  thermalTripped : Bool := false            -- R563: the thermal trip has acted; 1
  sproutDue : Bool := false                 -- R385, R482: a cold reset has ended another mode than SPROUT, which ring 15 is to record; 1
  vid : Nat := 5                            -- R559: the VID code the device drives
  vidTicks : Nat := 0                       -- R559: tick of the last VID step
  healthBist : List Nat := []               -- R406, R557: the arrays that the HEALTH_BISTs that run test, oldest first
  healthVmin : List Nat := []               -- R406, R557: the supplies of the HEALTH_VMINs that run, oldest first
  deriving DecidableEq, Repr

end Sys2Proof.Machine
end

