-- ==== Sys2Proof/Machine/Parts/Evc.lean ====
section
/-! DEFINITION. The event controller of 15_event_controller: sources, targets, offers, stacks and fault records. -/

namespace Sys2Proof.Machine

/-- One event source (R452 to R457, R473). -/
structure EvcSource where
  priority : BitVec 4 := 0    -- R454 EVC_CFG priority; 4
  target : BitVec 2 := 0      -- R454 EVC_CFG target; 2
  edge : Bool := true         -- R454 EVC_CFG kind; 1
  enable : Bool := false      -- R454 EVC_CFG enable; 1
  vec : BitVec 64 := 0        -- R455, R473 EVC_VEC; 64
  stamp : BitVec 64 := 0      -- R456, R473 EVC_STAMP; 64
  pending : Bool := false     -- R457, R473 EVC_PEND: the edge pending bit; 1
  inService : Bool := false   -- R457, R473 EVC_INSVC; 1
  late : Bool := false        -- R462, R473 EVC_LATE; 1
  input : Bool := false       -- R452: the input's level, for a source raised while a condition holds; 1
  setBeat : Nat := 0          -- MODEL: 1 + model beat of the last assertion (R10, log 59)
  lateBeat : Nat := 0         -- MODEL: 1 + model beat in which hardware last set late (R10, log 59)
  deriving DecidableEq, Repr

/-- An offer that is open or in doubt (R460). -/
structure EvcOffer where
  source : Nat := 0           -- R463: the source offered; 11
  priority : Nat := 0         -- R462: the priority the offer carried; 4
  isOpen : Bool := true       -- R460: open, else in doubt; 1
  deriving DecidableEq, Repr

/-- One target (R459 to R466, R473). -/
structure EvcTarget where
  stack : List (Nat × Nat) := []      -- R464, R473 EVC_STACK: (level, source), highest level first; 15 entries
  faultSlot : Bool := false           -- R464: the fault slot holds source 0; 1
  halted : Bool := false              -- R465, R473 EVC_TGT_STATUS.halted; 1
  offer : Option EvcOffer := none     -- R460, R473 EVC_TGT_STATUS offer fields
  faultPending : Bool := false        -- R465: source 0 is raised for this target and waits to be offered; 1
  faultCount : BitVec 16 := 0         -- R473 EVC_FAULT_REC.count; 16
  expected : BitVec 12 := 0           -- R473 EVC_FAULT_REC.expected; 12
  offending : BitVec 11 := 0          -- R473 EVC_FAULT_REC.offending; 11
  second : Bool := false              -- R473 EVC_FAULT_REC.second; 1
  faultStamp : BitVec 64 := 0         -- R473 EVC_FAULT_STAMP; 64
  quietDone : Bool := false           -- R471: a DONE at the empty stack is ignored until the first TAKE; 1
  selBeat : Nat := 0                  -- MODEL: 1 + model beat in which the selection of the next offer started, 0 none (R468)
  deriving DecidableEq, Repr

/-- The event controller. -/
structure Evc where
  sources : Tab EvcSource := []   -- R452, R473: 2,048 sources
  targets : Tab EvcTarget := []   -- R459, R473: 4 targets
  faultVec : BitVec 64 := 0       -- R455, R473 EVC_FAULT_VEC; 64
  offersStopped : Bool := false   -- R472, R473 EVC_STATUS.offers_stopped; 1
  deriving DecidableEq, Repr

end Sys2Proof.Machine
end

