-- ==== Sys2Proof/Machine/Parts/Pool.lean ====
section
/-! DEFINITION. Plots, beds, extents, agents, synthesised devices and zeroing of 03_plots_and_beds, with the
migrations of 11_barrow. -/

namespace Sys2Proof.Machine

/-- Plot states (R63, R66). -/
inductive PlotState where
  | free
  | configured
  | active
  | draining
  | sanitizing
  deriving DecidableEq, Repr

/-- The queued field of a plot (R63, R67). -/
inductive Queued where
  | none
  | enable
  | reset
  | resetClear
  deriving DecidableEq, Repr

/-- One bed slot (R64). -/
structure BedSlot where
  valid : Bool := false         -- R64 valid; 1
  home : BitVec 4 := 0          -- R64 home; 4
  bed : BitVec 12 := 0          -- R64 bed; 12
  span : BitVec 15 := 0         -- R64 span; 15
  accepted : BitVec 15 := 0     -- R64 accepted; 15
  dpaBase : BitVec 17 := 0      -- R64 dpa_base; 17
  remoteCount : Nat := 0        -- R93: positions of a remote bed in use, as its home told; 15
  remoteWays : Nat := 0         -- R93: the ways exponent of a remote bed, as its home told; 3
  remoteShared : Bool := false  -- R84: more than one plot maps a remote bed, as its home told; 1
  toRelease : List Nat := []    -- R87: stripe sets whose release was asked for and not yet answered
  deriving DecidableEq, Repr

/-- The drain of a plot (R69 to R71). -/
structure Drain where
  started : Nat := 0            -- R70: tick count at which the drain began
  step : Nat := 0               -- R69: the step reached: 0 open transactions, 1 scans, 2 flush, 3 done
  since : Nat := 0              -- R69 step 3: tick count at which the scans began
  isReset : Bool := false       -- R66: caused by PLOT_RESET, else by PLOT_DISABLE; 1
  clear : Bool := false         -- R66: PLOT_RESET with clear; 1
  timedOut : Bool := false      -- R70: the drain did not complete in time; 1
  failed : Bool := false        -- R71: an extent's zeroing failed; 1
  remote : List (Nat × Nat) := []  -- R69, R71: remote beds (home, bed) whose home has not answered
  deriving DecidableEq, Repr

/-- The work of a home for a plot of another device that drains or sanitises one of its beds (R69, R71). -/
structure RemoteDrain where
  device : Nat := 0             -- the plot's device
  port : Nat := 0               -- the plot's upstream port
  plot : Nat := 0               -- the plot
  bed : Nat := 0                -- the bed of this home
  step : Nat := 0               -- R69: 0 open transactions, 1 scan, 2 flush; 4 zeroing (R71)
  since : Nat := 0              -- R69 step 3: tick count at which the scan began
  job : Option Nat := none      -- R69 step 4: the flush that runs for it
  failed : Bool := false        -- R71: an extent's zeroing failed; 1
  deriving DecidableEq, Repr

/-- One capacity event record of a synthesised device (R85 to R88). -/
structure CapEvent where
  handle : Nat := 0             -- event record handle
  kind : Nat := 0               -- 0 add, 1 release, 2 forced release (R85, R87)
  slot : Nat := 0               -- bed slot
  set : Nat := 0                -- stripe set
  deriving DecidableEq, Repr

/-- What a mailbox of a synthesised device answered last (R83 to R88, R546), by its content. -/
inductive MailReply where
  | none
  | identity (serial : BitVec 64)                          -- R83: serial number; static capacity 0
  | regions (l : List (Nat × Nat × Nat))                   -- R83: base, length and block size of regions 0 to 7
  | extents (l : List (Nat × Nat × Option (Nat × Nat)))    -- R84: DPA, length, and a shared bed's home and number
  | success
  | records (l : List CapEvent)                            -- R85, R87: outstanding capacity events
  | logs (content : BitVec 64)                             -- R83: content that the spec leaves open
  | poison (dpas : List Nat) (overflow : Bool)             -- R546
  | unsupported                                            -- R83
  deriving DecidableEq, Repr

/-- One plot and its synthesised device (R62, R63, R83). -/
structure Plot where
  state : PlotState := .free        -- R63 state; 3
  queued : Queued := .none          -- R63 queued; 2
  queuedRing : BitVec 4 := 0        -- R63 queued_ring; 4
  queuedTag : BitVec 32 := 0        -- R63 queued_tag; 32
  leftTick : Nat := 0               -- R67: tick count at which the plot last left SANITIZING
  sanitizeOff : Bool := false       -- R63 sanitize_off; 1
  fault : Bool := false             -- R63 fault; 1
  port : BitVec 7 := 0              -- R63 port; 7
  vcsSlot : BitVec 3 := 0           -- R63 vcs_slot; 3
  slots : Tab BedSlot := []         -- R64: 8 bed slots
  drain : Option Drain := none      -- R69: the drain or sanitising that runs
  resetError : Bool := false        -- R68: CXL Reset Error; 1
  events : List CapEvent := []      -- R85, R87: outstanding capacity event records, oldest first
  nextHandle : Nat := 1             -- R83: next event record handle
  mail : MailReply := .none         -- R83: the mailbox's last answer (log 4)
  deriving DecidableEq, Repr

/-- Bed states (R73). -/
inductive BedState where
  | free
  | defined
  | releasing
  deriving DecidableEq, Repr

/-- Vault policies (R73). -/
inductive VaultPolicy where
  | none
  | clean
  | owned
  deriving DecidableEq, Repr

/-- A BED_GROW or BED_SHRINK in progress (R85, R87). -/
structure Resize where
  grow : Bool := true           -- R85 grow, else R87 shrink; 1
  sets : Nat := 0               -- k stripe sets
  force : Bool := false         -- R87 force; 1
  deadline : Nat := 0           -- R87: tick count of the timeout
  waiting : List Nat := []      -- R87: plots that have not answered
  failed : Bool := false        -- R96: a joining extent's zeroing failed; 1
  deriving DecidableEq, Repr

/-- One bed (R73). -/
structure Bed where
  state : BedState := .free         -- R73 state; 4
  mosi : Bool := false              -- R73 protocol: MOSI, else MSI; 1
  vault : VaultPolicy := .none      -- R73 vault; 2
  async : Bool := false             -- R73 mirror: ASYNC, else SYNC; 1
  ways : BitVec 3 := 0              -- R73 ways; 3
  gran : BitVec 3 := 0              -- R73 gran; 3
  ripen : BitVec 10 := 0            -- R73 ripen; 10
  base : BitVec 20 := 0             -- R73 base; 20
  span : BitVec 15 := 0             -- R73 span; 15
  count : BitVec 15 := 0            -- R73 count; 15
  mapCount : BitVec 10 := 0         -- R73 map_count; 10
  sharers : BitVec 64 := 0          -- R73 sharers; 64
  exports : List (BitVec 4) := []   -- R93: devices the bed is exported to
  remote : List (Nat × Nat) := []   -- R93: (device, upstream port) of each remote plot that maps the bed
  resize : Option Resize := none    -- R85, R87: the grow or shrink that runs
  policyScan : List Nat := []       -- R146: home slices whose policy scan has not ended
  policyStart : Nat := 0            -- R135, R146: model beat at which the policy scan started; the scan takes two ticks
  policySets : Nat := 0             -- R135, R146: sets that the policy scan has read in every bank; 13
  releaseFailed : Bool := false     -- R392: a zeroing of the release failed; 1
  deriving DecidableEq, Repr

/-- Extent states (R76). -/
inductive ExtState where
  | free
  | defined
  | bound
  | migrating
  | zeroing
  | failed
  deriving DecidableEq, Repr

/-- A place in a memory device: downstream port, LD-ID and DPA[47:28] (R76). -/
structure Place where
  port : BitVec 7 := 0          -- R76 port, mig_port; 7
  ld : BitVec 4 := 0            -- R76 ld_id, mig_ld_id; 4
  dpaBase : BitVec 20 := 0      -- R76 dpa_base, mig_dpa_base; 20
  deriving DecidableEq, Repr

/-- One extent (R76, R77). -/
structure Extent where
  state : ExtState := .free         -- R76 state; 3
  zeroed : Bool := false            -- R76 zeroed; 1
  place : Place := {}               -- R76 port, ld_id, dpa_base
  bed : BitVec 12 := 0              -- R76 bed; 12
  mig : Place := {}                 -- R76 mig_port, mig_ld_id, mig_dpa_base
  sanitize : Bool := false          -- R71, R77: a BOUND entry that a plot in SANITIZING zeroes; 1
  toBound : Bool := false           -- R77: after ZEROING the entry becomes BOUND, else DEFINED; 1
  leaving : Bool := false           -- R77, R94: a MIGRATING entry that leaves tenancy once its migration has ended; 1
  deriving DecidableEq, Repr

/-- One agent ID (R75, R572). -/
structure Agent where
  valid : Bool := false             -- R75 valid; 1
  device : BitVec 4 := 0            -- R75 device; 4
  retiring : Bool := false          -- R75 retiring; 1
  port : BitVec 7 := 0              -- R75 port; 7
  inPass : Bool := false            -- R572: the running pass began after its retirement; 1
  retireTick : Nat := 0             -- R572: tick count at which it retired
  lost : Bool := false              -- R125, R577: the agent is lost; 1
  lossScan : List Nat := []         -- R127: home slices whose loss scan of the agent has not ended
  lossStart : Nat := 0              -- R127, R131: tick count at which the loss scans began
  lossDue : Bool := false           -- R127: the loss scan begins at the next opportunity; 1
  hardLoss : Bool := false          -- R577: the loss is that of a snoop timeout or viral; 1
  lossBeds : List Nat := []         -- R70: the beds for which the agent is lost, where it is not lost as a whole
  deriving DecidableEq, Repr

/-- A migration (R341 to R345). Index: the source extent. -/
structure Migration where
  target : Nat := 0                 -- R341: the target extent index; 20
  started : Nat := 0                -- MODEL: model beat of the start, by which a MIG transaction finds its migration
  rate : Nat := 0                   -- R341: the rate; 16
  issued : Nat := 0                 -- R343: lines whose MIG transaction has been issued
  copied : Nat := 0                 -- R343: lines copied so far
  rateTick : Nat := 0               -- R341: the tick whose lines are counted
  rateUsed : Nat := 0               -- R341: lines issued in that tick
  cancel : Option Nat := none       -- R345, R347, R571: a cancel stops it at the next tick boundary, after this many of the commands that wait for that boundary
  flipDue : Bool := false           -- R344: it flips at the next tick boundary; 1
  readyTick : Nat := 0              -- R41: the tick count at which the flip became due
  deriving DecidableEq, Repr

/-- A PLOT_MAP_BED that waits for a remote home's answer (R93). -/
structure RemoteMap where
  plot : Nat := 0               -- the plot
  slot : Nat := 0               -- the bed slot
  home : Nat := 0               -- the home device
  bed : Nat := 0                -- the bed
  dpaBase : Nat := 0            -- R64 dpa_base
  port : Nat := 0               -- R93: the plot's upstream port when the home was asked
  sent : Nat := 0               -- R93: tick count of the question
  deriving DecidableEq, Repr

/-- The pool of one device. -/
structure Pool where
  plots : Tab Plot := []            -- R62: 512 plots
  beds : Tab Bed := []              -- R73: 4,096 beds
  extents : Tab Extent := []        -- R76: 1,048,576 extents
  agents : Tab Agent := []          -- R75: 64 agent IDs
  zeroing : Tab Nat := []           -- R95: extents being written, and the lines of each whose zeros have been sent; at most 16
  defining : Tab (Place × Nat) := []  -- R78: extent definitions whose table scan runs, and the tick count at which it began
  migrations : Tab Migration := []  -- R341: migrations by source extent
  retireDue : Bool := false         -- R572: a retirement pass begins at the next tick boundary; 1
  retireScan : Bool := false        -- R572: a retirement pass runs; 1
  retireStart : Nat := 0            -- R572: tick count at which the pass began
  remoteMaps : List RemoteMap := []  -- R93: maps that wait for a remote home
  remoteDrains : List RemoteDrain := []  -- R69, R71: drains of other devices' plots on beds of this home
  deriving DecidableEq, Repr

end Sys2Proof.Machine
end

