-- ==== Sys2Proof/Machine/Parts/Home.lean ====
section
/-! DEFINITION. The home slices of 04_coherence_home and the vault banks of 05_vault_and_atomics. -/

namespace Sys2Proof.Machine

/-- Directory states (R98). -/
inductive DirState where
  | I
  | S
  | M
  | O
  deriving DecidableEq, Repr

/-- Pins of a directory entry (R103). -/
inductive Pin where
  | none
  | opened
  | evicting
  | probing
  deriving DecidableEq, Repr

/-- One directory entry (R103). Index: 16 × set + way. -/
structure DirEntry where
  tag : BitVec 26 := 0            -- R103 tag; 26
  state : DirState := .I          -- R103 state; 2
  bcast : Bool := false           -- R103 bcast; 1
  ptrs : List Nat := []           -- R103 count, ptr0-ptr3: the valid pointers, ptr0 first; 3 + 24
  pin : Pin := .none              -- R103 pin; 2
  flips : BitVec 72 := 0          -- R103 ecc, R575: bits of the stored word that differ from what was written (log 12); 72
  deriving DecidableEq, Repr

/-- Vault tag states (R137). -/
inductive VaultState where
  | invalid
  | clean
  | dirty
  | writing
  deriving DecidableEq, Repr

/-- One vault line and its tag (R137). Index: 16 × set + way. -/
structure VaultLine where
  tag : BitVec 30 := 0            -- R137 tag; 30
  state : VaultState := .invalid  -- R137 state; 2
  parked : Bool := false          -- R137 parked; 1
  age : BitVec 10 := 0            -- R137 age; 10
  poisoned : Bool := false        -- R137 poisoned; 1
  ripe : Bool := false            -- R137 ripe; 1
  redirty : Bool := false         -- R137 redirty; 1
  again : Bool := false           -- R143: its new write-back waits for nothing but a credit; 1
  data : Line := 0                -- R34 vault data; 512
  invOnClean : Bool := false      -- R145: a flush with invalidate sets the line INVALID when its write completes; 1
  tagFlips : BitVec 56 := 0       -- R136, R575: bits of the stored tag and its code that differ from what was written (log 12); 56
  dataFlips : BitVec 576 := 0     -- R136, R575: the same of the eight data words with their codes, word w from bit 72 × w (log 12); 576
  deriving DecidableEq, Repr

/-- Transaction classes of the order point (R106, R151, R343, R533). -/
inductive Cls where
  | rdS
  | rdA
  | invA
  | rdNC
  | wbI
  | wbS
  | wbA
  | wrNC
  | clnI
  | clnS
  | atom
  | mig
  | probe
  | vaultWb
  | sweep
  | release
  deriving DecidableEq, Repr

/-- Who asks (R115): an agent, a Barrow slice, or the home itself. -/
inductive Requester where
  | agent (n : Nat)
  | barrow (slice : Nat)
  | home
  deriving DecidableEq, Repr

/-- Where a transaction stands. -/
inductive Phase where
  | rowed
  | overflow
  | relook
  | ready
  | evicting
  | snooping
  | reading
  | mirrored
  | waitWb
  | copying
  deriving DecidableEq, Repr

/-- One transaction entry (R119, R124). -/
structure Txn where
  cls : Cls := .rdS                       -- R106: class
  req : Requester := .home                -- R115: requester
  device : Nat := 0                       -- R92: the fabric device of the requester
  port : Nat := 0                         -- R35: the requester's upstream port; 7
  plot : Nat := 0                         -- R35: the plot; 9
  bed : Nat := 0                          -- R102: bed; 12
  line : Nat := 0                         -- R101: line offset within the bed; 36
  pl : Nat := 0                           -- R102: pool line number; 42
  hpa : BitVec 64 := 0                    -- the address the response names; 64
  phase : Phase := .rowed                 -- R116, R121-R123: where it stands
  way : Nat := 0                          -- R121: the entry it pins, 16 × set + way
  station : Nat := 0                      -- R119: the station whose credit it holds, 24 the Barrow, 26 the home
  ingress : Nat := 24                     -- R119, R120: the crossbar input that brought it: a station, or the Barrow
  snoopKind : MsgOp := .snpInv            -- R106: the snoop in flight
  waiting : List Nat := []                -- R107: agents whose snoop response is missing
  snooped : Nat := 0                      -- R125: tick count when the snoops were issued
  keep : List Nat := []                   -- R107, R113: agents that keep the line
  gone : List Nat := []                   -- R104, R107: agents that a response showed to hold it no longer
  dirty : Option (Line × Bool) := none    -- R107: dirty data received, and its poison
  lostOwner : Bool := false               -- R126: the M owner was lost; 1
  data : Line := 0                        -- R107: write data; 512
  mask : BitVec 64 := 0                   -- R109: byte enables; 64
  poison : Bool := false                  -- R545: the write carries poison; 1
  op : AtomOp := .fetchAdd                -- R150: atomic
  size : Nat := 0                         -- R150: operand size in bytes
  a : BitVec 128 := 0                     -- R150: first operand; 128
  b : BitVec 128 := 0                     -- R150: second operand; 128
  byteOff : Nat := 0                      -- R150: byte offset of the operand within the line; 6
  park : Bool := false                    -- R155: it executes by park; 1
  arrived : Nat := 0                      -- R528: the model beat of arrival
  order : Nat := 0                        -- R116, R123: arrival order in rows and queues
  answered : Bool := false                -- R107, R117: Cmp has been sent; 1
  lostReq : Bool := false                 -- R128: its requester is lost; 1
  metaV : MetaValue := .I                 -- R106: MetaValue of a write
  io : Bool := false                      -- R150: it came through the atomic aperture; 1
  ownOnly : Bool := false                 -- R69 step 1: a write that is taken from the recorded owner only; 1
  owed : Bool := false                    -- R126: the poison write of a lost line is still to be made; 1
  readFrom : Option Place := none         -- R81: the memory device that its read went to
  targets : List Nat := []                -- R69, R87, R312: agents that a transaction of the home's own work snoops
  lostAt : List Nat := []                 -- R127: lost agents to resolve on its entry when it closes, for a loss scan that met its pin
  retiredAt : List Nat := []              -- R572: retired agents to drop from its entry when it closes
  asLost : Bool := false                  -- R126, R127: the agents it snoops count as lost; 1
  baseSeq : BitVec 32 := 0                -- R299: the slice's mseq when its home stage began; 32
  waitSeq : BitVec 32 := 0                -- R299: the mirror record whose acknowledgement its grant waits for; 32
  outcome : Nat := 0                      -- R82: the row under which an absorbed write was discarded, 0 where it was served
  flit : BitVec 12 := 0                   -- R165: the ingress flit that brought it; 12
  known : Bool := true                    -- R178: that flit's tail status is known good; 1
  cong : Bool := false                    -- R165: the congestion flag of the trunk flit that brought it; 1
  fresh : Bool := true                    -- R115, R116: admitted, its lookup still to come; 1
  readPl : Nat := 0                       -- R109, R122: the pool line of its read; 42
  started : Nat := 0                      -- R343: of a MIG transaction, the model beat at which its migration started
  wasM : Bool := false                    -- R107: its entry was in M when its home stage began; 1
  newO : Bool := false                    -- R112: its own lookup created O; 1
  wasO : Bool := false                    -- R107, R151: its entry was in O when its home stage began; 1
  atomData : Option (Line × Bool × Bool) := none  -- R156, R157, R576: the operand of an atomic that waits for a write credit
  grantValue : Option (Line × Bool) := none  -- R112: the data of a grant that is withheld, and its poison
  deriving DecidableEq, Repr

/-- State of a write-buffer line (R120, R147, R148). -/
inductive WbState where
  | merging
  | waiting
  | sent
  | failed
  | releasing
  deriving DecidableEq, Repr

/-- One write-buffer line (R120). -/
structure WbLine where
  state : WbState := .waiting       -- R147: merging waits for the line's read; waiting for an attempt; sent; failed, retry due; releasing
  bed : Nat := 0                    -- R148: bed; 12
  line : Nat := 0                   -- R148: line offset within the bed; 36
  pl : Nat := 0                     -- R102: pool line number; 42
  data : Line := 0                  -- R120: the line; 512
  mask : BitVec 64 := 0xFFFFFFFFFFFFFFFF  -- R109: byte enables while the line's read is missing; 64
  poisoned : Bool := false          -- R545: poisoned; 1
  place : Place := {}               -- R81: the memory device the write goes to
  second : Option Place := none     -- R342: the second location, for a MIGRATING extent
  done1 : Bool := false             -- R342: the source side has completed; 1
  done2 : Bool := false             -- R342: the target side has completed; 1
  attempts : Nat := 0               -- R147, R148: attempts made
  poisonWrite : Bool := false       -- R148 step 1: the poison write runs; 1
  since : Nat := 0                  -- R147: tick count of the attempt
  unit : Nat := 0                   -- R148: almanac unit of the line's creation, or the age of its vault line; 10
  vault : Option Nat := none        -- R143: the vault line written back, 16 × set + way
  station : Nat := 0                -- R120: whose write credit it holds: station, 24 the Barrow, 26 the home
  resend : Bool := false            -- R147: data merged after the attempt was sent; 1
  absorbed : Bool := false          -- R109, R117: partial data of an owner's write that an open transaction took; 1
  reserve : Bool := false           -- R119, R140: it holds a transaction of the internal reserve; 1
  failStamp : BitVec 64 := 0        -- R148: the almanac at its last attempt's failure; 64
  homeDue : Bool := false           -- R576: absorbed data, under its sender's credit, that waits for a home-work credit; 1
  migOnly : Bool := false           -- R343: the write of a MIG transaction, to the target only; 1
  flushes : List Nat := []          -- R145: flush jobs that wait for it
  created : Nat := 0                -- order of creation
  owedCmps : List Txn := []         -- R299: absorbed partial writes whose Cmp waits for the merged line's record
  deriving DecidableEq, Repr

/-- What a cell brings to a home slice or to the Barrow (R164, R166). -/
inductive HomeMsg where
  /-- A request or a write (R106, R166). -/
  | txn (t : Txn)
  /-- An agent's answer to a snoop (R110). -/
  | answer (agent pl : Nat) (op : MsgOp)
  /-- A BIConflict (R118). -/
  | conflict (agent bed line plot : Nat) (hpa : BitVec 64)
  /-- A memory device's read data (R109). -/
  | memData (port ld : Nat) (dpa : BitVec 64) (data : Line) (poison : Bool)
  /-- A memory device's completion of a write (R120). -/
  | writeCmp (port ld : Nat) (dpa : BitVec 64)
  /-- An answer to a Barrow slice (R330). -/
  | barrow (slice : Nat) (m : Msg)
  /-- A CXL.io or PCIe TLP that came in on a port, for the bridge or the Barrow (R166). -/
  | io (port : Nat) (t : IoIn)
  deriving DecidableEq, Repr

/-- One contention predictor entry (R153). -/
structure Predictor where
  tick : BitVec 8 := 0              -- R153 tick; 8
  score : BitVec 4 := 0             -- R153 score; 4
  mode : Bool := false              -- R153 mode: PARK; 1
  seenInt : Bool := false           -- R153 seen_int; 1
  seen : BitVec 64 := 0             -- R153 seen; 64
  deriving DecidableEq, Repr

/-- One home slice with its vault bank. -/
structure Slice where
  dir : Tab DirEntry := []              -- R103: 1,048,576 entries
  recency : Tab (List Nat) := []        -- R105: per set the ways in order of recency, most recent first
  txns : Tab Txn := []                  -- R119: 1,024 transaction entries
  nextOrder : Nat := 0                  -- R116: arrival order given next
  wb : Tab WbLine := []                 -- R120: 512 write-buffer lines
  vault : Tab VaultLine := []           -- R134, R137: 65,536 vault lines
  vaultRecency : Tab (List Nat) := []   -- R137: per set the ways in order of use, most recent first
  predictor : Tab Predictor := []       -- R153: 4,096 predictor entries
  parkOn : Nat := 6                     -- R154 park_on; 4
  passAt : Nat := 1                     -- R154 pass_at; 4
  t1 : Nat := 256                       -- R183 T1; 12
  t2 : Nat := 640                       -- R183 T2; 12
  t3 : Nat := 896                       -- R183 T3; 12
  weederSet : Nat := 0                  -- R113: next set of the weeder's walk; 16
  weederWay : Nat := 0                  -- R113: next way of the weeder's walk; 4
  stalls : BitVec 32 := 0               -- R131 overflow_stalls; 32
  lostWrites : BitVec 32 := 0           -- R161 lost_writes; 32
  retries : BitVec 32 := 0              -- R161 retries; 32
  rotation : Nat := 0                   -- R115: the position last admitted in class 3
  sweeping : List Nat := []             -- R312: ASYNC beds whose sweep on this slice has not ended
  sweepLine : Nat := 0                  -- R312: next line of the sweep of the first of them; 36
  work : List Txn := []                 -- R115, R576: writes and the home's own work that wait for a reserve entry, oldest first
  waiting : List Txn := []              -- R119, R120, R192: messages that wait at their ingress for a credit, oldest first
  input : List Txn := []                -- R115, R123: messages at the order point's input, oldest first
  heldCmps : List (BitVec 32 × Txn) := []  -- R299: Cmp of writes held back until a record is acknowledged
  admissionHeld : Bool := false         -- R313: the order point admits nothing; 1
  kept : Tab Nat := []                  -- R123: request credits freed while the overflow queue held 64 and not yet returned, by pool (R119)
  ripStart : Nat := 0                   -- R135, R142: model beat at which the ripener's pass began
  ripSets : Nat := 4096                 -- R135, R142: sets that the pass has read; 13
  deriving DecidableEq, Repr

/-- A flush of the vault (R145). -/
structure Flush where
  bed : Option Nat := none              -- R145: the bed, all beds where none
  invalidate : Bool := false            -- R145: the invalidate flag; 1
  since : Nat := 0                      -- R135, R145: tick count at which the scan started; the scan takes two ticks
  failed : Bool := false                -- R145: a write failed; 1
  start : Nat := 0                      -- R135: model beat at which the scan started
  scanned : Nat := 0                    -- R135, R145: sets that the scan has read in every bank; 13
  waiting : List (Nat × Nat) := []      -- R145, R576: vault lines whose write-back waits for a credit: slice, 16 × set + way
  plot : Option Nat := none             -- R69 step 4: the plot whose drain uses it
  fallow : Bool := false                -- R484 step 4: FALLOW entry uses it; 1
  deriving DecidableEq, Repr

/-- What a scan of every slice's directory does with the entries that it reads (R69, R127, R572). -/
inductive ScanKind where
  /-- It resolves what a lost agent held (R127). -/
  | loss (agent : Nat)
  /-- It clears the records of retiring agents (R572). -/
  | retire (agents : List Nat)
  /-- It back-invalidates what an agent holds in some beds (R69 step 3). -/
  | sweep (agent : Nat) (beds : List Nat)
  /-- It back-invalidates every entry in S or M and every sharer of an O entry (R484 step 3). -/
  | recall
  deriving DecidableEq, Repr

/-- A scan of every slice's directory, one entry per FCLK cycle (R69, R127, R572). -/
structure DirScan where
  kind : ScanKind                       -- R69, R127, R572: what it does
  start : Nat := 0                      -- R69, R127, R572: model beat at which it began
  pos : Nat := 0                        -- R127: the entry it reads next, 16 × set + way; 21
  deriving DecidableEq, Repr

/-- The home slices. -/
structure Home where
  slices : Tab Slice := []              -- R20: 8 home slices
  flushes : Tab Flush := []             -- R145: flushes that run, by job number
  scans : List DirScan := []            -- R69, R127, R572: directory scans that run
  nextFlush : Nat := 0                  -- R145: next job number
  bankBeat : Nat := 0                   -- R23: model beat of the lookups noted in `banks`
  banks : List (Nat × Nat × Nat) := []  -- R23: extent-table lookups from that beat on: bank, crossbar port, FCLK cycle from its start
  writeTimeout : Nat := 16              -- R147: write timeout in ticks; 9
  deriving DecidableEq, Repr

end Sys2Proof.Machine
end

