-- ==== Sys2Proof/Machine/Parts/Ledger.lean ====
section
/-! DEFINITION. The fault ledger, its block queues and persist queue, and the wear book and monitors of
19_faults_and_wear. -/

namespace Sys2Proof.Machine

/-- One fault-ledger entry (R540). -/
structure LedgerEntry where
  kind : Nat := 0                -- R541 kind code; 8
  severity : Nat := 0            -- R540 severity; 4
  device : Nat := 0              -- R540 fabric device number; 4
  block : Nat := 0               -- R540 recording block; 8
  key0 : Nat := 0                -- R540 key0; 16
  key1 : Nat := 0                -- R540 key1; 16
  key2 : Nat := 0                -- R540 key2; 32
  value0 : BitVec 64 := 0        -- R540 value0; 64
  value1 : BitVec 64 := 0        -- R540 value1; 64
  count : Nat := 1               -- R540 count; 16
  stamp : BitVec 64 := 0         -- R540 stamp; 64
  index : Nat := 0               -- R540 index; 12
  dropped : Bool := false        -- R540 dropped; 1
  persisted : Bool := false      -- R540 persisted; 1
  deriving DecidableEq, Repr

/-- The fault ledger (R538 to R544). -/
structure Ledger where
  ring : Tab LedgerEntry := []               -- R538: 4,096 entries of 512
  next : Nat := 0                            -- R538: next index; 12
  written : Nat := 0                         -- R406: entries written since cold reset; 64
  wrapped : Bool := false                    -- R546: the ledger has wrapped since cold reset; 1
  queues : Tab (List LedgerEntry) := []      -- R539: the 4-entry queue of each recording block, oldest first
  lost : Tab Bool := []                      -- R539: a block has lost an entry since its last one; 1 each
  turn : Nat := 0                            -- R538: the block served last in the rotation
  persist : List LedgerEntry := []           -- R543: the persist queue; 64 entries
  psn : Nat := 0                             -- R544: next persist sequence number; 16
  slots : Nat := 0                           -- R406, R544: summary slots that hold a summary, at most 256
  nextSlot : Nat := 0                        -- R543: next summary slot; 8
  persisting : List (Nat × LedgerEntry) := []  -- R543: entries whose summaries are being written, with their offsets in the wear book
  drained : Nat := 0                         -- MODEL: 1 + model beat in which the ledger last took an entry (R538)
  deriving DecidableEq, Repr

/-- One monitor of R552 between samples. -/
structure Gather where
  sum : Nat := 0      -- R552: sum of the values gathered
  count : Nat := 0    -- R552: number of values gathered
  deriving DecidableEq, Repr

/-- One monitor record of R554, as the wear book holds it. -/
structure Monitor where
  first : Nat := 0                  -- R554 first sample; 32
  hour : Nat := 0                   -- R554 life-clock hour of the latest sample; 32
  held : Nat := 0                   -- R554 samples held, 0-16; 8
  next : Nat := 0                   -- R554 next slot; 8
  samples : List (Nat × Nat) := []  -- R554: (life-clock hour, sample), oldest first; 16 samples of 32
  deriving DecidableEq, Repr

/-- The wear book and what the fabric die gathers for it (R549 to R557). Monitor index: 1,024 × class + instance. -/
structure Wear where
  book : List (Nat × Byte) := []       -- R549: the 64 KiB EEPROM; unlisted bytes read 0xFF (log 8)
  hours : Nat := 0                     -- R550: the life clock, in hours
  hourDue : Bool := false              -- R551: a life-clock hour has passed since the last season close; 1
  sampleHour : Nat := 0                -- R552: the 168th hour last sampled
  gather : Tab Gather := []            -- R552: values gathered since the last sample
  monitors : Tab Monitor := []         -- R554: the 347 monitor records
  laneLos : Tab (BitVec 32) := []      -- R551: running LOS counts, 256 of 32
  laneLol : Tab (BitVec 32) := []      -- R551: running LOL counts, 256 of 32
  laneChanged : List Nat := []         -- R551: lanes whose counts changed since their record's last write
  advisory : Bool := false             -- R556: advisory; 1
  urgent : Bool := false               -- R556: urgent; 1
  celsius : Int := 0                   -- R553: the last temperature reading; signed
  thermalTick : Nat := 0               -- MODEL: 1 + model tick of the last temperature reading, 0 none (R553)
  extreme : Int := 0                   -- R553: the running minimum or maximum of the thermal cycle; signed
  risen : Bool := false                -- R553: the temperature has risen by 20 °C from the minimum; 1
  cycles : Nat := 0                    -- R552 class 0x05: cumulative thermal cycles
  binTicks : Nat := 0                  -- R552 class 0x06: cumulative weighted ticks, in hundredths of a tick
  charge : Tab Nat := []               -- R552 class 0x07: cumulative current-time integral, 5 supplies
  wordWrites : Tab Nat := []           -- R552 class 0x09: writes of each 4-byte word of the wear book
  repairs : Nat := 0                   -- R406, R552 class 0x03, R557: SRAM repairs in use; 32
  writes : List (Nat × List Byte) := []  -- R543, R551: wear-book writes that wait for the power link, (offset, bytes)
  deriving DecidableEq, Repr

end Sys2Proof.Machine
end

