-- ==== Sys2Proof/Machine/Parts/Ports.lean ====
section
/-! DEFINITION. The CXL and PCIe ports of 07_cxl_ports and the lanes of 08_serial_lanes. -/

namespace Sys2Proof.Machine

/-- Link training states (R228 ltssm). -/
inductive Ltssm where
  | detect
  | polling
  | configuration
  | L0
  | recovery
  | L0s
  | disabled
  | hotReset
  | loopback
  deriving DecidableEq, Repr

/-- Ordered sets with which a lane leaves L0s (R233, R242). -/
inductive OrderedSet where
  | eieos
  | fts
  | skp
  deriving DecidableEq, Repr

/-- The port entry (R205). -/
structure PortEntry where
  slot : BitVec 6 := 0              -- R205 slot; 6
  slotValid : Bool := false         -- R205 slot_valid; 1
  ideRequired : Bool := false       -- R205 ide_required; 1
  l0p : Bool := false               -- R205 l0p; 1
  cxl128 : Bool := false            -- R205 cxl128; 1
  maxRate : BitVec 3 := 0           -- R205 max_rate; 3
  pcieOnly : Bool := false          -- R205 pcie_only; 1
  width : BitVec 2 := 0             -- R205 width; 2
  role : BitVec 3 := 0              -- R205 role; 3
  deriving DecidableEq, Repr

/-- An open access of a directly bound LD (R89, R224). -/
structure LdOpen where
  ld : Nat := 0                     -- LD-ID
  dpa : BitVec 64 := 0              -- address; 64
  write : Bool := false             -- a write, else a read; 1
  host : Nat := 0                   -- the host's upstream port
  hpa : BitVec 64 := 0              -- the address the host used; 64
  answer : Option (Nat × BitVec 12) := none  -- R181: station and number of the flit that answered it, while that flit's tail status is unknown
  flit : Option (Nat × BitVec 12) := none  -- R178, R180: station and number of the flit that brought it, while its tail status is unknown
  deriving DecidableEq, Repr

/-- HDM decoder 0 of a memory device or LD that provides extents (R213). -/
structure LdDecoder where
  base : BitVec 64 := 0             -- R213: HPA base; 64
  size : BitVec 64 := 0             -- R213: size, the LD's capacity; 64
  ways : Nat := 1                   -- R213: ways
  backInvalidate : Bool := false    -- R213: back-invalidate; 1
  deriving DecidableEq, Repr

/-- One port (R205, R228). -/
structure Port where
  entry : PortEntry := {}               -- R205: port entry
  ltssm : Ltssm := .detect              -- R228 ltssm; 6
  rate : BitVec 3 := 0                  -- R228 rate; 3
  width : BitVec 4 := 0                 -- R228 width; 4
  l0pWidth : BitVec 4 := 0              -- R228 l0p_width; 4
  flit : Bool := false                  -- R228 flit; 1
  cxl : Bool := false                   -- R228 cxl; 1
  partner : BitVec 4 := 0               -- R228 partner; 4
  ldMask : BitVec 16 := 0               -- R228 ld_mask; 16
  dcd : Bool := false                   -- R228 dcd; 1
  mhd : Bool := false                   -- R228 mhd; 1
  partnerBi : Bool := false             -- R228 partner_bi; 1
  lost : Bool := false                  -- R228 lost; 1
  downCount : BitVec 32 := 0            -- R228 down_count; 32
  ide : BitVec 4 := 0                   -- R228 ide; 4
  ideStore : Tab (BitVec 352) := []     -- R217: IDE key sets installed, at 4 × stream + 2 × set + direction: IV and key; 352
  partner128 : Bool := false            -- R200 partner_cxl128, R201: the partner advertises CXL at 128 GT/s; 1
  failed128 : Bool := false             -- R200 cxl128_failed; 1
  active128 : Bool := false             -- R200 cxl128_active; 1
  pending128 : Bool := false            -- R200 cxl128_pending; 1
  discovered : Bool := false            -- R212: discovery has run since power-on or insertion; 1
  advRead : Bool := false               -- R201: the partner's advertisement has been read since link-up; 1
  serial : BitVec 64 := 0               -- R212, R296: Device Serial Number discovered; 64
  capacities : Tab (BitVec 64) := []    -- R212, R213: capacity of each LD in bytes, by LD-ID; 64
  dcRegions : List (Nat × Nat × Nat) := []  -- R212: dynamic-capacity regions of a DCD: (LD-ID, first block, count)
  decoder0 : Tab LdDecoder := []        -- R213: HDM decoder 0 of each LD that provides extents, by LD-ID
  dcBlocks : List (Nat × Nat × Nat) := []  -- R216: accepted dynamic capacity: (LD-ID, first block, count)
  ldOpen : List LdOpen := []            -- R89, R224: open accesses of directly bound LDs
  scanDue : Bool := false               -- R225: an extent-table scan starts at the next tick boundary; 1
  scanning : Bool := false              -- R225: the extent-table scan runs; 1
  scanStart : Nat := 0                  -- R225: tick count at which it started
  scanFrom : Nat := 0                   -- R225: model beat at which it started
  scanPos : Nat := 0                    -- R225: the extent entry that it reads next
  walkFrom : Option Nat := none         -- R225: model beat of the report, while the slices walk their write buffers
  walkPos : Nat := 0                    -- R225: the position that the walks visit next
  held : Bool := false                  -- R577: the device took the link down and holds it in Detect; 1
  heldTick : Nat := 0                   -- R577: tick count when the link went down
  retryAsked : List (BitVec 12) := []   -- R180: ingress flits that the port has asked its sender to send again, newest first (log 4)
  viral : Bool := false                 -- R547: viral was signalled towards the host; 1
  t1 : Nat := 8                         -- R182 T1; 12
  t2 : Nat := 32                        -- R182 T2; 12
  t3 : Nat := 96                        -- R182 T3; 12
  l0sLatency : Option Nat := none       -- R242: the L0s exit latency that the partner advertises, in ns
  l0sTx : Bool := false                 -- R242: the transmitter is in L0s; 1
  ftsSent : BitVec 8 := 0               -- R242: the n_fts that the port's training sets advertised last: its lowest lane's; 8
  exitSent : List (OrderedSet × Nat) := []  -- R242: the ordered sets of the last exit from L0s, in their order, and how many of each
  lastTx : Nat := 0                     -- R242: tick count of the last TLP or DLLP sent
  cfgRetries : Nat := 0                 -- R220: configuration requests answered with Retry Status
  readySent : Bool := false             -- R221: Device Readiness Status sent; 1
  barrowDropped : Nat := 0              -- R297, R324: submissions discarded, counted on the function
  msix : Tab (BitVec 128) := []         -- R321: MSI-X table, 64 vectors of 128
  msixPending : List Nat := []          -- R321: Pending Bit Array, 64
  aer : Tab (BitVec 32) := []           -- R199: AER status of the functions the port presents, at 2 × function: uncorrectable, correctable; 32 (log 83)
  devCtl : Tab (BitVec 16) := []        -- R199: Max_Payload_Size and Max_Read_Request_Size in Device Control of the functions; 16 each (log 83)
  bars : Tab (BitVec 64) := []          -- R150, R321: BARs of the functions the port presents, at 6 × function + BAR; 64 (log 83)
  deriving DecidableEq, Repr

/-- One vPPB of a virtual CXL switch (R208, R210). Index: 17 × port + vPPB. -/
structure Vppb where
  bound : Option (Nat × Nat) := none    -- R89: (downstream port, LD-ID; 0xFF a whole SLD)
  presence : Bool := false              -- R210: presence detect state; 1
  dlActive : Bool := false              -- R210: DL_Active; 1
  pdc : Bool := false                   -- R210: Presence Detect Changed; 1
  dllsc : Bool := false                 -- R210: Data Link Layer State Changed; 1
  deriving DecidableEq, Repr

/-- One HDM decoder (R79, R83, R91). Index: 4 × (17 × port + vPPB) + decoder. -/
structure Decoder where
  committed : Bool := false             -- R79: committed; 1
  error : Bool := false                 -- R79: Commit Error; 1
  base : BitVec 64 := 0                 -- R79 base; 64
  size : BitVec 64 := 0                 -- R79 size; 64
  w : Nat := 0                          -- R79 ways exponent
  g : Nat := 0                          -- R79 granularity exponent
  dpaBase : BitVec 64 := 0              -- R79 dpa_base; 64
  position : Nat := 0                   -- MODEL: this device's place in the interleave set, by which a snoop's address is found (log 21)
  deriving DecidableEq, Repr

/-- The ports. -/
structure Ports where
  port : Tab Port := []                 -- R205: 128 ports
  vppb : Tab Vppb := []                 -- R208: 17 vPPBs of each UPSTREAM port
  decoder : Tab Decoder := []           -- R79, R83: HDM decoders of the vPPBs
  deriving DecidableEq, Repr

/-- One lane (R256, R257). The rate, active, logical and coding fields of R257 follow from the lane's port and trunk (R230, R236, R241). -/
structure Lane where
  nFts : BitVec 8 := 0x80               -- R256 n_fts; 8
  txPreset : BitVec 4 := 0xF            -- R256 tx_preset; 4
  eqBypass : Bool := false              -- R256 eq_bypass; 1
  polarity : BitVec 2 := 0              -- R256 polarity; 2
  tidle : BitVec 3 := 7                 -- R256 tidle; 3
  losDebounce : BitVec 8 := 0x10        -- R256 los_debounce; 8
  losThresh : BitVec 4 := 5             -- R256 los_thresh; 4
  marginThresh : BitVec 4 := 8          -- R256 margin_thresh; 4
  wearScan : Bool := true               -- R256 wear_scan; 1
  loop : BitVec 3 := 0                  -- R256 loop; 3
  prbsGen : BitVec 4 := 0               -- R256 prbs_gen; 4
  prbsChk : BitVec 4 := 0               -- R256 prbs_chk; 4
  losCount : BitVec 16 := 0             -- R257 los_count; 16
  lolCount : BitVec 16 := 0             -- R257 lol_count; 16
  left : BitVec 6 := 0                  -- R257 margin_left; 6
  right : BitVec 6 := 0                 -- R257 margin_right; 6
  top : BitVec 7 := 0                   -- R257 margin_top; 7
  bottom : BitVec 7 := 0                -- R257 margin_bottom; 7
  marginStatus : BitVec 4 := 0          -- R257 margin_status; 4
  prbsErrors : BitVec 32 := 0           -- R257 prbs_errors; 32
  prbsLock : Bool := false              -- R257 prbs_lock; 1
  losSticky : Bool := false             -- R257 los_sticky; 1
  lolSticky : Bool := false             -- R257 lol_sticky; 1
  los : Bool := false                   -- R257 los; 1
  lol : Bool := false                   -- R257 lol; 1
  inverted : Bool := false              -- R257 inverted; 1
  preset : BitVec 4 := 0xF              -- R257 preset; 4
  eqPhases : Nat := 0                   -- R240: phases of the last equalisation: 4, or 2 with eq_bypass; 0 before any; 3
  precode : Bool := false               -- R237: precoding is in use; 1
  rxPlus : Option Bool := none          -- R233: running disparity of the receiver, positive; none before its first character; 1
  scrTx : BitVec 23 := 0                -- R237, R244: the transmitter's scrambler; 23
  scrRx : BitVec 23 := 0                -- R237, R244: the receiver's scrambler; 23
  faultBeat : Nat := 0                  -- R248: 1 + model beat of its last fault
  raisedBeat : Nat := 0                 -- R248, R249: 1 + model beat of its last fault that raised the station's event
  margining : Bool := false             -- R254: the host margins the lane; 1
  scanAuto : Bool := false              -- R255: the running scan is an automatic one; 1
  scanK : Nat := 0                      -- R253: k of the running scan
  scanWaits : Option Nat := none        -- R255: k of the requested scan that waits for the automatic one
  deriving DecidableEq, Repr

/-- The lanes. -/
structure Lanes where
  lane : Tab Lane := []                 -- R256: 256 lanes
  autoNext : Nat := 0                   -- R255: next lane of the automatic scan; 8
  autoRuns : Option Nat := none         -- R255: the lane whose automatic scan runs
  deriving DecidableEq, Repr

end Sys2Proof.Machine
end

