-- ==== Sys2Proof/Machine/Parts/Power.lean ====
section
/-! DEFINITION. The power die and the power link of 17_slot_power and 01_architecture. -/

namespace Sys2Proof.Machine

/-- Channel states (R496). -/
inductive ChState where
  | empty
  | debounce
  | delay
  | ramp
  | qualify
  | on
  | retryWait
  | latched
  | off
  | isolated
  deriving DecidableEq, Repr

/-- One slot channel of the power die (R495 to R515). Times are samples of 1 µs. -/
structure Channel where
  state : ChState := .empty             -- R514 CH_STATE.state; 4
  ftimer : BitVec 8 := 0x08             -- R514 CH_LIMIT.ftimer; 8
  limit : BitVec 9 := 0x0FA             -- R514 CH_LIMIT.limit; 9
  dvdt : BitVec 7 := 0x0A               -- R514 CH_SEQ.dvdt; 7
  grise : BitVec 7 := 0x14              -- R514 CH_SEQ.grise; 7
  interval : BitVec 4 := 0x1            -- R514 CH_SEQ.interval; 4
  retries : BitVec 3 := 3               -- R514 CH_SEQ.retries; 3
  retriesLeft : BitVec 3 := 3           -- R514 CH_STATE.retries_left; 3
  prsnt : Bool := false                 -- R492 SLOTnn_PRSNT_N is low: a device is seated; 1
  present : Bool := false               -- R514 CH_STATE.present: presence after debounce; 1
  pg : Bool := false                    -- R514 CH_STATE.pg, R33 PG; 1
  trip : Bool := false                  -- R514 CH_STATE.trip, R33 TRIP; 1
  inLimit : Bool := false               -- R514 CH_STATE.in_limit; 1
  gateFault : Bool := false             -- R514 CH_STATE.gate_fault; 1
  stuckOn : Bool := false               -- R514 CH_STATE.stuck_on; 1
  cause : BitVec 3 := 0                 -- R514 CH_STATE.cause; 3
  trips : BitVec 8 := 0                 -- R514 CH_STATE.trips; 8
  gate : Bool := false                  -- R496: the gate is not low; 1
  auxEn : Bool := false                 -- R492 AUXEN; 1
  since : Nat := 0                      -- R497: sample of entry to the state
  delayOver : Bool := false             -- R498: the delay or interval has ended and the ramp waits; 1
  pgSince : Option Nat := none          -- R497: sample at which PG rose
  limitSince : Option Nat := none       -- R500: the fault timer runs: the sample from which it counts
  outSince : Nat := 0                   -- R500: the sample since which the channel is out of limit while the timer stands
  qualSince : Nat := 0                  -- R505: the sample from which the qualification count runs
  deriving DecidableEq, Repr

/-- One feed (R509, R514). -/
structure FeedState where
  uv : BitVec 11 := 0x41A               -- R514 FD_CFG.uv; 11
  dead : BitVec 6 := 0x05               -- R514 FD_CFG.dead; 6
  switchovers : BitVec 8 := 0           -- R514 FD_STATE.switchovers; 8
  closed : Bool := false                -- R514 FD_STATE.closed; 1
  good : Bool := false                  -- R514 FD_STATE.good; 1
  bad : Bool := false                   -- R514 FD_STATE.bad; 1
  goodSince : Nat := 0                  -- R510: sample since which the feed is good
  deriving DecidableEq, Repr

/-- A frame that the fabric die has sent and whose response is missing, or that waits for its slot (R30 to R32). -/
structure PlFrame where
  typ : Nat := 0                        -- R31 type; 8
  index : Nat := 0                      -- R31 index; 8
  address : Nat := 0                    -- R514: register address; 8
  value : BitVec 24 := 0                -- R514: value; 24
  sent : Nat := 0                       -- R32: tick count of the last sending
  resends : Nat := 0                    -- R32: resends made
  again : Bool := false                 -- R30, R32: sent again, and this sending has not arrived; 1
  wear : Nat := 0                       -- R31: wear book address of a frame of type 6 or 7; 16
  data : List Byte := []                -- R31: bytes of a frame of type 7, at most 4
  deriving DecidableEq, Repr

/-- What the fabric die keeps of one channel (R506, R511, R513, R516). -/
structure ChCopy where
  limitReg : BitVec 24 := 0x0800FA      -- R516: copy of CH_LIMIT; 24
  seqReg : BitVec 24 := 0x145058        -- R516: copy of CH_SEQ; 24
  stateReg : BitVec 24 := 0x060000      -- R516: copy of CH_STATE; 24
  shunt : BitVec 12 := 0                -- R511: latest shunt voltage code; 12
  vout : BitVec 12 := 0                 -- R511: latest VOUT code; 12
  pg : Bool := false                    -- R33: the PG line as last seen; 1
  trip : Bool := false                  -- R33: the TRIP line as last seen; 1
  faultStamp : BitVec 64 := 0           -- R506: stamp of the last TRIP rise; 64
  perst : Bool := true                  -- R508: PERST# is driven low; 1
  pgTick : Nat := 0                     -- R508: tick count at which PG rose
  drops : Int := 0                      -- R513: sum of drops, signed
  currents : Nat := 0                   -- R513: sum of currents
  deriving DecidableEq, Repr

/-- The power die, the power link and the fabric die's copies. -/
structure Power where
  ready : Bool := false                 -- R475: the power die is ready; 1
  channels : Tab Channel := []          -- R495: 48 channels
  feedA : FeedState := {}               -- R509: feed A
  feedB : FeedState := {}               -- R509: feed B
  codeA : BitVec 12 := 0                -- R29, R511: the power die's own latest code of feed A's voltage; 12
  codeB : BitVec 12 := 0                -- R29, R511: the power die's own latest code of feed B's voltage; 12
  selected : BitVec 2 := 2              -- R514 PD_STATE.selected; 2
  switchingTo : Option Feed := none     -- R510: break-before-make: the feed that closes when the dead time ends
  switchSince : Nat := 0                -- R510: sample at which a switchover opened the closed feed
  brownout : Bool := false              -- R33, R514 PD_STATE.brownout; 1
  branches : BitVec 6 := 0x3F           -- R514 PD_BRANCH.closed; 6
  temperature : BitVec 12 := 0          -- R514 PD_STATE.temperature; 12
  overflow : Bool := false              -- R514 PD_STATE.overflow; 1
  overflowBeat : Nat := 0               -- MODEL: 1 + model beat in which overflow was last set (R10, log 59)
  alarms : List (Nat × Nat × BitVec 24) := []  -- R515: alarm queue, oldest first: index, address, value
  responses : List (Nat × Nat × BitVec 24) := []  -- R514: responses that wait for a slot, oldest first
  wearAnswered : List PlFrame := []     -- R31, R32: wear-book frames the power die took, whose responses wait; oldest first
  link : Bool := true                   -- R32, R516: the power link is up; 1
  probeTick : Nat := 0                  -- R516: tick count of the last PD_ID read while the link is down
  outQueue : List PlFrame := []         -- R519: command frames that wait for a command slot, oldest first
  unanswered : List PlFrame := []       -- R32: command frames sent without a response
  answerTick : Nat := 0                 -- R30: 1 + the tick whose response slots are counted
  answerUsed : Nat := 0                 -- R30: response slots (4 and 5) used in that tick, at most 2
  itemTick : Nat := 0                   -- R30: 1 + the tick whose telemetry slots are counted
  itemsSent : List Nat := []            -- R30: telemetry slots (0 to 3) used in that tick
  slotTick : Nat := 0                   -- R519: the tick whose command slots are counted
  slotUsed : Nat := 0                   -- R519: command slots used in that tick, at most 6
  wearUsed : Nat := 0                   -- R543: wear-book writes among them, at most 2
  copies : Tab ChCopy := []             -- R516: copies by channel
  feedCfgA : BitVec 24 := 0x002C1A      -- R516: copy of FD_CFG of feed A; 24
  feedCfgB : BitVec 24 := 0x002C1A      -- R516: copy of FD_CFG of feed B; 24
  feedStA : BitVec 24 := 0              -- R516: copy of FD_STATE of feed A; 24
  feedStB : BitVec 24 := 0              -- R516: copy of FD_STATE of feed B; 24
  pdState : BitVec 24 := 0x002000       -- R516: copy of PD_STATE; 24
  voltA : BitVec 12 := 0                -- R511: latest feed A voltage code; 12
  voltB : BitVec 12 := 0                -- R511: latest feed B voltage code; 12
  shuntA : BitVec 12 := 0               -- R511: latest feed A shunt code; 12
  shuntB : BitVec 12 := 0               -- R511: latest feed B shunt code; 12
  vaux : BitVec 12 := 0                 -- R511: latest VAUX code; 12
  switchStamp : BitVec 64 := 0          -- R517: stamp of the last switchover; 64
  wearReads : Tab (List Byte) := []     -- MODEL: bytes of the last wear book read (log 4)
  deriving DecidableEq, Repr

end Sys2Proof.Machine
end

