-- ==== Sys2Proof/Machine/Parts/Steward.lean ====
section
/-! DEFINITION. The steward die, the die link and the steward bridge of 14_steward_die. -/

namespace Sys2Proof.Machine

/-- One hart (R412 to R417). -/
structure Hart where
  mevthr : BitVec 4 := 0xF              -- R415 mevthr.thr; 4
  mevsrc : BitVec 11 := 0               -- R415 mevsrc.source; 11
  mepc : BitVec 64 := 0                 -- R416 mepc (log 9); 64
  mcause : BitVec 64 := 0               -- R416 mcause (log 9); 64
  mie : Bool := false                   -- R416 mstatus.MIE (log 9); 1
  mpie : Bool := false                  -- R416 mstatus.MPIE (log 9); 1
  mpp : BitVec 2 := 3                   -- R416 mstatus.MPP (log 9); 2
  priv : BitVec 2 := 3                  -- R416: privilege mode (log 9); 2
  debug : Bool := false                 -- R416, R426: debug mode; 1
  pc : BitVec 64 := 0                   -- R416, R419: program counter; 64
  wfi : Bool := false                   -- R417: waits in WFI; 1
  halted : Bool := false                -- R423: halted with interrupts disabled; 1
  offer : Option (Nat × Nat × BitVec 64) := none  -- R416: the offer at the hart: source, priority, vector
  released : Bool := false              -- R419: released from the ROM; 1
  waits : Option Nat := none            -- R433: tick count since which an access waits on the die link
  access : Option (Bool × BitVec 64) := none  -- R418, R433: the access whose answer the hart awaits: store or AMO, and its address
  stalled : Option (BitVec 64 × Nat) := none  -- R424: a load of execute-in-place space that waits for a transfer: address and size
  reservation : Option (BitVec 64 × Nat) := none  -- R413: the reservation of an LR in steward SRAM: address and size
  x : Tab (BitVec 64) := []             -- R412: the integer registers x1 to x31 (log 9); 64
  f : Tab (BitVec 64) := []             -- R412: the floating-point registers f0 to f31 (log 9); 64
  fcsr : BitVec 8 := 0                  -- R412: fcsr (log 9); 8
  status : BitVec 10 := 0               -- R412: mstatus bits [22:13], FS to TSR (log 9); 10
  mtvec : BitVec 64 := 0                -- R412, R414: mtvec (log 9); 64
  mscratch : BitVec 64 := 0             -- R412: mscratch (log 9); 64
  mtval : BitVec 64 := 0                -- R412: mtval (log 9); 64
  medeleg : BitVec 16 := 0              -- R412: medeleg (log 9); 16
  mideleg : BitVec 16 := 0              -- R412: mideleg (log 9); 16
  enables : BitVec 16 := 0              -- R412, R414: the CSR mie (log 9); 16
  softPending : BitVec 16 := 0          -- R412: the bits of mip that software writes, SSIP, STIP and SEIP (log 9); 16
  sie : Bool := false                   -- R412: mstatus.SIE (log 9); 1
  spie : Bool := false                  -- R412: mstatus.SPIE (log 9); 1
  spp : Bool := false                   -- R412: mstatus.SPP (log 9); 1
  stvec : BitVec 64 := 0                -- R412: stvec (log 9); 64
  sscratch : BitVec 64 := 0             -- R412: sscratch (log 9); 64
  sepc : BitVec 64 := 0                 -- R412: sepc (log 9); 64
  scause : BitVec 64 := 0               -- R412: scause (log 9); 64
  stval : BitVec 64 := 0                -- R412: stval (log 9); 64
  satp : BitVec 64 := 0                 -- R412: satp, Sv39 and Sv48 (log 9); 64
  pmpcfg : Tab (BitVec 8) := []         -- R412: 16 PMP configurations (log 9); 8
  pmpaddr : Tab (BitVec 54) := []       -- R412: 16 PMP addresses (log 9); 54
  deriving DecidableEq, Repr

/-- A key slot (R434). -/
structure KeySlot where
  valid : Bool := false                 -- R434 valid; 1
  algorithm : BitVec 8 := 0             -- R434 algorithm; 8
  digest : BitVec 256 := 0              -- R434 digest, byte 8 lowest; 256
  deriving DecidableEq, Repr

/-- The steward die (R412 to R426) and its boot registers (R434). -/
structure Steward where
  harts : Tab Hart := []                -- R412: 4 harts
  sram : List (Nat × Byte) := []        -- R418: 32 MiB SRAM from 0x0800_0000, by offset; unlisted bytes read 0 (R419)
  inReset : Bool := true                -- R475: the steward die is in reset; 1
  qspiCfg : BitVec 32 := 0x1008         -- R424 QSPI_CFG; 32
  qspiCmd : BitVec 32 := 0x030000       -- R424 QSPI_CMD; 32
  qspiAddr : BitVec 32 := 0             -- R424 QSPI_ADDR; 32
  qspiData : List (Nat × Byte) := []    -- R424 QSPI_DATA, 64 bytes; unlisted bytes read 0
  qspiAgain : Option Nat := none        -- R11, R424: the model beat in which go was set while it was 1
  wdtTimeout : BitVec 12 := 0x3D1       -- R425 WDT_CTRL.timeout; 12
  wdtEnable : Bool := false             -- R425 WDT_CTRL.enable; 1
  wdtStart : Nat := 0                   -- R425: tick count at which the watchdog's count restarted
  gpioIn : BitVec 16 := 0               -- R424 GPIO_IN; 16
  gpioOut : BitVec 16 := 0              -- R424 GPIO_OUT; 16
  gpioOe : BitVec 16 := 0               -- R424 GPIO_OE; 16
  msip : Tab Bool := []                 -- R414: ACLINT MSWI, 4 harts
  mtimecmp : Tab (BitVec 64) := []      -- R414: ACLINT MTIMER compare registers (log 9); 64
  uart : Tab (BitVec 8) := []           -- R424: 16550 registers by offset (log 9)
  i3c : Tab (BitVec 32) := []           -- R424: I3C HCI registers by offset (log 9)
  svn : BitVec 16 := 0                  -- R434 STW_BOOT.svn; 16
  raiseFloor : Bool := false            -- R434 STW_BOOT.raise_floor; 1
  slot : BitVec 2 := 0                  -- R434 STW_BOOT.slot; 2
  stage : BitVec 4 := 0                 -- R434 STW_BOOT.stage; 4
  bootFloor : BitVec 16 := 0xFFFF       -- R434 BOOT_FLOOR, load; 16
  keys : Tab KeySlot := []              -- R434: 4 key slots, load
  dmistat : BitVec 2 := 0               -- R426: dtmcs.dmistat of the JTAG debug transport module (log 60); 2
  dmActive : Bool := false              -- R426: dmcontrol.dmactive of the debug module (log 60); 1
  hartSel : BitVec 2 := 0               -- R426: dmcontrol.hartsel, 4 harts (log 60); 2
  dmData : BitVec 64 := 0               -- R426: data0 and data1 of the debug module (log 60); 64
  deriving DecidableEq, Repr

/-- A message on the die link (R429). -/
inductive DieMsg where
  | access (store : Bool) (address : BitVec 64) (size : Nat) (data : BitVec 64)
  | offer (source priority : Nat) (vector : BitVec 64)
  | withdraw (source priority : Nat)
  | take (source priority : Nat)
  | posted (address : Nat) (data : List Byte)
  | completion (typ : Nat) (data : BitVec 64)
  | almanac (value : BitVec 64)
  | other
  deriving DecidableEq, Repr

/-- A sequenced die-link flit (R428, R431): one per message (log 14). -/
structure DieFlit where
  seq : BitVec 10 := 0                  -- R428 seq; 10
  channel : Nat := 0                    -- R428 channel; 3
  txn : Nat := 0                        -- R428 txn; 10
  hart : Nat := 0                       -- R428 hart; 2
  ack : BitVec 10 := 0x3FF              -- R428 ack, as the sender last sent it; 10
  msg : DieMsg := .other                -- R429: the message
  replays : Nat := 0                    -- R433: replays made
  flits : Nat := 1                      -- R430: flits of the message
  mark : Nat := 0                       -- R441: which posted write it carries, 0 for none
  deriving DecidableEq, Repr

/-- One direction of the die link (R429 to R433). -/
structure DieDir where
  nextSeq : BitVec 10 := 0              -- R431: next sequence number; 10
  replay : List DieFlit := []           -- R431: unacknowledged flits, oldest first
  acked : BitVec 10 := 0x3FF            -- R428: last acknowledgement received; 10
  ackBeat : Nat := 0                    -- R431: model beat of the last acknowledgement
  exp : BitVec 10 := 0                  -- R431: the receiver's expected sequence number; 10
  naking : Bool := false                -- R431: the receiver discards until the expected flit arrives; 1
  credits : Tab Nat := []               -- R430: credits left at the sender, by channel
  waiting : List DieFlit := []          -- R430: messages that wait for a credit, oldest first
  owed : Tab Nat := []                  -- R430: receive slots freed at the receiver whose credit has not been returned, by channel
  deriving DecidableEq, Repr

/-- The die link (R427 to R434). -/
structure DieLink where
  state : BitVec 2 := 0                 -- R434 DL_STATUS.state; 2
  replays : BitVec 16 := 0              -- R434 DL_STATUS.replays; 16
  retrains : BitVec 8 := 0              -- R434 DL_STATUS.retrains; 8
  errors : BitVec 32 := 0               -- R434 DL_CRC.errors; 32
  toSteward : DieDir := {}              -- R431: fabric die to steward die
  toFabric : DieDir := {}               -- R431: steward die to fabric die
  downTick : Nat := 0                   -- R433: tick count at which the link went down
  tickReplays : Nat := 0                -- R450: replays within the tick
  replayTick : Nat := 0                 -- R450: that tick's count
  deriving DecidableEq, Repr

/-- One delayed-request slot (R439). -/
structure Delayed where
  hart : Nat := 0                       -- R439: hart
  address : BitVec 64 := 0              -- R439: address; 64
  size : Nat := 0                       -- R439: size
  typ : Nat := 0                        -- R439: type: 0 load, 1 configuration write, 2 LR, 3 AMO
  result : Option (CplStatus × BitVec 64) := none  -- R439: the result, once it arrived
  arrived : Nat := 0                    -- R440: tick count of the result's arrival
  sent : Nat := 0                       -- R440: tick count at which the request was sent
  port : Nat := 0                       -- R441: the DOWNSTREAM port
  bdf : BitVec 16 := 0                  -- R437: target function; 16
  barrier : List Nat := []              -- R441: posted writes whose flits must be acknowledged first
  func : BitVec 5 := 0                  -- R429: AMO function; 5
  data : BitVec 64 := 0                 -- R442: AMO operand or write data; 64
  deriving DecidableEq, Repr

/-- One semaphore (R442, R443). -/
structure Semaphore where
  hart : Nat := 0                       -- R442: holder
  port : Nat := 0                       -- R437: target function's port
  bdf : BitVec 16 := 0                  -- R437: target function; 16
  since : Nat := 0                      -- R443: tick count of the taking
  address : Option (BitVec 64 × Nat) := none  -- R442: the hart's reservation: address and size
  deriving DecidableEq, Repr

/-- One aperture descriptor (R436). -/
structure Aperture where
  base : BitVec 36 := 0                 -- R436 base; 36
  valid : Bool := false                 -- R436 valid; 1
  kind : BitVec 2 := 0                  -- R436 kind; 2
  port : BitVec 7 := 0                  -- R436 port; 7
  bdf : BitVec 16 := 0                  -- R436 bdf; 16
  deriving DecidableEq, Repr

/-- One error log entry (R448). -/
structure BrgError where
  stamp : BitVec 64 := 0                -- R448 stamp; 64
  address : BitVec 64 := 0              -- R448 address; 64
  bdf : BitVec 16 := 0                  -- R448 bdf; 16
  port : BitVec 7 := 0                  -- R448 port; 7
  hart : BitVec 2 := 0                  -- R448 hart; 2
  kind : BitVec 8 := 0                  -- R448 kind; 8
  status : BitVec 8 := 0                -- R448 status; 8
  valid : Bool := false                 -- R448 valid; 1
  setBeat : Nat := 0                    -- MODEL: 1 + model beat in which the entry was written (R10, log 59)
  deriving DecidableEq, Repr

/-- One mailbox queue (R446). -/
structure Mailbox where
  base : BitVec 25 := 0                 -- R446 MBX_CFG base [31:7]; 25
  eventEn : Bool := false               -- R446 MBX_CFG event_en; 1
  n : BitVec 4 := 0                     -- R446 MBX_CFG n; 4
  tail : BitVec 16 := 0                 -- R446 MBX_TAIL; 16
  head : BitVec 16 := 0                 -- R446 MBX_HEAD; 16
  deriving DecidableEq, Repr

/-- The steward bridge (R435 to R451). -/
structure Bridge where
  cplTimeout : BitVec 10 := 0x30        -- R435 BRG_CONTROL.cpl_timeout; 10
  discard : BitVec 11 := 0x3F           -- R435 BRG_CONTROL.discard; 11
  discarded : BitVec 16 := 0            -- R435 BRG_STATUS.discarded; 16
  semReleases : BitVec 16 := 0          -- R435 BRG_STATUS.sem_releases; 16
  msgDrops : BitVec 16 := 0             -- R435 BRG_STATUS.msg_drops; 16
  logOverflow : BitVec 8 := 0           -- R435 BRG_STATUS.log_overflow; 8
  inBase : BitVec 20 := 0               -- R435 BRG_IN_BASE; 20
  inLimit : BitVec 20 := 0              -- R435 BRG_IN_LIMIT; 20
  apertures : Tab Aperture := []        -- R436: 64 apertures
  routes : Tab (BitVec 64) := []        -- R445: 256 routing entries of 64
  errors : Tab BrgError := []           -- R448: 16 error log entries
  mailboxes : Tab Mailbox := []         -- R446: 32 mailbox queues
  txBuf : List (Nat × Byte) := []       -- R435: 32 transmit buffers of 128 B; unlisted bytes read 0
  slots : Tab Delayed := []             -- R439: 16 delayed-request slots
  semaphores : Tab Semaphore := []      -- R442: 16 semaphores
  semWaits : Tab Nat := []              -- R443: 1 + tick count since which a hart's access meets a held semaphore
  posted : List (Nat × Nat × Option Nat) := []  -- R441, R446: posted writes not acknowledged: number, port, mailbox queue
  nextMark : Nat := 1                   -- R441: number given to the next posted write
  answers : List (Nat × Nat × BitVec 64) := []  -- MODEL: COMPLETION answers sent, newest first: hart, type, data (log 4)
  deriving DecidableEq, Repr

end Sys2Proof.Machine
end

