-- ==== Sys2Proof/Machine/Parts/Trunk.lean ====
section
/-! DEFINITION. The trunks of 09_trunk_link and the pair of 10_redundant_pair. -/

namespace Sys2Proof.Machine

/-- Trunk states (R262, R293). -/
inductive TrunkState where
  | down
  | hello
  | step
  | init
  | up
  | retrain
  | broken
  deriving DecidableEq, Repr

/-- The trunk entry (R261). DESIGN CHOICE (log 120): an entry that no record gives has the least settings that R261 and R275 allow, but leak_pct
50 and holdoff 16, which the spec's examples use. -/
structure TrunkEntry where
  leakPct : BitVec 8 := 50          -- R261 leak_pct, load (log 120); 8
  holdoff : BitVec 8 := 16          -- R261 holdoff, load (log 120); 8
  peer : BitVec 4 := 0              -- R261 peer, load; 4
  peerCheck : Bool := false         -- R261 peer_check, load; 1
  autoRestart : Bool := false       -- R261 auto_restart, load; 1
  maxRate : BitVec 2 := 0           -- R261 max_rate, load; 2
  pair : Bool := false              -- R261 pair, load; 1
  deriving DecidableEq, Repr

/-- What a DATA flit carries: cell messages or one MGMT record (R266). -/
inductive FlitBody where
  | cells (msgs : List TrunkMsg)
  | mgmt (rec : MgmtRec)
  deriving DecidableEq, Repr

/-- A DATA flit in the replay or reorder buffer (R273, R274). -/
structure Flit where
  seq : BitVec 12 := 0              -- R273: sequence number; 12
  vc : Nat := 0                     -- R265: VC
  stomp : Bool := false             -- R269: stomp mark; 1
  cong : Bool := false              -- R186: congestion flag; 1
  body : FlitBody := .cells []      -- R266: payload
  replays : Nat := 0                -- R277: replays made
  origin : Option (Nat × BitVec 12) := none  -- R178, R181: ingress station and flit_tag while their tail status is to come
  lastSent : Nat := 0               -- R276: model beat of its last transmission
  deriving DecidableEq, Repr

/-- Control flits a trunk sends (R266), logged as sent. -/
inductive Control where
  | null (pause : Bool)
  | nak (records : List NakRecord)
  | audit (entries : List (Nat × Nat × Nat))
  | time (kind : Nat) (t1 t2 t3 : BitVec 64)
  | heartbeat (device : Nat) (mode : Nat) (serial : BitVec 48) (stamp flags : BitVec 64)
  | init (ack : BitVec 12) (free : List Nat)
  | retrain (isAck : Bool) (width rate reason : Nat)
  deriving DecidableEq, Repr

/-- A flit that a trunk has sent (R264 to R266, R269), as it left. -/
structure SentFlit where
  typ : Nat := 0                    -- R266: flit type; 4
  header : LinkHeader := {}         -- R265: link header
  control : Option Control := none  -- R266: the payload of a control flit
  body : Option FlitBody := none    -- R266: the payload of a DATA flit
  record : List Byte := []          -- R266: the record header of a MGMT record, bytes 6 to 11
  inverted : Bool := false          -- R269: its CRC-64 left inverted; 1
  deriving DecidableEq, Repr

/-- One trunk (R260 to R293). Index: station. -/
structure Trunk where
  entry : TrunkEntry := {}              -- R261: trunk entry
  nextEntry : Option TrunkEntry := none -- R261: the entry set and in effect from the next bring-up
  state : TrunkState := .down           -- R293 state; 3
  since : Nat := 0                      -- R262: tick count of entry to the state
  waitFrom : Option Nat := none         -- R262: tick count at which the 1,024-tick wait began
  accepted : Tab Hello := []            -- R236: accepted hellos by lane
  helloSent : Tab (List (BitVec 10)) := []  -- R235: the hello that each lane sends, as 8b/10b characters
  eqRoles : List Bool := []             -- R240: the roles of the last equalisation in their order: this side leads, or follows
  helloRun : Tab Nat := []              -- R236: consecutive identical hellos by lane
  lastHello : Tab Hello := []           -- R236: last hello by lane
  helloTick : Nat := 0                  -- R262: tick count at which the further hellos began
  helloDone : Bool := false             -- R262: every lane has accepted and the checks pass; 1
  rate : BitVec 2 := 0                  -- R293 rate; 2
  width : BitVec 2 := 0                 -- R293 width; 2
  target : BitVec 2 := 0                -- R263: target rate; 2
  stepRate : BitVec 2 := 0              -- R263: rate of the running step; 2
  stepTick : Nat := 0                   -- R263: tick count at which the step began
  trainRun : Tab Nat := []              -- R263: consecutive TRAIN flits received by lane
  peer : BitVec 4 := 0                  -- R293 peer; 4
  peerSerial : BitVec 48 := 0           -- R263, R285: serial of the accepted hello; 48
  nextSeq : BitVec 12 := 0              -- R293 next_seq; 12
  ackRx : BitVec 12 := 0xFFF            -- R293 ack_rx; 12
  ackBeat : Nat := 0                    -- R277: model beat at which ack last advanced
  replay : List Flit := []              -- R273: unacknowledged flits, oldest first
  exp : BitVec 12 := 0                  -- R274 exp; 12
  held : List Flit := []                -- R274: reorder buffer, by sequence distance
  holes : List (BitVec 12 × Nat) := []  -- R275: open holes and the model beat of the last NAK that named each
  avail : Tab Nat := []                 -- R278: credits the transmitter may spend, per VC
  initial : Tab Nat := []               -- R280: initial credits, per VC
  leak : Tab Nat := []                  -- R279: leak count, per VC
  received : Tab (BitVec 16) := []      -- R279: cumulative credits received, per VC; 16
  returned : Tab (BitVec 16) := []      -- R279: cumulative credits returned, per VC; 16
  buffers : List Flit := []             -- R271, R272: the VC receive buffers, each VC's flits in order of arrival
  released : Nat × Nat := (0, 0)        -- R274: 1 + model beat of the last releases from the reorder buffer, and how many that beat had
  ignoredAcks : Nat := 0                -- R273: acks ignored that name a number not yet sent
  pendingRet : Tab Nat := []            -- R278: credits to return, per VC
  retTurn : Nat := 0                    -- R278: VC served last
  slots : Tab Nat := []                 -- R271, R272: receive slots in effect, per VC
  newSlots : Option (List Nat) := none  -- R272: receive slots set and in effect from the next retrain
  stallTick : Tab Nat := []             -- R280: 1 + tick count at which a control-class flit began to wait
  lastGood : Nat := 0                   -- R285: tick count of the last good flit
  lastHeart : Nat := 0                  -- R288, R309: tick count of the last good HEARTBEAT
  heartSeen : Option (BitVec 64 × Nat) := none  -- R288: flags and mode of the last HEARTBEAT
  nakRx : Bool := false                 -- R293 nak_present_rx; 1
  request : Option (Nat × Nat × Nat × Nat) := none  -- R282: the RETRAIN request sent: width, rate, reason, tick count
  requestSent : Nat := 0                -- R282: requests sent
  acked : Bool := false                 -- R282: the request is acknowledged; 1
  pauseTick : Option Nat := none        -- R282: the tick count at which this side pauses
  pauseBeat : Option Nat := none        -- R282: the model beat at which it pauses because of a flit with pause
  retrainWidth : Nat := 0               -- R282: width of the retrain, as RETRAIN byte 6
  retrainRate : Nat := 0                -- R282: rate of the retrain, as max_rate
  lanesDone : Bool := false             -- R282: the lanes have retrained; 1
  lanesOff : List Nat := []             -- R282: lanes of the port outside the width, by place in the port
  linkDue : Option (Nat × Nat) := none  -- R281: width and rate of a command's retrain that waits for the running one
  idle : Bool := false                  -- R243: lane idle; 1
  idleBeat : Nat := 0                   -- R243: model beat of lane-idle entry
  burst : List Byte := []               -- R244: the symbols that every lane sends last beside flits: the sleep marker or the wake burst
  wakeBeat : Option Nat := none         -- R244: model beat at which the wake burst ends
  lastTx : Nat := 0                     -- R243: model beat of the last flit sent
  replays : BitVec 16 := 0              -- R293 replays; 16
  naksSent : BitVec 16 := 0             -- R293 naks_sent; 16
  duplicates : BitVec 16 := 0           -- R293 duplicates; 16
  stompedRx : BitVec 16 := 0            -- R293 stomped_rx; 16
  leaked : BitVec 16 := 0               -- R293 leaked; 16
  retrains : BitVec 8 := 0              -- R293 retrains; 8
  lastReason : BitVec 3 := 0            -- R293 last_reason; 3
  mgmtOut : List MgmtRec := []          -- R268: MGMT records that wait for VC0, oldest first
  waiting : List Control := []          -- R268: control flits that wait for a flit slot, oldest first
  resend : List (BitVec 12) := []       -- R268, R276: sequence numbers of flits that wait for their replay
  sent : List SentFlit := []            -- MODEL: flits sent, newest first; NULL flits of empty slots apart (R264, log 4)
  lastNull : LinkHeader := {}           -- R268: the header of the NULL sent in the last empty slot, or in a speed step of the last TRAIN
  trainSent : Nat := 0                  -- R263, R266: TRAIN flits sent in the speed steps of this bring-up
  deriving DecidableEq, Repr

/-- One route entry (R291). -/
structure Route where
  valid : Bool := false                 -- R291 valid; 1
  reachable : Bool := false             -- R291 reachable; 1
  station : BitVec 4 := 0               -- R291 trunk station; 4
  deriving DecidableEq, Repr

/-- The trunks and the route table. -/
structure Trunks where
  trunk : Tab Trunk := []               -- R261: 16 trunks
  route : Tab Route := []               -- R291: 16 route entries
  deriving DecidableEq, Repr

/-- Pair states (R307, R318). -/
inductive PairState where
  | unpaired
  | active
  | alone
  | syncing
  | shadow
  | waiting
  deriving DecidableEq, Repr

/-- One unacknowledged mirror record (R300). -/
structure Unacked where
  mseq : BitVec 32 := 0                 -- R300: mirror sequence; 32
  tick : Nat := 0                       -- R303: tick count at which it was formed
  line : Option Nat := none             -- R299: the pool line that a DIR, VAULT_DIRTY or WB_PENDING record names
  kind : Nat := 0                       -- R305: rtype
  deriving DecidableEq, Repr

/-- One recording unit (R300, R301, R303). Index 0-7 home slices, 8 the Teller. -/
structure MirrorUnit where
  mseq : BitVec 32 := 0                 -- R300: last mirror sequence given; 32
  unacked : List Unacked := []          -- R300: records not acknowledged, oldest first
  above : Bool := false                 -- R303: the age is above async_lag; 1
  rxNext : BitVec 32 := 1               -- R301: the mseq applied next; 32
  rxWait : List MirrorRec := []         -- R301: records that arrived ahead of a missing lower mseq
  walked : Bool := true                 -- R308: the resync walk of this unit has ended; 1
  walkFrom : Nat := 0                   -- R308: model beat at which that walk began
  walkPos : Nat := 0                    -- R308: the sets that it has visited
  lastWalk : BitVec 32 := 0             -- R308: mseq of the last record the walk sent; 32
  deriving DecidableEq, Repr

/-- A change of mode and pair state that a partner's record asks for (R307, R313, R315): every mode transition takes effect at a tick
boundary (R482). -/
inductive PairDue where
  | request (station : Nat) (serial : BitVec 48) (device : BitVec 4) (generation : BitVec 32) (pin : Bool)  -- R307: a pair request
  | handoff (generation : BitVec 32)                                                                  -- R313 step 3
  | dissolved                                                                                         -- R307: the partner dissolved the pair
  | standDown (generation : BitVec 32)                                                                -- R315: the generation that stays
  deriving DecidableEq, Repr

/-- The pair (R295 to R318). -/
structure Pair where
  state : PairState := .unpaired        -- R318 state; 3
  generation : BitVec 32 := 0           -- R318 generation, R476; 32
  partnerSerial : BitVec 48 := 0        -- R318 partner_serial, R476; 48
  partnerDev : BitVec 4 := 0            -- R318 partner_dev; 4
  station : Nat := 0                    -- R476: trunk station of the pair
  pinPromote : Bool := true             -- R318 pin_promote; 1
  pinAlive : Bool := false              -- R298, R318 pin_alive; 1
  pinEdge : Nat := 0                    -- R298: tick count of the last edge of PAIR_ALIVE_IN
  aliveOut : Bool := false              -- R298: level of PAIR_ALIVE_OUT; 1
  recovery : Bool := false              -- R314, R318 recovery; 1
  recoveryFull : Bool := false          -- R314: a full season has begun since the flag was set; 1
  resyncDone : Bool := false            -- R316 resync_done; 1
  resyncing : Nat := 0                  -- R308: 0 none, 1 tables phase, 2 directory and vault phase
  asyncLag : BitVec 8 := 8              -- R318 async_lag; 8
  promoteLatch : Bool := false          -- R400: PAIR_PROMOTE is latched; 1
  units : Tab MirrorUnit := []          -- R300: nine recording units
  staged : List MirrorRec := []         -- R302: CONFIG records that wait for their COMMIT, oldest first
  applyDue : List (List MirrorRec) := []  -- R302: changes whose COMMIT is held, applied at the next tick boundary
  holds : List (Nat × BitVec 32 × List MirrorBody) := []  -- R299, R302: changes of the device's own that wait for their COMMIT: key, its mseq, records
  sent : List (BitVec 32 × List MirrorBody) := []  -- R302: changes of commands that were mirrored ahead: the COMMIT's mseq, records
  due : List PairDue := []              -- R482, R571: what the partner asked for, which takes effect at the next tick boundary, oldest first
  cleared : Bool := false               -- R307, R308: tables were cleared, and the first change of the resync is to come; 1
  pinBefore : Bool := true              -- R400: pin_promote as it was before the PAIR_FORM that waits for its answer; 1
  trunkAnew : Bool := false             -- R400: the pair trunk has reached UP since PAIR_PROMOTE was latched; 1
  portsIn : List (Nat × BitVec 64 × BitVec 64) := []  -- R296: ports of the partner that arrived ahead of its answer (log 106)
  forming : Option Nat := none          -- R319: PAIR_FORM waits for the partner's answer since that tick count
  switching : Option Nat := none        -- R313: a switchover runs since that tick count
  dueNoted : Bool := false              -- R317: event 344 has been raised for the promotion that is due; 1
  swept : Bool := true                  -- R312: every ASYNC sweep has ended; 1
  deriving DecidableEq, Repr

end Sys2Proof.Machine
end

