-- ==== Sys2Proof/Machine/Parts/Records.lean ====
section
/-! DEFINITION. The start-up records of the wear book (R476), held by their content: the spec gives the 4 KiB of the
wear book at offset 0 no layout (log 8). -/

namespace Sys2Proof.Machine

/-- The start-up records. -/
structure Records where
  ports : Tab PortEntry := []           -- R476 port layout: port entries
  trunks : Tab TrunkEntry := []         -- R476 port layout: trunk entries
  authority : Tab (BitVec 3) := []      -- R476 authority: the authority table; 3 each
  keys : Tab KeySlot := []              -- R476 key slots: KEY_SLOT 0-3
  bootFloor : BitVec 16 := 0            -- R476 key slots: BOOT_FLOOR; 16
  number : BitVec 4 := 0                -- R476 device number; 4
  generation : BitVec 32 := 0           -- R476 pair: generation; 32
  partnerSerial : BitVec 48 := 0        -- R476 pair: partner serial; 48
  station : Nat := 0                    -- R476 pair: trunk station
  pinPromote : Bool := true             -- R476 pair: pin_promote; 1
  paired : Bool := false                -- R476 pair: paired flag; 1
  deriving DecidableEq, Repr

end Sys2Proof.Machine
end

