-- ==== Sys2Proof/Machine/Parts/Switch.lean ====
section
/-! DEFINITION. The switch core of 06_switch_core: cells, virtual output queues, staging, matching, QoS. -/

namespace Sys2Proof.Machine

/-- A cell: its header fields (R165) and its messages (R164). -/
structure SwCell where
  src : Nat := 0                    -- R165 src; 5
  dst : Nat := 0                    -- R165 dst; 5
  egress : Nat := 0                 -- R165 egress; 7
  cls : BitVec 2 := 0               -- R165 class: snoop, response, request, I/O; 2
  ioSub : BitVec 2 := 0             -- R165 io_sub; 2
  length : BitVec 8 := 0            -- R165 length; 8
  flitTag : BitVec 12 := 0          -- R165 flit_tag; 12
  last : Bool := false              -- R165 last; 1
  cong : Bool := false              -- R165 cong; 1
  devload : BitVec 2 := 0           -- R165 devload; 2
  vc : BitVec 3 := 0                -- R165 vc; 3
  plot : Option Nat := none         -- R165 plot_valid, plot; 1 + 9
  offset : Nat := 0                 -- R165 offset; 42
  bed : Nat := 0                    -- R165 bed; 12
  home : Nat := 0                   -- R165 home; 4
  agent : Nat := 0                  -- R165 agent; 6
  msgs : List Msg := []             -- R164: the messages packed in the cell
  trunk : Option TrunkMsg := none   -- R289: the trunk message header of a cell bound for a trunk
  also : List TrunkMsg := []        -- R289: the headers and messages after the first of a cell bound for a trunk
  output : Nat := 0                 -- MODEL, R164: the output of one transaction that a cell of a slice or the Teller belongs to, 0 where it stands alone
  order : Nat := 0                  -- R170: order of entry
  items : List HomeMsg := []        -- R164: what a cell towards a home slice or the Barrow brings
  part : Nat := 0                   -- MODEL, R163: cells of its TLP that come before it
  flips : List (BitVec 72) := []    -- R196: per 64-bit word of the cell with its code, bits that differ from what was written (logs 12, 73)
  placed : Nat := 0                 -- R179: model beat at which it was placed in the egress flit being assembled
  known : Bool := true              -- R178, R180: its tail status is known good; a station's cell starts without it; 1
  deriving DecidableEq, Repr

/-- A CXL.mem request held at an ingress (R190, R192). -/
structure HeldReq where
  port : Nat := 0                   -- the upstream port
  plot : Nat := 0                   -- the plot
  hpa : BitVec 64 := 0              -- the address; 64
  home : Nat := 0                   -- R92: the bed's home
  bed : Nat := 0                    -- R80: bed
  off : Nat := 0                    -- R80: offset within the bed
  op : MsgOp := .memRd              -- the message
  metaField : MetaField := .meta0   -- MetaField
  metaValue : MetaValue := .I       -- MetaValue
  data : Line := 0                  -- write data; 512
  mask : BitVec 64 := 0             -- byte enables; 64
  poison : Bool := false            -- poison; 1
  placed : Bool := false            -- R80: home, bed and offset are known; 1
  atomOp : AtomOp := .fetchAdd      -- atomic
  size : Nat := 0                   -- atomic operand size
  a : BitVec 128 := 0               -- first operand; 128
  b : BitVec 128 := 0               -- second operand; 128
  io : Bool := false                -- R150: it came through the atomic aperture; 1
  vppb : Nat := 0                   -- R150: the vPPB below which that aperture lies
  flit : BitVec 12 := 0             -- R165: the ingress flit that brought it; 12
  known : Bool := false             -- R178: that flit's tail status is known good; 1
  deriving DecidableEq, Repr

/-- One QoS entry and its hold queues (R188 to R192). Index: plot. -/
structure Qos where
  writeBal : BitVec 20 := 0             -- R188 write_bal; 20
  readBal : BitVec 20 := 0              -- R188 read_bal; 20
  writeCap : BitVec 16 := 0             -- R188 write_cap; 16
  readCap : BitVec 16 := 0              -- R188 read_cap; 16
  burst : BitVec 4 := 4                 -- R188 burst; 4
  weight : BitVec 8 := 0x10             -- R188 weight; 8
  readHeld : List HeldReq := []         -- R190: the read hold queue, oldest first; R188 read_held
  writeHeld : List HeldReq := []        -- R190: the write hold queue, oldest first; R188 write_held
  pending : Option (Nat × Nat × Nat × Nat) := none  -- R189: read_cap, write_cap, burst, weight set and not yet in effect
  replenished : Nat := 0                -- R191: 1 + tick count of the last replenishment
  refillBeat : Nat := 0                 -- R190: 1 + model beat of the last replenishment: what it funds leaves from the next beat on
  deriving DecidableEq, Repr

/-- The switch core. -/
structure Switch where
  voq : List SwCell := []               -- R167: every virtual output queue, in order of entry
  formed : List SwCell := []            -- R167, R169: cells that wait at their source for room in its queue memory or in their queue, in order
  staging : List SwCell := []           -- R172: every egress's staging cells, in order of arrival
  holding : List SwCell := []           -- R179: cells placed in the egress flits that CXL and PCIe ports assemble
  matched : Nat := 0                    -- R162: 1 + model beat of the last matches
  inbox : List SwCell := []             -- R172, R180: cells at the input of a home slice or the Barrow that wait for their tail status
  sent : List SwCell := []              -- MODEL: cells that have left the device's pins, newest first (log 4)
  nextOrder : Nat := 0                  -- R170: order given next
  output : Nat := 0                     -- MODEL, R164: the output that is being formed, 0 for none
  outputs : Nat := 0                    -- MODEL, R164: outputs formed
  grantPtr : Tab Nat := []              -- R173: grant pointer of each output; 26
  acceptPtr : Tab Nat := []             -- R173: accept pointer of each input; 26
  queuePtr : Tab Nat := []              -- R174: queue pointer of each input, output and class
  flitTags : Tab (BitVec 12) := []      -- R165: ingress flit number of each station; 12
  flitPort : Tab Nat := []              -- R180, R528: the port that an ingress flit came in on, 4096 × station + number
  deficit : Tab Nat := []               -- R192: deficits, 4096 × station + 512 × slice + plot
  drrLast : Tab Nat := []               -- R192: plot that took the last credit, 8 × station + slice
  qos : Tab Qos := []                   -- R188: 512 QoS entries
  deriving DecidableEq, Repr

end Sys2Proof.Machine
end

