-- ==== Sys2Proof/Machine/Parts/Teller.lean ====
section
/-! DEFINITION. The Teller of 12_teller: 16 rings, histories, proposals, commands at a boundary and commands QUEUED. -/

namespace Sys2Proof.Machine

/-- A command as the Teller copied it from its slot (R353, R354), with its parameter block (R355). -/
structure Command where
  ring : Nat := 0               -- R348: the ring it was written to
  origin : Nat := 0             -- R362: on ring 14 the originating ring on the partner
  word : BitVec 512 := 0        -- R354: the 64 bytes; 512
  block : List Byte := []       -- R355: the parameter block, empty without ext_param
  commitSeq : Option (BitVec 32) := none  -- R302: the mirror record that must be acknowledged before the effect takes place; 32
  deriving DecidableEq, Repr

/-- A receipt (R361). -/
structure Receipt where
  tag : BitVec 32 := 0          -- R361 tag; 32
  opcode : BitVec 16 := 0       -- R361 opcode; 16
  status : BitVec 16 := 0       -- R361 status; 16
  stamp : BitVec 64 := 0        -- R361 stamp; 64
  result : BitVec 128 := 0      -- R361 result; 128
  deriving DecidableEq, Repr

/-- A receipt on its way to its ring, or from ring 14 to the partner, with its result block (R351, R359, R360). -/
structure Returned where
  receipt : Receipt := {}       -- the receipt
  origin : Nat := 0             -- R362: the originating ring on the partner
  block : List Byte := []       -- R356: the result block
  proposal : Option Nat := none -- R363: the proposal number that the receipt gives its tag's history; 16
  deriving DecidableEq, Repr

/-- One tag of a ring's history (R362, R363). -/
structure HistEntry where
  origin : Nat := 0                    -- R362: originating ring, on ring 14
  tag : BitVec 32 := 0                 -- R362: the tag; 32
  opcode : BitVec 16 := 0              -- R363: the original opcode; 16
  executing : Bool := true             -- R362: still executing; 1
  status : BitVec 16 := 0xFFFF         -- R363 orig_status; 16
  stamp : BitVec 64 := 0               -- R363 orig_stamp; 64
  proposal : BitVec 16 := 0            -- R363 proposal; 16
  receiptNo : Nat := 0                 -- R362: the number of its latest receipt among the ring's receipts, DUPLICATE ones not counted
  deriving DecidableEq, Repr

/-- One ring (R350 to R352). -/
structure Ring where
  cmdTail : BitVec 16 := 0             -- R352 RING_CMD_TAIL; 16
  cmdHead : BitVec 16 := 0             -- R352 RING_CMD_HEAD; 16
  rcptTail : BitVec 16 := 0            -- R352 RING_RCPT_TAIL; 16
  rcptHead : BitVec 16 := 0            -- R352 RING_RCPT_HEAD; 16
  eventEn : Bool := false              -- R352 RING_CONTROL.event_en; 1
  enable : Bool := false               -- R352 RING_CONTROL.enable; 1 on rings 13-15; 1
  duplicates : BitVec 16 := 0          -- R352 RING_STATUS.duplicates; 16
  overrun : Bool := false              -- R352 RING_STATUS.overrun; 1
  overrunBeat : Nat := 0               -- MODEL: 1 + model beat in which overrun was last set (R10, log 59)
  paused : Bool := false               -- R28, R352: starts paused by a steward-only reset or die-link loss; 1
  history : List HistEntry := []       -- R362, R352 RING_HISTORY: tags held, oldest first
  receipts : Nat := 0                  -- R362: receipts written, DUPLICATE ones not counted
  deferred : List Returned := []       -- R359: final receipts that wait for receipt space, oldest first
  firstOpen : Bool := false            -- R358: the last command started has not written its first receipt; 1
  openOrigin : Nat := 0                -- R358, R362: the originating ring of the last command started
  openTag : BitVec 32 := 0             -- R358: the tag of the last command started; 32
  deriving DecidableEq, Repr

/-- A proposal (R368 to R373). -/
structure Proposal where
  number : BitVec 16 := 0              -- R368: proposal number; 16
  cmd : Command := {}                  -- R368: the body
  digest : BitVec 256 := 0             -- R368: SHA-256 of the canonical body, byte 0 lowest; 256
  authority : BitVec 2 := 0            -- R373: the proposer's authority; 2
  remaining : Nat := 0                 -- R370: ticks left of the window; 32
  signer : Option Command := none      -- R371: the COUNTERSIGN that countersigned it
  due : Bool := false                  -- R371, R372: it commits at this tick boundary; 1
  deriving DecidableEq, Repr

/-- What a QUEUED command waits for (R359). -/
inductive JobKind where
  | boundary                                          -- a command that waits for its tick boundary (R359, R381)
  | mode                                              -- DEV_SET_MODE (R385)
  | modeRecord                                        -- DEV_SET_MODE of ring 15 (R385)
  | plot (plot : Nat)                                 -- PLOT_DISABLE, PLOT_RESET (R66)
  | plotQueued (plot : Nat)                           -- PLOT_ENABLE, PLOT_RESET held in the queued field (R67)
  | bedUndefine (bed : Nat)                           -- BED_UNDEFINE (R392)
  | policy (bed : Nat)                                -- BED_SET_POLICY (R146)
  | grow (bed : Nat)                                  -- BED_GROW (R85)
  | shrink (bed : Nat)                                -- BED_SHRINK (R87)
  | extentDefine (ext : Nat)                          -- EXTENT_DEFINE (R78)
  | extentClear (ext : Nat)                           -- EXTENT_CLEAR_FAILED (R392)
  | removal (port : Nat)                              -- PORT_PREPARE_REMOVAL (R223)
  | eyeScan (lane : Nat)                              -- LANE_EYE_SCAN (R253)
  | trunk (station : Nat)                             -- TRUNK_SET_LINK, TRUNK_RETRAIN (R394)
  | flush (job : Nat)                                 -- VAULT_FLUSH (R145)
  | freeze (slice : Nat)                              -- SLICE_FREEZE (R334)
  | save (slice : Nat)                                -- SLICE_SAVE (R339)
  | restore (slice : Nat)                             -- SLICE_RESTORE (R340)
  | migrate (ext : Nat)                               -- EXTENT_MIGRATE (R341)
  | pairForm                                          -- PAIR_FORM (R319, R372)
  | switchover                                        -- PAIR_SWITCHOVER (R313)
  | slotOn (channel : Nat)                            -- SLOT_ON (R405)
  | countersign (number : BitVec 16)                  -- COUNTERSIGN (R372)
  | season                                            -- TIME_SET_SEASON (R38)
  | bist                                              -- HEALTH_BIST (R557)
  | vmin                                              -- HEALTH_VMIN (R557)
  | remoteMap (plot slot : Nat)                       -- PLOT_MAP_BED of a remote bed (R93, R372)
  | forward                                           -- a forwarded command whose first receipt was QUEUED (R360)
  deriving DecidableEq, Repr

/-- A command in QUEUED (R359). -/
structure Job where
  ring : Nat := 0               -- R359: the ring that holds it
  origin : Nat := 0             -- R362
  tag : BitVec 32 := 0          -- R359; 32
  opcode : BitVec 16 := 0       -- R361; 16
  kind : JobKind := .mode       -- what it waits for
  byCommit : Bool := false      -- R359: QUEUED by a commit, so not among the 16 that the ring started itself; 1
  deriving DecidableEq, Repr

/-- A command sent to the partner's ring 14 that waits for its first receipt (R360). -/
structure Forward where
  ring : Nat := 0               -- R360: originating ring
  tag : BitVec 32 := 0          -- R360; 32
  opcode : BitVec 16 := 0       -- R361; 16
  sent : Nat := 0               -- R360: tick count when it was sent
  proposal : Option Nat := none -- R363: the proposal that a COUNTERSIGN names; 16
  resultAddr : Option Nat := none  -- R360: where its result block is written
  deriving DecidableEq, Repr

/-- The Teller. -/
structure Teller where
  rings : Tab Ring := []                 -- R348: 16 rings
  mem : List (Nat × Byte) := []          -- R34, R350: ring memory, 32 KiB × 16 at ring × 0x8000; unlisted bytes read 0 (log 6)
  csParam : List (Nat × Byte) := []      -- R367: the countersign port's parameter buffer, 4 KiB; unlisted bytes read 0 (log 6)
  csResult : List (Nat × Byte) := []     -- R367: the countersign port's result buffer, 4 KiB; unlisted bytes read 0 (log 6)
  csOffset : BitVec 16 := 0              -- R367: the offset of the last private write; 16
  csWide : List (Nat × Byte) := []       -- R367: bytes of a multi-byte register written before its most significant byte
  csAddress : BitVec 7 := 0x3A           -- R366: the port's address, static 0x3A until a dynamic one is taken; 7
  ibi : Option Byte := none              -- R367: the last in-band interrupt's mandatory data byte; 8
  turn : Nat := 15                       -- R358: the ring visited last
  lastStart : Option Nat := none         -- R358: the model beat of the last command start
  proposals : List Proposal := []        -- R370: outstanding proposals, oldest first, at most 8
  expired : List (BitVec 16) := []       -- R370: numbers remembered as expired; 16 each
  nextProposal : BitVec 16 := 1          -- R368: next proposal number; 16
  window : BitVec 32 := 976563           -- R373: ticks a proposal stays open; 32
  authority : Tab (BitVec 3) := []       -- R373: authority mask of each opcode group; 3
  atTick : List Command := []            -- R381: commands whose effect falls at the next tick boundary, oldest first
  jobs : List Job := []                  -- R359: commands in QUEUED
  forwards : List Forward := []          -- R360: forwarded commands without a first receipt
  returns : List Returned := []          -- R360: receipts of ring 14 that travel to the partner, oldest first
  partsIn : List Byte := []              -- R360: what has arrived of the parameter block of the partner's next command
  partsBack : List Byte := []            -- R360: what has arrived of the result block of the partner's next receipt
  blocks14 : List (Nat × List Byte) := []  -- R355: parameter blocks of ring 14, by command count
  origins14 : List (Nat × Nat) := []     -- R362: originating rings of ring 14's waiting commands, by command count
  hwRecords : Nat := 0                   -- R358, R385: records of hardware transitions still waiting on ring 15
  deriving DecidableEq, Repr

end Sys2Proof.Machine
end

