-- ==== Sys2Proof/Machine/Parts/Time.lean ====
section
/-! DEFINITION. The time base of 02_time_base: the almanac, seasons, pair synchronisation and the DORMANT counter. -/

namespace Sys2Proof.Machine

/-- The almanac's synchronisation state (R56). -/
inductive Sync where
  | free
  | acquiring
  | inSync
  | holdover
  deriving DecidableEq, Repr

/-- The time base. A field's comment gives the rule that names it, its width and, where the spec gives no reset value,
the assumption log's entry. -/
structure Time where
  beats : Nat := 0                        -- MODEL: beats passed since power came up, the model's own time base (log 2); unbounded
  ticks : Nat := 0                        -- MODEL: tick boundaries passed since VAUX came up, from which spans of ticks are counted; unbounded
  running : Bool := false                 -- R42, R475: the almanac counts (from stage 2, outside DORMANT); 1
  now : BitVec 64 := 0                    -- R42, R60 ALM_NOW; 64
  nowHi : BitVec 32 := 0                  -- R60 ALM_NOW_HI; 32
  epochGen : BitVec 16 := 0               -- R60 ALM_STATUS.epoch_gen; 16
  seasonK : BitVec 5 := 0x14              -- R38, R60 ALM_STATUS.season_k; 5
  hops : BitVec 4 := 0                    -- R59, R60 ALM_STATUS.hops; 4
  coarse : Bool := false                  -- R49, R60 ALM_STATUS.coarse; 1
  sync : Sync := .free                    -- R56, R60 ALM_STATUS.sync; 2
  seasonStart : BitVec 64 := 0            -- R60 ALM_SEASON_START; 64
  seasonNum : BitVec 32 := 0              -- R60 ALM_SEASON_NUM; 32
  offset : BitVec 32 := 0                 -- R60 ALM_OFFSET; 32
  overrun : BitVec 32 := 0                -- R41, R60 ALM_OVERRUN; 32
  root : Option (BitVec 4) := none        -- R59: the time root named by TIME_SET_ROOT; 4
  newK : Option (BitVec 5) := none        -- R38: the season exponent that waits for its boundary; 5
  seasonDue : Bool := false               -- R37: this boundary's season close has not been taken yet; 1
  closeShort : Bool := false              -- R45: the close due now is marked short; 1
  spanning : Bool := false                -- R50: the season contains DORMANT; 1
  kDue : Bool := false                    -- R38: the close due now is a season boundary under the k in force; 1
  corrDue : Bool := false                 -- R55: this tick's correction beat has not been taken yet; 1
  epochOld : Option (BitVec 64) := none   -- R44, R45: at a boundary that loads an epoch, the value that the next TIME_SET_EPOCH replaces; 64
  measured : Option Int := none           -- R54, R55: the offset measured since the last correction; signed
  catchUp : Bool := false                 -- R55: a hold at every correction beat until the leader has caught up runs; 1
  delay : Int := 0                        -- R54: the delay logged with the last exchange; signed
  means : List Int := []                  -- R55: the offsets of the last 16 exchanges, newest first
  trim : Int := 0                         -- R55: the rate trim: the mean offset of the last 16 exchanges; signed (log 16)
  goodRun : Nat := 0                      -- R56: consecutive exchanges with an absolute offset of at most 2
  badRun : Nat := 0                       -- R56: consecutive exchanges with an absolute offset above 2
  lastExchange : Nat := 0                 -- R56: the tick count at the last exchange
  requestT1 : Option (BitVec 64) := none  -- R54: the stamp t1 of the request that waits for its reply; 64
  dormantE : BitVec 64 := 0               -- R48: the almanac value saved at DORMANT entry; 64
  dormantUs : Nat := 0                    -- R48: the microsecond counter of the always-on domain; unbounded
  dormantBeat : Nat := 0                  -- MODEL, R48: the model beat at which DORMANT was entered; unbounded
  stewardCopy : BitVec 64 := 0            -- R46: the steward die's copy, at the last broadcast; 64
  stewardBeat : Nat := 0                  -- R46, R47: the model beat at which the copy was last set
  broadcastDue : Bool := false            -- R46: this boundary's broadcast has not been sent yet; 1
  deriving DecidableEq, Repr

end Sys2Proof.Machine
end

