-- ==== Sys2Proof/Machine/State.lean ====
section
/-! DEFINITION. The whole state of the block as plain data, the reasons a command can stop, the state at reset, and one
setter for each component. -/

namespace Sys2Proof.Machine

/-- The ways a command ends in a fault. -/
inductive Fault where
  /-- A command names a resource that the device does not have (a port above 127, a ring above 15): R2 gives no such
  resource. Raised by every meaning whose operand is out of the range of R2. Safe: nothing is done and nothing is claimed. -/
  | noSuchResource
  deriving DecidableEq, Repr

/-- The ways a command is refused. -/
inductive Refusal where
  /-- The command has no meaning in the model yet. Raised by the dispatcher alone. Safe: the model stops. -/
  | notModelled (mnemonic : String)
  deriving DecidableEq, Repr

/-- The state of the device, and the queue of commands that wait. -/
structure State where
  time : Time := {}               -- the time base (02_time_base)
  dev : Dev := {}                 -- start, modes and resets (16_start_and_modes)
  evc : Evc := {}                 -- the event controller (15_event_controller)
  ctr : Counters := {}            -- counters, statistics and trace (18_counters_and_seasons)
  ledger : Ledger := {}           -- the fault ledger (19_faults_and_wear)
  wear : Wear := {}               -- the wear book and monitors (19_faults_and_wear)
  records : Records := {}         -- the start-up records of the wear book (R476)
  teller : Teller := {}           -- the Teller (12_teller)
  pool : Pool := {}               -- plots, beds, extents and agents (03_plots_and_beds)
  home : Home := {}               -- the home slices and vault banks (04, 05)
  switch : Switch := {}           -- the switch core and QoS (06_switch_core)
  ports : Ports := {}             -- the CXL and PCIe ports (07_cxl_ports)
  lanes : Lanes := {}             -- the lanes (08_serial_lanes)
  trunks : Trunks := {}           -- the trunks and routes (09_trunk_link)
  pair : Pair := {}               -- the pair (10_redundant_pair)
  barrow : Barrow := {}           -- the Barrow (11_barrow)
  steward : Steward := {}         -- the steward die (14_steward_die)
  dieLink : DieLink := {}         -- the die link (14_steward_die)
  bridge : Bridge := {}           -- the steward bridge (14_steward_die)
  power : Power := {}             -- the power die and power link (17_slot_power)
  free : Nat := 0                 -- MODEL: the number of free values taken so far (log 3)
  pending : List Instr := []      -- the commands that wait, first in, first out
  deriving DecidableEq, Repr

/-- The machine right after reset: every field at the value its structure names. VAUX is absent, PKG_RESET_N is low,
the fabric die is in reset (R474, R475, R491). -/
def State.reset : State := {}

/-- `s` with another time. -/
def State.setTime (s : State) (x : Time) : State := { s with time := x }

/-- `s` with its time changed by a function. -/
def State.modTime (s : State) (f : Time → Time) : State := s.setTime (f s.time)

/-- `s` with another dev. -/
def State.setDev (s : State) (x : Dev) : State := { s with dev := x }

/-- `s` with its dev changed by a function. -/
def State.modDev (s : State) (f : Dev → Dev) : State := s.setDev (f s.dev)

/-- `s` with another evc. -/
def State.setEvc (s : State) (x : Evc) : State := { s with evc := x }

/-- `s` with its evc changed by a function. -/
def State.modEvc (s : State) (f : Evc → Evc) : State := s.setEvc (f s.evc)

/-- `s` with another ctr. -/
def State.setCtr (s : State) (x : Counters) : State := { s with ctr := x }

/-- `s` with its ctr changed by a function. -/
def State.modCtr (s : State) (f : Counters → Counters) : State := s.setCtr (f s.ctr)

/-- `s` with another ledger. -/
def State.setLedger (s : State) (x : Ledger) : State := { s with ledger := x }

/-- `s` with its ledger changed by a function. -/
def State.modLedger (s : State) (f : Ledger → Ledger) : State := s.setLedger (f s.ledger)

/-- `s` with another wear. -/
def State.setWear (s : State) (x : Wear) : State := { s with wear := x }

/-- `s` with its wear changed by a function. -/
def State.modWear (s : State) (f : Wear → Wear) : State := s.setWear (f s.wear)

/-- `s` with another records. -/
def State.setRecords (s : State) (x : Records) : State := { s with records := x }

/-- `s` with its records changed by a function. -/
def State.modRecords (s : State) (f : Records → Records) : State := s.setRecords (f s.records)

/-- `s` with another teller. -/
def State.setTeller (s : State) (x : Teller) : State := { s with teller := x }

/-- `s` with its teller changed by a function. -/
def State.modTeller (s : State) (f : Teller → Teller) : State := s.setTeller (f s.teller)

/-- `s` with another pool. -/
def State.setPool (s : State) (x : Pool) : State := { s with pool := x }

/-- `s` with its pool changed by a function. -/
def State.modPool (s : State) (f : Pool → Pool) : State := s.setPool (f s.pool)

/-- `s` with another home. -/
def State.setHome (s : State) (x : Home) : State := { s with home := x }

/-- `s` with its home changed by a function. -/
def State.modHome (s : State) (f : Home → Home) : State := s.setHome (f s.home)

/-- `s` with another switch. -/
def State.setSwitch (s : State) (x : Switch) : State := { s with switch := x }

/-- `s` with its switch changed by a function. -/
def State.modSwitch (s : State) (f : Switch → Switch) : State := s.setSwitch (f s.switch)

/-- `s` with another ports. -/
def State.setPorts (s : State) (x : Ports) : State := { s with ports := x }

/-- `s` with its ports changed by a function. -/
def State.modPorts (s : State) (f : Ports → Ports) : State := s.setPorts (f s.ports)

/-- `s` with another lanes. -/
def State.setLanes (s : State) (x : Lanes) : State := { s with lanes := x }

/-- `s` with its lanes changed by a function. -/
def State.modLanes (s : State) (f : Lanes → Lanes) : State := s.setLanes (f s.lanes)

/-- `s` with another trunks. -/
def State.setTrunks (s : State) (x : Trunks) : State := { s with trunks := x }

/-- `s` with its trunks changed by a function. -/
def State.modTrunks (s : State) (f : Trunks → Trunks) : State := s.setTrunks (f s.trunks)

/-- `s` with another pair. -/
def State.setPair (s : State) (x : Pair) : State := { s with pair := x }

/-- `s` with its pair changed by a function. -/
def State.modPair (s : State) (f : Pair → Pair) : State := s.setPair (f s.pair)

/-- `s` with another barrow. -/
def State.setBarrow (s : State) (x : Barrow) : State := { s with barrow := x }

/-- `s` with its barrow changed by a function. -/
def State.modBarrow (s : State) (f : Barrow → Barrow) : State := s.setBarrow (f s.barrow)

/-- `s` with another steward. -/
def State.setSteward (s : State) (x : Steward) : State := { s with steward := x }

/-- `s` with its steward changed by a function. -/
def State.modSteward (s : State) (f : Steward → Steward) : State := s.setSteward (f s.steward)

/-- `s` with another dieLink. -/
def State.setDieLink (s : State) (x : DieLink) : State := { s with dieLink := x }

/-- `s` with its dieLink changed by a function. -/
def State.modDieLink (s : State) (f : DieLink → DieLink) : State := s.setDieLink (f s.dieLink)

/-- `s` with another bridge. -/
def State.setBridge (s : State) (x : Bridge) : State := { s with bridge := x }

/-- `s` with its bridge changed by a function. -/
def State.modBridge (s : State) (f : Bridge → Bridge) : State := s.setBridge (f s.bridge)

/-- `s` with another power. -/
def State.setPower (s : State) (x : Power) : State := { s with power := x }

/-- `s` with its power changed by a function. -/
def State.modPower (s : State) (f : Power → Power) : State := s.setPower (f s.power)

/-- `s` with another free. -/
def State.setFree (s : State) (x : Nat) : State := { s with free := x }

/-- `s` with another pending. -/
def State.setPending (s : State) (x : List Instr) : State := { s with pending := x }

end Sys2Proof.Machine
end

