-- ==== Sys2Proof/Machine/Table.lean ====
section
/-! DEFINITION. The operations on sparse tables. -/

namespace Sys2Proof

/-- The content listed at an index, if one is. -/
def Tab.find {α : Type} : Tab α → Nat → Option α
  | [], _ => none
  | (k, v) :: rest, i => if i = k then some v else if i < k then none else Tab.find rest i

/-- The content at an index, `d` where nothing is listed. -/
def Tab.get {α : Type} (t : Tab α) (d : α) (i : Nat) : α := (t.find i).getD d

/-- List a content at an index, keeping the indices strictly rising. -/
def Tab.put {α : Type} : Tab α → Nat → α → Tab α
  | [], i, v => [(i, v)]
  | (k, w) :: rest, i, v =>
    if i < k then (i, v) :: (k, w) :: rest
    else if i = k then (k, v) :: rest
    else (k, w) :: Tab.put rest i v

/-- Remove what is listed at an index. -/
def Tab.drop {α : Type} : Tab α → Nat → Tab α
  | [], _ => []
  | (k, w) :: rest, i => if i = k then rest else if i < k then (k, w) :: rest else (k, w) :: Tab.drop rest i

/-- Set the content at an index of a table whose unlisted indices hold `d`: writing `d` unlists the index, so equal
tables are equal data. -/
def Tab.set {α : Type} [DecidableEq α] (t : Tab α) (d : α) (i : Nat) (v : α) : Tab α :=
  if v = d then t.drop i else t.put i v

/-- Change the content at an index by a function. -/
def Tab.upd {α : Type} [DecidableEq α] (t : Tab α) (d : α) (i : Nat) (f : α → α) : Tab α :=
  t.set d i (f (t.get d i))

/-- Every index of a table lies below the index given first and rises. -/
def Tab.above {α : Type} : Option Nat → Tab α → Bool
  | _, [] => true
  | none, (k, _) :: rest => Tab.above (some k) rest
  | some b, (k, _) :: rest => decide (b < k) && Tab.above (some k) rest

/-- The canonical form of a sparse table with reset content `d`: strictly rising indices, no listed content equal
to `d`. -/
def Tab.wf {α : Type} [DecidableEq α] (t : Tab α) (d : α) : Bool :=
  Tab.above none t && t.all (fun e => decide (e.2 ≠ d))

end Sys2Proof
end

