-- ==== Sys2Proof/WellFormed.lean ====
section
/-! DEFINITION. Which commands name resources that the device has (R2): every number within its range. -/

namespace Sys2Proof

/-- A command is well formed when every resource it names lies within the range of R2 and of the chapter that owns it. -/
def Instr.wf : Instr → Bool
  | .devIdentify ring => decide (ring < 16)
  | .devStatus ring => decide (ring < 16)
  | .devSetMode ring => decide (ring < 16)
  | .devReset ring => decide (ring < 16)
  | .devSetNumber ring => decide (ring < 16)
  | .devSetKeySlot ring => decide (ring < 16)
  | .devRevokeKeySlot ring => decide (ring < 16)
  | .plotConfigure ring => decide (ring < 16)
  | .plotRelease ring => decide (ring < 16)
  | .plotMapBed ring => decide (ring < 16)
  | .plotUnmapBed ring => decide (ring < 16)
  | .plotEnable ring => decide (ring < 16)
  | .plotDisable ring => decide (ring < 16)
  | .plotReset ring => decide (ring < 16)
  | .plotSetSanitize ring => decide (ring < 16)
  | .plotSetQos ring => decide (ring < 16)
  | .plotRead ring => decide (ring < 16)
  | .bedDefine ring => decide (ring < 16)
  | .bedUndefine ring => decide (ring < 16)
  | .bedSetPolicy ring => decide (ring < 16)
  | .bedGrow ring => decide (ring < 16)
  | .bedShrink ring => decide (ring < 16)
  | .bedExport ring => decide (ring < 16)
  | .bedRead ring => decide (ring < 16)
  | .extentDefine ring => decide (ring < 16)
  | .extentUndefine ring => decide (ring < 16)
  | .extentClearFailed ring => decide (ring < 16)
  | .extentRead ring => decide (ring < 16)
  | .portSetRole ring => decide (ring < 16)
  | .portSetLink ring => decide (ring < 16)
  | .portRetrain ring => decide (ring < 16)
  | .portRead ring => decide (ring < 16)
  | .portStatus ring => decide (ring < 16)
  | .portPrepareRemoval ring => decide (ring < 16)
  | .portSetIdeKey ring => decide (ring < 16)
  | .portBindLd ring => decide (ring < 16)
  | .portUnbindLd ring => decide (ring < 16)
  | .portSetLoadThresholds ring => decide (ring < 16)
  | .laneSet ring => decide (ring < 16)
  | .laneRead ring => decide (ring < 16)
  | .laneStatus ring => decide (ring < 16)
  | .laneSetLoop ring => decide (ring < 16)
  | .lanePrbs ring => decide (ring < 16)
  | .laneEyeScan ring => decide (ring < 16)
  | .trunkSet ring => decide (ring < 16)
  | .trunkRead ring => decide (ring < 16)
  | .trunkStatus ring => decide (ring < 16)
  | .trunkSetLink ring => decide (ring < 16)
  | .trunkRetrain ring => decide (ring < 16)
  | .trunkRestart ring => decide (ring < 16)
  | .trunkSetBuffers ring => decide (ring < 16)
  | .trunkSetRoute ring => decide (ring < 16)
  | .cohSetWeeder ring => decide (ring < 16)
  | .cohSetSnoopTimeout ring => decide (ring < 16)
  | .cohSetLoadThresholds ring => decide (ring < 16)
  | .cohReadEntry ring => decide (ring < 16)
  | .cohLookup ring => decide (ring < 16)
  | .cohStatus ring => decide (ring < 16)
  | .vaultFlush ring => decide (ring < 16)
  | .vaultSetWriteTimeout ring => decide (ring < 16)
  | .vaultSetPredictor ring => decide (ring < 16)
  | .vaultStatus ring => decide (ring < 16)
  | .vaultReadTag ring => decide (ring < 16)
  | .vaultReadPredictor ring => decide (ring < 16)
  | .sliceBind ring => decide (ring < 16)
  | .sliceUnbind ring => decide (ring < 16)
  | .sliceMapPasid ring => decide (ring < 16)
  | .sliceUnmapPasid ring => decide (ring < 16)
  | .sliceFreeze ring => decide (ring < 16)
  | .sliceThaw ring => decide (ring < 16)
  | .sliceReset ring => decide (ring < 16)
  | .sliceClearFault ring => decide (ring < 16)
  | .sliceSave ring => decide (ring < 16)
  | .sliceRestore ring => decide (ring < 16)
  | .sliceStatus ring => decide (ring < 16)
  | .extentMigrate ring => decide (ring < 16)
  | .extentMigrateCancel ring => decide (ring < 16)
  | .pairForm ring => decide (ring < 16)
  | .pairDissolve ring => decide (ring < 16)
  | .pairSwitchover ring => decide (ring < 16)
  | .pairAssume ring => decide (ring < 16)
  | .pairPromote ring => decide (ring < 16)
  | .pairSetLag ring => decide (ring < 16)
  | .pairClearRecovery ring => decide (ring < 16)
  | .pairStatus ring => decide (ring < 16)
  | .evtSetSource ring => decide (ring < 16)
  | .evtReadSource ring => decide (ring < 16)
  | .evtTrigger ring => decide (ring < 16)
  | .ctrSetSelect ring => decide (ring < 16)
  | .ctrSnapshot ring => decide (ring < 16)
  | .ctrRead ring => decide (ring < 16)
  | .statRead ring => decide (ring < 16)
  | .slotSet ring => decide (ring < 16)
  | .slotOn ring => decide (ring < 16)
  | .slotOff ring => decide (ring < 16)
  | .slotClearLatch ring => decide (ring < 16)
  | .slotRead ring => decide (ring < 16)
  | .slotStatus ring => decide (ring < 16)
  | .feedSet ring => decide (ring < 16)
  | .feedStatus ring => decide (ring < 16)
  | .wearRead ring => decide (ring < 16)
  | .wearSummary ring => decide (ring < 16)
  | .ledgerRead ring => decide (ring < 16)
  | .ledgerStatus ring => decide (ring < 16)
  | .healthBist ring => decide (ring < 16)
  | .healthVmin ring => decide (ring < 16)
  | .countersign ring => decide (ring < 16)
  | .csWithdraw ring => decide (ring < 16)
  | .csList ring => decide (ring < 16)
  | .csSetWindow ring => decide (ring < 16)
  | .csSetAuthority ring => decide (ring < 16)
  | .timeSetEpoch ring => decide (ring < 16)
  | .timeSetSeason ring => decide (ring < 16)
  | .timeSetRoot ring => decide (ring < 16)
  | .timeRead ring => decide (ring < 16)
  | .traceSetFilter ring => decide (ring < 16)
  | .traceStart ring => decide (ring < 16)
  | .traceStop ring => decide (ring < 16)
  | .traceRead ring => decide (ring < 16)
  | .proposalCommit _ => true
  | .proposalExpiry _ => true
  | .ringCmdTailWrite ring _ => decide (ring < 16)
  | .ringRcptHeadWrite ring _ => decide (ring < 16)
  | .receiptWriteDeferred ring => decide (ring < 16)
  | .commandForward ring => decide (ring < 16)
  | .forwardTimeout ring _ => decide (ring < 16)
  | .mgmtRecord station _ => decide (station < 16)
  | .countersignPortWrite _ _ => true
  | .tickBoundary => true
  | .seasonClose => true
  | .qosReplenish plot => decide (plot < 512)
  | .almanacCorrection => true
  | .syncHoldover => true
  | .syncFree => true
  | .memrd port _ _ _ _ => decide (port < 128)
  | .memrddata port _ _ => decide (port < 128)
  | .meminv port _ _ _ _ _ => decide (port < 128)
  | .memwr port _ _ _ _ _ _ => decide (port < 128)
  | .memwrptl port _ _ _ _ _ _ _ => decide (port < 128)
  | .memspecrd port _ => decide (port < 128)
  | .biconflict port _ => decide (port < 128)
  | .birspi port _ => decide (port < 128)
  | .birsps port _ => decide (port < 128)
  | .birspe port _ => decide (port < 128)
  | .deviceMemdata port head _ _ _ => decide (port < 128) && decide (head.ld < 16)
  | .deviceWriteCmp port head _ => decide (port < 128) && decide (head.ld < 16)
  | .atomicop port vppb _ _ _ _ _ => decide (port < 128) && decide (vppb < 17)
  | .apertureRead port vppb _ => decide (port < 128) && decide (vppb < 17)
  | .apertureWrite port vppb _ _ _ => decide (port < 128) && decide (vppb < 17)
  | .tailStatus station _ _ => decide (station < 16)
  | .cellMatch => true
  | .overflowReadmit slice => decide (slice < 8)
  | .snoopTimeout slice txn agent => decide (slice < 8) && decide (txn < 1024) && decide (agent < 64)
  | .upstreamLinkDown port => decide (port < 128)
  | .lossScanStart agent => decide (agent < 64)
  | .lossScanComplete slice agent => decide (slice < 8) && decide (agent < 64)
  | .upstreamLinkReturn port => decide (port < 128)
  | .retirementPassStart => true
  | .retirementPassEnd => true
  | .writeTimeout slice pos => decide (slice < 8) && decide (pos < 512)
  | .writeRetry slice pos => decide (slice < 8) && decide (pos < 512)
  | .poisonWrite slice pos => decide (slice < 8) && decide (pos < 512)
  | .lineRelease slice pos => decide (slice < 8) && decide (pos < 512)
  | .ripenerPass bank => decide (bank < 8)
  | .vaultFlushComplete _ => true
  | .policyScanComplete bed => decide (bed < 4096)
  | .downstreamLinkDown port => decide (port < 128)
  | .extentScanStart port => decide (port < 128)
  | .extentScanComplete port => decide (port < 128)
  | .deviceErrorReport port ld _ => decide (port < 128) && decide (ld < 16)
  | .deviceViral port ld => decide (port < 128) && decide (ld < 16)
  | .hostViral port => decide (port < 128)
  | .portDiscovery port _ => decide (port < 128)
  | .cxl128Attempt port => decide (port < 128)
  | .cxl128Failed port _ => decide (port < 128)
  | .yalkelDvsecWrite port _ => decide (port < 128)
  | .hdmDecoderCommit port vppb index _ _ _ _ _ _ => decide (port < 128) && decide (vppb < 17) && decide (index < 4)
  | .configRequestRetry port => decide (port < 128)
  | .hostCxlReset port plot _ => decide (port < 128) && decide (plot < 512)
  | .ideFailure port => decide (port < 128)
  | .laneMarginingRequest lane _ => decide (lane < 256)
  | .loopbackRequest port => decide (port < 128)
  | .identifyMemoryDevice plot => decide (plot < 512)
  | .getDynamicCapacityConfiguration plot => decide (plot < 512)
  | .getDynamicCapacityExtentList plot => decide (plot < 512)
  | .addDynamicCapacityResponse plot slot _ => decide (plot < 512) && decide (slot < 8)
  | .releaseDynamicCapacity plot slot _ => decide (plot < 512) && decide (slot < 8)
  | .getEventRecords plot _ => decide (plot < 512)
  | .clearEventRecords plot _ _ => decide (plot < 512)
  | .getSupportedLogs plot => decide (plot < 512)
  | .getLog plot _ => decide (plot < 512)
  | .getPoisonList plot => decide (plot < 512)
  | .unsupportedMailboxCommand plot _ => decide (plot < 512)
  | .addCapacityEvent port ld _ _ => decide (port < 128) && decide (ld < 16)
  | .releaseCapacityRequest port ld _ _ => decide (port < 128) && decide (ld < 16)
  | .forcedRelease port ld _ _ => decide (port < 128) && decide (ld < 16)
  | .bedShrinkTimeout bed => decide (bed < 4096)
  | .bedCountChange bed => decide (bed < 4096)
  | .plotDrainComplete plot => decide (plot < 512)
  | .plotDrainTimeout plot => decide (plot < 512)
  | .plotSanitizeComplete plot => decide (plot < 512)
  | .plotQueuedCommandRun plot => decide (plot < 512)
  | .zeroingStart extent => decide (extent < 1048576)
  | .zeroingComplete extent _ => decide (extent < 1048576)
  | .migCopy extent => decide (extent < 1048576)
  | .extentFlip extent => decide (extent < 1048576)
  | .submission port _ _ _ _ _ => decide (port < 128)
  | .descriptorStart slice => decide (slice < 512)
  | .copy slice => decide (slice < 512)
  | .fill slice => decide (slice < 512)
  | .compare slice => decide (slice < 512)
  | .crc slice => decide (slice < 512)
  | .atomic slice => decide (slice < 512)
  | .descriptorComplete slice => decide (slice < 512)
  | .barrowHostReadTimeout slice => decide (slice < 512)
  | .sliceFrozen slice => decide (slice < 512)
  | .sliceSaveComplete slice _ => decide (slice < 512)
  | .sliceRestoreComplete slice _ => decide (slice < 512)
  | .slcControlFreezeComplete port slice => decide (port < 128) && decide (slice < 512)
  | .slcControlFreezeBoundary port slice => decide (port < 128) && decide (slice < 512)
  | .slcControlThaw port slice => decide (port < 128) && decide (slice < 512)
  | .slcControlReset port slice => decide (port < 128) && decide (slice < 512)
  | .slcControlClearFault port slice => decide (port < 128) && decide (slice < 512)
  | .slcControlSave port slice => decide (port < 128) && decide (slice < 512)
  | .slcControlRestore port slice => decide (port < 128) && decide (slice < 512)
  | .slcControlMalformed port slice _ => decide (port < 128) && decide (slice < 512)
  | .pairRequest station _ _ _ _ => decide (station < 16)
  | .config _ _ _ _ => true
  | .commit _ _ _ => true
  | .dir _ set way _ => decide (set < 65536) && decide (way < 16)
  | .vaultDirty _ set way _ _ => decide (set < 65536) && decide (way < 16)
  | .vaultClean _ set way => decide (set < 65536) && decide (way < 16)
  | .wbPending _ pos _ _ _ => decide (pos < 512)
  | .wbDone _ pos => decide (pos < 512)
  | .ack unit _ => decide (unit < 9)
  | .resyncComplete => true
  | .mirrorLagExceeded unit => decide (unit < 9)
  | .promotion => true
  | .asyncSweepComplete slice bed => decide (slice < 8) && decide (bed < 4096)
  | .handoff _ => true
  | .switchoverQuiesced => true
  | .switchoverTimeout => true
  | .pairAliveEdge => true
  | .pairAliveStopped => true
  | .trunkHello station lane _ => decide (station < 16) && decide (lane < 256)
  | .helloTimeout station => decide (station < 16)
  | .trunkTrain station lane _ => decide (station < 16) && decide (lane < 256)
  | .speedStepTimeout station => decide (station < 16)
  | .trunkInit station _ _ _ _ _ => decide (station < 16)
  | .trunkData station _ _ _ => decide (station < 16)
  | .trunkNull station _ _ _ => decide (station < 16)
  | .trunkNak station _ _ _ => decide (station < 16)
  | .nakResend station => decide (station < 16)
  | .replayTimeout station => decide (station < 16)
  | .trunkAudit station _ _ => decide (station < 16)
  | .trunkTime station _ _ _ _ _ => decide (station < 16)
  | .trunkHeartbeat station _ _ _ _ _ _ => decide (station < 16)
  | .trunkRetrainRequest station _ _ _ _ _ => decide (station < 16)
  | .retrainPause station => decide (station < 16)
  | .retrainRequestRepeat station => decide (station < 16)
  | .retrainTimeout station => decide (station < 16)
  | .trunkSilence station => decide (station < 16)
  | .controlCreditStall station vc => decide (station < 16) && decide (vc < 8)
  | .trunkAutoRestart station => decide (station < 16)
  | .laneIdleEntry station => decide (station < 16)
  | .laneIdleExit station => decide (station < 16)
  | .l0sEntry port => decide (port < 128)
  | .l0sExit port => decide (port < 128)
  | .laneLos lane => decide (lane < 256)
  | .laneLol lane => decide (lane < 256)
  | .eyeScanComplete lane _ _ _ _ => decide (lane < 256)
  | .sourceAssertion source => decide (source < 2048)
  | .evcOffer target => decide (target < 4)
  | .withdrawAcknowledged target => decide (target < 4)
  | .take target source _ => decide (target < 4) && decide (source < 2048)
  | .offerTaken hart => decide (hart < 4)
  | .withdrawReceived hart source => decide (hart < 4) && decide (source < 2048)
  | .evcDone hart _ => decide (hart < 4)
  | .evcTgtReset _ => true
  | .evcSwtrig _ => true
  | .evcPendClear word _ => decide (word < 32)
  | .dieLinkDown => true
  | .dieLinkUp _ => true
  | .dieLinkNak _ _ => true
  | .dieLinkCredit _ channel count => decide (channel < 8) && decide (count < 64)
  | .dieLinkReplayTimeout _ => true
  | .dieLinkAccessTimeout hart => decide (hart < 4)
  | .almanacBroadcast => true
  | .postedInWrite => true
  | .tellerAccess hart _ _ size _ => decide (hart < 4) && decide (size < 9)
  | .bridgeLoad hart _ size => decide (hart < 4) && decide (size < 9)
  | .bridgeStore hart _ size _ => decide (hart < 4) && decide (size < 9)
  | .bridgeConfigWrite hart _ size _ => decide (hart < 4) && decide (size < 9)
  | .bridgeLr hart _ size => decide (hart < 4) && decide (size < 9)
  | .bridgeSc hart _ size _ => decide (hart < 4) && decide (size < 9)
  | .bridgeAmo hart _ size _ _ => decide (hart < 4) && decide (size < 9)
  | .bridgeCompletion slot _ _ => decide (slot < 16)
  | .delayedReadDiscard slot => decide (slot < 16)
  | .bridgeCplTimeout slot => decide (slot < 16)
  | .semaphoreTimeout semaphore => decide (semaphore < 16)
  | .semaphoreWaitTimeout hart => decide (hart < 4)
  | .inboundWrite port _ _ _ => decide (port < 128)
  | .inboundMessage port _ _ _ _ _ _ => decide (port < 128)
  | .brgTxSend _ => true
  | .qspiTransfer _ => true
  | .qspiTransferDone _ => true
  | .watchdogKick => true
  | .watchdogEnable => true
  | .watchdogExpiry => true
  | .stewardBoot _ _ => true
  | .vauxPowerOn _ _ _ => true
  | .vauxLoss => true
  | .pkgResetAssert _ => true
  | .fabricResetRelease => true
  | .recordsLoaded _ => true
  | .bistResult _ => true
  | .sproutDeadline => true
  | .fallowFlushComplete => true
  | .fallowTimeout => true
  | .dormantEntry => true
  | .dormantQuietTimeout => true
  | .wake _ => true
  | .resetStart => true
  | .stewardOnlyReset => true
  | .counterModeSwitch => true
  | .counterTriggerSnapshot => true
  | .ledgerWrite => true
  | .ledgerPersist => true
  | .lifeClockHour => true
  | .thermalReading _ => true
  | .thermalTrip => true
  | .vidStep _ => true
  | .powerLinkRegisterWrite _ _ _ _ => true
  | .powerLinkRegisterRead _ _ _ => true
  | .powerLinkResponse _ _ _ _ => true
  | .powerLinkTelemetry slot _ _ _ => decide (slot < 4)
  | .powerLinkAlarm _ => true
  | .wearBookRead _ _ => true
  | .wearBookWrite _ _ _ => true
  | .powerLinkResend => true
  | .powerLinkProbe => true
  | .chCtrlOn channel => decide (channel < 48)
  | .chCtrlOff channel => decide (channel < 48)
  | .chCtrlClearLatch channel => decide (channel < 48)
  | .presenceDetect channel => decide (channel < 48)
  | .debounceComplete channel => decide (channel < 48)
  | .presenceBounce channel => decide (channel < 48)
  | .presenceLost channel => decide (channel < 48)
  | .insertionDelayEnd channel => decide (channel < 48)
  | .rampReached channel _ => decide (channel < 48)
  | .qualifyComplete channel => decide (channel < 48)
  | .faultTimerExpiry channel => decide (channel < 48)
  | .fastTrip channel _ => decide (channel < 48)
  | .rampTimeout channel => decide (channel < 48)
  | .gateRiseTimeout channel => decide (channel < 48)
  | .retryIntervalEnd channel => decide (channel < 48)
  | .pgHeld60s channel => decide (channel < 48)
  | .stuckOn channel => decide (channel < 48)
  | .feedBad _ => true
  | .feedGood _ => true
  | .feedReturnToA => true
  | .feedDeadTimeEnd => true
  | .perstRelease channel => decide (channel < 48)
  | .pgFall channel => decide (channel < 48)
  | .registerWrite writer _ size _ => decide (size < 9) &&
    (match writer with | .hart n => decide (n < 4) | .countersign | .jtag => true | .host port => decide (port < 128))
  | .passThroughTlp port _ => decide (port < 128)
  | .portReachesL0 port _ _ _ _ => decide (port < 128)
  | .remoteMapTimeout plot slot => decide (plot < 512) && decide (slot < 8)
  | .pairFormTimeout => true
  | .helloWaitEnd station => decide (station < 16)
  | .furtherHellosDone station => decide (station < 16)
  | .retrainEnd station _ => decide (station < 16)
  | .losDeassert lane => decide (lane < 256)
  | .lolDeassert lane => decide (lane < 256)
  | .prbsLock lane => decide (lane < 256)
  | .prbsLockLost lane _ => decide (lane < 256)
  | .dieLinkCrcError _ => true
  | .dieLinkMalformedFlit _ _ => true
  | .barrowHostCompletion slice _ _ => decide (slice < 512)
  | .dynamicAddressAssignment _ _ => true
  | .almNowLowLoad => true
  | .extentDefineScanComplete extent => decide (extent < 1048576)
  | .healthBistComplete _ _ => true
  | .healthVminComplete _ => true

end Sys2Proof
end

