-- ==== Sys2Proof/Machine/Ops.lean ====
section
/-! DEFINITION. The named operations over the state's tables and memories that every meaning uses. -/

namespace Sys2Proof.Machine

/-- What a meaning answers. -/
abbrev Out := Host.Outcome State Fault Refusal

/-- A command whose operands lie within the ranges of R2 (`ok`, which is the command's `Instr.wf`) ends in the next state `t` it makes
of `s`, and leaves the queue of waiting commands as it is; any other names a resource that the device does not have. -/
def whenWf (s : State) (ok : Bool) (t : State) : Out := if ok then .next (t.setPending s.pending) else .fault .noSuchResource

/-- Do `f` only when `b` holds; otherwise the step does not come about and the state stays (log 5). -/
def onlyIf (b : Bool) (f : State → State) (s : State) : State := if b then f s else s

/-- Apply an operation to each element of a list in order. -/
def forEach {α : Type} (l : List α) (f : α → State → State) (s : State) : State := l.foldl (fun t x => f x t) s

/-- An element put into a list before the first one that does not precede it. -/
def insertBy {α : Type} (before : α → α → Bool) (x : α) : List α → List α
  | [] => [x]
  | y :: rest => if before y x then y :: insertBy before x rest else x :: y :: rest

/-- A list in order; elements that tie keep their places. -/
def sortBy {α : Type} (before : α → α → Bool) : List α → List α
  | [] => []
  | x :: rest => insertBy (fun a b => !before b a) x (sortBy before rest)

/-- Whether a memory is in canonical form: addresses strictly rising, no byte listed that an unlisted address reads
as. -/
def Memory.wf (d : Byte) (m : List (Nat × Byte)) : Bool := Tab.wf m d

/-- The byte at an address of a memory whose unlisted addresses read `d`. -/
def memGet (d : Byte) (m : List (Nat × Byte)) (a : Nat) : Byte := Tab.get m d a

/-- A memory with one byte written. -/
def memSet (d : Byte) (m : List (Nat × Byte)) (a : Nat) (b : Byte) : List (Nat × Byte) := Tab.set m d a b

/-- `n` bytes of a memory from an address on. -/
def memRead (d : Byte) (m : List (Nat × Byte)) (a n : Nat) : List Byte := (List.range n).map (fun i => memGet d m (a + i))

/-- A memory with bytes written from an address on. -/
def memWrite (d : Byte) (m : List (Nat × Byte)) (a : Nat) : List Byte → List (Nat × Byte)
  | [] => m
  | b :: rest => memWrite d (memSet d m a b) (a + 1) rest

/-- A free value, numbered by the state's counter (log 3), and the state with the counter advanced. -/
def takeFree (s : State) : BitVec 64 × State := (Config.freeValue s.free, s.setFree (s.free + 1))

/-- A line whose bits are free (log 22), and the state with the counter advanced. -/
def takeFreeLine (s : State) : Line × State := (Config.freeLine s.free, s.setFree (s.free + 1))

/-- Line requests that the Barrow has issued in this beat (R331). -/
def State.lineTurns (s : State) : Nat := if s.barrow.turnBeat = 1 + s.time.beats then s.barrow.lines else 0

/-- TLPs that the Barrow has issued in this beat (R331). -/
def State.tlpTurns (s : State) : Nat := if s.barrow.turnBeat = 1 + s.time.beats then s.barrow.tlps else 0

/-- The Barrow issues a line request or a TLP (R331). -/
def useTurn (line : Bool) (s : State) : State :=
  { s with barrow := { s.barrow with turnBeat := 1 + s.time.beats, lines := s.lineTurns + (if line then 1 else 0),
                                     tlps := s.tlpTurns + (if line then 0 else 1) } }

/-- The almanac. -/
def State.now (s : State) : BitVec 64 := s.time.now

/-- The almanac unit of R141: (almanac >> 20) & 0x3FF. -/
def State.unit (s : State) : Nat := (s.time.now.toNat / 2 ^ 20) % 1024

/-- Tick boundaries passed, from which spans of ticks are counted. -/
def State.tick (s : State) : Nat := s.time.ticks

/-- Power-die samples of 1 µs: 1,000 beats each (log 10). -/
def State.sample (s : State) : Nat := s.time.beats / 1000

/-- Change one ring. Rings 13 to 15 have enable 1 at reset, rings 0 to 12 have it 0 (R352). -/
def ringReset (n : Nat) : Ring := { enable := decide (13 ≤ n) }

/-- One ring. -/
def State.ring (s : State) (n : Nat) : Ring := Tab.get s.teller.rings (ringReset n) n

/-- Change one ring. -/
def State.modRing (s : State) (n : Nat) (f : Ring → Ring) : State :=
  s.modTeller (fun t => { t with rings := Tab.set t.rings (ringReset n) n (f (s.ring n)) })

/-- One plot. -/
def State.plot (s : State) (p : Nat) : Plot := Tab.get s.pool.plots {} p

/-- Change one plot. -/
def State.modPlot (s : State) (p : Nat) (f : Plot → Plot) : State :=
  s.modPool (fun t => { t with plots := Tab.upd t.plots {} p f })

/-- One bed slot of a plot. -/
def Plot.slot (p : Plot) (k : Nat) : BedSlot := Tab.get p.slots {} k

/-- Change one bed slot of a plot. -/
def State.modSlot (s : State) (p k : Nat) (f : BedSlot → BedSlot) : State :=
  s.modPlot p (fun x => { x with slots := Tab.upd x.slots {} k f })

/-- The valid bed slots of a plot, with their numbers. -/
def Plot.validSlots (p : Plot) : List (Nat × BedSlot) := p.slots.filter (fun e => e.2.valid)

/-- One bed. -/
def State.bed (s : State) (b : Nat) : Bed := Tab.get s.pool.beds {} b

/-- Change one bed. -/
def State.modBed (s : State) (b : Nat) (f : Bed → Bed) : State :=
  s.modPool (fun t => { t with beds := Tab.upd t.beds {} b f })

/-- One extent. -/
def State.extent (s : State) (i : Nat) : Extent := Tab.get s.pool.extents {} i

/-- Change one extent. -/
def State.modExtent (s : State) (i : Nat) (f : Extent → Extent) : State :=
  s.modPool (fun t => { t with extents := Tab.upd t.extents {} i f })

/-- One agent ID. -/
def State.agent (s : State) (a : Nat) : Agent := Tab.get s.pool.agents {} a

/-- Change one agent ID. -/
def State.modAgent (s : State) (a : Nat) (f : Agent → Agent) : State :=
  s.modPool (fun t => { t with agents := Tab.upd t.agents {} a f })

/-- One home slice. -/
def State.slice (s : State) (i : Nat) : Slice := Tab.get s.home.slices {} i

/-- Change one home slice. -/
def State.modSlice (s : State) (i : Nat) (f : Slice → Slice) : State :=
  s.modHome (fun t => { t with slices := Tab.upd t.slices {} i f })

/-- One port. -/
def State.port (s : State) (p : Nat) : Port := Tab.get s.ports.port {} p

/-- Change one port. -/
def State.modPort (s : State) (p : Nat) (f : Port → Port) : State :=
  s.modPorts (fun t => { t with port := Tab.upd t.port {} p f })

/-- One vPPB of a port's virtual switch. -/
def State.vppb (s : State) (p v : Nat) : Vppb :=
  let x := Tab.get s.ports.vppb {} (17 * p + v)
  if v = 16 then { x with presence := true, dlActive := true } else x

/-- Change one vPPB. -/
def State.modVppb (s : State) (p v : Nat) (f : Vppb → Vppb) : State :=
  s.modPorts (fun t => { t with vppb := Tab.upd t.vppb {} (17 * p + v) f })

/-- One lane. -/
def State.lane (s : State) (l : Nat) : Lane := Tab.get s.lanes.lane {} l

/-- Change one lane. -/
def State.modLane (s : State) (l : Nat) (f : Lane → Lane) : State :=
  s.modLanes (fun t => { t with lane := Tab.upd t.lane {} l f })

/-- One trunk. -/
def State.trunk (s : State) (st : Nat) : Trunk := Tab.get s.trunks.trunk {} st

/-- Change one trunk. -/
def State.modTrunk (s : State) (st : Nat) (f : Trunk → Trunk) : State :=
  s.modTrunks (fun t => { t with trunk := Tab.upd t.trunk {} st f })

/-- One Barrow slice. -/
def State.bslice (s : State) (i : Nat) : BSlice := Tab.get s.barrow.slices {} i

/-- Change one Barrow slice. -/
def State.modBslice (s : State) (i : Nat) (f : BSlice → BSlice) : State :=
  s.modBarrow (fun t => { t with slices := Tab.upd t.slices {} i f })

/-- One plot's QoS entry. -/
def State.qos (s : State) (p : Nat) : Qos := Tab.get s.switch.qos {} p

/-- Change one plot's QoS entry. -/
def State.modQos (s : State) (p : Nat) (f : Qos → Qos) : State :=
  s.modSwitch (fun t => { t with qos := Tab.upd t.qos {} p f })

/-- One channel of the power die. -/
def State.channel (s : State) (c : Nat) : Channel := Tab.get s.power.channels {} c

/-- Change one channel of the power die. -/
def State.modChannel (s : State) (c : Nat) (f : Channel → Channel) : State :=
  s.modPower (fun t => { t with channels := Tab.upd t.channels {} c f })

/-- The fabric die's copy of one channel. -/
def State.chCopy (s : State) (c : Nat) : ChCopy := Tab.get s.power.copies {} c

/-- Change the fabric die's copy of one channel. -/
def State.modCopy (s : State) (c : Nat) (f : ChCopy → ChCopy) : State :=
  s.modPower (fun t => { t with copies := Tab.upd t.copies {} c f })

/-- One hart. -/
def State.hart (s : State) (h : Nat) : Hart := Tab.get s.steward.harts {} h

/-- Change one hart. -/
def State.modHart (s : State) (h : Nat) (f : Hart → Hart) : State :=
  s.modSteward (fun t => { t with harts := Tab.upd t.harts {} h f })

/-- One event source. Sources from 1536 on are edge sources, as every source is at reset (R454). -/
def State.source (s : State) (i : Nat) : EvcSource := Tab.get s.evc.sources {} i

/-- Change one event source. -/
def State.modSource (s : State) (i : Nat) (f : EvcSource → EvcSource) : State :=
  s.modEvc (fun t => { t with sources := Tab.upd t.sources {} i f })

/-- One event target. -/
def State.target (s : State) (t : Nat) : EvcTarget := Tab.get s.evc.targets {} t

/-- Change one event target. -/
def State.modTarget (s : State) (i : Nat) (f : EvcTarget → EvcTarget) : State :=
  s.modEvc (fun t => { t with targets := Tab.upd t.targets {} i f })

/-- A write that clears a W1C bit leaves it 1 where hardware set it in this very beat (R10, log 59): `at'` is 1 + that beat. -/
def State.clears (s : State) (at' : Nat) : Bool := decide (at' ≠ 1 + s.time.beats)

/-- Port roles (R205). -/
def Port.upstream (p : Port) : Bool := decide (p.entry.role = 1)

/-- A DOWNSTREAM port (R205). -/
def Port.downstream (p : Port) : Bool := decide (p.entry.role = 2)

/-- A TRUNK port (R205). -/
def Port.isTrunk (p : Port) : Bool := decide (p.entry.role = 3)

/-- A port in L0, or in a state that does not leave L0 (R207). -/
def Port.inL0 (p : Port) : Bool := decide (p.ltssm = .L0 ∨ p.ltssm = .recovery ∨ p.ltssm = .L0s)

/-- The station of a port (R2). -/
def stationOf (port : Nat) : Nat := port / 8

/-- The TRUNK port of a station (R3, R204): the first of its indices, where it has none. -/
def State.trunkPort (s : State) (st : Nat) : Nat :=
  8 * st + ((List.range 8).find? (fun i => (s.port (8 * st + i)).isTrunk)).getD 0

/-- Numbers of the ports that meet a test. -/
def State.portsWhere (s : State) (f : Port → Bool) : List Nat := (s.ports.port.filter (fun e => f e.2)).map (·.1)

/-- Numbers of the plots that meet a test. -/
def State.plotsWhere (s : State) (f : Plot → Bool) : List Nat := (s.pool.plots.filter (fun e => f e.2)).map (·.1)

/-- This device's fabric device number. -/
def State.self (s : State) : Nat := s.dev.number.toNat

/-- Whether a plot maps a bed of a home device. -/
def Plot.maps (p : Plot) (home bed : Nat) : Bool :=
  p.slots.any (fun e => e.2.valid && decide (e.2.home.toNat = home ∧ e.2.bed.toNat = bed))

/-- Plots of this device that map a bed whose home is this device. -/
def State.plotsOfBed (s : State) (bed : Nat) : List Nat := s.plotsWhere (fun p => p.maps s.self bed)

/-- The fabric die runs: it is out of reset and not in DORMANT (R474, R485). -/
def State.fabricOn (s : State) : Bool := !s.dev.inReset && decide (s.dev.mode ≠ .dormant)

/-- The device does work of its own on its pool: in mode SHADOW it only holds its partner's mirror (R295, R301). -/
def State.serving (s : State) : Bool := s.fabricOn && decide (s.dev.mode ≠ .shadow)

/-- The device may send CXL.mem to memory devices (R220, R478): not in SPROUT or PROBE. -/
def State.memServing (s : State) : Bool := s.serving && decide (s.dev.mode ≠ .sprout ∧ s.dev.mode ≠ .probe)

end Sys2Proof.Machine
end

