-- ==== Sys2Proof/Machine/Count.lean ====
section
/-! DEFINITION. Performance counters, season statistics, snapshots and trace (18_counters_and_seasons), and raising an
event source (R452 to R457). -/

namespace Sys2Proof.Machine

/-- The kind of a counter block's own events (R522): stations, home slices, Barrow, bridge, device. -/
def blockKind (block : Nat) : Nat :=
  if block < 16 then 1 else if block < 24 then 2 else if block = 24 then 3 else if block = 25 then 4 else 5

/-- Whether a select counts an event of a kind with a qualifier (R522): on a station the qualifier 0xF of the select takes every
port, and an event that is station-wide carries the qualifier 0xF. -/
def selectMatches (sel : BitVec 16) (kind qual ev : Nat) : Bool :=
  let k := bitsOf sel 15 12
  if kind = 0xE then (k == 0xE || k == 0xF) && bitsOf sel 10 0 == ev
  else k == kind && bitsOf sel 7 0 == ev && (kind != 1 || bitsOf sel 11 8 == qual || bitsOf sel 11 8 == 0xF)

/-- Add `n` to one programmable counter (R524, R525). Answers the counters and whether a counter has saturated. -/
def bumpCounter (c : Counters) (block i n : Nat) : Counters × Bool :=
  let top := 2 ^ 48 - 1
  let at' (j : Nat) := (Tab.get c.value 0 (8 * block + j)).toNat
  let put (x : Counters) (j v : Nat) : Counters := { x with value := Tab.set x.value 0 (8 * block + j) (BitVec.ofNat 48 v) }
  if c.chained then
    if i % 2 = 1 then (c, false)
    else
      let v := at' i + n
      let c1 := put c i (v % 2 ^ 48)
      if v < 2 ^ 48 then (c1, false)
      else
        let w := at' (i + 1) + v / 2 ^ 48
        (put c1 (i + 1) (min w top), decide (top ≤ w ∧ at' (i + 1) < top))
  else
    let v := at' i + n
    (put c i (min v top), decide (top ≤ v ∧ at' i < top))

/-- Add `n` to every counter of a block whose select counts the event. -/
def countIn (c : Counters) (block kind qual ev n : Nat) : Counters × Bool :=
  (List.range 8).foldl (fun (acc : Counters × Bool) i =>
    if selectMatches (Tab.get c.select 0 (8 * block + i)) kind qual ev then
      let r := bumpCounter acc.1 block i n
      (r.1, acc.2 || r.2)
    else acc) (c, false)

/-- What a counter may still take in a beat (R521): 16 occurrences in each of its two FCLK cycles. -/
def Counters.room (c : Counters) (beat j : Nat) : Nat := 32 - (if c.capBeat = beat then Tab.get c.capUsed 0 j else 0)

/-- Add the `n` occurrences of one beat to every counter of a block whose select counts the event, up to 16 in a cycle (R521). DESIGN CHOICE
(log 112): the occurrences of a beat fall evenly into its two cycles. -/
def countBeatIn (c : Counters) (beat block kind qual ev n : Nat) : Counters × Bool :=
  (List.range 8).foldl (fun (acc : Counters × Bool) i =>
    let j := 8 * block + i
    if selectMatches (Tab.get c.select 0 j) kind qual ev then
      let m := min n (acc.1.room beat j)
      let r := bumpCounter acc.1 block i m
      let used := if r.1.capBeat = beat then r.1.capUsed else []
      ({ r.1 with capBeat := beat, capUsed := Tab.upd used 0 j (· + m) }, acc.2 || r.2)
    else acc) (c, false)

/-- Capture one record at a trace point (R532 to R535). Answers the counters and whether an entry was dropped and whether the
buffer became full with stop-when-full. -/
def traceCore (c : Counters) (now : BitVec 64) (beat point : Nat) (record : Nat) : Counters × Bool × Bool :=
  if !c.capturing then (c, false, false) else
  c.filters.foldl (fun (acc : Counters × Bool × Bool) e =>
    let (x, drop, full) := acc
    let f := e.2
    if !x.capturing || !f.enable || f.point.toNat != point || (BitVec.ofNat 160 record ^^^ f.match') &&& f.mask != 0 then acc
    else
      let used := if x.traceBeat = beat then x.traceInBeat else 0
      if 8 ≤ used then ({ x with traceDropped := true }, true, full)
      else
        let entry := BitVec.ofNat 256
          (fieldAt now.toNat 192 + fieldAt point 184 + fieldAt e.1 180 + fieldAt (bit x.traceDropped) 179 + record % 2 ^ 160)
        let last := decide (x.traceIndex = 262143)
        let stop := last && x.stopWhenFull
        ({ x with trace := Tab.set x.trace 0 x.traceIndex.toNat entry, traceIndex := x.traceIndex + 1,
                  captured := satAdd x.captured 1, traceDropped := false, traceBeat := beat, traceInBeat := used + 1,
                  capturing := !stop }, drop, full || stop)) (c, false, false)

/-- The record of the EVC trace point (R533). -/
def evcRecord (source target priority kind : Nat) : Nat :=
  fieldAt source 149 + fieldAt target 147 + fieldAt priority 143 + fieldAt kind 140

/-- One assertion of a source (R456, R457), with its count under kinds 0xE and 0xF (R523) and its trace record, without what a
saturation or a dropped trace entry raises in turn. Answers whether a counter saturated, a trace entry was dropped, the trace
became full. -/
def assertBase (s : State) (src : Nat) : State × Bool × Bool × Bool :=
  let x := s.source src
  let s1 := s.modSource src (fun y => { y with stamp := s.now, pending := y.pending || y.edge, setBeat := 1 + s.time.beats })
  let r := countBeatIn s1.ctr s.time.beats 26 0xE 0 src 1
  let trig := (List.range 8).any (fun i =>
    let sel := Tab.get s.ctr.select 0 (8 * 26 + i)
    bitsOf sel 15 12 == 0xF && bitsOf sel 10 0 == src && !(s.ctr.chained && i % 2 == 1))
  let c1 := if trig then { r.1 with trigBeat := some s.time.beats } else r.1
  let t := traceCore c1 s.now s.time.beats 0x31 (evcRecord src x.target.toNat x.priority.toNat 0)
  (s1.setCtr t.1, r.2, t.2.1, t.2.2)

/-- What a saturation (388), a full trace (386) and dropped trace entries (387) raise (R536). -/
def followUps (s : State) (sat drop full : Bool) : State :=
  let s1 := if sat && !s.ctr.satSeen then (assertBase (s.modCtr (fun c => { c with satSeen := true })) 388).1 else s
  let s2 := if full then (assertBase s1 386).1 else s1
  if drop then (assertBase s2 387).1 else s2

/-- Raise a source on an occurrence (R452): one assertion. In DORMANT no source is sampled (R472). -/
def raise (src : Nat) (s : State) : State :=
  if s.dev.mode = .dormant then s else
  let r := assertBase s src
  followUps r.1 r.2.1 r.2.2.1 r.2.2.2

/-- Drive the input of a source that is raised while a condition holds (R452): a transition from 0 to 1 is an assertion. -/
def driveInput (src : Nat) (high : Bool) (s : State) : State :=
  let x := s.source src
  let s1 := s.modSource src (fun y => { y with input := high })
  if high && !x.input then raise src s1 else s1

/-- Count an event of a block (R521 to R523). -/
def count (block ev n : Nat) (s : State) : State :=
  let r := countBeatIn s.ctr s.time.beats block (blockKind block) 0xF ev n
  followUps (s.setCtr r.1) r.2 false false

/-- Count an event of one port of a station (R522). -/
def countPort (port ev n : Nat) (s : State) : State :=
  let r := countBeatIn s.ctr s.time.beats (stationOf port) 1 (port % 8) ev n
  followUps (s.setCtr r.1) r.2 false false

/-- Count an event of a block that has occurred over several beats, at most once in a cycle. -/
def countLong (block ev n : Nat) (s : State) : State :=
  let r := countIn s.ctr block (blockKind block) 0xF ev n
  followUps (s.setCtr r.1) r.2 false false

/-- Count an event of one port that has occurred over several beats, at most once in a cycle. -/
def countPortLong (port ev n : Nat) (s : State) : State :=
  let r := countIn s.ctr (stationOf port) 1 (port % 8) ev n
  followUps (s.setCtr r.1) r.2 false false

/-- Count an event that any block can select: FCLK cycles, beats, tick boundaries (R523 kind 0x0). -/
def countAll (ev n : Nat) (s : State) : State :=
  if s.ctr.select.isEmpty then s else
  let r := (List.range 27).foldl (fun (acc : Counters × Bool) b =>
    let q := countIn acc.1 b 0 0 ev n
    (q.1, acc.2 || q.2)) (s.ctr, false)
  followUps (s.setCtr r.1) r.2 false false

/-- The table index of plot statistic j. -/
def plotStat (plot j : Nat) : Nat := 32 * plot + j

/-- The table index of port statistic j. -/
def portStat (port j : Nat) : Nat := 16384 + 16 * port + j

/-- The live cell of a statistic (R529). -/
def liveStat (c : Counters) (i : Nat) : BitVec 64 := Tab.get (if c.parity then c.live1 else c.live0) 0 i

/-- The season-ledger cell of a statistic (R529). -/
def ledgerStat (c : Counters) (i : Nat) : BitVec 64 := Tab.get (if c.parity then c.live0 else c.live1) 0 i

/-- Set the live cell of a statistic. -/
def setLive (c : Counters) (i : Nat) (v : BitVec 64) : Counters :=
  if c.parity then { c with live1 := Tab.set c.live1 0 i v } else { c with live0 := Tab.set c.live0 0 i v }

/-- Add to a statistic: it saturates, and the first saturation of the season raises source 389 (R528, R536). -/
def statAdd (i n : Nat) (s : State) : State :=
  let v := liveStat s.ctr i
  let w := satAdd v n
  let s1 := s.modCtr (fun c => setLive c i w)
  if decide (v.toNat + n ≥ 2 ^ 64 - 1) && !s.ctr.statSat then
    raise 389 (s1.modCtr (fun c => { c with statSat := true }))
  else s1

/-- Raise a statistic that holds a maximum to at least a value (R528 plot statistic 20). -/
def statMax (i n : Nat) (s : State) : State :=
  s.modCtr (fun c => setLive c i (BitVec.ofNat 64 (max (liveStat c i).toNat n)))

/-- Count one occurrence in a plot's statistic. -/
def plotCount (plot j n : Nat) (s : State) : State := if plot < 512 then statAdd (plotStat plot j) n s else s

/-- Count one occurrence in a port's statistic. -/
def portCount (port j n : Nat) (s : State) : State := statAdd (portStat port j) n s

/-- Set to 0 the live statistics in a range of table indices (R531). -/
def clearLive (lo n : Nat) (s : State) : State :=
  s.modCtr (fun c =>
    let keep (t : Tab (BitVec 64)) := t.filter (fun e => decide (e.1 < lo ∨ lo + n ≤ e.1))
    if c.parity then { c with live1 := keep c.live1 } else { c with live0 := keep c.live0 })

/-- A snapshot (R527): once in a beat. It raises source 384 and is counted as device event 0x0C. -/
def snapshot (s : State) : State :=
  if s.ctr.snapBeat = some s.time.beats then s else
  let s1 := s.modCtr (fun c => { c with
    snapCycle := BitVec.ofNat 64 (2 * (s.time.beats - c.cycleStart)), snap := c.value,
    snapBeat := some s.time.beats, satSeen := false, trigBeat := none })
  raise 384 (count 26 0x0C 1 s1)

/-- The cycle counter of every block (R521). -/
def cycleCounter (s : State) : BitVec 64 := BitVec.ofNat 64 (2 * (s.time.beats - s.ctr.cycleStart))

/-- Record at a trace point that is not the EVC's. -/
def trace (point record : Nat) (s : State) : State :=
  let t := traceCore s.ctr s.now s.time.beats point record
  followUps (s.setCtr t.1) false t.2.1 t.2.2

/-- Record at the EVC's trace point: offer 1, withdraw 2, take 3, done 4, stack-order fault 5, target reset 6 (R533). -/
def traceEvc (source target priority kind : Nat) (s : State) : State := trace 0x31 (evcRecord source target priority kind) s

/-- Whether the counters are to chain (R525). -/
def wantsChain (s : State) : Bool := decide (s.dev.mode = .sprout ∨ s.dev.mode = .probe) || s.pair.recovery

/-- Every counter, select, snapshot, statistic, filter and trace entry at its reset value (R537). -/
def resetCounters (s : State) : State := s.setCtr { cycleStart := s.time.beats }

end Sys2Proof.Machine
end

