-- ==== Sys2Proof/Machine/Log.lean ====
section
/-! DEFINITION. The fault ledger's queues and entries (R538 to R544), and what an entry and a summary look like. -/

namespace Sys2Proof.Machine

/-- The severity of a kind of entry (R541). -/
def severityOf (kind : Nat) : Nat :=
  if kind ∈ [0x01, 0x02, 0x03, 0x40, 0x53] then 1
  else if kind ∈ [0x04, 0x14, 0x16, 0x42] then 4
  else if kind ∈ [0x10, 0x11, 0x13, 0x15, 0x32, 0x52, 0x54] then 3
  else 2

/-- A new entry of a kind, stamped now (R51, R540). -/
def ledgerEntry (s : State) (kind block key0 key1 key2 : Nat) (v0 v1 : BitVec 64) : LedgerEntry :=
  { kind := kind, severity := severityOf kind, device := s.self, block := block, key0 := key0 % 65536,
    key1 := key1 % 65536, key2 := key2 % 2 ^ 32, value0 := v0, value1 := v1, stamp := s.now }

/-- Whether two entries have equal kind and keys (R539). -/
def sameKeys (a b : LedgerEntry) : Bool :=
  decide (a.kind = b.kind ∧ a.key0 = b.key0 ∧ a.key1 = b.key1 ∧ a.key2 = b.key2)

/-- An entry with more occurrences: the count saturates (R540). -/
def LedgerEntry.more (e : LedgerEntry) (n : Nat) : LedgerEntry := { e with count := min 65535 (e.count + n) }

/-- Put an entry into its block's queue (R539): at most four wait; an entry that finds the queue full joins the last queued one
of equal kind and keys, or is lost. -/
def enqueue (e : LedgerEntry) (s : State) : State :=
  let q := Tab.get s.ledger.queues [] e.block
  let lostBefore := Tab.get s.ledger.lost false e.block
  if q.length < 4 then
    s.modLedger (fun l => { l with
      queues := Tab.set l.queues [] e.block (q ++ [{ e with dropped := lostBefore }]),
      lost := Tab.set l.lost false e.block false })
  else
    match q.getLast? with
    | some last =>
      if sameKeys last e then
        s.modLedger (fun l => { l with queues := Tab.set l.queues [] e.block (q.dropLast ++ [last.more 1]) })
      else s.modLedger (fun l => { l with lost := Tab.set l.lost false e.block true })
    | none => s

/-- Write an entry with another stamp than the present beat (R148). -/
def logFaultAt (stamp : BitVec 64) (kind block key0 key1 key2 : Nat) (v0 v1 : BitVec 64) (s : State) : State :=
  enqueue { ledgerEntry s kind block key0 key1 key2 v0 v1 with stamp := stamp } s

/-- Log a fault (R538, R541). -/
def logFault (kind block key0 key1 key2 : Nat) (v0 v1 : BitVec 64) (s : State) : State :=
  enqueue (ledgerEntry s kind block key0 key1 key2 v0 v1) s

/-- Log a fault with another severity than its kind's, as R557 does. -/
def logFaultSev (sev kind block key0 key1 key2 : Nat) (v0 v1 : BitVec 64) (s : State) : State :=
  enqueue { ledgerEntry s kind block key0 key1 key2 v0 v1 with severity := sev } s

/-- Whether an entry is a BAD_ACCESS entry that is still open (R541): of this tick, and of the plot, or of the port where no
plot is known. -/
def openBad (s : State) (key0 port : Nat) (e : LedgerEntry) : Bool :=
  decide (e.kind = 0x12 ∧ e.key0 = key0 ∧ (key0 ≠ 0xFFFF ∨ e.key2 = port)) &&
  decide (e.stamp.toNat / 1024 = s.now.toNat / 1024)

/-- Log a BAD_ACCESS (R82, R541): one entry per tick per plot, or per port where no plot is known; a further access within the
tick counts against the open entry, whichever block recorded that one. -/
def logBadAccess (block key0 outcome port : Nat) (v0 : BitVec 64) (s : State) : State :=
  if s.ledger.queues.any (fun q => q.2.any (openBad s key0 port)) then
    s.modLedger (fun l => { l with
      queues := l.queues.map (fun q => (q.1, mapIf (openBad s key0 port) (fun e => e.more 1) q.2)) })
  else if s.ledger.ring.any (fun e => openBad s key0 port e.2) then
    s.modLedger (fun l => { l with
      ring := l.ring.map (fun e => if openBad s key0 port e.2 then (e.1, e.2.more 1) else e) })
  else logFault 0x12 block key0 outcome port v0 0 s

/-- The 512 bits of an entry (R540). -/
def LedgerEntry.image (e : LedgerEntry) : BitVec 512 :=
  BitVec.ofNat 512 (fieldAt e.value1.toNat 256 + fieldAt e.value0.toNat 192 + fieldAt e.key2 160 + fieldAt e.key1 144 +
    fieldAt e.key0 128 + fieldAt e.count 112 + fieldAt e.kind 96 + fieldAt e.severity 92 + fieldAt e.device 88 +
    fieldAt e.block 80 + fieldAt (bit e.persisted) 77 + fieldAt (bit e.dropped) 76 + fieldAt e.index 64 + e.stamp.toNat)

/-- The 32 bytes of a summary slot (R544). -/
def LedgerEntry.summary (e : LedgerEntry) (psn : Nat) : List Byte :=
  bytesOf 8 64 e.stamp ++
  [BitVec.ofNat 8 e.kind, BitVec.ofNat 8 (16 * e.severity + e.device), BitVec.ofNat 8 e.block, 0] ++
  bytesOf 2 16 (BitVec.ofNat 16 e.count) ++ bytesOf 2 16 (BitVec.ofNat 16 e.key0) ++
  bytesOf 2 16 (BitVec.ofNat 16 e.key1) ++ bytesOf 4 32 (BitVec.ofNat 32 e.key2) ++ bytesOf 8 64 e.value0 ++
  bytesOf 2 16 (BitVec.ofNat 16 psn)

/-- An entry of severity 2 or higher enters the persist queue of 64 (R543). -/
def toPersist (e : LedgerEntry) (q : List LedgerEntry) : List LedgerEntry :=
  if e.severity < 2 then q
  else if q.length < 64 then q ++ [e]
  else match q.getLast? with
    | some last => if last.kind = e.kind ∧ last.key0 = e.key0 then q.dropLast ++ [last.more e.count] else q
    | none => q

/-- Write one queued entry into the ledger's ring (R538, R543): the entry takes the next index, and overwrites the oldest one
once the ring is full. -/
def writeEntry (e : LedgerEntry) (s : State) : State :=
  s.modLedger (fun l =>
    let x := { e with index := l.next }
    { l with ring := Tab.put l.ring l.next x, next := (l.next + 1) % 4096, written := l.written + 1,
             wrapped := l.wrapped || decide (4096 ≤ l.written + 1), persist := toPersist x l.persist })

/-- The block that the ledger serves next (R538): the first one after the last served whose queue holds an entry. -/
def nextLogBlock (l : Ledger) : Option Nat :=
  (List.range 32).find? (fun i => !(Tab.get l.queues [] ((l.turn + 1 + i) % 32)).isEmpty) |>.map (fun i => (l.turn + 1 + i) % 32)

/-- The ledger takes one entry from the block queues in rotation (R538). -/
def drainOne (s : State) : State :=
  match nextLogBlock s.ledger with
  | none => s
  | some b =>
    match Tab.get s.ledger.queues [] b with
    | [] => s
    | e :: rest => writeEntry e (s.modLedger (fun l => { l with queues := Tab.set l.queues [] b rest, turn := b, drained := 1 + s.time.beats }))

/-- The ledger's part of a beat (R538): it takes at most one entry. -/
def drainBeat (s : State) : State := if s.ledger.drained = 1 + s.time.beats then s else drainOne s

/-- The entries whose summaries have been written whole are marked persisted, and their slots hold a summary (R406, R543). -/
def settlePersisted (s : State) : State :=
  let waits (o : Nat) : Bool := s.wear.writes.any (fun w => decide (o ≤ w.1 ∧ w.1 < o + 32))
  let ended := (s.ledger.persisting.filter (fun x => !waits x.1)).map (·.2)
  let is (e x : LedgerEntry) : Bool := decide (x.stamp = e.stamp ∧ x.kind = e.kind ∧ x.index = e.index ∧ x.block = e.block)
  if ended.isEmpty then s
  else s.modLedger (fun l => { l with
    persisting := l.persisting.filter (fun x => waits x.1), slots := min 256 (l.slots + ended.length),
    ring := l.ring.map (fun x => if ended.any (fun e => is e x.2) then (x.1, { x.2 with persisted := true }) else x) })

end Sys2Proof.Machine
end

