-- ==== Sys2Proof/Machine/HartOps.lean ====
section
/-! DEFINITION. What a hart does by itself (R412 to R418): its regions, traps, interrupts, memory protection, address translation and control
registers. Layouts and rules of the RISC-V architecture that R412 names are PRESUMED (log 9). -/

namespace Sys2Proof.Machine

/-- A hart can take the offer it holds (R416). -/
def Hart.canTake (h : Hart) : Bool :=
  match h.offer with
  | some o => decide (o.1 = 0 ∨ h.mevthr.toNat < o.2.1) && (h.mie || decide (h.priv.toNat < 3)) && !h.debug && !h.halted
  | none => false

/-- Trap entry (R412, R418): into supervisor mode where the cause is delegated and the hart runs below machine mode, else into machine
mode; an interrupt of a vectored mtvec or stvec goes to its own entry. -/
def Hart.trap (interrupt : Bool) (cause : Nat) (tval : BitVec 64) (h : Hart) : Hart :=
  let code : BitVec 64 := BitVec.ofNat 64 (fieldAt (bit interrupt) 63 + cause)
  let goto (vec : BitVec 64) : BitVec 64 :=
    (vec &&& 0xFFFFFFFFFFFFFFFC#64) + (if interrupt && decide (bitsOf vec 1 0 = 1) then BitVec.ofNat 64 (4 * cause) else 0)
  let deleg := (if interrupt then h.mideleg else h.medeleg).getLsbD cause
  if deleg && decide (h.priv.toNat < 3) then
    { h with sepc := h.pc, scause := code, stval := tval, spie := h.sie, sie := false, spp := decide (h.priv = 1), priv := 1,
             pc := goto h.stvec, wfi := false, reservation := none }
  else
    { h with mepc := h.pc, mcause := code, mtval := tval, mpie := h.mie, mie := false, mpp := h.priv, priv := 3,
             pc := goto h.mtvec, wfi := false, reservation := none }

/-- The cause of an access fault (R413, R418): 7 for a store or AMO, 5 for a load. -/
def accessCause (store : Bool) : Nat := if store then 7 else 5

/-- The interrupts pending at a hart (R414, log 9): MSIP of its mswi, MTIP while MTIME has reached its mtimecmp, and those that software sets. -/
def State.hartPending (s : State) (hart : Nat) (time : BitVec 64) : BitVec 16 :=
  let x := s.steward
  BitVec.ofNat 16 (fieldAt (bit (Tab.get x.msip false hart)) 3 +
    fieldAt (bit (decide ((Tab.get x.mtimecmp 0 hart).toNat ≤ time.toNat))) 7) ||| ((s.hart hart).softPending &&& 0x222)

/-- The interrupt that a hart takes next (R412, R414): of those for machine mode, then of those delegated to supervisor mode, in the order
MSI, MTI, SEI, SSI, STI. -/
def Hart.interrupt (h : Hart) (pending : BitVec 16) : Option Nat :=
  let on := pending &&& h.enables
  let first (set : BitVec 16) : Option Nat := [3, 7, 9, 1, 5].find? (fun i => set.getLsbD i)
  if h.debug || h.halted then none
  else if (h.mie || decide (h.priv.toNat < 3)) && (first (on &&& ~~~h.mideleg)).isSome then first (on &&& ~~~h.mideleg)
  else if decide (h.priv = 0) || (decide (h.priv = 1) && h.sie) then first (on &&& h.mideleg)
  else none

/-- What a PMP entry says of a byte (R412): whether it covers it. `below` is the address of the entry before. -/
def pmpCovers (cfg : BitVec 8) (addr below : BitVec 54) (a : Nat) : Bool :=
  match bitsOf (cfg.setWidth 64) 4 3 with
  | 1 => decide (4 * below.toNat ≤ a ∧ a < 4 * addr.toNat)
  | 2 => decide (4 * addr.toNat ≤ a ∧ a < 4 * addr.toNat + 4)
  | 3 =>
    let ones := ((List.range 54).takeWhile (fun i => addr.getLsbD i)).length
    decide (a / 2 ^ (ones + 3) = 4 * addr.toNat / 2 ^ (ones + 3))
  | _ => false

/-- A hart's physical memory protection allows an access (R412): the lowest entry that covers one of its bytes covers all and gives the
right; machine mode minds locked entries alone, and without an entry only machine mode gets through once any entry is in use. -/
def Hart.pmpAllows (h : Hart) (a size : Nat) (store : Bool) : Bool :=
  let entry (i : Nat) : BitVec 8 := Tab.get h.pmpcfg 0 i
  let covers (i b : Nat) : Bool := pmpCovers (entry i) (Tab.get h.pmpaddr 0 i) (if i = 0 then 0 else Tab.get h.pmpaddr 0 (i - 1)) b
  match (List.range 16).find? (fun i => (List.range size).any (fun k => covers i (a + k))) with
  | some i =>
    (List.range size).all (fun k => covers i (a + k)) &&
      ((decide (h.priv = 3) && !(entry i).getLsbD 7) || (entry i).getLsbD (if store then 1 else 0))
  | none => decide (h.priv = 3) || (List.range 16).all (fun i => bitsOf ((entry i).setWidth 64) 4 3 == 0)

/-- A page table entry of steward SRAM (R412): none where it lies elsewhere. -/
def State.pageEntry (s : State) (a : Nat) : Option (BitVec 64) :=
  if 0x08000000 ≤ a ∧ a + 8 ≤ 0x0A000000 then some (BitVec.ofNat 64 (natOfBytes (memRead 0 s.steward.sram (a - 0x08000000) 8))) else none

/-- A leaf entry permits an access (R412): user pages for user mode, others for supervisor mode without SUM; readable, or executable with MXR;
writable and dirty for a store; accessed. -/
def Hart.pagePermits (h : Hart) (pte : BitVec 64) (store : Bool) : Bool :=
  (if pte.getLsbD 4 then decide (h.priv = 0) || h.status.getLsbD 5 else decide (h.priv = 1)) && pte.getLsbD 6 &&
    (if store then pte.getLsbD 2 && pte.getLsbD 7 else pte.getLsbD 1 || (h.status.getLsbD 6 && pte.getLsbD 3))

/-- A table walk of Sv39 or Sv48 (R412), from a level down: the physical address, or the cause of the fault. -/
def State.pageWalk (s : State) (h : Hart) (va : Nat) (store : Bool) : Nat → Nat → Nat ⊕ Nat
  | 0, _ => .inr (if store then 15 else 13)
  | level + 1, table =>
    match s.pageEntry (table + 8 * (va / 2 ^ (12 + 9 * level) % 512)) with
    | none => .inr (accessCause store)
    | some pte =>
      let base := bitsOf pte 53 10
      if !pte.getLsbD 0 || (!pte.getLsbD 1 && pte.getLsbD 2) then .inr (if store then 15 else 13)
      else if pte.getLsbD 1 || pte.getLsbD 3 then
        if h.pagePermits pte store && decide (base % 2 ^ (9 * level) = 0) then .inl (base * 4096 + va % 2 ^ (12 + 9 * level))
        else .inr (if store then 15 else 13)
      else s.pageWalk h va store level (base * 4096)

/-- The physical address of a hart's access (R412), or the cause of its fault: translated below machine mode under Sv39 or Sv48, and let
through by its PMP. A hart's own registers are no memory (log 48). -/
def State.physical (s : State) (hart : Nat) (address : BitVec 64) (size : Nat) (store : Bool) : Nat ⊕ Nat :=
  let h := s.hart hart
  let mode := bitsOf h.satp 63 60
  let bits := if mode = 8 then 39 else 48
  let a := address.toNat
  let canonical := decide (address.toInt = (address.setWidth bits).toInt)
  let pa : Nat ⊕ Nat :=
    if h.priv = 3 ∨ mode = 0 then .inl a
    else if !canonical then .inr (if store then 15 else 13)
    else s.pageWalk h a store (if mode = 8 then 3 else 4) (bitsOf h.satp 43 0 * 4096)
  match pa with
  | .inl p => if h.pmpAllows p size store then .inl p else .inr (accessCause store)
  | .inr c => .inr c

/-- A region of the steward's memory map (R418). -/
structure Region where
  lo : Nat
  hi : Nat
  cacheable : Bool := false
  executable : Bool := false
  readOnly : Bool := false
  atomics : Bool := false
  deriving DecidableEq, Repr

/-- The regions of the steward's memory map (R413, R418). -/
def regions : List Region :=
  [{ lo := 0, hi := 0x10000, cacheable := true, executable := true, readOnly := true },
   { lo := 0x08000000, hi := 0x0A000000, cacheable := true, executable := true, atomics := true },
   { lo := 0x10000000, hi := 0x10010000 }, { lo := 0x20000000, hi := 0x20080000 }, { lo := 0x20080000, hi := 0x20090000 },
   { lo := 0x20090000, hi := 0x200A0000 }, { lo := 0x200A0000, hi := 0x200A1000 },
   { lo := 0x30000000, hi := 0x40000000, cacheable := true, executable := true, readOnly := true },
   { lo := 0x400000000, hi := 0x800000000, atomics := true }]

/-- The region in which an access lies as a whole (R418). -/
def regionOf (a size : Nat) : Option Region := regions.find? (fun r => decide (r.lo ≤ a ∧ a + size ≤ r.hi))

/-- An access in its region (R413, R418): a region takes no store where it is read-only, no atomic but in steward SRAM and the window, and one
that is not cacheable only aligned accesses. -/
def regionTakes (a size : Nat) (store atomic : Bool) : Bool :=
  match regionOf a size with
  | some r => !(store && r.readOnly) && (!atomic || r.atomics) && (r.cacheable && !atomic || decide (a % size = 0))
  | none => false

end Sys2Proof.Machine
end

