-- ==== Sys2Proof/Machine/DieLinkOps.lean ====
section
/-! DEFINITION. The die link's sequenced channels (R427 to R433): sending, acknowledging and delivering flits. -/

namespace Sys2Proof.Machine

/-- Channel numbers (R428). -/
def chTeller : Nat := 0
/-- EVENT (R428). -/
def chEvent : Nat := 1
/-- POSTED-IN (R428). -/
def chPosted : Nat := 2
/-- REQUEST-OUT (R428). -/
def chRequest : Nat := 3
/-- COMPLETION (R428). -/
def chCompletion : Nat := 4
/-- TIME (R428). -/
def chTime : Nat := 5

/-- COMPLETION type: data (R429). -/
def cplData : Nat := 1
/-- Retry (R429). -/
def cplRetry : Nat := 2
/-- Error (R429). -/
def cplError : Nat := 3
/-- Done (R429). -/
def cplDone : Nat := 4

/-- The receive slots of each channel (R430), at the receiver of a direction. -/
def dieSlots (dir : LinkDir) (ch : Nat) : Nat :=
  match dir with
  | .toSteward => if ch = 0 then 64 else if ch = 1 then 16 else if ch = 2 then 64 else if ch = 4 then 64
                  else if ch = 5 then 4 else 0
  | .toFabric => if ch = 0 then 32 else if ch = 1 then 16 else if ch = 3 then 32 else if ch = 4 then 64 else 0

/-- One direction of the link. -/
def DieLink.dir (l : DieLink) : LinkDir → DieDir
  | .toSteward => l.toSteward
  | .toFabric => l.toFabric

/-- Change one direction of the link. -/
def DieLink.modDir (l : DieLink) (dir : LinkDir) (f : DieDir → DieDir) : DieLink :=
  match dir with
  | .toSteward => { l with toSteward := f l.toSteward }
  | .toFabric => { l with toFabric := f l.toFabric }

/-- Change one direction of the link in the state. -/
def State.modDir (s : State) (dir : LinkDir) (f : DieDir → DieDir) : State := s.modDieLink (fun l => l.modDir dir f)

/-- The link is up (R434 DL_STATUS.state). -/
def State.dieUp (s : State) : Bool := s.dieLink.state == 2

/-- Credits that a sender holds on a channel (R430). -/
def DieDir.credit (d : DieDir) (dir : LinkDir) (ch : Nat) : Nat := Tab.get d.credits (dieSlots dir ch) ch

/-- Set a sender's credits on a channel. -/
def DieDir.setCredit (d : DieDir) (dir : LinkDir) (ch n : Nat) : DieDir :=
  { d with credits := Tab.set d.credits (dieSlots dir ch) ch n }

/-- The direction that answers a direction. -/
def otherDir : LinkDir → LinkDir
  | .toSteward => .toFabric
  | .toFabric => .toSteward

/-- The oldest waiting message of each channel (R27): a channel keeps its order and never waits on another. -/
def channelHeads : List DieFlit → List DieFlit
  | [] => []
  | f :: rest => f :: (channelHeads rest).filter (fun g => g.channel != f.channel)

/-- Move waiting messages into the replay buffer while credits of their channel and places for them remain (R27, R430, R431): each takes
the next sequence number and carries the acknowledgement of the other direction. -/
def DieDir.pump (dir : LinkDir) (ack : BitVec 10) (beat : Nat) : Nat → DieDir → DieDir
  | 0, d => d
  | n + 1, d =>
    match (channelHeads d.waiting).find? (fun f => decide (f.flits ≤ d.credit dir f.channel ∧ d.replay.length + f.flits ≤ 256)) with
    | none => d
    | some f =>
        let d1 := d.setCredit dir f.channel (d.credit dir f.channel - f.flits)
        DieDir.pump dir ack beat n
          { d1 with waiting := d.waiting.erase f, nextSeq := d1.nextSeq + BitVec.ofNat 10 f.flits,
                    replay := d1.replay ++ [{ f with seq := d1.nextSeq + BitVec.ofNat 10 (f.flits - 1), ack := ack }],
                    ackBeat := if d1.replay.isEmpty then beat else d1.ackBeat }

/-- Move a direction's waiting messages on. -/
def diePump (dir : LinkDir) (s : State) : State :=
  let ack := (s.dieLink.dir (otherDir dir)).exp - 1
  s.modDir dir (fun d => DieDir.pump dir ack s.time.beats d.waiting.length d)

/-- Send a message on the die link (R429, R430). -/
def dieSend (dir : LinkDir) (channel hart txn flits : Nat) (msg : DieMsg) (s : State) : State :=
  diePump dir (s.modDir dir (fun d =>
    { d with waiting := d.waiting ++ [{ channel := channel, hart := hart, txn := txn, flits := flits, msg := msg }] }))

/-- Distance from one sequence number to another, modulo 1,024 (R431). -/
def seqDist10 (a b : BitVec 10) : Nat := (b - a).toNat

/-- Receive slots freed at the receiver (R430): their credits wait to be returned. -/
def DieDir.free (d : DieDir) (ch n : Nat) : DieDir := { d with owed := Tab.upd d.owed 0 ch (fun v => v + n) }

/-- Credits of a channel come back to the sender (R430): as many as the receiver has freed. -/
def DieDir.giveBack (dir : LinkDir) (ch n : Nat) (d : DieDir) : DieDir :=
  let k := min n (Tab.get d.owed 0 ch)
  { (d.setCredit dir ch (min (dieSlots dir ch) (d.credit dir ch + k))) with owed := Tab.upd d.owed 0 ch (fun v => v - k) }

/-- Apply an acknowledgement to a sender (R428, R431): the flits it names leave the replay buffer, and the flits that bring it
return the credits of every slot freed so far (log 14). -/
def DieDir.acknowledge (dir : LinkDir) (ack : BitVec 10) (beat : Nat) (d : DieDir) : DieDir :=
  let done := d.replay.filter (fun f => decide (seqDist10 f.seq ack < 512))
  if done.isEmpty then d
  else
    let d1 := (List.range 6).foldl (fun x ch => x.giveBack dir ch (Tab.get x.owed 0 ch)) d
    { d1 with replay := d.replay.filter (fun f => !decide (seqDist10 f.seq ack < 512)), acked := ack, ackBeat := beat }

/-- Posted writes whose flits the steward die has acknowledged (R441, R446): a mailbox queue's event follows its write. -/
def postedAcked (s : State) : State :=
  let d := s.dieLink.toSteward
  let flying (m : Nat) : Bool := (d.waiting ++ d.replay).any (fun f => f.mark == m)
  let done := s.bridge.posted.filter (fun e => !flying e.1)
  let s1 := s.modBridge (fun b => { b with posted := b.posted.filter (fun e => flying e.1) })
  forEach done (fun e t => match e.2.2 with
    | some q => if (Tab.get t.bridge.mailboxes {} q).eventEn then raise 303 t else t
    | none => t) s1

/-- Apply an acknowledgement in the state, and let waiting messages go. -/
def dieAck (dir : LinkDir) (ack : BitVec 10) (s : State) : State :=
  postedAcked (diePump dir (s.modDir dir (DieDir.acknowledge dir ack s.time.beats)))

/-- The flits of a direction that have not reached their receiver yet, oldest first. -/
def DieDir.inFlight (d : DieDir) : List DieFlit := d.replay.filter (fun f => decide (seqDist10 d.exp f.seq < 512))

/-- A store of bytes into steward SRAM at an address of R418; bytes outside SRAM are not stored. A reservation of a hart on one of the bytes is
lost (R413, log 9). -/
def sramWrite (address : Nat) (data : List Byte) (s : State) : State :=
  let hit (r : BitVec 64 × Nat) : Bool := decide (r.1.toNat < address + data.length ∧ address < r.1.toNat + r.2)
  if 0x08000000 ≤ address ∧ address + data.length ≤ 0x0A000000 then
    let s1 := s.modSteward (fun t => { t with sram := memWrite 0 t.sram (address - 0x08000000) data })
    forEach ((s.steward.harts.filter (fun h => h.2.reservation.any hit)).map (·.1)) (fun h t => t.modHart h (fun x => { x with reservation := none })) s1
  else s

/-- The steward's copy of the almanac after a broadcast (R46): it never runs backwards. -/
def stewardTime (s : State) : BitVec 64 :=
  s.time.stewardCopy + BitVec.ofNat 64 (s.time.beats - s.time.stewardBeat)

/-- The hart's outstanding access is over (R429, R433): one that ends in an error raises an access fault (R443, R449; DEDUCED, log 113). -/
def Hart.accessOver (typ : Nat) (h : Hart) : Hart :=
  let x := { h with waits := none, access := none }
  match h.access with
  | some a => if typ = cplError then x.trap false (accessCause a.1) a.2 else x
  | none => x

/-- What a flit does when it reaches the steward die (R416, R417, R429). A hart leaves WFI where its offer becomes takeable. A broadcast sets the copy of the almanac forward; where the copy
stands ahead of it, the copy holds its value until the almanac passes it (R46, R47). -/
def deliverToSteward (f : DieFlit) (s : State) : State :=
  match f.msg with
  | .offer src prio vec => s.modHart f.hart (fun h =>
      let x : Hart := { h with offer := some (src, prio, vec) }
      { x with wfi := x.wfi && !x.canTake })
  | .withdraw src _ => s.modHart f.hart (fun h =>
      match h.offer with
      | some o => if o.1 = src then { h with offer := none } else h
      | none => h)
  | .posted a d => sramWrite a d s
  | .completion typ _ => s.modHart f.hart (Hart.accessOver typ)
  | .almanac v => s.modTime (fun t =>
      let cur := t.stewardCopy + BitVec.ofNat 64 (t.beats - t.stewardBeat)
      if cur.toNat ≤ v.toNat then { t with stewardCopy := v, stewardBeat := t.beats }
      else { t with stewardCopy := cur, stewardBeat := t.beats + (cur.toNat - t.now.toNat) })
  | _ => s

/-- Deliver the flits of the steward's direction in order, up to and with the first one that meets a test (R431): each brings the
acknowledgement of the other direction (R428). -/
def deliverUpTo (p : DieFlit → Bool) : List DieFlit → State → State
  | [], s => s
  | f :: rest, s =>
    let s1 := (deliverToSteward f s).modDir .toSteward (fun d => ({ d with exp := f.seq + 1 }).free f.channel f.flits)
    let s1 := diePump .toFabric (s1.modDir .toFabric (DieDir.acknowledge .toFabric f.ack s1.time.beats))
    if p f then s1 else deliverUpTo p rest s1

/-- Deliver up to the first flit in flight that meets a test, where one does and the link is up. -/
def deliverNext (p : DieFlit → Bool) (s : State) : State :=
  let fl := s.dieLink.toSteward.inFlight
  if s.dieUp && !s.dieLink.toSteward.naking && fl.any p then deliverUpTo p fl s else s

/-- Take a sequenced flit from the steward in the fabric die (R428, R431): it is in sequence, its acknowledgement applies. -/
def takeFromSteward (f : DieFlit) (s : State) : State :=
  dieAck .toSteward f.ack (s.modDir .toFabric (fun d => ({ d with exp := f.seq + 1 }).free f.channel f.flits))

/-- Whether a message from the steward can arrive now on a channel: the link is up, no flit sent earlier is still on its way, none of the
channel waits for a credit (R27), and the steward die holds a credit of the channel and a place in its replay buffer (R430, R431). -/
def State.stewardCanReach (s : State) (channel : Nat) : Bool :=
  let d := s.dieLink.toFabric
  s.dieUp && !d.naking && d.inFlight.isEmpty && !d.waiting.any (fun f => f.channel == channel) && decide (1 ≤ d.credit .toFabric channel ∧ d.replay.length < 256)

/-- A message of a hart crosses the link to the fabric die (R429): it is sent and arrives. -/
def fromSteward (channel hart : Nat) (msg : DieMsg) (s : State) : State :=
  let s1 := dieSend .toFabric channel hart 0 1 msg s
  match s1.dieLink.toFabric.inFlight.getLast? with
  | some f => takeFromSteward f s1
  | none => s1

/-- The number of flits that a message with `n` payload bytes takes (R428): 52 bytes each. -/
def flitsOf (n : Nat) : Nat := max 1 ((n + 51) / 52)

/-- Write bytes into steward SRAM over POSTED-IN (R429): up to 256 bytes a message. `port` is where the write came from, `queue` the
mailbox queue it fills. -/
def postedIn (address : Nat) (data : List Byte) (port : Nat) (queue : Option Nat) (s : State) : State :=
  let n := flitsOf (8 + data.length)
  let m := s.bridge.nextMark
  let s1 := count 25 0x05 n (s.modBridge (fun b => { b with posted := b.posted ++ [(m, port, queue)], nextMark := m + 1 }))
  let f : DieFlit := { channel := chPosted, flits := n, mark := m, msg := .posted address data }
  diePump .toSteward (s1.modDir .toSteward (fun d => { d with waiting := d.waiting ++ [f] }))

/-- Answer a hart over COMPLETION (R429). -/
def completeToHart (hart typ : Nat) (data : BitVec 64) (s : State) : State :=
  dieSend .toSteward chCompletion hart 0 1 (.completion typ data)
    (s.modBridge (fun b => { b with answers := (hart, typ, data) :: b.answers }))

/-- What a hart gets from its own die. -/
def localAnswer (hart typ : Nat) (data : BitVec 64) (s : State) : State :=
  s.modBridge (fun b => { b with answers := (hart, typ, data) :: b.answers })

/-- A hart's access raises an exception (R413, R418): the hart gets no data and enters its trap handler, with the cause and the address. -/
def hartFault (hart cause : Nat) (address : BitVec 64) (s : State) : State :=
  localAnswer hart cplError 0x01 (s.modHart hart (fun h => h.trap false cause address))

/-- A hart's access to the fabric die (R427, R433): it crosses the die link and has its effect; while the link is down it holds its
hart; behind a flit of the steward that has not arrived it does not come about yet (log 5). A hart issues an access only when
it has collected the answer to its last one. `named` is the address as the hart named it. -/
def hartAccessAs (named : BitVec 64) (channel hart : Nat) (store : Bool) (address : BitVec 64) (size : Nat) (data : BitVec 64)
    (effect : State → State) (s : State) : State :=
  if !s.fabricOn then s
  else if s.stewardCanReach channel then
    let mine (f : DieFlit) : Bool := f.channel == chCompletion && f.hart == hart
    let s1 := (deliverNext mine s).modHart hart (fun h => { h with access := some (store, named) })
    effect (fromSteward channel hart (.access store address size data) s1)
  else if s.dieUp then s
  else s.modHart hart (fun h =>
    { h with access := some (store, named), waits := match h.waits with | some t => some t | none => some s.tick })

/-- A hart's access to the fabric die at an address that needs no translation (R427, R433). -/
def hartAccess (channel hart : Nat) (store : Bool) (address : BitVec 64) (size : Nat) (data : BitVec 64)
    (effect : State → State) (s : State) : State := hartAccessAs address channel hart store address size data effect s

end Sys2Proof.Machine
end

