-- ==== Sys2Proof/Machine/Events.lean ====
section
/-! DEFINITION. The event controller (15_event_controller): offers, takes, stacks, completion and resets, and the harts' side of
an offer (R416, R417). -/

namespace Sys2Proof.Machine

/-- The recording block number of the EVC (R540). -/
def blockEvc : Nat := 0x1B

/-- The level of a target (R459): the priority of its highest valid entry, with the fault slot above them all (R464). -/
def EvcTarget.level (t : EvcTarget) : Nat :=
  if t.faultSlot then 15 else match t.stack with
    | [] => 0
    | e :: _ => e.1

/-- The top of a target's stack (R464): the fault slot when it is valid, else the highest entry. -/
def EvcTarget.top (t : EvcTarget) : Option Nat :=
  if t.faultSlot then some 0 else match t.stack with
    | [] => none
    | e :: _ => some e.2

/-- A source is pending (R457): a level source while its input is high and it is not in service, an edge source while its bit
is set. -/
def EvcSource.isPending (x : EvcSource) : Bool := if x.edge then x.pending else x.input && !x.inService

/-- A source other than 0 is a candidate for a target (R459). -/
def EvcSource.candidate (x : EvcSource) (t level : Nat) : Bool :=
  x.isPending && x.enable && decide (0 < x.priority.toNat ∧ level < x.priority.toNat) && decide (x.target.toNat = t)

/-- The better of two candidates (R459): the higher priority, then the lower source number. The second one has the higher number. -/
def betterOf (a : Option (Nat × Nat)) (src prio : Nat) : Option (Nat × Nat) :=
  match a with
  | none => some (src, prio)
  | some x => if x.2 < prio then some (src, prio) else some x

/-- The best candidate of a target (R459): (source, priority). Source 0 comes before all while it is raised for the target and its
fault slot is free (log 15); a halted target has none (R465). -/
def bestCandidate (s : State) (t : Nat) : Option (Nat × Nat) :=
  let x := s.target t
  if x.halted then none
  else if x.faultPending && !x.faultSlot then some (0, 15)
  else s.evc.sources.foldl (fun a e =>
    if e.2.candidate t x.level then betterOf a e.1 e.2.priority.toNat else a) none

/-- The vector of a source (R455). -/
def vectorOf (s : State) (src : Nat) : BitVec 64 := if src = 0 then s.evc.faultVec else (s.source src).vec

/-- Withdraw a target's open offer (R460, R461): the WITHDRAW flit is sent and the offer is in doubt. -/
def evcWithdraw (t : Nat) (s : State) : State :=
  match (s.target t).offer with
  | some o =>
    if !o.isOpen then s
    else
      let s1 := dieSend .toSteward chEvent t 0 1 (.withdraw o.source o.priority) s
      traceEvc o.source t o.priority 2 (count 26 0x07 1
        (s1.modTarget t (fun x => { x with offer := some { o with isOpen := false } })))
  | none => s

/-- A flit is the WITHDRAW of a target's offer (R463). -/
def DieFlit.withdraws (f : DieFlit) (t : Nat) : Bool :=
  f.channel == chEvent && f.hart == t && (match f.msg with | .withdraw _ _ => true | _ => false)

/-- An in-doubt offer is resolved once its WITHDRAW flit is acknowledged (R460): none is left to send, nor in the replay buffer. -/
def evcResolve (t : Nat) (s : State) : State :=
  let d := s.dieLink.toSteward
  match (s.target t).offer with
  | some o =>
    if o.isOpen || (d.waiting ++ d.replay).any (·.withdraws t) then s
    else s.modTarget t (fun x => { x with offer := none })
  | none => s

/-- A target's open offer is to be withdrawn: its source is no longer the best candidate, or offers are stopped (R461). -/
def State.offerStale (s : State) (t : Nat) : Bool :=
  match (s.target t).offer with
  | some o => o.isOpen && (s.evc.offersStopped || bestCandidate s t != some (o.source, o.priority))
  | none => false

/-- Withdraw a target's open offer where it no longer stands (R461). -/
def evcReview (t : Nat) (s : State) : State := if s.offerStale t then evcWithdraw t s else s

/-- Review every target. -/
def evcReviewAll (s : State) : State := forEach (List.range 4) evcReview s

/-- Source 1 is high while a target is halted (R458). -/
def driveHalted (s : State) : State := driveInput 1 ((List.range 4).any (fun t => (s.target t).halted)) s

/-- The steward can be offered events: the fabric die runs, offers are not stopped, the die link is up. -/
def State.canOffer (s : State) : Bool := s.fabricOn && !s.evc.offersStopped && s.dieUp

/-- Send an offer to a target (R459, R460, R463). -/
def evcSendOffer (t src prio : Nat) (s : State) : State :=
  traceEvc src t prio 1 (count 26 0x05 1
    (dieSend .toSteward chEvent t 0 1 (.offer src prio (vectorOf s src))
      (s.modTarget t (fun x => { x with offer := some { source := src, priority := prio } }))))

/-- The candidate that a target is to be offered (R459, R460): its best one, while it has no offer and offers can be sent. -/
def State.toOffer (s : State) (t : Nat) : Option (Nat × Nat) :=
  if (s.target t).offer.isSome || !s.canOffer then none else bestCandidate s t

/-- A target's part of a beat (R460, R461, R468): an offer that no longer stands is withdrawn, one whose WITHDRAW is acknowledged is resolved; a
selection starts where there is a candidate, and its OFFER is sent in the fourth beat after. -/
def evcBeat (t : Nat) (s : State) : State :=
  let s1 := evcReview t (evcResolve t s)
  let at' (n : Nat) (u : State) : State := u.modTarget t (fun x => { x with selBeat := n })
  match s1.toOffer t with
  | some c =>
    let k := (s1.target t).selBeat
    if k = 0 then at' (1 + s1.time.beats) s1
    else if k - 1 + 4 ≤ s1.time.beats then at' 0 (evcSendOffer t c.1 c.2 s1) else s1
  | none => if (s1.target t).selBeat = 0 then s1 else at' 0 s1

/-- Every target's part of a beat. -/
def evcBeats (s : State) : State := forEach (List.range 4) evcBeat s

/-- The EVC has something to do in a beat. -/
def State.evcBusy (s : State) : Bool :=
  (List.range 4).any (fun t => s.offerStale t || (s.toOffer t).isSome || decide (0 < (s.target t).selBeat))

/-- A stack-order fault (R464, R465): the record is written and source 0 raised for the target, or, with the fault slot valid, the
target is halted. -/
def stackOrderFault (t offending : Nat) (s : State) : State :=
  let x := s.target t
  let expected := match x.top with | some v => v | none => 0x800
  let s1 := s.modTarget t (fun y =>
    { y with faultCount := satAdd y.faultCount 1, expected := BitVec.ofNat 12 expected,
             offending := BitVec.ofNat 11 offending, second := y.faultSlot, faultStamp := s.now,
             halted := y.halted || y.faultSlot, faultPending := y.faultPending || !y.faultSlot })
  let s2 := traceEvc offending t 0 5 (logFault 0x48 blockEvc t offending expected 0 0 s1)
  let s3 := if x.faultSlot then s2 else raise 0 s2
  evcReview t (driveHalted s3)

/-- Push a taken source (R462): an entry at the offered priority, source 0 into the fault slot. -/
def EvcTarget.push (x : EvcTarget) (src prio : Nat) : EvcTarget :=
  if src = 0 then { x with faultSlot := true, faultPending := false } else { x with stack := (prio, src) :: x.stack }

/-- TAKE (R462 to R464). -/
def evcTakeOp (t src prio : Nat) (s : State) : State :=
  let x := s.target t
  match x.offer with
  | some o =>
    if o.source ≠ src then logFault 0x49 blockEvc t src 0 0 0 s
    else
      let s1 := s.modTarget t (fun y => { y with offer := none, quietDone := false })
      if (src = 0 ∧ x.faultSlot) ∨ (src ≠ 0 ∧ o.priority ≤ x.level) then stackOrderFault t src s1
      else
        let late := !o.isOpen || (decide (src ≠ 0) && !(s.source src).enable)
        let s2 := s1.modSource src (fun y => { y with pending := false, inService := true, late := y.late || late,
                                                      lateBeat := if late then 1 + s.time.beats else y.lateBeat })
        let s3 := count 26 0x06 1 (if late then count 26 0x08 1 s2 else s2)
        traceEvc src t o.priority 3 (s3.modTarget t (fun y => y.push src o.priority))
  | none => logFault 0x49 blockEvc t src 0 0 0 s

/-- A TAKE reaches the EVC: the flit that a hart sent, or, where none is on its way, one that the link brings now (R431). -/
def takeArrives (t src prio : Nat) (s : State) : State :=
  if !s.fabricOn || !s.dieUp || s.dieLink.toFabric.naking then s
  else
    match s.dieLink.toFabric.inFlight with
    | f :: _ => if f.channel = chEvent ∧ f.hart = t then
        match f.msg with
        | .take a b => evcTakeOp t a b (takeFromSteward f s)
        | _ => s
      else s
    | [] =>
      let s1 := deliverNext (fun f => f.channel == chEvent && f.hart == t) s
      let s2 := s1.modHart t (fun h =>
        match h.offer with | some o => if o.1 = src then { h with offer := none } else h | none => h)
      evcTakeOp t src prio (fromSteward chEvent t (.take src prio) s2)

/-- The top of a target's stack leaves it (R465). -/
def EvcTarget.pop (x : EvcTarget) : EvcTarget :=
  if x.faultSlot then { x with faultSlot := false } else { x with stack := x.stack.drop 1 }

/-- DONE (R465): the top is popped, or a stack-order fault follows. -/
def evcDoneOp (t src : Nat) (s : State) : State :=
  let x := s.target t
  if x.top = some src then
    let s1 := s.modTarget t EvcTarget.pop
    traceEvc src t 0 4 (s1.modSource src (fun y => { y with inService := false }))
  else if x.quietDone && x.top.isNone then s
  else stackOrderFault t src s

/-- Every source that a target has in service leaves service (R466). -/
def leaveService (t : Nat) (s : State) : State :=
  let x := s.target t
  let l := x.stack.map (·.2) ++ (if x.faultSlot then [0] else [])
  forEach l (fun src u => u.modSource src (fun y => { y with inService := false })) s

/-- Reset a target (R466): its open offer is withdrawn, its stack, fault slot and halt are cleared; a recorded edge stays pending. -/
def targetReset (t : Nat) (s : State) : State :=
  let s1 := leaveService t (evcWithdraw t s)
  driveHalted (traceEvc 0 t 0 6
    (s1.modTarget t (fun x => { x with stack := [], faultSlot := false, halted := false })))

/-- EVT_TRIGGER and EVC_SWTRIG (R402, R473): software source 1536 + n is asserted. -/
def softwareTrigger (n : Nat) (s : State) : State := evcReviewAll (raise (1536 + n % 512) s)

/-- Write a source's configuration word (R454): reserved bits are ignored, sources from 1536 on stay edge sources, source 0
ignores the write. -/
def setSourceConfig (src : Nat) (w : BitVec 32) (s : State) : State :=
  if src = 0 then s
  else evcReviewAll (s.modSource src (fun x =>
    { x with priority := w.extractLsb' 8 4, target := w.extractLsb' 4 2, edge := decide (1536 ≤ src) || w.getLsbD 1,
             enable := w.getLsbD 0 }))

/-- Write a source's vector (R455): bits [1:0] are ignored, source 0's vector is EVC_FAULT_VEC. -/
def setSourceVector (src : Nat) (v : BitVec 64) (s : State) : State :=
  if src = 0 then s else s.modSource src (fun x => { x with vec := v &&& 0xFFFFFFFFFFFFFFFC#64 })

/-- The configuration word of a source as it reads (R454). -/
def sourceConfig (s : State) (src : Nat) : Nat :=
  let x := s.source src
  if src = 0 then 0x0F03
  else fieldAt x.priority.toNat 8 + fieldAt x.target.toNat 4 + fieldAt (bit x.edge) 1 + bit x.enable

/-- EVC_PEND of a word as it reads (R457, R473). -/
def pendWord (s : State) (w : Nat) : Nat :=
  ((List.range 64).map (fun b => fieldAt (bit (if 64 * w + b = 0 then (List.range 4).any (fun t => (s.target t).faultPending)
    else (s.source (64 * w + b)).isPending)) b)).sum

/-- A write of 1 to a source's bit in EVC_PEND (R9, R10, R457): an edge source's pending is cleared, unless an assertion set it in this
beat; source 0 is pending for the targets whose stack faulted (R464). -/
def pendClearOne (src : Nat) (s : State) : State :=
  if !(s.source src).edge || !s.clears (s.source src).setBeat then s
  else
    let s1 := s.modSource src (fun x => { x with pending := false })
    if src = 0 then forEach (List.range 4) (fun t u => u.modTarget t (fun x => { x with faultPending := false })) s1 else s1

/-- A write of EVC_PEND (R457, R473): a 1 clears an edge source's pending and is ignored for a level source. -/
def pendClear (w : Nat) (v : BitVec 64) (s : State) : State :=
  evcReviewAll (forEach (bitsSet v 64) (fun b => pendClearOne (64 * w + b)) s)

/-- A write of EVC_LATE (R10, R473): W1C. -/
def lateClear (w : Nat) (v : BitVec 64) (s : State) : State :=
  forEach (bitsSet v 64) (fun b t => t.modSource (64 * w + b) (fun x => { x with late := x.late && !t.clears x.lateBeat })) s

/-- EVC_STATUS.quiet (R473): no stack entry, fault slot, open offer or in-doubt offer. -/
def State.evcQuiet (s : State) : Bool :=
  (List.range 4).all (fun t => let x := s.target t; x.stack.isEmpty && !x.faultSlot && x.offer.isNone)

/-- EVC_STATUS as it reads (R473). -/
def evcStatus (s : State) : Nat :=
  ((List.range 4).map (fun t => fieldAt (bit (s.target t).halted) (2 + t))).sum +
    fieldAt (bit s.evc.offersStopped) 1 + bit s.evcQuiet

/-- EVC_TGT_STATUS as it reads (R473). -/
def EvcTarget.status (x : EvcTarget) : Nat :=
  let o := match x.offer with
    | some o => fieldAt o.source 17 + fieldAt (bit !o.isOpen) 16 + fieldAt (bit o.isOpen) 15
    | none => 0
  o + fieldAt (bit x.halted) 14 + fieldAt (bit x.faultSlot) 13 + fieldAt (x.stack.length % 16) 4 + x.level

/-- EVC_FAULT_REC as it reads (R473). -/
def EvcTarget.faultRec (x : EvcTarget) : Nat :=
  fieldAt x.faultCount.toNat 48 + fieldAt x.expected.toNat 32 + fieldAt x.offending.toNat 16 + bit x.second

/-- EVC_STACK as it reads (R473): entry 0 is the fault slot, entry l is level l. -/
def EvcTarget.stackWord (x : EvcTarget) (i : Nat) : Nat :=
  ((List.range 4).map (fun j =>
    let k := 4 * i + j
    let e := if k = 0 then (if x.faultSlot then 0x8000 else 0)
      else match x.stack.find? (fun e => e.1 == k) with
        | some e => 0x8000 + e.2
        | none => 0
    fieldAt e (16 * j))).sum

/-- The doubleword of the EVC's registers at an offset that is a multiple of 8, as it reads (R9, R473): EVC_DONE, EVC_TGT_RESET and
EVC_SWTRIG are WO and read 0, as other addresses do. -/
def evcRead (s : State) (o : Nat) : Nat :=
  let bits (f : EvcSource → Bool) (w : Nat) : Nat :=
    ((List.range 64).map (fun b => fieldAt (bit (f (s.source (64 * w + b)))) b)).sum
  if o < 0x2000 then sourceConfig s (o / 4) + fieldAt (sourceConfig s (o / 4 + 1)) 32
  else if o < 0x6000 then (vectorOf s ((o - 0x2000) / 8)).toNat
  else if o < 0xA000 then (s.source ((o - 0x6000) / 8)).stamp.toNat
  else if o < 0xA100 then pendWord s ((o - 0xA000) / 8)
  else if o < 0xA200 then bits (·.inService) ((o - 0xA100) / 8)
  else if o < 0xA300 then bits (·.late) ((o - 0xA200) / 8)
  else if o = 0xF008 then s.evc.faultVec.toNat
  else if o = 0xF020 then evcStatus s
  else if 0xF100 ≤ o ∧ o < 0xF300 then
    let x := s.target ((o - 0xF100) / 0x80)
    match o % 0x80 with
    | 0x00 => x.status
    | 0x08 => x.faultRec
    | 0x10 => x.faultStamp.toNat
    | k => if 0x20 ≤ k ∧ k < 0x40 then x.stackWord ((k - 0x20) / 8) else 0
  else 0

/-- The EVC when the die link goes down (R28, R469): each open offer is withdrawn. -/
def evcLinkDown (s : State) : State := forEach (List.range 4) evcWithdraw s

/-- The EVC in a steward-only reset (R470): offers are discarded, every target is reset, the rest is kept. -/
def evcStewardReset (s : State) : State :=
  forEach (List.range 4) (fun t u => targetReset t (u.modTarget t (fun x => { x with offer := none }))) s

/-- The EVC in a fabric-only reset (R471). -/
def evcFabricReset (s : State) : State :=
  s.modEvc (fun e =>
    { e with
      sources := e.sources.foldl (fun t x =>
        Tab.set t {} x.1 { x.2 with pending := false, inService := false, late := false, input := false }) [],
      targets := (List.range 4).foldl (fun t i =>
        let x := Tab.get e.targets {} i
        Tab.set t {} i { faultCount := x.faultCount, expected := x.expected, offending := x.offending, second := x.second,
                         faultStamp := x.faultStamp, quietDone := true }) [],
      offersStopped := false })

/-- The EVC in a warm or cold reset (R471): every register at its reset value. -/
def evcReset (s : State) : State := s.setEvc {}

/-- The standard machine-mode interrupt entry at the vector of an offer (R416). -/
def Hart.enter (h : Hart) (src : Nat) (vec : BitVec 64) : Hart :=
  { h with mepc := h.pc, mpie := h.mie, mpp := h.priv, mie := false, priv := 3, mcause := 0x8000000000000018,
           mevsrc := BitVec.ofNat 11 src, pc := vec, wfi := false, offer := none }

/-- OFFER_TAKEN (R416): the offer reaches the hart; where it can be taken the hart enters the handler and sends TAKE. -/
def offerTakenOp (h : Nat) (s : State) : State :=
  let isOffer (f : DieFlit) : Bool := f.hart == h && (match f.msg with | .offer _ _ _ => true | _ => false)
  let s1 := if (s.hart h).offer.isNone then deliverNext isOffer s else s
  let x := s1.hart h
  if s1.steward.inReset || !x.canTake then s
  else match x.offer with
    | some o => dieSend .toFabric chEvent h 0 1 (.take o.1 o.2.1) (s1.modHart h (fun y => y.enter o.1 o.2.2))
    | none => s

/-- WITHDRAW_RECEIVED (R417). -/
def withdrawReceivedOp (h src : Nat) (s : State) : State :=
  deliverNext (fun f => f.hart == h && (match f.msg with | .withdraw x _ => x == src | _ => false)) s

/-- WITHDRAW_ACKNOWLEDGED (R460): the flit is delivered and acknowledged. No TAKE that raced it can still be on its way. -/
def withdrawAckOp (t : Nat) (s : State) : State :=
  match (s.target t).offer with
  | some o =>
    let raced := s.dieLink.toFabric.inFlight.any (fun f => f.channel == chEvent && f.hart == t)
    if o.isOpen || !s.dieUp || s.dieLink.toSteward.naking || raced then s
    else match s.dieLink.toSteward.replay.find? (·.withdraws t) with
      | some f => evcResolve t (dieAck .toSteward f.seq (deliverNext (fun g => g.seq == f.seq) s))
      | none => evcResolve t s
  | none => s

/-- Meaning of SOURCE_ASSERTION. -/
def execSourceAssertion (source : Nat) (s : State) : Out :=
  whenWf s (decide (source < 2048)) (onlyIf s.fabricOn (fun t => evcReviewAll (raise source t)) s)

/-- Meaning of WITHDRAW_ACKNOWLEDGED. -/
def execWithdrawAcknowledged (target : Nat) (s : State) : Out :=
  whenWf s (decide (target < 4)) (onlyIf s.fabricOn (withdrawAckOp target) s)

/-- Meaning of TAKE. -/
def execTake (target source priority : Nat) (s : State) : Out :=
  whenWf s (decide (target < 4) && decide (source < 2048)) (takeArrives target source priority s)

/-- Meaning of OFFER_TAKEN. -/
def execOfferTaken (hart : Nat) (s : State) : Out := whenWf s (decide (hart < 4)) (offerTakenOp hart s)

/-- Meaning of WITHDRAW_RECEIVED. -/
def execWithdrawReceived (hart source : Nat) (s : State) : Out :=
  whenWf s (decide (hart < 4) && decide (source < 2048)) (withdrawReceivedOp hart source s)

/-- Meaning of EVC_DONE. -/
def execEvcDone (hart : Nat) (value : BitVec 32) (s : State) : Out :=
  whenWf s (decide (hart < 4))
    (hartAccess chRequest hart true 0x2008F000 4 (value.setWidth 64)
      (fun t => completeToHart hart 4 0 (evcDoneOp hart (bitsOf value 10 0) t)) s)

/-- A steward store to a register of the EVC crosses the die link on REQUEST-OUT (R27, R429). DESIGN CHOICE (log 102): the rows that name no
hart are hart 0's stores. -/
def evcRegisterStore (offset size : Nat) (value : BitVec 64) (f : State → State) (s : State) : State :=
  hartAccess chRequest 0 true (BitVec.ofNat 64 (0x20080000 + offset)) size value (fun t => completeToHart 0 4 0 (f t)) s

/-- Meaning of EVC_TGT_RESET. -/
def execEvcTgtReset (value : BitVec 32) (s : State) : Out :=
  whenWf s (true) (evcRegisterStore 0xF010 4 (value.setWidth 64) (forEach (bitsSet value 4) targetReset) s)

/-- Meaning of EVC_SWTRIG. -/
def execEvcSwtrig (value : BitVec 32) (s : State) : Out :=
  whenWf s (true) (evcRegisterStore 0xF018 4 (value.setWidth 64) (softwareTrigger (bitsOf value 8 0)) s)

/-- Meaning of EVC_PEND_CLEAR. -/
def execEvcPendClear (word : Nat) (value : BitVec 64) (s : State) : Out :=
  whenWf s (decide (word < 32)) (evcRegisterStore (0xA000 + 8 * word) 8 value (pendClear word value) s)

end Sys2Proof.Machine
end

