-- ==== Sys2Proof/Machine/Fit.lean ====
section
/-! DEFINITION. Binary64 arithmetic on exact integers, and the prediction of R555. -/

namespace Sys2Proof.Machine

/-- A binary64 number: mantissa times a power of two, the mantissa below 2^53. -/
structure B64 where
  m : Int := 0
  e : Int := 0
  deriving DecidableEq, Repr

/-- Round a magnitude with a sticky bit to 53 bits, to nearest, ties to even. -/
def roundMant (m : Nat) (sticky : Bool) : Nat × Nat :=
  if m < 2 ^ 53 then (m, 0)
  else
    let k := m.log2 + 1 - 53
    let q := m / 2 ^ k
    let r := m % 2 ^ k
    let half := 2 ^ (k - 1)
    let up := decide (half < r) || (decide (r = half) && (sticky || decide (q % 2 = 1)))
    (if up then q + 1 else q, k)

/-- A number from a sign, a magnitude, an exponent and a sticky bit. -/
def mkB64 (neg : Bool) (m : Nat) (e : Int) (sticky : Bool) : B64 :=
  let r := roundMant m sticky
  { m := if neg then -(r.1 : Int) else r.1, e := e + r.2 }

/-- An integer as a binary64 number. -/
def B64.ofInt (i : Int) : B64 := mkB64 (decide (i < 0)) i.natAbs 0 false

/-- Sum. -/
def B64.add (a b : B64) : B64 :=
  let e := min a.e b.e
  let x := a.m * 2 ^ (a.e - e).toNat + b.m * 2 ^ (b.e - e).toNat
  mkB64 (decide (x < 0)) x.natAbs e false

/-- Negation. -/
def B64.neg (a : B64) : B64 := { a with m := -a.m }

/-- Difference. -/
def B64.sub (a b : B64) : B64 := a.add b.neg

/-- Product. -/
def B64.mul (a b : B64) : B64 :=
  let x := a.m * b.m
  mkB64 (decide (x < 0)) x.natAbs (a.e + b.e) false

/-- Quotient; a zero divisor answers zero, which no use of it reaches. -/
def B64.div (a b : B64) : B64 :=
  if b.m = 0 then {} else
  let n := a.m.natAbs * 2 ^ 120
  let d := b.m.natAbs
  mkB64 (decide (a.m < 0) != decide (b.m < 0)) (n / d) (a.e - b.e - 120) (decide (n % d ≠ 0))

/-- The whole part of a square root, bit by bit from bit `i - 1`. -/
def isqrt (n : Nat) : Nat → Nat → Nat
  | 0, r => r
  | i + 1, r => if (r + 2 ^ i) * (r + 2 ^ i) ≤ n then isqrt n i (r + 2 ^ i) else isqrt n i r

/-- Square root of a number that is not negative. -/
def B64.sqrt (a : B64) : B64 :=
  let s : Nat := if a.e % 2 = 0 then 120 else 121
  let n := a.m.natAbs * 2 ^ s
  let r := isqrt n 90 0
  mkB64 false r ((a.e - s) / 2) (decide (r * r ≠ n))

/-- The whole part of a number. -/
def B64.trunc (a : B64) : Int := if 0 ≤ a.e then a.m * 2 ^ a.e.toNat else a.m.tdiv (2 ^ (-a.e).toNat)

/-- Sum of a list, in order. -/
def sumB64 (l : List B64) : B64 := l.foldl B64.add {}

/-- The prediction of R555 for samples (life-clock hour, value), oldest first: days and lower bound as they read. `falling` says
that a falling value approaches the limit (R552). -/
def predict (samples : List (Nat × Int)) (limit : Nat) (falling : Bool) : Nat × Nat :=
  if samples.length < 4 then (0xFFFFFFFF, 0xFFFFFFFF) else
  let n := B64.ofInt samples.length
  let pts := samples.map (fun x => ((B64.ofInt x.1).div (B64.ofInt 24), B64.ofInt x.2))
  let mt := (sumB64 (pts.map (·.1))).div n
  let my := (sumB64 (pts.map (·.2))).div n
  let stt := sumB64 (pts.map (fun x => (x.1.sub mt).mul (x.1.sub mt)))
  let sty := sumB64 (pts.map (fun x => (x.1.sub mt).mul (x.2.sub my)))
  let b := sty.div stt
  let a := my.sub (b.mul mt)
  let ssr := sumB64 (pts.map (fun x =>
    let r := x.2.sub (a.add (b.mul x.1))
    r.mul r))
  let now := match pts.getLast? with | some x => x.1 | none => {}
  let fit := a.add (b.mul now)
  let lim := B64.ofInt limit
  let gap := if falling then fit.sub lim else lim.sub fit
  let rate := if falling then b.neg else b
  let se := ((ssr.div (B64.ofInt (samples.length - 2))).div stt).sqrt
  if rate.m ≤ 0 then (0xFFFFFFFE, 0xFFFFFFFE)
  else if gap.m ≤ 0 then (0, 0)
  else
    (min (gap.div rate).trunc.toNat 0xFFFFFFFD,
     min (gap.div (rate.add ((B64.ofInt 2).mul se))).trunc.toNat 0xFFFFFFFD)

end Sys2Proof.Machine
end

