-- ==== Sys2Proof/Machine/Monitors.lean ====
section
/-! DEFINITION. The wear book's monitors, samples, predictions and lane fault records (R549 to R557). -/

namespace Sys2Proof.Machine

/-- Table index of a monitor (R552): 1,024 × class + instance. -/
def monitorIndex (cls inst : Nat) : Nat := 1024 * cls + inst

/-- Instances of each monitor class (R552, R407). -/
def monitorInstances (cls : Nat) : Nat :=
  if cls = 1 then 256 else if cls = 2 then 32 else if cls = 3 then 1 else if cls = 4 then 2 else if cls = 5 then 1
  else if cls = 6 then 1 else if cls = 7 then 5 else if cls = 8 then 48 else if cls = 9 then 1 else 0

/-- Every monitor in class and instance order (R549). -/
def allMonitors : List (Nat × Nat) :=
  (List.range 10).flatMap (fun c => (List.range (monitorInstances c)).map (fun i => (c, i)))

/-- Monitors of the classes below a class. -/
def monitorsBelow (cls : Nat) : Nat := ((List.range cls).map monitorInstances).sum

/-- Rated current of a supply in ampere (R558): VDD_CORE, VDD_SRAM, VDD_SD, VDD_SDH, VDD_STW. -/
def ratedCurrent (i : Nat) : Nat := if i = 0 then 260 else if i = 1 then 45 else if i = 2 then 170 else if i = 3 then 60 else 14

/-- The limit of a monitor (R552). -/
def monitorLimit (cls inst : Nat) : Nat :=
  if cls = 1 then 8 else if cls = 2 then 50000 else if cls = 3 then 100 else if cls = 4 then 10 else if cls = 5 then 20000
  else if cls = 6 then 100000 else if cls = 7 then ratedCurrent inst * 87600 else if cls = 8 then 5000 else 80000

/-- For classes 0x01 and 0x04 a falling value approaches the limit (R552). -/
def monitorFalling (cls : Nat) : Bool := cls == 1 || cls == 4

/-- One value gathered for a monitor between samples (R552). -/
def gatherValue (cls inst v : Nat) (s : State) : State :=
  let more (g : Gather) : Gather := { sum := g.sum + v, count := g.count + 1 }
  s.modWear (fun w => { w with gather := Tab.upd w.gather {} (monitorIndex cls inst) more })

/-- The sample code of a mean or total: 32 bits (log 17). -/
def sampleCode (i : Int) : Nat := (i % (2 ^ 32 : Int)).toNat

/-- The value of a sample code (log 17). -/
def sampleValue (c : Nat) : Int := if c < 2 ^ 31 then c else (c : Int) - 2 ^ 32

/-- The raw value that a monitor's sample is formed from, where it has one: the mean of what was gathered, or the running
total (R552, R553). -/
def rawSample (w : Wear) (cls inst : Nat) : Option Nat :=
  let g := Tab.get w.gather {} (monitorIndex cls inst)
  if cls = 5 then some w.cycles
  else if cls = 6 then some (w.binTicks * 1024 / (100 * 3600 * 10 ^ 9))
  else if cls = 7 then some (Tab.get w.charge 0 inst * ratedCurrent inst * 1024 / (1000 * 3600 * 10 ^ 9))
  else if cls = 9 then some (w.wordWrites.foldl (fun m e => max m e.2) 0)
  else if g.count = 0 then none else some (g.sum / g.count)

/-- The sample of a monitor relative to its first (R552): classes 0x02 and 0x08 hold the loss or rise against it, in parts per
million and in 0.01 %. -/
def relativeSample (cls first raw : Nat) : Nat :=
  if cls = 2 then (if first = 0 then 0 else sampleCode (((first : Int) - raw) * 1000000 / first))
  else if cls = 8 then (if first = 0 then 0 else sampleCode (((raw : Int) - first) * 10000 / first))
  else sampleCode raw

/-- A record with one more sample (R554): at most 16 are held, the oldest leaves. -/
def Monitor.push (m : Monitor) (hour : Nat) (first sample : Nat) : Monitor :=
  { m with first := first, hour := hour, held := min 16 (m.held + 1), next := (m.next + 1) % 16,
           samples := (m.samples ++ [(hour, sample)]).drop (m.samples.length - 15) }

/-- The 16 slots of a record: the sample of slot i, 0xFFFF_FFFF where none is held (R554). -/
def Monitor.slotValue (m : Monitor) (i : Nat) : Nat :=
  let n := m.samples.length
  let back := (m.next + 15 - i) % 16
  if back < n then ((m.samples[n - 1 - back]?).map (·.2)).getD 0xFFFFFFFF else 0xFFFFFFFF

/-- The 80 bytes of a monitor record (R554). -/
def Monitor.bytes (m : Monitor) : List Byte :=
  let head := bytesOf 4 32 (BitVec.ofNat 32 m.first) ++ bytesOf 4 32 (BitVec.ofNat 32 m.hour) ++
    [BitVec.ofNat 8 m.held, BitVec.ofNat 8 m.next, 0, 0]
  let tail := (List.range 16).flatMap (fun i => bytesOf 4 32 (BitVec.ofNat 32 (m.slotValue i)))
  head ++ bytesOf 4 32 (crc32c 0 (head ++ tail)) ++ tail

/-- Queue bytes for the wear book (R543, R551, R552): they wait for command slots of the power link. -/
def writeBook (offset : Nat) (bytes : List Byte) (s : State) : State :=
  s.modWear (fun w => { w with writes := w.writes ++ [(offset, bytes)] })

/-- The prediction of one monitor (R555): days and lower bound. -/
def monitorPrediction (w : Wear) (cls inst : Nat) : Nat × Nat :=
  let m := Tab.get w.monitors {} (monitorIndex cls inst)
  predict ((m.samples.filter (fun x => x.2 ≠ 0xFFFFFFFF)).map (fun x => (x.1, sampleValue x.2)))
    (monitorLimit cls inst) (monitorFalling cls)

/-- The latest sample of a monitor, 0xFFFF_FFFF where it has none. -/
def latestSample (w : Wear) (cls inst : Nat) : Nat :=
  ((Tab.get w.monitors {} (monitorIndex cls inst)).samples.getLast?.map (·.2)).getD 0xFFFFFFFF

/-- The monitor with the least lower bound (R556): (class, instance, days, lower bound). -/
def wearLimiting (w : Wear) : Nat × Nat × Nat × Nat :=
  w.monitors.foldl (fun best e =>
    let p := monitorPrediction w (e.1 / 1024) (e.1 % 1024)
    if p.2 < best.2.2.2 then (e.1 / 1024, e.1 % 1024, p.1, p.2) else best) (0, 0, 0xFFFFFFFF, 0xFFFFFFFF)

/-- Write one sample of one monitor (R552). -/
def sampleMonitor (hour : Nat) (c : Nat × Nat) (s : State) : State :=
  let i := monitorIndex c.1 c.2
  let m := Tab.get s.wear.monitors {} i
  let m' := match rawSample s.wear c.1 c.2 with
    | some raw =>
      let first := if m.samples.any (fun x => x.2 ≠ 0xFFFFFFFF) then m.first else raw
      m.push hour first (relativeSample c.1 first raw)
    | none => m.push hour m.first 0xFFFFFFFF
  writeBook (0x4000 + 80 * (monitorsBelow c.1 + c.2)) m'.bytes
    (s.modWear (fun w => { w with monitors := Tab.set w.monitors {} i m', gather := Tab.drop w.gather i }))

/-- The verdict of R556 after a sample: a WEAR entry each time advisory or urgent rises. -/
def wearVerdict (s : State) : State :=
  let v := wearLimiting s.wear
  let adv := decide (v.2.2.2 ≤ 365)
  let urg := decide (v.2.2.2 ≤ 90)
  let rose := (adv && !s.wear.advisory) || (urg && !s.wear.urgent)
  let s1 := s.modWear (fun w => { w with advisory := adv, urgent := urg })
  if rose then logFault 0x60 0x1F v.1 v.2.1 v.2.2.1 (BitVec.ofNat 64 v.2.2.2) 0 s1 else s1

/-- MONITOR_SAMPLE (R552, R556): every monitor takes its sample at the first season close after each 168th hour. -/
def sampleMonitors (s : State) : State :=
  let due := s.wear.hours / 168
  if due ≤ s.wear.sampleHour then s
  else wearVerdict (forEach allMonitors (sampleMonitor (168 * due)) (s.modWear (fun w => { w with sampleHour := due })))

/-- The 12 bytes of a lane fault record (R551). -/
def laneRecord (w : Wear) (lane : Nat) : List Byte :=
  let b := bytesOf 4 32 (Tab.get w.laneLos 0 lane) ++ bytesOf 4 32 (Tab.get w.laneLol 0 lane)
  b ++ bytesOf 4 32 (crc32c 0 b)

/-- The wear book once every write that waits has been made. -/
def Wear.pendingBook (w : Wear) : List (Nat × Byte) := w.writes.foldl (fun b x => memWrite 0xFF b x.1 x.2) w.book

/-- The running fault counts of a lane as the wear book holds them (R551): 0 where the record's check fails. -/
def Wear.bookLane (w : Wear) (lane : Nat) : Nat × Nat :=
  let b := memRead 0xFF w.pendingBook (0xB000 + 12 * lane) 12
  if natOfBytes (b.drop 8) = crc32c 0 (b.take 8) then (natOfBytes (b.take 4), natOfBytes ((b.drop 4).take 4)) else (0, 0)

/-- At the first season close after each life-clock hour the changed lane records are written (R551). -/
def writeLaneRecords (s : State) : State :=
  if !s.wear.hourDue then s
  else
    let s1 := forEach s.wear.laneChanged (fun l t => writeBook (0xB000 + 12 * l) (laneRecord t.wear l) t) s
    s1.modWear (fun w => { w with laneChanged := [], hourDue := false })

/-- A lane fault counts in the lane's running counts (R249, R551). -/
def countLaneFault (lane : Nat) (lol : Bool) (s : State) : State :=
  s.modWear (fun w =>
    let w1 := if lol then { w with laneLol := Tab.upd w.laneLol 0 lane (fun v => satAdd v 1) }
      else { w with laneLos := Tab.upd w.laneLos 0 lane (fun v => satAdd v 1) }
    { w1 with laneChanged := if lane ∈ w1.laneChanged then w1.laneChanged else w1.laneChanged ++ [lane] })

/-- Weight of a temperature bin, in hundredths (R553). -/
def binWeight (celsius : Int) : Nat :=
  if celsius < 60 then 10 else if celsius < 75 then 25 else if celsius < 85 then 50 else if celsius < 95 then 100
  else if celsius ≤ 105 then 200 else 800

/-- THERMAL_READING (R553): the bin takes 1,024 ticks; a thermal cycle counts after a rise and a fall of 20 °C; the first reading is the first
minimum. -/
def thermalReadingOp (celsius : Int) (s : State) : State :=
  s.modWear (fun w =>
    let w1 := { w with celsius := celsius, thermalTick := 1 + s.tick, binTicks := w.binTicks + 1024 * binWeight celsius }
    if w.thermalTick = 0 then { w1 with extreme := celsius }
    else if !w.risen then
      if w.extreme + 20 ≤ celsius then { w1 with risen := true, extreme := celsius }
      else { w1 with extreme := min w.extreme celsius }
    else if celsius ≤ w.extreme - 20 then { w1 with risen := false, extreme := celsius, cycles := w.cycles + 1 }
    else { w1 with extreme := max w.extreme celsius })

/-- The regulators' current monitors are sampled once per tick (R560): each input is a free value on its scale, in thousandths of
the rated current, at most 1.2 of it (log 18). -/
def sampleImon (s : State) : State :=
  (List.range 5).foldl (fun t i =>
    let r := takeFree t
    r.2.modWear (fun w => { w with charge := Tab.upd w.charge 0 i (fun c => c + r.1.toNat % 1201) })) s

/-- The ageing ring oscillators are read at each season close (R552 class 0x02): each reading is a free value (log 18). -/
def readOscillators (s : State) : State :=
  (List.range 32).foldl (fun t i =>
    let r := takeFree t
    gatherValue 2 i (r.1.toNat % 2 ^ 32) r.2) s

/-- The pass-FET quotients are passed on at each season close and their sums cleared (R513), in micro-ohm per code unit. -/
def passFetQuotients (s : State) : State :=
  s.power.copies.foldl (fun t e =>
    if e.2.currents = 0 then t
    else (gatherValue 8 e.1 ((e.2.drops * 1000000 / (e.2.currents : Int)).toNat) t).modCopy e.1 (fun c => { c with drops := 0, currents := 0 })) s

/-- LIFE_CLOCK_HOUR (R550, R551): the power die counts an hour and writes the next of its 16 slots. -/
def lifeClockHourOp (s : State) : State :=
  s.modWear (fun w =>
    let slot := w.hours % 16
    let body := bytesOf 8 64 (BitVec.ofNat 64 (w.hours + 1)) ++ [0, 0, 0, 0]
    { w with hours := w.hours + 1, hourDue := true,
             wordWrites := (List.range 4).foldl (fun t k => Tab.upd t 0 (0x400 + 4 * slot + k) (· + 1)) w.wordWrites,
             book := memWrite 0xFF w.book (0x1000 + 16 * slot) (body ++ bytesOf 4 32 (crc32c 0 body)) })

/-- The next summary of the persist queue is written (R543, R544); its entry is marked once the last of its bytes lies in the wear book. -/
def ledgerPersistOp (s : State) : State :=
  match s.ledger.persist with
  | [] => s
  | e :: rest =>
    let s1 := s.modLedger (fun l =>
      { l with persist := rest, psn := (l.psn + 1) % 65536, nextSlot := (l.nextSlot + 1) % 256,
               persisting := l.persisting ++ [(0x2000 + 32 * l.nextSlot, e)] })
    writeBook (0x2000 + 32 * s.ledger.nextSlot) (e.summary s.ledger.psn) s1

/-- Meaning of LEDGER_WRITE. -/
def execLedgerWrite (s : State) : Out := whenWf s (true) (onlyIf (s.fabricOn && decide (s.ledger.drained ≠ 1 + s.time.beats)) drainOne s)

/-- Meaning of LEDGER_PERSIST. -/
def execLedgerPersist (s : State) : Out := whenWf s (true) (onlyIf s.fabricOn ledgerPersistOp s)

/-- Meaning of LIFE_CLOCK_HOUR. -/
def execLifeClockHour (s : State) : Out := whenWf s (true) (onlyIf s.dev.vaux lifeClockHourOp s)

/-- The sensors are read every 1,024 ticks (R553). -/
def State.thermalDue (s : State) : Bool := decide (s.wear.thermalTick = 0 ∨ s.wear.thermalTick + 1023 ≤ s.tick)

/-- Meaning of THERMAL_READING. -/
def execThermalReading (celsius : Int) (s : State) : Out :=
  whenWf s (true) (onlyIf (s.fabricOn && s.thermalDue) (thermalReadingOp celsius) s)

end Sys2Proof.Machine
end

