-- ==== Sys2Proof/Machine/Receipts.lean ====
section
/-! DEFINITION. Receipts, histories, result blocks and the ends of QUEUED commands (R351 to R364). -/

namespace Sys2Proof.Machine

/-- Status codes of receipts (R365). -/
def stDone : Nat := 0x0000
/-- QUEUED (R365). -/
def stQueued : Nat := 0x0001
/-- AWAITING_COUNTERSIGN (R365). -/
def stAwaiting : Nat := 0x0002
/-- DUPLICATE (R365). -/
def stDuplicate : Nat := 0x0003
/-- BUSY (R365). -/
def stBusy : Nat := 0x0010
/-- NOT_IN_MODE (R365). -/
def stNotInMode : Nat := 0x0011
/-- NO_RESOURCE (R365). -/
def stNoResource : Nat := 0x0012
/-- INVALID_OPCODE (R365). -/
def stInvalidOpcode : Nat := 0x0020
/-- INVALID_PARAMETER (R365). -/
def stInvalidParam : Nat := 0x0021
/-- RESERVED_NONZERO (R365). -/
def stReserved : Nat := 0x0022
/-- DENIED (R365). -/
def stDenied : Nat := 0x0030
/-- COUNTERSIGN_MISMATCH (R365). -/
def stMismatch : Nat := 0x0031
/-- COUNTERSIGN_EXPIRED (R365). -/
def stExpired : Nat := 0x0032
/-- TARGET_FAULTED (R365). -/
def stFaulted : Nat := 0x0040
/-- ABORTED (R365). -/
def stAborted : Nat := 0x0041
/-- TIMEOUT (R365). -/
def stTimeout : Nat := 0x0050

/-- The authority of a ring (R348): 0 STEWARD, 1 OOB, 2 PARTNER, 3 INTERNAL. -/
def authorityOf (ring : Nat) : Nat := if ring < 13 then 0 else ring - 12

/-- Receipts unread on a ring (R352): free-running 16-bit counts. -/
def Ring.unread (r : Ring) : Nat := (r.rcptTail - r.rcptHead).toNat

/-- Commands waiting on a ring (R352). -/
def Ring.waiting (r : Ring) : Nat := (r.cmdTail - r.cmdHead).toNat

/-- The tags that a ring's history still holds (R362): those still executing, and those whose receipts are among the last 256. -/
def prune (receipts : Nat) (h : List HistEntry) : List HistEntry :=
  h.filter (fun e => e.executing || decide (receipts < e.receiptNo + 256))

/-- The 32 bytes of a receipt (R361). -/
def Receipt.bytes (r : Receipt) : List Byte :=
  bytesOf 4 32 r.tag ++ bytesOf 2 16 r.opcode ++ bytesOf 2 16 r.status ++ bytesOf 8 64 r.stamp ++ bytesOf 16 128 r.result

/-- Whether a status ends a command: every one but QUEUED and AWAITING_COUNTERSIGN (R365). -/
def isFinal (status : Nat) : Bool := status != stQueued && status != stAwaiting

/-- The history after a receipt (R362, R363): a DUPLICATE receipt changes no original. -/
def noteReceipt (r : Ring) (origin : Nat) (x : Receipt) (proposal : Option Nat) : Ring :=
  if x.status.toNat = stDuplicate then { r with duplicates := satAdd r.duplicates 1 }
  else
    let n := r.receipts + 1
    let h := r.history.map (fun e =>
      if e.tag = x.tag ∧ e.origin = origin then
        { e with status := x.status, stamp := x.stamp, executing := !isFinal x.status.toNat, receiptNo := n,
                 proposal := match proposal with | some p => BitVec.ofNat 16 p | none => e.proposal }
      else e)
    { r with receipts := n, history := prune n h }

/-- Put a receipt into its ring's next receipt slot, and tell its reader (R351 to R353, R366, R532). -/
def placeReceipt (ring : Nat) (x : Receipt) (proposal : Nat) (s : State) : State :=
  let r := s.ring ring
  let head := if ring = 15 ∧ 256 ≤ r.unread then r.rcptHead + 1 else r.rcptHead
  let addr := ring * 0x8000 + 0x4000 + 0x20 * (r.rcptTail.toNat % 256)
  let s1 := s.modTeller (fun t => { t with mem := memWrite 0 t.mem addr x.bytes })
  let s2 := s1.modRing ring (fun y => { y with rcptTail := y.rcptTail + 1, rcptHead := head })
  let s3 := if ring = 13 then
      s2.modTeller (fun t => { t with ibi := some (BitVec.ofNat 8 (s2.ring 13).rcptTail.toNat) }) else s2
  let s4 := count 26 0x02 1 s3
  let s5 := trace 0x30 (fieldAt x.opcode.toNat 144 + fieldAt x.status.toNat 128 + fieldAt x.tag.toNat 96 + fieldAt ring 92 +
    fieldAt proposal 76) s4
  if r.eventEn then raise (224 + ring) s5 else s5

/-- The proposal number that a ring's history holds for a tag: of a proposal, or of a COUNTERSIGN (R363). -/
def State.proposalOf (s : State) (ring origin : Nat) (tag : BitVec 32) : Nat :=
  match (s.ring ring).history.find? (fun e => decide (e.tag = tag ∧ e.origin = origin)) with
  | some e => e.proposal.toNat
  | none => 0

/-- Write a receipt into its ring: its stamp is the beat of writing, and the history follows it (R51, R361 to R363). One of ring 14
goes to the partner too (R351, R360). -/
def issueReceipt (ring : Nat) (d : Returned) (s : State) : State :=
  let x : Receipt := { d.receipt with stamp := s.now }
  let s1 := s.modRing ring (fun r => noteReceipt r d.origin x d.proposal)
  let s2 := if ring = 14 then s1.modTeller (fun t => { t with returns := t.returns ++ [{ d with receipt := x }] }) else s1
  placeReceipt ring x (s2.proposalOf ring d.origin x.tag) s2

/-- Whether a receipt of a ring must wait inside the Teller (R351, R359). -/
def State.receiptWaits (s : State) (ring : Nat) : Bool :=
  decide (ring ≠ 15) && (decide (256 ≤ (s.ring ring).unread) || !(s.ring ring).deferred.isEmpty)

/-- The first receipt of a ring's last command has been written, or waits (R358): receipts of earlier commands tell nothing of it. -/
def Ring.answered (origin : Nat) (tag : BitVec 32) (r : Ring) : Ring :=
  { r with firstOpen := r.firstOpen && !decide (r.openOrigin = origin ∧ r.openTag = tag) }

/-- Write a receipt, or let it wait in order inside the Teller where it finds the receipt area full (R351, R359, R361). -/
def writeReceipt (ring origin : Nat) (tag : BitVec 32) (opcode : BitVec 16) (status : Nat) (result : List Byte)
    (proposal : Option Nat) (s : State) : State :=
  let d : Returned := {
    receipt := { tag := tag, opcode := opcode, status := BitVec.ofNat 16 status, result := BitVec.ofNat 128 (natOfBytes (result.take 16)) },
    origin := origin, block := result, proposal := proposal }
  let s1 := s.modRing ring (Ring.answered origin tag)
  if s.receiptWaits ring then s1.modRing ring (fun y => { y with deferred := y.deferred ++ [d] })
  else issueReceipt ring d s1

/-- A receipt that waits is written once receipt space frees (R359). -/
def writeDeferred (ring : Nat) (s : State) : State :=
  match (s.ring ring).deferred with
  | [] => s
  | d :: rest =>
    if 256 ≤ (s.ring ring).unread then s
    else issueReceipt ring d (s.modRing ring (fun y => { y with deferred := rest }))

/-- The opcode, tag, plot and flags of a command (R354). -/
def Command.opcode (c : Command) : BitVec 16 := c.word.extractLsb' 0 16
/-- The tag of a command (R354). -/
def Command.tag (c : Command) : BitVec 32 := c.word.extractLsb' 32 32
/-- The plot field of a command (R354). -/
def Command.plotField (c : Command) : Nat := bitsOf c.word 79 64
/-- ext_param (R354). -/
def Command.extParam (c : Command) : Bool := c.word.getLsbD 16
/-- ext_result (R354). -/
def Command.extResult (c : Command) : Bool := c.word.getLsbD 17
/-- fwd (R354). -/
def Command.fwd (c : Command) : Bool := c.word.getLsbD 18
/-- param_len (R354). -/
def Command.paramLen (c : Command) : Nat := bitsOf c.word 95 80
/-- result_addr (R354). -/
def Command.resultAddr (c : Command) : Nat := bitsOf c.word 511 448
/-- param_addr (R354). -/
def Command.paramAddr (c : Command) : Nat := bitsOf c.word 191 128

/-- Byte n of an inline command (R376). -/
def Command.byte (c : Command) (n : Nat) : Nat := bitsOf c.word (8 * n + 7) (8 * n)

/-- `len` bytes of an inline command from byte n on, little-endian (R376). -/
def Command.num (c : Command) (n len : Nat) : Nat := bitsOf c.word (8 * (n + len) - 1) (8 * n)

/-- `len` bytes of the parameter block from offset n on, little-endian (R376). -/
def Command.blk (c : Command) (n len : Nat) : Nat := natOfBytes ((c.block.drop n).take len)

/-- Write a result block to where the command asks for it (R355, R356): steward SRAM on rings 0 to 12, the result buffer of
the countersign port on ring 13; on ring 14 it returns with the receipt. -/
def writeBlock (c : Command) (result : List Byte) (s : State) : State :=
  if !c.extResult || result.isEmpty then s
  else if c.ring < 13 then
    s.modSteward (fun t => { t with sram := memWrite 0 t.sram (c.resultAddr - 0x08000000) result })
  else if c.ring = 13 then s.modTeller (fun t => { t with csResult := memWrite 0 t.csResult c.resultAddr result })
  else s

/-- A PLOT_RESET of ring 15 that is refused with BUSY or NOT_IN_MODE sets CXL Reset Error in the device's status (R68). -/
def noteCxlReset (c : Command) (status : Nat) (s : State) : State :=
  if c.ring = 15 ∧ c.opcode.toNat = 0x0207 ∧ (status = stBusy ∨ status = stNotInMode) then
    s.modPlot c.plotField (fun p => { p with resetError := true })
  else s

/-- Answer a command with a receipt and its result (R356, R361). -/
def answer (c : Command) (status : Nat) (result : List Byte) (proposal : Option Nat) (s : State) : State :=
  writeReceipt c.ring c.origin c.tag c.opcode status result proposal (writeBlock c result (noteCxlReset c status s))

/-- A new job of a command in QUEUED (R359). -/
def addJob (c : Command) (k : JobKind) (byCommit : Bool) (s : State) : State :=
  s.modTeller (fun t => { t with jobs := t.jobs ++
    [{ ring := c.ring, origin := c.origin, tag := c.tag, opcode := c.opcode, kind := k, byCommit := byCommit }] })

/-- Whether a command of some kind is in QUEUED. -/
def State.hasJob (s : State) (p : JobKind → Bool) : Bool := s.teller.jobs.any (fun j => p j.kind)

/-- Write the final receipt of every command in QUEUED of some kind, and drop it (R359). -/
def finishJobs (p : JobKind → Bool) (status : Nat) (result : List Byte) (s : State) : State :=
  let done := s.teller.jobs.filter (fun j => p j.kind)
  let s1 := s.modTeller (fun t => { t with jobs := t.jobs.filter (fun j => !p j.kind) })
  forEach done (fun j t => writeReceipt j.ring j.origin j.tag j.opcode status result none t) s1

/-- Write the final receipt of one kind of command. -/
def finishJob (k : JobKind) (status : Nat) (result : List Byte) (s : State) : State :=
  finishJobs (fun x => decide (x = k)) status result s

/-- Commands of a ring in QUEUED that the ring started itself (R359). -/
def queuedSelf (s : State) (ring : Nat) : Nat := (s.teller.jobs.filter (fun j => j.ring == ring && !j.byCommit)).length

/-- Commands of a ring in QUEUED (R352 RING_STATUS.queued). -/
def queuedAll (s : State) (ring : Nat) : Nat := (s.teller.jobs.filter (fun j => j.ring == ring)).length

end Sys2Proof.Machine
end

