-- ==== Sys2Proof/Machine/Season.lean ====
section
/-! DEFINITION. Seasons (R37 to R39, R45), the automatic eye scan (R255), the counters' mode switch (R526), and the port and
lane lookups they need. -/

namespace Sys2Proof.Machine

/-- Lanes of a width code of R205: x2, x4, x8, x16. -/
def lanesOfWidth (w : Nat) : Nat := if w = 0 then 2 else if w = 1 then 4 else if w = 2 then 8 else 16

/-- The lanes of a port (R2, R3). -/
def Port.lanes (p : Port) (port : Nat) : List Nat :=
  (List.range (lanesOfWidth p.entry.width.toNat)).map (fun i => 16 * (port / 8) + 2 * (port % 8) + i)

/-- The configured port that a lane belongs to (R2, R3). -/
def State.portOfLane (s : State) (lane : Nat) : Option Nat :=
  (s.ports.port.find? (fun e => decide (e.2.entry.role ≠ 0) && (e.2.lanes e.1).contains lane)).map (·.1)

/-- The place of a lane within its port. -/
def laneAt (port lane : Nat) : Nat := lane - (16 * (port / 8) + 2 * (port % 8))

/-- The lanes that a width code of R228 stands for: 1 x1, 2 x2, 3 x4, 4 x8, 5 x16. -/
def lanesOfCode (w : Nat) : Nat := 2 ^ (w - 1)

/-- A link in L0 or Recovery expects data on a lane (R228, R241): one of its width, and in L0p of that width. PRESUMED (log 99): the lanes of a
narrower width are the port's lowest. -/
def Port.usesLane (p : Port) (i : Nat) : Bool :=
  (p.width == 0 || decide (i < lanesOfCode p.width.toNat)) &&
    (decide (p.ltssm ≠ .L0) || p.l0pWidth == 0 || decide (i < lanesOfCode p.l0pWidth.toNat))

/-- A lane is active (R241, R250): its port's link protocol expects data on it, and it is not looped. Lanes outside the negotiated width, those
that L0p has turned off, and those that a retrain has left idle (R282) are in expected idle. -/
def State.laneActive (s : State) (lane : Nat) : Bool :=
  (s.lane lane).loop == 0 &&
  match s.portOfLane lane with
  | some p =>
    if (s.port p).isTrunk then
      decide ((s.trunk (p / 8)).state ∉ [.down, .retrain, .broken]) && !(s.trunk (p / 8)).lanesOff.contains (laneAt p lane)
    else decide ((s.port p).ltssm = .polling ∨ (s.port p).ltssm = .configuration) ||
      (decide ((s.port p).ltssm = .L0 ∨ (s.port p).ltssm = .recovery) && (s.port p).usesLane (laneAt p lane))
  | none => false

/-- A lane is active in L0 (R253): its port is in L0, or its trunk is UP. -/
def State.laneInL0 (s : State) (lane : Nat) : Bool :=
  s.laneActive lane &&
  match s.portOfLane lane with
  | some p => decide ((s.port p).ltssm = .L0) || ((s.port p).isTrunk && decide ((s.trunk (p / 8)).state = .up))
  | none => false

/-- Start an eye-margin scan (R253). -/
def startScan (lane k : Nat) (auto : Bool) (s : State) : State :=
  s.modLane lane (fun l => { l with marginStatus := 3, scanAuto := auto, scanK := k })

/-- AUTOMATIC_EYE_SCAN (R255): if none runs, one starts with k = 20 on the next lane, in ascending order, that has wear_scan 1, is
active in L0 and is not being margined by its host (R254). DESIGN CHOICE (log 118): it passes over a lane whose requested scan runs; the
spec does not say whether it may choose that lane. -/
def autoScan (s : State) : State :=
  if s.lanes.autoRuns.isSome then s
  else
    let order := (List.range 256).map (fun i => (s.lanes.autoNext + i) % 256)
    match order.find? (fun l => (s.lane l).wearScan && s.laneInL0 l && !(s.lane l).margining && (s.lane l).marginStatus != 3) with
    | none => s
    | some l => startScan l 20 true (s.modLanes (fun x => { x with autoRuns := some l, autoNext := (l + 1) % 256 }))

/-- COUNTER_MODE_SWITCH (R525, R526): a snapshot, then every programmable counter at 0, in the new way of counting. -/
def switchCounters (s : State) : State :=
  let s1 := snapshot s
  s1.modCtr (fun c => { c with value := [], chained := wantsChain s1, modeDue := false })

/-- Whether the counters are to change between saturating and chaining (R526). -/
def counterSwitchDue (s : State) : Bool := wantsChain s != s.ctr.chained

/-- The recovery flag at a season close (R314): it clears at the end of the first full season after it was set; one that was cut
short is none. -/
def recoverySeason (short : Bool) (s : State) : State :=
  if !s.pair.recovery then s
  else if s.pair.recoveryFull && !short then s.modPair (fun p => { p with recovery := false, recoveryFull := false })
  else s.modPair (fun p => { p with recoveryFull := true })

/-- A new season exponent takes effect at a season boundary under the old one, and its command ends (R38). -/
def newExponent (s : State) : State :=
  match s.time.newK with
  | some k =>
    if s.time.kDue then
      finishJob .season stDone [] (s.modTime (fun t => { t with seasonK := k, newK := none }))
    else s
  | none => s

/-- The statistics are latched into the season ledger and the live ones restart from 0 (R39, R529, R530). -/
def latchStatistics (s : State) : State :=
  s.modCtr (fun c =>
    let c1 := { c with parity := !c.parity, ledgerStart := s.time.seasonStart, ledgerShort := s.time.closeShort,
                       ledgerSpanning := s.time.spanning, statSat := false }
    if c1.parity then { c1 with live1 := [] } else { c1 with live0 := [] })

/-- SEASON_CLOSE (R39, R45, R50, R527, R530, R314, R513, R551, R552, R255): the close that is due takes place now. -/
def seasonCloseOp (s : State) : State :=
  let s1 := raise 385 (snapshot (latchStatistics s))
  let s2 := newExponent (s1.modTime (fun t =>
    { t with seasonStart := t.now, seasonNum := t.seasonNum + 1, seasonDue := false, closeShort := false,
             spanning := false }))
  let s3 := recoverySeason s.time.closeShort s2
  let s4 := if s2.pair.recovery && !s3.pair.recovery then switchCounters s3 else s3
  autoScan (writeLaneRecords (sampleMonitors (passFetQuotients (readOscillators s4))))

/-- Beats from one season boundary to the next (R37). -/
def State.seasonBeats (s : State) : Nat := 1024 * 2 ^ s.time.seasonK.toNat

end Sys2Proof.Machine
end

