-- ==== Sys2Proof/Machine/Address.lean ====
section
/-! DEFINITION. Address translation (R79 to R81), the home slice and the lines of a bed (R101, R102), and the places of a line in
the directory, the vault and the predictor. -/

namespace Sys2Proof.Machine

/-- The lines of one extent: 256 MiB in lines of 64 B (R81, R102). -/
def extentLines : Nat := 2 ^ 22

/-- The XOR of the twelve 3-bit groups of a line offset (R101). -/
def lineHash (line : Nat) : Nat := (List.range 12).foldl (fun h i => h ^^^ (line / 8 ^ i) % 8) 0

/-- The home slice of a line of a bed (R101). -/
def sliceOf (bed line : Nat) : Nat := lineHash line ^^^ (bed % 8)

/-- Extent index and byte within the extent of a byte offset within a bed (R81). -/
def Bed.locate (b : Bed) (offset : Nat) : Nat × Nat :=
  let n := 2 ^ b.ways.toNat
  let g := 256 * 2 ^ b.gran.toNat
  let set := offset / (n * 2 ^ 28)
  let r := offset % (n * 2 ^ 28)
  let way := (r / g) % n
  (b.base.toNat + set * n + way, (r / (g * n)) * g + r % g)

/-- The pool line number of a line of a bed (R102). -/
def Bed.pl (b : Bed) (line : Nat) : Nat :=
  let x := b.locate (64 * line)
  x.1 * extentLines + x.2 / 64

/-- The extent of a pool line (R102). -/
def extentOf (pl : Nat) : Nat := pl / extentLines

/-- The directory set of a pool line (R102). -/
def dirSetOf (pl : Nat) : Nat := (pl % 65536) ^^^ (pl / 65536 % 65536)

/-- The directory tag of a pool line (R102). -/
def dirTagOf (pl : Nat) : Nat := pl / 65536 % 2 ^ 26

/-- The pool line that a directory entry of a set tracks: the inverse of R102. -/
def plOfDir (set tag : Nat) : Nat := tag * 65536 + (set ^^^ (tag % 65536))

/-- The vault set of a pool line (R134). -/
def vaultSetOf (pl : Nat) : Nat := (pl % 4096) ^^^ (pl / 4096 % 4096)

/-- The vault tag of a pool line (R134). -/
def vaultTagOf (pl : Nat) : Nat := pl / 4096 % 2 ^ 30

/-- The pool line that a vault tag of a set names: the inverse of R134. -/
def plOfVault (set tag : Nat) : Nat := tag * 4096 + (set ^^^ (tag % 4096))

/-- The predictor index of a pool line (R153). -/
def predictorIndex (pl : Nat) : Nat := (pl % 4096) ^^^ (pl / 4096 % 4096) ^^^ (pl / 2 ^ 24 % 4096)

/-- The byte offset within a bed of a byte of an extent: the inverse of R81. -/
def Bed.offsetOf (b : Bed) (idx inx : Nat) : Nat :=
  let n := 2 ^ b.ways.toNat
  let g := 256 * 2 ^ b.gran.toNat
  let pos := idx - b.base.toNat
  (pos / n) * (n * 2 ^ 28) + ((inx / g) * n + pos % n) * g + inx % g

/-- The bed that holds a pool line, and the line's offset within it: by the extent table (R23, R76). -/
def State.bedOfPl (s : State) (pl : Nat) : Nat × Nat :=
  let e := s.extent (extentOf pl)
  (e.bed.toNat, (s.bed e.bed.toNat).offsetOf (extentOf pl) (64 * (pl % extentLines)) / 64)

/-- The physical DPA of a pool line at a place (R81). -/
def Place.dpa (p : Place) (pl : Nat) : Nat := p.dpaBase.toNat * 2 ^ 28 + 64 * (pl % extentLines)

/-- Whether a committed decoder's range contains an address (R79). -/
def Decoder.hit (d : Decoder) (hpa : BitVec 64) : Bool :=
  d.committed && decide (d.base.toNat ≤ hpa.toNat ∧ hpa.toNat < d.base.toNat + d.size.toNat)

/-- The DPA that a decoder gives (R79). -/
def Decoder.dpa (d : Decoder) (hpa : BitVec 64) : Nat :=
  let hoff := hpa.toNat - d.base.toNat
  d.dpaBase.toNat + (hoff / 2 ^ (8 + d.g + d.w)) * 2 ^ (8 + d.g) + hoff % (256 * 2 ^ d.g)

/-- The first committed decoder of a port's vPPBs that contains an address, lowest vPPB first (R79, R91): the vPPB and the DPA. -/
def State.decode (s : State) (port : Nat) (hpa : BitVec 64) : Option (Nat × Nat) :=
  let lo := 68 * port
  match s.ports.decoder.find? (fun e => decide (lo ≤ e.1 ∧ e.1 < lo + 68) && e.2.hit hpa) with
  | some e => some ((e.1 - lo) / 4, e.2.dpa hpa)
  | none => none

/-- The plot whose synthesised device a port's vPPB carries (R63, R208). -/
def State.plotAt (s : State) (port vppb : Nat) : Option Nat :=
  (s.pool.plots.find? (fun e => decide (e.2.state ≠ .free ∧ e.2.port.toNat = port ∧ e.2.vcsSlot.toNat = vppb))).map (·.1)

/-- The valid slot whose window contains a DPA (R80): slot and offset. -/
def Plot.window (p : Plot) (dpa : Nat) : Option (BedSlot × Nat) :=
  match p.slots.find? (fun e => e.2.valid && decide (e.2.dpaBase.toNat * 2 ^ 28 ≤ dpa ∧
      dpa < (e.2.dpaBase.toNat + e.2.span.toNat) * 2 ^ 28)) with
  | some e => some (e.2, dpa - e.2.dpaBase.toNat * 2 ^ 28)
  | none => none

/-- How an access's first two translation steps end (R79, R80, R82). -/
inductive Reach where
  | noDecoder
  | noWindow (plot : Nat) (dpa : Nat)
  | notBacked (plot : Nat) (dpa : Nat)
  | backed (plot home bed off : Nat)
  deriving DecidableEq, Repr

/-- Step 2 for a plot and a DPA (R80). -/
def State.reachDpa (s : State) (plot dpa : Nat) : Reach :=
  match (s.plot plot).window dpa with
  | none => .noWindow plot dpa
  | some w => if w.2 < w.1.accepted.toNat * 2 ^ 28 then .backed plot w.1.home.toNat w.1.bed.toNat w.2 else .notBacked plot dpa

/-- Steps 1 and 2 of translation (R79, R80). -/
def State.reach (s : State) (port : Nat) (hpa : BitVec 64) : Reach :=
  match s.decode port hpa with
  | none => .noDecoder
  | some d => match s.plotAt port d.1 with
    | none => .noDecoder
    | some p => s.reachDpa p d.2

/-- The line that a message without a charge names (R574): home, bed, line. -/
def State.lineAt (s : State) (port : Nat) (hpa : BitVec 64) : Option (Nat × Nat × Nat) :=
  match s.decode port hpa with
  | none => none
  | some d => match s.plotAt port d.1 with
    | none => none
    | some p => match (s.plot p).window d.2 with
      | none => none
      | some w => some (w.1.home.toNat, w.1.bed.toNat, w.2 / 64)

/-- The agent ID of a (device, upstream port) pair in this home's table, while it is not retiring (R75). -/
def State.agentOf (s : State) (device port : Nat) : Option Nat :=
  (s.pool.agents.find? (fun e => e.2.valid && !e.2.retiring && decide (e.2.device.toNat = device ∧ e.2.port.toNat = port))).map
    (·.1)

/-- The plots of this device that an agent's port has, among those that map a bed. -/
def State.plotsOfAgent (s : State) (a bed : Nat) : List Nat :=
  let x := s.agent a
  if x.device.toNat = s.self then
    s.plotsWhere (fun p => decide (p.port = x.port) && p.maps s.self bed)
  else []

/-- Whether an agent is lost, or its loss scans run (R125 to R128). -/
def State.agentLost (s : State) (a : Nat) : Bool := (s.agent a).lost

/-- Whether an agent is lost for a bed: as a whole, or for the beds of a plot whose drain timed out (R70). -/
def State.agentLostAt (s : State) (a bed : Nat) : Bool := s.agentLost a || (s.agent a).lossBeds.contains bed

/-- The agents of a bed's sharer mask (R73). -/
def Bed.sharerList (b : Bed) : List Nat := bitsSet b.sharers 64

/-- The synthesised DPA at which a plot sees a line of a bed (R80). -/
def State.dpaOf (s : State) (plot home bed line : Nat) : Nat :=
  match (s.plot plot).slots.find? (fun e => e.2.valid && decide (e.2.home.toNat = home ∧ e.2.bed.toNat = bed)) with
  | some e => e.2.dpaBase.toNat * 2 ^ 28 + 64 * line
  | none => 64 * line

/-- The address that a decoder takes to a DPA (R79), the inverse of its arithmetic for this device's place in the interleave set. -/
def Decoder.hpa (d : Decoder) (dpa : Nat) : Nat :=
  let x := dpa - d.dpaBase.toNat
  let g := 256 * 2 ^ d.g
  d.base.toNat + (x / g) * (g * 2 ^ d.w) + d.position * g + x % g

/-- The host address of a DPA of a plot's synthesised device: through the first committed decoder of its vPPB that reaches it (log 21). -/
def State.hpaOf (s : State) (plot dpa : Nat) : Nat :=
  let p := s.plot plot
  let lo := 4 * (17 * p.port.toNat + p.vcsSlot.toNat)
  match s.ports.decoder.find? (fun e => decide (lo ≤ e.1 ∧ e.1 < lo + 4) && e.2.committed &&
      decide (e.2.dpaBase.toNat ≤ dpa ∧ dpa < e.2.dpaBase.toNat + e.2.size.toNat / 2 ^ e.2.w)) with
  | some e => e.2.hpa dpa
  | none => dpa

/-- A line of a bed as a snoop names it on a trunk (log 24). -/
def lineName (bed line : Nat) : Nat := bed * 2 ^ 42 + 64 * line

/-- The host address of a line that a snoop of another home names, for a port (log 24). -/
def State.snoopedAt (s : State) (port home name : Nat) : Nat :=
  let bed := name / 2 ^ 42
  match s.plotsWhere (fun p => decide (p.port.toNat = port) && p.maps home bed) with
  | p :: _ => s.hpaOf p (s.dpaOf p home bed (name % 2 ^ 42 / 64))
  | [] => name

end Sys2Proof.Machine
end

