-- ==== Sys2Proof/Machine/Cells.lean ====
section
/-! DEFINITION. Cells that the device's own blocks form (R163 to R168), load levels (R182 to R186), routing over trunks (R291), and
messages to hosts, memory devices and other fabric devices. -/

namespace Sys2Proof

/-- A message that carries data. -/
def msgHasData (m : Msg) : Bool :=
  decide (m.op = .memData ∨ m.op = .memWr ∨ m.op = .memWrPtl ∨ m.op = .atomResult) || (match m.tlp with | some t => !t.data.isEmpty | none => false)

/-- The bytes of an image of a mirrored table (R64, R73, R75, R76, R188, R205, R261, R323, R434). -/
def imageBytes (table : Nat) : Nat := ([128, 32, 16, 2, 8, 8, 8, 16, 40][table - 1]?).getD 0

/-- The bytes of a mirror record (R304, R305): its head and its body. -/
def MirrorBody.bytes : MirrorBody → Nat
  | .config table _ _ => 24 + imageBytes table
  | .commit _ _ => 20
  | .dir _ _ _ => 28
  | .vaultDirty _ _ _ _ => 92
  | .vaultClean _ _ => 20
  | .wbPending _ _ _ _ => 92
  | .wbDone _ => 18
  | .ack _ => 20

/-- The bytes of a message in a cell (R164, R290). DESIGN CHOICE (log 93): a CXL.mem message takes 64 bytes where it carries data, and 16
where it carries none. -/
def Msg.bytes (m : Msg) : Nat :=
  match m.mirror with
  | some r => r.body.bytes
  | none => if msgHasData m ∨ m.op = .atom then 64 else 16

/-- Posted, non-posted or completion (R165 io_sub) of a TLP for the bridge or the Barrow. -/
def IoIn.sub : IoIn → BitVec 2
  | .completion _ _ _ => 2
  | .hostCompletion _ _ _ => 2
  | .submission _ _ true _ _ => 1
  | .barRead _ _ _ _ => 1
  | _ => 0

/-- The bytes of a TLP for the bridge or the Barrow (log 80): a header of four double words, and its data. -/
def IoIn.bytes : IoIn → Nat
  | .write _ _ data => 16 + data.length
  | .message _ _ _ _ _ payload => 16 + payload.length
  | .completion _ _ _ => 24
  | .hostCompletion _ _ data => 16 + data.length
  | .submission _ _ _ _ _ => 80
  | .control _ _ => 24
  | .bar _ size _ => 16 + size
  | .barRead _ _ _ _ => 16
  | .poisoned => 16

end Sys2Proof

namespace Sys2Proof.Machine

/-- Classes of cells (R165). -/
def clsSnoop : BitVec 2 := 0
/-- Response (R165). -/
def clsResponse : BitVec 2 := 1
/-- Request (R165). -/
def clsRequest : BitVec 2 := 2
/-- I/O (R165). -/
def clsIo : BitVec 2 := 3

/-- The crossbar port of the Barrow and of the bridge (R22, R436). -/
def xbarBarrow : Nat := 24
/-- The bridge's crossbar port (R435). -/
def xbarBridge : Nat := 25

/-- The trunk VC of a class (R168). -/
def vcOf (cls : BitVec 2) (src dst : Nat) : BitVec 3 :=
  if cls = 0 then 4 else if src = 24 ∨ dst = 24 then 7 else if cls = 1 then 6 else 5

/-- A station takes in a flit on one of its ports (R165): its cells carry the flit's number. -/
def newFlit (port : Nat) (s : State) : State :=
  let st := port / 8
  let tag := Tab.get s.switch.flitTags 0 st
  s.modSwitch (fun w => { w with
    flitTags := Tab.set w.flitTags 0 st (tag + 1), flitPort := Tab.put w.flitPort (4096 * st + tag.toNat) port })

/-- The number of the flit that a station took in last (R165). -/
def State.flitNow (s : State) (station : Nat) : BitVec 12 := Tab.get s.switch.flitTags 0 station - 1

/-- The cells of one queue of R167: an I/O queue's sub-queues keep one order between them (R171). -/
def sameQueue (a b : SwCell) : Bool := a.src == b.src && a.dst == b.dst && a.egress == b.egress && a.cls == b.cls

/-- Two cells of one source's unit of packing (R164): a station's ingress flit, or another source's output of one transaction. -/
def sameUnit (a b : SwCell) : Bool :=
  a.src == b.src && (if a.src < 16 then a.flitTag == b.flitTag else a.output != 0 && a.output == b.output)

/-- Two cells of one unit of packing (R164): the same output, external port, class and sub-queue, in one payload. Towards a trunk station each
message has a header of its own, and all go to one device (R289); else they share what the cell header says of them. -/
def packs (a b : SwCell) : Bool :=
  sameUnit a b && a.dst == b.dst && a.egress == b.egress && a.cls == b.cls &&
    a.ioSub == b.ioSub && a.vc == b.vc && decide (a.length.toNat + b.length.toNat ≤ 236) && a.cong == b.cong &&
    (match a.trunk, b.trunk with
    | some m, some n => m.dstDev == n.dstDev
    | none, none => a.plot == b.plot && a.bed == b.bed && a.offset == b.offset && a.home == b.home && a.agent == b.agent
    | _, _ => false)

/-- A crossbar input's queue memory has room for another cell of a class beside the cells given (R167): 4,096 cells of a station, 512 of
another. -/
def roomBeside (l : List SwCell) (src : Nat) (cls : BitVec 2) : Bool :=
  let n (k : BitVec 2) : Nat := (l.filter (fun c => c.cls == k)).length
  if 16 ≤ src then decide (l.length + (if cls = clsResponse then 0 else 256 - n clsResponse) < 512) else
  let kept := (if cls = clsResponse then 0 else 1024 - n clsResponse) + (if cls = clsSnoop then 0 else 512 - n clsSnoop)
  decide (l.length + kept < 4096) && decide (cls ≠ clsRequest ∨ n clsRequest < 1536) && decide (cls ≠ clsIo ∨ n clsIo < 1024)

/-- The class is one of a write (R106). -/
def Cls.isWrite (c : Cls) : Bool := decide (c = .wbI ∨ c = .wbS ∨ c = .wbA ∨ c = .wrNC)

/-- The messages of a crossbar input that wait in its queues for a home slice's credit (R119, R120), as the cells that hold them. -/
def State.creditWaiters (s : State) (src : Nat) : List SwCell :=
  s.home.slices.flatMap (fun x => (x.2.waiting.filter (fun t => t.ingress == src)).map (fun t =>
    { src := src, dst := 16 + x.1, cls := if t.cls.isWrite then clsResponse else clsRequest }))

/-- The cells in a crossbar input's queue memory (R167). -/
def State.inMemory (s : State) (src : Nat) : List SwCell := s.switch.voq.filter (fun c => c.src == src) ++ s.creditWaiters src

/-- Beside the cells given, a cell has room in its source's queue memory and in its queue (R167, R169): a queue of the request or I/O class
holds at most 256 cells. -/
def cellFits (l : List SwCell) (c : SwCell) : Bool :=
  roomBeside l c.src c.cls && (decide (c.cls ≠ clsRequest ∧ c.cls ≠ clsIo) || decide ((l.filter (sameQueue c)).length < 256))

/-- The queue memory of a cell's source has room for it, and so has its queue (R167, R169). -/
def State.cellRoom (s : State) (c : SwCell) : Bool := cellFits (s.inMemory c.src) c

/-- A crossbar input has free cells of a class (R167, R169): it holds back no message of the class for its queue. -/
def State.queueRoom (s : State) (src : Nat) (cls : BitVec 2) : Bool :=
  let l := s.inMemory src
  roomBeside l src cls && !s.switch.formed.any (fun c => c.src == src && c.cls == cls) &&
    (decide (cls ≠ clsRequest ∧ cls ≠ clsIo) || l.all (fun c => c.cls != cls || decide ((l.filter (sameQueue c)).length ≤ 256)))

/-- A cell that waits holds back a later one (R169, R170): one of its queue, and at a station one of its flit and class. -/
def holdsBack (d c : SwCell) : Bool :=
  sameQueue d c || (d.src == c.src && decide (c.src < 16) && d.cls == c.cls && d.flitTag == c.flitTag)

/-- A cell enters its virtual output queue (R167, R170), or waits at its source until it has room there (R167, R169). -/
def enterQueue (c : SwCell) (s : State) : State :=
  if !s.switch.formed.any (fun d => holdsBack d c) && s.cellRoom c then
    let s1 := s.modSwitch (fun w => { w with voq := w.voq ++ [{ c with order := w.nextOrder }], nextOrder := w.nextOrder + 1 })
    if c.src < 16 then count c.src 0x14 1 s1 else s1
  else s.modSwitch (fun w => { w with formed := w.formed ++ [c] })

/-- The cells that wait for room enter their queues, in order, as far as there is room (R167, R169). -/
def fillQueues (s : State) : State :=
  if s.switch.formed.isEmpty then s else forEach s.switch.formed enterQueue (s.modSwitch (fun w => { w with formed := [] }))

/-- A new cell (R165): the cells that its flit, or its transaction's output, gave before it are no longer the last. -/
def enqueueNew (c : SwCell) (s : State) : State :=
  let earlier (d : SwCell) : Bool := sameUnit d c
  enterQueue c (s.modSwitch (fun w => { w with
    voq := mapIf earlier (fun d => { d with last := false }) w.voq,
    formed := mapIf earlier (fun d => { d with last := false }) w.formed }))

/-- The newest of some cells with a message that shares its payload (R164); none where none may. -/
def joined (l : List SwCell) (c : SwCell) : Option (List SwCell) :=
  match l.getLast? with
  | some d =>
    if packs d c then
      some (l.dropLast ++ [{ d with msgs := d.msgs ++ c.msgs, items := d.items ++ c.items, also := d.also ++ c.trunk.toList, length := d.length + c.length,
                                    devload := if d.devload.toNat < c.devload.toNat then c.devload else d.devload }])
    else none
  | none => none

/-- Put a cell into its virtual output queue (R167, R170). A station's cell carries the number of its ingress flit and whether that flit's
tail status is known (R165, R178); a message that may share the newest cell's payload joins it (R164). A cell of another source has no
tail status to wait for; the parts of its output that bring nothing yet are not the last. -/
def enqueueAs (tag : BitVec 12) (known : Bool) (c : SwCell) (s : State) : State :=
  let c1 : SwCell := if c.src < 16 then { c with flitTag := tag, last := true, known := known }
    else { c with last := !(c.msgs.isEmpty && c.items.isEmpty), output := s.switch.output }
  match joined s.switch.formed c1 with
  | some l => s.modSwitch (fun w => { w with formed := l })
  | none =>
    match (if s.switch.formed.any (fun d => holdsBack d c1) then none else joined s.switch.voq c1) with
    | some l => s.modSwitch (fun w => { w with voq := l })
    | none => enqueueNew c1 s

/-- What a block does here is the output of one transaction, whose cells are packed as those of an ingress flit (R164). -/
def oneOutput (f : State → State) (s : State) : State :=
  (f (s.modSwitch (fun w => { w with output := w.outputs + 1, outputs := w.outputs + 1 }))).modSwitch (fun w => { w with output := 0 })

/-- Put a cell of the station's present flit into its virtual output queue (R167, R170). -/
def enqueueCell (c : SwCell) (s : State) : State := enqueueAs (s.flitNow c.src) false c s

/-- Put a cell of a trunk's flit, whose CRC has been checked, into its virtual output queue (log 82). -/
def enqueueGood (c : SwCell) (s : State) : State := enqueueAs (s.flitNow c.src) true c s

/-- A function that a port presents notes an error in its AER status (R199, log 83). Functions of a port: 0 the upstream switch port,
1 + v the vPPB v, 18 + v what lies below the vPPB v. -/
def noteAer (port f : Nat) (uncorrectable : Bool) (b : Nat) (s : State) : State :=
  let k := 2 * f + (if uncorrectable then 0 else 1)
  s.modPort port (fun p => { p with aer := Tab.set p.aer 0 k (Tab.get p.aer 0 k ||| BitVec.ofNat 32 (2 ^ b)) })

/-- A port's link goes from L0 or L0s to Recovery (R207), which its statistics count (R528). -/
def toRecovery (port : Nat) (s : State) : State :=
  if (s.port port).ltssm = .L0 ∨ (s.port port).ltssm = .L0s then
    portCount port 8 1 (s.modPort port (fun p => { p with ltssm := .recovery }))
  else s

/-- A flit with a message of some bytes arrives on a port (R523, R528). -/
def flitIn (port n : Nat) (s : State) : State := portCount port 2 n (portCount port 0 1 (countPort port 0x01 1 s))

/-- A flit with some payload bytes leaves on a port (R523, R528). -/
def flitOut (port n : Nat) (s : State) : State := portCount port 3 n (portCount port 1 1 (countPort port 0x02 1 s))

/-- Grade a depth or occupancy (R182, R183). -/
def levelOf (n t1 t2 t3 : Nat) : Nat := if n < t1 then 0 else if n < t2 then 1 else if n < t3 then 2 else 3

/-- The depth of an external egress port (R182). -/
def State.depth (s : State) (port : Nat) : Nat :=
  ((s.switch.voq ++ s.switch.staging).filter (fun c => c.dst < 16 && c.egress == port)).length

/-- The load level of a port (R182). -/
def State.portLevel (s : State) (port : Nat) : Nat :=
  let p := s.port port
  levelOf (s.depth port) p.t1 p.t2 p.t3

/-- The transaction entries of a slice that are in use (R119, R131): the reserve's that vault write-backs hold among them. -/
def Slice.openEntries (x : Slice) : Nat := x.txns.length + (x.wb.filter (fun w => w.2.reserve)).length

/-- The load level of a home slice (R183): of its transaction entries in use. -/
def State.sliceLevel (s : State) (sl : Nat) : Nat :=
  let x := s.slice sl
  levelOf x.openEntries x.t1 x.t2 x.t3

/-- The DevLoad of a response of a home slice for a line of an extent (R184). -/
def State.devload (s : State) (sl : Nat) (pl : Option Nat) : Nat :=
  match pl with
  | none => s.sliceLevel sl
  | some l =>
    let e := s.extent (extentOf l)
    let down := if e.state = .migrating then max (s.portLevel e.place.port.toNat) (s.portLevel e.mig.port.toNat)
      else s.portLevel e.place.port.toNat
    max (s.sliceLevel sl) down

/-- The trunk station towards a fabric device (R291): none where the route entry is not valid or not reachable. -/
def State.routeTo (s : State) (dev : Nat) : Option Nat :=
  let r := Tab.get s.trunks.route {} dev
  if r.valid && r.reachable then some r.station.toNat else none

/-- Send a message of an ingress flit to another fabric device (R289 to R291); where no route leads there the message is lost. The cell names
the bed's home (R165): the device that a message for a home goes to, and the one that any other comes from. The message's header precedes it in
the payload (R289), with the message's length, and with the bed and the line towards a home only (R290). -/
def sendTrunkAs (tag : BitVec 12) (known : Bool) (src : Nat) (cls : BitVec 2) (vc : BitVec 3) (m : TrunkMsg) (s : State) : State :=
  match s.routeTo m.dstDev.toNat with
  | none => s
  | some st =>
    let h0 : TrunkMsg := { m with length := BitVec.ofNat 8 m.msg.bytes }
    let h : TrunkMsg := if m.kind = 0 ∨ m.kind = 3 then h0 else { h0 with bed := 0, line := 0 }
    enqueueAs tag known
      { src := src, dst := st, egress := s.trunkPort st, cls := cls, vc := vc, length := 12 + h.length,
        plot := some m.plot.toNat, offset := 64 * m.line.toNat, bed := m.bed.toNat,
        home := if m.kind = 0 then m.dstDev.toNat else m.srcDev.toNat, devload := m.devload,
        agent := m.agent.toNat, msgs := [m.msg], trunk := some h } s

/-- Send a message to another fabric device (R289 to R291). -/
def sendTrunk (src : Nat) (cls : BitVec 2) (vc : BitVec 3) (m : TrunkMsg) (s : State) : State :=
  sendTrunkAs (s.flitNow src) false src cls vc m s

/-- A message of the home to an agent (R106, R111, R290): to its port, or over the trunk to its device. -/
def homeToAgent (sl a bed line plot : Nat) (cls : BitVec 2) (m : Msg) (s : State) : State :=
  let x := s.agent a
  if x.device.toNat = s.self then
    let port := x.port.toNat
    enqueueCell { src := 16 + sl, dst := port / 8, egress := port, cls := cls, length := BitVec.ofNat 8 m.bytes, plot := some plot, bed := bed,
                  offset := 64 * line, home := s.self, agent := a, devload := BitVec.ofNat 2 m.devload,
                  msgs := [{ m with poison := m.poison || (s.port port).viral }] } s
  else
    sendTrunk (16 + sl) cls (vcOf cls (16 + sl) 0)
      { dstDev := x.device, srcDev := BitVec.ofNat 4 s.self, cls := cls, devload := BitVec.ofNat 2 m.devload,
        kind := 1, port := x.port, bed := BitVec.ofNat 12 bed, line := BitVec.ofNat 36 line, plot := BitVec.ofNat 9 plot,
        agent := BitVec.ofNat 6 a, msg := m } s

/-- A request of the home to memory devices behind one port (R81, R106): to one place, or to two in one cell (R164). -/
def toMemories (sl port : Nat) (places : List Place) (pl : Nat) (m : Msg) (s : State) : State :=
  enqueueCell { src := 16 + sl, dst := port / 8, egress := port, cls := clsRequest, home := s.self,
                length := BitVec.ofNat 8 (m.bytes * places.length),
                msgs := places.map (fun p => { m with addr := BitVec.ofNat 64 (p.dpa pl), ld := p.ld.toNat }) } s

/-- A request of the home to a memory device (R81, R106). -/
def toMemory (sl : Nat) (p : Place) (pl : Nat) (m : Msg) (s : State) : State := toMemories sl p.port.toNat [p] pl m s

/-- Statistics of a response to a plot (R528): poison and load. -/
def countResponse (plot : Nat) (m : Msg) (s : State) : State :=
  let s1 := if m.poison then plotCount plot 13 1 s else s
  if m.devload = 2 then plotCount plot 17 1 s1 else if m.devload = 3 then plotCount plot 18 1 s1 else s1

/-- A read's latency in its plot's statistics (R528). -/
def countLatency (plot arrived : Nat) (s : State) : State :=
  if plot < 512 then
    let n := s.time.beats - arrived
    statMax (plotStat plot 20) n (plotCount plot 19 n s)
  else s

/-- A response made by the ingress itself to a message of one of its flits (R82, R184): it carries the level of the host's own port. Its cell
names the plot where the home, the bed and the offset within it are known too (R165). -/
def ingressRespondAs (tag : BitVec 12) (known : Bool) (port : Nat) (plot : Option Nat) (at' : Option (Nat × Nat × Nat)) (m : Msg) (s : State) :
    State :=
  let m1 : Msg := { m with devload := s.portLevel port, poison := m.poison || (s.port port).viral }
  let c : SwCell := { src := port / 8, dst := port / 8, egress := port, cls := clsResponse, length := BitVec.ofNat 8 m1.bytes,
                      devload := BitVec.ofNat 2 m1.devload, msgs := [m1] }
  let s1 := enqueueAs tag known (match at' with
    | some l => { c with plot := plot, home := l.1, bed := l.2.1, offset := l.2.2 }
    | none => c) s
  match plot with
  | some p => countResponse p m1 s1
  | none => s1

/-- A response made by the ingress itself to a message of the present flit (R82, R184). -/
def ingressRespond (port : Nat) (plot : Option Nat) (at' : Option (Nat × Nat × Nat)) (m : Msg) (s : State) : State :=
  ingressRespondAs (s.flitNow (port / 8)) false port plot at' m s

/-- Raise the event of a plot (R4): source 512 + plot. -/
def plotEvent (plot : Nat) (s : State) : State := raise (512 + plot) s

/-- Raise the event of a port (R4): source 64 + port. -/
def portEvent (port : Nat) (s : State) : State := raise (64 + port) s

/-- A BAD_ACCESS of a plot, or of a port where no plot is known (R82, R541), recorded by the crossbar port that finds it (R540).
`outcome` is the row of R82, 3 to 6, or 7. -/
def badAccess (block : Nat) (plot : Option Nat) (port outcome addr : Nat) (s : State) : State :=
  match plot with
  | some p => plotCount p 28 1 (plotEvent p (logBadAccess block p outcome port (BitVec.ofNat 64 addr) s))
  | none => portEvent port (logBadAccess block 0xFFFF outcome port (BitVec.ofNat 64 addr) s)

/-- The bytes of a TLP (log 80): a header of four double words, and its data. -/
def tlpBytes (t : Tlp) : Nat := 16 + t.data.length

/-- The cells of a TLP of some bytes (R163): a cell holds 236 of them, and a longer TLP takes several, of which the last brings it. -/
def enqueueTlp (tag : BitVec 12) (known : Bool) (n : Nat) (c : SwCell) (s : State) : State :=
  let full := (n - 1) / 236
  let s1 := forEach (List.range full) (fun i u => enqueueAs tag known { c with length := 236, msgs := [], items := [], part := i } u) s
  enqueueAs tag known { c with part := full, length := BitVec.ofNat 8 (n - 236 * full) } s1

/-- Send a CXL.io TLP out of a port (R163, R171), with what another cell's header says of it (R165). -/
def sendTlpOf (like : SwCell) (tag : BitVec 12) (known : Bool) (src port : Nat) (sub : BitVec 2) (t : Tlp) (s : State) : State :=
  enqueueTlp tag known (tlpBytes t)
    { like with src := src, dst := port / 8, egress := port, cls := clsIo, ioSub := sub, msgs := [{ op := .tlp, tlp := some t }] } s

/-- Send a CXL.io TLP out of a port whose cells name nothing beside it (R163, R171). -/
def sendTlpAs (tag : BitVec 12) (known : Bool) (src port : Nat) (sub : BitVec 2) (t : Tlp) (s : State) : State :=
  sendTlpOf {} tag known src port sub t s

/-- Send a CXL.io TLP of the present flit, or of a block of the device, out of a port (R171). -/
def sendTlp (src port : Nat) (sub : BitVec 2) (t : Tlp) (s : State) : State := sendTlpAs (s.flitNow src) false src port sub t s

/-- The bytes of what a cell brings to a home slice, the Barrow or the bridge (R164). -/
def HomeMsg.bytes : HomeMsg → Nat
  | .txn t => if t.cls.isWrite ∨ t.cls = .atom then 64 else 16
  | .memData _ _ _ _ _ => 64
  | .barrow _ m => m.bytes
  | .io _ t => t.bytes
  | _ => 16

/-- A TLP that came in on a port goes to the bridge or the Barrow as cells of the I/O class (R162, R166). -/
def tlpInside (port dst : Nat) (t : IoIn) (s0 : State) : State :=
  let s := newFlit port (portCount port 14 1 s0)
  enqueueTlp (s.flitNow (port / 8)) false t.bytes
    { src := port / 8, dst := dst, cls := clsIo, ioSub := t.sub, items := [.io port t] } s

end Sys2Proof.Machine
end

