-- ==== Sys2Proof/Machine/Bridge.lean ====
section
/-! DEFINITION. The steward bridge (R435 to R451): apertures, delayed requests, exclusive sequences, inbound traffic and messages. -/

namespace Sys2Proof.Machine

/-- Delayed-request types: load, configuration write, LR, AMO. -/
def tyLoad : Nat := 0
/-- Configuration write (R439). -/
def tyCfgWr : Nat := 1
/-- LR (R439). -/
def tyLr : Nat := 2
/-- AMO (R439). -/
def tyAmo : Nat := 3

/-- Where an access to the bridge window goes (R436, R437): configuration or memory, port, function and TLP address. -/
structure Aim where
  config : Bool := false
  port : Nat := 0
  bdf : BitVec 16 := 0
  address : BitVec 64 := 0
  deriving DecidableEq, Repr

/-- The size and alignment of an access to the bridge window (R418): 1, 2, 4 or 8 bytes, aligned. -/
def windowAligned (address : BitVec 64) (size : Nat) : Bool := decide (size ∈ [1, 2, 4, 8]) && address.toNat % size == 0

/-- The target of an address of the bridge window; none where the access raises an access fault at once (R437). -/
def State.aim (s : State) (address : BitVec 64) : Option Aim :=
  let off := address.toNat - 0x400000000
  let a := Tab.get s.bridge.apertures {} (off / 2 ^ 28)
  let o := off % 2 ^ 28
  if address.toNat < 0x400000000 ∨ 0x800000000 ≤ address.toNat ∨ !a.valid ∨ 2 ≤ a.kind.toNat ∨ !(s.port a.port.toNat).downstream then none
  else if a.kind = 0 then
    some { config := true, port := a.port.toNat, bdf := BitVec.ofNat 16 (o / 4096), address := BitVec.ofNat 64 o }
  else some { port := a.port.toNat, bdf := a.bdf, address := BitVec.ofNat 64 (a.base.toNat * 2 ^ 28 + o) }

/-- The target of a hart's access to the bridge window, where its size and alignment are those of the window (R418). -/
def State.aimed (s : State) (address : BitVec 64) (size : Nat) : Option Aim := if windowAligned address size then s.aim address else none

/-- An error log entry (R448): the lowest free entry, or an overflow. -/
def bridgeError (kind status hart port : Nat) (bdf : BitVec 16) (address : BitVec 64) (s : State) : State :=
  match (List.range 16).find? (fun i => !(Tab.get s.bridge.errors {} i).valid) with
  | some i =>
    let e : BrgError := { stamp := s.now, address := address, bdf := bdf, port := BitVec.ofNat 7 port, hart := BitVec.ofNat 2 hart,
                          kind := BitVec.ofNat 8 kind, status := BitVec.ofNat 8 status, valid := true,
                          setBeat := 1 + s.time.beats }
    raise 298 (count 25 0x08 1 (s.modBridge (fun b => { b with errors := Tab.set b.errors {} i e })))
  | none => raise 299 (s.modBridge (fun b => { b with logOverflow := satAdd b.logOverflow 1 }))

/-- The semaphore of a function that another hart holds (R443). -/
def Bridge.heldByOther (b : Bridge) (hart port : Nat) (bdf : BitVec 16) : Bool :=
  b.semaphores.any (fun e => e.2.hart != hart && e.2.port == port && e.2.bdf == bdf)

/-- The semaphore that a hart holds (R442). -/
def Bridge.semaphoreOf (b : Bridge) (hart : Nat) : Option (Nat × Semaphore) := b.semaphores.find? (fun e => e.2.hart == hart)

/-- Release the semaphore that a hart holds, if any (R442). -/
def releaseSem (hart : Nat) (s : State) : State :=
  s.modBridge (fun b => { b with semaphores := b.semaphores.filter (fun e => e.2.hart != hart) })

/-- Answer retry (R439). -/
def answerRetry (hart : Nat) (s : State) : State := completeToHart hart cplRetry 0 (count 25 0x02 1 s)

/-- Answer retry because of a held semaphore (R443): the time of the first such answer is kept. -/
def semRetry (hart : Nat) (s : State) : State :=
  answerRetry hart (count 25 0x04 1 (s.modBridge (fun b =>
    { b with semWaits := if (Tab.get b.semWaits 0 hart) = 0 then Tab.set b.semWaits 0 hart (1 + s.tick) else b.semWaits })))

/-- The hart's access meets no held semaphore now. -/
def semClear (hart : Nat) (s : State) : State :=
  s.modBridge (fun b => { b with semWaits := Tab.set b.semWaits 0 hart 0 })

/-- A posted MemWr to a function (R438, R448): one towards a port not in L0 is discarded and logged. -/
def postedWrite (hart : Nat) (t : Aim) (size : Nat) (data : BitVec 64) (s : State) : State :=
  if (s.port t.port).inL0 then
    sendTlp xbarBridge t.port 0 { kind := .memWr, address := t.address, requester := t.bdf, data := bytesOf size 64 data } s
  else bridgeError 0x01 0 hart t.port t.bdf t.address s

/-- The error code of a completion that is not a success (R429, R449). -/
def errorCode : CplStatus → Nat
  | .success => 0
  | .unsupported => 0x03
  | .abort => 0x04
  | .retry => 0x05
  | .poisoned => 0x06
  | .timeout => 0x05

/-- The value that an AMO writes (RISC-V A extension; R442). -/
def amoValue (func : BitVec 5) (w : Nat) (old arg : Nat) : Nat :=
  let sgn (v : Nat) : Int := if v < 2 ^ (w - 1) then v else (v : Int) - 2 ^ w
  let f := func.toNat
  if f = 0 then (old + arg) % 2 ^ w
  else if f = 1 then arg
  else if f = 4 then old ^^^ arg
  else if f = 8 then old ||| arg
  else if f = 12 then old &&& arg
  else if f = 16 then (if sgn arg < sgn old then arg else old)
  else if f = 20 then (if sgn old < sgn arg then arg else old)
  else if f = 24 then min old arg
  else max old arg

/-- Whether an AMO function is one of the A extension. -/
def amoKnown (func : BitVec 5) : Bool := [0, 1, 4, 8, 12, 16, 20, 24, 28].contains func.toNat

/-- A delayed request's result arrives (R439, R441, R442): an AMO then writes its new value and gives its semaphore back. -/
def resultArrives (k : Nat) (st : CplStatus) (data : BitVec 64) (s : State) : State :=
  let x := Tab.get s.bridge.slots {} k
  let x1 (b : Bridge) : Delayed :=
    { x with result := some (st, data), arrived := s.tick, barrier := (b.posted.filter (fun e => e.2.1 == x.port)).map (·.1) }
  let s1 := s.modBridge (fun b => { b with slots := Tab.put b.slots k (x1 b) })
  if x.typ = tyAmo then
    let s2 := if st = .success then
        let w := 8 * x.size
        let new := amoValue x.func w (data.toNat % 2 ^ w) (x.data.toNat % 2 ^ w)
        match s1.aim x.address with
        | some t => postedWrite x.hart t x.size (BitVec.ofNat 64 new) s1
        | none => s1
      else s1
    releaseSem x.hart s2
  else s1

/-- A slot's result may be collected (R439, R441). -/
def State.collectable (s : State) (x : Delayed) : Bool :=
  x.result.isSome && !x.barrier.any (fun m => s.bridge.posted.any (fun e => e.1 == m))

/-- A delayed request (R439): collect, retry, or allocate and send. -/
def delayedRequest (hart : Nat) (address : BitVec 64) (size typ : Nat) (func : BitVec 5) (data : BitVec 64) (t : Aim)
    (s : State) : State :=
  match s.bridge.slots.find? (fun e => e.2.hart == hart && e.2.address == address && e.2.size == size && e.2.typ == typ) with
  | some e =>
    if !s.collectable e.2 then answerRetry hart s
    else
      let s1 := s.modBridge (fun b => { b with slots := Tab.drop b.slots e.1 })
      match e.2.result with
      | some (.success, d) => completeToHart hart (if typ = tyCfgWr then cplDone else cplData) (if typ = tyCfgWr then 0 else d) s1
      | some (st, _) => completeToHart hart cplError (BitVec.ofNat 64 (errorCode st)) s1
      | none => s1
  | none =>
    let mine := (s.bridge.slots.filter (fun e => e.2.hart == hart)).length
    match (List.range 16).find? (fun k => (Tab.find s.bridge.slots k).isNone) with
    | none => answerRetry hart s
    | some k =>
      if 4 ≤ mine then answerRetry hart s
      else
        let x : Delayed := { hart := hart, address := address, size := size, typ := typ, sent := s.tick, port := t.port, bdf := t.bdf,
                             func := func, data := data }
        let s1 := answerRetry hart (count 25 0x01 1 (s.modBridge (fun b => { b with slots := Tab.put b.slots k x })))
        if (s1.port t.port).inL0 then
          sendTlp xbarBridge t.port 1
            { kind := if t.config then (if typ = tyCfgWr then .cfgWr else .cfgRd) else .memRd, address := t.address, requester := t.bdf,
              tag := k, length := size, data := if typ = tyCfgWr then bytesOf size 64 data else [] } s1
        else resultArrives k .unsupported 0 s1

/-- A semaphore for a function, where one is free (R442, R443): none of 16, or held by the hart already. -/
def takeSem (hart : Nat) (t : Aim) (res : Option (BitVec 64 × Nat)) (s0 : State) : Option State :=
  let s := releaseSem hart s0
  match (List.range 16).find? (fun k => (Tab.find s.bridge.semaphores k).isNone) with
  | none => none
  | some k =>
    let x : Semaphore := { hart := hart, port := t.port, bdf := t.bdf, since := s.tick, address := res }
    some (s.modBridge (fun b => { b with semaphores := Tab.put b.semaphores k x }))

/-- A slot of a hart matches an access (R439). -/
def State.hasSlot (s : State) (hart : Nat) (address : BitVec 64) (size typ : Nat) : Bool :=
  s.bridge.slots.any (fun e => e.2.hart == hart && e.2.address == address && e.2.size == size && e.2.typ == typ)

/-- A load of the window (R437, R439, R443). -/
def windowLoad (hart : Nat) (address : BitVec 64) (size : Nat) (s : State) : State :=
  match s.aimed address size with
  | none => completeToHart hart cplError 0x01 s
  | some t =>
    if s.bridge.heldByOther hart t.port t.bdf then semRetry hart s
    else delayedRequest hart address size tyLoad 0 0 t (semClear hart s)

/-- A store to the window (R438): posted to a memory aperture, a delayed request to a configuration aperture. -/
def windowStore (hart : Nat) (address : BitVec 64) (size : Nat) (data : BitVec 64) (s : State) : State :=
  match s.aimed address size with
  | none => completeToHart hart cplError 0x01 s
  | some t =>
    if s.bridge.heldByOther hart t.port t.bdf then semRetry hart s
    else if t.config then delayedRequest hart address size tyCfgWr 0 data t (semClear hart s)
    else completeToHart hart cplDone 0 (postedWrite hart t size data (semClear hart s))

/-- An LR (R442). -/
def windowLr (hart : Nat) (address : BitVec 64) (size : Nat) (s : State) : State :=
  match s.aimed address size with
  | none => completeToHart hart cplError 0x01 s
  | some t =>
    if s.bridge.heldByOther hart t.port t.bdf then semRetry hart s
    else if s.hasSlot hart address size tyLr then delayedRequest hart address size tyLr 0 0 t (semClear hart s)
    else match takeSem hart t (some (address, size)) s with
      | none => semRetry hart s
      | some u => delayedRequest hart address size tyLr 0 0 t (semClear hart u)

/-- An SC (R442): it succeeds only under the hart's semaphore and reservation. -/
def windowSc (hart : Nat) (address : BitVec 64) (size : Nat) (data : BitVec 64) (s : State) : State :=
  match s.aimed address size with
  | none => completeToHart hart cplError 0x01 s
  | some t =>
    let good : Bool := match s.bridge.semaphoreOf hart with
      | some e => e.2.port == t.port && e.2.bdf == t.bdf && decide (e.2.address = some (address, size))
      | none => false
    let s1 := releaseSem hart (semClear hart s)
    if good then completeToHart hart cplDone 0 (postedWrite hart t size data s1) else completeToHart hart cplDone 1 s1

/-- An AMO (R442). One of no function of the A extension completes with error 0x03. -/
def windowAmo (hart : Nat) (address : BitVec 64) (size : Nat) (func : BitVec 5) (data : BitVec 64) (s : State) : State :=
  match s.aimed address size with
  | none => completeToHart hart cplError 0x01 s
  | some t =>
    if !amoKnown func then completeToHart hart cplError 0x03 s
    else if s.bridge.heldByOther hart t.port t.bdf then semRetry hart s
    else if s.hasSlot hart address size tyAmo then delayedRequest hart address size tyAmo func data t (semClear hart s)
    else if 4 ≤ (s.bridge.slots.filter (fun e => e.2.hart == hart)).length ∨ 16 ≤ s.bridge.slots.length then answerRetry hart s
    else match takeSem hart t none s with
      | none => semRetry hart s
      | some u => delayedRequest hart address size tyAmo func data t (semClear hart u)

/-- A completion for a slot (R439): with Retry Status the request is sent again, as PCIe has it for a configuration request. -/
def bridgeCompletionOp (k : Nat) (st : CplStatus) (data : BitVec 64) (s : State) : State :=
  let x := Tab.get s.bridge.slots {} k
  if (Tab.find s.bridge.slots k).isNone ∨ x.result.isSome then s
  else if st = .retry then
    match s.aim x.address with
    | some t => sendTlp xbarBridge t.port 1
        { kind := if t.config then (if x.typ = tyCfgWr then .cfgWr else .cfgRd) else .memRd, address := t.address, requester := t.bdf, tag := k,
          length := x.size, data := if x.typ = tyCfgWr then bytesOf x.size 64 x.data else [] } s
    | none => s
  else resultArrives k st data s

/-- Meaning of BRIDGE_COMPLETION: it crosses to the bridge from the port that the slot's request went to. -/
def execBridgeCompletion (slot : Nat) (status : CplStatus) (data : BitVec 64) (s : State) : Out :=
  let port := (Tab.get s.bridge.slots {} slot).port
  whenWf s (decide (slot < 16)) (onlyIf (s.fabricOn && (Tab.find s.bridge.slots slot).isSome && (s.port port).inL0 && s.queueRoom (port / 8) clsIo)
    (tlpInside port xbarBridge (.completion slot status data)) s)

/-- A held result that is not collected in time (R440). -/
def discardOp (k : Nat) (s : State) : State :=
  let x := Tab.get s.bridge.slots {} k
  match x.result with
  | some (st, _) =>
    let s1 := s.modBridge (fun b => { b with slots := Tab.drop b.slots k, discarded := satAdd b.discarded 1 })
    let s2 := raise 301 (count 25 0x03 1 s1)
    if st = .success then s2 else bridgeError 0x03 (errorCode st) x.hart x.port x.bdf x.address s2
  | none => s

/-- Meaning of DELAYED_READ_DISCARD. -/
def execDelayedReadDiscard (slot : Nat) (s : State) : Out :=
  let x := Tab.get s.bridge.slots {} slot
  whenWf s (decide (slot < 16)) (onlyIf (s.fabricOn && x.result.isSome && decide (x.arrived + s.bridge.discard.toNat ≤ s.tick))
    (discardOp slot) s)

/-- Meaning of BRIDGE_CPL_TIMEOUT. -/
def execBridgeCplTimeout (slot : Nat) (s : State) : Out :=
  let x := Tab.get s.bridge.slots {} slot
  whenWf s (decide (slot < 16)) (onlyIf (s.fabricOn && (Tab.find s.bridge.slots slot).isSome && x.result.isNone &&
    decide (x.sent + s.bridge.cplTimeout.toNat ≤ s.tick)) (resultArrives slot .timeout 0) s)

/-- Meaning of SEMAPHORE_TIMEOUT. -/
def execSemaphoreTimeout (semaphore : Nat) (s : State) : Out :=
  let held := match Tab.find s.bridge.semaphores semaphore with | some x => decide (x.since + 63 ≤ s.tick) | none => false
  whenWf s (decide (semaphore < 16)) (onlyIf (s.fabricOn && held) (fun t =>
    raise 300 (t.modBridge (fun b => { b with semaphores := Tab.drop b.semaphores semaphore, semReleases := satAdd b.semReleases 1 }))) s)

/-- Meaning of SEMAPHORE_WAIT_TIMEOUT. -/
def execSemaphoreWaitTimeout (hart : Nat) (s : State) : Out :=
  let w := Tab.get s.bridge.semWaits 0 hart
  whenWf s (decide (hart < 4)) (onlyIf (s.fabricOn && decide (0 < w ∧ w - 1 + 8 ≤ s.tick))
    (fun t => completeToHart hart cplError 0x02 (semClear hart t)) s)

/-- A host port to which something behind a DOWNSTREAM port is directly bound (R89). -/
def State.boundHost (s : State) (port : Nat) : Option Nat :=
  (s.ports.vppb.find? (fun e => match e.2.bound with | some b => b.1 == port | none => false)).map (fun e => e.1 / 17)

/-- An inbound memory write reaches the bridge (R444). -/
def inboundAtBridge (port : Nat) (requester : BitVec 16) (address : BitVec 64) (data : List Byte) (s : State) : State :=
  let a := address.toNat
  if s.bridge.inBase.toNat * 4096 ≤ a ∧ a + data.length ≤ s.bridge.inLimit.toNat * 4096 + 4096 then postedIn a data port none s
  else if 0xFEE00000 ≤ a ∧ a ≤ 0xFEEFFFFF then portEvent port s
  else bridgeError 0x04 0 0 port requester address s

/-- Inbound memory writes (R444): of a device that is bound to a host to the host, else to the bridge. One towards a host that is out of L0 is
discarded (R226). -/
def inboundWriteOp (port : Nat) (requester : BitVec 16) (address : BitVec 64) (data : List Byte) (s : State) : State :=
  match s.boundHost port with
  | some h =>
    let s1 := newFlit port (portCount port 14 1 s)
    if (s1.port h).inL0 then sendTlp (port / 8) h 0 { kind := .memWr, address := address, requester := requester, data := data } s1 else s1
  | none => tlpInside port xbarBridge (.write requester address data) s

/-- Meaning of INBOUND_WRITE. -/
def execInboundWrite (port : Nat) (requester : BitVec 16) (address : BitVec 64) (data : List Byte) (s : State) : Out :=
  whenWf s (decide (port < 128)) (onlyIf (s.fabricOn && (s.port port).downstream && (s.port port).inL0 && s.queueRoom (port / 8) clsIo)
    (inboundWriteOp port requester address data) s)

/-- The routing entry for an inbound message (R445): the lowest valid one that matches. -/
def State.messageRoute (s : State) (port : Nat) (vdm : Bool) (vendor : BitVec 16) (id : Byte) : Option (Nat × BitVec 64) :=
  s.bridge.routes.find? (fun e =>
    let w := e.2
    w.getLsbD 63 && (w.getLsbD 62 == vdm) && (bitsOf w 56 50 == port || bitsOf w 56 50 == 0x7F) &&
      (!vdm || bitsOf w 47 32 == vendor.toNat) && bitsOf w 31 24 == id.toNat)

/-- An inbound message is dropped (R445, R451). -/
def dropMessage (s : State) : State :=
  raise 302 (count 25 0x07 1 (s.modBridge (fun b => { b with msgDrops := satAdd b.msgDrops 1 })))

/-- An inbound vendor-defined message reaches the bridge (R445, R446). -/
def inboundMessageOp (port : Nat) (vdm : Bool) (vendor : BitVec 16) (id : Byte) (requester : BitVec 16) (header : BitVec 128)
    (payload : List Byte) (s : State) : State :=
  if s.steward.inReset then dropMessage s
  else match s.messageRoute port vdm vendor id with
    | none => dropMessage s
    | some r =>
      let q := bitsOf r.2 61 57
      let m := Tab.get s.bridge.mailboxes {} q
      if m.n = 0 ∨ 96 < payload.length ∨ 2 ^ m.n.toNat ≤ (m.tail - m.head).toNat then dropMessage s
      else
        let slot := bytesOf 8 64 s.now ++ [BitVec.ofNat 8 port, BitVec.ofNat 8 (bit vdm)] ++
          bytesOf 2 16 (BitVec.ofNat 16 payload.length) ++ bytesOf 2 16 requester ++ bytesOf 2 16 (BitVec.ofNat 16 r.1) ++
          bytesOf 16 128 header ++ payload ++ List.replicate (96 - payload.length) 0
        let a := m.base.toNat * 128 + 128 * (m.tail.toNat % 2 ^ m.n.toNat)
        count 25 0x06 1 ((postedIn a slot 0x80 (some q) s).modBridge (fun b =>
          { b with mailboxes := Tab.upd b.mailboxes {} q (fun y => { y with tail := y.tail + 1 }) }))

/-- Meaning of INBOUND_MESSAGE: it crosses to the bridge; hosts' messages are dropped while their ports answer with Retry Status (R220). -/
def execInboundMessage (port : Nat) (kind : Bool) (vendor : BitVec 16) (id : Byte) (requester : BitVec 16) (header : BitVec 128)
    (payload : List Byte) (s : State) : Out :=
  whenWf s (decide (port < 128)) (onlyIf (s.fabricOn && (s.port port).inL0 &&
    !((s.port port).upstream && s.dev.retryStatus) && s.queueRoom (port / 8) clsIo)
    (tlpInside port xbarBridge (.message kind vendor id requester header payload)) s)

/-- A TLP reaches the bridge (R439, R444, R445). A write or a message whose data is poisoned is dropped (log 73). -/
def bridgeTakes (port : Nat) (t : IoIn) (s : State) : State :=
  match t with
  | .write requester address data => inboundAtBridge port requester address data s
  | .message vdm vendor id requester header payload => inboundMessageOp port vdm vendor id requester header payload s
  | .completion slot st data => bridgeCompletionOp slot st data s
  | _ => s

/-- Send a message from a transmit buffer (R447). DESIGN CHOICE (log 94): a payload length of 0, or above 96, is refused as an error of kind
0x05. -/
def sendMessage (value : BitVec 64) (s : State) : State :=
  let e := Tab.get s.bridge.routes 0 (bitsOf value 7 0)
  let p := bitsOf e 56 50
  let b := bitsOf value 44 40
  let n := bitsOf value 39 32
  let bdf := value.extractLsb' 48 16
  if !e.getLsbD 63 ∨ p = 0x7F ∨ !(s.port p).inL0 ∨ n = 0 ∨ 96 < n then bridgeError 0x05 0 0 p bdf 0 s
  else
    let vendor := if e.getLsbD 62 then bitsOf e 47 32 else 0x1AB4
    sendTlp xbarBridge p 0 { kind := .msg, address := BitVec.ofNat 64 vendor, requester := bdf, tag := bitsOf value 47 45,
                             data := memRead 0 s.bridge.txBuf (128 * b) n } s

/-- Meaning of BRG_TX_SEND: a store of the steward on REQUEST-OUT (R27, R447). DESIGN CHOICE (log 102): the row names no hart, and the store is
hart 0's. -/
def execBrgTxSend (value : BitVec 64) (s : State) : Out :=
  whenWf s (true) (hartAccess chRequest 0 true 0x20093000 8 value (fun t => completeToHart 0 cplDone 0 (sendMessage value t)) s)

/-- Requests of the bridge towards a port that has left L0 complete with Unsupported Request (R224). -/
def bridgePortDown (port : Nat) (s : State) : State :=
  let open' := s.bridge.slots.filter (fun e => e.2.port == port && e.2.result.isNone)
  forEach (open'.map (·.1)) (fun k t => resultArrives k .unsupported 0 t) s

/-- The bridge in a steward-only reset (R451). -/
def bridgeStewardReset (s : State) : State :=
  s.modBridge (fun b => { b with slots := [], semaphores := [], semWaits := [] })

end Sys2Proof.Machine
end

