-- ==== Sys2Proof/Machine/Mirror.lean ====
section
/-! DEFINITION. Mirror records that the ACTIVE sends (R299 to R305). -/

namespace Sys2Proof.Machine

/-- The device sends mirror records: it is ACTIVE, with a partner in SYNCING or SHADOW (R299, R307). -/
def State.mirroring (s : State) : Bool := decide (s.pair.state = .active)

/-- One recording unit (R300): home slices 0 to 7, the Teller 8. -/
def State.munit (s : State) (u : Nat) : MirrorUnit := Tab.get s.pair.units {} u

/-- Change one recording unit. -/
def State.modUnit (s : State) (u : Nat) (f : MirrorUnit → MirrorUnit) : State :=
  s.modPair (fun p => { p with units := Tab.upd p.units {} u f })

/-- The VC of a record (R299, R305). -/
def mirrorVc : MirrorBody → BitVec 3
  | .vaultDirty _ _ _ _ => 3
  | .vaultClean _ _ => 3
  | .wbPending _ _ _ _ => 3
  | .wbDone _ => 3
  | _ => 2

/-- The rtype of a record (R305). -/
def rtypeOf : MirrorBody → Nat
  | .config _ _ _ => 1
  | .commit _ _ => 2
  | .dir _ _ _ => 3
  | .vaultDirty _ _ _ _ => 4
  | .vaultClean _ _ => 5
  | .wbPending _ _ _ _ => 6
  | .wbDone _ => 7
  | .ack _ => 8

/-- Whether an action of the ACTIVE waits for a record (R299, R304 sync). -/
def recordHolds (async : Bool) : MirrorBody → Bool
  | .dir _ _ _ => !async
  | .config _ _ _ => true
  | .commit _ _ => true
  | .vaultDirty _ _ _ _ => true
  | .wbPending _ _ _ _ => true
  | _ => false

/-- Send one mirror record of a unit (R300, R304): it takes the unit's next mseq and waits for its acknowledgement. `waits` says whether an
action waits for a record of this kind. -/
def mirrorAs (waits : Bool) (u bed line : Nat) (body : MirrorBody) (s : State) : State :=
  let q := (s.munit u).mseq + 1
  let head : MirrorHead := { stamp := s.now, mseq := q, unit := u, sync := waits && recordHolds (s.bed bed).async body }
  let rt := rtypeOf body
  let named := if rt = 3 ∨ rt = 4 ∨ rt = 6 then some ((s.bed bed).pl line) else none
  let s1 := s.modUnit u (fun x =>
    { x with mseq := q, unacked := x.unacked ++ [{ mseq := q, tick := s.tick, line := named, kind := rt }] })
  let m : TrunkMsg := { dstDev := s.pair.partnerDev, srcDev := BitVec.ofNat 4 s.self, cls := clsResponse, kind := 3,
                        length := BitVec.ofNat 8 body.bytes, bed := BitVec.ofNat 12 bed, line := BitVec.ofNat 36 line,
                        msg := { op := .mirror, mirror := some { head := head, body := body } } }
  let src := if u < 8 then 16 + u else 25
  let s2 := enqueueCell { src := src, dst := s.pair.station, egress := s.trunkPort s.pair.station, cls := clsResponse,
                          vc := mirrorVc body, length := BitVec.ofNat 8 (12 + body.bytes), bed := bed, offset := 64 * line, home := s.self,
                          msgs := [m.msg], trunk := some m } s1
  if u < 8 then count (16 + u) 0x13 1 s2 else s2

/-- Send one mirror record for which an action waits, where its kind holds one back (R299). -/
def mirrorSend (u bed line : Nat) (body : MirrorBody) (s : State) : State := mirrorAs true u bed line body s

/-- Send a record where the device mirrors; else nothing (R299). -/
def mirrorIf (u bed line : Nat) (body : MirrorBody) (s : State) : State :=
  if s.mirroring then mirrorSend u bed line body s else s

/-- The last record of a unit after a given mseq that names a line, of the kinds given, and is not acknowledged. -/
def State.lastUnacked (s : State) (u : Nat) (since : BitVec 32) (pl : Nat) (kinds : List Nat) : Option (BitVec 32) :=
  ((s.munit u).unacked.filter (fun x =>
    decide (x.line = some pl ∧ x.kind ∈ kinds ∧ (x.mseq - since - 1).toNat < 2 ^ 31))).getLast?.map (·.mseq)

/-- The later of two records of a unit that name a line and are not acknowledged: one after a given mseq, of the first kinds, or any of the
second kinds. -/
def State.lastOf (s : State) (u : Nat) (since : BitVec 32) (pl : Nat) (after any : List Nat) : Option (BitVec 32) :=
  ((s.munit u).unacked.filter (fun x => decide (x.line = some pl) &&
    (any.contains x.kind || (after.contains x.kind && decide ((x.mseq - since - 1).toNat < 2 ^ 31))))).getLast?.map (·.mseq)

/-- Whether a record of a unit is still unacknowledged. -/
def State.isUnacked (s : State) (u : Nat) (q : BitVec 32) : Bool := (s.munit u).unacked.any (fun x => x.mseq == q)

/-- The age in ticks of a unit's oldest unacknowledged record (R303). -/
def State.mirrorAge (s : State) (u : Nat) : Nat :=
  match (s.munit u).unacked with
  | [] => 0
  | x :: _ => s.tick - x.tick

/-- The order point of a unit leaves requests to ASYNC beds at its input (R303). -/
def State.asyncHeld (s : State) (u : Nat) : Bool :=
  s.mirroring && decide (s.pair.asyncLag.toNat < s.mirrorAge u)

/-- Whether a record of the Teller's unit is still unacknowledged (R302). -/
def State.commitWaits (s : State) (q : BitVec 32) : Bool := (s.munit 8).unacked.any (fun x => x.mseq == q)

/-- Rows of the pair and trunk range of event sources are raised by number. MIRROR_LAG_EXCEEDED (R303): event 340 once on each
crossing of the limit. -/
def mirrorLagOp (u : Nat) (s : State) : State :=
  if s.asyncHeld u && !(s.munit u).above then raise 340 (s.modUnit u (fun x => { x with above := true })) else s

end Sys2Proof.Machine
end

