-- ==== Sys2Proof/Machine/Images.lean ====
section
/-! DEFINITION. The stored images of the nine mirrored tables (R63, R64, R73, R75, R76, R188, R205, R261, R323, R434), the CONFIG
records of a change to them (R299, R302, R305), and the partner's use of such a record. -/

namespace Sys2Proof.Machine

/-- The agent of a plot's port at this home. -/
def State.plotAgent (s : State) (p : Nat) : Option Nat := s.agentOf s.self (s.plot p).port.toNat

/-- The bits of a bed slot (R64). -/
def BedSlot.image (b : BedSlot) : Nat :=
  fieldAt b.dpaBase.toNat 56 + fieldAt b.accepted.toNat 40 + fieldAt b.span.toNat 24 + fieldAt b.bed.toNat 8 +
  fieldAt b.home.toNat 4 + bit b.valid

/-- The code of a plot state (R63). -/
def PlotState.code : PlotState → Nat
  | .free => 0
  | .configured => 1
  | .active => 2
  | .draining => 3
  | .sanitizing => 4

/-- The code of the queued field (R63). -/
def Queued.code : Queued → Nat
  | .none => 0
  | .enable => 1
  | .reset => 2
  | .resetClear => 3

/-- The header of a plot table entry (R63). -/
def plotHeader (s : State) (p : Nat) : Nat :=
  let x := s.plot p
  let a := if x.state = .free then none else s.plotAgent p
  fieldAt x.queuedRing.toNat 68 + fieldAt x.queuedTag.toNat 32 + fieldAt (bit a.isSome) 30 + fieldAt (a.getD 0) 24 +
  fieldAt x.vcsSlot.toNat 16 + fieldAt x.port.toNat 8 + fieldAt (bit x.fault) 7 + fieldAt (bit x.sanitizeOff) 6 +
  fieldAt x.queued.code 4 + x.state.code

/-- The 128 bytes of a plot table entry (R63, R64). -/
def plotBytes (s : State) (p : Nat) : List Byte :=
  bytesOf 32 256 (BitVec.ofNat 256 (plotHeader s p)) ++
    (List.range 8).flatMap (fun k => bytesOf 12 96 (BitVec.ofNat 96 ((s.plot p).slot k).image))

/-- A QoS entry (R188). -/
def Qos.image (q : Qos) : Nat :=
  fieldAt q.writeBal.toNat 108 + fieldAt q.readBal.toNat 88 + fieldAt q.writeCap.toNat 72 + fieldAt q.readCap.toNat 56 +
  fieldAt q.burst.toNat 52 + fieldAt q.weight.toNat 40 + fieldAt q.writeHeld.length 7 + q.readHeld.length

/-- The vault policy of a code (R73). -/
def policyOf (n : Nat) : VaultPolicy := if n = 2 then .owned else if n = 1 then .clean else .none

/-- The code of a vault policy (R73). -/
def VaultPolicy.code : VaultPolicy → Nat
  | .none => 0
  | .clean => 1
  | .owned => 2

/-- A bed table entry (R73). -/
def Bed.image (b : Bed) : Nat :=
  fieldAt b.sharers.toNat 128 + fieldAt b.mapCount.toNat 96 + fieldAt b.count.toNat 80 + fieldAt b.span.toNat 64 +
  fieldAt b.base.toNat 32 + fieldAt b.ripen.toNat 16 + fieldAt b.gran.toNat 12 + fieldAt b.ways.toNat 8 + fieldAt (bit b.async) 7 +
  fieldAt b.vault.code 5 + fieldAt (bit b.mosi) 4 + (match b.state with | .free => 0 | .defined => 1 | .releasing => 2)

/-- The code of an extent state (R76). -/
def ExtState.code : ExtState → Nat
  | .free => 0
  | .defined => 1
  | .bound => 2
  | .migrating => 3
  | .zeroing => 4
  | .failed => 5

/-- An extent table entry (R76). -/
def Extent.image (e : Extent) : Nat :=
  fieldAt e.mig.dpaBase.toNat 80 + fieldAt e.mig.ld.toNat 72 + fieldAt e.mig.port.toNat 64 + fieldAt e.bed.toNat 48 +
  fieldAt e.place.dpaBase.toNat 24 + fieldAt e.place.ld.toNat 16 + fieldAt e.place.port.toNat 8 + fieldAt (bit e.zeroed) 3 + e.state.code

/-- The bits of an agent table entry (R75). -/
def Agent.image (a : Agent) : Nat :=
  fieldAt (bit a.valid) 15 + fieldAt a.device.toNat 11 + fieldAt (bit a.retiring) 10 + a.port.toNat

/-- The bits of a PASID table entry (R323). -/
def Pasid.image (p : Pasid) : Nat :=
  fieldAt (bit p.valid) 63 + fieldAt (bit p.noPasid) 62 + fieldAt p.port.toNat 48 + fieldAt p.pasid.toNat 28 + fieldAt p.slice.toNat 16

/-- The bits of a port entry (R205). -/
def PortEntry.image (e : PortEntry) : Nat :=
  fieldAt e.slot.toNat 38 + fieldAt (bit e.slotValid) 37 + fieldAt (bit e.ideRequired) 36 + fieldAt (bit e.l0p) 35 +
  fieldAt (bit e.cxl128) 34 + fieldAt e.maxRate.toNat 31 + fieldAt (bit e.pcieOnly) 30 + fieldAt e.width.toNat 6 + e.role.toNat

/-- The port entry of an image (R205). -/
def portEntryOf (n : Nat) : PortEntry :=
  let v := BitVec.ofNat 64 n
  { slot := BitVec.ofNat 6 (bitsOf v 43 38), slotValid := bitOf v 37, ideRequired := bitOf v 36, l0p := bitOf v 35,
    cxl128 := bitOf v 34, maxRate := BitVec.ofNat 3 (bitsOf v 33 31), pcieOnly := bitOf v 30,
    width := BitVec.ofNat 2 (bitsOf v 7 6), role := BitVec.ofNat 3 (bitsOf v 2 0) }

/-- The bits of a trunk entry (R261). -/
def TrunkEntry.image (e : TrunkEntry) : Nat :=
  fieldAt e.leakPct.toNat 48 + fieldAt e.holdoff.toNat 40 + fieldAt e.peer.toNat 32 + fieldAt (bit e.peerCheck) 31 +
  fieldAt (bit e.autoRestart) 30 + fieldAt e.maxRate.toNat 28 + fieldAt (bit e.pair) 27

/-- The trunk entry of an image (R261). -/
def trunkEntryOf (n : Nat) : TrunkEntry :=
  let v := BitVec.ofNat 64 n
  { leakPct := BitVec.ofNat 8 (bitsOf v 55 48), holdoff := BitVec.ofNat 8 (bitsOf v 47 40), peer := BitVec.ofNat 4 (bitsOf v 35 32),
    peerCheck := bitOf v 31, autoRestart := bitOf v 30, maxRate := BitVec.ofNat 2 (bitsOf v 29 28), pair := bitOf v 27 }

/-- The bits of a key slot (R434). -/
def KeySlot.image (k : KeySlot) : Nat := fieldAt k.digest.toNat 64 + fieldAt k.algorithm.toNat 8 + bit k.valid

/-- The key slot of an image (R434). -/
def keySlotOf (n : Nat) : KeySlot :=
  let v := BitVec.ofNat 320 n
  { valid := bitOf v 0, algorithm := BitVec.ofNat 8 (bitsOf v 15 8), digest := BitVec.ofNat 256 (bitsOf v 319 64) }

/-- The configured part of a QoS entry (R188), as mirrored: its caps, burst and weight once they are in effect. -/
def Qos.config (q : Qos) : Nat :=
  match q.pending with
  | some (r, w, b, x) => ({ readCap := BitVec.ofNat 16 r, writeCap := BitVec.ofNat 16 w, burst := BitVec.ofNat 4 b, weight := BitVec.ofNat 8 x } : Qos).image
  | none => ({ readCap := q.readCap, writeCap := q.writeCap, burst := q.burst, weight := q.weight } : Qos).image

/-- The entry of a trunk as set last (R261). -/
def Trunk.lastEntry (t : Trunk) : TrunkEntry :=
  let e := t.nextEntry.getD t.entry
  { e with leakPct := t.entry.leakPct, holdoff := t.entry.holdoff }

/-- The image of an entry of a mirrored table (R305): 1 plot, 2 bed, 3 extent, 4 agent, 5 PASID, 6 port, 7 trunk, 8 QoS, 9 key slot. -/
def State.tableImage (s : State) (table i : Nat) : BitVec 1024 :=
  BitVec.ofNat 1024 (match table with
    | 1 => natOfBytes (plotBytes s i)
    | 2 => (s.bed i).image
    | 3 => (s.extent i).image
    | 4 => (s.agent i).image
    | 5 => (Tab.get s.barrow.pasids {} i).image
    | 6 => (s.port i).entry.image
    | 7 => (s.trunk i).lastEntry.image
    | 8 => (s.qos i).config
    | _ => (Tab.get s.steward.keys {} i).image)

/-- The indices that a mirrored table lists. -/
def State.tableKeys (s : State) (table : Nat) : List Nat :=
  match table with
  | 1 => s.pool.plots.map (·.1)
  | 2 => s.pool.beds.map (·.1)
  | 3 => s.pool.extents.map (·.1)
  | 4 => s.pool.agents.map (·.1)
  | 5 => s.barrow.pasids.map (·.1)
  | 6 => s.ports.port.map (·.1)
  | 7 => s.trunks.trunk.map (·.1)
  | 8 => s.switch.qos.map (·.1)
  | _ => s.steward.keys.map (·.1)

/-- The entries of a mirrored table that differ between two states. -/
def tableDiff (s t : State) (table : Nat) : List Nat :=
  let keys := s.tableKeys table ++ (t.tableKeys table).filter (fun i => !(s.tableKeys table).contains i)
  keys.filter (fun i => s.tableImage table i ≠ t.tableImage table i)

/-- The CONFIG records of the entries of mirrored tables that differ between two states, as the second holds them (R299, R302). -/
def configRecords (s t : State) : List MirrorBody :=
  (List.range 9).flatMap (fun n => (tableDiff s t (n + 1)).map (fun i => .config (n + 1) i (t.tableImage (n + 1) i)))

/-- Send a change to the mirrored tables (R302): its CONFIG records and one COMMIT, of which the mirror sequence is answered. -/
def sendChange (l : List MirrorBody) (proposal : BitVec 16) (s : State) : State × BitVec 32 :=
  let s2 := oneOutput (fun t => mirrorSend 8 0 0 (.commit proposal l.length) (forEach l (mirrorSend 8 0 0) t)) s
  (s2, (s2.munit 8).mseq)

/-- Mirror what an event has done to the mirrored tables (R299): an unguarded change. Nothing can hold an event back (log 38). -/
def mirrorChange (s t : State) : State :=
  if t.mirroring then
    match configRecords s t with
    | [] => t
    | l => (sendChange l 0xFFFF t).1
  else t

/-- Do what an event asks and mirror it. -/
def mirrored (f : State → State) (s : State) : State := mirrorChange s (f s)

/-- A change that was mirrored ahead has taken effect (R302): where it came out otherwise than its records said, the entries that differ from
them are sent again. -/
def mirrorAgain (sent : List MirrorBody) (s t : State) : State :=
  let l := configRecords s t
  let entry (x : MirrorBody) : Option (Nat × Nat) := match x with | .config n i _ => some (n, i) | _ => none
  let stale := ((sent.filterMap entry).filter (fun e => !(l.filterMap entry).contains e)).map (fun e => .config e.1 e.2 (t.tableImage e.1 e.2))
  if !t.mirroring || decide (l = sent) || decide (l ++ stale = []) then t else (sendChange (l ++ stale) 0xFFFF t).1

/-- What a command has done to the mirrored tables is what its records said, or is mirrored now (R302). -/
def mirrorDone (q : Option (BitVec 32)) (s t : State) : State :=
  match q.bind (fun n => t.pair.sent.find? (fun e => e.1 == n)) with
  | none => mirrorChange s t
  | some e => mirrorAgain e.2 s (t.modPair (fun p => { p with sent := p.sent.filter (fun x => x.1 ≠ e.1) }))

/-- Make a change of the device's own at its boundary (R299, R302): where it changes a mirrored table, it waits under its key, which names
the change, for the acknowledgement of its COMMIT, and takes effect at the first boundary after that. -/
def mirroredAt (key : Nat) (f : State → State) (s : State) : State :=
  let drop (t : State) : State := t.modPair (fun p => { p with holds := p.holds.filter (fun h => decide (h.1 ≠ key)) })
  if !s.mirroring then f (if s.pair.holds.isEmpty then s else drop s)
  else match s.pair.holds.find? (fun h => decide (h.1 = key)) with
    | some h =>
      if s.commitWaits h.2.1 then s
      else
        mirrorAgain h.2.2 s (f (drop s))
    | none => match configRecords s (f s) with
      | [] => f s
      | l =>
        let r := sendChange l 0xFFFF s
        r.1.modPair (fun p => { p with holds := p.holds ++ [(key, r.2, l)] })

/-- A bed slot of an image (R64), over what the partner holds there (R93). -/
def slotOf (v : BitVec 96) (old : BedSlot) : BedSlot :=
  let b : BedSlot :=
    { valid := bitOf v 0, home := BitVec.ofNat 4 (bitsOf v 7 4), bed := BitVec.ofNat 12 (bitsOf v 19 8),
      span := BitVec.ofNat 15 (bitsOf v 38 24), accepted := BitVec.ofNat 15 (bitsOf v 54 40), dpaBase := BitVec.ofNat 17 (bitsOf v 72 56) }
  if old.valid ∧ old.home = b.home ∧ old.bed = b.bed then { b with remoteCount := old.remoteCount, remoteWays := old.remoteWays }
  else { b with remoteCount := b.accepted.toNat }

/-- The plot state of a code (R63). -/
def plotStateOf (n : Nat) : PlotState :=
  if n = 1 then .configured else if n = 2 then .active else if n = 3 then .draining else if n = 4 then .sanitizing else .free

/-- The queued field of a code (R63). -/
def queuedOf (n : Nat) : Queued := if n = 1 then .enable else if n = 2 then .reset else if n = 3 then .resetClear else .none

/-- A plot entry of an image (R63, R64), over what the partner holds there. -/
def plotOf (v : BitVec 1024) (old : Plot) : Plot :=
  let st := plotStateOf (bitsOf v 2 0)
  { old with
    state := st, queued := queuedOf (bitsOf v 5 4), queuedRing := BitVec.ofNat 4 (bitsOf v 71 68),
    queuedTag := BitVec.ofNat 32 (bitsOf v 63 32), sanitizeOff := bitOf v 6, fault := bitOf v 7,
    port := BitVec.ofNat 7 (bitsOf v 14 8), vcsSlot := BitVec.ofNat 3 (bitsOf v 18 16),
    slots := (List.range 8).foldl (fun t k =>
      Tab.set t {} k (slotOf (BitVec.ofNat 96 (bitsOf v (256 + 96 * k + 95) (256 + 96 * k))) (Tab.get old.slots {} k))) [],
    drain := if st = .draining ∨ st = .sanitizing then old.drain.orElse (fun _ => some {}) else none }

/-- A bed entry of an image (R73), over what the partner holds there. -/
def bedOf (v : BitVec 1024) (old : Bed) : Bed :=
  let st := bitsOf v 3 0
  { old with
    state := if st = 1 then .defined else if st = 2 then .releasing else .free, mosi := bitOf v 4, vault := policyOf (bitsOf v 6 5),
    async := bitOf v 7, ways := BitVec.ofNat 3 (bitsOf v 10 8), gran := BitVec.ofNat 3 (bitsOf v 14 12),
    ripen := BitVec.ofNat 10 (bitsOf v 25 16), base := BitVec.ofNat 20 (bitsOf v 51 32), span := BitVec.ofNat 15 (bitsOf v 78 64),
    count := BitVec.ofNat 15 (bitsOf v 94 80), mapCount := BitVec.ofNat 10 (bitsOf v 105 96), sharers := BitVec.ofNat 64 (bitsOf v 191 128) }

/-- The extent state of a code (R76). -/
def extStateOf (n : Nat) : ExtState :=
  if n = 1 then .defined else if n = 2 then .bound else if n = 3 then .migrating else if n = 4 then .zeroing else if n = 5 then .failed else .free

/-- An extent entry of an image (R76), over what the partner holds there. -/
def extentOfImage (v : BitVec 1024) (old : Extent) : Extent :=
  { old with
    state := extStateOf (bitsOf v 2 0), zeroed := bitOf v 3, bed := BitVec.ofNat 12 (bitsOf v 59 48),
    place := { port := BitVec.ofNat 7 (bitsOf v 14 8), ld := BitVec.ofNat 4 (bitsOf v 19 16), dpaBase := BitVec.ofNat 20 (bitsOf v 43 24) },
    mig := { port := BitVec.ofNat 7 (bitsOf v 70 64), ld := BitVec.ofNat 4 (bitsOf v 75 72), dpaBase := BitVec.ofNat 20 (bitsOf v 99 80) } }

/-- An agent entry of an image (R75), over what the partner holds there. -/
def agentOfImage (v : BitVec 1024) (old : Agent) : Agent :=
  if bitOf v 15 then
    { old with valid := true, device := BitVec.ofNat 4 (bitsOf v 14 11), retiring := bitOf v 10, port := BitVec.ofNat 7 (bitsOf v 6 0) }
  else {}

/-- A PASID entry of an image (R323). -/
def pasidOf (v : BitVec 1024) : Pasid :=
  { valid := bitOf v 63, noPasid := bitOf v 62, port := BitVec.ofNat 7 (bitsOf v 54 48), pasid := BitVec.ofNat 20 (bitsOf v 47 28),
    slice := BitVec.ofNat 9 (bitsOf v 24 16) }

/-- A trunk takes a new entry (R261): leak_pct and holdoff now, the rest at the next bring-up. The wear book's record is rewritten. -/
def setTrunkEntry (st : Nat) (e : TrunkEntry) (s : State) : State :=
  let s1 := s.modTrunk st (fun t => { t with
    entry := { t.entry with leakPct := e.leakPct, holdoff := e.holdoff }, nextEntry := some e })
  s1.setRecords { s1.records with trunks := Tab.set s1.records.trunks {} st e }

/-- A QoS entry takes new caps, burst and weight, with its balances at their limits (R188, R189). -/
def setQosConfig (p : Nat) (v : BitVec 1024) (s : State) : State :=
  let r := bitsOf v 71 56
  let w := bitsOf v 87 72
  let b := bitsOf v 55 52
  s.modQos p (fun q => { q with
    readCap := BitVec.ofNat 16 r, writeCap := BitVec.ofNat 16 w, burst := BitVec.ofNat 4 b, weight := BitVec.ofNat 8 (bitsOf v 47 40),
    readBal := BitVec.ofNat 20 (r * b), writeBal := BitVec.ofNat 20 (w * b), pending := none })

/-- A port takes a new entry (R202, R203, R206, R229): a new role or width starts it afresh; new link settings retrain it, and
cxl128_failed is cleared where cxl128 is written. -/
def Port.withEntry (p : Port) (e : PortEntry) (link : Bool) : Port :=
  if e.role ≠ p.entry.role ∨ e.width ≠ p.entry.width then
    { entry := e, downCount := p.downCount, t1 := p.t1, t2 := p.t2, t3 := p.t3 }
  else if link then
    { p with entry := e, failed128 := false }
  else { p with entry := e }

/-- Whether two port entries differ in what PORT_SET_LINK sets (R205). -/
def PortEntry.linkDiffers (a b : PortEntry) : Bool := decide (a.maxRate ≠ b.maxRate ∨ a.cxl128 ≠ b.cxl128 ∨ a.l0p ≠ b.l0p)

/-- The partner writes one CONFIG image into its table (R301, R302, R305). -/
def applyConfig (table i : Nat) (v : BitVec 1024) (s : State) : State :=
  match table with
  | 1 => s.modPlot i (plotOf v)
  | 2 => s.modBed i (bedOf v)
  | 3 => s.modExtent i (extentOfImage v)
  | 4 => s.modAgent i (agentOfImage v)
  | 5 => s.modBarrow (fun b => { b with pasids := Tab.set b.pasids {} i (pasidOf v) })
  | 6 =>
    let e := portEntryOf v.toNat
    let s1 := s.modPort i (fun p => p.withEntry e (e.linkDiffers p.entry))
    s1.setRecords { s1.records with ports := Tab.set s1.records.ports {} i e }
  | 7 => setTrunkEntry i (trunkEntryOf v.toNat) s
  | 8 => setQosConfig i v s
  | 9 =>
    let k := keySlotOf v.toNat
    let s1 := s.modSteward (fun t => { t with keys := Tab.set t.keys {} i k })
    s1.setRecords { s1.records with keys := Tab.set s1.records.keys {} i k }
  | _ => s

end Sys2Proof.Machine
end

