-- ==== Sys2Proof/Machine/HomeBase.lean ====
section
/-! DEFINITION. The parts of a home slice: directory ways and pointers (R103 to R105), the vault bank (R134 to R143) and the
write buffer (R120, R147, R148). -/

namespace Sys2Proof.Machine

/-- A way tracks a line: it is not free (R105). -/
def DirEntry.used (e : DirEntry) : Bool := decide (e.state ≠ .I ∨ e.pin ≠ .none)

/-- One directory entry by index 16 × set + way. -/
def Slice.entry (x : Slice) (i : Nat) : DirEntry := Tab.get x.dir {} i

/-- The index of the entry that tracks a line (R105): a free entry is never hit. -/
def Slice.hit (x : Slice) (pl : Nat) : Option Nat :=
  let set := dirSetOf pl
  ((List.range 16).find? (fun w =>
    let e := x.entry (16 * set + w)
    e.used && decide (e.tag.toNat = dirTagOf pl))).map (fun w => 16 * set + w)

/-- Mark a way of a set the most recent (R105, R137). -/
def touchWay (t : Tab (List Nat)) (set way : Nat) : Tab (List Nat) :=
  Tab.set t [] set (way :: (Tab.get t [] set).filter (· ≠ way))

/-- The least recent of some ways of a set: one that was never reached, lowest first, else the one reached longest ago. -/
def leastRecent (order ways : List Nat) : Option Nat :=
  match ways.find? (fun w => !order.contains w) with
  | some w => some w
  | none => order.reverse.find? (fun w => ways.contains w)

/-- The way that an allocation takes (R105): the lowest free one, else the least recently admitted unpinned one. -/
def Slice.allocWay (x : Slice) (set : Nat) : Option Nat :=
  match (List.range 16).find? (fun w => !(x.entry (16 * set + w)).used) with
  | some w => some w
  | none => leastRecent (Tab.get x.recency [] set)
      ((List.range 16).filter (fun w => decide ((x.entry (16 * set + w)).pin = .none)))

/-- Add an agent to an entry's pointers (R104). -/
def DirEntry.add (e : DirEntry) (a : Nat) : DirEntry :=
  if e.bcast ∨ a ∈ e.ptrs then e
  else if e.ptrs.length < 4 then { e with ptrs := e.ptrs ++ [a] }
  else { e with bcast := true, ptrs := [] }

/-- Remove an agent from an entry's pointers (R104): in broadcast mode nothing changes; a removal that leaves none turns S into I. -/
def DirEntry.remove (e : DirEntry) (a : Nat) : DirEntry :=
  if e.bcast then e
  else
    let p := e.ptrs.filter (· ≠ a)
    { e with ptrs := p, state := if e.state = .S ∧ p.isEmpty then .I else e.state }

/-- An entry with a state and its sharers (R104): more than four set broadcast. -/
def DirEntry.become (e : DirEntry) (st : DirState) (l : List Nat) : DirEntry :=
  if l.length ≤ 4 then { e with state := if st = .S ∧ l.isEmpty then .I else st, ptrs := l, bcast := false }
  else { e with state := st, ptrs := [], bcast := true }

/-- The snoop set of an entry (R107): its pointers, or in broadcast mode the bed's sharer mask. -/
def DirEntry.holders (e : DirEntry) (b : Bed) : List Nat :=
  if e.state = .I then [] else if e.bcast then b.sharerList else e.ptrs

/-- Bits [63:0] of an entry (R103). -/
def DirEntry.image (e : DirEntry) : Nat :=
  let st := match e.state with | .I => 0 | .S => 1 | .M => 2 | .O => 3
  let pin := match e.pin with | .none => 0 | .opened => 1 | .evicting => 2 | .probing => 3
  let ptr (k : Nat) : Nat := (e.ptrs[k]?).getD 0
  fieldAt e.tag.toNat 38 + fieldAt st 36 + fieldAt (bit e.bcast) 35 + fieldAt (e.ptrs.length % 8) 32 + fieldAt (ptr 3 % 64) 26 +
    fieldAt (ptr 2 % 64) 20 + fieldAt (ptr 1 % 64) 14 + fieldAt (ptr 0 % 64) 8 + fieldAt pin 6

/-- An entry from bits [63:0] without its pin (R103, R301). -/
def DirEntry.ofImage (v : BitVec 64) : DirEntry :=
  let st := bitsOf v 37 36
  let n := min 4 (bitsOf v 34 32)
  let all := [bitsOf v 13 8, bitsOf v 19 14, bitsOf v 25 20, bitsOf v 31 26]
  { tag := v.extractLsb' 38 26, state := if st = 0 then .I else if st = 1 then .S else if st = 2 then .M else .O,
    bcast := v.getLsbD 35, ptrs := all.take n }

/-- The codeword positions of the 64 data bits (R575): 3 to 71 without the powers of two. -/
def eccPositions : List Nat := ((List.range 72).drop 3).filter (fun p => p ∉ [4, 8, 16, 32, 64])

/-- The SECDED code of a 64-bit word (R575). -/
def eccOf (d : BitVec 64) : Nat :=
  let ones := ((List.range 64).zip eccPositions).filter (fun x => d.getLsbD x.1)
  let low := ones.foldl (fun c x => c ^^^ x.2) 0
  let par := (ones.length + (bitsSet (BitVec.ofNat 7 low) 7).length) % 2
  low + fieldAt par 7

/-- The syndrome of the flipped bits of a stored word, bits [63:0] its data and [71:64] its code (R575): the code is linear, so what it
was written with drops out. -/
def eccSyndrome (f : BitVec 72) : Nat :=
  let data := ((List.range 64).zip eccPositions).foldl (fun c x => if f.getLsbD x.1 then c ^^^ x.2 else c) 0
  data ^^^ bitsOf f 70 64

/-- The bit of a stored word that the codeword position of a syndrome names (R575): a data bit, a check bit, or ecc[7] for 0. -/
def eccBit (syn : Nat) : Option Nat :=
  if syn = 0 then some 71
  else match ((List.range 64).zip eccPositions).find? (fun x => x.2 == syn) with
    | some x => some x.1
    | none => ((List.range 7).find? (fun j => 2 ^ j == syn)).map (· + 64)

/-- Reading a stored word (R575): none for a double-bit error, else the bits that are still wrong once the named bit is corrected. A
syndrome that names no bit is taken as a double-bit error. -/
def eccCheck (f : BitVec 72) : Option (BitVec 72) :=
  let syn := eccSyndrome f
  if popCount f % 2 = 0 then (if syn = 0 then some f else none)
  else (eccBit syn).map (fun i => f ^^^ (1#72 <<< i))

/-- The 72 bits of an entry as the array holds them (R103, R575): with the bits that have flipped. -/
def DirEntry.stored (e : DirEntry) : BitVec 72 :=
  BitVec.ofNat 72 (e.image + fieldAt (eccOf (BitVec.ofNat 64 e.image)) 64) ^^^ e.flips

/-- A change of an entry that a grant or a creation of O makes (R299): it gains a holder, or becomes M or O. -/
def DirEntry.grantsOver (e old : DirEntry) : Bool :=
  e.ptrs.any (fun a => !old.ptrs.contains a) || (e.bcast && !old.bcast) ||
    decide (e.state ≠ old.state ∧ (e.state = .M ∨ e.state = .O)) || decide (e.state ≠ .I ∧ e.tag ≠ old.tag)

/-- Write an entry, and mirror it where its state, pointers or tag change (R299). -/
def putEntry (sl i : Nat) (e : DirEntry) (s : State) : State :=
  let old := (s.slice sl).entry i
  let s1 := s.modSlice sl (fun x => { x with dir := Tab.set x.dir {} i e })
  if s.mirroring && (decide (old.state ≠ e.state ∨ old.ptrs ≠ e.ptrs ∨ old.bcast ≠ e.bcast ∨ old.tag ≠ e.tag)) then
    let pl := plOfDir (i / 16) e.tag.toNat
    let b := s.bedOfPl pl
    mirrorAs (e.grantsOver old) sl b.1 b.2 (.dir (i / 16) (i % 16) (BitVec.ofNat 64 { e with pin := .none }.image)) s1
  else s1

/-- The index of the valid vault line of a pool line (R134). -/
def Slice.vhit (x : Slice) (pl : Nat) : Option Nat :=
  let set := vaultSetOf pl
  ((List.range 16).find? (fun w =>
    let v := Tab.get x.vault {} (16 * set + w)
    decide (v.state ≠ .invalid ∧ v.tag.toNat = vaultTagOf pl))).map (fun w => 16 * set + w)

/-- One vault line by index 16 × set + way. -/
def Slice.vline (x : Slice) (i : Nat) : VaultLine := Tab.get x.vault {} i

/-- The vault holds dirty data of a line (R98). -/
def Slice.vaultDirty (x : Slice) (pl : Nat) : Bool :=
  match x.vhit pl with
  | some i => decide ((x.vline i).state = .dirty ∨ (x.vline i).state = .writing)
  | none => false

/-- The pool line of a vault line. -/
def vaultPl (i : Nat) (v : VaultLine) : Nat := plOfVault (i / 16) v.tag.toNat

/-- Bits [47:0] of a vault tag (R137). -/
def VaultLine.tagImage (v : VaultLine) : Nat :=
  let st := match v.state with | .invalid => 0 | .clean => 1 | .dirty => 2 | .writing => 3
  fieldAt v.tag.toNat 18 + fieldAt st 16 + fieldAt (bit v.parked) 15 + fieldAt v.age.toNat 5 + fieldAt (bit v.poisoned) 4 +
    fieldAt (bit v.ripe) 3 + fieldAt (bit v.redirty) 2

/-- Change a vault line. -/
def modVline (sl i : Nat) (f : VaultLine → VaultLine) (s : State) : State :=
  s.modSlice sl (fun x => { x with vault := Tab.upd x.vault {} i f })

/-- A vault line takes a whole line of new data, whose words are written afresh with their codes (R136). -/
def VaultLine.filled (v : VaultLine) (data : Line) (poison : Bool) : VaultLine :=
  { v with data := data, poisoned := poison, dataFlips := 0 }

/-- The data of a vault line is used (R137). -/
def touchVault (sl i : Nat) (s : State) : State :=
  s.modSlice sl (fun x => { x with vaultRecency := touchWay x.vaultRecency (i / 16) (i % 16) })

/-- Mirror a line that is dirty now (R144, R299); whether a completion or a grant waits for that (R304). -/
def mirrorDirtyAs (waits : Bool) (sl i : Nat) (s : State) : State :=
  let v := (s.slice sl).vline i
  let b := s.bedOfPl (vaultPl i v)
  if !s.mirroring then s else mirrorAs waits sl b.1 b.2 (.vaultDirty (i / 16) (i % 16) (BitVec.ofNat 48 v.tagImage) v.data) s

/-- Mirror a line that new dirty data has reached. -/
def mirrorDirty (sl i : Nat) (s : State) : State := mirrorDirtyAs true sl i s

/-- Mirror a line that is clean or gone now (R144, R299). -/
def mirrorClean (sl i : Nat) (s : State) : State :=
  let b := s.bedOfPl (vaultPl i ((s.slice sl).vline i))
  mirrorIf sl b.1 b.2 (.vaultClean (i / 16) (i % 16)) s

/-- A vault tag from its bits [47:0] (R137). -/
def VaultLine.withTag (v : VaultLine) (img : BitVec 48) : VaultLine :=
  let st := bitsOf img 17 16
  { v with tag := img.extractLsb' 18 30, state := if st = 0 then .invalid else if st = 1 then .clean else if st = 2 then .dirty else .writing,
           parked := img.getLsbD 15, age := img.extractLsb' 5 10, poisoned := img.getLsbD 4, ripe := img.getLsbD 3, redirty := img.getLsbD 2 }

/-- The flipped bits of a vault tag as those of its 64-bit word (R575): bits [63:48] of that word are zero and not stored. -/
def VaultLine.tagWord (v : VaultLine) : BitVec 72 := BitVec.ofNat 72 (bitsOf v.tagFlips 47 0 + fieldAt (bitsOf v.tagFlips 55 48) 64)

/-- Reading a vault tag (R136, R575): none for a double-bit error, or one whose syndrome names a bit that the tag does not have. -/
def VaultLine.readTag (v : VaultLine) : Option VaultLine :=
  match eccCheck v.tagWord with
  | none => none
  | some r =>
    if bitsOf r 63 48 ≠ 0 then none
    else some { v.withTag (BitVec.ofNat 48 v.tagImage ^^^ BitVec.ofNat 48 (bitsOf r 47 0)) with tagFlips := 0 }

/-- Reading the data of a vault line, word by word (R136, R575): none for a double-bit error in one of its words. -/
def VaultLine.readData (v : VaultLine) : Option VaultLine :=
  let words := (List.range 8).map (fun w => eccCheck (v.dataFlips.extractLsb' (72 * w) 72))
  if words.any (·.isNone) then none
  else
    let wrong := ((List.range 8).zip words).foldl (fun n x => n + fieldAt (bitsOf (x.2.getD 0) 63 0) (64 * x.1)) 0
    some { v with data := v.data ^^^ BitVec.ofNat 512 wrong, dataFlips := 0 }

/-- Write-buffer lines of a slice that hold a credit of a kind: stations, 24 the Barrow, 26 the home (R120). -/
def Slice.wbUsed (x : Slice) (k : Nat) : Nat := (x.wb.filter (fun e => e.2.station == k)).length

/-- A home-work write credit is free (R120). -/
def Slice.homeCredit (x : Slice) : Bool := decide (x.wbUsed 26 < 32)

/-- Transactions of a slice that hold a credit of a kind: stations, 24 the Barrow, 26 the internal reserve (R119). -/
def Slice.txnUsed (x : Slice) (k : Nat) : Nat := (x.txns.filter (fun e => e.2.station == k)).length

/-- Requests in the overflow queue (R123). -/
def Slice.overflowCount (x : Slice) : Nat := (x.txns.filter (fun r => decide (r.2.phase = .overflow))).length

/-- A reserve entry is free (R119, R576): writes that have one at the order point's input and vault write-backs in flight take one each,
entries not returned count (R123), and writes that wait for one come first. -/
def Slice.reserveFree (x : Slice) : Bool :=
  !x.work.any (fun t => t.cls.isWrite) &&
  decide ((if 64 ≤ x.overflowCount then Tab.get x.kept 0 26 else 0) + x.txnUsed 26 + (x.input.filter (fun t => t.station == 26)).length + (x.wb.filter (fun e => e.2.reserve)).length < 64)

/-- The lowest index that a table does not list. -/
def lowestFree {α : Type} (t : Tab α) : Nat :=
  t.foldl (fun n e => if e.1 = n then n + 1 else n) 0

/-- The write-buffer line that serves a pool line (R109): one that still takes merges, the newest. -/
def Slice.wbOf (x : Slice) (pl : Nat) : Option Nat :=
  (x.wb.reverse.find? (fun e => decide (e.2.pl = pl ∧ e.2.state ≠ .releasing) && !e.2.migOnly)).map (·.1)

/-- One write-buffer line. -/
def Slice.wbLine (x : Slice) (p : Nat) : WbLine := Tab.get x.wb {} p

/-- The write-buffer line of a pool line that waits for the line's read (R109). -/
def Slice.mergingOf (x : Slice) (pl : Nat) : Option Nat :=
  (x.wb.find? (fun e => decide (e.2.pl = pl ∧ e.2.state = .merging))).map (·.1)

/-- Absorbed data of a pool line waits for a home-work write credit (R576). -/
def Slice.creditDue (x : Slice) (pl : Nat) : Bool := x.wb.any (fun e => decide (e.2.pl = pl) && e.2.homeDue)

/-- Change a write-buffer line. -/
def modWb (sl p : Nat) (f : WbLine → WbLine) (s : State) : State :=
  s.modSlice sl (fun x => { x with wb := Tab.put x.wb p (f (x.wbLine p)) })

/-- Bytes of a line chosen by a byte mask (R109). -/
def byteMask (mask : BitVec 64) : Line :=
  BitVec.ofNat 512 ((bitsSet mask 64).foldl (fun v i => v + 255 * 256 ^ i) 0)

/-- A line merged over another under byte enables (R109). -/
def mergeLine (old new : Line) (mask : BitVec 64) : Line :=
  let m := byteMask mask
  (old &&& ~~~m) ||| (new &&& m)

/-- Every byte enabled. -/
def fullMask : BitVec 64 := 0xFFFFFFFFFFFFFFFF

/-- A port's link has left L0, and the extent-table scan of its loss is not over (R224, R225). -/
def State.portLost (s : State) (port : Nat) : Bool := let p := s.port port; p.lost || p.scanDue || p.scanning

/-- A write of a line goes to the places named (R342). -/
def writePlaces (sl pl : Nat) (msg : Msg) (l : List Place) (s : State) : State :=
  match l with
  | [p, q] => if p.port == q.port then toMemories sl p.port.toNat [p, q] pl msg s else toMemory sl q pl msg (toMemory sl p pl msg s)
  | _ => forEach l (fun p t => toMemory sl p pl msg t) s

/-- One attempt of a write (R147, R342): the line goes to its memory device, and for a MIGRATING extent to its target too. An
attempt that finds its port out of L0 fails, and one in mode SHADOW, which sends no CXL.mem (R297), waits; a target whose port has left L0 is
written no more, as its migration ends with the scan of R225. The first write that reaches an extent clears zeroed (R76). -/
def attemptWrite (sl p : Nat) (s : State) : State :=
  let x := (s.slice sl).wbLine p
  let e := s.extent (extentOf x.pl)
  let place := if x.migOnly then e.mig else e.place
  let second := if e.state = .migrating ∧ !x.migOnly then some e.mig else none
  let up (q : Place) : Bool := s.serving && (s.port q.port.toNat).inL0
  let msg : Msg := { op := .memWr, data := x.data, poison := x.poisoned || x.poisonWrite }
  let s1 := if x.migOnly || !(s.extent (extentOf x.pl)).zeroed then s else
    mirrored (fun t => t.modExtent (extentOf x.pl) (fun y => { y with zeroed := false })) s
  let d1 := x.done1 && !x.resend
  let d2 := second.isNone || second.any (fun q => s.portLost q.port.toNat) || (x.done2 && x.second.isSome && !x.resend)
  let s3 := writePlaces sl x.pl msg ((if d1 then [] else [place].filter up) ++ (if d2 then [] else second.toList.filter up)) s1
  let s4 := if x.attempts = 0 then count (16 + sl) 0x0F 1 s3 else
    count (16 + sl) 0x10 1 (s3.modSlice sl (fun y => { y with retries := satAdd y.retries 1 }))
  modWb sl p (fun y => { y with
    state := if (d1 || up place) && (d2 || (second.map up).getD true) then .sent else .failed,
    place := place, second := second, done1 := d1, done2 := d2, attempts := y.attempts + 1, since := s.tick, resend := false,
    failStamp := s.now }) s4

/-- A MIG transaction is open on a line: writes of it wait until it closes (R343). -/
def Slice.migOpen (x : Slice) (pl : Nat) : Bool :=
  x.txns.any (fun e => decide (e.2.cls = .mig ∧ e.2.pl = pl ∧ (e.2.phase = .reading ∨ e.2.phase = .waitWb ∨ e.2.phase = .copying)))

/-- Put a full line into the write buffer (R120): merged into the buffer line of the same pool line, or a new one whose first
attempt is made at once. `credit` is whose write credit it holds. -/
def bufferWrite (sl pl credit : Nat) (data : Line) (poison : Bool) (s : State) : State :=
  let x := s.slice sl
  let b := s.bedOfPl pl
  match x.wbOf pl with
  | some p =>
    mirrorIf sl b.1 b.2 (.wbPending p pl poison data)
      (modWb sl p (fun y => { y with data := data, poisoned := poison, mask := fullMask,
                                     resend := y.resend || decide (y.state = .sent) }) s)
  | none =>
    let p := lowestFree x.wb
    let y : WbLine := { bed := b.1, line := b.2, pl := pl, data := data, poisoned := poison, unit := s.unit,
                        station := credit, created := s.time.beats }
    let s1 := mirrorIf sl b.1 b.2 (.wbPending p pl poison data) (modWb sl p (fun _ => y) s)
    if x.migOpen pl then s1 else attemptWrite sl p s1

/-- Data that an open transaction took from its owner goes to the memory device (R107, R576): the line came under its sender's write
credit, and its write waits for a home-work credit. -/
def bufferAbsorbed (sl pl credit : Nat) (data : Line) (poison : Bool) (s : State) : State :=
  let x := s.slice sl
  match x.wbOf pl with
  | some _ => bufferWrite sl pl credit data poison s
  | none =>
    if x.homeCredit then bufferWrite sl pl 26 data poison s
    else
      let b := s.bedOfPl pl
      let p := lowestFree x.wb
      let y : WbLine := { bed := b.1, line := b.2, pl := pl, data := data, poisoned := poison, unit := s.unit,
                          station := credit, created := s.time.beats, homeDue := true }
      mirrorIf sl b.1 b.2 (.wbPending p pl poison data) (modWb sl p (fun _ => y) s)

/-- Place partial data in the write buffer with its byte enables, until the line's read returns (R109). -/
def bufferPartial (sl pl credit : Nat) (absorbed : Bool) (data : Line) (mask : BitVec 64) (poison : Bool) (s : State) : State :=
  let x := s.slice sl
  let b := s.bedOfPl pl
  modWb sl (lowestFree x.wb) (fun _ =>
    { state := .merging, absorbed := absorbed, bed := b.1, line := b.2, pl := pl, data := data, mask := mask, poisoned := poison, unit := s.unit,
      station := credit, created := s.time.beats }) s

/-- The vault policy in force for a pool line's bed, with its protocol (R99, R138). -/
def State.ownedBed (s : State) (bed : Nat) : Bool := (s.bed bed).mosi && decide ((s.bed bed).vault = .owned)

/-- A way is pinned in the directory (R139). -/
def Slice.linePinned (x : Slice) (pl : Nat) : Bool :=
  match x.hit pl with
  | some i => decide ((x.entry i).pin ≠ .none)
  | none => false

/-- The vault way that an allocation takes (R139), if any. -/
def Slice.vaultWay (x : Slice) (set : Nat) : Option Nat :=
  let ways := List.range 16
  let line (w : Nat) := x.vline (16 * set + w)
  let free (w : Nat) : Bool := !x.linePinned (vaultPl (16 * set + w) (line w))
  let order := Tab.get x.vaultRecency [] set
  match ways.find? (fun w => decide ((line w).state = .invalid)) with
  | some w => some w
  | none => match leastRecent order (ways.filter (fun w => decide ((line w).state = .clean) && !(line w).parked && free w)) with
    | some w => some w
    | none => match leastRecent order (ways.filter (fun w => decide ((line w).state = .clean) && (line w).parked && free w)) with
      | some w => some w
      | none => if x.homeCredit && x.reserveFree then leastRecent order (ways.filter (fun w => decide ((line w).state = .dirty) && free w))
          else none

/-- A line of the write buffer enters or changes (R299): its record. -/
def mirrorWb (sl p : Nat) (s : State) : State :=
  let y := (s.slice sl).wbLine p
  mirrorIf sl y.bed y.line (.wbPending p y.pl y.poisoned y.data) s

/-- A DIRTY or WRITING vault line whose data has a double-bit error (R149): handled as a write that has failed after its retries, with the
vault bank in place of an age unit: the line's own write-back where one runs, else a line under a home-work write credit. -/
def loseVaultLine (sl i : Nat) (s : State) : State :=
  let v := (s.slice sl).vline i
  let pl := vaultPl i v
  let b := s.bedOfPl pl
  let old := (s.slice sl).wb.find? (fun w => decide (w.2.vault = some i))
  let p := match old with | some w => w.1 | none => lowestFree (s.slice sl).wb
  let was : WbLine := match old with
    | some w => w.2
    | none => { bed := b.1, line := b.2, pl := pl, station := 26, created := s.time.beats }
  mirrorWb sl p (modWb sl p (fun _ =>
    { was with state := .failed, data := v.data, poisoned := true, attempts := 4, failStamp := s.now, vault := none, resend := false,
               place := (s.extent (extentOf pl)).place, second := none, done1 := false, done2 := true, unit := 0x10000 + sl,
               since := s.tick }) (modVline sl i (fun _ => {}) (mirrorClean sl i s)))

/-- The data of a vault line is read (R136, R149): a single-bit error is corrected and written back; a double-bit error makes a CLEAN line
INVALID, and a DIRTY or WRITING one is lost. -/
def readVaultLine (sl i : Nat) (s : State) : State :=
  let v := (s.slice sl).vline i
  if v.dataFlips = 0 then s
  else match v.readData with
    | some w => modVline sl i (fun _ => w) s
    | none => if v.state = .dirty ∨ v.state = .writing then loseVaultLine sl i s else modVline sl i (fun _ => {}) s

/-- Evict a DIRTY vault line (R140): its data moves to the write buffer under a home-work write credit and a reserve transaction, and the
way is freed. A flush that waited to start its write-back waits for this one (R145). DESIGN CHOICE (log 74): a way that becomes INVALID at run time takes its whole tag's reset value. -/
def evictDirty (sl i : Nat) (s0 : State) : State :=
  let s := readVaultLine sl i s0
  let v := (s.slice sl).vline i
  if v.state ≠ .dirty then s
  else
    let pl := vaultPl i v
    let s1 := mirrorClean sl i s
    let s2 := modVline sl i (fun _ => {}) s1
    let s3 := bufferWrite sl pl 26 v.data v.poisoned s2
    let jobs := (s.home.flushes.filter (fun f => f.2.waiting.contains (sl, i))).map (·.1)
    match (s3.slice sl).wbOf pl with
    | some p => modWb sl p (fun y => { y with unit := v.age.toNat, reserve := true, flushes := y.flushes ++ jobs }) s3
    | none => s3

/-- Allocate a vault line (R139, R140): CLEAN, or DIRTY with its age (R141). Answers whether the bank accepted it. -/
def vaultAllocate (sl pl : Nat) (dirty : Bool) (data : Line) (poison : Bool) (s : State) : State × Bool :=
  let set := vaultSetOf pl
  match (s.slice sl).vaultWay set with
  | none => (count (16 + sl) 0x0E 1 s, false)
  | some w =>
    let i := 16 * set + w
    let s1 := if (((s.slice sl).vline i).state = .dirty) then evictDirty sl i s else s
    let v : VaultLine := { tag := BitVec.ofNat 30 (vaultTagOf pl), state := if dirty then .dirty else .clean,
                           age := if dirty then BitVec.ofNat 10 s.unit else 0, poisoned := poison, data := data }
    let s2 := touchVault sl i (modVline sl i (fun _ => v) s1)
    (if dirty then mirrorDirty sl i s2 else s2, true)

/-- Whether the policy scan of a bed whose new policy is NONE makes a line INVALID when it becomes CLEAN (R146). -/
def State.cleanBecomesInvalid (s : State) (bed : Nat) : Bool := decide ((s.bed bed).vault = .none)

/-- A write of a line that the vault holds merges into the line's open buffer line too (R109, R147): reads are served from it, and its next
attempt carries it. -/
def intoBuffer (sl pl : Nat) (data : Line) (poison : Bool) (s : State) : State :=
  match (s.slice sl).wbOf pl with
  | some p => mirrorWb sl p (modWb sl p (fun w => { w with data := data, poisoned := poison }) s)
  | none => s

/-- The policy scan of a bed has passed a set of the vault, or none runs (R146). -/
def State.policyPassed (s : State) (bed set : Nat) : Bool := (s.bed bed).policyScan.isEmpty || decide (set < (s.bed bed).policySets)

/-- The owner's dirty data of a line is put away (R99, R107, R138, R146): into the vault as a dirty line, or to the memory device.
Answers whether the vault holds it dirty. `absorbed` is
data that an open transaction took (R576). -/
def putDirty (sl bed pl credit : Nat) (absorbed : Bool) (data : Line) (poison : Bool) (s : State) : State × Bool :=
  let x := s.slice sl
  let toMem (t : State) : State := if absorbed then bufferAbsorbed sl pl credit data poison t else bufferWrite sl pl credit data poison t
  match x.vhit pl with
  | some i =>
    let v := x.vline i
    let set (f : VaultLine → VaultLine) : State := touchVault sl i (modVline sl i (fun y => f (y.filled data poison)) s)
    let kept (f : VaultLine → VaultLine) : State × Bool := (mirrorDirty sl i (intoBuffer sl pl data poison (set f)), true)
    if v.state = .dirty then kept id
    else if v.state = .writing then kept (fun y => { y with redirty := true })
    else if s.ownedBed bed then kept (fun y => { y with state := .dirty, age := BitVec.ofNat 10 s.unit })
    else (toMem (set id), false)
  | none =>
    if s.ownedBed bed then
      let r := vaultAllocate sl pl true data poison s
      if r.2 then (intoBuffer sl pl data poison r.1, true) else (toMem r.1, false)
    else (toMem s, false)

/-- A full line written by another than the owner is put away (R138): it updates a held line, and goes to the memory device unless
the held line is dirty. -/
def putWrite (sl pl credit : Nat) (data : Line) (poison : Bool) (s : State) : State :=
  let x := s.slice sl
  match x.vhit pl with
  | some i =>
    let v := x.vline i
    let s1 := touchVault sl i (modVline sl i (fun y => y.filled data poison) s)
    if v.state = .dirty then mirrorDirty sl i (intoBuffer sl pl data poison s1)
    else if v.state = .writing then
      mirrorDirty sl i (intoBuffer sl pl data poison (modVline sl i (fun y => { y with redirty := true }) s1))
    else bufferWrite sl pl credit data poison s1
  | none => bufferWrite sl pl credit data poison s

/-- Data that the slice itself holds of a line (R109): write buffer, then vault, with its poison. -/
def Slice.localData (x : Slice) (pl : Nat) : Option (Line × Bool) :=
  match x.wbOf pl with
  | some p => if (x.wbLine p).state = .merging then none else some ((x.wbLine p).data, (x.wbLine p).poisoned)
  | none => match x.vhit pl with
    | some i => some ((x.vline i).data, (x.vline i).poisoned)
    | none => none

/-- Start the write-back of a DIRTY vault line (R143, R576), where a home-work write credit and a reserve entry are free: its data is
read, and one with a double-bit error is lost (R149). Where the line has an open buffer line already, that line carries it (R147). -/
def startWriteback (sl i : Nat) (flush : Option Nat) (s0 : State) : State :=
  if ((s0.slice sl).vline i).state ≠ .dirty ∨ !(s0.slice sl).homeCredit ∨ !(s0.slice sl).reserveFree then s0
  else
  let s := readVaultLine sl i s0
  let x := s.slice sl
  let v := x.vline i
  if v.state ≠ .dirty then
    match flush with
    | some j => s.modSlice sl (fun y => { y with wb := y.wb.map (fun w =>
        if w.2.pl = vaultPl i ((s0.slice sl).vline i) ∧ w.2.unit = 0x10000 + sl then (w.1, { w.2 with flushes := w.2.flushes ++ [j] }) else w) })
    | none => s
  else
    let pl := vaultPl i v
    let b := s.bedOfPl pl
    let jobs := match flush with | some j => [j] | none => []
    let begun (t : State) : State := modVline sl i (fun z => { z with state := .writing, again := false }) t
    match x.wbOf pl with
    | some p =>
      if (x.wbLine p).state = .merging then s
      else begun (mirrorWb sl p (modWb sl p (fun w => { w with
        data := v.data, poisoned := v.poisoned, unit := v.age.toNat, vault := some i, resend := w.resend || decide (w.state = .sent),
        flushes := w.flushes ++ jobs }) s))
    | none =>
    let p := lowestFree x.wb
    let y : WbLine := { bed := b.1, line := b.2, pl := pl, data := v.data, poisoned := v.poisoned, unit := v.age.toNat,
                        vault := some i, station := 26, reserve := true, created := s.time.beats,
                        flushes := jobs }
    attemptWrite sl p (begun (mirrorWb sl p (modWb sl p (fun _ => y) s)))

/-- When dirty data of a line has left the vault, its O entry becomes S with the same sharers, or I with none (R100). -/
def settleOwned (sl pl : Nat) (s : State) : State :=
  let x := s.slice sl
  match x.hit pl with
  | some i =>
    let e := x.entry i
    if e.state = .O && !x.vaultDirty pl then
      putEntry sl i (if e.bcast then { e with state := .S } else e.become .S e.ptrs) s
    else s
  | none => s

end Sys2Proof.Machine
end

