-- ==== Sys2Proof/Machine/HomeTxn.lean ====
section
/-! DEFINITION. The order point of a home slice (R106 to R128, R150 to R157): transactions from admission to close. -/

namespace Sys2Proof.Machine

/-- One transaction of a slice. -/
def Slice.txn (x : Slice) (i : Nat) : Txn := Tab.get x.txns {} i

/-- Change one transaction. -/
def modTxn (sl i : Nat) (f : Txn → Txn) (s : State) : State :=
  s.modSlice sl (fun x => { x with txns := Tab.put x.txns i (f (x.txn i)) })

/-- A transaction pins an entry (R121). -/
def Txn.open' (t : Txn) : Bool :=
  decide (t.phase = .ready ∨ t.phase = .evicting ∨ t.phase = .snooping ∨ t.phase = .reading ∨ t.phase = .mirrored ∨
    t.phase = .waitWb ∨ t.phase = .copying)

/-- The open transaction on a line: the one that pins the line's entry (R121). -/
def Slice.openOn (x : Slice) (pl : Nat) : Option Nat :=
  match x.hit pl with
  | some w => (x.txns.find? (fun e => e.2.open' && decide (e.2.way = w))).map (·.1)
  | none => none

/-- The code of a class (R533). -/
def Cls.code : Cls → Nat
  | .rdS => 0
  | .rdA => 1
  | .invA => 2
  | .rdNC => 3
  | .wbI => 4
  | .wbS => 5
  | .wbA => 6
  | .wrNC => 7
  | .clnI => 8
  | .clnS => 9
  | .atom => 10
  | .mig => 11
  | .probe => 12
  | .vaultWb => 13
  | .sweep => 14
  | .release => 14

/-- The agent that asks, if one does. -/
def Txn.agent (t : Txn) : Option Nat := match t.req with | .agent a => some a | _ => none

/-- Whose write credit the data of a transaction holds (R120): that of the station that brought it, the Barrow's (its zeros among them,
R95), or the home's. -/
def Txn.writeCredit (t : Txn) : Nat := if decide (t.req = .home) && !t.cls.isWrite then 26 else t.ingress

/-- The requests and writes that cross the switch core towards a slice, or wait at its input for their tail status. -/
def State.flying (s : State) (sl : Nat) : List Txn :=
  ((s.switch.voq ++ s.switch.inbox).filter (fun c => c.dst == 16 + sl)).flatMap (fun c => c.items.filterMap (fun m => match m with
    | .txn t => some t
    | _ => none))

/-- A write holds a write credit from its sending until its data has left the slice (R120): writes that have no write-buffer line
yet. -/
def State.writesOpen (s : State) (sl k : Nat) : Nat :=
  let x := s.slice sl
  (((x.txns.map (·.2)).filter (fun t => decide (t.phase ≠ .reading))) ++ x.input ++ x.work ++ s.flying sl).countP
    (fun t => t.cls.isWrite && t.writeCredit == k)

/-- A write credit of a pool is free (R120). -/
def State.writeCreditFree (s : State) (sl k : Nat) : Bool :=
  decide ((s.slice sl).wbUsed k + s.writesOpen sl k < (if k < 16 then 28 else 32))

/-- Give the home work of its own (R115 position 65, R576): it waits for a reserve entry. -/
def addWork (sl : Nat) (t : Txn) (s : State) : State :=
  s.modSlice sl (fun y => { y with work := y.work ++ [t] })

/-- Poison in use: the line a reader gets has free bits (log 22). -/
def poisoned (s : State) : (Line × Bool) × State := let r := takeFreeLine s; ((r.1, true), r.2)

/-- The state of an extent as an access meets it (R82, R224): an extent that names a port which has left L0 counts as FAILED. -/
def State.extState (s : State) (pl : Nat) : ExtState :=
  let e := s.extent (extentOf pl)
  if (e.state = .bound ∨ e.state = .migrating ∨ e.state = .zeroing) && s.portLost e.place.port.toNat then .failed
  else e.state

/-- An access to a line is served (R82). -/
def State.served (s : State) (pl : Nat) : Bool := decide (s.extState pl = .bound ∨ s.extState pl = .migrating)

/-- The plot through which an agent sees a bed, and the address that a snoop of a line gives it: the host's own (log 21). A snoop to an
agent of another device names the bed and the line, and that device finds the address (log 24). -/
def State.agentView (s : State) (a bed line : Nat) : Nat × Nat :=
  match s.plotsOfAgent a bed with
  | p :: _ => (p, s.hpaOf p (s.dpaOf p s.self bed line))
  | [] => (0, lineName bed line)

/-- A status that sets the slice's fault (R333). -/
def faultStatus (r : Running) : Bool :=
  decide (r.status = 0x10 ∨ r.status = 0x11 ∨ r.status = 0x12) || (decide (r.status = 0x13) && r.abortFault)

/-- Change the running descriptor of a slice. In the beat in which it ends its stamp is taken (R332), and a bad status sets the slice's
fault and raises its event (R333), while the slice is bound. -/
def modRun (k : Nat) (f : Running → Running) (s : State) : State :=
  match (s.bslice k).running with
  | none => s
  | some r =>
    let q := f r
    if q.ended && !r.ended then
      let bad := faultStatus q && q.after.isNone
      let s1 := s.modBslice k (fun b => { b with running := some { q with stamp := s.now }, fault := b.fault || bad })
      if bad then raise (1024 + k) (count xbarBarrow 0x05 1 (plotCount (s.bslice k).plot.toNat 24 1 s1)) else s1
    else s.modBslice k (fun b => { b with running := some q })

/-- A message reaches a Barrow slice (R330): data of its chunk, the original value of an atomic, or a completed write. -/
def barrowAnswer (k : Nat) (m : Msg) (s : State) : State :=
  if m.addr.toNat / 2 ^ 46 ≠ (s.bslice k).runNo % 2 ^ 18 then s
  else modRun k (fun r =>
    let r1 := { r with opened := r.opened - 1 }
    let stop (st : BitVec 8) : Running := if r.status = 0 then { r1 with status := st, ended := true } else r1
    let bytes := bytesOf 64 512 m.data
    if m.fail then stop 0x11
    else if m.poison then stop 0x12
    else match m.op with
      | .memData => if r.phase = 2 then { r1 with dstBuf := r1.dstBuf ++ bytes } else { r1 with srcBuf := r1.srcBuf ++ bytes }
      | .atomResult => { r1 with result := m.data.setWidth 128, srcBuf := bytes }
      | _ => r1) s

/-- The TLP that answers an access of the atomic aperture (R82, R150, R152): a refused AtomicOp ends in Completer Abort, a refused read in
poisoned data. -/
def apertureTlp (m : Msg) (size : Nat) : Tlp :=
  if m.fail ∧ m.op = .atomResult then { kind := .cpl, status := .abort }
  else { kind := .cplD, status := if m.poison then .poisoned else .success, data := bytesOf size 512 m.data }

/-- The outcome of a write that the home discards while its plot drains (R69 step 1): the plot's own device counts it. -/
def discarded : Nat := 1

/-- Answer the requester of a transaction (R106, R184): nothing for a requester that is lost, and nothing for the home itself. A refusal
involves no extent, and carries the level of the slice alone. -/
def reply (sl : Nat) (t : Txn) (m : Msg) (s : State) : State :=
  if t.lostReq then s
  else
    let served := decide ((m.outcome = 0 ∨ m.outcome = discarded) ∧ t.outcome = 0)
    let m1 := { m with addr := t.hpa, outcome := max m.outcome t.outcome, devload := s.devload sl (if served then some t.pl else none) }
    match t.req with
    | .agent a =>
      if t.io then
        if t.device ≠ s.self then
          homeToAgent sl a t.bed t.line t.plot clsResponse { m1 with tag := 0x10000, atom := some { size := t.size } } s
        else if t.cls.isWrite then s
        else sendTlp (16 + sl) t.port 2 (apertureTlp m1 (if t.cls = .atom then t.size else 64)) s
      else
        let s1 := homeToAgent sl a t.bed t.line t.plot clsResponse m1 s
        if t.device = s.self then countResponse t.plot m1 s1 else s1
    | .barrow k =>
      if t.device = s.self then
        enqueueCell { src := 16 + sl, dst := xbarBarrow, cls := clsResponse, length := BitVec.ofNat 8 m1.bytes, plot := some t.plot, bed := t.bed,
                      offset := 64 * t.line, home := s.self, devload := BitVec.ofNat 2 m1.devload, items := [.barrow k m1] } s
      else sendTrunk (16 + sl) clsResponse 7
        { dstDev := BitVec.ofNat 4 t.device, srcDev := BitVec.ofNat 4 s.self, cls := clsResponse,
          devload := BitVec.ofNat 2 m1.devload, kind := 2, bed := BitVec.ofNat 12 t.bed,
          line := BitVec.ofNat 36 t.line, plot := BitVec.ofNat 9 t.plot,
          msg := { m1 with tag := 1 + k } } s
    | .home => s

/-- A read of a local plot counts its latency (R528). -/
def readLatency (t : Txn) (s : State) : State := if t.device = s.self then countLatency t.plot t.arrived s else s

/-- The Cmp of a write (R106), held back while the records of its line are not acknowledged (R299, R144). -/
def cmpWrite (sl : Nat) (since : BitVec 32) (t : Txn) (s : State) : State :=
  match s.lastUnacked sl since t.pl [4, 6] with
  | some q => s.modSlice sl (fun x => { x with heldCmps := x.heldCmps ++ [(q, t)] })
  | none => reply sl t { op := .cmp } s

/-- A BAD_ACCESS of a transaction's plot (R82): of a plot of this device. -/
def homeBadAccess (sl : Nat) (t : Txn) (outcome : Nat) (s : State) : State :=
  if t.device = s.self then badAccess (16 + sl) (some t.plot) t.port outcome (s.dpaOf t.plot s.self t.bed t.line) s else s

/-- One LOST_WRITE entry (R148 step 3, R541) with the stamp of the final failure, and the counts of R161 and R528. -/
def logLostWrite (sl bed port ext line unit : Nat) (stamp : BitVec 64) (s : State) : State :=
  let s1 := logFaultAt stamp 0x11 (16 + sl) bed port ext (BitVec.ofNat 64 line) (BitVec.ofNat 64 unit) s
  let s2 := s1.modSlice sl (fun x => { x with lostWrites := satAdd x.lostWrites 1 })
  forEach (s2.plotsOfBed bed) (fun p t => plotCount p 27 1 t) s2

/-- The records of a body wait for VC0 of a trunk (R266, R268, R360). -/
def queueMgmt (st dst : Nat) (body : MgmtBody) (s : State) : State :=
  s.modTrunk st (fun t => { t with
    mgmtOut := t.mgmtOut ++ body.split.map (fun b => { dst := dst, src := s.self, length := b.length, body := b }) })

/-- Send a MGMT record towards a device on VC0 (R266, R268); one for a device without a route is lost. -/
def sendMgmt (dst : Nat) (body : MgmtBody) (s : State) : State :=
  match s.routeTo dst with
  | some st => queueMgmt st dst body s
  | none => s

/-- Raise the event of every plot that maps a bed (R148 step 4); other devices get a record first. -/
def bedEvents (bed : Nat) (s : State) : State :=
  let devs := ((s.bed bed).remote.map (·.1)).dedup
  forEach devs (fun d t => sendMgmt d (.lostWrite bed) t) (forEach (s.plotsOfBed bed) plotEvent s)

/-- O where the vault holds the line dirty in a bed that may have O, else S, or I with no sharers (R99, R100, R107). -/
def ownedOrShared (s : State) (sl bed pl : Nat) (e : DirEntry) (l : List Nat) : DirEntry :=
  if s.ownedBed bed && (s.slice sl).vaultDirty pl then e.become .O l else e.become .S l

/-- Signal CXL viral on ports (R547). -/
def signalViral (l : List Nat) (s : State) : State := forEach l (fun p t => t.modPort p (fun x => { x with viral := true })) s

/-- Every host port that carries a plot mapping any bed whose home is this device (R132). -/
def State.homePorts (s : State) : List Nat :=
  ((s.pool.plots.filter (fun e => e.2.slots.any (fun b => b.2.valid && b.2.home.toNat == s.self))).map
    (fun e => e.2.port.toNat)).dedup

/-- The entries of a set are read (R132, R575): a single-bit error is corrected; a double-bit error is DIR_UNCORRECTABLE. What
the entry reads afterwards is mirrored where it differs (R299). -/
def checkDirSet (sl set : Nat) (s : State) : State :=
  forEach ((List.range 16).filter (fun w => decide (((s.slice sl).entry (16 * set + w)).flips ≠ 0))) (fun w t =>
    let i := 16 * set + w
    let e := (t.slice sl).entry i
    match eccCheck e.flips with
    | some r =>
      let read := DirEntry.ofImage (BitVec.ofNat 64 e.image ^^^ BitVec.ofNat 64 (bitsOf r 63 0))
      putEntry sl i { read with pin := e.pin } t
    | none => signalViral t.homePorts (raise (208 + sl) (logFault 0x14 (16 + sl) sl w set 0 0 (putEntry sl i { pin := e.pin } t)))) s

/-- The tags of a vault set are read (R136, R149): a single-bit error is corrected and written back; a double-bit error drops its line,
which is logged, and whose record is mirrored (R144). -/
def checkVaultSet (sl set : Nat) (s : State) : State :=
  forEach ((List.range 16).filter (fun w => decide (((s.slice sl).vline (16 * set + w)).tagFlips ≠ 0))) (fun w t =>
    let i := 16 * set + w
    let v := (t.slice sl).vline i
    match v.readTag with
    | some y => modVline sl i (fun _ => y) t
    | none =>
      let t1 := if v.state = .dirty ∨ v.state = .writing then mirrorClean sl i t else t
      raise (216 + sl) (logFault 0x15 (16 + sl) sl w set 0 0 (modVline sl i (fun _ => {}) t1))) s

/-- A lookup of a line reads its vault set's tags, and its data where the vault holds it (R135, R136, R149). -/
def readVault (sl pl : Nat) (s : State) : State :=
  let s1 := checkVaultSet sl (vaultSetOf pl) s
  match (s1.slice sl).vhit pl with
  | some i => readVaultLine sl i s1
  | none => s1

/-- A lookup of a line would lose a DIRTY line of the vault (R149), and no home-work write credit is free for it (R576). -/
def Slice.lookupWaits (x : Slice) (pl : Nat) : Bool :=
  !x.homeCredit && (match x.vhit pl with
    | some i => (x.vline i).readData.isNone && decide ((x.vline i).state = .dirty)
    | none => false)

/-- The class of a write at its home stage: from the recorded owner of an M entry, or from another (R106). -/
def writeClass (t : Txn) (e : DirEntry) : Cls :=
  match t.agent with
  | some a =>
    if e.state = .M ∧ e.ptrs = [a] ∧ !t.io then (match t.metaV with | .S => .wbS | .A => .wbA | _ => .wbI) else .wrNC
  | none => .wrNC

/-- The predictor's update at an admission (R154). -/
def Predictor.update (e : Predictor) (now : BitVec 8) (who : Option Nat) (parkOn passAt : Nat) : Predictor :=
  let e1 :=
    if e.tick = now then e
    else
      let d := (now - e.tick).toNat
      let n := popCount e.seen + bit e.seenInt
      let a := if 2 ≤ n then min 15 (e.score.toNat + n - 1) else e.score.toNat - 1
      let b := a - (d - 1)
      let m := if parkOn ≤ b then true else e.mode
      { e with score := BitVec.ofNat 4 b, mode := if b ≤ passAt then false else m, seen := 0, seenInt := false, tick := now }
  match who with
  | some a => { e1 with seen := e1.seen ||| BitVec.ofNat 64 (2 ^ a) }
  | none => { e1 with seenInt := true }

/-- The slice updates the predictor for RD_A, INV_A, WR_NC and ATOM (R154). -/
def predict154 (sl : Nat) (t0 : Txn) (s : State) : State :=
  let t : Txn := { t0 with cls := if t0.cls.isWrite then (match (s.slice sl).hit t0.pl with
    | some w => writeClass t0 ((s.slice sl).entry w)
    | none => .wrNC) else t0.cls }
  if t.cls = .rdA ∨ t.cls = .invA ∨ t.cls = .wrNC ∨ t.cls = .atom then
    s.modSlice sl (fun x =>
      let step (e : Predictor) : Predictor := e.update (BitVec.ofNat 8 (s.now.toNat / 1024)) t.agent x.parkOn x.passAt
      { x with predictor := Tab.upd x.predictor {} (predictorIndex t.pl) step })
  else s

/-- The record of the order point (R533), outcome 0 home stage, 1 conflict row, 2 overflow queue, 3 re-admission. -/
def orderTrace (sl i outcome : Nat) (s : State) : State :=
  let x := s.slice sl
  let t := x.txn i
  let e := match x.hit t.pl with | some w => some (x.entry w) | none => none
  let st := match e with | some y => (match y.state with | .I => 0 | .S => 1 | .M => 2 | .O => 3) | none => 0
  let v := match x.vhit t.pl with
    | some w => (match (x.vline w).state with | .invalid => 0 | .clean => 1 | .dirty => 2 | .writing => 3)
    | none => 0
  trace (0x20 + sl) (fieldAt t.pl 118 + fieldAt t.bed 106 + fieldAt (i % 1024) 96 + fieldAt (t.agent.getD 0) 90 +
    fieldAt t.cls.code 86 + fieldAt st 84 + fieldAt outcome 82 + fieldAt v 80 + fieldAt (bit e.isSome) 79) s

/-- The position of a requester in the rotation (R115, R343). -/
def Txn.position (t : Txn) : Nat :=
  match t.req with
  | .agent a => a
  | .barrow _ => 64
  | .home => if t.cls = .mig then 64 else 65

/-- Allocate a transaction entry: it is taken in (R115, R119). -/
def admitTxn (sl : Nat) (t : Txn) (s : State) : State :=
  let x := s.slice sl
  let i := lowestFree x.txns
  predict154 sl t (count (16 + sl) 0x01 1 (s.modSlice sl (fun y =>
    { y with txns := Tab.put y.txns i { t with phase := .relook, order := y.nextOrder }, nextOrder := y.nextOrder + 1,
             rotation := if t.cls.isWrite then y.rotation else t.position })))

/-- A lost agent's answer to a snoop (R126): the M owner's line is lost, with its entry and event; a pointer is removed; a broadcast
entry is unchanged. -/
def lostAnswer (sl i a : Nat) (s : State) : State :=
  let t := (s.slice sl).txn i
  let e := (s.slice sl).entry t.way
  if e.state = .M ∧ e.ptrs = [a] then
    let pl := if t.phase = .evicting then plOfDir (t.way / 16) e.tag.toNat else t.pl
    let b := s.bedOfPl pl
    let dev := (s.agent a).device.toNat
    let plot := (s.agentView a b.1 b.2).1
    let s1 := logFault 0x10 (16 + sl) b.1 a plot (BitVec.ofNat 64 b.2) (BitVec.ofNat 64 pl) s
    let s2 := if dev = s1.self then plotCount plot 26 1 (plotEvent plot s1) else sendMgmt dev (.lostWrite b.1) s1
    modTxn sl i (fun y => { y with lostOwner := true, owed := true, gone := y.gone ++ [a] }) s2
  else modTxn sl i (fun y => { y with gone := y.gone ++ [a] }) s

/-- Issue snoops to agents (R107, R111, R126): each lost agent's completes at once; a retiring one is never snooped and holds nothing
(R572). -/
def issueSnoops (sl i : Nat) (op : MsgOp) (l : List Nat) (s : State) : State :=
  let t := (s.slice sl).txn i
  let pl := if t.phase = .evicting then plOfDir (t.way / 16) ((s.slice sl).entry t.way).tag.toNat else t.pl
  let b := s.bedOfPl pl
  let stale := l.filter (fun a => (s.agent a).retiring)
  let held := l.filter (fun a => !(s.agent a).retiring)
  let gone (a : Nat) : Bool := s.agentLostAt a b.1 || t.asLost
  let lost := held.filter gone
  let live := held.filter (fun a => !gone a)
  let s1 := modTxn sl i (fun y => { y with snoopKind := op, waiting := live, snooped := s.tick, gone := y.gone ++ stale }) s
  let s2 := forEach lost (lostAnswer sl i) s1
  oneOutput (forEach live (fun a u =>
    let v := u.agentView a b.1 b.2
    let u1 := count (16 + sl) 0x09 1 (homeToAgent sl a b.1 b.2 v.1 clsSnoop { op := op, addr := BitVec.ofNat 64 v.2 } u)
    if (u.agent a).device.toNat = u.self then
      let u2 := plotCount v.1 8 1 u1
      if t.phase = .evicting then plotCount v.1 29 1 u2 else u2
    else u1)) s2

/-- The poison write of a line whose owner was lost (R126), where the write credit it needs is free. -/
def lostLine (sl i : Nat) (s : State) : State :=
  let x := s.slice sl
  let t := x.txn i
  let e := x.entry t.way
  let pl := if t.phase = .evicting then plOfDir (t.way / 16) e.tag.toNat else t.pl
  let s1 := match x.vhit pl with
    | some v => modVline sl v (fun _ => {}) (mirrorClean sl v s)
    | none => s
  let r := poisoned s1
  let s2 := bufferWrite sl pl 26 r.1.1 true r.2
  putEntry sl t.way { (s2.slice sl).entry t.way with state := .I, ptrs := [], bcast := false }
    (modTxn sl i (fun y => { y with owed := false, dirty := some r.1 }) s2)

/-- Whether a home-work write credit is free, or the line already has a buffer line. -/
def canBuffer (s : State) (sl pl : Nat) : Bool := (s.slice sl).homeCredit || ((s.slice sl).wbOf pl).isSome

/-- Agents of an entry that are to go when its transaction closes (R126, R127, R572 step 3). -/
def staleAgent (s : State) (bed a : Nat) : Bool := ((s.agent a).retiring && (s.agent a).inPass) || s.agentLostAt a bed

/-- A transaction of the home's own work on a line (R115 position 65): the agents it snoops. -/
def ownWork (c : Cls) (pl : Nat) (targets : List Nat) (s : State) : Txn :=
  let b := s.bedOfPl pl
  { cls := c, req := .home, device := s.self, bed := b.1, line := b.2, pl := pl, station := 26, targets := targets,
    arrived := s.time.beats }

/-- Change an entry as if an agent had answered BIRspI without dirty data (R104, R572). Where that creates O in a pair, a transaction does it,
which holds the pin until the partner has acknowledged the records (R112). -/
def dropAgent (sl i a : Nat) (s : State) : State :=
  let e := (s.slice sl).entry i
  let pl := plOfDir (i / 16) e.tag.toNat
  if e.state = .M ∧ e.ptrs = [a] then
    let e1 := ownedOrShared s sl (s.bedOfPl pl).1 pl e []
    if s.mirroring && decide (e1.state = .O) then addWork sl (ownWork .sweep pl [a] s) s else putEntry sl i e1 s
  else if a ∈ e.ptrs then putEntry sl i (e.remove a) s
  else s

/-- Close a transaction (R116, R119, R121, R127, R572): agents that a scan left to it are resolved, its entry is freed, and its pin passes to the head
of the line's conflict row. Its request credit is returned, unless the overflow queue holds 64 requests (R123). -/
def closeTxn (sl i : Nat) (s : State) : State :=
  let t := (s.slice sl).txn i
  let e := (s.slice sl).entry t.way
  let lost (a : Nat) : Bool := s.agentLostAt a t.bed || t.lostAt.contains a
  let stale (a : Nat) : Bool := staleAgent s t.bed a || t.lostAt.contains a || t.retiredAt.contains a
  let s1 := forEach (e.ptrs.filter (fun a => stale a && !(decide (e.state = .M) && lost a))) (fun a u => dropAgent sl t.way a u) s
  let left := (s1.slice sl).entry t.way
  let s2 := if left.state = .M && left.ptrs.any lost then
      s1.modSlice sl (fun y => { y with work := y.work ++ [{ ownWork .sweep t.pl left.ptrs s1 with asLost := true }] })
    else s1
  let x := s2.slice sl
  let head := (x.txns.filter (fun r => decide (r.2.phase = .rowed ∧ r.2.pl = t.pl))).foldl
    (fun (m : Option (Nat × Nat)) r => match m with
      | some v => if r.2.order < v.2 then some (r.1, r.2.order) else m
      | none => some (r.1, r.2.order)) none
  let s3 := if 64 ≤ x.overflowCount then
      s2.modSlice sl (fun y => { y with kept := Tab.set y.kept 0 t.station (Tab.get y.kept 0 t.station + 1) })
    else s2
  match head with
  | some h => s3.modSlice sl (fun y =>
      let y1 := { y with txns := Tab.drop y.txns i }
      { y1 with txns := Tab.put y1.txns h.1 { y1.txn h.1 with phase := .ready, way := t.way, baseSeq := (s3.munit sl).mseq },
                dir := Tab.upd y1.dir {} t.way (fun d => { d with pin := .opened }) })
  | none => s3.modSlice sl (fun y =>
      { y with txns := Tab.drop y.txns i, dir := Tab.upd y.dir {} t.way (fun d => { d with pin := .none }) })

/-- The grant of a transaction has been sent: count, and close (R107, R116). -/
def finishTxn (sl i : Nat) (s : State) : State :=
  let t := (s.slice sl).txn i
  let data (mv : MetaValue) : State :=
    match t.grantValue with
    | some v => if t.lostReq then s else readLatency t (reply sl t { op := .memData, metaValue := mv, data := v.1, poison := v.2 } s)
    | none => s
  let s1 := match t.cls with
    | .rdS => data .S
    | .rdA => data .A
    | .rdNC => data .I
    | .wbI => if t.answered then s else reply sl t { op := .cmp } s
    | .wbS => if t.answered then s else reply sl t { op := .cmp } s
    | .wbA => if t.answered then s else reply sl t { op := .cmp } s
    | .invA => reply sl t { op := .cmpE } s
    | .clnI => reply sl t { op := .cmp } s
    | .clnS => reply sl t { op := .cmp } s
    | .atom => match t.grantValue with
      | some v => reply sl t { op := .atomResult, data := v.1, poison := v.2 } s
      | none => s
    | _ => s
  closeTxn sl i s1

/-- Grant, or withhold the grant until the partner has acknowledged the records it depends on (R112, R144, R299): in a SYNC bed the
directory's of this transaction, for every grant and every creation of O; in either bed the vault's of the line, for a grant of M, a creation
of O and an atomic's completion, and in a SYNC bed for every grant. While O is withheld the transaction keeps its pin, so that nothing uses
the entry. -/
def grantTxn (sl i : Nat) (s : State) : State :=
  let t := (s.slice sl).txn i
  let b := s.bed t.bed
  let e := (s.slice sl).entry t.way
  let ownsNow := decide (e.state = .O) && !t.wasO
  let grants := ownsNow || decide (t.cls = .rdS ∨ t.cls = .rdA ∨ t.cls = .invA ∨ t.cls = .rdNC ∨ t.cls = .atom)
  let mine := (if b.async then [] else [3]) ++ (if t.cls.isWrite then [6] else [])
  let dirty := if !b.async || ownsNow || decide (t.cls = .rdA ∨ t.cls = .invA ∨ t.cls = .atom) then [4] else []
  match (if grants then s.lastOf sl t.baseSeq t.pl mine dirty else none) with
  | some q => modTxn sl i (fun y => { y with phase := .mirrored, waitSeq := q }) s
  | none => finishTxn sl i s

/-- The result of an atomic on an operand (R150, R327). -/
def atomApply (op : AtomOp) (w : Nat) (old a b : Nat) : Nat :=
  match op with
  | .fetchAdd => (old + a) % 2 ^ w
  | .swap => a % 2 ^ w
  | .cas => if old = a % 2 ^ w then b % 2 ^ w else old

/-- The operand of an atomic within its line. -/
def atomOperand (t : Txn) (d : Line) : Nat := bitsOf d (8 * (t.byteOff + t.size) - 1) (8 * t.byteOff)

/-- The line after an atomic. -/
def atomLine (t : Txn) (d : Line) : Line :=
  let old := atomOperand t d
  let new := atomApply t.op (8 * t.size) old t.a.toNat t.b.toNat
  BitVec.ofNat 512 (d.toNat - fieldAt old (8 * t.byteOff) + fieldAt new (8 * t.byteOff))

/-- Where a transaction's data came from, for the statistics and the vault (R528, R138). -/
def fillVault (sl bed pl : Nat) (data : Line) (poison : Bool) (s : State) : State :=
  if (s.bed bed).vault = .none then s else (vaultAllocate sl pl false data poison s).1

/-- An atomic executes (R151, R152, R156, R157): on the vault line when it parks, else through the write buffer. An O entry stays O. -/
def atomicNow (sl i : Nat) (data : Line) (poison : Bool) (s : State) : State :=
  let t := (s.slice sl).txn i
  let e := (s.slice sl).entry t.way
  let settle (u : State) : State :=
    grantTxn sl i (putEntry sl t.way (if e.state = .O then e.become .O [] else ownedOrShared u sl t.bed t.pl e []) u)
  if poison then
    settle (modTxn sl i (fun y => { y with grantValue := some (data, true) }) s)
  else
    let s1 := modTxn sl i (fun y => { y with grantValue := some (BitVec.ofNat 512 (atomOperand t data), false) }) s
    let new := atomLine t data
    let park := t.park && decide ((s1.bed t.bed).vault ≠ .none)
    let alloc := if park && ((s1.slice sl).vhit t.pl).isNone then vaultAllocate sl t.pl false data false s1 else (s1, park)
    let s2 := alloc.1
    if alloc.2 then
      let s3 := match (s2.slice sl).vhit t.pl with
        | some v => modVline sl v (fun y => { y with parked := true }) s2
        | none => s2
      let s4 := count (16 + sl) 0x11 1 s3
      settle (if s4.ownedBed t.bed then (putDirty sl t.bed t.pl 26 false new false s4).1 else putWrite sl t.pl 26 new false s4)
    else settle (count (16 + sl) 0x12 1 (putWrite sl t.pl 26 new false s2))

/-- An atomic has its operand: it executes, or keeps its pin until the home-work write credit that its result needs is free (R576). -/
def runAtomic (sl i : Nat) (data : Line) (poison fromMem : Bool) (s : State) : State :=
  let t := atomicNow sl i data poison s
  if (t.slice sl).wbUsed 26 ≤ max 32 ((s.slice sl).wbUsed 26) then t
  else modTxn sl i (fun y => { y with phase := .waitWb, atomData := some (data, poison, fromMem) }) s

/-- A WR_NC is merged and written (R107, R138), and answered once its data is held (R107). -/
def writeNC (sl i : Nat) (base : Option (Line × Bool)) (s : State) : State :=
  let t := (s.slice sl).txn i
  let e := (s.slice sl).entry t.way
  let full := t.mask == fullMask
  let old := base.getD (0, false)
  let data := if full then t.data else mergeLine old.1 t.data t.mask
  let poison := t.poison || (!full && old.2)
  let s1 := putWrite sl t.pl t.writeCredit data poison s
  let e1 := if t.wasO ∧ e.state = .O then e.become .O [] else e.become .S []
  let s2 := putEntry sl t.way e1 s1
  let s3 := if t.answered then s2 else cmpWrite sl t.baseSeq t s2
  closeTxn sl i s3

/-- The owner's write (WB_I, WB_S, WB_A) with its full line (R107): the data is put away and the entry follows. -/
def ownerWrite (sl way : Nat) (t : Txn) (data : Line) (poison : Bool) (s : State) : State :=
  let a := t.agent.getD 0
  let r := putDirty sl t.bed t.pl t.writeCredit false data poison s
  let e := (r.1.slice sl).entry way
  match t.metaV with
  | .A => r.1
  | .S => putEntry sl way (ownedOrShared r.1 sl t.bed t.pl e [a]) r.1
  | _ => putEntry sl way (ownedOrShared r.1 sl t.bed t.pl e []) r.1

/-- A read transaction with its data: the entry's change and the grant (R107). DESIGN CHOICE (log 75): where the M owner answers RD_NC's
BISnpCur with BIRspI, R104 removes its pointer and the entry becomes I, or O with no sharers; the table's 'unchanged' holds for an owner that
keeps the line. -/
def readGrant (sl i : Nat) (data : Line) (poison : Bool) (s : State) : State :=
  let t := (s.slice sl).txn i
  let a := t.agent.getD 64
  let e := (s.slice sl).entry t.way
  let drop (x : DirEntry) : DirEntry := t.gone.foldl (fun y g => y.remove g) x
  let e1 := if t.lostReq then
      (if e.state = .M then (if e.ptrs.any (fun o => o ∈ t.keep) then e.become .S e.ptrs
          else if t.gone.isEmpty && t.keep.isEmpty then e else ownedOrShared s sl t.bed t.pl e [])
        else if t.cls = .rdA ∨ t.cls = .invA then e.become e.state [] else drop e)
    else match t.cls with
    | .rdS => match e.state with
      | .I => ownedOrShared s sl t.bed t.pl e [a]
      | .M =>
        let l := (e.ptrs.filter (fun o => o ∈ t.keep)) ++ [a]
        if t.dirty.isSome then ownedOrShared s sl t.bed t.pl e l else e.become .S l
      | _ => let d := drop e
             if d.state = .I then ownedOrShared s sl t.bed t.pl d [a] else d.add a
    | .rdNC => match e.state with
      | .M => if e.ptrs.any (fun o => o ∈ t.gone) then ownedOrShared s sl t.bed t.pl e [] else e
      | _ => e
    | _ => e.become .M [a]
  let s1 := putEntry sl t.way e1 (modTxn sl i (fun y => { y with grantValue := some (data, poison) }) s)
  let s2 := if t.cls = .rdNC ∨ t.lostReq then s1 else match (s1.slice sl).vhit t.pl with
    | some v => modVline sl v (fun y => { y with parked := false }) s1
    | none => s1
  let s3 := if e1.bcast && !e.bcast then count (16 + sl) 0x07 1 s2 else s2
  grantTxn sl i s3

/-- Ask the memory device for a transaction's line (R109). -/
def readMemory (sl i : Nat) (s : State) : State :=
  let t := (s.slice sl).txn i
  let q := (s.extent (extentOf t.pl)).place
  toMemory sl q t.pl { op := .memRd } (modTxn sl i (fun y => { y with phase := .reading, readFrom := some q, readPl := y.pl }) s)

/-- The copy of one line of a migrating extent (R343): nothing where the write buffer holds the line, else its data goes to the
target only, once a write credit of the Barrow is free (R120). -/
def migData (sl i : Nat) (data : Line) (poison : Bool) (s : State) : State :=
  let x := s.slice sl
  let t := x.txn i
  let y : WbLine := { bed := t.bed, line := t.line, pl := t.pl, data := data, poisoned := poison, unit := s.unit,
                      station := 24, migOnly := true, created := s.time.beats }
  let p := lowestFree x.wb
  if s.writeCreditFree sl 24 then
    attemptWrite sl p (mirrorWb sl p (modTxn sl i (fun z => { z with phase := .copying, atomData := none }) (modWb sl p (fun _ => y) s)))
  else modTxn sl i (fun z => { z with phase := .waitWb, atomData := some (data, poison, false) }) s

/-- A transaction has its data (R107, R109): `fromMem` when it came from the memory device. -/
def dataArrived (sl i : Nat) (data : Line) (poison fromMem : Bool) (s : State) : State :=
  let t := (s.slice sl).txn i
  let stat (u : State) : State :=
    if t.device = u.self ∧ t.req ≠ .home then plotCount t.plot (if fromMem then 7 else 6) 1 u else u
  match t.cls with
  | .rdS => readGrant sl i data poison (stat (if fromMem then fillVault sl t.bed t.pl data poison s else s))
  | .rdA => readGrant sl i data poison (stat (if fromMem then fillVault sl t.bed t.pl data poison s else s))
  | .rdNC => readGrant sl i data poison (stat (if fromMem then fillVault sl t.bed t.pl data poison s else s))
  | .atom => runAtomic sl i data poison fromMem s
  | .wrNC => writeNC sl i (some (data, poison)) s
  | .mig => migData sl i data poison s
  | _ =>
    let d := if t.mask == fullMask then (t.data, t.poison) else (mergeLine data t.data t.mask, t.poison || poison)
    let s1 := ownerWrite sl t.way t d.1 d.2 s
    if ((s1.slice sl).entry t.way).state = .O then grantTxn sl i s1
    else closeTxn sl i (if t.answered then s1 else cmpWrite sl t.baseSeq t s1)

/-- The line's data is held by the slice itself (R109 items 2 and 3): use of a vault line reads it with its code (R136), and counts as its use
(R137). -/
def localSource (sl pl : Nat) (s0 : State) : Option ((Line × Bool) × State) :=
  let s := match (s0.slice sl).wbOf pl, (s0.slice sl).vhit pl with
    | none, some v => readVaultLine sl v s0
    | _, _ => s0
  match (s.slice sl).localData pl with
  | some d =>
    let s1 := if ((s.slice sl).wbOf pl).isSome then s else match (s.slice sl).vhit pl with
      | some v => touchVault sl v s
      | none => s
    some (d, s1)
  | none => none

/-- A partial write whose line neither the write buffer nor the vault holds (R109): its data waits with its byte enables. -/
def waitPartial (sl i : Nat) (s : State) : State :=
  let t := (s.slice sl).txn i
  let s1 := readMemory sl i (bufferPartial sl t.pl t.writeCredit false t.data t.mask t.poison s)
  if t.snoopKind = .cmp ∧ !s.mirroring then cmpWrite sl t.baseSeq t (modTxn sl i (fun y => { y with answered := true }) s1) else s1

/-- The lines of an extent that have been copied (R343): a closed MIG counts; the last one makes the flip due (R344). -/
def migClosed (ext : Nat) (s : State) : State :=
  match Tab.find s.pool.migrations ext with
  | some m =>
    let n := m.copied + 1
    let m1 : Migration :=
      { m with copied := n, flipDue := decide (extentLines ≤ n), readyTick := if extentLines ≤ n then s.tick else m.readyTick }
    s.modPool (fun p => { p with migrations := Tab.put p.migrations ext m1 })
  | none => s

/-- A MIG transaction holds its line's pin (R343): where the write buffer holds the line it closes, else it reads the source. -/
def migRead (sl i : Nat) (s : State) : State :=
  let x := s.slice sl
  let t := x.txn i
  if (x.wbOf t.pl).isSome then migClosed (extentOf t.pl) (closeTxn sl i s)
  else if x.creditDue t.pl || x.lookupWaits t.pl then modTxn sl i (fun y => { y with phase := .waitWb }) s
  else readMemory sl i (count (16 + sl) 0x0D 1 s)

/-- A MIG transaction belongs to a migration that runs (R343, R345). -/
def State.migRuns (s : State) (t : Txn) : Bool :=
  match Tab.find s.pool.migrations (extentOf t.pl) with
  | some m => m.started == t.started
  | none => false

/-- Every snoop response of a transaction is in (R107): the data is taken in the order of R109, and the transaction concludes. -/
def conclude (sl i : Nat) (s : State) : State :=
  let x := s.slice sl
  let t := x.txn i
  if t.cls = .mig then migRead sl i s
  else if (x.mergingOf t.pl).isSome then modTxn sl i (fun y => { y with phase := .reading }) s
  else if x.creditDue t.pl || x.lookupWaits t.pl then modTxn sl i (fun y => { y with phase := .waitWb }) s
  else
    let needs := decide (t.cls = .rdS ∨ t.cls = .rdA ∨ t.cls = .rdNC ∨ t.cls = .atom) ||
      (t.cls.isWrite && t.mask != fullMask)
    if needs then
      match t.dirty with
      | some d => dataArrived sl i d.1 d.2 false s
      | none =>
        match localSource sl t.pl s with
        | some r => dataArrived sl i r.1.1 r.1.2 false (count (16 + sl) (if (x.wbOf t.pl).isSome then 0x0D else 0x0C) 1 r.2)
        | none =>
          let s1 := count (16 + sl) 0x0D 1 s
          if t.cls.isWrite then waitPartial sl i s1 else readMemory sl i s1
    else match t.cls with
      | .wrNC => writeNC sl i none s
      | .invA => readGrant sl i 0 false s
      | .wbI => dataArrived sl i 0 false false s
      | .wbS => dataArrived sl i 0 false false s
      | .wbA => dataArrived sl i 0 false false s
      | _ => grantTxn sl i s

/-- The end of a transaction of the home's own work, all its answers in (R69, R87, R113, R148, R312): a probe keeps the agents that
answered that they hold the line; a recall removes those it named. -/
def ownWorkDone (sl i : Nat) (s : State) : State :=
  let t := (s.slice sl).txn i
  let e := (s.slice sl).entry t.way
  match t.cls with
  | .probe =>
    if t.keep.length ≤ 4 then
      grantTxn sl i (putEntry sl t.way (if e.state = .O then { e with ptrs := t.keep, bcast := false } else e.become .S t.keep) s)
    else grantTxn sl i s
  | .release =>
    let x := s.slice sl
    let owed := x.wb.flatMap (fun w => if w.2.pl = t.pl ∧ w.2.state = .releasing then w.2.owedCmps else [])
    let s1 := match x.vhit t.pl with
      | some v => modVline sl v (fun _ => {}) (mirrorClean sl v s)
      | none => s
    let b := s1.bedOfPl t.pl
    let gone := ((s1.slice sl).wb.filter (fun w => decide (w.2.pl = t.pl ∧ w.2.state = .releasing))).map (·.1)
    let s2 := forEach gone (fun p u =>
      mirrorIf sl b.1 b.2 (.wbDone p) (u.modSlice sl (fun y => { y with wb := Tab.drop y.wb p }))) s1
    let s3 := match t.dirty with
      | none => s2
      | some d =>
        if s2.served t.pl then (putDirty sl t.bed t.pl 26 true d.1 d.2 s2).1
        else logLostWrite sl t.bed (s2.extent (extentOf t.pl)).place.port.toNat (extentOf t.pl) t.line s2.unit s2.now s2
    grantTxn sl i (forEach owed (cmpWrite sl (s2.munit sl).mseq) (putEntry sl t.way (ownedOrShared s3 sl t.bed t.pl e []) s3))
  | _ =>
    if e.bcast ∧ t.targets.length < (s.bed t.bed).sharerList.length then grantTxn sl i s
    else if e.state = .M then
      if e.ptrs.any (fun a => a ∈ t.targets) then grantTxn sl i (putEntry sl t.way (ownedOrShared s sl t.bed t.pl e []) s)
      else grantTxn sl i s
    else
      let l := if e.bcast then [] else e.ptrs.filter (fun a => a ∉ t.targets)
      let e := if e.state = .S ∧ l.isEmpty ∧ t.cls = .sweep ∧ (s.slice sl).vaultDirty t.pl ∧ s.ownedBed t.bed then { e with state := .O } else e
      grantTxn sl i (putEntry sl t.way
        (if e.state = .O then { e with ptrs := l, bcast := false } else if e.state = .I then e else e.become .S l) s)

/-- Every snoop response of a transaction is in: a line whose owner was lost is first dealt with, once its write credit is free
(R126, R576). Work of the home whose data needs a write credit keeps its pin until one is free (R576). -/
def afterSnoops (sl i : Nat) (s : State) : State :=
  let t := (s.slice sl).txn i
  let own := decide (t.cls = .probe ∨ t.cls = .sweep ∨ t.cls = .release)
  if (t.owed && !canBuffer s sl t.pl) || (own && (s.slice sl).creditDue t.pl) then modTxn sl i (fun y => { y with phase := .waitWb }) s
  else if own && ((s.slice sl).mergingOf t.pl).isSome then modTxn sl i (fun y => { y with phase := .reading }) s
  else
    let s1 := if t.owed then lostLine sl i s else s
    if own then
      let u := ownWorkDone sl i s1
      if (u.slice sl).wbUsed 26 ≤ max 32 ((s1.slice sl).wbUsed 26) then u else modTxn sl i (fun y => { y with phase := .waitWb }) s1
    else conclude sl i s1

/-- The way of an eviction takes the new tag (R122): its pin becomes OPEN, and the requests that waited for the victim look it up
afresh. -/
def retag (sl i : Nat) (s0 : State) : State :=
  let t := (s0.slice sl).txn i
  let pl := plOfDir (t.way / 16) ((s0.slice sl).entry t.way).tag.toNat
  if (t.owed && !canBuffer s0 sl pl) || ((s0.slice sl).mergingOf pl).isSome || (s0.slice sl).creditDue pl then s0
  else
    let s := if t.owed then lostLine sl i s0 else s0
    let x := s.slice sl
    let e := x.entry t.way
    let victim := plOfDir (t.way / 16) e.tag.toNat
    let st := if s.ownedBed t.bed && x.vaultDirty t.pl then DirState.O else .I
    let s1 := putEntry sl t.way { tag := BitVec.ofNat 26 (dirTagOf t.pl), state := st, pin := .opened } s
    s1.modSlice sl (fun y =>
      let again (r : Nat × Txn) : Nat × Txn :=
        if r.2.phase = .rowed ∧ r.2.pl = victim then (r.1, { r.2 with phase := .relook }) else r
      let y1 := { y with txns := y.txns.map again }
      { y1 with txns := Tab.put y1.txns i { y1.txn i with phase := .ready, dirty := none, keep := [], gone := [], waiting := [], newO := decide (st = .O) } })

/-- Lookups (bank, crossbar port, cycle) take their cycles among those already placed (R23): one that meets a lower port's in its bank waits
into the next cycle; a higher port's that it meets there does, and the later ones of that port behind it. The ports that lost come with
the answer. Each step places a lookup or moves one on by a cycle, so that 8 (n + 1)² steps place n + 1 of them. -/
def placeLookups : Nat → List (Nat × Nat × Nat) → List (Nat × Nat × Nat) → List Nat → List (Nat × Nat × Nat) × List Nat
  | 0, todo, es, lost => (es ++ todo, lost)
  | _, [], es, lost => (es, lost)
  | n + 1, (b, p, c) :: rest, es, lost =>
    if es.any (fun e => e.1 == b && e.2.2 == c && decide (e.2.1 < p)) then placeLookups n ((b, p, c + 1) :: rest) es (lost ++ [p])
    else
      let beaten (e : Nat × Nat × Nat) : Bool := e.2.2 == c && e.1 == b && decide (p < e.2.1)
      let pushed (e : Nat × Nat × Nat) : Bool := beaten e || (e.2.2 == c && e.2.1 == p)
      placeLookups n ((es.filter pushed).map (fun e => (e.1, e.2.1, c + 1)) ++ rest) (es.filter (fun e => !pushed e) ++ [(b, p, c)])
        (lost ++ (es.filter beaten).map (·.2.1))

/-- The lookups that still hold a cycle of this beat or of a later one, their cycles counted from this beat on (R23). -/
def State.lookupsHere (s : State) : List (Nat × Nat × Nat) :=
  let gone := 2 * (1 + s.time.beats - s.home.bankBeat)
  (s.home.banks.filter (fun e => decide (gone ≤ e.2.2))).map (fun e => (e.1, e.2.1, e.2.2 - gone))

/-- A home slice or the Barrow starts an extent-table lookup (R23): one in each FCLK cycle, in one of 16 banks by the extent's index. Of two
in one bank and one cycle the lower crossbar port's is served first; the other waits a cycle, and each wait counts at its slice (R523). -/
def extentLookup (port pl : Nat) (s : State) : State :=
  let here := s.lookupsHere
  let cycle := ((here.filter (fun e => e.2.1 == port)).map (fun e => e.2.2 + 1)).foldl max 0
  let r := placeLookups (8 * (here.length + 1) ^ 2) [(extentOf pl % 16, port, cycle)] here []
  forEach (r.2.filter (fun p => decide (p < 24))) (fun p t => count p 0x15 1 t)
    (s.modHome (fun h => { h with bankBeat := 1 + s.time.beats, banks := r.1 }))

/-- The lookup of a request (R23, R105, R116, R122, R123): a pinned line takes it into the row's tail, a hit pins the entry, a miss takes a free
way, evicts a victim, or waits in the overflow queue. DESIGN CHOICE (log 76): a request for a line whose way still carries its victim's tag
(EVICTING) misses, and takes a way of its own. -/
def lookupStage (sl i : Nat) (s0 : State) : State :=
  let t0 := (s0.slice sl).txn i
  let s := extentLookup (16 + sl) t0.pl (readVault sl t0.pl (checkDirSet sl (dirSetOf t0.pl) s0))
  let x := s.slice sl
  let t := x.txn i
  let set := dirSetOf t.pl
  let base := (s.munit sl).mseq
  let queue (ph : Phase) (u : State) : State :=
    u.modSlice sl (fun y => { y with nextOrder := y.nextOrder + 1, txns := Tab.put y.txns i { y.txn i with phase := ph, order := y.nextOrder } })
  match x.hit t.pl with
  | some w =>
    let s1 := s.modSlice sl (fun y => { y with recency := touchWay y.recency set (w % 16) })
    if (x.entry w).pin ≠ .none then
      orderTrace sl i 1 (count (16 + sl) 0x02 1 (queue .rowed s1))
    else
      let pin : Pin := if t.cls = .probe then .probing else .opened
      orderTrace sl i 0 (modTxn sl i (fun y => { y with phase := .ready, way := w, baseSeq := base })
        (s1.modSlice sl (fun y => { y with dir := Tab.upd y.dir {} w (fun e => { e with pin := pin }) })))
  | none =>
    let s1 := count (16 + sl) 0x05 1 s
    match x.allocWay set with
    | none =>
      if x.overflowCount < 64 then
        orderTrace sl i 2 (count (16 + sl) 0x03 1 (queue .overflow s1))
      else s1
    | some w =>
      let k := 16 * set + w
      let e := x.entry k
      if e.used then
        let s2 := s1.modSlice sl (fun y => { y with recency := touchWay y.recency set w,
                                                    dir := Tab.upd y.dir {} k (fun d => { d with pin := .evicting }) })
        let s3 := count (16 + sl) 0x06 1 (modTxn sl i (fun y => { y with phase := .evicting, way := k, baseSeq := base }) s2)
        let b := s3.bedOfPl (plOfDir set e.tag.toNat)
        orderTrace sl i 0 (issueSnoops sl i .snpInv (e.holders (s3.bed b.1)) s3)
      else
        let st := if s1.ownedBed t.bed && x.vaultDirty t.pl then DirState.O else .I
        let s2 := putEntry sl k { tag := BitVec.ofNat 26 (dirTagOf t.pl), state := st, pin := .opened } s1
        orderTrace sl i 0 (modTxn sl i (fun y => { y with phase := .ready, way := k, baseSeq := base, newO := decide (st = .O) })
          (s2.modSlice sl (fun y => { y with recency := touchWay y.recency set w })))

/-- The snoops of a transaction in the home stage (R107, R151): the message and the agents. -/
def snoopsOf (s : State) (t : Txn) (e : DirEntry) : MsgOp × List Nat :=
  let b := s.bed t.bed
  let all := e.holders b
  let others := all.filter (fun a => some a ≠ t.agent)
  match t.cls with
  | .rdS => (.snpData, if e.state = .M then others else [])
  | .rdNC => (.snpCur, if e.state = .M then others else [])
  | .rdA => (.snpInv, others)
  | .invA => (.snpInv, others)
  | .wrNC => (.snpInv, all)
  | .atom => (.snpInv, all)
  | .release => (.snpInv, all)
  | .probe => (.snpCur, b.sharerList)
  | .sweep => (.snpInv, if e.bcast ∨ e.state = .I ∨ t.bed ∈ (s.slice (sliceOf t.bed t.line)).sweeping then t.targets
      else t.targets.filter (fun a => a ∈ e.ptrs))
  | _ => (.cmp, [])

/-- The answer of a refused request at the home (R573): poisoned data, Cmp-E or Cmp. -/
def Txn.refusal (t : Txn) (outcome : Nat) (line : Line) : Option Msg :=
  let poisoned (m : Msg) : Msg := { m with data := line, poison := true, fail := true, outcome := outcome }
  match t.cls with
  | .rdS => some (poisoned { op := .memData, metaValue := .S })
  | .rdA => some (poisoned { op := .memData, metaValue := .A })
  | .rdNC => some (poisoned { op := .memData, metaValue := .I })
  | .atom => some (poisoned { op := .atomResult })
  | .invA => some { op := .cmpE, outcome := outcome }
  | .clnI => some { op := .cmp, outcome := outcome }
  | .clnS => some { op := .cmp, outcome := outcome }
  | c => if c.isWrite then some { op := .cmp, fail := decide (t.agent = none), outcome := outcome } else none

/-- A request meets a device in mode SHADOW (R297): it is answered as in step 1 of R69, with no directory change, and a refused read
counts. -/
def standAside (sl : Nat) (t : Txn) (s : State) : State :=
  let r := takeFreeLine s
  let reads := decide (t.cls = .rdS ∨ t.cls = .rdA ∨ t.cls = .rdNC ∨ t.cls = .atom)
  let s1 := if reads then r.2 else s
  match t.refusal 0 r.1 with
  | some m => reply sl t m (if reads && decide (t.device = s.self) then plotCount t.plot 11 1 s1 else s1)
  | none => s1

/-- A request is refused at the home (R82, R573): poisoned data, Cmp-E or Cmp, and no directory change. -/
def refuseTxn (sl i : Nat) (s : State) : State :=
  let t := (s.slice sl).txn i
  let st := s.extState t.pl
  let outcome := if st = .failed then 6 else 5
  let s1 := homeBadAccess sl t outcome s
  let r := takeFreeLine s1
  let s2 := if decide (t.cls = .rdS ∨ t.cls = .rdA ∨ t.cls = .rdNC ∨ t.cls = .atom) then r.2
    else if t.cls.isWrite && decide (st = .failed) then
      logLostWrite sl t.bed (s1.extent (extentOf t.pl)).place.port.toNat (extentOf t.pl) t.line s1.unit s1.now s1
    else s1
  closeTxn sl i (match t.refusal outcome r.1 with
    | some m => reply sl t m s2
    | none => s2)

/-- The home stage of a transaction that holds its pin (R106 to R108, R151, R155). -/
def homeStage (sl i : Nat) (s : State) : State :=
  let x := s.slice sl
  let t0 := x.txn i
  let e0 := x.entry t0.way
  let t1 := { t0 with cls := if t0.cls.isWrite then writeClass t0 e0 else t0.cls, wasM := decide (e0.state = .M),
                      wasO := decide (e0.state = .O) && !t0.newO,
                      park := (Tab.get x.predictor {} (predictorIndex t0.pl)).mode && decide ((s.bed t0.bed).vault ≠ .none) }
  let s1 := modTxn sl i (fun _ => t1) s
  let mover := decide (t1.req = .home)
  if t1.ownOnly && decide (t1.cls = .wrNC) then
    closeTxn sl i (reply sl t1 { op := .cmp, outcome := discarded } (if t1.device = s1.self then plotCount t1.plot 12 1 s1 else s1))
  else if decide (t1.cls = .mig) && !s1.migRuns t1 then closeTxn sl i s1
  else if mover && t1.cls.isWrite && (Tab.find s1.pool.zeroing (extentOf t1.pl)).isNone then closeTxn sl i s1
  else if !mover && !(decide (t1.cls = .clnI ∨ t1.cls = .clnS)) && !s1.served t1.pl then refuseTxn sl i s1
  else
    let fromOwner := decide (e0.state = .M) && (match t1.agent with | some a => e0.ptrs == [a] | none => false)
    let reads := decide (t1.cls = .rdS ∨ t1.cls = .rdA ∨ t1.cls = .invA ∨ t1.cls = .rdNC)
    let s2 := if fromOwner && reads then putEntry sl t1.way (ownedOrShared s1 sl t1.bed t1.pl e0 []) s1 else s1
    let e := (s2.slice sl).entry t1.way
    let a := t1.agent.getD 64
    match t1.cls with
      | .clnI =>
        let e1 := if e.state = .M then (if fromOwner then ownedOrShared s2 sl t1.bed t1.pl e [] else e)
          else if e.state = .I then e else e.remove a
        grantTxn sl i (putEntry sl t1.way e1 s2)
      | .clnS =>
        let e1 := if e.state = .M && fromOwner then ownedOrShared s2 sl t1.bed t1.pl e [a] else e
        grantTxn sl i (putEntry sl t1.way e1 s2)
      | _ =>
        let q := snoopsOf s2 t1 e
        let s3 := if q.2.isEmpty then modTxn sl i (fun y => { y with snoopKind := .cmp }) s2
          else issueSnoops sl i q.1 q.2 s2
        let t := (s3.slice sl).txn i
        if t.waiting.isEmpty then afterSnoops sl i s3
        else modTxn sl i (fun y => { y with phase := .snooping }) s3

/-- A transaction goes on once its last snoop response is in. -/
def responsesIn (sl i : Nat) (s : State) : State :=
  let t := (s.slice sl).txn i
  if !t.waiting.isEmpty then s
  else if t.phase = .evicting then retag sl i s
  else afterSnoops sl i s

end Sys2Proof.Machine
end

