-- ==== Sys2Proof/Machine/HomeSettle.lean ====
section
/-! DEFINITION. The order point's input (R115 to R124, R576): messages that wait for credits, admission, and everything that follows
from one step at a home slice until nothing more can move. -/

namespace Sys2Proof.Machine

/-- The credit pool of requests that a message uses (R119): its station's, the Barrow's, or the internal reserve. -/
def requestCap (k : Nat) : Nat := if k < 16 then 56 else 64

/-- Request credits of a pool that its senders do not have (R119, R123): held by transactions, by messages at the input and by requests on
their way to it, or not returned yet. -/
def State.credits (s : State) (sl k : Nat) : Nat :=
  let x := s.slice sl
  (if 64 ≤ x.overflowCount then Tab.get x.kept 0 k else 0) + x.txnUsed k + (x.input.filter (fun t => t.station == k)).length + ((s.flying sl).filter (fun t => !t.cls.isWrite && t.station == k)).length

/-- An internal reserve entry is free (R119, R576). -/
def State.reserveLeft (s : State) (sl : Nat) : Bool :=
  decide (s.credits sl 26 + ((s.slice sl).wb.filter (fun e => e.2.reserve)).length < 64)

/-- The set of a line is wholly pinned and the line has no entry (R123). -/
def Slice.setFull (x : Slice) (pl : Nat) : Bool := (x.hit pl).isNone && (x.allocWay (dirSetOf pl)).isNone

/-- The order point leaves a message at its input: the overflow queue is full (R123), the mirror lags (R303), the bed is being swept
(R312), or a switchover runs (R313). -/
def State.leftAtInput (s : State) (sl : Nat) (t : Txn) : Bool :=
  let x := s.slice sl
  let own := decide (t.req = .home)
  x.lookupWaits t.pl || (x.admissionHeld && !own) || (t.bed ∈ x.sweeping && !own) || ((s.bed t.bed).async && s.asyncHeld sl && !own) ||
    (x.setFull t.pl && decide (64 ≤ x.overflowCount))

/-- An absorbed write of the recorded owner, or dirty data of a snooped agent, on a pinned line (R117): the open transaction that
takes it. An open MIG takes every other write of its line too that has no agent to snoop (R343); DEDUCED (log 117): one that has to snoop
waits in the line's conflict row, as it may not complete before its snoops do (R107). -/
def State.absorber (s : State) (sl : Nat) (t : Txn) : Option Nat :=
  let x := s.slice sl
  match x.hit t.pl with
  | none => none
  | some w =>
    if (x.entry w).pin = .none ∨ t.io then none
    else match x.openOn t.pl with
      | some i =>
        let e := x.entry w
        let owner := match t.req with
          | .agent a => decide ((e.state = .M ∧ e.ptrs = [a]) ∨ a ∈ (x.txn i).waiting)
          | _ => false
        let beside := decide ((x.txn i).cls = .mig ∧ t.req ≠ .home) && !t.ownOnly && (snoopsOf s { t with cls := .wrNC } e).2.isEmpty
        if owner || beside then some i else none
      | none => none

/-- The entry after the owner's write in another's transaction (R107): by the MetaValue. -/
def absorbEntry (sl : Nat) (t : Txn) (way a : Nat) (s : State) : State :=
  let e := (s.slice sl).entry way
  if e.state = .M ∧ e.ptrs = [a] then
    match t.metaV with
    | .A => s
    | .S => putEntry sl way (ownedOrShared s sl t.bed t.pl e [a]) s
    | _ => putEntry sl way (ownedOrShared s sl t.bed t.pl e []) s
  else s

/-- An absorbed write meets partial data of its line that waits for the line's read (R109): it is merged over what the owner sent before, and
under what another agent's WR_NC writes (R107). The entry follows the owner's own transaction at its end, else at once. -/
def mergeWaiting (sl i p : Nat) (t : Txn) (a : Nat) (s : State) : State :=
  let y := (s.slice sl).wbLine p
  let own := (s.slice sl).txn i
  let under := !y.absorbed && decide (own.cls = .wrNC)
  let d := if under then mergeLine t.data y.data y.mask else mergeLine y.data t.data t.mask
  let mask := y.mask ||| t.mask
  let poison := if t.mask == fullMask && !under then t.poison else y.poisoned || t.poison
  let s1 := modWb sl p (fun w => { w with data := d, mask := mask, poisoned := poison }) s
  if y.absorbed then absorbEntry sl t own.way a s1
  else
    let s2 := modTxn sl i (fun z => { z with data := d, mask := mask, poison := poison, metaV := if under then z.metaV else t.metaV }) s1
    if under then absorbEntry sl t own.way a s2 else s2

/-- An open transaction takes a write as the owner's data (R107, R117), and Cmp is sent at once. A partial line is merged over the
data of R109; where the slice holds none, it waits with its byte enables for the memory device's read. In a pair its Cmp waits for the record
of the merged line, as WB_PENDING names a whole line (R299, R305; log 89). A release keeps the data until its end (R148 step 5), and in a pair
the Cmp with it (R144); data for an
extent that is not served is discarded (R82). A write of no owner that an open MIG takes is put away as a WR_NC is (R343). -/
def absorbWrite (sl i : Nat) (t : Txn) (s : State) : State :=
  let a := t.agent.getD 0
  let base := (s.munit sl).mseq
  let s0 := if t.device = s.self then plotCount t.plot 9 1 s else s
  let full := t.mask == fullMask
  let release := decide (((s.slice sl).txn i).cls = .release)
  let served := s.served t.pl
  let refused : Nat := if served ∨ release then 0 else if s0.extState t.pl = .failed then 6 else 5
  let gone (u : State) : State :=
    modTxn sl i (fun y => { y with gone := if t.metaV = .S ∨ t.metaV = .A then y.gone else y.gone ++ [a] }) u
  let put (d : Line) (p : Bool) (u : State) : State :=
    let e0 := (s.slice sl).entry ((s.slice sl).txn i).way
    let beside := decide (((s.slice sl).txn i).cls = .mig) && !(decide (e0.state = .M) && decide (t.req = .agent a) && decide (e0.ptrs = [a]))
    let r := if release then (u, false) else if beside then (putWrite sl t.pl t.writeCredit d p u, false) else putDirty sl t.bed t.pl t.writeCredit true d p u
    gone (absorbEntry sl t ((r.1.slice sl).txn i).way a (modTxn sl i (fun y => { y with dirty := some (d, p) }) r.1))
  let s1 :=
    if !served && !release then
      let u := homeBadAccess sl t refused s0
      gone (absorbEntry sl t ((u.slice sl).txn i).way a (if s0.extState t.pl = .failed then
        logLostWrite sl t.bed (u.extent (extentOf t.pl)).place.port.toNat (extentOf t.pl) t.line u.unit u.now u else u))
    else match (s0.slice sl).mergingOf t.pl with
      | some p => gone (mergeWaiting sl i p t a s0)
      | none =>
        if full then put t.data t.poison s0
        else match ((s0.slice sl).txn i).dirty with
          | some d => put (mergeLine d.1 t.data t.mask) (t.poison || d.2) s0
          | none => match localSource sl t.pl s0 with
            | some r => put (mergeLine r.1.1 t.data t.mask) (t.poison || r.1.2) r.2
            | none =>
              let u := bufferPartial sl t.pl t.writeCredit true t.data t.mask t.poison s0
              let place := (s0.extent (extentOf t.pl)).place
              gone (absorbEntry sl t ((u.slice sl).txn i).way a
                (if ((s0.slice sl).txn i).phase = .reading then u
                 else toMemory sl place t.pl { op := .memRd } (modTxn sl i (fun y => { y with readFrom := some place, readPl := t.pl }) u)))
  match (if served ∨ release then (s1.slice sl).mergingOf t.pl else none) with
  | some p =>
    if s1.mirroring then modWb sl p (fun y => { y with owedCmps := y.owedCmps ++ [{ t with outcome := refused }] }) s1
    else cmpWrite sl base { t with outcome := refused } s1
  | none =>
    match (if s1.mirroring && release then (s1.slice sl).wb.find? (fun w => decide (w.2.pl = t.pl ∧ w.2.state = .releasing)) else none) with
    | some w => modWb sl w.1 (fun y => { y with owedCmps := y.owedCmps ++ [{ t with outcome := refused }] }) s1
    | none => cmpWrite sl base { t with outcome := refused } s1

/-- Admit a message at the order point (R115, R117): a write that an open transaction absorbs takes no entry. In mode SHADOW a host's
message is answered as in step 1 of R69 (R297). -/
def takeIn (sl : Nat) (t' : Txn) (s : State) : State :=
  let aside := !s.serving && t'.agent.isSome
  let t := if aside && t'.cls.isWrite then { t' with ownOnly := true } else t'
  if t.cls.isWrite then
    match s.absorber sl t with
    | some i => absorbWrite sl i t s
    | none => admitTxn sl t s
  else if aside then standAside sl t s
  else admitTxn sl t s

/-- The messages at the input that the order point may take, by place (R115). -/
def State.candidates (s : State) (sl : Nat) : List Nat :=
  let x := s.slice sl
  (List.range x.input.length).filter (fun k => match x.input[k]? with | some t => !s.leftAtInput sl t | none => false)

/-- The write at the input that the order point takes next (R115 item 1): the oldest. -/
def State.nextWrite (s : State) (sl : Nat) : Option Nat :=
  (s.candidates sl).find? (fun k => (((s.slice sl).input[k]?).getD {}).cls.isWrite)

/-- The other message at the input that the order point takes next (R115 item 3): in rotating order. -/
def State.nextAdmitted (s : State) (sl : Nat) : Option Nat :=
  let x := s.slice sl
  let at' (k : Nat) : Txn := (x.input[k]?).getD {}
  (s.candidates sl).foldl (fun (m : Option Nat) k => match m with
      | none => some k
      | some j =>
        let d (n : Nat) : Nat := ((at' n).position + 131 - x.rotation) % 66
        if d k < d j then some k else m) none

/-- The waiting message that takes a credit now (R119, R120, R192), by its place in the list: writes in arrival order; requests of the
Barrow in arrival order; requests of a station by deficit round robin over the plots that wait. -/
def State.nextCredit (s : State) (sl : Nat) : Option Nat :=
  let x := s.slice sl
  let at' (k : Nat) : Txn := (x.waiting[k]?).getD {}
  let idx := List.range x.waiting.length
  match idx.find? (fun k => (at' k).cls.isWrite && s.writeCreditFree sl (at' k).writeCredit) with
  | some k => some k
  | none =>
    match idx.find? (fun k => !(at' k).cls.isWrite && decide (s.credits sl (at' k).station < requestCap (at' k).station)) with
    | none => none
    | some k =>
      let st := (at' k).station
      if 16 ≤ st then some k
      else
        let mine := idx.filter (fun n => !(at' n).cls.isWrite && (at' n).station == st)
        let last := Tab.get s.switch.drrLast 511 (8 * st + sl)
        mine.foldl (fun (m : Option Nat) n => match m with
          | none => some n
          | some j =>
            let d (q : Nat) : Nat := ((at' q).plot + 511 - last) % 512
            if d n < d j then some n else m) none

/-- A station's credit goes to a waiting request: its plot's deficit takes the weight less one, and plots with nothing waiting
have deficit 0 (R192). -/
def drrTake (sl : Nat) (t : Txn) (s : State) : State :=
  if t.station < 16 then
    let still (p : Nat) : Bool := (s.slice sl).waiting.any (fun u => u.station == t.station && u.plot == p && !u.cls.isWrite)
    let base := 4096 * t.station + 512 * sl
    s.modSwitch (fun w =>
      let d := Tab.get w.deficit 0 (base + t.plot) + (s.qos t.plot).weight.toNat - 1
      { w with drrLast := Tab.set w.drrLast 511 (8 * t.station + sl) t.plot,
               deficit := Tab.set (w.deficit.filter (fun e => decide (e.1 < base ∨ base + 512 ≤ e.1) || still (e.1 - base))) 0
                 (base + t.plot) (if still t.plot then d else 0) })
  else s

/-- The transaction of lowest order in a phase that meets a test. -/
def Slice.first (x : Slice) (f : Nat × Txn → Bool) : Option Nat :=
  ((x.txns.filter f).foldl (fun (m : Option (Nat × Nat)) r => match m with
    | some v => if r.2.order < v.2 then some (r.1, r.2.order) else m
    | none => some (r.1, r.2.order)) none).map (·.1)

/-- The element of a list at a place, and the list without it. -/
def takeAt {α : Type} (l : List α) (k : Nat) : Option (α × List α) := (l[k]?).map (fun v => (v, l.eraseIdx k))

/-- Absorbed data of a line takes a home-work write credit, and its first attempt is made (R576). -/
def takeHomeCredit (sl p : Nat) (s : State) : State :=
  let s1 := modWb sl p (fun y => { y with homeDue := false, station := 26 }) s
  if (s.slice sl).migOpen ((s.slice sl).wbLine p).pl then s1 else attemptWrite sl p s1

/-- A transaction that waited for a write credit goes on (R576). -/
def goOn (sl i : Nat) (s : State) : State :=
  match ((s.slice sl).txn i).atomData with
  | some d => if ((s.slice sl).txn i).cls = .mig then migData sl i d.1 d.2.1 s else runAtomic sl i d.1 d.2.1 d.2.2 s
  | none => afterSnoops sl i s

/-- A transaction that waits for a write credit may go on (R576): one of the home's, or the Barrow's for a line that migrates. -/
def State.creditCame (s : State) (sl : Nat) (t : Txn) : Bool :=
  let x := s.slice sl
  decide (t.phase = .waitWb) && (!t.owed || canBuffer s sl t.pl) && !x.creditDue t.pl && !x.lookupWaits t.pl &&
    (if t.cls = .mig && t.atomData.isSome then s.writeCreditFree sl 24
     else (t.atomData.isNone && !(decide (t.cls = .release) && t.dirty.isSome)) || x.homeCredit)

/-- A message that has its credit goes to its home slice as a cell (R119, R164, R166). -/
def toHome (sl : Nat) (t : Txn) (s : State) : State :=
  enqueueAs t.flit t.known
    { src := t.ingress, dst := 16 + sl, cls := if t.cls.isWrite then clsResponse else clsRequest, length := BitVec.ofNat 8 (HomeMsg.txn t).bytes, plot := some t.plot,
      bed := t.bed, offset := 64 * t.line, home := s.self, agent := t.agent.getD 0, cong := t.cong, items := [.txn t] } s

/-- A request is re-admitted (R123): credits that were not returned while the overflow queue held 64 requests are returned once it holds
fewer. -/
def leaveQueue (sl i : Nat) (s : State) : State :=
  let s1 := modTxn sl i (fun y => { y with phase := .relook }) s
  s1.modSlice sl (fun x => { x with kept := if 64 ≤ x.overflowCount then x.kept else [] })

/-- One move of a slice, if there is one: a home stage, a lookup just admitted, a transaction or a line that waited for a write credit, an
absorbed write, a write, a re-admission, a credit given, or an admission (R115). A release waits at the head of its row for
LINE_RELEASE. -/
def moveOnce (sl : Nat) (s : State) : Option State :=
  let x := s.slice sl
  match x.first (fun r => decide (r.2.phase = .ready ∧ r.2.cls ≠ .release)) with
  | some i => some (homeStage sl i s)
  | none =>
  match x.first (fun r => decide (r.2.phase = .relook) && decide (r.2.fresh = true) && !x.lookupWaits r.2.pl &&
      !(x.setFull r.2.pl && decide (64 ≤ x.overflowCount))) with
  | some i => some (lookupStage sl i (modTxn sl i (fun y => { y with fresh := false }) s))
  | none =>
  match (if x.homeCredit then (x.wb.find? (fun w => w.2.homeDue)).map (·.1) else none) with
  | some p => some (takeHomeCredit sl p s)
  | none =>
  match x.first (fun r => s.creditCame sl r.2) with
  | some i => some (goOn sl i s)
  | none =>
  match x.first (fun r =>
      let v := plOfDir (r.2.way / 16) (x.entry r.2.way).tag.toNat
      decide (r.2.phase = .evicting) && r.2.waiting.isEmpty && (!r.2.owed || canBuffer s sl v) && (x.mergingOf v).isNone && !x.creditDue v) with
  | some i => some (retag sl i s)
  | none =>
  match x.input.findIdx? (fun t => t.cls.isWrite && (s.absorber sl t).isSome && !x.lookupWaits t.pl) with
  | some k => (takeAt x.input k).map (fun r => takeIn sl r.1 (s.modSlice sl (fun y => { y with input := r.2 })))
  | none =>
  match x.work.findIdx? (fun t => t.cls.isWrite && (s.absorber sl t).isSome && !x.lookupWaits t.pl) with
  | some k => (takeAt x.work k).map (fun r => takeIn sl r.1 (s.modSlice sl (fun y => { y with work := r.2 })))
  | none =>
  match (if s.reserveLeft sl then takeAt x.work ((x.work.findIdx? (fun t => t.cls.isWrite)).getD 0) else none) with
  | some r => some (s.modSlice sl (fun y => { y with work := r.2, input := y.input ++ [r.1] }))
  | none =>
  match s.nextWrite sl with
  | some k => (takeAt x.input k).map (fun r => takeIn sl r.1 (s.modSlice sl (fun y => { y with input := r.2 })))
  | none =>
  match x.first (fun r => decide (r.2.phase = .relook ∨ r.2.phase = .overflow) && !x.lookupWaits r.2.pl &&
      !(x.setFull r.2.pl && (decide (r.2.phase = .overflow) || decide (64 ≤ x.overflowCount)))) with
  | some i => some (lookupStage sl i (orderTrace sl i 3 (leaveQueue sl i s)))
  | none =>
  match s.nextCredit sl with
  | some k =>
    match takeAt x.waiting k with
    | some r =>
      let s1 := toHome sl r.1 (s.modSlice sl (fun y => { y with waiting := r.2 }))
      some (if r.1.cls.isWrite then s1 else drrTake sl r.1 s1)
    | none => none
  | none =>
  match s.nextAdmitted sl with
  | some k => (takeAt x.input k).map (fun r => takeIn sl r.1 (s.modSlice sl (fun y => { y with input := r.2 })))
  | none => none

/-- Move a slice on until nothing moves, at most a number of times. -/
def settleN : Nat → Nat → State → State
  | 0, _, s => s
  | n + 1, sl, s => match moveOnce sl s with
    | some t => settleN n sl t
    | none => s

/-- Move a slice on until nothing moves: the bound lies above what 1,024 transactions can do (R124). -/
def settle (sl : Nat) (s : State) : State := settleN 16384 sl s

/-- Move every slice on. -/
def settleAll (s : State) : State := forEach (List.range 8) settle s

/-- A message for a home slice waits at its ingress for a credit, and goes on as a cell once it has it (R119, R120). -/
def arriveAtHome (sl : Nat) (t : Txn) (s : State) : State :=
  settle sl (s.modSlice sl (fun y => { y with waiting := y.waiting ++ [t] }))

/-- A message reaches its slice (R115, R120): a write that an open transaction absorbs is taken at once, another waits for a reserve entry
(R576), a request is at the order point's input. -/
def enterSlice (sl : Nat) (t : Txn) (s : State) : State :=
  settle sl (if t.cls.isWrite then
      (match (if (s.slice sl).lookupWaits t.pl then none else s.absorber sl t) with
        | some i => absorbWrite sl i t s
        | none => s.modSlice sl (fun y => { y with work := y.work ++ [{ t with station := 26 }] }))
    else s.modSlice sl (fun y => { y with input := y.input ++ [t] }))

end Sys2Proof.Machine
end

