-- ==== Sys2Proof/Machine/HomeHost.lean ====
section
/-! DEFINITION. Requests and snoop answers of hosts (R79 to R82, R106 to R118, R150, R188 to R192, R573, R574). -/

namespace Sys2Proof.Machine

/-- Whether a host's CXL.mem message of a class reaches the device on a port (R205, R220, R481): its link is in L0 as CXL, the mode is one in
which they are received, and the station has a free cell of the class, for which it advertises a credit (R169). -/
def State.memReaches (s : State) (port : Nat) (cls : BitVec 2) : Bool :=
  s.fabricOn && (s.port port).upstream && (s.port port).inL0 && (s.port port).cxl && s.queueRoom (port / 8) cls &&
    decide (s.dev.mode = .grow ∨ s.dev.mode = .shadow ∨ s.dev.mode = .fallow)

/-- The station returns credits for one of a port's channels (R190): no hold queue of the port's plots for it is full. A full one holds up
every plot of the port. -/
def State.channelOpen (s : State) (port : Nat) (write : Bool) : Bool :=
  !s.switch.qos.any (fun q => decide ((s.plot q.1).port.toNat = port ∧ 64 ≤ (if write then q.2.writeHeld else q.2.readHeld).length))

/-- A host's request of the M2S Req channel, or of RwD, reaches the device on a port (R169, R190). -/
def State.requestReaches (s : State) (port : Nat) (write : Bool) : Bool :=
  s.memReaches port (if write then clsResponse else clsRequest) && s.channelOpen port write

/-- Whether I/O requests reach the functions of a virtual switch (R169, R220, R481). -/
def State.ioReaches (s : State) (port : Nat) : Bool :=
  s.fabricOn && (s.port port).upstream && (s.port port).inL0 && s.queueRoom (port / 8) clsIo &&
    decide (s.dev.mode = .grow ∨ s.dev.mode = .shadow ∨ s.dev.mode = .fallow)

/-- The port requires IDE and has none (R219). -/
def Port.ideMissing (p : Port) : Bool := p.entry.ideRequired && p.ide != 2

/-- A request is answered as in step 1 of R69: its plot is not ACTIVE (R72), the device does not serve (R297, R484), it is a CXL.mem request
and IDE is missing (R219), its agent is lost (R128), as a whole or for the bed (R70), or viral is signalled (R547). -/
def State.stepOne (s : State) (port plot : Nat) (io : Bool) (bed : Option Nat) : Bool :=
  decide ((s.plot plot).state ≠ .active ∨ s.dev.mode ≠ .grow) || (!io && (s.port port).ideMissing) ||
    (match s.agentOf s.self port with | some a => s.agentLost a || bed.any (s.agentLostAt a) | none => false)

/-- The answer to a refused request (R573): none for a request that gets none. -/
def refusedReply (op : MsgOp) (mf : MetaField) (mv : MetaValue) (hpa : BitVec 64) (line : Line) : Option Msg :=
  match op with
  | .memRd => some { op := .memData, addr := hpa, metaValue := if mf = .noOp then .I else mv, data := line, poison := true, fail := true }
  | .memRdData => some { op := .memData, addr := hpa, metaValue := .S, data := line, poison := true, fail := true }
  | .memInv => some { op := if mv = .A then .cmpE else .cmp, addr := hpa, fail := true }
  | .memWr => some { op := .cmp, addr := hpa, fail := true }
  | .memWrPtl => some { op := .cmp, addr := hpa, fail := true }
  | _ => none

/-- The home, the bed and the offset of a request, where they are known (R80, R165). -/
def HeldReq.at' (r : HeldReq) : Option (Nat × Nat × Nat) := if r.placed then some (r.home, r.bed, r.off) else none

/-- Answer a refused CXL.mem request at the ingress (R82, R184, R573). -/
def refuseMem (r : HeldReq) (plot : Option Nat) (s : State) : State :=
  let v := takeFreeLine s
  match refusedReply r.op r.metaField r.metaValue r.hpa v.1 with
  | some m => ingressRespondAs r.flit r.known r.port plot r.at' m (if m.op = .memData then v.2 else s)
  | none => s

/-- The completion of a refused request to the atomic aperture (R150, R82): an AtomicOp ends in Completer Abort, a read in poison,
a posted write is discarded. -/
def refuseIo (r : HeldReq) (s : State) : State :=
  match r.op with
  | .atom => sendTlpAs r.flit r.known (r.port / 8) r.port 2 { kind := .cpl, status := .abort } (noteAer r.port (18 + r.vppb) true 15 s)
  | .memRd =>
    let v := takeFreeLine s
    sendTlpAs r.flit r.known (r.port / 8) r.port 2 { kind := .cplD, status := .poisoned, data := bytesOf 64 512 v.1 } v.2
  | _ => s

/-- Refuse a request (R82, R573). -/
def refuseHost (r : HeldReq) (plot : Option Nat) (s : State) : State := if r.io then refuseIo r s else refuseMem r plot s

/-- The class of a request (R106). -/
def classOf (op : MsgOp) (mf : MetaField) (mv : MetaValue) : Cls :=
  match op with
  | .memRd => if mf = .noOp then .rdNC else match mv with | .S => .rdS | .A => .rdA | _ => .rdNC
  | .memRdData => .rdS
  | .memInv => match mv with | .A => .invA | .S => .clnS | _ => .clnI
  | .atom => .atom
  | _ => .wrNC

/-- The message is a write. -/
def HeldReq.write (r : HeldReq) : Bool := decide (r.op = .memWr ∨ r.op = .memWrPtl)

/-- Statistics of a request as it goes to its home (R528 0 to 5). -/
def countRequest (r : HeldReq) (s : State) : State :=
  if r.op = .atom then plotCount r.plot 5 1 s
  else if r.op = .memRd ∨ r.op = .memRdData then
    let s1 := plotCount r.plot 1 64 (plotCount r.plot 0 1 s)
    if classOf r.op r.metaField r.metaValue = .rdA then plotCount r.plot 4 1 s1 else s1
  else if r.write then plotCount r.plot 3 (popCount r.mask) (plotCount r.plot 2 1 s)
  else if classOf r.op r.metaField r.metaValue = .invA then plotCount r.plot 4 1 s
  else s

/-- The message of a request on its way to a home on another device (log 24). -/
def HeldReq.msg (r : HeldReq) (ownOnly : Bool) : Msg :=
  { op := r.op, addr := r.hpa, metaValue := if r.metaField = .noOp ∧ r.op = .memRd then .I else r.metaValue, data := r.data,
    mask := r.mask, poison := r.poison, fail := ownOnly, tag := if r.io then 0x10000 else 0,
    atom := if r.op = .atom then some { op := r.atomOp, size := r.size, off := r.off % 64, a := r.a, b := r.b } else none }

/-- The transaction of a request (R106, R115). -/
def HeldReq.txn (r : HeldReq) (s : State) (agent : Nat) (ownOnly : Bool) : Txn :=
  { cls := classOf r.op r.metaField r.metaValue, req := .agent agent, device := s.self, port := r.port, plot := r.plot,
    bed := r.bed, line := r.off / 64, pl := (s.bed r.bed).pl (r.off / 64), hpa := r.hpa,
    station := r.port / 8, ingress := r.port / 8, data := r.data, mask := r.mask, poison := r.poison, op := r.atomOp,
    size := r.size, a := r.a, b := r.b, byteOff := r.off % 64, metaV := r.metaValue, io := r.io,
    arrived := s.time.beats, ownOnly := ownOnly, flit := r.flit, known := r.known }

/-- A device that a request would go to is this one, or a trunk leads to it (R286, R291). -/
def State.reachable (s : State) (dev : Nat) : Bool := dev == s.self || (s.routeTo dev).isSome

/-- Send a request to its home (R35, R92): the slice of R101, or over the trunk. Towards a home that no trunk reaches it is answered as an
unbacked access (R286). -/
def submit (r : HeldReq) (ownOnly : Bool) (s0 : State) : State :=
  let s := if ownOnly then s0 else countRequest r s0
  if r.home = s.self then
    match s.agentOf s.self r.port with
    | some a => arriveAtHome (sliceOf r.bed (r.off / 64)) (r.txn s a ownOnly) s
    | none => refuseHost r (some r.plot) s
  else if !s.reachable r.home then
    badAccess (stationOf r.port) (some r.plot) r.port 4 (s.dpaOf r.plot r.home r.bed (r.off / 64)) (refuseHost r (some r.plot) s)
  else
    let cls := if r.write then clsResponse else clsRequest
    sendTrunkAs r.flit r.known (r.port / 8) cls (vcOf cls (r.port / 8) 0)
      { dstDev := BitVec.ofNat 4 r.home, srcDev := BitVec.ofNat 4 s.self, cls := cls, kind := 0, port := BitVec.ofNat 7 r.port,
        bed := BitVec.ofNat 12 r.bed, line := BitVec.ofNat 36 (r.off / 64), plot := BitVec.ofNat 9 r.plot,
        msg := r.msg ownOnly } s

/-- What a request draws from the read and the write balance (R190). -/
def HeldReq.charge (r : HeldReq) : Nat × Nat :=
  if r.io ∧ r.op ≠ .atom then (0, 0) else if r.op = .atom then (1, 1) else if r.write then (0, 1) else (1, 0)

/-- The balances cover a charge (R190, R191): a cap of 0 is unlimited. -/
def Qos.covers (q : Qos) (c : Nat × Nat) : Bool :=
  decide ((q.readCap = 0 ∨ c.1 ≤ q.readBal.toNat) ∧ (q.writeCap = 0 ∨ c.2 ≤ q.writeBal.toNat))

/-- Draw a charge. -/
def Qos.draw (q : Qos) (c : Nat × Nat) : Qos :=
  { q with readBal := if q.readCap = 0 then q.readBal else q.readBal - BitVec.ofNat 20 c.1,
           writeBal := if q.writeCap = 0 then q.writeBal else q.writeBal - BitVec.ofNat 20 c.2 }

/-- Charge a request to its plot (R190): it goes to its home, or into the plot's hold queue. DESIGN CHOICE (log 110): R190 names no hold queue
for an atomic; one that is held joins the read queue. -/
def chargeAndSubmit (r : HeldReq) (s : State) : State :=
  let q := s.qos r.plot
  let c := r.charge
  let waits := if r.write then !q.writeHeld.isEmpty else !q.readHeld.isEmpty
  if c = (0, 0) then submit r false s
  else if !waits && q.covers c then submit r false (s.modQos r.plot (fun x => x.draw c))
  else
    let s1 := countPort r.port 0x0B 1 s
    if r.write then plotCount r.plot 15 1 (s1.modQos r.plot (fun x => { x with writeHeld := x.writeHeld ++ [r] }))
    else plotCount r.plot 14 1 (s1.modQos r.plot (fun x => { x with readHeld := x.readHeld ++ [r] }))

/-- A request of a plot is refused as in step 1 of R69; its write goes to its home where `toHome` holds. -/
def refuseStepOne (r : HeldReq) (plot : Nat) (toHome : Bool) (s : State) : State :=
  let s1 := if !r.io && (s.port r.port).ideMissing then portEvent r.port s else s
  if r.io then refuseIo r s1
  else if r.write && toHome && s.reachable r.home then submit r true s1
  else refuseMem r (some plot) (if r.op = .memInv then s1 else plotCount plot (if r.write then 12 else 11) 1 s1)

/-- A request that did not reach a backed line (R82): a plot that is not served refuses it as in step 1 of R69 (R72). -/
def missRequest (r : HeldReq) (plot outcome dpa : Nat) (s : State) : State :=
  if s.stepOne r.port plot r.io none then refuseStepOne r plot false s
  else badAccess (stationOf r.port) (some plot) r.port outcome dpa (refuseHost r (some plot) s)

/-- A request with the slot it reached, refused or sent on (R72, R82, R106, R547): `reach` is where R79 and R80 led. -/
def routeRequest (r : HeldReq) (accepted : Bool) (reach : Reach) (s : State) : State :=
  let outcome (n : Nat) : Nat := if accepted then n else 7
  match reach with
  | .noDecoder => badAccess (stationOf r.port) none r.port (outcome 3) r.hpa.toNat (refuseHost r none s)
  | .noWindow p d => missRequest r p (outcome 3) d s
  | .notBacked p d => missRequest r p (outcome 4) d s
  | .backed p h b off =>
    let q := { r with plot := p, home := h, bed := b, off := off, placed := true }
    if !accepted then missRequest q p 7 (s.dpaOf p h b (off / 64)) s
    else if (s.port r.port).viral && r.write then plotCount p 12 1 (refuseHost q (some p) s)
    else if s.stepOne r.port p r.io (if h = s.self then some b else none) then refuseStepOne q p true s
    else if !s.reachable h then missRequest q p 4 (s.dpaOf p h b (off / 64)) s
    else chargeAndSubmit q s

/-- The directly bound LD that an address of a host port reaches (R89, R91): its port, LD-ID and DPA; a whole single logical device has LD-ID 0
(R76). -/
def State.boundAt (s : State) (port : Nat) (hpa : BitVec 64) : Option (Nat × Nat × Nat) :=
  match s.decode port hpa with
  | some d => (s.vppb port d.1).bound.map (fun b => (b.1, if b.2 < 16 then b.2 else 0, d.2))
  | none => none

/-- A message of a host goes to its directly bound LD past the home slices (R89), and its answer is awaited; towards a port that is
down a read is answered with poison and a write with Cmp (R224). DESIGN CHOICE (log 111): R166 names no class for these messages; an answer to
a snoop has the response class, every other one, a MemWr too, the request class. -/
def toBoundLd (r : HeldReq) (b : Nat × Nat × Nat) (s : State) : State :=
  let w := !(decide (r.op = .memRd ∨ r.op = .memRdData))
  let answer := decide (r.op = .rspI ∨ r.op = .rspS ∨ r.op = .rspE ∨ r.op = .biConflict)
  let m : Msg := { op := r.op, addr := r.hpa, metaValue := r.metaValue, data := r.data, mask := r.mask, poison := r.poison, ld := b.2.1 }
  let answered := decide (r.op ≠ .memSpecRd ∧ r.op ≠ .rspI ∧ r.op ≠ .rspS ∧ r.op ≠ .rspE ∧ r.op ≠ .biConflict)
  if (s.port b.1).inL0 then
    enqueueAs r.flit r.known
      { src := r.port / 8, dst := b.1 / 8, egress := b.1, cls := if answer then clsResponse else clsRequest,
        length := BitVec.ofNat 8 m.bytes, msgs := [m] }
      (if answered then s.modPort b.1 (fun p => { p with ldOpen := p.ldOpen ++
        [{ ld := b.2.1, dpa := BitVec.ofNat 64 b.2.2, write := w, host := r.port, hpa := r.hpa,
           flit := if r.known then none else some (r.port / 8, r.flit) }] }) else s)
  else if answered then refuseMem r none s
  else s

/-- A CXL.mem request arrives at an upstream port. One outside the table of R106 is answered as the third row of R82, with
outcome 7. -/
def hostRequest (r0 : HeldReq) (accepted : Bool) (s : State) : State :=
  let s1 := newFlit r0.port (flitIn r0.port 64 s)
  let r : HeldReq := { r0 with flit := s1.flitNow (r0.port / 8) }
  match s1.boundAt r.port r.hpa with
  | some b => if (s1.port r.port).ideMissing then refuseMem r none (portEvent r.port s1) else toBoundLd r b s1
  | none =>
  routeRequest r accepted (s1.reach r.port r.hpa) s1

/-- A read's MetaField, MetaValue and SnpType that R106 accepts: with MetaField No-Op the MetaValue does not matter. -/
def readable (mf : MetaField) (mv : MetaValue) (snpNoOp : Bool) : Bool :=
  snpNoOp && decide (mf = .noOp ∨ mf = .meta0 ∧ mv ≠ .reserved)

/-- What R106 accepts of a MemInv or MemInvNT: a MetaValue, which MetaField No-Op does not carry (log 50). -/
def cleanable (mf : MetaField) (mv : MetaValue) (snpNoOp : Bool) : Bool :=
  snpNoOp && decide (mf = .meta0 ∧ mv ≠ .reserved)

/-- What R106 accepts of a write: a MetaField it names, with a MetaValue it names (log 50). -/
def writable (mf : MetaField) (mv : MetaValue) (snpNoOp : Bool) : Bool :=
  snpNoOp && decide (mf ≠ .reserved ∧ mv ≠ .reserved)

/-- Meaning of MEMRD. -/
def execMemrd (port : Nat) (hpa : BitVec 64) (mf : MetaField) (mv : MetaValue) (snpNoOp : Bool) (s : State) : Out :=
  whenWf s (decide (port < 128)) (onlyIf (s.requestReaches port false)
    (hostRequest { port := port, hpa := hpa, op := .memRd, metaField := mf, metaValue := mv } (readable mf mv snpNoOp)) s)

/-- Meaning of MEMRDDATA. -/
def execMemrddata (port : Nat) (hpa : BitVec 64) (snpNoOp : Bool) (s : State) : Out :=
  whenWf s (decide (port < 128)) (onlyIf (s.requestReaches port false)
    (hostRequest { port := port, hpa := hpa, op := .memRdData, metaValue := .S } snpNoOp) s)

/-- Meaning of MEMINV. MemInvNT acts as MemInv (R106). -/
def execMeminv (port : Nat) (hpa : BitVec 64) (mf : MetaField) (mv : MetaValue) (snpNoOp nt : Bool) (s : State) : Out :=
  whenWf s (decide (port < 128)) (onlyIf (s.requestReaches port false)
    (hostRequest { port := port, hpa := hpa, op := .memInv, metaField := mf, metaValue := mv } (cleanable mf mv snpNoOp)) s)

/-- Meaning of MEMWR. -/
def execMemwr (port : Nat) (hpa : BitVec 64) (mf : MetaField) (mv : MetaValue) (snpNoOp : Bool) (data : Line) (poison : Bool)
    (s : State) : Out :=
  whenWf s (decide (port < 128)) (onlyIf (s.requestReaches port true)
    (hostRequest { port := port, hpa := hpa, op := .memWr, metaField := mf, metaValue := mv, data := data, mask := fullMask,
                   poison := poison } (writable mf mv snpNoOp)) s)

/-- Meaning of MEMWRPTL. -/
def execMemwrptl (port : Nat) (hpa : BitVec 64) (mf : MetaField) (mv : MetaValue) (snpNoOp : Bool) (data : Line)
    (mask : BitVec 64) (poison : Bool) (s : State) : Out :=
  whenWf s (decide (port < 128)) (onlyIf (s.requestReaches port true)
    (hostRequest { port := port, hpa := hpa, op := .memWrPtl, metaField := mf, metaValue := mv, data := data, mask := mask,
                   poison := poison } (writable mf mv snpNoOp)) s)

/-- Meaning of MEMSPECRD: the device discards it (R106, R573). -/
def execMemspecrd (port : Nat) (hpa : BitVec 64) (s : State) : Out :=
  whenWf s (decide (port < 128)) (onlyIf (s.requestReaches port false) (fun t0 =>
    let t := newFlit port (flitIn port 64 t0)
    match t.boundAt port hpa with
    | some b => if (t.port port).ideMissing then t
        else toBoundLd { port := port, hpa := hpa, op := .memSpecRd, flit := t.flitNow (port / 8) } b t
    | none => t) s)

/-- The open transaction that waits for an agent's answer about a line (R110). -/
def Slice.awaits (x : Slice) (a pl : Nat) : Option Nat :=
  x.first (fun r => a ∈ r.2.waiting &&
    (if r.2.phase = .evicting then plOfDir (r.2.way / 16) (x.entry r.2.way).tag.toNat == pl else r.2.pl == pl))

/-- A BIRsp at its home slice (R107, R110, R574): matched to its snoop, or discarded and counted. -/
def snoopAnswer (sl a pl : Nat) (op : MsgOp) (s : State) : State :=
  let x := s.slice sl
  match x.awaits a pl with
  | none => count (16 + sl) 0x0B 1 s
  | some i =>
    let t := x.txn i
    let e := x.entry t.way
    let wrong : Bool := decide ((t.snoopKind = .snpInv ∧ op ≠ .rspI) ∨ (t.snoopKind = .snpData ∧ op = .rspE))
    let s1 := if wrong then count (16 + sl) 0x0B 1 s else s
    let leaves : Bool := decide (op = .rspI ∨ t.snoopKind = .snpInv)
    let s2 := if op = .rspI ∧ t.dirty.isNone ∧ !e.bcast then count (16 + sl) 0x0A 1 s1 else s1
    let s3 := modTxn sl i (fun y => { y with
      waiting := y.waiting.filter (· ≠ a),
      keep := (if leaves then y.keep else y.keep ++ [a]), gone := (if leaves then y.gone ++ [a] else y.gone) }) s2
    settle sl (responsesIn sl i s3)

/-- Answer a BIConflict (R118, R184). -/
def conflictAck (sl a bed line plot : Nat) (hpa : BitVec 64) (s : State) : State :=
  homeToAgent sl a bed line plot clsResponse { op := .biConflictAck, addr := hpa, devload := s.devload sl (some ((s.bed bed).pl line)) } s

/-- A BIRsp or BIConflict arrives at an upstream port (R574, R118). -/
def hostAnswer (port : Nat) (hpa : BitVec 64) (op : MsgOp) (s0 : State) : State :=
  let s := newFlit port (flitIn port 64 s0)
  let toHome (sl bed line plot a : Nat) (m : HomeMsg) (t : State) : State :=
    enqueueCell { src := port / 8, dst := 16 + sl, cls := clsResponse, length := 16, plot := some plot, bed := bed, offset := 64 * line,
                  home := t.self, agent := a, items := [m] } t
  match s.boundAt port hpa with
  | some b => toBoundLd { port := port, hpa := hpa, op := op, flit := s.flitNow (port / 8) } b s
  | none =>
  match s.lineAt port hpa with
  | none => if op = .biConflict then ingressRespond port none none { op := .biConflictAck, addr := hpa } s else s
  | some l =>
    let plot := match s.decode port hpa with | some d => (s.plotAt port d.1).getD 0 | none => 0
    let s1 := if op = .biConflict then plotCount plot 10 1 s else s
    if l.1 = s.self then
      let sl := sliceOf l.2.1 l.2.2
      match s.agentOf s.self port with
      | some a =>
        if op = .biConflict then toHome sl l.2.1 l.2.2 plot a (.conflict a l.2.1 l.2.2 plot hpa) s1
        else toHome sl l.2.1 l.2.2 plot a (.answer a ((s.bed l.2.1).pl l.2.2) op) s1
      | none =>
        if op = .biConflict then ingressRespond port (some plot) (some (l.1, l.2.1, 64 * l.2.2)) { op := .biConflictAck, addr := hpa } s1 else count (16 + sl) 0x0B 1 s1
    else
      sendTrunk (port / 8) clsResponse (vcOf clsResponse (port / 8) 0)
        { dstDev := BitVec.ofNat 4 l.1, srcDev := BitVec.ofNat 4 s.self, cls := clsResponse, kind := 0, port := BitVec.ofNat 7 port,
          bed := BitVec.ofNat 12 l.2.1, line := BitVec.ofNat 36 l.2.2, plot := BitVec.ofNat 9 plot,
          msg := { op := op, addr := hpa } } s1

/-- Meaning of BICONFLICT. -/
def execBiconflict (port : Nat) (hpa : BitVec 64) (s : State) : Out :=
  whenWf s (decide (port < 128)) (onlyIf (s.memReaches port clsResponse) (hostAnswer port hpa .biConflict) s)

/-- Meaning of BIRSPI. -/
def execBirspi (port : Nat) (hpa : BitVec 64) (s : State) : Out :=
  whenWf s (decide (port < 128)) (onlyIf (s.memReaches port clsResponse) (hostAnswer port hpa .rspI) s)

/-- Meaning of BIRSPS. -/
def execBirsps (port : Nat) (hpa : BitVec 64) (s : State) : Out :=
  whenWf s (decide (port < 128)) (onlyIf (s.memReaches port clsResponse) (hostAnswer port hpa .rspS) s)

/-- Meaning of BIRSPE. -/
def execBirspe (port : Nat) (hpa : BitVec 64) (s : State) : Out :=
  whenWf s (decide (port < 128)) (onlyIf (s.memReaches port clsResponse) (hostAnswer port hpa .rspE) s)

/-- The atomic aperture (R150): BAR 2 of a synthesised device, a 64-bit prefetchable memory BAR of 32 TiB. An address beyond it is not an
address of the BAR. -/
def apertureSize : Nat := 2 ^ 45

/-- An offset lies within the aperture (R150). -/
def inAperture (offset : BitVec 64) : Bool := decide (offset.toNat < apertureSize)

/-- The sizes and operations that the aperture accepts (R150). -/
def atomicAccepted (op : AtomOp) (size : Nat) : Bool := size == 4 || size == 8 || (size == 16 && decide (op = .cas))

/-- A request that a function does not support (PCIe; log 83): its AER status says so, and a non-posted one completes as unsupported. -/
def unsupportedIo (port f : Nat) (nonPosted : Bool) (s : State) : State :=
  let s1 := noteAer port f true 20 s
  if nonPosted then sendTlp (port / 8) port 2 { kind := .cpl, status := .unsupported } s1 else s1

/-- A request reaches the atomic aperture of the synthesised device at a vPPB (R150): offset o is synthesised DPA o. -/
def apertureRequest (r0 : HeldReq) (vppb : Nat) (offset : BitVec 64) (s : State) : State :=
  let r : HeldReq := { r0 with flit := s.flitNow (r0.port / 8), vppb := vppb }
  match s.plotAt r.port vppb with
  | none => unsupportedIo r.port (1 + vppb) (!r.write) s
  | some p => routeRequest { r with hpa := offset, io := true } true (s.reachDpa p offset.toNat) s

/-- A request reaches the atomic aperture on a port (R150): no read hold queue of the port, which an atomic would join, is full (R190). -/
def State.apertureReaches (s : State) (port : Nat) : Bool :=
  s.ioReaches port && s.channelOpen port false

/-- Meaning of ATOMICOP. One of a size that the aperture does not accept completes as unsupported; one that is not naturally aligned
is a malformed TLP, which is discarded (log 28). -/
def execAtomicop (port vppb : Nat) (offset : BitVec 64) (op : AtomOp) (size : Nat) (a b : BitVec 128) (s : State) : Out :=
  whenWf s (decide (port < 128) && decide (vppb < 17)) (onlyIf (s.apertureReaches port && inAperture offset) (fun t0 =>
    let t := newFlit port (portCount port 14 1 t0)
    if !atomicAccepted op size then unsupportedIo port (18 + vppb) true t
    else if offset.toNat % size ≠ 0 then noteAer port (18 + vppb) true 18 t
    else apertureRequest { port := port, op := .atom, atomOp := op, size := size, a := a, b := b } vppb offset t) s)

/-- Meaning of APERTURE_READ. -/
def execApertureRead (port vppb : Nat) (offset : BitVec 64) (s : State) : Out :=
  whenWf s (decide (port < 128) && decide (vppb < 17)) (onlyIf (s.apertureReaches port && inAperture offset) (fun t =>
    apertureRequest { port := port, op := .memRd, metaField := .noOp } vppb offset (newFlit port (portCount port 14 1 t))) s)

/-- Meaning of APERTURE_WRITE. -/
def execApertureWrite (port vppb : Nat) (offset : BitVec 64) (data : Line) (mask : BitVec 64) (s : State) : Out :=
  whenWf s (decide (port < 128) && decide (vppb < 17)) (onlyIf (s.apertureReaches port && inAperture offset) (fun t =>
    apertureRequest { port := port, op := .memWrPtl, data := data, mask := mask } vppb offset (newFlit port (portCount port 14 1 t))) s)

end Sys2Proof.Machine
end

