-- ==== Sys2Proof/Machine/HomeDevice.lean ====
section
/-! DEFINITION. Memory devices' answers and the writes of the write buffer to their end (R109, R120, R140 to R149, R342 to R345). -/

namespace Sys2Proof.Machine

/-- The home slice of a pool line (R101). -/
def State.sliceOfPl (s : State) (pl : Nat) : Nat := let b := s.bedOfPl pl; sliceOf b.1 b.2

/-- Remove a write-buffer line. -/
def dropWb (sl p : Nat) (s : State) : State := s.modSlice sl (fun y => { y with wb := Tab.drop y.wb p })

/-- A line's data comes from its memory device, or its read has failed (R109, R224). -/
def memArrived (sl pl : Nat) (data : Line) (poison failed : Bool) (s : State) : State :=
  let x := s.slice sl
  match x.openOn pl with
  | none => s
  | some i =>
    let t := x.txn i
    match x.mergingOf pl with
    | some p =>
      let y := x.wbLine p
      let s1 := dropWb sl p s
      let answer (u : State) : State := forEach y.owedCmps (fun w v => cmpWrite sl (s.munit sl).mseq w v) u
      if !y.absorbed then answer (dataArrived sl i data poison (!failed) s1)
      else
        let d := mergeLine data y.data y.mask
        let bad := y.poisoned || (poison && y.mask != fullMask)
        let r := if t.cls = .release then (s1, false) else putDirty sl (s.bedOfPl pl).1 pl y.station true d bad s1
        let s2 := answer (modTxn sl i (fun z => { z with dirty := some (d, bad) }) r.1)
        if t.phase = .reading then afterSnoops sl i s2 else s2
    | none =>
      if t.phase ≠ .reading then s
      else if t.dirty.isSome then conclude sl i s
      else dataArrived sl i data poison (!failed) s

/-- The first open access of a directly bound LD at an address (R89) is answered by the port's present flit; it leaves the port's list once
that flit's tail status is good (R181). -/
def takeLdOpen (port ld : Nat) (dpa : BitVec 64) (write : Bool) (s : State) : Option (LdOpen × State) :=
  let p := s.port port
  match p.ldOpen.findIdx? (fun o => o.answer.isNone && o.ld == ld && o.dpa == dpa && o.write == write) with
  | some k => (p.ldOpen[k]?).map (fun o => (o, s.modPort port (fun q => { q with
      ldOpen := q.ldOpen.modify k (fun x => { x with answer := some (port / 8, s.flitNow (port / 8)) }) })))
  | none => none

/-- An answer of a directly bound LD goes to its host (R89, R185). -/
def fromBoundLd (port : Nat) (o : LdOpen) (m : Msg) (s : State) : State :=
  let load := max m.devload (s.portLevel port)
  enqueueCell { src := port / 8, dst := o.host / 8, egress := o.host, cls := clsResponse, length := BitVec.ofNat 8 m.bytes,
                devload := BitVec.ofNat 2 load,
                msgs := [{ m with addr := o.hpa, devload := load, poison := m.poison || (s.port o.host).viral }] } s

/-- The line whose read went to a place of a memory device and is still missing (R109): its slice and pool line. A flip (R344) may
have given the place to another extent since. -/
def State.readAt (s : State) (port ld dpa : Nat) : Option (Nat × Nat) :=
  (List.range 8).findSome? (fun sl => ((s.slice sl).txns.find? (fun e => e.2.open' && (match e.2.readFrom with
    | some q => decide (q.port.toNat = port ∧ q.ld.toNat = ld ∧ q.dpa e.2.readPl = dpa)
    | none => false))).map (fun e => (sl, e.2.readPl)))

/-- The write-buffer line of which a write to a place of a memory device is outstanding (R120, R342): its slice and pool line. -/
def State.writeAt (s : State) (port ld dpa : Nat) : Option (Nat × Nat) :=
  (List.range 8).findSome? (fun sl => ((s.slice sl).wb.find? (fun e =>
    let here (q : Place) : Bool := decide (q.port.toNat = port ∧ q.ld.toNat = ld ∧ q.dpa e.2.pl = dpa)
    decide ((e.2.state = .sent ∨ e.2.state = .failed) ∧ (e.2.unit < 0x10000 ∨ e.2.poisonWrite = true)) && ((!e.2.done1 && here e.2.place) ||
      (!e.2.done2 && (match e.2.second with | some q => here q | none => false))))).map (fun e => (sl, e.2.pl)))

/-- Whether messages of memory devices reach the device on a port. -/
def State.deviceReaches (s : State) (port : Nat) : Bool :=
  s.fabricOn && (s.port port).downstream && (s.port port).inL0

/-- A memory device's completion is taken in while its station has cells of the response class free (R169). -/
def State.answerReaches (s : State) (port : Nat) : Bool := s.deviceReaches port && s.queueRoom (port / 8) clsResponse

/-- A memory device's completion goes to its home slice as a cell of the response class (R166). -/
def deviceToHome (port sl : Nat) (m : HomeMsg) (s : State) : State :=
  enqueueCell { src := port / 8, dst := 16 + sl, cls := clsResponse, length := BitVec.ofNat 8 m.bytes, home := s.self, items := [m] } s

/-- Read data of a memory device reaches a home slice (R109); a read that is gone meanwhile takes nothing. -/
def memDataOp (port ld : Nat) (dpa : BitVec 64) (data : Line) (poison : Bool) (s : State) : State :=
  match s.readAt port ld dpa.toNat with
  | none => s
  | some r => settle r.1 (memArrived r.1 r.2 data poison false s)

/-- Meaning of DEVICE_MEMDATA: to the host of a directly bound LD (R89, R185), or to the slice that reads. -/
def execDeviceMemdata (port : Nat) (head : RspHead) (dpa : BitVec 64) (data : Line) (poison : Bool) (s : State) : Out :=
  whenWf s (decide (port < 128) && decide (head.ld < 16)) (onlyIf (s.answerReaches port) (fun t0 =>
    let t := newFlit port (flitIn port 64 t0)
    match takeLdOpen port head.ld dpa false t with
    | some r => fromBoundLd port r.1 { op := .memData, data := data, poison := poison, devload := head.devload.toNat } r.2
    | none => match t.readAt port head.ld dpa.toNat with
      | none => t
      | some r => deviceToHome port r.1 (.memData port head.ld dpa data poison) t) s)

/-- The lines of the vault that wait to be written back for a flush, or because their bed is no longer OWNED, start while credits are
free (R143, R145, R146, R576). A flush that finds its line's write-back started by another waits for that one. -/
def startWaiting (sl : Nat) (s : State) : State :=
  let flushes := s.home.flushes.flatMap (fun f => (f.2.waiting.filter (fun w => w.1 == sl)).map (fun w => (f.1, w.2)))
  let s1 := forEach flushes (fun f t =>
    if ((t.slice sl).vline f.2).state = .dirty then
      let u := startWriteback sl f.2 (some f.1) t
      if ((u.slice sl).vline f.2).state = .dirty then u
      else u.modHome (fun h => { h with flushes := Tab.upd h.flushes {} f.1 (fun j => { j with waiting := j.waiting.filter (· ≠ (sl, f.2)) }) })
    else
      let u := t.modSlice sl (fun x => { x with wb := x.wb.map (fun w =>
        if w.2.vault = some f.2 ∧ ((t.slice sl).vline f.2).state = .writing then (w.1, { w.2 with flushes := w.2.flushes ++ [f.1] }) else w) })
      u.modHome (fun h => { h with flushes := Tab.upd h.flushes {} f.1 (fun j => { j with waiting := j.waiting.filter (· ≠ (sl, f.2)) }) })) s
  forEach (((s1.slice sl).vault.filter (fun v =>
      decide (v.2.state = .dirty) && (v.2.again || s1.policyPassed (s1.bedOfPl (vaultPl v.1 v.2)).1 (v.1 / 16)) &&
      !s1.ownedBed (s1.bedOfPl (vaultPl v.1 v.2)).1)).map (·.1)) (fun i t => startWriteback sl i none t) s1

/-- After a step of the write buffer: lines that waited start, and the slice moves on. -/
def writesMoved (sl : Nat) (s : State) : State := startWaiting sl (settle sl s)

/-- The vault line of a completed write-back (R143, R145, R146). DESIGN CHOICE (log 77): a line marked by a flush with invalidate that
redirty keeps DIRTY keeps the mark, and becomes INVALID when a later write-back of it completes. -/
def vaultWritten (sl i pl : Nat) (s : State) : State :=
  let v := (s.slice sl).vline i
  if v.state ≠ .writing ∨ vaultPl i v ≠ pl then s
  else
    if v.redirty then
      mirrorDirtyAs false sl i (modVline sl i (fun y => { y with
        state := .dirty, age := BitVec.ofNat 10 s.unit, ripe := false, redirty := false, again := !s.ownedBed (s.bedOfPl pl).1 }) s)
    else
      let gone := v.invOnClean || (s.cleanBecomesInvalid (s.bedOfPl pl).1 && s.policyPassed (s.bedOfPl pl).1 (i / 16))
      let s1 := mirrorClean sl i s
      settleOwned sl pl (modVline sl i (fun y => if gone then {} else { y with state := .clean, ripe := false }) s1)

/-- Writes of a line that waited for its MIG to close go out (R343). -/
def migLeft (sl pl : Nat) (s : State) : State :=
  forEach (((s.slice sl).wb.filter (fun w => decide (w.2.pl = pl ∧ w.2.state = .waiting) && !w.2.homeDue)).map (·.1)) (attemptWrite sl) s

/-- A MIG transaction has its line at the target, or the line has failed there: it closes, and writes of the line that waited go
out (R343). -/
def closeMig (sl pl : Nat) (s : State) : State :=
  match (s.slice sl).txns.find? (fun e => decide (e.2.cls = .mig ∧ e.2.pl = pl ∧ e.2.phase = .copying)) with
  | some e => migLeft sl pl (migClosed (extentOf pl) (closeTxn sl e.1 s))
  | none => s

/-- An extent of a plot in SANITIZING has failed: the causing command ends TARGET_FAULTED (R71), and a plot of another device is told so
with the end of its bed's zeroing. -/
def sanitizeFails (ext : Nat) (s0 : State) : State :=
  let inSpan (b : Bed) : Bool := decide (b.base.toNat ≤ ext ∧ ext < b.base.toNat + b.span.toNat)
  let s := s0.modPool (fun p => { p with
    remoteDrains := mapIf (fun r => decide (r.step = 4) && inSpan (s0.bed r.bed)) (fun r => { r with failed := true }) p.remoteDrains })
  forEach (s.plotsWhere (fun p => decide (p.state = .sanitizing))) (fun p t =>
    if (t.plot p).validSlots.any (fun k => decide (k.2.home.toNat = t.self) && inSpan (t.bed k.2.bed.toNat)) then
      t.modPlot p (fun x => { x with drain := x.drain.map (fun d => { d with failed := true }) })
    else t) s

/-- The extents of a run of a bed's positions. -/
def Bed.extents (b : Bed) (lo n : Nat) : List Nat := (List.range n).map (fun i => b.base.toNat + lo + i)

/-- An extent entry that leaves tenancy (R77, R94, R95). -/
def Extent.left (e : Extent) : Extent :=
  if e.state = .bound ∨ e.state = .zeroing then
    if e.zeroed then { e with state := .defined, bed := 0, toBound := false, sanitize := false, leaving := false }
    else { e with state := .zeroing, toBound := false, sanitize := false, leaving := false }
  else if e.state = .migrating then { e with leaving := true }
  else e

/-- A bed whose last extent has left ZEROING returns to FREE (R94), and the command that released it ends (R392). -/
def bedFreed (bed : Nat) (s : State) : State :=
  let b := s.bed bed
  if b.state = .releasing ∧ !(b.extents 0 b.count.toNat).any (fun i => decide ((s.extent i).state = .zeroing ∨ (s.extent i).leaving = true)) then
    finishJob (.bedUndefine bed) (if b.releaseFailed then stFaulted else stDone) [] (s.modBed bed (fun _ => {}))
  else s

/-- Every bed in RELEASING is looked at again (R94). -/
def bedsFreed (s : State) : State := forEach ((s.pool.beds.filter (fun e => decide (e.2.state = .releasing))).map (·.1)) bedFreed s

/-- A zeroing of an extent has failed: a release, a grow or a drain that waits for it notes so (R71, R85, R392). -/
def noteZeroFailure (ext : Nat) (s : State) : State :=
  let inSpan (b : Bed) : Bool := decide (b.base.toNat ≤ ext ∧ ext < b.base.toNat + b.span.toNat)
  let s1 := forEach ((s.pool.beds.filter (fun e => inSpan e.2)).map (·.1)) (fun b t => t.modBed b (fun x =>
    { x with releaseFailed := x.releaseFailed || decide (x.state = .releasing),
             resize := x.resize.map (fun r => { r with failed := r.failed || r.grow }) })) s
  sanitizeFails ext s1

/-- After an extent has left ZEROING or its writing: the command that waited for it ends, and its bed may be free (R94, R392). -/
def afterZeroing (ext : Nat) (failed : Bool) (s : State) : State :=
  bedsFreed (finishJob (.extentClear ext) (if failed then stFaulted else stDone) [] (if failed then noteZeroFailure ext s else s))

/-- An entry in BOUND or MIGRATING becomes FAILED (R77): a plot that sanitises it, or a bed that waits for it, notes so. -/
def extentFails (ext : Nat) (s : State) : State :=
  let e := s.extent ext
  let s1 := (if e.sanitize then sanitizeFails ext s else s).modExtent ext (fun x =>
    { x with state := .failed, mig := {}, sanitize := false, leaving := false })
  if e.leaving then bedsFreed (noteZeroFailure ext s1) else s1

/-- A write of zeros to a line of an extent (R95). -/
def Txn.zeroes (t : Txn) (ext : Nat) : Bool := decide (t.req = .home) && t.cls.isWrite && extentOf t.pl == ext

/-- An extent fails while it is zeroed (R96): its lines of zeros that are still on their way are dropped. -/
def zeroFails (ext : Nat) (s : State) : State :=
  let e := s.extent ext
  let s1 := s.modPool (fun p => { p with zeroing := Tab.drop p.zeroing ext })
  let s2 := s1.modExtent ext (fun x => { x with state := .failed, toBound := false, sanitize := false })
  let s3 := forEach (List.range 8) (fun sl t =>
    let gone := ((t.slice sl).wb.filter (fun w => extentOf w.2.pl == ext && decide (w.2.state ≠ .releasing))).map (·.1)
    let keep (l : List Txn) : List Txn := l.filter (fun r => !r.zeroes ext)
    (forEach gone (fun p u => mirrorIf sl ((u.slice sl).wbLine p).bed ((u.slice sl).wbLine p).line (.wbDone p) (dropWb sl p u)) t).modSlice sl
      (fun x => { x with waiting := keep x.waiting, input := keep x.input, work := keep x.work })) s2
  afterZeroing ext true (logFault 0x13 xbarBarrow e.place.port.toNat e.place.ld.toNat ext 0 0 s3)

/-- LOST_WRITE and what follows it for a line whose write has failed for good (R148 steps 2 to 5): the release transaction enters the
line's conflict row. A line of zeros ends its extent's zeroing instead (R96). -/
def finalFailure (sl p : Nat) (extFails : Bool) (s : State) : State :=
  let y := (s.slice sl).wbLine p
  let ext := extentOf y.pl
  if (Tab.find s.pool.zeroing ext).isSome then mirrored (zeroFails ext) s else
  let s1 := if extFails then mirrored (extentFails ext) s else s
  let s2 := logLostWrite sl y.bed y.place.port.toNat ext y.line y.unit (if y.poisonWrite then s.now else y.failStamp) s1
  let s3 := bedEvents y.bed s2
  let s4 := modWb sl p (fun w => { w with state := .releasing, vault := none, reserve := false, flushes := [] }) s3
  let s5 := s4.modHome (fun h => { h with flushes := h.flushes.map (fun f =>
    if y.flushes.contains f.1 then (f.1, { f.2 with failed := true }) else f) })
  addWork sl (ownWork .release y.pl [] s5) s5

/-- A write to a line has completed everywhere (R120, R143, R147, R148). DESIGN CHOICE (log 78): the final failure of a line whose poison
write completes is taken to be the beat of that completion. -/
def finishWb (sl p : Nat) (s : State) : State :=
  let y := (s.slice sl).wbLine p
  if y.poisonWrite then finalFailure sl p false s
  else if y.migOnly then closeMig sl y.pl (mirrorIf sl y.bed y.line (.wbDone p) (dropWb sl p s))
  else if y.resend then attemptWrite sl p (modWb sl p (fun w => { w with attempts := 0, done1 := false, done2 := false }) s)
  else
    let s1 := mirrorIf sl y.bed y.line (.wbDone p) (dropWb sl p s)
    match y.vault with
    | some i => vaultWritten sl i y.pl s1
    | none => settleOwned sl y.pl s1

/-- End a migration early (R345): the source is BOUND where it was; the command's final receipt is written. Its MIG transactions close, those that
hold no pin yet once they have one (`homeStage`), and writes that waited for one go to the source. -/
def endMigration (ext status : Nat) (targetFails : Bool) (s : State) : State :=
  match Tab.find s.pool.migrations ext with
  | none => s
  | some m =>
    let s1 := s.modPool (fun p => { p with migrations := Tab.drop p.migrations ext })
    let s2 := s1.modExtent ext (fun e =>
      if e.state = .migrating then (if e.leaving then Extent.left { e with state := .bound, mig := {} } else { e with state := .bound, mig := {} })
      else { e with mig := {}, leaving := false })
    let s3 := s2.modExtent m.target (fun e => { e with state := if targetFails then .failed else e.state, zeroed := false })
    let s4 := forEach (List.range 8) (fun sl t =>
      let x := t.slice sl
      let own := (x.wb.filter (fun w => w.2.migOnly && extentOf w.2.pl == ext)).map (·.1)
      let t1 := forEach own (fun p u => closeMig sl (u.slice sl |>.wbLine p).pl (dropWb sl p u)) t
      let both := ((t1.slice sl).wb.filter (fun w => !w.2.migOnly && w.2.second.isSome && extentOf w.2.pl == ext)).map (·.1)
      let t2 := forEach both (fun p u =>
        let u1 := modWb sl p (fun w => { w with second := none, done2 := false }) u
        let w := (u1.slice sl).wbLine p
        if w.state = .sent ∧ w.done1 then finishWb sl p u1 else u1) t1
      let reading := (t2.slice sl).txns.filter (fun r => decide (r.2.cls = .mig) && extentOf r.2.pl == ext && r.2.open')
      let t3 := forEach reading (fun r u => migLeft sl r.2.pl (closeTxn sl r.1 u)) t2
      t3.modSlice sl (fun z => { z with input := z.input.filter (fun r => !(decide (r.cls = .mig) && extentOf r.pl == ext)) })) s3
    bedsFreed (if status = stDone then s4 else finishJob (.migrate ext) status [] s4)

/-- A device has completed a write of a line at a place (R120, R342). -/
def writeDone (sl pl port ld dpa : Nat) (s : State) : State :=
  let x := s.slice sl
  let here (q : Place) : Bool := decide (q.port.toNat = port ∧ q.ld.toNat = ld ∧ q.dpa pl = dpa)
  let cand (w : Nat × WbLine) : Bool := decide (w.2.pl = pl ∧ (w.2.state = .sent ∨ w.2.state = .failed) ∧ (w.2.unit < 0x10000 ∨ w.2.poisonWrite = true))
  let first := x.wb.find? (fun w => cand w && !w.2.done1 && here w.2.place)
  let second := x.wb.find? (fun w => cand w && !w.2.done2 && (match w.2.second with | some q => here q | none => false))
  let fin (p : Nat) (t : State) : State :=
    let w := (t.slice sl).wbLine p
    if w.done1 && (w.second.isNone || w.done2) then finishWb sl p t else t
  match first with
  | some w => fin w.1 (modWb sl w.1 (fun y => { y with done1 := true }) s)
  | none => match second with
    | some w => fin w.1 (modWb sl w.1 (fun y => { y with done2 := true }) s)
    | none => s

/-- A memory device's completion of a write reaches a home slice (R120). -/
def writeCmpOp (port ld : Nat) (dpa : BitVec 64) (s : State) : State :=
  match s.writeAt port ld dpa.toNat with
  | some r => writesMoved r.1 (writeDone r.1 r.2 port ld dpa.toNat s)
  | none => s

/-- Meaning of DEVICE_WRITE_CMP: to the host of a directly bound LD (R89, R185), or to the slice that wrote. -/
def execDeviceWriteCmp (port : Nat) (head : RspHead) (dpa : BitVec 64) (s : State) : Out :=
  whenWf s (decide (port < 128) && decide (head.ld < 16)) (onlyIf (s.answerReaches port) (fun t0 =>
    let t := newFlit port (flitIn port 64 t0)
    match takeLdOpen port head.ld dpa true t with
    | some r => fromBoundLd port r.1 { op := .cmp, devload := head.devload.toNat } r.2
    | none => match t.writeAt port head.ld dpa.toNat with
      | some r => deviceToHome port r.1 (.writeCmp port head.ld dpa) t
      | none => t) s)

/-- An attempt of a write has failed (R147, R148, R345): a retry is due at the next tick boundary; a target side that has failed after
its retries ends the migration, unless its port is lost and the scan of R225 is to end it; a poison write that fails at the source ends the line. -/
def failAttempt (sl p : Nat) (s : State) : State :=
  let y := (s.slice sl).wbLine p
  let ext := extentOf y.pl
  let target := y.done1 && y.second.isSome && !y.done2
  if y.poisonWrite then
    if target then mirrored (endMigration ext stFaulted true) s else finalFailure sl p true (mirrored (endMigration ext stFaulted false) s)
  else if 4 ≤ y.attempts ∧ (y.migOnly ∨ target) ∧ !s.portLost (s.extent ext).mig.port.toNat then mirrored (endMigration ext stFaulted true) s
  else modWb sl p (fun w => { w with state := .failed, since := s.tick, failStamp := s.now }) s

/-- Meaning of WRITE_TIMEOUT. -/
def execWriteTimeout (slice pos : Nat) (s : State) : Out :=
  let y := (s.slice slice).wbLine pos
  whenWf s (decide (slice < 8) && decide (pos < 512)) (onlyIf (s.fabricOn && decide (y.state = .sent ∧ y.since + s.home.writeTimeout ≤ s.tick))
    (fun t => writesMoved slice (failAttempt slice pos t)) s)

/-- The poison write after the last retry (R148 steps 1 and 2): of a MIGRATING extent, to both places (R342). -/
def poisonLine (sl p : Nat) (s : State) : State :=
  let y := (s.slice sl).wbLine p
  let e := s.extent (extentOf y.pl)
  let second := if e.state = .migrating && (s.port e.mig.port.toNat).inL0 then some e.mig else none
  if (s.port y.place.port.toNat).inL0 then
    writePlaces sl y.pl { op := .memWr, data := y.data, poison := true } (y.place :: second.toList)
      (modWb sl p (fun w => { w with state := .sent, poisonWrite := true, done1 := false, done2 := false, second := second, since := s.tick }) s)
  else finalFailure sl p true (mirrored (endMigration (extentOf y.pl) stFaulted false) s)

/-- The release transaction at the head of its row (R148 step 5). -/
def State.releaseHead (s : State) (sl pos : Nat) : Option Nat :=
  let x := s.slice sl
  if (x.wbLine pos).state = .releasing then
    x.first (fun r => decide (r.2.cls = .release ∧ r.2.phase = .ready ∧ r.2.pl = (x.wbLine pos).pl))
  else none

/-- Meaning of LINE_RELEASE. -/
def execLineRelease (slice pos : Nat) (s : State) : Out :=
  whenWf s (decide (slice < 8) && decide (pos < 512)) (onlyIf s.fabricOn (fun t => match t.releaseHead slice pos with
    | some i => writesMoved slice (homeStage slice i t)
    | none => t) s)

/-- Meaning of OVERFLOW_READMIT: the oldest queued request whose set has an unpinned way again is looked up afresh, in its rank at the
order point (R115, R123). -/
def execOverflowReadmit (slice : Nat) (s : State) : Out := whenWf s (decide (slice < 8)) (onlyIf s.fabricOn (settle slice) s)

/-- The sets of a vault bank that hold a line, within a stretch of the bank. -/
def Slice.vaultSets (x : Slice) (lo hi : Nat) : List Nat :=
  ((x.vault.map (fun e => e.1 / 16)).dedup).filter (fun n => decide (lo ≤ n ∧ n < hi))

/-- The sets that a scan at one set per FCLK cycle has read once this beat is over (R135): two in each beat from its start on. -/
def State.setsRead (s : State) (start : Nat) : Nat := min 4096 (2 * (s.time.beats + 1 - start))

/-- A pass of a bank's ripener begins (R142): DIRTY lines left ripe by an earlier pass start first, lowest set first, while credits are
free. -/
def ripenStart (sl : Nat) (s : State) : State :=
  let early := ((s.slice sl).vault.filter (fun e => decide (e.2.state = .dirty) && e.2.ripe)).map (·.1)
  writesMoved sl (forEach early (fun i t => startWriteback sl i none t)
    (s.modSlice sl (fun x => { x with ripStart := s.time.beats, ripSets := 0 })))

/-- The ripener of a bank reads sets `lo` to `hi - 1` (R142): a DIRTY line that has come of age becomes ripe, and its write-back starts
while a credit is free. -/
def ripen (lo hi sl : Nat) (s : State) : State :=
  let s0 := forEach ((s.slice sl).vaultSets lo hi) (checkVaultSet sl) s
  let due (e : Nat × VaultLine) : Bool :=
    decide (lo ≤ e.1 / 16 ∧ e.1 / 16 < hi) && decide (e.2.state = .dirty) && !e.2.ripe &&
      decide ((s.bed (s.bedOfPl (vaultPl e.1 e.2)).1).ripen.toNat ≤ (s.unit + 1024 - e.2.age.toNat) % 1024)
  let l := ((s0.slice sl).vault.filter due).map (·.1)
  let s1 := forEach l (fun i t => startWriteback sl i none (modVline sl i (fun v => { v with ripe := true }) t)) s0
  (if l.isEmpty then s1 else writesMoved sl s1).modSlice sl (fun x => { x with ripSets := hi })

/-- The ripeners read on to where they stand at this beat (R135, R142). -/
def ripeners (s : State) : State :=
  if !s.serving then s
  else forEach ((List.range 8).filter (fun sl => decide ((s.slice sl).ripSets < s.setsRead (s.slice sl).ripStart)))
    (fun sl t => ripen (t.slice sl).ripSets (t.setsRead (t.slice sl).ripStart) sl t) s

/-- A flush scans sets `lo` to `hi - 1` of one bank (R145): DIRTY lines of its beds start or wait for a credit; lines already WRITING count;
with invalidate, CLEAN ones go. -/
def flushBank (job lo hi sl : Nat) (s0 : State) : State :=
  let s := forEach ((s0.slice sl).vaultSets lo hi) (checkVaultSet sl) s0
  let f := Tab.get s.home.flushes {} job
  let mine (e : Nat × VaultLine) : Bool := decide (lo ≤ e.1 / 16 ∧ e.1 / 16 < hi) && (match f.bed with
    | none => true
    | some b => decide ((s.bedOfPl (vaultPl e.1 e.2)).1 = b))
  let dirty := ((s.slice sl).vault.filter (fun e => mine e && decide (e.2.state = .dirty))).map (·.1)
  let writing := ((s.slice sl).vault.filter (fun e => mine e && decide (e.2.state = .writing))).map (·.1)
  let clean := ((s.slice sl).vault.filter (fun e => mine e && decide (e.2.state = .clean))).map (·.1)
  let mark (i : Nat) (t : State) : State := if f.invalidate then modVline sl i (fun v => { v with invOnClean := true }) t else t
  let s1 := forEach writing (fun i t => mark i (t.modSlice sl (fun x => { x with wb := x.wb.map (fun w =>
    if w.2.vault = some i then (w.1, { w.2 with flushes := w.2.flushes ++ [job] }) else w) }))) s
  let s2 := forEach dirty (fun i t =>
    let t1 := startWriteback sl i (some job) (mark i t)
    if ((t1.slice sl).vline i).state = .dirty then
      t1.modHome (fun h => { h with flushes := Tab.upd h.flushes {} job (fun j => { j with waiting := j.waiting ++ [(sl, i)] }) })
    else t1) s1
  if f.invalidate then forEach clean (fun i t => modVline sl i (fun _ => {}) t) s2 else s2

/-- A flush starts (R145). -/
def startFlush (f : Flush) (s : State) : State :=
  let job := s.home.nextFlush
  s.modHome (fun h => { h with flushes := Tab.put h.flushes job { f with since := s.tick, start := s.time.beats }, nextFlush := job + 1 })

/-- The flushes' scans read on to where they stand at this beat (R135, R145). -/
def flushScans (s : State) : State :=
  forEach ((s.home.flushes.filter (fun f => decide (f.2.scanned < s.setsRead f.2.start))).map (·.1)) (fun job t =>
    let f := Tab.get t.home.flushes {} job
    let hi := t.setsRead f.start
    settleAll ((forEach (List.range 8) (flushBank job f.scanned hi) t).modHome (fun h =>
      { h with flushes := Tab.upd h.flushes {} job (fun j => { j with scanned := hi }) }))) s

/-- A flush has ended (R135, R145): its scan of two ticks is over and every write-back it started has completed or failed. -/
def State.flushEnded (s : State) (job : Nat) : Bool :=
  (Tab.find s.home.flushes job).isSome && (Tab.get s.home.flushes {} job).waiting.isEmpty &&
    decide (4096 ≤ (Tab.get s.home.flushes {} job).scanned) &&
    !(List.range 8).any (fun sl => (s.slice sl).wb.any (fun w => w.2.flushes.contains job))

/-- The policy scan of a bed in sets `lo` to `hi - 1` of one bank (R146): each valid line it visits, of
whichever bed, costs an extent-table lookup. -/
def policyBank (bed lo hi sl : Nat) (s0 : State) : State :=
  let s := forEach ((s0.slice sl).vaultSets lo hi) (checkVaultSet sl) s0
  let mine (e : Nat × VaultLine) : Bool := decide (lo ≤ e.1 / 16 ∧ e.1 / 16 < hi) && decide ((s.bedOfPl (vaultPl e.1 e.2)).1 = bed)
  let dirty := ((s.slice sl).vault.filter (fun e => mine e && decide (e.2.state = .dirty))).map (·.1)
  let clean := ((s.slice sl).vault.filter (fun e => mine e && decide (e.2.state = .clean))).map (·.1)
  let b := s.bed bed
  let visited := (s.slice sl).vault.filter (fun e => decide (lo ≤ e.1 / 16 ∧ e.1 / 16 < hi) && decide (e.2.state ≠ .invalid))
  let seen := forEach visited (fun v t => extentLookup (16 + sl) (vaultPl v.1 v.2) t) s
  let s1 := if b.vault ≠ .owned then forEach dirty (fun i t => startWriteback sl i none t) seen else seen
  if b.vault = .none then forEach clean (fun i t => modVline sl i (fun _ => {}) t) s1 else s1

/-- The policy scans read on to where they stand at this beat (R135, R146). -/
def policyScans (s : State) : State :=
  forEach ((s.pool.beds.filter (fun b => !b.2.policyScan.isEmpty && decide (b.2.policySets < s.setsRead b.2.policyStart))).map (·.1))
    (fun bed t =>
      let b := t.bed bed
      let hi := t.setsRead b.policyStart
      settleAll ((forEach (List.range 8) (policyBank bed b.policySets hi) t).modBed bed (fun x => { x with policySets := hi }))) s

/-- The policy scan of a bed has ended (R135, R146): two ticks have passed and, where the bed is no longer OWNED, none of its lines
waits in DIRTY to be written back. -/
def State.policyScanned (s : State) (bed : Nat) : Bool :=
  let b := s.bed bed
  !b.policyScan.isEmpty && decide (4096 ≤ b.policySets) && (decide (b.vault = .owned) ||
    (List.range 8).all (fun sl => (s.slice sl).vault.all (fun e =>
      decide (e.2.state ≠ .dirty ∨ (s.bedOfPl (vaultPl e.1 e.2)).1 ≠ bed))))

/-- Meaning of POLICY_SCAN_COMPLETE. -/
def execPolicyScanComplete (bed : Nat) (s : State) : Out :=
  whenWf s (decide (bed < 4096)) (onlyIf (s.fabricOn && s.policyScanned bed)
    (fun t => finishJob (.policy bed) stDone [] (t.modBed bed (fun b => { b with policyScan := [] }))) s)

/-- A device's report while writes may be open (R227): whether it fails an open write of a line. -/
def reportFails (r : DeviceReport) (dpa : Nat) : Bool :=
  match r with
  | .viral => true
  | .errFatal => true
  | .errNonfatal (some d) => decide (d.toNat / 64 = dpa / 64)
  | .errNonfatal none => false
  | .errCor => false
  | .ldReset => true

/-- The open writes towards a device that a report names fail (R147, R227). -/
def failReported (port ld : Nat) (r : DeviceReport) (s : State) : State :=
  forEach (List.range 8) (fun sl t =>
    let hit (w : WbLine) : Bool :=
      let at' (q : Place) : Bool := decide (q.port.toNat = port ∧ q.ld.toNat = ld) && reportFails r (q.dpa w.pl)
      decide (w.state = .sent) && ((!w.done1 && at' w.place) || (!w.done2 && (match w.second with | some q => at' q | none => false)))
    writesMoved sl (forEach (((t.slice sl).wb.filter (fun w => hit w.2)).map (·.1)) (failAttempt sl) t)) s

/-- Meaning of DEVICE_ERROR_REPORT. -/
def execDeviceErrorReport (port ld : Nat) (report : DeviceReport) (s : State) : Out :=
  whenWf s (decide (port < 128) && decide (ld < 16)) (onlyIf (s.deviceReaches port) (failReported port ld report) s)

end Sys2Proof.Machine
end

