-- ==== Sys2Proof/Machine/HomeLoss.lean ====
section
/-! DEFINITION. Losing an agent (R125 to R128, R577) and retiring an agent ID (R572). -/

namespace Sys2Proof.Machine

/-- Requests on their way to a slice through the switch core are taken out of their cells. -/
def dropFlying (sl : Nat) (p : Txn → Bool) (s : State) : State :=
  let left (c : SwCell) : SwCell :=
    { c with items := c.items.filter (fun m => match m with | .txn t => !p t | _ => true) }
  let cut (l : List SwCell) : List SwCell :=
    (mapIf (fun c => c.dst == 16 + sl) left l).filter (fun c => !(c.dst == 16 + sl && c.items.isEmpty))
  s.modSwitch (fun w => { w with voq := cut w.voq, formed := cut w.formed, inbox := cut w.inbox })

/-- Snoops to a lost agent complete at once (R126), and its own open requests are to close without a response (R128). Credits of
those that waited are returned once the overflow queue holds fewer than 64 (R123). -/
def loseOnSlice (a sl : Nat) (s : State) : State :=
  let mine (t : Txn) : Bool := decide (t.req = .agent a) && !t.cls.isWrite
  let queued (e : Nat × Txn) : Bool := mine e.2 && decide (e.2.phase = .rowed ∨ e.2.phase = .overflow ∨ e.2.phase = .relook)
  let keep (x : Slice) : Slice :=
    let freed := (x.txns.filter queued).map (·.2) ++ x.input.filter mine
    { x with kept := if 64 ≤ x.overflowCount then freed.foldl (fun m t => Tab.set m 0 t.station (Tab.get m 0 t.station + 1)) x.kept else x.kept }
  let s0 := (dropFlying sl mine s).modSlice sl (fun y => let x := keep y; { x with
    waiting := x.waiting.filter (fun t => !mine t),
    input := x.input.filter (fun t => !mine t),
    txns := (x.txns.filter (fun e => !queued e)).map (fun e => if mine e.2 then (e.1, { e.2 with lostReq := true }) else e) })
  let s0 := s0.modSlice sl (fun x => { x with kept := if 64 ≤ x.overflowCount then x.kept else [] })
  let open' := ((s0.slice sl).txns.filter (fun e => a ∈ e.2.waiting)).map (·.1)
  settle sl (forEach open' (fun i t =>
    responsesIn sl i (modTxn sl i (fun y => { y with waiting := y.waiting.filter (· ≠ a) }) (lostAnswer sl i a t))) s0)

/-- An agent is lost (R125): requests of its port that wait in hold queues are discarded (R128). `hard` marks a loss by a snoop
timeout or viral, whose link the device holds down (R577). -/
def loseAgent (a : Nat) (hard : Bool) (s : State) : State :=
  if !(s.agent a).valid ∨ s.agentLost a then s
  else
    let x := s.agent a
    let s1 := s.modAgent a (fun y => { y with lost := true, lossDue := true, hardLoss := hard })
    forEach (List.range 8) (loseOnSlice a) s1

/-- Requests of a host port in hold queues are discarded (R128). -/
def dropHeld (port : Nat) (s : State) : State :=
  let keep (l : List HeldReq) : List HeldReq := l.filter (fun r => r.port ≠ port)
  forEach (s.plotsWhere (fun p => decide (p.port.toNat = port))) (fun p t =>
    t.modQos p (fun q => { q with readHeld := keep q.readHeld, writeHeld := keep q.writeHeld })) s

/-- The agents of this home behind a port of a device, retiring ones apart. -/
def State.agentsOfPort (s : State) (device port : Nat) : List Nat :=
  (s.pool.agents.filter (fun e => e.2.valid && !e.2.retiring && decide (e.2.device.toNat = device ∧ e.2.port.toNat = port))).map (·.1)

/-- CXL.io that is queued towards a host whose link has left L0 is discarded (R226). -/
def dropIoTowards (port : Nat) (s : State) : State :=
  let keep (c : SwCell) : Bool := !(c.dst == port / 8 && c.egress == port && c.cls == clsIo)
  s.modSwitch (fun x => { x with holding := x.holding.filter keep, staging := x.staging.filter keep, voq := x.voq.filter keep, formed := x.formed.filter keep })

/-- An upstream port leaves L0 (R125 to R128, R66, R226, R547): its agent is lost, its ACTIVE plots take a fault and raise their
events. -/
def upstreamDown (port : Nat) (hard : Bool) (s : State) : State :=
  let s1 := s.modPort port (fun p => { p with
    ltssm := .detect, rate := 0, width := 0, l0pWidth := 0, flit := false, cxl := false, downCount := satAdd p.downCount 1,
    held := hard, heldTick := s.tick, viral := false, active128 := false, pending128 := false, ide := 0, ideStore := [] })
  let s2 := dropIoTowards port (dropHeld port (portCount port 15 1 s1))
  let s3 := forEach (s2.plotsWhere (fun p => decide (p.port.toNat = port ∧ p.state = .active))) (fun p t =>
    plotEvent p (t.modPlot p (fun x => { x with fault := true }))) s2
  forEach (s3.agentsOfPort s3.self port) (fun a t => loseAgent a hard t) s3

/-- The device takes a host link down (R577). -/
def takeLinkDown (port : Nat) (s : State) : State := if (s.port port).inL0 then upstreamDown port true s else s

/-- Meaning of UPSTREAM_LINK_DOWN. -/
def execUpstreamLinkDown (port : Nat) (s : State) : Out :=
  whenWf s (decide (port < 128)) (onlyIf (s.fabricOn && (s.port port).upstream && (s.port port).inL0) (mirrored (upstreamDown port false)) s)

/-- A snoop has had no response within the snoop timeout (R125): the agent is lost, and its link is taken down. DESIGN CHOICE (log 79): the
spec gives no record by which the link of an agent on another fabric device is taken down; such an agent is only marked as lost. -/
def snoopTimedOut (a : Nat) (s : State) : State :=
  let x := s.agent a
  let s1 := loseAgent a true s
  if x.device.toNat = s.self then takeLinkDown x.port.toNat s1 else s1

/-- Meaning of SNOOP_TIMEOUT. -/
def execSnoopTimeout (slice txn agent : Nat) (s : State) : Out :=
  let t := (s.slice slice).txn txn
  whenWf s (decide (slice < 8) && decide (txn < 1024) && decide (agent < 64)) (onlyIf (s.fabricOn && decide (agent ∈ t.waiting ∧
    t.snooped + s.dev.snoopTimeout.toNat ≤ s.tick)) (mirrored (snoopTimedOut agent)) s)

/-- A scan reads one entry of a slice (R69, R127, R572): one that a transaction pins is left to it where the scan resolves a lost or a
retiring agent. -/
def scanEntry (k : ScanKind) (sl i : Nat) (s : State) : State :=
  let e := (s.slice sl).entry i
  let pl := plOfDir (i / 16) e.tag.toNat
  let bed := (s.bedOfPl pl).1
  let atClose (f : Txn → Txn) : State :=
    s.modSlice sl (fun x => { x with txns := x.txns.map (fun t => if t.2.open' && t.2.way == i then (t.1, f t.2) else t) })
  match k with
  | .loss a =>
    if !s.agentLostAt a bed then s
    else if e.pin ≠ .none then atClose (fun t => { t with lostAt := t.lostAt ++ [a] })
    else if e.bcast || !e.ptrs.contains a then s
    else if e.state = .M then addWork sl (ownWork .sweep pl [a] s) s
    else putEntry sl i (e.remove a) s
  | .retire ids =>
    if e.pin ≠ .none then atClose (fun t => { t with retiredAt := t.retiredAt ++ ids })
    else forEach (e.ptrs.filter (fun a => ids.contains a)) (fun a v => dropAgent sl i a v) s
  | .sweep a beds =>
    if decide (e.state ≠ .I) && (e.bcast || e.ptrs.contains a) && beds.contains bed then addWork sl (ownWork .sweep pl [a] s) s else s
  | .recall => if e.state = .I then s else addWork sl (ownWork .sweep pl (e.holders (s.bed bed)) s) s

/-- The entries that a scan at one entry per FCLK cycle has read once this beat is over (R127): two in each beat from its start on. -/
def State.entriesRead (s : State) (d : DirScan) : Nat := min (2 ^ 20) (2 * (s.time.beats + 1 - d.start))

/-- A scan reads on in one slice, up to where it stands in this beat. -/
def scanSlice (d : DirScan) (hi sl : Nat) (s : State) : State :=
  let l := ((s.slice sl).dir.filter (fun e => decide (d.pos ≤ e.1 ∧ e.1 < hi))).map (·.1)
  if l.isEmpty then s else settle sl (forEach l (scanEntry d.kind sl) s)

/-- The directory scans read on to where they stand in this beat (R69, R127, R572). -/
def dirScans (s : State) : State :=
  let s1 := forEach s.home.scans (fun d t => forEach (List.range 8) (scanSlice d (t.entriesRead d)) t) s
  if s.home.scans.isEmpty then s
  else s1.modHome (fun h => { h with scans := (h.scans.map (fun d => { d with pos := s1.entriesRead d })).filter (fun d => decide (d.pos < 2 ^ 20)) })

/-- A scan of every slice's directory begins. -/
def startDirScan (k : ScanKind) (s : State) : State :=
  s.modHome (fun h => { h with scans := h.scans ++ [{ kind := k, start := s.time.beats }] })

/-- A scan still reads. -/
def State.scanRuns (s : State) (p : ScanKind → Bool) : Bool := s.home.scans.any (fun d => p d.kind)

/-- LOSS_SCAN_START (R127): at the first tick boundary after the loss, each slice starts its scan. -/
def lossScanOp (a : Nat) (s : State) : State :=
  startDirScan (.loss a) (s.modAgent a (fun y => { y with lossDue := false, lossScan := List.range 8, lossStart := s.tick }))

/-- A slice has no work left of the scan of a lost agent. -/
def Slice.scanClear (x : Slice) (a : Nat) : Bool :=
  let mine (t : Txn) : Bool := decide (t.cls = .sweep ∧ t.targets = [a])
  !(x.work.any mine || x.input.any mine || x.txns.any (fun e => mine e.2))

/-- LOSS_SCAN_COMPLETE (R128): the slice raises its event; when all are done the agent is served again, holding nothing. -/
def lossScanDone (sl a : Nat) (s : State) : State :=
  let left := (s.agent a).lossScan.filter (· ≠ sl)
  let on (y : Agent) : Bool := y.lossDue || !left.isEmpty
  raise (208 + sl) (s.modAgent a (fun y => { y with
    lossScan := left, lost := y.lost && on y, hardLoss := y.hardLoss && on y, lossBeds := if on y then y.lossBeds else [] }))

/-- Meaning of LOSS_SCAN_COMPLETE. -/
def execLossScanComplete (slice agent : Nat) (s : State) : Out :=
  whenWf s (decide (slice < 8) && decide (agent < 64)) (onlyIf (s.fabricOn && decide (slice ∈ (s.agent agent).lossScan ∧ (s.agent agent).lossStart + 512 ≤ s.tick) &&
    !s.scanRuns (fun k => decide (k = .loss agent)) && (s.slice slice).scanClear agent) (lossScanDone slice agent) s)

/-- A held port may train again (R577): every loss scan of its agent is done, or where none ran a tick boundary has passed. -/
def State.mayReturn (s : State) (port : Nat) : Bool :=
  (s.port port).held && !(s.agentsOfPort s.self port).any s.agentLost && decide ((s.port port).heldTick < s.tick)

/-- Meaning of UPSTREAM_LINK_RETURN. -/
def execUpstreamLinkReturn (port : Nat) (s : State) : Out :=
  whenWf s (decide (port < 128)) (onlyIf (s.fabricOn && (s.port port).upstream && s.mayReturn port)
    (fun t => t.modPort port (fun p => { p with held := false, ltssm := .polling })) s)

/-- The agent IDs that retired before this tick boundary (R572). -/
def State.passIds (s : State) : List Nat :=
  (s.pool.agents.filter (fun e => e.2.valid && e.2.retiring && decide (e.2.retireTick < s.tick))).map (·.1)

/-- RETIREMENT_PASS_START (R572): a full pass of every slice begins at the first tick boundary after a retirement, and serves every ID that
retired before it. -/
def retirePass (s : State) : State :=
  let ids := s.passIds
  let s1 := forEach ids (fun a t => t.modAgent a (fun y => { y with inPass := true })) s
  startDirScan (.retire ids) (s1.modPool (fun p => { p with
    retireDue := p.agents.any (fun e => e.2.valid && e.2.retiring && !ids.contains e.1), retireScan := true, retireStart := s.tick }))

/-- RETIREMENT_PASS_END (R75, R572): IDs whose retirement the whole pass covered become free; another pass is due for those that
retired since. -/
def retireEnd (s : State) : State :=
  s.modPool (fun p =>
    let left := p.agents.filter (fun e => !(e.2.retiring && e.2.inPass))
    { p with agents := left, retireScan := false, retireDue := left.any (fun e => e.2.retiring) })

end Sys2Proof.Machine
end

