-- ==== Sys2Proof/Machine/PoolOps.lean ====
section
/-! DEFINITION. Agents and mappings (R65, R75, R572), extents that leave tenancy and their zeroing (R94 to R96), and the capacity
offered to hosts (R85 to R88). -/

namespace Sys2Proof.Machine

/-- The lowest agent ID that is free (R75): a retiring one is not. -/
def State.freeAgent (s : State) : Option Nat := (List.range 64).find? (fun a => !(s.agent a).valid)

/-- The agent of a (device, upstream port) pair, assigned if it has none (R75); none where a 65th would be needed. -/
def ensureAgent (device port : Nat) (s : State) : Option (Nat × State) :=
  match s.agentOf device port with
  | some a => some (a, s)
  | none => match s.freeAgent with
    | some a => some (a, s.modAgent a (fun _ => { valid := true, device := BitVec.ofNat 4 device, port := BitVec.ofNat 7 port }))
    | none => none

/-- The devices whose plots map a bed are told whether more than one plot maps it, where that has changed (R84; log 90). -/
def tellShared (bed : Nat) (was : Bool) (s : State) : State :=
  let now := decide (1 < (s.bed bed).mapCount.toNat)
  if now = was then s else forEach (s.bed bed).remote (fun r t => sendMgmt r.1 (.shared bed r.2 now) t) s

/-- A plot of a device maps a bed of this home (R65, R73, R75). -/
def mapAtHome (bed device port : Nat) (s : State) : Option State :=
  match ensureAgent device port s with
  | none => none
  | some (a, s1) =>
    let s2 := tellShared bed (decide (1 < (s.bed bed).mapCount.toNat)) (s1.modBed bed (fun b => { b with mapCount := b.mapCount + 1 }))
    some (s2.modBed bed (fun b => { b with
      sharers := b.sharers ||| (1#64 <<< a), remote := if device = s.self then b.remote else b.remote ++ [(device, port)] }))

/-- An extent lies among the positions in use of its bed (R73). -/
def State.inBed (s : State) (ext : Nat) : Bool :=
  s.pool.beds.any (fun e => decide (e.2.state = .defined ∧ e.2.base.toNat ≤ ext ∧ ext < e.2.base.toNat + e.2.count.toNat))

/-- An extent joins a bed that grows (R85). -/
def State.growing (s : State) (ext : Nat) : Bool :=
  s.pool.beds.any (fun e => match e.2.resize with
    | some r => r.grow && decide (e.2.base.toNat + e.2.count.toNat ≤ ext ∧
        ext < e.2.base.toNat + e.2.count.toNat + r.sets * 2 ^ e.2.ways.toNat)
    | none => false)

/-- A write of a line of an extent is outstanding to its place (R344). -/
def State.placeBusy (s : State) (ext : Nat) : Bool :=
  let p := (s.extent ext).place
  (List.range 8).any (fun sl => (s.slice sl).wb.any (fun w => decide (w.2.place = p ∨ w.2.second = some p)))

/-- An extent waits for a place among the 16 (R95): one with zeroed 1 is not written again. -/
def State.zeroWaits (s : State) (ext : Nat) : Bool :=
  let e := s.extent ext
  (decide (e.state = .zeroing) || decide (e.state = .bound) && e.sanitize) && !e.zeroed && (Tab.find s.pool.zeroing ext).isNone && !s.placeBusy ext

/-- The extent that starts next (R95): the lowest index that waits, while one of the 16 places is free. -/
def State.nextZero (s : State) : Option Nat :=
  if s.pool.zeroing.length < 16 then (s.pool.extents.find? (fun e => s.zeroWaits e.1)).map (·.1) else none

/-- An extent starts being written (R95). -/
def zeroStart (ext : Nat) (s : State) : State := s.modPool (fun p => { p with zeroing := Tab.put p.zeroing ext 0 })

/-- The next line of zeros that the internal queue sends (R95, R120): of the extent that has come least far, where a write credit of the
Barrow is free at the line's home slice. -/
def State.zeroNext (s : State) : Option (Nat × Nat) :=
  (s.pool.zeroing.filter (fun z => decide (z.2 < extentLines) && s.writeCreditFree (s.sliceOfPl (z.1 * extentLines + z.2)) 24)).foldl
    (fun (m : Option (Nat × Nat)) z => match m with
      | some v => if z.2 < v.2 then some z else m
      | none => some z) none

/-- A migration has a line to copy in this tick (R341, R343). -/
def Migration.mayCopy (m : Migration) (tick : Nat) : Bool :=
  decide (m.issued < extentLines) && (decide (m.rateTick ≠ tick) || decide (m.rateUsed < m.rate))

/-- The Barrow's internal queue has work (R331): a line of zeros, or a line to copy. -/
def State.internalWork (s : State) : Bool :=
  s.memServing && (s.zeroNext.isSome || s.pool.migrations.any (fun m => m.2.mayCopy s.tick))

/-- A turn of the internal queue (R331). -/
def internalTurn (s : State) : State := (useTurn true s).modBarrow (fun b => { b with ownTurns := 0 })

/-- One line of zeros goes to its home slice (R95, R331): a full write of the Barrow's internal queue. DESIGN CHOICE (log 26): the entry of an
extent that joins a bed holds bed 0 until it is BOUND (R76), and its lines go through the slices that R101 gives for bed 0. -/
def writeZero (s : State) : State :=
  match s.zeroNext with
  | none => s
  | some z =>
    let pl := z.1 * extentLines + z.2
    let b := s.bedOfPl pl
    let s1 := internalTurn (s.modPool (fun p => { p with zeroing := Tab.put p.zeroing z.1 (z.2 + 1) }))
    arriveAtHome (sliceOf b.1 b.2) { cls := .wrNC, req := .home, device := s.self, bed := b.1, line := b.2, pl := pl, station := 24,
                                     mask := fullMask, arrived := s.time.beats } (count xbarBarrow 0x09 1 s1)

/-- The internal queue's lines of zeros of one beat (R95, R331): in each turn of its two cycles that no slice has used. -/
def zeroBeat (s : State) : State := if s.memServing then forEach (List.range (2 - s.lineTurns)) (fun _ t => writeZero t) s else s

/-- Every line of an extent has been written with zeros (R95). -/
def State.zeroWritten (s : State) (ext : Nat) : Bool :=
  decide (Tab.find s.pool.zeroing ext = some extentLines) && !(List.range 8).any (fun sl =>
    let x := s.slice sl
    x.wb.any (fun w => extentOf w.2.pl == ext) || (x.txns.map (·.2) ++ x.waiting ++ x.input ++ x.work ++ s.flying sl).any (·.zeroes ext))

/-- An extent has been written with zeros (R95): it becomes BOUND, or DEFINED; one that joins a bed becomes BOUND when the bed's
count rises (R85); one that a plot sanitised stays BOUND (R77). One that failed meanwhile stays FAILED. -/
def zeroDone (ext : Nat) (s : State) : State :=
  let s0 := s.modPool (fun p => { p with zeroing := Tab.drop p.zeroing ext })
  if (s.extent ext).state = .failed then afterZeroing ext true s0 else
  let s2 := s0.modExtent ext (fun x =>
    if x.state = .bound then { x with zeroed := true, sanitize := false }
    else if x.toBound then { x with state := .bound, zeroed := true, toBound := false }
    else if s0.growing ext then { x with zeroed := true }
    else { x with state := .defined, zeroed := true, bed := 0 })
  afterZeroing ext false s2

/-- An extent leaves tenancy (R94): it is zeroed unless it is zeroed already (R95). A MIGRATING one stays so until its migration has ended
(R77). -/
def leaveTenancy (ext : Nat) (s : State) : State := s.modExtent ext Extent.left

/-- The extents that join a growing bed (R85). -/
def Bed.joining (b : Bed) (k : Nat) : List Nat := b.extents b.count.toNat (k * 2 ^ b.ways.toNat)

/-- A grow or shrink of a bed that is released ends (R85, R94). DESIGN CHOICE (log 70): its command ends ABORTED, and no extent joins. -/
def endResize (bed : Nat) (s : State) : State :=
  match (s.bed bed).resize with
  | none => s
  | some r =>
    let s1 := s.modBed bed (fun x => { x with resize := none })
    if r.grow then
      finishJob (.grow bed) stAborted [] (forEach ((s.bed bed).joining r.sets) (fun i t => t.modExtent i (fun e =>
        if e.state = .zeroing ∧ e.zeroed then { e with state := .defined } else e)) s1)
    else finishJob (.shrink bed) stAborted [] s1

/-- A bed is released (R94, R392): it is RELEASING until its last extent has left ZEROING. -/
def releaseBed (bed : Nat) (s0 : State) : State :=
  let s := endResize bed s0
  let b := s.bed bed
  let s1 := s.modBed bed (fun x => { x with state := .releasing, releaseFailed := false })
  bedFreed bed (forEach (b.extents 0 b.count.toNat) leaveTenancy s1)

/-- An agent with no mapping left is retired (R75, R572). -/
def retireIfIdle (a : Nat) (s : State) : State :=
  if s.pool.beds.any (fun e => e.2.sharers.getLsbD a) then s
  else (s.modAgent a (fun x => { x with retiring := true, inPass := false, retireTick := s.tick })).modPool (fun p => { p with retireDue := true })

/-- A plot of a device no longer maps a bed of this home (R66, R75, R94): its port's agent shares the bed no longer, unless another plot of
the port still maps it. -/
def unmapAtHome (bed device port : Nat) (s : State) : State :=
  let s1 := s.modBed bed (fun b =>
    let left := b.remote.erase (device, port)
    { b with
      mapCount := b.mapCount - 1, remote := left,
      sharers := match s.agentOf device port with
        | some a => if left.contains (device, port) then b.sharers else b.sharers &&& ~~~(1#64 <<< a)
        | none => b.sharers })
  let s2 := match s.agentOf device port with
    | some a => retireIfIdle a (tellShared bed (decide (1 < (s.bed bed).mapCount.toNat)) s1)
    | none => tellShared bed (decide (1 < (s.bed bed).mapCount.toNat)) s1
  if (s2.bed bed).mapCount = 0 ∧ (s2.bed bed).state = .defined then releaseBed bed s2 else s2

/-- A user of a shrinking bed has answered (R87). -/
def releasedBy (bed user : Nat) (s : State) : State :=
  s.modBed bed (fun b => { b with resize := b.resize.map (fun r => { r with waiting := r.waiting.filter (· ≠ user) }) })

/-- A plot has no stripe set of a bed left to release (R87): its home is told. -/
def releaseAnswered (plot home bed count : Nat) (s : State) : State :=
  if (s.plot plot).validSlots.any (fun e => decide (e.2.home.toNat = home ∧ e.2.bed.toNat = bed) && !e.2.toRelease.isEmpty) then s
  else if home = s.self then releasedBy bed plot s
  else sendMgmt home (.accepted bed (s.plot plot).port.toNat count) s

/-- A slot gives up the stripe sets that it was asked to release (R87): they are none of its accepted ones any more. -/
def dropRelease (plot k : Nat) (s : State) : State :=
  let b := (s.plot plot).slot k
  if b.toRelease.isEmpty then s
  else releaseAnswered plot b.home.toNat b.bed.toNat 0 (s.modSlot plot k (fun x => { x with toRelease := [] }))

/-- Unmap a bed slot of a plot (R66): at this home, or by a record to the bed's home (R93). -/
def unmapSlot (plot k : Nat) (s0 : State) : State :=
  let s := dropRelease plot k s0
  let b := (s.plot plot).slot k
  let port := (s.plot plot).port.toNat
  let s1 := s.modSlot plot k (fun _ => {})
  if b.home.toNat = s.self then unmapAtHome b.bed.toNat s.self port s1
  else sendMgmt b.home.toNat (.unmap b.bed.toNat port plot) s1

/-- The positions in use and the ways exponent of a slot's bed (R73, R93). -/
def State.slotCount (s : State) (k : BedSlot) : Nat × Nat :=
  if k.home.toNat = s.self then ((s.bed k.bed.toNat).count.toNat, (s.bed k.bed.toNat).ways.toNat)
  else (k.remoteCount, k.remoteWays)

/-- Send dynamic-capacity events of a kind for stripe sets of a slot of a plot (R85, R87, R528). -/
def capacityEvents (plot slot kind : Nat) (sets : List Nat) (s : State) : State :=
  forEach sets (fun set t =>
    plotCount plot 25 1 (t.modPlot plot (fun p => { p with
      events := p.events ++ [{ handle := p.nextHandle, kind := kind, slot := slot, set := set }], nextHandle := p.nextHandle + 1 }))) s

/-- Offer a slot's whole count (R66, R88). -/
def offerSlot (plot slot : Nat) (s : State) : State :=
  let c := s.slotCount ((s.plot plot).slot slot)
  capacityEvents plot slot 0 (List.range (c.1 / 2 ^ c.2)) s

/-- A change of a bed's capacity reaches one slot of a plot (R85 to R88): an offer (kind 0) of the stripe sets that the plot has not accepted,
a release (kind 1) or a forced release (kind 2) of those that it has. An ACTIVE plot's device raises the events. -/
def slotCapacity (plot slot kind : Nat) (sets : List Nat) (s : State) : State :=
  let b := (s.plot plot).slot slot
  let n := b.accepted.toNat / 2 ^ (s.slotCount b).2
  let mine := sets.filter (fun x => if kind = 0 then decide (n ≤ x) else decide (x < n))
  let s1 := if kind = 0 then s else s.modSlot plot slot (fun x => { x with toRelease := if kind = 1 then mine else [] })
  if (s1.plot plot).state = .active then capacityEvents plot slot kind mine s1 else s1

/-- Offer every slot's count (R66, R88). -/
def offerAll (plot : Nat) (s : State) : State := forEach ((s.plot plot).validSlots.map (·.1)) (offerSlot plot) s

/-- The beds of this home that a plot maps and no other plot maps (R69, R71). -/
def State.privateBeds (s : State) (plot : Nat) : List Nat :=
  ((s.plot plot).validSlots.filter (fun e => decide (e.2.home.toNat = s.self) && decide ((s.bed e.2.bed.toNat).mapCount = 1))).map
    (fun e => e.2.bed.toNat)

/-- The beds of this home that a plot maps. -/
def State.localBeds (s : State) (plot : Nat) : List Nat :=
  ((s.plot plot).validSlots.filter (fun e => decide (e.2.home.toNat = s.self))).map (fun e => e.2.bed.toNat)

/-- Extents with zeroed 0 are to be zeroed for a plot in SANITIZING (R71). They stay BOUND (R77); a MIGRATING one is zeroed once its
migration has ended. -/
def markExtents (exts : List Nat) (s : State) : State :=
  forEach exts (fun i t => t.modExtent i (fun e => if (e.state = .bound ∨ e.state = .migrating) && !e.zeroed then { e with sanitize := true } else e)) s

/-- The extents that a plot entering SANITIZING zeroes (R71): those of its private beds. -/
def markSanitize (plot : Nat) (s : State) : State :=
  markExtents ((s.privateBeds plot).flatMap (fun b => (s.bed b).extents 0 (s.bed b).count.toNat)) s

/-- Meaning of ZEROING_START. -/
def execZeroingStart (extent : Nat) (s : State) : Out :=
  whenWf s (decide (extent < 1048576)) (onlyIf (s.memServing && decide (s.nextZero = some extent)) (zeroStart extent) s)

/-- Meaning of ZEROING_COMPLETE: with `ok`, every line has been written (R95); without it, one of the writes has failed for good, which
ends the zeroing at any point of it (R96). -/
def execZeroingComplete (extent : Nat) (ok : Bool) (s : State) : Out :=
  whenWf s (decide (extent < 1048576)) (onlyIf (s.memServing && (Tab.find s.pool.zeroing extent).isSome && (!ok || s.zeroWritten extent))
    (mirrored (fun t => if ok then zeroDone extent t else zeroFails extent t)) s)

end Sys2Proof.Machine
end

