-- ==== Sys2Proof/Machine/Reply.lean ====
section
/-! DEFINITION. What a Teller command answers once its parameters are found (R357 step 8, R359, R381). -/

namespace Sys2Proof.Machine

/-- How a command's run ends: with its final receipt, or in QUEUED with the work it waits for (R359). -/
inductive Reply where
  | final (status : Nat) (result : List Byte)
  | queued (kind : JobKind)
  deriving DecidableEq, Repr

/-- What running a command answers. -/
abbrev Ran := Reply × State

/-- Refused: nothing changes. -/
def refuse (status : Nat) (s : State) : Ran := (.final status [], s)

/-- DONE. -/
def done (s : State) : Ran := (.final stDone [], s)

/-- DONE with a result. -/
def doneWith (result : List Byte) (s : State) : Ran := (.final stDone result, s)

/-- QUEUED. -/
def queuedFor (k : JobKind) (s : State) : Ran := (.queued k, s)

/-- Refuse with the first status whose test holds, else go on. -/
def checks (l : List (Bool × Nat)) (s : State) (go : State → Ran) : Ran :=
  match l.find? (·.1) with
  | some x => refuse x.2 s
  | none => go s

end Sys2Proof.Machine
end

