-- ==== Sys2Proof/Machine/Barrow.lean ====
section
/-! DEFINITION. The Barrow's slices: submissions, descriptors and their ends (R321 to R333), slice states and control requests (R334
to R337), save and restore (R338 to R340). -/

namespace Sys2Proof.Machine

/-- The opcode of a descriptor (R327). -/
def descOp (d : BitVec 512) : Nat := bitsOf d 7 0
/-- seq (R327). -/
def descSeq (d : BitVec 512) : BitVec 16 := d.extractLsb' 16 16
/-- size (R327). -/
def descSize (d : BitVec 512) : Nat := bitsOf d 63 32
/-- src (R327). -/
def descSrc (d : BitVec 512) : Nat := bitsOf d 127 64
/-- dst (R327). -/
def descDst (d : BitVec 512) : Nat := bitsOf d 191 128
/-- record (R327). -/
def descRecord (d : BitVec 512) : Nat := bitsOf d 255 192
/-- operand_a (R327). -/
def descA (d : BitVec 512) : BitVec 128 := d.extractLsb' 256 128
/-- operand_b (R327). -/
def descB (d : BitVec 512) : BitVec 128 := d.extractLsb' 384 128
/-- src_synth (R327). -/
def descSrcSynth (d : BitVec 512) : Bool := d.getLsbD 8
/-- dst_synth (R327). -/
def descDstSynth (d : BitVec 512) : Bool := d.getLsbD 9
/-- record_en (R327). -/
def descRecordEn (d : BitVec 512) : Bool := d.getLsbD 10
/-- intr (R327). -/
def descIntr (d : BitVec 512) : Bool := d.getLsbD 11
/-- pattern (R327). -/
def descPattern (d : BitVec 512) : Bool := d.getLsbD 12
/-- The operation of an ATOMIC (R327), if its code is one. -/
def descAtom (d : BitVec 512) : Option AtomOp :=
  if bitsOf d 71 64 = 1 then some .fetchAdd else if bitsOf d 71 64 = 2 then some .swap
  else if bitsOf d 71 64 = 3 then some .cas else none

/-- The reserved fields of a descriptor are 0 (R327, R328). -/
def descReservedZero (d : BitVec 512) : Bool :=
  let op := descOp d
  let pat := descPattern d && decide (op = 2 ∨ op = 3)
  decide (bitsOf d 15 13 = 0) &&
  (decide (op = 5 ∧ descAtom d = some .cas) || decide (descB d = 0)) &&
  (pat || decide (op = 5) || (decide (op = 4) && decide (bitsOf d 383 288 = 0)) || decide (descA d = 0)) &&
  decide (descRecord d % 32 = 0) && (descRecordEn d || decide (descRecord d = 0)) &&
  ((decide (op ≠ 4) && !(pat && decide (op = 3))) || decide (descDst d = 0)) &&
  (decide (op ≠ 2) || decide (descSrc d = 0)) && (decide (op ≠ 5) || decide (bitsOf d 127 72 = 0))

/-- A descriptor that R328 does not make INVALID. -/
def descValid (d : BitVec 512) : Bool :=
  let op := descOp d
  let n := descSize d
  decide (1 ≤ op ∧ op ≤ 5) && descReservedZero d && decide (0 < n ∧ n ≤ 0x40000000) && (!descIntr d || descRecordEn d) &&
  (decide (op ≠ 5) || (match descAtom d with
    | some o => descDstSynth d && atomicAccepted o n && decide (descDst d % n = 0)
    | none => false)) &&
  !(decide (op = 1 ∨ (op = 3 ∧ !descPattern d)) && decide (descSrcSynth d = descDstSynth d) &&
    decide (descSrc d < descDst d + n ∧ descDst d < descSrc d + n))

/-- The upstream port of a slice's plot. -/
def State.slicePort (s : State) (k : Nat) : Nat := (s.plot (s.bslice k).plot.toNat).port.toNat

/-- A TLP of the Barrow leaves (R226, R331): towards a host whose link is out of L0 it is discarded. -/
def tlpLeaves (port : Nat) (sub : BitVec 2) (t : Tlp) (s : State) : State :=
  let s1 := useTurn false s
  if (s1.port port).inL0 then sendTlp xbarBarrow port sub t s1 else s1

/-- The Barrow has a turn for a TLP (R167, R331): one in each FCLK cycle, two in a beat. -/
def State.tlpTurn (s : State) : Bool := decide (s.tlpTurns < 2) && s.queueRoom xbarBarrow clsIo

/-- The Barrow issues a TLP (R331, R346), or lets it wait behind those that wait for a turn. -/
def barrowTlp (port : Nat) (sub : BitVec 2) (t : Tlp) (s : State) : State :=
  if s.barrow.tlpOut.isEmpty && s.tlpTurn then tlpLeaves port sub t s
  else s.modBarrow (fun b => { b with tlpOut := b.tlpOut ++ [(port, sub, t)] })

/-- The oldest TLP that waits takes a turn (R331). -/
def tlpStep (s : State) : State :=
  match s.barrow.tlpOut with
  | [] => s
  | x :: rest => if s.tlpTurn then tlpLeaves x.1 x.2.1 x.2.2 (s.modBarrow (fun b => { b with tlpOut := rest })) else s

/-- TLPs that wait leave in the turns of a beat that nothing has used (R331). -/
def tlpBeat (s : State) : State := forEach (List.range (2 - s.tlpTurns)) (fun _ t => tlpStep t) s

/-- The slice that a submission's key reaches (R323, R324). -/
def State.pasidSlice (s : State) (port : Nat) (pasid : Option Nat) : Option Nat :=
  (s.barrow.pasids.find? (fun e => e.2.valid && decide (e.2.port.toNat = port) && (match pasid with
    | none => e.2.noPasid
    | some p => !e.2.noPasid && decide (e.2.pasid.toNat = p)))).map (fun e => e.2.slice.toNat)

/-- The answer to a submission (R324): a Deferrable Memory Write gets a completion. -/
def submissionAnswer (port : Nat) (deferrable : Bool) (st : CplStatus) (s : State) : State :=
  if deferrable then barrowTlp port 2 { kind := .cpl, status := st } s else s

/-- A posted submission discarded before it reaches a slice is counted on the function (R324). -/
def submissionDropped (port : Nat) (s : State) : State := s.modPort port (fun p => { p with barrowDropped := p.barrowDropped + 1 })

/-- A duplicate by the sequence check (R325). -/
def BSlice.isDuplicate (b : BSlice) (seq : BitVec 16) : Bool :=
  b.seqValid && decide (seq - b.lastSeq = 0 ∨ 32768 ≤ (seq - b.lastSeq).toNat)

/-- SUBMISSION (R324, R325): the tests in the table's order. A SHADOW discards every submission and counts it (R297). -/
def submissionOp (port offset length : Nat) (deferrable : Bool) (pasid : Option Nat) (data : BitVec 512) (s : State) : State :=
  let unsupported := submissionAnswer port deferrable .unsupported (if deferrable then s else submissionDropped port s)
  if s.dev.mode = .shadow then submissionAnswer port deferrable .unsupported (submissionDropped port s)
  else if length ≠ 64 ∨ offset % 64 ≠ 0 then unsupported
  else match s.pasidSlice port pasid with
  | none => unsupported
  | some k =>
    let b := s.bslice k
    let refused := submissionAnswer port deferrable .retry
      (count xbarBarrow 0x03 1 (s.modBslice k (fun x => { x with refused := satAdd x.refused 1 })))
    if b.state ≠ .running ∨ b.fault then refused
    else if b.isDuplicate (descSeq data) then
      submissionAnswer port deferrable .success
        (count xbarBarrow 0x02 1 (s.modBslice k (fun x => { x with duplicates := satAdd x.duplicates 1 })))
    else if 32 ≤ b.queue.length then refused
    else submissionAnswer port deferrable .success (count xbarBarrow 0x01 1 (s.modBslice k (fun x =>
      { x with queue := x.queue ++ [data], lastSeq := descSeq data, seqValid := true, accepted := satAdd x.accepted 1 })))

/-- Meaning of SUBMISSION: it crosses to the Barrow. -/
def execSubmission (port offset length : Nat) (deferrable : Bool) (pasid : Option Nat) (data : BitVec 512) (s : State) : Out :=
  whenWf s (decide (port < 128)) (onlyIf (s.ioReaches port)
    (tlpInside port xbarBarrow (.submission offset length deferrable pasid data)) s)

/-- A slice may start its next descriptor (R326, R333, R334). -/
def BSlice.mayStart (b : BSlice) : Bool :=
  b.running.isNone && !b.queue.isEmpty && !b.fault && decide (b.state = .running ∨ (b.state = .freezing ∧ b.freezeAll))

/-- DESCRIPTOR_START (R326, R328): the oldest queued descriptor runs, or ends INVALID. -/
def startDescriptor (k : Nat) (s : State) : State :=
  match (s.bslice k).queue with
  | [] => s
  | d :: rest =>
    let s1 := s.modBslice k (fun b => { b with queue := rest, runNo := b.runNo + 1,
                                               running := some { desc := d, crc := (descA d).setWidth 32 ^^^ 0xFFFFFFFF#32 } })
    if descValid d then s1 else modRun k (fun r => { r with status := 0x10, ended := true }) s1

/-- Meaning of DESCRIPTOR_START. -/
def execDescriptorStart (slice : Nat) (s : State) : Out :=
  whenWf s (decide (slice < 512)) (onlyIf (s.fabricOn && (s.bslice slice).mayStart) (startDescriptor slice) s)

/-- The running descriptor ends with a status (R333). -/
def endRun (k : Nat) (status : Nat) (s : State) : State :=
  modRun k (fun r => if r.ended then r else { r with status := BitVec.ofNat 8 status, ended := true }) s

/-- A synthesised access of a slice meets no service (R82, R333): ADDRESS, with the plot's event and entry for an outcome of R82. -/
def synthRefused (k plot dpa outcome : Nat) (s : State) : State :=
  endRun k 0x11 (if outcome = 0 then s else badAccess xbarBarrow (some plot) (s.slicePort k) outcome dpa s)

/-- The name by which an answer finds its slice's run (R330, log 24): the run's number, and the synthesised DPA that a BAD_ACCESS of it names. -/
def runName (runNo dpa : Nat) : BitVec 64 := BitVec.ofNat 64 (runNo % 2 ^ 18 * 2 ^ 46 + dpa % 2 ^ 46)

/-- A slice's request for a synthesised address goes to its home (R22, R92, R115, R330); one towards a home that no trunk reaches is answered
as an unbacked access (R286). -/
def synthSend (k plot home bed off : Nat) (t : Txn) (s : State) : State :=
  let port := s.slicePort k
  let x : Txn := { t with req := .barrow k, device := s.self, port := port, plot := plot, bed := bed, line := off / 64,
                          pl := (s.bed bed).pl (off / 64), hpa := runName (s.bslice k).runNo (s.dpaOf plot home bed off), station := 24,
                          arrived := s.time.beats }
  if home = s.self then arriveAtHome (sliceOf bed (off / 64)) x s
  else if !s.reachable home then synthRefused k plot (s.dpaOf plot home bed (off / 64)) 4 (modRun k (fun r => { r with opened := r.opened - 1 }) s)
  else
    let cls := if t.cls.isWrite then clsResponse else clsRequest
    let op : MsgOp := if t.cls = .atom then .atom else if t.cls.isWrite then (if t.mask = fullMask then .memWr else .memWrPtl) else .memRd
    sendTrunk xbarBarrow cls 7
      { dstDev := BitVec.ofNat 4 home, srcDev := BitVec.ofNat 4 s.self, cls := cls, kind := 0, port := BitVec.ofNat 7 port,
        bed := BitVec.ofNat 12 bed, line := BitVec.ofNat 36 (off / 64), plot := BitVec.ofNat 9 plot,
        msg := { op := op, addr := x.hpa, data := t.data, mask := t.mask, tag := 1 + k,
                 atom := if t.cls = .atom then some { op := t.op, size := t.size, off := t.byteOff, a := t.a, b := t.b } else none } } s

/-- A slice takes its turn (R331). -/
def sliceTurn (k : Nat) (line : Bool) (s : State) : State :=
  let t := if line then useTurn true s else s
  t.modBarrow (fun b => { b with turn := k, ownTurns := if line then b.ownTurns + 1 else b.ownTurns })

/-- One synthesised request of a slice (R80, R190, R330, R331): skipped while the plot's balance does not cover its charge. -/
def synthAccess (k dpa : Nat) (t : Txn) (phase : Nat) (s : State) : State :=
  let p := (s.bslice k).plot.toNat
  if s.dev.mode ≠ .grow ∨ (s.plot p).state ≠ .active then synthRefused k p dpa 0 s
  else match s.reachDpa p dpa with
  | .noDecoder => synthRefused k p dpa 3 s
  | .noWindow _ _ => synthRefused k p dpa 3 s
  | .notBacked _ _ => synthRefused k p dpa 4 s
  | .backed _ home bed off =>
    let c := if t.cls = .atom then (1, 1) else if t.cls.isWrite then (0, 1) else (1, 0)
    if !(s.qos p).covers c then count xbarBarrow 0x0A 1 s
    else
      let s1 := sliceTurn k true (modRun k (fun r => { r with phase := phase, opened := r.opened + 1 }) (s.modQos p (fun q => q.draw c)))
      let s2 := if t.cls.isWrite then plotCount p 23 1 (count xbarBarrow 0x07 1 s1)
        else if t.cls = .atom then s1 else plotCount p 22 1 (count xbarBarrow 0x06 1 s1)
      synthSend k p home bed off t s2

/-- The PASID of a slice's host requests (R322, R330). -/
def BSlice.hostPasid (b : BSlice) : Option Nat := if b.pasidEn then some b.dmaPasid.toNat else none

/-- Where the running descriptor of a slice belongs (R322, R330, R334): by its slice's entry, or by the entry that its slice had. -/
def State.runRoute (s : State) (k : Nat) : SliceRoute :=
  let b := s.bslice k
  (b.running.bind (·.after)).getD { port := s.slicePort k, plot := b.plot.toNat, pasid := b.hostPasid, vector := b.vector.toNat }

/-- The Requester ID of the Barrow function (R330): bus 18, device 0, function 0 (log 83). -/
def barrowRequester : BitVec 16 := 0x1200

/-- A TLP of a slice towards a host (R330). -/
def hostTlp (k port : Nat) (t : Tlp) (s : State) : State :=
  count xbarBarrow 0x08 1 (barrowTlp port (if t.kind = .memRd then 1 else 0) { t with tag := k, requester := barrowRequester } s)

/-- A read of part of a line for the running descriptor (R330): of host memory it asks for the naturally aligned line that holds the part
(log 32). -/
def chunkRead (k : Nat) (synth : Bool) (addr phase : Nat) (s : State) : State :=
  if synth then synthAccess k addr { cls := .rdNC } phase s
  else hostTlp k (s.slicePort k) { kind := .memRd, address := BitVec.ofNat 64 (addr / 64 * 64), length := 64, pasid := (s.bslice k).hostPasid }
    (sliceTurn k false (modRun k (fun r => { r with phase := phase, opened := r.opened + 1, hostTick := some s.tick }) s))

/-- A write of part of a line for the running descriptor (R330): a host write is posted. -/
def chunkWrite (k : Nat) (synth : Bool) (addr : Nat) (bytes : List Byte) (s : State) : State :=
  let off := addr % 64
  let mask : BitVec 64 := BitVec.ofNat 64 ((2 ^ bytes.length - 1) * 2 ^ off)
  if synth then
    synthAccess k addr { cls := .wrNC, data := BitVec.ofNat 512 (natOfBytes bytes * 2 ^ (8 * off)), mask := mask } 3 s
  else hostTlp k (s.slicePort k) { kind := .memWr, address := BitVec.ofNat 64 addr, data := bytes, pasid := (s.bslice k).hostPasid }
    (sliceTurn k false (modRun k (fun r => { r with phase := 3 }) s))

/-- The bytes of the current chunk: up to the next line boundary of each operand (log 32). -/
def chunkSize (r : Running) : Nat :=
  let d := r.desc
  let op := descOp d
  let left := descSize d - r.done
  let src := if op = 2 then 64 else 64 - (descSrc d + r.done) % 64
  let dst := if op = 4 ∨ (op = 3 ∧ descPattern d) then 64 else 64 - (descDst d + r.done) % 64
  min left (min src dst)

/-- The bytes of the current chunk as an answer brought them: a read brings its whole line. -/
def chunkBytes (addr n : Nat) (buf : List Byte) : List Byte := (buf.drop (addr % 64)).take n

/-- The pattern of FILL and COMPARE over a chunk (R329): byte 0 at the operand's start. -/
def patternBytes (d : BitVec 512) (from' n : Nat) : List Byte :=
  if descPattern d then (List.range n).map (fun i => BitVec.ofNat 8 ((descA d).toNat / 256 ^ ((from' + i) % 16))) else List.replicate n 0

/-- The lowest place at which two chunks differ (R329). -/
def firstDiff : List Byte → List Byte → Nat → Option Nat
  | a :: as, b :: bs, i => if a = b then firstDiff as bs (i + 1) else some i
  | _, _, _ => none

/-- The current chunk is done (R329, R332): the next one begins, or the operation ends DONE. -/
def chunkDone (n : Nat) (r : Running) : Running :=
  let m := r.done + n
  if descSize r.desc ≤ m then
    { r with done := m, phase := 0, srcBuf := [], dstBuf := [], status := 0x01, ended := true,
             result := if descOp r.desc = 4 then (r.crc ^^^ 0xFFFFFFFF#32).setWidth 128 else r.result }
  else { r with done := m, phase := 0, srcBuf := [], dstBuf := [] }

/-- Two chunks are compared (R329): MISMATCH with the lowest differing offset, or the chunk is done. -/
def compareChunk (a b : List Byte) (n : Nat) (r : Running) : Running :=
  match firstDiff a b 0 with
  | some i => { r with status := 0x02, ended := true, done := descSize r.desc, result := BitVec.ofNat 128 (r.done + i) }
  | none => chunkDone n r

/-- The current chunk of a running descriptor is complete, where none of its requests is still to go out (R329, R332). -/
def Running.chunkOver (r : Running) : Option Running :=
  let d := r.desc
  let op := descOp d
  let n := chunkSize r
  let a := chunkBytes (descSrc d + r.done) n r.srcBuf
  let b := chunkBytes (descDst d + r.done) n r.dstBuf
  if r.phase = 0 ∨ (r.phase = 1 ∧ (op = 1 ∨ (op = 3 ∧ !descPattern d))) then none
  else if r.phase = 1 then
    if op = 3 then some (compareChunk a (patternBytes d r.done n) n r)
    else if op = 4 then some (chunkDone n { r with crc := a.foldl crc32cByte r.crc })
    else some { r with done := descSize d, status := 0x01, ended := true, result := BitVec.ofNat 128 (r.result.toNat % 2 ^ (8 * descSize d)) }
  else if r.phase = 2 then some (compareChunk a b n r)
  else some (chunkDone n r)

/-- The running descriptor stops at its line boundary (R334): a chunk whose requests are all complete counts in `done` (R332). -/
def stopRun (k : Nat) (s : State) : State :=
  modRun k (fun r =>
    if r.ended then r
    else
      let n := match r.chunkOver with
        | some q => if q.status = 0x02 then r.done else q.done
        | none => r.done
      { r with done := n, status := 0x13, ended := true }) s

/-- One issue turn of a slice for its running descriptor (R329 to R331): what has arrived is taken, and at most one request goes out. -/
def barrowTurn (k : Nat) (s : State) : State :=
  match (s.bslice k).running with
  | none => s
  | some r =>
    if r.ended ∨ r.opened ≠ 0 then s
    else if r.abort then stopRun k s
    else match r.chunkOver with
    | some q => modRun k (fun _ => q) s
    | none =>
      let d := r.desc
      let op := descOp d
      let n := chunkSize r
      let src := descSrc d + r.done
      let dst := descDst d + r.done
      if r.phase = 0 then
        if op = 2 then chunkWrite k (descDstSynth d) dst (patternBytes d r.done n) s
        else if op = 5 then
          synthAccess k (descDst d) { cls := .atom, op := (descAtom d).getD .fetchAdd, size := descSize d, a := descA d, b := descB d,
                                      byteOff := descDst d % 64 } 1 s
        else chunkRead k (descSrcSynth d) src 1 s
      else if op = 1 then chunkWrite k (descDstSynth d) dst (chunkBytes src n r.srcBuf) s
      else chunkRead k (descDstSynth d) dst 2 s

/-- Whether the next step of a running descriptor issues a request: a line request, or a TLP (R329, R331). -/
def Running.request (r : Running) : Option Bool :=
  let d := r.desc
  let op := descOp d
  if r.ended || decide (r.opened ≠ 0) || r.abort then none
  else if r.phase = 0 then some (if op = 2 then descDstSynth d else op == 5 || descSrcSynth d)
  else if r.phase = 1 ∧ (op = 1 ∨ (op = 3 ∧ !descPattern d)) then some (descDstSynth d)
  else none

/-- What the next line request of a running descriptor draws (R190, R330). -/
def Running.charge (r : Running) : Nat × Nat :=
  let op := descOp r.desc
  if op = 5 then (1, 1) else if (r.phase = 0 ∧ op = 2) ∨ (r.phase = 1 ∧ op = 1) then (0, 1) else (1, 0)

/-- The request that a slice's running descriptor issues next, if any. -/
def State.sliceRequest (s : State) (k : Nat) : Option Bool := (s.bslice k).running.bind Running.request

/-- The balance of a slice's plot covers its next line request (R331). -/
def State.sliceCovered (s : State) (k : Nat) : Bool :=
  (s.bslice k).running.any (fun r => (s.qos (s.bslice k).plot.toNat).covers r.charge)

/-- A slice could issue its next request in this beat (R331): every fourth turn is the internal queue's when that has work. -/
def State.canIssue (s : State) (k : Nat) : Bool :=
  match s.sliceRequest k with
  | some true => decide (s.lineTurns < 2) && s.sliceCovered k && (decide (s.barrow.ownTurns < 3) || !s.internalWork)
  | some false => decide (s.tlpTurns < 2) && s.barrow.tlpOut.isEmpty
  | none => false

/-- The turn of a slice (R331): rotating order over the slices that can issue; one whose balance does not cover its request is skipped. A step
that issues nothing takes no turn. -/
def State.mayTurn (s : State) (k : Nat) : Bool :=
  let far (j : Nat) : Nat := (j + 511 - s.barrow.turn) % 512
  match s.sliceRequest k with
  | none => true
  | some line => (line && !s.sliceCovered k) || (s.canIssue k && !s.barrow.slices.any (fun e => decide (far e.1 < far k) && s.canIssue e.1))

/-- A slice runs a descriptor of an opcode. -/
def State.runsOp (s : State) (k op : Nat) : Bool :=
  match (s.bslice k).running with
  | some r => decide (descOp r.desc = op)
  | none => false

/-- The Barrow's queue memory has room for one more cell of each class that its requests take (R167): else its turn waits. -/
def State.issueRoom (s : State) : Bool := [clsResponse, clsRequest, clsIo].all (s.queueRoom xbarBarrow)

/-- A slice runs a descriptor of an opcode, and it is its turn (R331). -/
def State.turnOf (s : State) (k op : Nat) : Bool := s.fabricOn && s.issueRoom && s.runsOp k op && s.mayTurn k

/-- Meaning of COPY. -/
def execCopy (slice : Nat) (s : State) : Out := whenWf s (decide (slice < 512)) (onlyIf (s.turnOf slice 1) (barrowTurn slice) s)
/-- Meaning of FILL. -/
def execFill (slice : Nat) (s : State) : Out := whenWf s (decide (slice < 512)) (onlyIf (s.turnOf slice 2) (barrowTurn slice) s)
/-- Meaning of COMPARE. -/
def execCompare (slice : Nat) (s : State) : Out :=
  whenWf s (decide (slice < 512)) (onlyIf (s.turnOf slice 3) (barrowTurn slice) s)
/-- Meaning of CRC. -/
def execCrc (slice : Nat) (s : State) : Out := whenWf s (decide (slice < 512)) (onlyIf (s.turnOf slice 4) (barrowTurn slice) s)
/-- Meaning of ATOMIC. -/
def execAtomic (slice : Nat) (s : State) : Out :=
  whenWf s (decide (slice < 512)) (onlyIf (s.turnOf slice 5) (barrowTurn slice) s)

/-- The completion record (R332). -/
def recordImage (r : Running) (now : BitVec 64) : BitVec 256 :=
  BitVec.ofNat 256 (fieldAt r.result.toNat 128 + fieldAt now.toNat 64 + fieldAt r.done 32 + fieldAt (descSeq r.desc).toNat 16 +
    fieldAt (descOp r.desc) 8 + r.status.toNat)

/-- What an unwritten MSI-X table entry holds: its mask bit is set. -/
def msixReset : BitVec 128 := 1#128 <<< 96

/-- Send an MSI-X vector of a port's Barrow function (R321, R327): a masked vector waits in the Pending Bit Array. -/
def sendMsix (port vector : Nat) (s : State) : State :=
  let e := Tab.get (s.port port).msix msixReset vector
  if e.getLsbD 96 then s.modPort port (fun p => { p with msixPending := if p.msixPending.contains vector then p.msixPending else vector :: p.msixPending })
  else barrowTlp port 0 { kind := .memWr, requester := barrowRequester, address := e.extractLsb' 0 64, data := bytesOf 4 32 (e.extractLsb' 64 32) } s

/-- DESCRIPTOR_COMPLETE (R332): the record and the interrupt follow the descriptor's writes. One that was aborted ends now, and one whose slice
has been unbound leaves nothing in the slice's registers (R334). -/
def descriptorDone (k : Nat) (s0 : State) : State :=
  let s := stopRun k s0
  match (s.bslice k).running with
  | none => s
  | some r =>
    let w := s.runRoute k
    let image := recordImage r r.stamp
    let s1 := s.modBslice k (fun x => if r.after.isSome then { x with running := none } else { x with
      running := none, lastStatus := r.status, lastRecord := image, completed := x.completed + 1,
      faulted := if faultStatus r then x.faulted + 1 else x.faulted })
    let s2 := count xbarBarrow 0x04 1 (plotCount w.plot 21 1 s1)
    let s3 := if descRecordEn r.desc then
        hostTlp k w.port { kind := .memWr, address := BitVec.ofNat 64 (descRecord r.desc), data := bytesOf 32 256 image, pasid := w.pasid } s2
      else s2
    if descIntr r.desc && descRecordEn r.desc then sendMsix w.port w.vector s3 else s3

/-- The running descriptor has ended, and every request it issued is complete (R332, R334). -/
def BSlice.runOver (b : BSlice) : Bool :=
  match b.running with
  | some r => decide (r.opened = 0) && (r.ended || r.abort)
  | none => false

/-- Meaning of DESCRIPTOR_COMPLETE. -/
def execDescriptorComplete (slice : Nat) (s : State) : Out :=
  whenWf s (decide (slice < 512)) (onlyIf (s.fabricOn && (s.bslice slice).runOver) (descriptorDone slice) s)

/-- The running descriptor stops at its next line boundary (R334, R335). -/
def abortRun (k : Nat) (fault : Bool) (s : State) : State := modRun k (fun r => { r with abort := true, abortFault := r.abortFault || fault }) s

/-- A plot enters DRAINING: each of its slices aborts its running descriptor and sets its fault (R335). -/
def drainSlices (plot : Nat) (s : State) : State :=
  forEach ((s.barrow.slices.filter (fun e => decide (e.2.state ≠ .unbound ∧ e.2.plot.toNat = plot))).map (·.1)) (fun k t =>
    (abortRun k true t).modBslice k (fun b => { b with fault := true })) s

/-- Requests of a plot's slices that are open (R69, R335). -/
def State.slicesOpen (s : State) (plot : Nat) : Bool :=
  s.barrow.slices.any (fun e => e.2.running.any (fun r => decide (r.opened ≠ 0) && (match r.after with
    | some w => w.plot == plot
    | none => decide (e.2.state ≠ .unbound ∧ e.2.plot.toNat = plot))))

/-- The control requests of a slice (R334). -/
inductive SliceAct where
  | freeze (all : Bool)
  | thaw
  | reset
  | clearFault
  | save (address : BitVec 64) (usePasid : Bool)
  | restore (address : BitVec 64) (usePasid : Bool)
  deriving DecidableEq, Repr

/-- op_result of a BAR 2 action that ends (R337). -/
def setOpResult (k v : Nat) (s : State) : State := s.modBslice k (fun b => { b with opResult := BitVec.ofNat 4 v })

/-- op_result of a BAR 2 action that another request ended: the spec gives none, so a free value (log 3). -/
def freeOpResult (k : Nat) (s : State) : State :=
  let r := takeFree s
  setOpResult k (r.1.toNat % 16) r.2

/-- A freeze, save or restore in progress ends with ABORTED (R334). -/
def abortJobs (k : Nat) (s : State) : State :=
  let b := s.bslice k
  let bar := b.freezeBar || (match b.job with | some j => j.byBar | none => false)
  let s1 := finishJobs (fun x => decide (x = .freeze k ∨ x = .save k ∨ x = .restore k)) stAborted [] s
  let s2 := s1.modBslice k (fun x => { x with job := none, freezeBar := false, freezeAll := false })
  if bar then freeOpResult k s2 else s2

/-- SLICE_RESET (R334). -/
def resetSlice (k : Nat) (s : State) : State :=
  (abortRun k false (abortJobs k s)).modBslice k (fun b => { b with state := .running, queue := [], seqValid := false, fault := false })

/-- The save image of a slice (R338). -/
def saveImage (k : Nat) (s : State) : List Byte :=
  let b := s.bslice k
  let q := b.queue.flatMap (bytesOf 64 512)
  let body := bytesOf 4 32 0x57425259#32 ++ bytesOf 2 16 0x0100#16 ++ bytesOf 2 16 0x1000#16 ++
    bytesOf 6 48 Config.serial ++ bytesOf 2 16 (BitVec.ofNat 16 k) ++ bytesOf 8 64 s.now ++ bytesOf 2 16 b.lastSeq ++
    [BitVec.ofNat 8 (bit b.seqValid + 2 * bit b.fault), BitVec.ofNat 8 b.queue.length, 0, 0, 0, 0] ++
    bytesOf 32 256 b.lastRecord ++ bytesOf 8 64 b.accepted ++ bytesOf 8 64 b.duplicates ++ bytesOf 8 64 b.refused ++
    bytesOf 8 64 b.completed ++ bytesOf 8 64 b.faulted ++ List.replicate 24 0 ++ q ++
    List.replicate (2048 - q.length) 0 ++ List.replicate 1916 0
  body ++ bytesOf 4 32 (crc32c 0 body)

/-- The PASID of an image access (R339, R340). -/
def ImageJob.pasid (j : ImageJob) (b : BSlice) : Option Nat := if j.usePasid then some b.dmaPasid.toNat else none

/-- Issue the next read of a restore (R330, R340): 512 B of the image. -/
def restoreRead (k : Nat) (s : State) : State :=
  match (s.bslice k).job with
  | none => s
  | some j =>
    hostTlp k (s.slicePort k) { kind := .memRd, address := j.address + BitVec.ofNat 64 j.image.length, length := 512, pasid := j.pasid (s.bslice k) }
      (s.modBslice k (fun b => { b with job := some { j with since := s.tick } }))

/-- A save starts (R339): the image is written in writes of 256 B. DESIGN CHOICE (log 109): all of them wait for their turns from this step on. -/
def startSave (k : Nat) (j : ImageJob) (s : State) : State :=
  let image := saveImage k s
  let b := s.bslice k
  let s1 := s.modBslice k (fun x => { x with job := some { j with image := image } })
  forEach (List.range 16) (fun i t => hostTlp k (t.slicePort k)
    { kind := .memWr, address := j.address + BitVec.ofNat 64 (256 * i), data := (image.drop (256 * i)).take 256, pasid := j.pasid b } t) s1

/-- A control request of a slice at its tick boundary (R334). -/
def sliceAct (k : Nat) (a : SliceAct) (byBar : Bool) (s : State) : Ran :=
  let b := s.bslice k
  match b.state, a with
  | .unbound, _ => refuse stNotInMode s
  | _, .reset => done (resetSlice k s)
  | _, .clearFault => done (s.modBslice k (fun x => { x with fault := false }))
  | .running, .freeze all => queuedFor (.freeze k) (s.modBslice k (fun x => { x with state := .freezing, freezeAll := all, freezeBar := byBar }))
  | .running, _ => refuse stNotInMode s
  | .freezing, _ => refuse stBusy s
  | .frozen, .freeze _ => done s
  | .frozen, .thaw => done (s.modBslice k (fun x => { x with state := .running }))
  | .frozen, .save ad up =>
    if b.job.isSome then refuse stBusy s
    else queuedFor (.save k) (startSave k { save := true, byBar := byBar, address := ad, usePasid := up } s)
  | .frozen, .restore ad up =>
    if b.job.isSome ∨ !b.queue.isEmpty then refuse stBusy s
    else queuedFor (.restore k) (restoreRead k (s.modBslice k (fun x =>
      { x with job := some { save := false, byBar := byBar, address := ad, usePasid := up } })))

/-- The work of a freezing slice is over (R334): its queue has run empty or it has faulted, or in mode BOUNDARY its running descriptor
has finished. -/
def BSlice.frozenNow (b : BSlice) : Bool :=
  decide (b.state = .freezing) && b.running.isNone && (!b.freezeAll || b.queue.isEmpty || b.fault)

/-- A freeze ends (R334). -/
def freezeEnds (k : Nat) (s : State) : State :=
  let bar := (s.bslice k).freezeBar
  let s1 := finishJob (.freeze k) stDone [] (s.modBslice k (fun b => { b with state := .frozen, freezeBar := false, freezeAll := false }))
  if bar then setOpResult k 1 s1 else s1

/-- A save or restore ends: its receipt or its op_result (R337, R339, R340). -/
def imageEnds (k status opResult : Nat) (s : State) : State :=
  let bar := match (s.bslice k).job with | some j => j.byBar | none => false
  let s1 := s.modBslice k (fun b => { b with job := none })
  if bar then setOpResult k opResult s1
  else finishJobs (fun x => decide (x = .save k ∨ x = .restore k)) status [] s1

/-- A slice has a save, or a restore, that runs. -/
def BSlice.images (b : BSlice) (save : Bool) : Bool := match b.job with | some j => j.save == save | none => false

/-- A TLP of a slice waits for its turn (R331). -/
def State.tlpWaits (s : State) (k : Nat) : Bool := s.barrow.tlpOut.any (fun e => e.2.2.tag == k && decide (e.2.2.requester = barrowRequester ∧ e.2.2.kind = .memWr))

/-- Meaning of SLICE_SAVE_COMPLETE: every write of the save has left (R339). -/
def execSliceSaveComplete (slice : Nat) (ok : Bool) (s : State) : Out :=
  whenWf s (decide (slice < 512)) (onlyIf (s.fabricOn && (s.bslice slice).images true && !s.tlpWaits slice)
    (fun t => if ok then imageEnds slice stDone 1 t else imageEnds slice stFaulted 5 t) s)

/-- An image that R340 accepts. -/
def imageGood (b : List Byte) : Bool :=
  let num (o n : Nat) : Nat := natOfBytes ((b.drop o).take n)
  let zero (o n : Nat) : Bool := ((b.drop o).take n).all (· == 0)
  decide (num 0 4 = 0x57425259) && decide (num 6 2 = 0x1000) && decide ((crc32c 0 (b.take 4092)).toNat = num 4092 4) &&
  decide (num 5 1 = 1) && decide (num 27 1 ≤ 32) &&
  (decide (num 4 1 ≠ 0) || (zero 0x1C 4 && zero 0x68 24 && zero 0x880 1916 && decide (num 26 1 < 4)))

/-- An accepted image is loaded (R340). -/
def loadImage (k : Nat) (b : List Byte) (s : State) : State :=
  let num (o n : Nat) : Nat := natOfBytes ((b.drop o).take n)
  s.modBslice k (fun x => { x with
    lastSeq := BitVec.ofNat 16 (num 24 2), seqValid := decide (num 26 1 % 2 = 1), fault := decide (num 26 1 / 2 % 2 = 1),
    queue := (List.range (num 27 1)).map (fun i => BitVec.ofNat 512 (num (0x80 + 64 * i) 64)),
    lastRecord := BitVec.ofNat 256 (num 0x20 32) })

/-- SLICE_RESTORE_COMPLETE (R340): the image is checked and loaded, or refused; a failed access faults. -/
def restoreEnds (k : Nat) (ok : Bool) (s : State) : State :=
  match (s.bslice k).job with
  | none => s
  | some j =>
    if !ok then imageEnds k stFaulted 5 s
    else if imageGood j.image then imageEnds k stDone 1 (loadImage k j.image s)
    else imageEnds k stInvalidParam 4 s

/-- Meaning of SLICE_RESTORE_COMPLETE. -/
def execSliceRestoreComplete (slice : Nat) (ok : Bool) (s : State) : Out :=
  whenWf s (decide (slice < 512)) (onlyIf (s.fabricOn && (s.bslice slice).images false &&
    (!ok || (match (s.bslice slice).job with | some j => decide (j.image.length = 4096) | none => false))) (restoreEnds slice ok) s)

/-- A completion of a host read of the running descriptor (R330, R333). -/
def hostReadDone (k : Nat) (st : CplStatus) (data : List Byte) (s : State) : State :=
  modRun k (fun r =>
    let r1 : Running := { r with opened := r.opened - 1, hostTick := none }
    if st = .success then
      (if r.phase = 2 then { r1 with dstBuf := r1.dstBuf ++ data } else { r1 with srcBuf := r1.srcBuf ++ data })
    else if r.ended then r1
    else { r1 with status := if st = .poisoned then 0x12 else 0x11, ended := true }) s

/-- A host read of a slice waits for its completion. -/
def BSlice.hostWaits (b : BSlice) : Option Nat := match b.running with | some r => r.hostTick | none => none

/-- A restore has a read open (R340). -/
def BSlice.restoreWaits (b : BSlice) : Bool := match b.job with | some j => !j.save && decide (j.image.length < 4096) | none => false

/-- A completion for a host read of a slice (R330, R340). -/
def hostCompletion (k : Nat) (st : CplStatus) (data : List Byte) (s : State) : State :=
  if (s.bslice k).restoreWaits then
    if st ≠ .success then restoreEnds k false s
    else
      let s1 := s.modBslice k (fun b => { b with job := b.job.map (fun j => { j with image := (j.image ++ data).take 4096 }) })
      if (s1.bslice k).restoreWaits then restoreRead k s1 else s1
  else hostReadDone k st data s

/-- The port on which a completion for a slice comes in (R330, R334). -/
def State.answerPort (s : State) (k : Nat) : Nat := if (s.bslice k).restoreWaits then s.slicePort k else (s.runRoute k).port

/-- Meaning of BARROW_HOST_COMPLETION: it crosses to the Barrow from the port of the slice's plot, where cells of the I/O class are free (R169). -/
def execBarrowHostCompletion (slice : Nat) (status : CplStatus) (data : List Byte) (s : State) : Out :=
  whenWf s (decide (slice < 512)) (onlyIf (s.fabricOn && ((s.bslice slice).hostWaits.isSome || (s.bslice slice).restoreWaits) && s.queueRoom (s.answerPort slice / 8) clsIo)
    (tlpInside (s.answerPort slice) xbarBarrow (.hostCompletion slice status data)) s)

/-- The tick count since which a slice's host read waits, if one does (R330). -/
def BSlice.readSince (b : BSlice) : Option Nat :=
  if b.restoreWaits then b.job.map (·.since) else b.hostWaits

/-- Meaning of BARROW_HOST_READ_TIMEOUT. -/
def execBarrowHostReadTimeout (slice : Nat) (s : State) : Out :=
  whenWf s (decide (slice < 512)) (onlyIf (s.fabricOn && (match (s.bslice slice).readSince with
    | some n => decide (n + 16 ≤ s.tick)
    | none => false)) (hostCompletion slice .timeout []) s)

/-- The action bits of a write to SLC_CONTROL (R337). -/
def slcActs (v : BitVec 64) : List Nat := (List.range 7).filterMap (fun i => if v.getLsbD (i + 1) then some (i + 1) else none)

/-- The control request that an action bit asks for (R337). -/
def slcAct (b : BSlice) (i : Nat) : SliceAct :=
  let ad := BitVec.ofNat 64 (b.image.toNat / 4096 * 4096)
  if i = 1 then .freeze true else if i = 2 then .freeze false else if i = 3 then .thaw else if i = 4 then .reset
  else if i = 5 then .clearFault else if i = 6 then .save ad (b.image.getLsbD 0) else .restore ad (b.image.getLsbD 0)

/-- A BAR 2 action is pending (R337). -/
def BSlice.barPending (b : BSlice) : Bool :=
  b.pendingBar.isSome || b.freezeBar || (match b.job with | some j => j.byBar | none => false)

/-- A write to SLC_CONTROL (R337): it waits for the tick boundary. -/
def slcControl (k : Nat) (v : BitVec 64) (s : State) : State :=
  let b := s.bslice k
  if b.barPending then setOpResult k 3 s
  else if (slcActs v).length ≠ 1 then setOpResult k 6 s
  else s.modBslice k (fun x => { x with pendingBar := some (v.setWidth 8), opResult := 2 })

/-- A pending BAR 2 action at its tick boundary (R334, R337). -/
def slcBoundary (k : Nat) (s : State) : State :=
  let b := s.bslice k
  match b.pendingBar with
  | none => s
  | some v =>
    let s1 := s.modBslice k (fun x => { x with pendingBar := none })
    match slcActs (v.setWidth 64) with
    | [] => s1
    | i :: _ =>
      let r := sliceAct k (slcAct b i) true s1
      match r.1 with
      | .queued _ => r.2
      | .final st _ => setOpResult k (if st = stDone then 1 else 3) r.2

/-- A BAR 2 block belongs to a slice bound to a plot of a port (R321). -/
def State.slcOf (s : State) (port k : Nat) : Bool := decide ((s.bslice k).state ≠ .unbound ∧ s.slicePort k = port)

/-- A host's access to a BAR 2 block reaches a slice bound to a plot of its port (R321). -/
def State.barReaches (s : State) (port k : Nat) : Bool := s.ioReaches port && s.slcOf port k

/-- The value that a write of 4 or 8 bytes leaves in a 64-bit register that held `old` (R9): a 4-byte write changes one half. -/
def mergeHalf (old : BitVec 64) (offset size : Nat) (v : BitVec 64) : BitVec 64 :=
  if size = 8 then v
  else if offset % 8 = 0 then (old &&& 0xFFFFFFFF00000000#64) ||| (v &&& 0xFFFFFFFF#64)
  else (old &&& 0xFFFFFFFF#64) ||| (v <<< 32)

/-- The size and alignment of an I/O access of 4 or 8 bytes (R418). -/
def ioAligned (address : BitVec 64) (size : Nat) : Bool := (size == 4 || size == 8) && address.toNat % size == 0

/-- A host's write of an MSI-X table entry (R321); an entry unmasked while its vector waits sends it. -/
def msixWrite (port offset size : Nat) (v : BitVec 64) (s : State) : State :=
  let i := offset / 16
  let old := Tab.get (s.port port).msix msixReset i
  let sh := offset % 16 * 8
  let ones : BitVec 128 := (BitVec.ofNat 128 (2 ^ (8 * size) - 1)) <<< sh
  let e := (old &&& ~~~ ones) ||| ((v.setWidth 128 <<< sh) &&& ones)
  let s1 := s.modPort port (fun p => { p with msix := Tab.set p.msix msixReset i e })
  if !e.getLsbD 96 && (s1.port port).msixPending.contains i then
    sendMsix port i (s1.modPort port (fun p => { p with msixPending := p.msixPending.filter (· ≠ i) }))
  else s1

/-- A host's write to the Barrow function of its virtual switch (R321, R337): bits [63:32] of the address name the BAR (log 48). One of 4 or 8 bytes
to BAR 0 is no submission: it is discarded and counted on the function (R324). -/
def hostWrite (port : Nat) (address : BitVec 64) (size : Nat) (v : BitVec 64) (s : State) : State :=
  let o := bitsOf address 31 0
  let bar := bitsOf address 63 32
  if bar = 0 then submissionDropped port s
  else if !ioAligned address size then s
  else if bar = 2 ∧ o < 0x20000 then
    let k := o / 0x100
    if !s.slcOf port k then s
    else if o % 0x100 / 8 = 1 then slcControl k (mergeHalf 0 o size v) s
    else if o % 0x100 / 8 = 2 then
      s.modBslice k (fun b => { b with image := mergeHalf b.image o size v &&& 0xFFFFFFFFFFFFF001#64 })
    else s
  else if bar = 4 ∧ o < 0x400 then msixWrite port o size v s
  else s

/-- SLC_STATUS (R337). -/
def BSlice.status (b : BSlice) : Nat :=
  fieldAt b.lastSeq.toNat 48 + fieldAt (bit b.seqValid) 40 + fieldAt b.lastStatus.toNat 32 + fieldAt b.queue.length 24 +
  fieldAt b.opResult.toNat 20 + fieldAt (match b.state with | .unbound => 0 | .running => 1 | .freezing => 2 | .frozen => 3) 12 +
  fieldAt (bit b.fault) 9 + b.plot.toNat

/-- SLC_COUNTS (R337): each count saturates at the width that it is shown in. -/
def BSlice.counts (b : BSlice) : Nat :=
  fieldAt (min b.duplicates.toNat 0xFFFF) 48 + fieldAt (min b.refused.toNat 0xFFFF) 32 + min b.accepted.toNat 0xFFFFFFFF

/-- The word of 8 bytes of a slice's block (R337): SLC_CONTROL is write-only and reads 0. -/
def BSlice.blockWord (b : BSlice) (i : Nat) : Nat :=
  if i = 0 then b.status else if i = 2 then b.image.toNat else if i = 3 then b.counts else 0

/-- A byte of the Barrow function's BARs as a host of its virtual switch reads it (R321): the portal reads 0, a block of BAR 2 reads 0 unless its
slice is bound to a plot of the port, and BAR 4 holds the MSI-X table and the Pending Bit Array. -/
def State.barByte (s : State) (port bar o : Nat) : Byte :=
  if bar = 2 ∧ o < 0x20000 ∧ s.slcOf port (o / 0x100) then BitVec.ofNat 8 ((s.bslice (o / 0x100)).blockWord (o % 0x100 / 8) / 256 ^ (o % 8))
  else if bar = 4 ∧ o < 0x400 then BitVec.ofNat 8 ((Tab.get (s.port port).msix msixReset (o / 16)).toNat / 256 ^ (o % 16))
  else if bar = 4 ∧ 0x800 ≤ o ∧ o < 0x808 then
    BitVec.ofNat 8 (((s.port port).msixPending.foldl (fun n v => n + 2 ^ v) 0) / 256 ^ (o - 0x800))
  else 0

/-- A host's read of the Barrow function's BARs (R321, R337): bits [63:32] of the address name the BAR (log 48). -/
def hostRead (port : Nat) (address : BitVec 64) (length : Nat) (requester : BitVec 16) (tag : Nat) (s : State) : State :=
  let o := bitsOf address 31 0
  let bar := bitsOf address 63 32
  barrowTlp port 2 { kind := .cplD, requester := requester, tag := tag, egress := port, length := length,
                     data := (List.range length).map (fun i => s.barByte port bar (o + i)) } s

/-- A host's TLP reaches the Barrow (R321, R324, R330, R337). A write whose data is poisoned is dropped (log 73). -/
def barrowTakes (port : Nat) (t : IoIn) (s : State) : State :=
  match t with
  | .submission offset length deferrable pasid data => submissionOp port offset length deferrable pasid data s
  | .hostCompletion k st data => if (s.bslice k).hostWaits.isSome || (s.bslice k).restoreWaits then hostCompletion k st data s else s
  | .control k v => if s.slcOf port k then slcControl k v s else s
  | .bar address size v => hostWrite port address size v s
  | .barRead address length requester tag => hostRead port address length requester tag s
  | _ => s

/-- Meaning of SLC_CONTROL_FREEZE_COMPLETE. -/
def execSlcControlFreezeComplete (port slice : Nat) (s : State) : Out :=
  whenWf s (decide (port < 128) && decide (slice < 512)) (onlyIf (s.barReaches port slice) (tlpInside port xbarBarrow (.control slice 0x02)) s)
/-- Meaning of SLC_CONTROL_FREEZE_BOUNDARY. -/
def execSlcControlFreezeBoundary (port slice : Nat) (s : State) : Out :=
  whenWf s (decide (port < 128) && decide (slice < 512)) (onlyIf (s.barReaches port slice) (tlpInside port xbarBarrow (.control slice 0x04)) s)
/-- Meaning of SLC_CONTROL_THAW. -/
def execSlcControlThaw (port slice : Nat) (s : State) : Out :=
  whenWf s (decide (port < 128) && decide (slice < 512)) (onlyIf (s.barReaches port slice) (tlpInside port xbarBarrow (.control slice 0x08)) s)
/-- Meaning of SLC_CONTROL_RESET. -/
def execSlcControlReset (port slice : Nat) (s : State) : Out :=
  whenWf s (decide (port < 128) && decide (slice < 512)) (onlyIf (s.barReaches port slice) (tlpInside port xbarBarrow (.control slice 0x10)) s)
/-- Meaning of SLC_CONTROL_CLEAR_FAULT. -/
def execSlcControlClearFault (port slice : Nat) (s : State) : Out :=
  whenWf s (decide (port < 128) && decide (slice < 512)) (onlyIf (s.barReaches port slice) (tlpInside port xbarBarrow (.control slice 0x20)) s)
/-- Meaning of SLC_CONTROL_SAVE. -/
def execSlcControlSave (port slice : Nat) (s : State) : Out :=
  whenWf s (decide (port < 128) && decide (slice < 512)) (onlyIf (s.barReaches port slice) (tlpInside port xbarBarrow (.control slice 0x40)) s)
/-- Meaning of SLC_CONTROL_RESTORE. -/
def execSlcControlRestore (port slice : Nat) (s : State) : Out :=
  whenWf s (decide (port < 128) && decide (slice < 512)) (onlyIf (s.barReaches port slice) (tlpInside port xbarBarrow (.control slice 0x80)) s)
/-- Meaning of SLC_CONTROL_MALFORMED: a write with no action bit set, or with more than one. -/
def execSlcControlMalformed (port slice : Nat) (value : BitVec 64) (s : State) : Out :=
  whenWf s (decide (port < 128) && decide (slice < 512)) (onlyIf (s.barReaches port slice && decide ((slcActs value).length ≠ 1)) (tlpInside port xbarBarrow (.control slice value)) s)

/-- SLICE_UNBIND (R322, R323, R334): as a reset, then the entry and its PASID entries are cleared; the record of the running descriptor follows
its open requests. -/
def unbindSlice (k : Nat) (s : State) : State :=
  let s1 := resetSlice k s
  let s2 := if (s1.bslice k).runOver then descriptorDone k s1 else s1
  let w := s2.runRoute k
  (s2.modBslice k (fun b => { runNo := b.runNo, running := b.running.map (fun r => { r with after := some w }) })).modBarrow (fun x =>
    { x with pasids := x.pasids.filter (fun e => decide (e.2.slice.toNat ≠ k)) })

/-- Every slice bound to a plot is unbound (R66, R322). -/
def unbindPlot (plot : Nat) (s : State) : State :=
  forEach ((s.barrow.slices.filter (fun e => decide (e.2.state ≠ .unbound ∧ e.2.plot.toNat = plot))).map (·.1)) unbindSlice s

/-- SLICE_RESET of every bound slice without records (R336), after promotion. DEDUCED (log 108): a reset that stops the datapath resets the
slice and PASID tables themselves (R488). -/
def resetAllSlices (s : State) : State :=
  forEach ((s.barrow.slices.filter (fun e => decide (e.2.state ≠ .unbound))).map (·.1)) (fun k t =>
    (resetSlice k (t.modBslice k (fun b => { b with running := none })))) s

end Sys2Proof.Machine
end

