-- ==== Sys2Proof/Machine/PlotEv.lean ====
section
/-! DEFINITION. Plot commands and plot transitions (R62 to R72, R93, R389, R390). -/

namespace Sys2Proof.Machine

/-- The plot is in a state in which it takes no command (R66). -/
def Plot.moving (p : Plot) : Bool := decide (p.state = .draining ∨ p.state = .sanitizing)

/-- A vPPB shows its device, or shows its slot empty (R210): presence, DL_Active and the two changes. -/
def showDevice (port vppb : Nat) (present : Bool) (s : State) : State :=
  s.modVppb port vppb (fun v => { v with presence := present, dlActive := present, pdc := true, dllsc := true })

/-- A plot's balances are at their limits (R189). -/
def fillBalances (plot : Nat) (s : State) : State :=
  s.modQos plot (fun q => { q with readBal := BitVec.ofNat 20 (q.readCap.toNat * q.burst.toNat),
                                   writeBal := BitVec.ofNat 20 (q.writeCap.toNat * q.burst.toNat) })

/-- PLOT_CONFIGURE (R66, R390, R531). -/
def runPlotConfigure (c : Command) (s : State) : Ran :=
  let p := c.plotField
  let port := c.byte 16
  let slot := c.byte 17
  checks [((s.plot p).moving, stBusy), (decide ((s.plot p).state ≠ .free), stNotInMode),
          (decide (7 < slot ∨ 127 < port) || !(s.port port).upstream, stInvalidParam),
          ((s.plotAt port slot).isSome, stBusy)] s (fun s =>
    done (clearLive (plotStat p 0) 32 (s.modPlot p (fun x =>
      { x with state := .configured, port := BitVec.ofNat 7 port, vcsSlot := BitVec.ofNat 3 slot }))))

/-- Unmap a slot, keeping the home's mapping while another slot of the plot maps the same bed (R66, R75). -/
def unmapOne (p k : Nat) (s0 : State) : State :=
  let s := dropRelease p k s0
  let b := (s.plot p).slot k
  let s1 := s.modSlot p k (fun _ => {})
  if (s1.plot p).maps b.home.toNat b.bed.toNat then s1 else unmapSlot p k s

/-- PLOT_RELEASE (R66, R188): every slot is unmapped, every Barrow slice unbound, and the QoS entry returns to its reset values. A command that
is still queued ends, for the plot is FREE (R67). -/
def runPlotRelease (c : Command) (s : State) : Ran :=
  let p := c.plotField
  checks [((s.plot p).moving, stBusy), (decide ((s.plot p).state ≠ .configured), stNotInMode)] s (fun s =>
    let s1 := forEach ((s.plot p).validSlots.map (·.1)) (unmapOne p) s
    let s2 := finishJob (.plotQueued p) stNotInMode [] (unbindPlot p s1)
    done ((s2.modPlot p (fun x => { nextHandle := x.nextHandle })).modQos p (fun _ => {})))

/-- A window of a plot's synthesised device is free (R65): below 32 TiB, a multiple of the bed's ways, beside every other slot. -/
def Plot.windowFree (p : Plot) (k base span ways : Nat) : Bool :=
  decide (base + span ≤ 2 ^ 17) && decide (base % 2 ^ ways = 0) &&
  !p.validSlots.any (fun e => decide (e.1 ≠ k ∧ base < e.2.dpaBase.toNat + e.2.span.toNat ∧ e.2.dpaBase.toNat < base + span))

/-- Another plot on the plot's port maps the bed (R65). -/
def State.portMaps (s : State) (p home bed : Nat) : Bool :=
  s.pool.plots.any (fun e => decide (e.1 ≠ p ∧ e.2.state ≠ .free ∧ e.2.port = (s.plot p).port) && e.2.maps home bed)

/-- A slot maps a bed, and an ACTIVE plot offers its count (R64, R66). -/
def putSlot (p k home bed base span count ways : Nat) (s : State) : State :=
  let b : BedSlot :=
    { valid := true, home := BitVec.ofNat 4 home, bed := BitVec.ofNat 12 bed, span := BitVec.ofNat 15 span,
      dpaBase := BitVec.ofNat 17 base, remoteCount := count, remoteWays := ways }
  let s1 := s.modSlot p k (fun _ => b)
  if (s1.plot p).state = .active then offerSlot p k s1 else s1

/-- PLOT_MAP_BED of a bed of this home (R65, R75). -/
def mapLocal (p k bed base : Nat) (s : State) : Ran :=
  let b := s.bed bed
  let again := (s.plot p).maps s.self bed
  checks [(decide (b.state = .releasing), stBusy), (decide (b.state ≠ .defined), stNotInMode),
          (!(s.plot p).windowFree k base b.span.toNat b.ways.toNat || s.portMaps p s.self bed, stInvalidParam)] s
    (fun s =>
      if again then done (putSlot p k s.self bed base b.span.toNat 0 0 s)
      else match mapAtHome bed s.self (s.plot p).port.toNat s with
        | some t => done (putSlot p k s.self bed base b.span.toNat 0 0 t)
        | none => refuse stNoResource s)

/-- PLOT_MAP_BED (R65, R66, R93): a remote home is asked first. DESIGN CHOICE (log 69): a slot whose earlier remote map still waits for its
answer is refused with BUSY, as a valid one. -/
def runPlotMapBed (c : Command) (s : State) : Ran :=
  let p := c.plotField
  let k := c.byte 16
  let home := c.byte 17
  let bed := c.num 18 2
  let base := c.num 20 4
  checks [((s.plot p).moving, stBusy), (decide ((s.plot p).state = .free), stNotInMode),
          (decide (7 < k ∨ 15 < home ∨ 4095 < bed ∨ 2 ^ 17 ≤ base), stInvalidParam),
          (((s.plot p).slot k).valid || s.pool.remoteMaps.any (fun r => decide (r.plot = p ∧ r.slot = k)), stBusy)] s (fun s =>
    if home = s.self then mapLocal p k bed base s
    else match (s.plot p).validSlots.find? (fun e => decide (e.2.home.toNat = home ∧ e.2.bed.toNat = bed)) with
    | some e =>
      if (s.plot p).windowFree k base e.2.span.toNat e.2.remoteWays then
        done (putSlot p k home bed base e.2.span.toNat e.2.remoteCount e.2.remoteWays s)
      else refuse stInvalidParam s
    | none =>
      if s.portMaps p home bed then refuse stInvalidParam s
      else queuedFor (.remoteMap p k) (sendMgmt home (.mapQuery bed (s.plot p).port.toNat p k)
        (s.modPool (fun x => { x with remoteMaps := x.remoteMaps ++
          [{ plot := p, slot := k, home := home, bed := bed, dpaBase := base, port := (s.plot p).port.toNat, sent := s.tick }] }))))

/-- A home has told whether more than one plot maps a bed (R84). -/
def sharedRecord (home bed port : Nat) (shared : Bool) (s : State) : State :=
  forEach (s.plotsWhere (fun p => decide (p.port.toNat = port))) (fun p t => t.modPlot p (fun x => { x with
    slots := x.slots.map (fun e => if e.2.valid && decide (e.2.home.toNat = home ∧ e.2.bed.toNat = bed) then (e.1, { e.2 with remoteShared := shared }) else e) })) s

/-- A home answers another device's question (R93): the status, and with DONE the bed's span, count and ways. -/
def mapQueryOp (src bed port plot slot : Nat) (s : State) : State :=
  let b := s.bed bed
  let say (st : Nat) (t : State) : State :=
    sendMgmt src (.mapAnswer plot slot (BitVec.ofNat 16 st) b.span.toNat b.count.toNat b.ways.toNat (decide (1 < (t.bed bed).mapCount.toNat))) t
  if b.state = .releasing then say stBusy s
  else if b.state ≠ .defined ∨ !b.exports.contains (BitVec.ofNat 4 src) then say stInvalidParam s
  else match mapAtHome bed src port s with
    | some t => say stDone t
    | none => say stNoResource s

/-- A PLOT_MAP_BED has had no answer for 64 ticks (R93). -/
def State.mapLate (s : State) (r : RemoteMap) : Bool := decide (r.sent + 64 ≤ s.tick)

/-- REMOTE_MAP_TIMEOUT (R93). -/
def mapTimeout (plot slot : Nat) (s : State) : State :=
  finishJob (.remoteMap plot slot) stTimeout [] (s.modPool (fun x =>
    { x with remoteMaps := x.remoteMaps.filter (fun r => !decide (r.plot = plot ∧ r.slot = slot)) }))

/-- The home's answer to a PLOT_MAP_BED (R65, R66, R93): with DONE the plot's state and the conditions of R65 are judged again, and a mapping
that is not used is given back; a plot that has been released and configured on another port does not use it. A plot that maps the bed in another slot already counts once at the home. DESIGN CHOICE (log 68): an answer
that comes after the 64 ticks is dropped, and the home's count and agent stay; an answer to a plot that has been released and configured again
on the same port while the command waited serves the plot as it stands. -/
def mapAnswerOp (plot slot status span count ways : Nat) (shared : Bool) (s : State) : State :=
  match s.pool.remoteMaps.find? (fun r => decide (r.plot = plot ∧ r.slot = slot) && !s.mapLate r) with
  | none => s
  | some r =>
    let s1 := s.modPool (fun x => { x with remoteMaps := x.remoteMaps.filter (fun y => y ≠ r) })
    let giveBack (t : State) : State := sendMgmt r.home (.unmap r.bed r.port plot) t
    let ends (st : Nat) (t : State) : State := finishJob (.remoteMap plot slot) st [] t
    if status ≠ stDone then ends status s1
    else if (s1.plot plot).state = .free ∨ (s1.plot plot).port.toNat ≠ r.port then ends stNotInMode (giveBack s1)
    else if (s1.plot plot).moving then ends stBusy (giveBack s1)
    else if !(s1.plot plot).windowFree slot r.dpaBase span ways || s1.portMaps plot r.home r.bed then ends stInvalidParam (giveBack s1)
    else
      let s2 := if (s1.plot plot).maps r.home r.bed then giveBack s1 else s1
      sharedRecord r.home r.bed r.port shared (putSlot plot slot r.home r.bed r.dpaBase span count ways (ends stDone s2))

/-- Meaning of REMOTE_MAP_TIMEOUT. -/
def execRemoteMapTimeout (plot slot : Nat) (s : State) : Out :=
  whenWf s (decide (plot < 512) && decide (slot < 8))
    (onlyIf (s.serving && s.pool.remoteMaps.any (fun r => decide (r.plot = plot ∧ r.slot = slot) && s.mapLate r))
      (mapTimeout plot slot) s)

/-- PLOT_UNMAP_BED (R66, R390). -/
def runPlotUnmapBed (c : Command) (s : State) : Ran :=
  let p := c.plotField
  let k := c.byte 16
  checks [((s.plot p).moving, stBusy), (decide ((s.plot p).state = .free), stNotInMode),
          (decide (7 < k) || !((s.plot p).slot k).valid, stInvalidParam),
          (decide ((s.plot p).state = .active ∧ 0 < ((s.plot p).slot k).accepted.toNat), stBusy)] s (fun s =>
    done ((unmapOne p k s).modPlot p (fun x => { x with events := x.events.filter (fun e => e.slot ≠ k) })))

/-- PLOT_SET_SANITIZE (R66). -/
def runPlotSetSanitize (c : Command) (s : State) : Ran :=
  let p := c.plotField
  checks [((s.plot p).moving, stBusy), (decide ((s.plot p).state ≠ .configured), stNotInMode)] s (fun s =>
    done (s.modPlot p (fun x => { x with sanitizeOff := decide (c.byte 16 % 2 = 1) })))

/-- A PLOT_ENABLE or PLOT_RESET of a plot that drains or sanitises is recorded in queued (R66, R67). -/
def queuePlot (c : Command) (q : Queued) (s : State) : Ran :=
  let p := c.plotField
  if (s.plot p).queued = .none then
    queuedFor (.plotQueued p) (s.modPlot p (fun x => { x with queued := q, queuedRing := BitVec.ofNat 4 c.ring, queuedTag := c.tag }))
  else refuse stBusy s

/-- A plot enters ACTIVE (R66, R88, R189, R210). -/
def enablePlot (p : Nat) (s : State) : State :=
  let s1 := s.modPlot p (fun x => { x with state := .active })
  offerAll p (showDevice (s.plot p).port.toNat (s.plot p).vcsSlot.toNat true (fillBalances p s1))

/-- PLOT_ENABLE (R66). -/
def runPlotEnable (c : Command) (s : State) : Ran :=
  let p := c.plotField
  match (s.plot p).state with
  | .free => refuse stNotInMode s
  | .configured => done (enablePlot p s)
  | .active => done s
  | _ => queuePlot c .enable s

/-- Requests of a plot that wait in its hold queues are answered as in step 1 of R69, and its writes go to their homes. -/
def refuseHeld (p : Nat) (s : State) : State :=
  let q := s.qos p
  let s1 := s.modQos p (fun x => { x with readHeld := [], writeHeld := [] })
  let s2 := forEach q.readHeld (fun r t => refuseHost r (some p) (if r.op = .memInv then t else plotCount p 11 1 t)) s1
  forEach q.writeHeld (fun r t => submit r true t) s2

/-- A plot enters DRAINING (R69, R88, R335). -/
def startDrain (p : Nat) (isReset clear : Bool) (s : State) : State :=
  let s1 := s.modPlot p (fun x => { x with
    state := .draining, events := [], drain := some { started := s.tick, isReset := isReset, clear := clear } })
  refuseHeld p (drainSlices p s1)

/-- PLOT_DISABLE (R66). -/
def runPlotDisable (c : Command) (s : State) : Ran :=
  let p := c.plotField
  match (s.plot p).state with
  | .free => refuse stNotInMode s
  | .configured => done s
  | .active => queuedFor (.plot p) (startDrain p false false s)
  | _ => refuse stBusy s

/-- PLOT_RESET with its clear bit (R66). -/
def runPlotReset (c : Command) (s : State) : Ran :=
  let p := c.plotField
  let clear := decide (c.byte 16 % 2 = 1)
  match (s.plot p).state with
  | .free => refuse stNotInMode s
  | .configured => done (s.modPlot p (fun x => { x with fault := false }))
  | .active => queuedFor (.plot p) (startDrain p true clear s)
  | _ => queuePlot c (if clear then .resetClear else .reset) s

/-- Transactions that meet a test are open at the home slices, or on their way to them. -/
def State.anyOpen (s : State) (mine : Txn → Bool) : Bool :=
  (List.range 8).any (fun sl =>
    let x := s.slice sl
    x.txns.any (fun e => mine e.2 && !e.2.lostReq) || x.input.any mine || x.waiting.any mine || x.work.any mine ||
      (s.flying sl).any mine || x.heldCmps.any (fun h => mine h.2))

/-- Open transactions of a plot (R69 step 2, R335): at the slices here, of its Barrow slices, and on their way to another device. -/
def State.plotOpen (s : State) (p : Nat) : Bool :=
  s.slicesOpen p || s.anyOpen (fun t => decide (t.plot = p ∧ t.device = s.self ∧ t.req ≠ .home)) ||
    (s.switch.voq ++ s.switch.staging).any (fun c =>
      (c.trunk.toList ++ c.also).any (fun m => decide (m.kind = 0 ∧ m.srcDev.toNat = s.self ∧ m.plot.toNat = p)))

/-- A sweep of an agent over some beds still reads, or work of one is left (R69 step 3). -/
def State.sweepsOpen (s : State) (a : Nat) (beds : List Nat) : Bool :=
  s.scanRuns (fun k => decide (k = .sweep a beds)) || (List.range 8).any (fun sl => !(s.slice sl).scanClear a)

/-- The beds of other devices that a plot maps: home and bed. -/
def State.remoteBeds (s : State) (p : Nat) : List (Nat × Nat) :=
  ((s.plot p).validSlots.filterMap (fun e => if e.2.home.toNat = s.self then none else some (e.2.home.toNat, e.2.bed.toNat))).dedup

/-- The homes of a plot's remote beds are asked to do their part of its drain or sanitising (R69, R71, R92; log 72). -/
def askHomes (p : Nat) (body : Nat → MgmtBody) (s : State) : State :=
  let l := s.remoteBeds p
  forEach l (fun r t => sendMgmt r.1 (body r.2) t) (s.modPlot p (fun x => { x with drain := x.drain.map (fun d => { d with remote := l }) }))

/-- A plot's drain runs on to the next of its steps that can begin (R69): the homes of its remote beds do theirs meanwhile (R92). -/
def drainStep (p : Nat) (s : State) : State :=
  let x := s.plot p
  match x.drain with
  | none => s
  | some d =>
    let goTo (n : Nat) (t : State) : State := t.modPlot p (fun y => { y with drain := y.drain.map (fun e => { e with step := n, since := s.tick }) })
    if x.state ≠ .draining then s
    else if d.step = 0 then
      if s.plotOpen p then s
      else
        let s1 := askHomes p (fun b => .plotDrain b x.port.toNat p) (goTo 1 s)
        match s.plotAgent p with
        | some a => startDirScan (.sweep a (s.localBeds p)) s1
        | none => s1
    else if d.step = 1 then
      if decide (s.tick < d.since + 512) || (match s.plotAgent p with | some a => s.sweepsOpen a (s.localBeds p) | none => false) then s
      else forEach (s.privateBeds p) (fun b t => startFlush { bed := some b, plot := some p } t) (goTo 2 s)
    else if d.step = 2 then
      let mine := (s.home.flushes.filter (fun f => decide (f.2.plot = some p))).map (·.1)
      if mine.any (fun j => !s.flushEnded j) || !d.remote.isEmpty then s
      else (goTo 3 s).modHome (fun h => { h with flushes := h.flushes.filter (fun f => decide (f.2.plot ≠ some p)) })
    else s

/-- The flushes of a plot's drain are over and every other home has answered: the next tick boundary ends the drain (R69). -/
def State.drainDue (s : State) (p : Nat) : Bool :=
  match (s.plot p).drain with
  | some d => decide ((s.plot p).state = .draining ∧ d.step = 2) && d.remote.isEmpty &&
      s.home.flushes.all (fun f => decide (f.2.plot ≠ some p) || s.flushEnded f.1)
  | none => false

/-- The drain of a plot has run to its end (R69). -/
def State.drained (s : State) (p : Nat) : Bool :=
  let x := s.plot p
  decide (x.state = .draining) && (match x.drain with | some d => decide (d.step = 3) | none => false)

/-- Extents of a plot's private beds are still to be zeroed here (R71), or another home has not answered. -/
def State.sanitizing (s : State) (p : Nat) : Bool :=
  (match (s.plot p).drain with | some d => !d.remote.isEmpty | none => false) || (s.privateBeds p).any (fun b => ((s.bed b).extents 0 (s.bed b).count.toNat).any (fun i => (s.extent i).sanitize))

/-- SANITIZING ends (R66, R71): the plot is CONFIGURED after DISABLE and ACTIVE after RESET, and the causing command ends. DESIGN
CHOICE (log 92): where the drain timed out (R70) and an extent has failed to zero too (R71), its final receipt carries TIMEOUT. -/
def endSanitize (p : Nat) (s : State) : State :=
  match (s.plot p).drain with
  | none => s
  | some d =>
    let s1 := s.modPlot p (fun x => { x with
      state := if d.isReset then .active else .configured, fault := x.fault && !d.isReset, drain := none, leftTick := s.tick })
    let s2 := if d.isReset then fillBalances p s1 else showDevice (s.plot p).port.toNat (s.plot p).vcsSlot.toNat false s1
    finishJob (.plot p) (if d.timedOut then stTimeout else if d.failed then stFaulted else stDone) [] s2

/-- A plot enters SANITIZING (R66, R69 step 5, R71): zeroing of its private beds, or zero ticks. -/
def startSanitize (p : Nat) (s : State) : State :=
  let x := s.plot p
  match x.drain with
  | none => s
  | some d =>
    let s0 := s.modPlot p (fun y => { y with state := .sanitizing, slots := y.slots.map (fun e => (e.1, { e.2 with accepted := 0 })),
                                             drain := some { d with remote := [] } })
    let s1 := forEach (x.validSlots.map (·.1)) (dropRelease p) s0
    if if d.isReset then !d.clear else x.sanitizeOff then endSanitize p s1
    else
      let s2 := askHomes p (fun b => .plotZero b x.port.toNat p) (markSanitize p s1)
      if s2.sanitizing p then s2 else endSanitize p s2

/-- The agent of a plot is treated as lost for the plot's beds in one slice (R70, R126, R128). -/
def loseForBeds (a : Nat) (beds : List Nat) (sl : Nat) (s : State) : State :=
  let mine (t : Txn) : Bool := decide (t.req = .agent a ∧ t.bed ∈ beds) && !t.cls.isWrite
  let s0 := (dropFlying sl mine s).modSlice sl (fun x => { x with
    waiting := x.waiting.filter (fun t => !mine t), input := x.input.filter (fun t => !mine t),
    txns := (x.txns.filter (fun e => !(mine e.2 && decide (e.2.phase = .rowed ∨ e.2.phase = .overflow ∨ e.2.phase = .relook)))).map
      (fun e => if mine e.2 then (e.1, { e.2 with lostReq := true }) else e) })
  let hit (e : Nat × Txn) : Bool := decide (a ∈ e.2.waiting) && decide (e.2.bed ∈ beds)
  let open' := ((s0.slice sl).txns.filter hit).map (·.1)
  settle sl (forEach open' (fun i t =>
    responsesIn sl i (modTxn sl i (fun y => { y with waiting := y.waiting.filter (· ≠ a) }) (lostAnswer sl i a t))) s0)

/-- An agent is lost for some beds of this home (R70, R127). -/
def loseAgentAt (a : Nat) (beds : List Nat) (s : State) : State :=
  forEach (List.range 8) (loseForBeds a beds) (s.modAgent a (fun y => { y with lossBeds := y.lossBeds ++ beds, lossDue := true }))

/-- PLOT_DRAIN_TIMEOUT (R70): the homes of remote beds that have not answered are told (log 72). -/
def drainTimeout (p : Nat) (s : State) : State :=
  let s0 := match (s.plot p).drain with
    | some d => forEach d.remote (fun r t => sendMgmt r.1 (.plotLost r.2 (s.plot p).port.toNat p) t) s
    | none => s
  let s1 := match s.plotAgent p with
    | some a => loseAgentAt a (s.localBeds p) s0
    | none => s0
  let s2 := s1.modPlot p (fun x => { x with drain := x.drain.map (fun d => { d with timedOut := true }) })
  let s3 := s2.modHome (fun h => { h with flushes := h.flushes.filter (fun f => decide (f.2.plot ≠ some p)) })
  startSanitize p (plotEvent p s3)

/-- A home has answered for its bed (R69, R71; log 72). -/
def homeAnswered (p home bed : Nat) (state : PlotState) (failed : Bool) (s : State) : State :=
  if (s.plot p).state ≠ state then s
  else s.modPlot p (fun x => { x with drain := x.drain.map (fun d =>
    { d with remote := d.remote.filter (· ≠ (home, bed)), failed := d.failed || failed }) })

/-- DESIGN CHOICE (log 72): a home to which no route leads any more answers no plot in SANITIZING; its bed counts as failed there. -/
def dropUnreachable (p : Nat) (s : State) : State :=
  s.modPlot p (fun x => { x with drain := x.drain.map (fun d =>
    { d with remote := d.remote.filter (fun r => (s.routeTo r.1).isSome), failed := d.failed || d.remote.any (fun r => (s.routeTo r.1).isNone) }) })

/-- A device's plot maps a bed of this home (R93). -/
def State.mappedFrom (s : State) (device port bed : Nat) : Bool := (s.bed bed).remote.contains (device, port)

/-- A plot of another device drains: this home does its part for one bed (R69, R92; log 72). -/
def remoteDrainStarts (device port plot bed : Nat) (s : State) : State :=
  if s.mappedFrom device port bed then
    s.modPool (fun p => { p with remoteDrains := p.remoteDrains ++ [{ device := device, port := port, plot := plot, bed := bed }] })
  else sendMgmt device (.plotDrained bed plot) s

/-- The drain of a plot of another device has timed out: its agent is lost for the bed (R70; log 72). -/
def remoteDrainLost (device port plot bed : Nat) (s : State) : State :=
  let mine (r : RemoteDrain) : Bool := decide (r.device = device ∧ r.plot = plot ∧ r.bed = bed)
  let jobs := (s.pool.remoteDrains.filter mine).filterMap (·.job)
  let s1 := (s.modPool (fun p => { p with remoteDrains := p.remoteDrains.filter (fun r => !mine r) })).modHome (fun h =>
    { h with flushes := h.flushes.filter (fun f => !jobs.contains f.1) })
  if s.mappedFrom device port bed then
    match s.agentOf device port with
    | some a => loseAgentAt a [bed] s1
    | none => s1
  else s1

/-- A plot of another device sanitises a bed of this home that no other plot maps (R71; log 72). -/
def remoteZeroStarts (device port plot bed : Nat) (s : State) : State :=
  if s.mappedFrom device port bed ∧ (s.bed bed).mapCount = 1 then
    (markExtents ((s.bed bed).extents 0 (s.bed bed).count.toNat) s).modPool (fun p => { p with remoteDrains := p.remoteDrains ++
      [{ device := device, port := port, plot := plot, bed := bed, step := 4 }] })
  else sendMgmt device (.plotZeroed bed plot false) s

/-- The step that one drain of another device's plot stands at goes on (R69, R71): what is left of it, and the state after. -/
def remoteDrainStep (r : RemoteDrain) (s : State) : Option RemoteDrain × State :=
  let ends (t : State) : Option RemoteDrain × State := (none, sendMgmt r.device (.plotDrained r.bed r.plot) t)
  match r.step with
  | 0 =>
    if s.anyOpen (fun t => decide (t.device = r.device ∧ t.plot = r.plot ∧ t.bed = r.bed ∧ t.req ≠ .home)) then (some r, s)
    else match s.agentOf r.device r.port with
      | some a => (some { r with step := 1, since := s.tick }, startDirScan (.sweep a [r.bed]) s)
      | none => (some { r with step := 1, since := s.tick }, s)
  | 1 =>
    if decide (s.tick < r.since + 512) || (match s.agentOf r.device r.port with | some a => s.sweepsOpen a [r.bed] | none => false) then (some r, s)
    else if (s.bed r.bed).mapCount = 1 then (some { r with step := 2, job := some s.home.nextFlush }, startFlush { bed := some r.bed } s)
    else ends s
  | 2 =>
    match r.job with
    | none => ends s
    | some j => if s.flushEnded j then ends (s.modHome (fun h => { h with flushes := Tab.drop h.flushes j })) else (some r, s)
  | _ =>
    if ((s.bed r.bed).extents 0 (s.bed r.bed).count.toNat).any (fun i => (s.extent i).sanitize) then (some r, s)
    else (none, sendMgmt r.device (.plotZeroed r.bed r.plot r.failed) s)

/-- Drains of other devices' plots go on at a tick boundary (R69, R71). -/
def remoteDrainSteps (s : State) : State :=
  forEach s.pool.remoteDrains (fun r t =>
    let a := remoteDrainStep r t
    let left (l : List RemoteDrain) : List RemoteDrain := l.erase r ++ a.1.toList
    a.2.modPool (fun p => { p with remoteDrains := left p.remoteDrains })) s

/-- A drain has run for 4,096 ticks (R70). -/
def State.drainLate (s : State) (p : Nat) : Bool :=
  decide ((s.plot p).state = .draining) && !s.drained p &&
    (match (s.plot p).drain with | some d => decide (d.started + 4096 ≤ s.tick) | none => false)

/-- End one command in QUEUED, named by its ring and tag (R359). -/
def endOne (ring origin : Nat) (tag : BitVec 32) (status : Nat) (result : List Byte) (s : State) : State :=
  let mine (j : Job) : Bool := decide (j.ring = ring ∧ j.origin = origin ∧ j.tag = tag)
  match s.teller.jobs.find? mine with
  | none => s
  | some j =>
    writeReceipt j.ring j.origin j.tag j.opcode status result none
      (s.modTeller (fun t => { t with jobs := t.jobs.filter (fun x => !mine x) }))

/-- A queued command runs (R67): on the state reached, with its original tag; a PLOT_RESET of an ACTIVE plot goes on to its drain. -/
def runQueued (p : Nat) (s : State) : State :=
  let x := s.plot p
  let s1 := s.modPlot p (fun y => { y with queued := .none, queuedRing := 0, queuedTag := 0 })
  let k : JobKind := .plotQueued p
  match x.queued, x.state with
  | .none, _ => s
  | _, .free => finishJob k stNotInMode [] s1
  | .enable, .configured => finishJob k stDone [] (enablePlot p s1)
  | .enable, _ => finishJob k stDone [] s1
  | _, .configured => finishJob k stDone [] (s1.modPlot p (fun y => { y with fault := false }))
  | q, _ =>
    startDrain p true (decide (q = .resetClear)) (s1.modTeller (fun t => { t with
      jobs := mapIf (fun j => decide (j.kind = k)) (fun j => { j with kind := .plot p }) t.jobs }))

/-- A plot has a queued command and left SANITIZING before this tick boundary (R67). -/
def State.queuedReady (s : State) (p : Nat) : Bool :=
  decide ((s.plot p).queued ≠ .none ∧ (s.plot p).leftTick < s.tick) && !(s.plot p).moving

/-- PLOT_SET_QOS (R66, R188, R189): in effect at the plot's next replenishment beat. -/
def runPlotSetQos (c : Command) (s : State) : Ran :=
  let r := c.num 16 2
  let w := c.num 18 2
  let b := c.byte 20
  checks [((s.plot c.plotField).moving, stBusy), (decide ((s.plot c.plotField).state = .free), stNotInMode),
          (decide ((r ≠ 0 ∧ r < 4) ∨ (w ≠ 0 ∧ w < 4) ∨ b = 0 ∨ 15 < b ∨ c.byte 21 = 0), stInvalidParam)] s (fun s =>
    done (s.modQos c.plotField (fun q => { q with pending := some (r, w, b, c.byte 21) })))

/-- PLOT_READ (R389). -/
def runPlotRead (c : Command) (s : State) : Ran :=
  doneWith (plotBytes s c.plotField ++ bytesOf 16 128 (BitVec.ofNat 128 (s.qos c.plotField).image)) s

end Sys2Proof.Machine
end

