-- ==== Sys2Proof/Machine/BedEv.lean ====
section
/-! DEFINITION. Bed and extent commands (R73 to R78, R85 to R94, R391, R392), and migrations (R341 to R345). -/

namespace Sys2Proof.Machine

/-- An index lies in another bed's span (R74). -/
def State.spanTaken (s : State) (bed base span : Nat) : Bool :=
  s.pool.beds.any (fun e => decide (e.1 ≠ bed ∧ e.2.state ≠ .free ∧ base < e.2.base.toNat + e.2.span.toNat ∧
    e.2.base.toNat < base + span))

/-- BED_DEFINE (R73, R74, R146, R392). -/
def runBedDefine (c : Command) (s : State) : Ran :=
  let bed := c.num 16 2
  let span := c.num 18 2
  let base := c.num 20 4
  let f := c.byte 24
  let ways := c.byte 25
  let gran := c.byte 26
  let ripen := c.num 28 2
  checks [(decide (4095 < bed ∨ span = 0 ∨ 16384 < span ∨ 4 < ways ∨ 6 < gran ∨ ripen = 0 ∨ 953 < ripen ∨ f / 2 % 4 = 3 ∨
            (f / 2 % 4 = 2 ∧ f % 2 = 0) ∨ span % 2 ^ ways ≠ 0 ∨ 2 ^ 20 < base + span) || s.spanTaken bed base span, stInvalidParam),
          (decide ((s.bed bed).state ≠ .free), stBusy)] s (fun s =>
    let b : Bed :=
      { state := .defined, mosi := decide (f % 2 = 1), vault := policyOf (f / 2 % 4), async := decide (f / 8 % 2 = 1),
        ways := BitVec.ofNat 3 ways, gran := BitVec.ofNat 3 gran, ripen := BitVec.ofNat 10 ripen, base := BitVec.ofNat 20 base,
        span := BitVec.ofNat 15 span }
    done (s.modBed bed (fun _ => b)))

/-- BED_UNDEFINE (R94, R392). -/
def runBedUndefine (c : Command) (s : State) : Ran :=
  let bed := c.num 16 2
  checks [(decide (4095 < bed), stInvalidParam),
          (decide ((s.bed bed).state ≠ .defined ∨ (s.bed bed).mapCount ≠ 0) || !(s.bed bed).exports.isEmpty, stBusy)] s (fun s =>
    queuedFor (.bedUndefine bed) (releaseBed bed s))

/-- BED_SET_POLICY (R74, R94, R146, R392): a change of ripen alone needs no scan. -/
def runBedSetPolicy (c : Command) (s : State) : Ran :=
  let bed := c.num 16 2
  let v := c.byte 18
  let ripen := c.num 20 2
  let b := s.bed bed
  checks [(decide (4095 < bed ∨ 2 < v ∨ ripen = 0 ∨ 953 < ripen ∨ (v = 2 ∧ !b.mosi)), stInvalidParam),
          (decide (b.state = .releasing) || !b.policyScan.isEmpty, stBusy), (decide (b.state = .free), stNotInMode)] s (fun s =>
    let s1 := s.modBed bed (fun x => { x with vault := policyOf v, ripen := BitVec.ofNat 10 ripen })
    if policyOf v = b.vault then queuedFor (.policy bed) (finishJob (.policy bed) stDone [] s1)
    else queuedFor (.policy bed)
      (s1.modBed bed (fun x => { x with policyScan := List.range 8, policyStart := s1.time.beats, policySets := 0 })))

/-- BED_GROW (R85, R94, R392): joining extents with zeroed 0 are zeroed. -/
def runBedGrow (c : Command) (s : State) : Ran :=
  let bed := c.num 16 2
  let k := c.num 18 2
  let b := s.bed bed
  checks [(decide (4095 < bed), stInvalidParam), (decide (b.state = .releasing) || b.resize.isSome, stBusy),
          (decide (b.state = .free), stNotInMode),
          (decide (b.span.toNat < b.count.toNat + k * 2 ^ b.ways.toNat) ||
            (b.joining k).any (fun i => decide ((s.extent i).state ≠ .defined)), stInvalidParam)] s (fun s =>
    let s1 := s.modBed bed (fun x => { x with resize := some { grow := true, sets := k } })
    queuedFor (.grow bed) (forEach (b.joining k) (fun i t => t.modExtent i (fun e =>
      if e.zeroed then e else { e with state := .zeroing, toBound := false })) s1))

/-- Plots of this device, and remote plots by 512 + 128 × device + port, that map a bed. -/
def State.bedUsers (s : State) (bed : Nat) : List Nat := s.plotsOfBed bed ++ (s.bed bed).remote.map (fun r => 512 + 128 * r.1 + r.2)

/-- Capacity events of a kind for stripe sets lo to hi - 1 of a bed, to every plot of some users (R85, R87): plots of this device, and
other devices by record. `count` is the bed's count after the change. -/
def bedCapacity (bed kind lo hi count : Nat) (users : List Nat) (s : State) : State :=
  forEach users (fun u t =>
    if u < 512 then
      forEach (((t.plot u).validSlots.filter (fun e => decide (e.2.home.toNat = t.self ∧ e.2.bed.toNat = bed))).map (·.1))
        (fun k v => slotCapacity u k kind ((List.range hi).drop lo) v) t
    else
      sendMgmt ((u - 512) / 128) (.capacity bed ((u - 512) % 128) count (decide (kind ≠ 0)) (decide (kind = 2)) ((List.range hi).drop lo)) t) s

/-- A plot of this device has accepted positions of a bed at or above a count (R87). -/
def State.covers (s : State) (plot bed count : Nat) : Bool :=
  (s.plot plot).validSlots.any (fun e => decide (e.2.home.toNat = s.self ∧ e.2.bed.toNat = bed ∧ count < e.2.accepted.toNat))

/-- BED_SHRINK (R87, R94, R341, R392). -/
def runBedShrink (c : Command) (s : State) : Ran :=
  let bed := c.num 16 2
  let k := c.num 18 2
  let b := s.bed bed
  let n := b.count.toNat / 2 ^ b.ways.toNat
  let left := b.count.toNat - k * 2 ^ b.ways.toNat
  let limit := if c.num 24 4 = 0 then 1048576 else c.num 24 4
  checks [(decide (4095 < bed), stInvalidParam), (decide (b.state = .releasing) || b.resize.isSome, stBusy),
          (decide (b.state = .free), stNotInMode), (decide (n < k), stInvalidParam),
          ((b.extents left (b.count.toNat - left)).any (fun i => decide ((s.extent i).state = .migrating)), stBusy)] s (fun s =>
    let users := (s.bedUsers bed).filter (fun u => (decide (512 ≤ u) && decide (0 < k)) || s.covers u bed left)
    let r : Resize := { grow := false, sets := k, force := decide (c.byte 20 % 2 = 1), deadline := s.tick + limit, waiting := users }
    queuedFor (.shrink bed) (bedCapacity bed 1 (n - k) n left users (s.modBed bed (fun x => { x with resize := some r }))))

/-- Work of back-invalidations of an extent's lines is left. -/
def State.extentSwept (s : State) (exts : List Nat) : Bool :=
  let mine (t : Txn) : Bool := decide (t.cls = .sweep) && exts.contains (extentOf t.pl)
  !(List.range 8).any (fun sl => let x := s.slice sl
    x.work.any mine || x.input.any mine || x.txns.any (fun e => mine e.2))

/-- The extents that a shrinking bed gives up (R87). -/
def Bed.leaving (b : Bed) (k : Nat) : List Nat :=
  let left := b.count.toNat - k * 2 ^ b.ways.toNat
  b.extents left (b.count.toNat - left)

/-- The hosts' copies of some extents' lines are back-invalidated (R87). -/
def recallExtents (exts : List Nat) (s : State) : State :=
  forEach (List.range 8) (fun sl t =>
    let held := ((t.slice sl).dir.filter (fun e => decide (e.2.state ≠ .I) && exts.contains (extentOf (plOfDir (e.1 / 16) e.2.tag.toNat)))).map
      (fun e => plOfDir (e.1 / 16) e.2.tag.toNat)
    settle sl (forEach held (fun pl u => addWork sl (ownWork .sweep pl (u.bed (u.bedOfPl pl).1).sharerList u) u) t)) s

/-- A shrink has ended with nothing removed (R87). DESIGN CHOICE (log 91): its requests to the hosts are withdrawn, so that a host that
releases one of the stripe sets later gives up capacity on its own. -/
def withdrawRelease (bed : Nat) (users : List Nat) (s : State) : State :=
  forEach users (fun u t =>
    if u < 512 then t.modPlot u (fun x => { x with
      slots := x.slots.map (fun e => if decide (e.2.home.toNat = t.self ∧ e.2.bed.toNat = bed) then (e.1, { e.2 with toRelease := [] }) else e) })
    else sendMgmt ((u - 512) / 128) (.capacity bed ((u - 512) % 128) (t.bed bed).count.toNat true false []) t) s

/-- BED_SHRINK_TIMEOUT (R87): nothing is removed, or with force the capacity is taken back. -/
def shrinkTimeout (bed : Nat) (s : State) : State :=
  let b := s.bed bed
  match b.resize with
  | none => s
  | some r =>
    if r.force then
      let n := b.count.toNat / 2 ^ b.ways.toNat
      let s1 := bedCapacity bed 2 (n - r.sets) n ((n - r.sets) * 2 ^ b.ways.toNat) r.waiting s
      recallExtents (b.leaving r.sets) (s1.modBed bed (fun x => { x with resize := some { r with waiting := [] } }))
    else finishJob (.shrink bed) stTimeout [] (withdrawRelease bed r.waiting (s.modBed bed (fun x => { x with resize := none })))

/-- A shrink still waits for an answer when its time is over (R87). -/
def State.shrinkLate (s : State) (bed : Nat) : Bool :=
  match (s.bed bed).resize with
  | some r => !r.grow && !r.waiting.isEmpty && decide (r.deadline ≤ s.tick)
  | none => false

/-- A grow or shrink can change its bed's count (R85, R87): no joining extent is still to be zeroed; every host has answered. -/
def State.resizeReady (s : State) (bed : Nat) : Bool :=
  let b := s.bed bed
  match b.resize with
  | none => false
  | some r =>
    if r.grow then !(b.joining r.sets).any (fun i => decide ((s.extent i).state = .zeroing) && !(s.extent i).zeroed)
    else r.waiting.isEmpty && s.extentSwept (b.leaving r.sets)

/-- A bed grows (R85, R86): its joining extents are BOUND and its count rises, or one of them has failed and nothing joins. -/
def growBed (bed k : Nat) (s : State) : State :=
  let b := s.bed bed
  let n := b.count.toNat / 2 ^ b.ways.toNat
  let s0 := s.modBed bed (fun x => { x with resize := none })
  if (b.joining k).any (fun i => decide ((s.extent i).state ≠ .defined ∧ (s.extent i).state ≠ .zeroing)) then
    finishJob (.grow bed) stFaulted [] (forEach (b.joining k) (fun i t => t.modExtent i (fun e =>
      if e.state = .zeroing then { e with state := .defined } else e)) s0)
  else
    let s1 := forEach (b.joining k) (fun i t => t.modExtent i (fun e => { e with state := .bound, bed := BitVec.ofNat 12 bed })) s0
    let s2 := s1.modBed bed (fun x => { x with count := x.count + BitVec.ofNat 15 (k * 2 ^ x.ways.toNat) })
    finishJob (.grow bed) stDone []
      (bedCapacity bed 0 (if k ≠ 0 then n else 0) (n + k) ((n + k) * 2 ^ b.ways.toNat) (s2.bedUsers bed) s2)

/-- A bed shrinks (R87): its count and every accepted count above it fall, and the removed extents leave tenancy. -/
def shrinkBed (bed k : Nat) (s : State) : State :=
  let b := s.bed bed
  let left := b.count.toNat - k * 2 ^ b.ways.toNat
  let s1 := s.modBed bed (fun x => { x with resize := none, count := BitVec.ofNat 15 left })
  let s2 := forEach (s1.plotsOfBed bed) (fun p t => t.modPlot p (fun x => { x with
    slots := x.slots.map (fun e => if e.2.valid && decide (e.2.home.toNat = t.self ∧ e.2.bed.toNat = bed) then
      (e.1, { e.2 with accepted := BitVec.ofNat 15 (min e.2.accepted.toNat left) }) else e) })) s1
  let s3 := forEach b.remote (fun r t => sendMgmt r.1 (.capacity bed r.2 left true false []) t) s2
  finishJob (.shrink bed) stDone [] (forEach (b.leaving k) leaveTenancy s3)

/-- BED_COUNT_CHANGE (R85, R87). -/
def countChange (bed : Nat) (s : State) : State :=
  match (s.bed bed).resize with
  | none => s
  | some r => if r.grow then growBed bed r.sets s else shrinkBed bed r.sets s

/-- A home's capacity record reaches a device whose plot on a port maps the bed (R85, R87, R93): an ACTIVE plot raises the events, and one that
needs no release answers at once. A release without stripe sets is the home's change of count (R87 step 2), or says that a shrink has ended
with nothing removed. -/
def capacityRecord (home bed port count : Nat) (release force : Bool) (sets : List Nat) (s : State) : State :=
  forEach (s.plotsWhere (fun p => p.maps home bed && decide (p.port.toNat = port))) (fun p t =>
    forEach (((t.plot p).validSlots.filter (fun e => decide (e.2.home.toNat = home ∧ e.2.bed.toNat = bed))).map (·.1)) (fun k u =>
      let lower := release && sets.isEmpty
      let kind := if force then 2 else if release then 1 else 0
      let u1 := u.modSlot p k (fun b => { b with
        remoteCount := if release ∧ !lower then b.remoteCount else count,
        accepted := if lower then BitVec.ofNat 15 (min b.accepted.toNat count) else b.accepted,
        toRelease := if lower then [] else b.toRelease })
      let u2 := slotCapacity p k kind sets u1
      if kind = 1 ∧ !lower then releaseAnswered p home bed count u2 else u2) t) s

/-- BED_EXPORT (R93, R94, R392). -/
def runBedExport (c : Command) (s : State) : Ran :=
  let bed := c.num 16 2
  let dev := c.byte 18
  let revoke := decide (c.byte 19 % 2 = 1)
  let b := s.bed bed
  let d := BitVec.ofNat 4 dev
  checks [(decide (4095 < bed ∨ 15 < dev), stInvalidParam), (decide (b.state = .releasing), stBusy), (decide (b.state = .free), stNotInMode),
          (revoke && b.remote.any (fun r => decide (r.1 = dev)), stBusy)] s (fun s =>
    let l := if revoke then b.exports.filter (· ≠ d) else if b.exports.contains d then b.exports else b.exports ++ [d]
    done (s.modBed bed (fun x => { x with exports := l })))

/-- BED_READ (R391). -/
def runBedRead (c : Command) (s : State) : Ran :=
  checks [(decide (4095 < c.num 16 2), stInvalidParam)] s (fun s => doneWith (bytesOf 32 256 (BitVec.ofNat 256 (s.bed (c.num 16 2)).image)) s)

/-- An LD of a port is directly bound (R78, R90). -/
def State.ldBound (s : State) (port ld : Nat) : Bool :=
  s.ports.vppb.any (fun e => decide (e.2.bound = some (port, ld) ∨ e.2.bound = some (port, 0xFF)))

/-- An extent lies within the capacity that a dynamic-capacity device has given (R216): every place does on another device. -/
def State.capacityHas (s : State) (p : Place) : Bool :=
  let x := s.port p.port.toNat
  !x.dcd || x.dcBlocks.any (fun b => decide (b.1 = p.ld.toNat ∧ b.2.1 ≤ p.dpaBase.toNat ∧ p.dpaBase.toNat < b.2.1 + b.2.2))

/-- EXTENT_DEFINE (R78, R213, R216): the scan of the table runs first. An LD whose decoder 0 is not programmed is refused (log 85). -/
def runExtentDefine (c : Command) (s : State) : Ran :=
  let i := c.num 16 4
  let p : Place := { port := BitVec.ofNat 7 (c.byte 20), ld := BitVec.ofNat 4 (c.byte 21), dpaBase := BitVec.ofNat 20 (c.num 24 4) }
  checks [(decide (2 ^ 20 ≤ i ∨ 127 < c.byte 20 ∨ 15 < c.byte 21 ∨ 2 ^ 20 ≤ c.num 24 4) || !(s.port (c.byte 20)).downstream ||
            !s.capacityHas p, stInvalidParam),
          (s.ldBound (c.byte 20) (c.byte 21), stNoResource),
          ((Tab.find (s.port (c.byte 20)).decoder0 (c.byte 21)).isNone, stInvalidParam),
          (decide ((s.extent i).state ≠ .free) || (Tab.find s.pool.defining i).isSome, stBusy)] s (fun s =>
    queuedFor (.extentDefine i) (s.modPool (fun x => { x with defining := Tab.put x.defining i (p, s.tick) })))

/-- EXTENT_DEFINE_SCAN_COMPLETE (R77, R78): the entry is written unless another names the same place. -/
def defineScanned (i : Nat) (s : State) : State :=
  match Tab.find s.pool.defining i with
  | none => s
  | some d =>
    let s1 := s.modPool (fun x => { x with defining := Tab.drop x.defining i })
    if s1.pool.extents.any (fun e => decide (e.2.state ≠ .free ∧ e.2.place = d.1)) then finishJob (.extentDefine i) stInvalidParam [] s1
    else if s1.ldBound d.1.port.toNat d.1.ld.toNat then finishJob (.extentDefine i) stNoResource [] s1
    else finishJob (.extentDefine i) stDone [] (s1.modExtent i (fun _ => { state := .defined, place := d.1 }))

/-- Meaning of EXTENT_DEFINE_SCAN_COMPLETE. -/
def execExtentDefineScanComplete (extent : Nat) (s : State) : Out :=
  whenWf s (decide (extent < 1048576)) (onlyIf (s.serving && (match Tab.find s.pool.defining extent with
    | some d => decide (d.2 + 32 ≤ s.tick)
    | none => false)) (mirrored (defineScanned extent)) s)

/-- An extent is the target of a migration (R341). -/
def State.migTarget (s : State) (i : Nat) : Bool := s.pool.migrations.any (fun m => m.2.target == i)

/-- EXTENT_UNDEFINE (R77, R341, R392). An extent that joins a bed is taken already (R85). -/
def runExtentUndefine (c : Command) (s : State) : Ran :=
  let i := c.num 16 4
  checks [(decide (2 ^ 20 ≤ i), stInvalidParam), (decide ((s.extent i).state ≠ .defined) || s.migTarget i || s.growing i, stBusy)] s (fun s =>
    done (s.modExtent i (fun _ => {})))

/-- EXTENT_CLEAR_FAILED (R77, R96, R392): it is zeroed, then in the state it would have reached. -/
def runExtentClearFailed (c : Command) (s : State) : Ran :=
  let i := c.num 16 4
  checks [(decide (2 ^ 20 ≤ i ∨ (s.extent i).state ≠ .failed), stInvalidParam)] s (fun s =>
    queuedFor (.extentClear i) (s.modExtent i (fun e => { e with state := .zeroing, zeroed := false, toBound := s.inBed i })))

/-- EXTENT_READ (R391). -/
def runExtentRead (c : Command) (s : State) : Ran :=
  checks [(decide (2 ^ 20 ≤ c.num 16 4), stInvalidParam)] s (fun s =>
    doneWith (bytesOf 16 128 (BitVec.ofNat 128 (s.extent (c.num 16 4)).image)) s)

/-- Lines of a migrating extent that the write buffer holds go to the target too (R342); a write in flight is issued there now. -/
def alsoToTarget (ext : Nat) (q : Place) (s : State) : State :=
  forEach (List.range 8) (fun sl t =>
    let l := ((t.slice sl).wb.filter (fun w => decide (extentOf w.2.pl = ext ∧ w.2.state ≠ .releasing))).map (·.1)
    forEach l (fun p u =>
      let w := (u.slice sl).wbLine p
      let u1 := modWb sl p (fun y => { y with second := some q, done2 := false }) u
      if w.state = .sent then toMemory sl q w.pl { op := .memWr, data := w.data, poison := w.poisoned || w.poisonWrite } u1 else u1) t) s

/-- EXTENT_MIGRATE (R341, R342). -/
def runExtentMigrate (c : Command) (s : State) : Ran :=
  let i := c.num 16 4
  let j := c.num 20 4
  let rate := c.num 24 2
  let part (n : Nat) : Bool := (Tab.find s.pool.migrations n).isSome || s.migTarget n
  checks [(decide (2 ^ 20 ≤ i ∨ 2 ^ 20 ≤ j ∨ (rate ≠ 0 ∧ rate < 64) ∨ 16384 < rate), stInvalidParam), (part i || part j, stBusy),
          (decide ((s.extent i).state ≠ .bound ∨ (s.extent j).state ≠ .defined) ||
            s.pool.beds.any (fun e => decide (e.2.state ≠ .free ∧ e.2.base.toNat ≤ j ∧ j < e.2.base.toNat + e.2.span.toNat)), stInvalidParam),
          (decide (16 ≤ s.pool.migrations.length), stNoResource)] s (fun s =>
    let q := (s.extent j).place
    let m : Migration := { target := j, started := s.time.beats, rate := if rate = 0 then 512 else rate }
    let s1 := s.modPool (fun p => { p with migrations := Tab.put p.migrations i m })
    queuedFor (.migrate i) (alsoToTarget i q (s1.modExtent i (fun e => { e with state := .migrating, mig := q }))))

/-- EXTENT_MIGRATE_CANCEL (R345, R347, R398): it stops at the next tick boundary. -/
def runExtentMigrateCancel (c : Command) (s : State) : Ran :=
  let i := c.num 16 4
  checks [(decide (2 ^ 20 ≤ i ∨ (s.extent i).state ≠ .migrating), stInvalidParam)] s (fun s =>
    done (s.modPool (fun p => { p with migrations := p.migrations.map (fun m => if m.1 = i then (m.1, { m.2 with cancel := some (m.2.cancel.getD s.teller.atTick.length) }) else m) })))

/-- A MIG transaction of the next line of a migrating extent (R343). -/
def migCopyOp (ext : Nat) (s : State) : State :=
  match Tab.find s.pool.migrations ext with
  | none => s
  | some m =>
    let pl := ext * extentLines + m.issued
    let used := if m.rateTick = s.tick then m.rateUsed else 0
    let m1 : Migration := { m with issued := m.issued + 1, rateTick := s.tick, rateUsed := used + 1 }
    let s1 := internalTurn (s.modPool (fun p => { p with migrations := Tab.put p.migrations ext m1 }))
    let sl := s1.sliceOfPl pl
    arriveAtHome sl { ownWork .mig pl [] s1 with station := 24, started := m.started } (extentLookup xbarBarrow pl (count xbarBarrow 0x09 1 s1))

/-- A turn of the Barrow falls to its internal queue (R331): every fourth one, and one that no slice can use. -/
def State.internalTurns (s : State) : Bool :=
  decide (s.lineTurns < 2) && (decide (3 ≤ s.barrow.ownTurns) || !s.barrow.slices.any (fun e => decide (s.sliceRequest e.1 = some true) && s.canIssue e.1))

/-- A migration may copy its next line (R343): both of its ports are there, and its rate allows it. -/
def State.migCopies (s : State) (ext : Nat) : Bool :=
  let e := s.extent ext
  (match Tab.find s.pool.migrations ext with | some m => m.mayCopy s.tick | none => false) &&
    !s.portLost e.place.port.toNat && !s.portLost e.mig.port.toNat

/-- Meaning of MIG_COPY. -/
def execMigCopy (extent : Nat) (s : State) : Out :=
  whenWf s (decide (extent < 1048576)) (onlyIf (s.memServing && s.internalTurns && s.migCopies extent) (migCopyOp extent) s)

/-- A flip is due and may happen (R344): where a port of it is lost, the scan of R225 ends the migration. -/
def State.flipReady (s : State) (ext : Nat) : Bool :=
  let e := s.extent ext
  (match Tab.find s.pool.migrations ext with | some m => m.flipDue | none => false) &&
    !s.portLost e.place.port.toNat && !s.portLost e.mig.port.toNat

/-- EXTENT_FLIP (R344): the source takes the target's location, and the target the old one, to be zeroed. -/
def flipExtent (ext : Nat) (s : State) : State :=
  match Tab.find s.pool.migrations ext with
  | none => s
  | some m =>
    let e := s.extent ext
    let s1 := s.modPool (fun p => { p with migrations := Tab.drop p.migrations ext })
    let s2 := s1.modExtent ext (fun x =>
      let y : Extent := { x with state := .bound, place := x.mig, mig := {} }
      if x.leaving then y.left else y)
    let s3 := s2.modExtent m.target (fun x => { x with state := .zeroing, place := e.place, zeroed := false, toBound := false, bed := e.bed })
    bedsFreed (finishJob (.migrate ext) stDone [] s3)

/-- Cancels of migrations at their tick boundary that were started after `k` of the commands that wait for it (R345, R347, R571). -/
def cancelMigrations (k : Nat) (s : State) : State :=
  forEach ((s.pool.migrations.filter (fun m => decide (m.2.cancel = some k))).map (·.1)) (fun i t => endMigration i stAborted false t) s

end Sys2Proof.Machine
end

