-- ==== Sys2Proof/Machine/Codes.lean ====
section
/-! DEFINITION. The coding of the serial lanes (R230, R233 to R237, R244) and their equalisation (R239, R240). What PCIe Base 7.0 defines of the
codes is PRESUMED (log 86). -/

namespace Sys2Proof.Machine

/-- A 10-bit character, its first bit on the wire the most significant. -/
abbrev Character := BitVec 10

/-- What an 8b/10b character stands for: a data byte, or a special symbol by its value (R233). -/
structure Symbol where
  special : Bool := false
  value : Byte := 0
  deriving DecidableEq, Repr

/-- COM: K28.5 (R233). -/
def symCom : Symbol := { special := true, value := 0xBC }
/-- SKP: K28.0 (R233). -/
def symSkp : Symbol := { special := true, value := 0x1C }
/-- FTS: K28.1 (R233). -/
def symFts : Symbol := { special := true, value := 0x3C }
/-- IDL: K28.3 (R233). -/
def symIdl : Symbol := { special := true, value := 0x7C }
/-- EIE: K28.7 (R233). -/
def symEie : Symbol := { special := true, value := 0xFC }

/-- The special symbols of 8b/10b (R233): those that the manual names, and of PCIe Base 7.0 STP, SDP, END, EDB and PAD. -/
def specialSymbols : List Symbol :=
  [symCom, symSkp, symFts, symIdl, symEie] ++ ([0xFB, 0x5C, 0xFD, 0xFE, 0xF7] : List Byte).map (fun v => { special := true, value := v })

/-- The six-bit halves of the data characters at negative running disparity, by the byte's lower five bits. -/
def sixes : List (BitVec 6) :=
  [0b100111, 0b011101, 0b101101, 0b110001, 0b110101, 0b101001, 0b011001, 0b111000] ++
  [0b111001, 0b100101, 0b010101, 0b110100, 0b001101, 0b101100, 0b011100, 0b010111] ++
  [0b011011, 0b100011, 0b010011, 0b110010, 0b001011, 0b101010, 0b011010, 0b111010] ++
  [0b110011, 0b100110, 0b010110, 0b110110, 0b001110, 0b101110, 0b011110, 0b101011]

/-- The four-bit halves at negative running disparity, by the byte's upper three bits. -/
def fours : List (BitVec 4) := [0b1011, 0b1001, 0b0101, 0b1100, 0b1101, 0b1010, 0b0110, 0b1110]

/-- The four-bit half of a special symbol K28.y sent at negative running disparity, by y. -/
def specialFours : List (BitVec 4) := [0b0100, 0b1001, 0b0101, 0b0011, 0b0010, 0b1010, 0b0110, 0b1000]

/-- The six-bit half of a data character at a running disparity (`plus`: positive). -/
def six (plus : Bool) (x : Nat) : BitVec 6 :=
  let v := (sixes[x]?).getD 0
  if plus && (popCount v != 3 || x == 7) then ~~~v else v

/-- The four-bit half of a data character at the disparity that its six-bit half leaves: with an alternate for D.x.7 against runs. -/
def four (plus : Bool) (x y : Nat) : BitVec 4 :=
  let runs := if plus then [11, 13, 14] else [17, 18, 20]
  let v : BitVec 4 := if y = 7 ∧ x ∈ runs then 0b0111 else (fours[y]?).getD 0
  if plus && (popCount v != 2 || y == 3) then ~~~v else v

/-- The running disparity after a character half of `n` bits (R233): more ones make it positive, fewer negative. -/
def disparityAfter {w : Nat} (plus : Bool) (v : BitVec w) : Bool :=
  if w < 2 * popCount v then true else if 2 * popCount v < w then false else plus

/-- The character of a symbol at a running disparity (R233). -/
def encodeSymbol (plus : Bool) (s : Symbol) : Character :=
  let x := s.value.toNat % 32
  let y := s.value.toNat / 32
  if s.special then
    let v : Character := if x = 28 then (0b001111 : BitVec 6) ++ ((specialFours[y]?).getD 0) else ((sixes[x]?).getD 0) ++ (0b1000 : BitVec 4)
    if plus then ~~~v else v
  else
    let a := six plus x
    a ++ four (disparityAfter plus a) x y

/-- The symbol of a character at a running disparity (R233, R234): none where it is not a valid code or breaks the disparity. -/
def decodeCharacter (plus : Bool) (c : Character) : Option Symbol :=
  match specialSymbols.find? (fun s => encodeSymbol plus s == c) with
  | some s => some s
  | none =>
    let hi := c.extractLsb' 4 6
    match (List.range 32).find? (fun x => six plus x == hi) with
    | none => none
    | some x =>
      ((List.range 8).find? (fun y => four (disparityAfter plus hi) x y == c.extractLsb' 0 4)).map (fun y =>
        { value := BitVec.ofNat 8 (x + 32 * y) })

/-- The characters of some symbols, one after the other (R233). -/
def encodeSymbols : Bool → List Symbol → List Character
  | _, [] => []
  | plus, s :: rest => let c := encodeSymbol plus s; c :: encodeSymbols (disparityAfter plus c) rest

/-- The symbols of some characters, none for each receiver error (R234), and the running disparity after them. -/
def decodeCharacters : Bool → List Character → List (Option Symbol) × Bool
  | plus, [] => ([], plus)
  | plus, c :: rest => let r := decodeCharacters (disparityAfter plus c) rest; (decodeCharacter plus c :: r.1, r.2)

/-- The running disparity at which a lane takes its first character: the one that its first character shows. -/
def firstDisparity (l : List Character) : Bool :=
  match l with
  | c :: _ => (decodeCharacter false c).isNone
  | [] => false

/-- The hello ordered set of a lane as bytes (R235): symbols 1 to 15. -/
def helloBytes (h : Hello) : List Byte :=
  let body := [0xB7, BitVec.ofNat 8 h.device, BitVec.ofNat 8 h.station, BitVec.ofNat 8 h.lane, BitVec.ofNat 8 h.width, BitVec.ofNat 8 h.rates,
    BitVec.ofNat 8 h.preset] ++ bytesOf 6 48 h.serial
  body ++ bytesOf 2 16 (crc16 body)

/-- The characters of a hello, as a lane sends it over and over from negative running disparity on (R233, R235): of two in a row, since a
second one starts where the first leaves the disparity, and the third starts as the first did. -/
def helloCharacters (h : Hello) : List Character :=
  let l : List Symbol := symCom :: (helloBytes h).map (fun b => { value := b })
  encodeSymbols false (l ++ l)

/-- The hello that sixteen symbols spell (R235): COM, ident, and a CRC that fits. -/
def helloOf (l : List Symbol) (inverted : Bool) : Option Hello :=
  let b := (l.drop 1).map (·.value)
  let at' (i : Nat) : Nat := ((b[i - 1]?).getD 0).toNat
  if l.length = 16 ∧ l.head? = some symCom ∧ (l.drop 1).all (fun s => !s.special) ∧ at' 1 = 0xB7 ∧ bytesOf 2 16 (crc16 (b.take 13)) = b.drop 13 then
    some { device := at' 2, station := at' 3, lane := at' 4, width := at' 5, rates := at' 6, preset := at' 7,
           serial := BitVec.ofNat 48 (natOfBytes ((b.drop 7).take 6)), inverted := inverted }
  else none

/-- Some characters, as they came or inverted, read by a lane (R233, R236). -/
def Lane.readCharacters (l : Lane) (c : List Character) (inv : Bool) : List (Option Symbol) × Bool :=
  let d := if inv then c.map (fun x => ~~~x) else c
  decodeCharacters (l.rxPlus.getD (firstDisparity d)) d

/-- Some symbols begin a hello: COM and the ident (R235). -/
def beginsHello (r : List (Option Symbol)) : Bool := decide (r.take 2 = [some symCom, some { value := 0xB7 }])

/-- The polarity at which a hello begins with COM (R236): none where it begins at neither. -/
def Lane.comInverted (l : Lane) (c : List Character) : Option Bool :=
  if beginsHello (l.readCharacters c false).1 then some false else if beginsHello (l.readCharacters c true).1 then some true else none

/-- What a lane makes of a hello's characters (R234 to R236): the hello, the receiver errors, the running disparity after them, and whether
they were taken inverted. The polarity field may force that; else they are taken inverted where only so they begin with COM and the ident. -/
def receiveHello (l : Lane) (c : List Character) : Option Hello × Nat × Bool :=
  let inv := if l.polarity = 1 then false else if l.polarity = 2 then true else (l.comInverted c).getD false
  let r := l.readCharacters c inv
  let errors := (r.1.filter (·.isNone)).length
  (if errors = 0 then helloOf (r.1.filterMap id) inv else none, errors, r.2)

/-- The seed of a lane's scrambler at 8 GT/s and above, by its lane number within the port (R237, R244). -/
def scramblerSeed (logical : Nat) : BitVec 23 :=
  ([0x1DBFBC, 0x0607BB, 0x1EC760, 0x18C0DB, 0x010F12, 0x19CFC9, 0x0277CE, 0x1BB807][logical % 8]?).getD 0

/-- One bit through the scrambler x^23 + x^21 + x^16 + x^8 + x^5 + x^2 + 1 (R237). -/
def scrambleBit (r : BitVec 23) (b : Bool) : Bool × BitVec 23 :=
  let out := r.getLsbD 22
  (b != out, if out then (r <<< 1) ^^^ 0x210125 else r <<< 1)

/-- Bits through the scrambler, in the order of the wire. -/
def scramble : BitVec 23 → List Bool → List Bool × BitVec 23
  | r, [] => ([], r)
  | r, b :: rest => let x := scrambleBit r b; let y := scramble x.2 rest; (x.1 :: y.1, y.2)

/-- The bits of some bytes as a lane sends them: least significant bit first. -/
def laneBits (l : List Byte) : List Bool := l.flatMap (fun b => (List.range 8).map b.getLsbD)

/-- A data block of 16 bytes in 128b/130b (R237): its sync header, then its bits scrambled. -/
def dataBlock (r : BitVec 23) (l : List Byte) : List Bool × BitVec 23 :=
  let x := scramble r (laneBits l)
  ([false, true] ++ x.1, x.2)

/-- An ordered-set block in 128b/130b (R237): its sync header, and its bits as they are. -/
def orderedBlock (l : List Byte) : List Bool := [true, false] ++ laneBits l

/-- The PAM4 level of two bits, first bit more significant (R237, R252): gray code. -/
def grayLevel (a b : Bool) : Nat := if a then (if b then 2 else 3) else (if b then 1 else 0)

/-- The levels of a 1b/1b stream (R237): gray-coded, and precoded where equalisation agreed on it. -/
def pam4Levels (precode : Bool) : Nat → List Bool → List Nat
  | prev, a :: b :: rest =>
    let g := grayLevel a b
    let v := if precode then (g + 4 - prev) % 4 else g
    v :: pam4Levels precode v rest
  | _, _ => []

/-- The wire form of some bytes on a lane in 1b/1b (R237). -/
def pam4 (l : Lane) (bytes : List Byte) : List Nat := pam4Levels l.precode 0 (scramble l.scrTx (laneBits bytes)).1

/-- A lane's scramblers start again at its seed (R237, R244). -/
def seedScramblers (logical lane : Nat) (s : State) : State :=
  s.modLane lane (fun l => { l with scrTx := scramblerSeed logical, scrRx := scramblerSeed logical })

/-- One lane is equalised (R239, R240): phases 0 to 3, after which the preset in use is what the partner asked for, or what the phases chose,
a free value (log 87); with eq_bypass phases 0 and 1, and the lane's tx_preset. Precoding is in use where an end asked for it: free as well. -/
def equaliseLane (logical : Nat) (asked : Option Nat) (lane : Nat) (s : State) : State :=
  let v := takeFree s
  let chosen := asked.getD (bitsOf v.1 31 0 % 11)
  seedScramblers logical lane (v.2.modLane lane (fun l =>
    if l.eqBypass then { l with preset := l.txPreset, eqPhases := 2, precode := v.1.getLsbD 32 }
    else { l with preset := BitVec.ofNat 4 chosen, eqPhases := 4, precode := v.1.getLsbD 32 }))

/-- A CXL or PCIe port equalises its lanes (R240): at each rate from 8 GT/s up that it steps through to a rate, and at a lower one at once. -/
def equalisePort (port : Nat) (from' rate : BitVec 3) (s : State) : State :=
  let steps := if rate < from' then [rate.toNat] else (List.range (rate.toNat + 1)).filter (fun r => decide (from'.toNat < r))
  forEach (steps.filter (2 ≤ ·)) (fun _ u => forEach ((s.port port).lanes port) (fun l t => equaliseLane (laneAt port l) none l t) u) s

/-- The sleep marker of a trunk lane (R244). -/
def sleepMarker : List Byte := List.replicate 16 0x3C

/-- The wake burst of a trunk lane by the trunk's rate code (R244): the preamble, then the marker. -/
def wakeBurst (rate : BitVec 2) : List Byte :=
  List.replicate 112 (if rate = 0 then 0xAA else 0x88) ++ (List.replicate 8 [0x0F, 0xF0]).flatten

end Sys2Proof.Machine
end

