-- ==== Sys2Proof/Machine/Functions.lean ====
section
/-! DEFINITION. The PCIe functions that an upstream port presents (R83, R150, R199, R200, R208 to R211, R321): their identities, their
configuration space as far as the spec gives it, and their base address registers. -/

namespace Sys2Proof.Machine

/-- A function of a virtual CXL switch (R208). -/
inductive Fn where
  | upstreamSwitch
  | vppb (v : Nat)
  | device (plot : Nat)
  | barrow
  deriving DecidableEq, Repr

/-- Vendor ID and Subsystem Vendor ID (R209). -/
def vendorId : BitVec 16 := 0x2E71

/-- Device ID (R209). -/
def Fn.deviceId : Fn → BitVec 16
  | .upstreamSwitch => 0x7250
  | .vppb _ => 0x7251
  | .device _ => 0x7256
  | .barrow => 0x7257

/-- Class code (R209). -/
def Fn.classCode : Fn → BitVec 24
  | .upstreamSwitch => 0x060400
  | .vppb _ => 0x060400
  | .device _ => 0x050210
  | .barrow => 0x088000

/-- Subsystem ID (R209). -/
def subsystemId : BitVec 16 := 0x0001

/-- The function has a bridge's header (its Subsystem IDs then stand in a capability). -/
def Fn.bridge : Fn → Bool
  | .upstreamSwitch => true
  | .vppb _ => true
  | _ => false

/-- The serial that identifies the device to hosts (R83, R384): its own, or the pair's in a pair. -/
def State.hostSerial (s : State) : BitVec 48 :=
  if s.pair.state = .unpaired then Config.serial else Config.pairSerial s.pair.partnerSerial

/-- The Device Serial Number of a plot's device (R83): the pair's serial in a pair. -/
def State.deviceSerial (s : State) (plot : Nat) : BitVec 64 :=
  BitVec.ofNat 64 (fieldAt s.hostSerial.toNat 16 + plot)

/-- The function that a bus, device and function number names below an upstream port (log 83): bus 0 the upstream switch port, bus 1 the
vPPBs, bus 2 + v what lies below vPPB v; each function is number 0 of its device. A synthesised device is there once its vPPB presents it
(R210). With it, the index of its AER status. -/
def State.fnAt (s : State) (port bdf : Nat) : Option (Fn × Nat) :=
  let bus := bdf / 256
  let dev := bdf / 8 % 32
  if bdf % 8 ≠ 0 ∨ !(s.port port).upstream then none
  else if bus = 0 then (if dev = 0 then some (.upstreamSwitch, 0) else none)
  else if bus = 1 then (if dev < 17 then some (.vppb dev, 1 + dev) else none)
  else if dev ≠ 0 then none
  else if bus = 18 then some (.barrow, 34)
  else if bus < 10 ∧ (s.vppb port (bus - 2)).presence then (s.plotAt port (bus - 2)).map (fun p => (.device p, 16 + bus))
  else none

/-- The BARs of a function (R150, R321): number, size, and whether it is prefetchable. Each is a 64-bit memory BAR. -/
def Fn.bars : Fn → List (Nat × Nat × Bool)
  | .device _ => [(2, 2 ^ 45, true)]
  | .barrow => [(0, 2 ^ 12, false), (2, 2 ^ 17, false), (4, 2 ^ 12, false)]
  | _ => []

/-- A capability of a function that the spec gives fields of: where it lies is open (log 83). -/
inductive Cap where
  | subsystem
  | express
  | serial
  | cxl
  | yalkel
  | aer
  | acs
  | doe
  deriving DecidableEq, Repr

/-- The number under which a capability's place is free. -/
def Cap.number : Cap → Nat
  | .subsystem => 0
  | .express => 1
  | .serial => 2
  | .cxl => 3
  | .yalkel => 4
  | .aer => 5
  | .acs => 6
  | .doe => 7

/-- The bits of a capability's first word that name it, with their value: its capability ID, or its extended capability ID. PRESUMED (log 83):
they are those of PCIe. -/
def Cap.header : Cap → Nat × Nat
  | .subsystem => (0xFF, 0x0D)
  | .express => (0xFF, 0x10)
  | .serial => (0xFFFF, 0x0003)
  | .cxl => (0xFFFF, 0x0023)
  | .yalkel => (0xFFFF, 0x0023)
  | .aer => (0xFFFF, 0x0001)
  | .acs => (0xFFFF, 0x000D)
  | .doe => (0xFFFF, 0x002E)

/-- The capabilities of a function (R83, R150, R199, R200, R208, R209, R211, R217). -/
def Fn.caps : Fn → List Cap
  | .upstreamSwitch => [.subsystem, .express, .yalkel, .aer, .doe]
  | .vppb _ => [.subsystem, .express, .aer, .acs]
  | .device _ => [.express, .serial, .cxl, .aer]
  | .barrow => [.express, .aer]

/-- A word of the Yalkel DVSEC (R200), by its offset. -/
def Port.yalkelWord (p : Port) (off : Nat) : Option Nat :=
  if off = 0x04 then some (fieldAt 0x014 20 + vendorId.toNat)
  else if off = 0x08 then some (fieldAt 1 16 + 0x0001)
  else if off = 0x0C then some (fieldAt (bit p.partner128) 1 + bit p.entry.cxl128)
  else if off = 0x10 then
    some (fieldAt p.rate.toNat 4 + fieldAt (bit p.failed128) 2 + fieldAt (bit p.active128) 1 + bit p.pending128)
  else none

/-- A word of the CXL DVSEC of a synthesised device (R83), by its offset: its capabilities, CXL Reset Error in its status (R68), and
Memory_Active in its range registers (R297, R311). PRESUMED (log 83): the offsets and the bits are those of the CXL specification. -/
def State.cxlWord (s : State) (plot off : Nat) : Option Nat :=
  if off = 0x04 then some 0x1E98
  else if off = 0x08 then some (fieldAt (2 + 4 + 0x80 + 0x800) 16)
  else if off = 0x10 then some (fieldAt (bit (s.plot plot).resetError) 18)
  else if off = 0x1C then some (2 * bit (decide ((s.plot plot).state = .active ∧ s.dev.mode ≠ .shadow)) + 1)
  else none

/-- The port type of a function (R208, R209), as its PCI Express capability codes it (log 83). -/
def Fn.portType : Fn → Nat
  | .upstreamSwitch => 5
  | .vppb _ => 6
  | _ => 0

/-- A word of a function's PCI Express capability, by its offset: the bits that the spec gives, with their value. They are the port type and
whether there is a slot (R208), Max_Payload_Size Supported of 256 B and Device Control (R199), the slot of a vPPB, which is hot-plug capable,
may lose its device by surprise and has neither an attention button nor an MRL sensor (R199, R208, R210), and the AtomicOp completer of a
device (R150). PRESUMED (log 83): the offsets and the bits are those of PCIe. -/
def State.expressWord (s : State) (port : Nat) (f : Fn) (index off : Nat) : Option (Nat × Nat) :=
  if off = 0 then some (0x1F000FF, fieldAt (match f with | .vppb _ => 1 | _ => 0) 24 + fieldAt f.portType 20 + 0x10)
  else if off = 4 then some (0x7, 1)
  else if off = 8 then some (0x70E0, (Tab.get (s.port port).devCtl 0x2000 index).toNat)
  else match f with
    | .device _ => if off = 0x24 then some (0x380, fieldAt 7 7) else none
    | .vppb v =>
      let x := s.vppb port v
      if off = 0x10 then some (0x20000000, fieldAt (bit x.dlActive) 29)
      else if off = 0x14 then some (0x65, 0x60)
      else if off = 0x18 then some (0x14F0000, fieldAt (bit x.pdc) 19 + fieldAt (bit x.presence) 22 + fieldAt (bit x.dllsc) 24)
      else none
    | _ => none

/-- The write of a function's Device Control (R199): Max_Payload_Size takes at most 256 B and Max_Read_Request_Size at most 4,096 B; a field
written with a larger code keeps its value (log 83). -/
def devControl (old v : BitVec 16) : BitVec 16 :=
  let payload := if (v.extractLsb' 5 3).toNat ≤ 1 then v &&& 0x00E0 else old &&& 0x00E0
  let read := if (v.extractLsb' 12 3).toNat ≤ 5 then v &&& 0x7000 else old &&& 0x7000
  payload ||| read

/-- A word of another capability of a function, by its offset, where the spec gives it. -/
def State.capWord (s : State) (port : Nat) (f : Fn) (index : Nat) (c : Cap) (off : Nat) : Option Nat :=
  let p := s.port port
  match c with
  | .subsystem => if off = 4 then some (fieldAt subsystemId.toNat 16 + vendorId.toNat) else none
  | .express => none
  | .doe => none
  | .serial =>
    match f with
    | .device plot =>
      if off = 4 then some ((s.deviceSerial plot).toNat % 2 ^ 32) else if off = 8 then some ((s.deviceSerial plot).toNat / 2 ^ 32) else none
    | _ => none
  | .cxl =>
    match f with
    | .device plot => s.cxlWord plot off
    | _ => none
  | .yalkel => p.yalkelWord off
  | .aer =>
    if off = 4 then some (Tab.get p.aer 0 (2 * index)).toNat else if off = 0x10 then some (Tab.get p.aer 0 (2 * index + 1)).toNat else none
  | .acs => if off = 4 then some (fieldAt 0x1F 16 + 0x1F) else none

/-- The bits of a capability's word that the spec gives, with their value. -/
def State.capBits (s : State) (port : Nat) (f : Fn) (index : Nat) (c : Cap) (off : Nat) : Nat × Nat :=
  if c = .express then (s.expressWord port f index off).getD (0, 0)
  else if off = 0 then c.header
  else match s.capWord port f index c off with
    | some w => (0xFFFFFFFF, w)
    | none => (0, 0)

/-- Where a configuration address of a function lies in one of its capabilities. -/
def Fn.capAt (f : Fn) (reg : Nat) : Option (Cap × Nat) :=
  f.caps.findSome? (fun c =>
    let o := Config.capOffset c.number
    if o ≤ reg ∧ reg < o + 0x28 then some (c, reg - o) else none)

/-- What a BAR reads, in its lower or its upper half (R150, R321). -/
def State.barWord (s : State) (port index : Nat) (x : Nat × Nat × Bool) (upper : Bool) : Nat :=
  let v := (Tab.get (s.port port).bars 0 (6 * index + x.1)).toNat
  if upper then v / 2 ^ 32 else v % 2 ^ 32 + 4 + (if x.2.2 then 8 else 0)

/-- The BAR that a configuration address names, and which half. -/
def Fn.barAt (f : Fn) (reg : Nat) : Option ((Nat × Nat × Bool) × Bool) :=
  f.bars.findSome? (fun x => if reg = 0x10 + 4 * x.1 then some (x, false) else if reg = 0x14 + 4 * x.1 then some (x, true) else none)

/-- A configuration read of a function (R209): a register that the spec does not give is free (log 83). -/
def State.configWord (s : State) (port : Nat) (f : Fn) (index reg : Nat) : BitVec 32 :=
  let free := Config.configWord index reg
  if reg = 0 then f.deviceId ++ vendorId
  else if reg = 8 then f.classCode ++ BitVec.ofNat 8 Config.revision
  else if reg = 0x2C ∧ !f.bridge then subsystemId ++ vendorId
  else match f.barAt reg with
    | some b => BitVec.ofNat 32 (s.barWord port index b.1 b.2)
    | none => match f.capAt reg with
      | some c =>
        let w := s.capBits port f index c.1 c.2
        let given := BitVec.ofNat 32 w.1
        (free &&& ~~~given) ||| (BitVec.ofNat 32 w.2 &&& given)
      | none => free

/-- A write of partner_cxl128 (R200, R203). -/
def writePartner128 (port : Nat) (value : BitVec 32) (s : State) : State :=
  s.modPort port (fun p => { p with partner128 := value.getLsbD 1, failed128 := false })

/-- A configuration write of a function: BARs, Device Control, the write-1-to-clear status of AER and of a hot-plug slot, and partner_cxl128. The other
registers that the spec gives are read-only, and one that it does not give keeps no value (log 83). -/
def configWrite (port : Nat) (f : Fn) (index reg : Nat) (v : BitVec 32) (s : State) : State :=
  match f.barAt reg with
  | some b =>
    let k := 6 * index + b.1.1
    let old := (Tab.get (s.port port).bars 0 k).toNat
    let whole := if b.2 then old % 2 ^ 32 + 2 ^ 32 * v.toNat else old / 2 ^ 32 * 2 ^ 32 + v.toNat
    s.modPort port (fun p => { p with bars := Tab.set p.bars 0 k (BitVec.ofNat 64 (whole / b.1.2.1 * b.1.2.1)) })
  | none => match f.capAt reg with
    | some (.yalkel, off) => if off = 0x0C then writePartner128 port v s else s
    | some (.aer, off) =>
      let clear (k : Nat) : State := s.modPort port (fun p => { p with aer := Tab.set p.aer 0 k (Tab.get p.aer 0 k &&& ~~~v) })
      if off = 4 then clear (2 * index) else if off = 0x10 then clear (2 * index + 1) else s
    | some (.express, off) =>
      if off = 8 then s.modPort port (fun p =>
        { p with devCtl := Tab.set p.devCtl 0x2000 index (devControl (Tab.get p.devCtl 0x2000 index) (v.setWidth 16)) })
      else match f with
      | .vppb n => if off = 0x18 then s.modVppb port n (fun x => { x with pdc := x.pdc && !v.getLsbD 19, dllsc := x.dllsc && !v.getLsbD 24 })
                   else s
      | _ => s
    | _ => s

/-- A configuration request of a host to a function of its own virtual switch (R209, log 83): the address holds the function's number from
bit 12 on. One to no function completes as unsupported. -/
def ownConfig (port : Nat) (t : Tlp) (s : State) : State :=
  let reg := t.address.toNat % 4096 / 4 * 4
  match s.fnAt port (t.address.toNat / 4096 % 65536) with
  | none =>
    sendTlp (port / 8) port 2 { kind := .cpl, requester := t.requester, tag := t.tag, status := .unsupported, egress := port }
      (noteAer port 0 true 20 s)
  | some f =>
    if t.kind = .cfgWr then
      let v := (t.data.take 4).foldr (fun b n => b.toNat + 256 * n) 0
      sendTlp (port / 8) port 2 { kind := .cpl, requester := t.requester, tag := t.tag, egress := port }
        (configWrite port f.1 f.2 reg (BitVec.ofNat 32 v) s)
    else
      sendTlp (port / 8) port 2 { kind := .cplD, requester := t.requester, tag := t.tag, egress := port, length := 4,
                                  data := bytesOf 4 32 (s.configWord port f.1 f.2 reg) } s

end Sys2Proof.Machine
end

