-- ==== Sys2Proof/Machine/PortEv.lean ====
section
/-! DEFINITION. Events of the CXL and PCIe ports (R200 to R228, R242, R251, R254, R577, R547, R548): downstream loss, discovery, rates,
viral, dynamic-capacity devices, pass-through. -/

namespace Sys2Proof.Machine

/-- Open accesses of directly bound LDs when their port leaves L0, or their place is gone (R224): a read is poisoned, a write gets Cmp
and one LOST_WRITE entry. -/
def boundOpenDown (port : Nat) (s : State) : State :=
  let l := (s.port port).ldOpen.filter (fun o => o.answer.isNone)
  forEach l (fun o t =>
    if o.write then
      logFault 0x11 (port / 8) 0xFFFF port 0 o.dpa (BitVec.ofNat 64 (o.ld + 0x20000)) (fromBoundLd port o { op := .cmp } t)
    else
      let r := takeFreeLine t
      fromBoundLd port o { op := .memData, data := r.1, poison := true } r.2)
    (s.modPort port (fun p => { p with ldOpen := [] }))

/-- The vPPBs that carry an LD of a port (R89): index 17 × upstream port + vPPB. -/
def State.boundVppbs (s : State) (port : Nat) (ld : Option Nat) : List Nat :=
  (s.ports.vppb.filter (fun e => match e.2.bound with
    | some b => b.1 == port && (b.2 == 0xFF || (match ld with | some n => b.2 == n | none => true))
    | none => false)).map (·.1)

/-- The devices bound behind a port show as removed, or as added (R210, R224). -/
def showBound (port : Nat) (present : Bool) (s : State) : State :=
  forEach (s.boundVppbs port none) (fun i t =>
    if (t.vppb (i / 17) (i % 17)).presence = present then t else showDevice (i / 17) (i % 17) present t) s

/-- Reads of one slice that wait for some places end with poisoned data (R224). -/
def readsLost (hit : Nat → Place → Bool) (sl : Nat) (s : State) : State :=
  let l := ((s.slice sl).txns.filter (fun e => e.2.open' && (match e.2.readFrom with
    | some q => hit e.2.pl q
    | none => false))).map (·.2.pl)
  settle sl (forEach l (fun pl t =>
    let r := takeFreeLine t
    memArrived sl pl r.1 true true r.2) s)

/-- The lines of a run of positions of one slice's write buffer that are bound for some places end without further attempts (R148 steps 2
to 5, R224, R225), in this beat. -/
def linesLost (hit : Nat → Place → Bool) (lo hi sl : Nat) (s : State) : State :=
  let bound (w : WbLine) : Bool :=
    if w.state = .sent ∨ w.state = .failed then !w.done1 && hit w.pl w.place
    else decide (w.state ≠ .releasing) && hit w.pl (s.extent (extentOf w.pl)).place
  let l := ((s.slice sl).wb.filter (fun w => decide (lo ≤ w.1 ∧ w.1 < hi) && !w.2.migOnly && bound w.2)).map (·.1)
  if l.isEmpty then s
  else writesMoved sl (forEach l (fun p t => finalFailure sl p true (modWb sl p (fun w => { w with failStamp := s.now }) t)) s)

/-- Migrations from or to some places end (R224, R345). -/
def migrationsLost (hit : Nat → Place → Bool) (s : State) : State :=
  forEach (s.pool.migrations.map (·.1)) (fun i t =>
    let e := t.extent i
    if hit (i * extentLines) e.place then endMigration i stFaulted false t
    else if hit (i * extentLines) e.mig then endMigration i stAborted false t
    else t) s

/-- Work of the home slices towards places that are gone (R224): migrations and reads. DESIGN CHOICE (log 34): both end in the beat of the
report. -/
def placesLost (hit : Nat → Place → Bool) (s : State) : State := forEach (List.range 8) (readsLost hit) (migrationsLost hit s)

/-- The write-buffer positions that a walk of a lost port has visited once this beat is over (R225): position p in the cycle p + 1 after the
report. -/
def State.walked (s : State) (p : Port) : Nat :=
  match p.walkFrom with
  | some b => min 512 (2 * (s.time.beats - b))
  | none => 512

/-- Lines of a run of positions whose copy goes to the target of a migration on a lost port (R224): that copy has no further attempt, as the
migration is to end. -/
def targetsLost (port lo hi sl : Nat) (s : State) : State :=
  let hit (w : WbLine) : Bool := !w.migOnly && !w.done2 && w.second.any (fun q => q.port.toNat == port)
  let l := ((s.slice sl).wb.filter (fun w => decide (lo ≤ w.1 ∧ w.1 < hi) && hit w.2)).map (·.1)
  if l.isEmpty then s
  else writesMoved sl (forEach l (fun p t =>
    let u := modWb sl p (fun w => { w with done2 := true }) t
    let w := (u.slice sl).wbLine p
    if w.done1 ∧ (w.state = .sent ∨ w.state = .failed) then finishWb sl p u else u) s)

/-- The walks of the write buffers for a lost port go on (R224, R225). -/
def walkPort (port : Nat) (s : State) : State :=
  let hi := s.walked (s.port port)
  let lo := (s.port port).walkPos
  let s1 := if lo < hi then
      forEach (List.range 8) (fun sl t => targetsLost port lo hi sl (linesLost (fun _ q => q.port.toNat == port) lo hi sl t)) s else s
  s1.modPort port (fun p => { p with walkPos := hi, walkFrom := if 512 ≤ hi then none else p.walkFrom })

/-- The walks of every lost port go on (R225). -/
def walkPorts (s : State) : State := forEach (s.portsWhere (fun p => p.walkFrom.isSome)) walkPort s

/-- An extent entry whose place is gone (R224): the zeroing of one that is being written fails (R96). -/
def extentLost (i : Nat) (s : State) : State :=
  let e := s.extent i
  if e.state = .bound && e.sanitize && (Tab.find s.pool.zeroing i).isSome then zeroFails i s
  else if e.state = .bound ∨ e.state = .migrating then
    extentFails i s
  else if e.state = .zeroing then
    if (Tab.find s.pool.zeroing i).isSome then zeroFails i s
    else afterZeroing i true (s.modExtent i (fun x => { x with state := .failed, toBound := false }))
  else if e.state = .defined then s.modExtent i (fun x => { x with zeroed := false })
  else s

/-- An extent entry whose capacity a device takes back by force (R77, R216): a DEFINED one becomes FAILED too. -/
def extentTaken (i : Nat) (s : State) : State :=
  if (s.extent i).state = .defined then s.modExtent i (fun x => { x with state := .failed }) else extentLost i s

/-- Posted, non-posted and completion TLPs (R165 io_sub). -/
def tlpSub : TlpKind → BitVec 2
  | .memWr => 0
  | .msg => 0
  | .memRd => 1
  | .cfgRd => 1
  | .cfgWr => 1
  | .atomic => 1
  | .cplD => 2
  | .cpl => 2
  | .biSnp _ => 0

/-- The completion with Unsupported Request of a non-posted TLP that came in on a port (R211, R224). -/
def unsupportedReply (port : Nat) (t : Tlp) : Tlp :=
  { kind := .cpl, requester := t.requester, tag := t.tag, status := .unsupported, egress := port }

/-- A cell on its way to a port that has left L0 goes no further (R224): a CXL.io non-posted request in it is completed with Unsupported
Request towards the port it came from. -/
def cellStranded (c : SwCell) (s : State) : State :=
  match (if c.src < 16 then Tab.find s.switch.flitPort (4096 * c.src + c.flitTag.toNat) else none) with
  | none => s
  | some p => forEach c.msgs (fun m t => match m.tlp with
      | some x => if tlpSub x.kind = 1 then sendTlpAs c.flitTag c.known (p / 8) p 2 (unsupportedReply p x) t else t
      | none => t) s

/-- What is queued towards a port that has left L0 (R224). -/
def strandedCells (port : Nat) (s : State) : State :=
  let mine (c : SwCell) : Bool := c.dst == port / 8 && c.egress == port
  let w := s.switch
  forEach ((w.holding ++ w.staging ++ w.voq ++ w.formed).filter mine) cellStranded (s.modSwitch (fun x => { x with
    holding := x.holding.filter (fun c => !mine c), staging := x.staging.filter (fun c => !mine c),
    voq := x.voq.filter (fun c => !mine c), formed := x.formed.filter (fun c => !mine c) }))

/-- A downstream port leaves L0 (R224), with the link state it is left in. DESIGN CHOICE (log 97): a port without a slot shows no insertion
(R212), so each loss of its link counts as one; what it has accepted of a device's dynamic capacity (R216) stays. -/
def downstreamDown (port : Nat) (st : Ltssm) (s : State) : State :=
  let s1 := s.modPort port (fun p => { p with
    ltssm := st, rate := 0, width := 0, l0pWidth := 0, flit := false, cxl := false, downCount := satAdd p.downCount 1,
    lost := true, advRead := false, discovered := p.discovered && p.entry.slotValid, scanDue := true, scanning := false,
    walkFrom := some s.time.beats, walkPos := 0, active128 := false, pending128 := false, l0sTx := false })
  let s2 := portEvent port (portCount port 15 1 s1)
  let s3 := forEach (List.range 8) (readsLost (fun _ q => q.port.toNat == port)) s2
  bridgePortDown port (strandedCells port (showBound port false (boundOpenDown port s3)))

/-- Meaning of DOWNSTREAM_LINK_DOWN. -/
def execDownstreamLinkDown (port : Nat) (s : State) : Out :=
  whenWf s (decide (port < 128)) (onlyIf (s.fabricOn && (s.port port).downstream && (s.port port).inL0) (downstreamDown port .detect) s)

/-- EXTENT_SCAN_START (R225). -/
def extentScan (port : Nat) (s : State) : State :=
  s.modPort port (fun p => { p with scanDue := false, scanning := true, scanStart := s.tick, scanFrom := s.time.beats, scanPos := 0 })

/-- The extent entries that a scan has read once this beat is over (R225): 16 in each FCLK cycle. -/
def State.scanned (s : State) (p : Port) : Nat := min (2 ^ 20) (32 * (s.time.beats + 1 - p.scanFrom))

/-- The entry of a migrating extent in the scan of a lost port (R224, R345): at its source the migration ends with the extent FAILED, at its target
with the extent BOUND at the source. -/
def entryLost (port i : Nat) (s : State) : State :=
  let e := s.extent i
  if e.state ≠ .migrating then extentLost i s
  else if e.place.port.toNat = port then extentLost i (endMigration i stFaulted false s)
  else endMigration i stAborted false s

/-- A scan reads on (R225): each entry that names the port, as its place or as the target of its migration, takes its new state. -/
def scanPort (port : Nat) (s : State) : State :=
  let hi := s.scanned (s.port port)
  let names (e : Extent) : Bool := e.place.port.toNat == port || (decide (e.state = .migrating) && e.mig.port.toNat == port)
  let l := (s.pool.extents.filter (fun e => names e.2 && decide ((s.port port).scanPos ≤ e.1 ∧ e.1 < hi))).map (·.1)
  (forEach l (fun i t => mirrored (entryLost port i) t) s).modPort port (fun p => { p with scanPos := hi })

/-- The extent-table scans read on (R225). -/
def scanPorts (s : State) : State := forEach (s.portsWhere (·.scanning)) scanPort s

/-- An extent-table scan has taken its 32 ticks (R225). -/
def State.scanOver (s : State) (port : Nat) : Bool := (s.port port).scanning && decide ((s.port port).scanStart + 32 ≤ s.tick)

/-- Meaning of EXTENT_SCAN_COMPLETE. -/
def execExtentScanComplete (port : Nat) (s : State) : Out :=
  whenWf s (decide (port < 128)) (onlyIf (s.fabricOn && s.scanOver port)
    (fun t => t.modPort port (fun p => { p with scanning := false })) s)

/-- The host ports to which an LD of a port is bound (R548). -/
def State.hostsOfLd (s : State) (port ld : Nat) : List Nat := (s.boundVppbs port (some ld)).map (· / 17)

/-- Viral from a downstream device (R548): forwarded to the host of a bound LD; else its open writes fail and its link is taken down. -/
def deviceViral (port ld : Nat) (s : State) : State :=
  let hosts := s.hostsOfLd port ld
  if hosts.isEmpty then downstreamDown port .detect (failReported port ld .viral s) else signalViral hosts s

/-- Meaning of DEVICE_VIRAL. -/
def execDeviceViral (port ld : Nat) (s : State) : Out := whenWf s (decide (port < 128) && decide (ld < 16)) (onlyIf (s.deviceReaches port) (deviceViral port ld) s)

/-- Meaning of HOST_VIRAL: the device takes the host's link down (R548). -/
def execHostViral (port : Nat) (s : State) : Out :=
  whenWf s (decide (port < 128)) (onlyIf (s.fabricOn && (s.port port).upstream && (s.port port).inL0) (mirrored (takeLinkDown port)) s)

/-- Decoder 0 of each LD of a memory device that is not directly bound (R213): HPA base 0, the LD's capacity, one way, back-invalidate
off. -/
def State.firstDecoders (s : State) (port : Nat) (f : Discovery) : Tab LdDecoder :=
  if f.partner = 2 ∨ f.partner = 3 then
    f.capacities.foldl (fun d c => if c.1 < 16 ∧ !s.ldBound port c.1 then Tab.put d c.1 { size := c.2 } else d) []
  else []

/-- PORT_DISCOVERY (R201, R212, R213, R242): at the first L0 after power-on or insertion, what the partner is, its regions, and decoder 0 of a
memory device; at a later L0 after link-up, the partner's advertisement alone. -/
def discover (port : Nat) (f : Discovery) (s : State) : State :=
  if (s.port port).discovered then
    s.modPort port (fun p => { p with advRead := true, partner128 := f.cxl128, l0sLatency := f.l0sLatency })
  else
    let caps := f.capacities.foldl (fun d c => if c.1 < 16 then Tab.set d 0 c.1 c.2 else d) []
    portEvent port (s.modPort port (fun p => { p with
      discovered := true, advRead := true, l0sLatency := f.l0sLatency, partner := BitVec.ofNat 4 f.partner, ldMask := f.ldMask, dcd := f.dcd, mhd := f.mhd,
      partnerBi := f.bi, partner128 := f.cxl128, serial := f.serial, capacities := caps, dcRegions := f.regions,
      decoder0 := s.firstDecoders port f }))

/-- Meaning of PORT_DISCOVERY. -/
def execPortDiscovery (port : Nat) (found : Discovery) (s : State) : Out :=
  whenWf s (decide (port < 128)) (onlyIf (s.deviceReaches port && !(s.port port).advRead) (discover port found) s)

/-- The conditions of R202 for CXL at 128 GT/s hold, and R203 does not forbid an attempt. -/
def Port.may128 (p : Port) : Bool :=
  p.entry.cxl128 && p.entry.maxRate == 6 && p.partner128 && decide (p.ltssm = .L0) && p.cxl && p.rate == 5 &&
    !p.failed128 && !p.pending128

/-- The port attempts CXL at 128 GT/s (R202). -/
def attempt128 (port : Nat) (s : State) : State := toRecovery port (s.modPort port (fun p => { p with pending128 := true }))

/-- Meaning of CXL128_ATTEMPT (R202): within the tick in which its last condition becomes true; a port that has made none by the tick's
end makes it then. -/
def execCxl128Attempt (port : Nat) (s : State) : Out :=
  whenWf s (decide (port < 128)) (onlyIf (s.fabricOn && (s.port port).may128) (attempt128 port) s)

/-- The attempts that are due at a tick boundary (R202). -/
def attemptsDue (s : State) : State := forEach (s.portsWhere Port.may128) attempt128 s

/-- Meaning of CXL128_FAILED (R203): the link is back in L0 at a lower rate. -/
def execCxl128Failed (port : Nat) (rate : BitVec 3) (s : State) : Out :=
  whenWf s (decide (port < 128)) (onlyIf (s.fabricOn && (s.port port).pending128 && decide (rate.toNat < 6))
    (fun t => t.modPort port (fun p => { p with pending128 := false, failed128 := true, ltssm := .L0, rate := rate })) s)

/-- Whether a host's configuration request is served on a port (R220). -/
def State.configReaches (s : State) (port : Nat) : Bool :=
  s.fabricOn && (s.port port).upstream && (s.port port).inL0 && !s.dev.retryStatus

/-- Meaning of YALKEL_DVSEC_WRITE (R200): bit 1 is partner_cxl128. -/
def execYalkelDvsecWrite (port : Nat) (value : BitVec 32) (s : State) : Out :=
  whenWf s (decide (port < 128)) (onlyIf (s.configReaches port)
    (writePartner128 port value) s)

/-- Two decoder ranges share an address (R91). -/
def Decoder.overlaps (a b : Decoder) : Bool :=
  decide (a.base.toNat < b.base.toNat + b.size.toNat ∧ b.base.toNat < a.base.toNat + a.size.toNat)

/-- A commit of an HDM decoder (R79, R91): interleave ways of 1 to 16 in powers of two at 256 B to 16 KiB, else Commit Error; an
overlap with another committed decoder of the port's vPPBs raises the port event. -/
def commitDecoder (port vppb index : Nat) (d : Decoder) (s : State) : State :=
  let i := 4 * (17 * port + vppb) + index
  if 4 < d.w ∨ 6 < d.g then
    s.modPorts (fun p => { p with decoder := Tab.set p.decoder {} i { d with committed := false, error := true } })
  else
    let others := s.ports.decoder.filter (fun e => e.2.committed && decide (e.1 ≠ i ∧ e.1 / 68 = port))
    let s1 := s.modPorts (fun p => { p with decoder := Tab.set p.decoder {} i { d with committed := true, error := false } })
    if others.any (fun e => e.2.overlaps d) then portEvent port s1 else s1

/-- Meaning of HDM_DECODER_COMMIT. `ways` and `gran` are the exponents of R79; `position` is this device's place in the interleave set. -/
def execHdmDecoderCommit (port vppb index : Nat) (base size : BitVec 64) (ways gran : Nat) (dpaBase : BitVec 64) (position : Nat)
    (s : State) : Out :=
  whenWf s (decide (port < 128) && decide (vppb < 17) && decide (index < 4)) (onlyIf (s.configReaches port)
    (commitDecoder port vppb index { base := base, size := size, w := ways, g := gran, dpaBase := dpaBase,
                                     position := position % 2 ^ ways }) s)

/-- Meaning of CONFIG_REQUEST_RETRY (R220). -/
def execConfigRequestRetry (port : Nat) (s : State) : Out :=
  whenWf s (decide (port < 128)) (onlyIf (s.fabricOn && (s.port port).upstream && (s.port port).inL0 && s.dev.retryStatus)
    (fun t => t.modPort port (fun p => { p with cfgRetries := p.cfgRetries + 1 })) s)

/-- IDE fails on a port (R219): logged, and the device takes the link down. -/
def ideFails (port : Nat) (s : State) : State :=
  (takeLinkDown port (logFault 0x22 (port / 8) port 0 0 0 0 s)).modPort port (fun p => { p with ide := 3 })

/-- Meaning of IDE_FAILURE. -/
def execIdeFailure (port : Nat) (s : State) : Out :=
  whenWf s (decide (port < 128)) (onlyIf (s.fabricOn && (s.port port).upstream && (s.port port).inL0 &&
      ((s.port port).ide == 1 || (s.port port).ide == 2)) (ideFails port) s)

/-- Meaning of LOOPBACK_REQUEST (R251): a CXL or PCIe port follows, and its link has left L0; a trunk port ignores it. -/
def execLoopbackRequest (port : Nat) (s : State) : Out :=
  let p := s.port port
  whenWf s (decide (port < 128)) (onlyIf (s.fabricOn && (p.upstream || p.downstream) && !p.held &&
      decide (p.ltssm ≠ .detect ∧ p.ltssm ≠ .disabled))
    (fun t =>
      let t1 := if !p.inL0 then t else if p.upstream then upstreamDown port false t else downstreamDown port .loopback t
      t1.modPort port (fun q => { q with ltssm := .loopback })) s)

/-- The slot that powers a port's device is powered and out of PERST# (R222): a port without a slot needs none. -/
def State.slotReady (s : State) (p : Port) : Bool :=
  !p.entry.slotValid || ((s.chCopy p.entry.slot.toNat).pg && !(s.chCopy p.entry.slot.toNat).perst)

/-- A port may train (R220, R577): an UPSTREAM port from stage 3 on, a DOWNSTREAM one once SLOT_HOLD is low; never while held or
Disabled, or with a looped lane (R250, R259). DESIGN CHOICE (log 118): one looped lane keeps the whole port from training; the spec does not
say whether the other lanes may. -/
def State.mayTrain (s : State) (port : Nat) : Bool :=
  let p := s.port port
  s.fabricOn && decide (3 ≤ s.dev.stage.toNat) && !p.held && decide (p.ltssm ≠ .disabled) && !(p.lanes port).any (fun l => (s.lane l).loop != 0) &&
    (p.upstream || (p.downstream && !s.dev.slotHold && s.slotReady p))

/-- The n_fts of a port's lowest lane (R242). -/
def State.portFts (s : State) (port : Nat) : BitVec 8 := (((s.port port).lanes port).head?.map (fun l => (s.lane l).nFts)).getD 0

/-- A port reaches L0 (R203, R207, R220, R221, R226, R240): from Recovery, or after its link had left L0. -/
def reachL0 (port : Nat) (rate : BitVec 3) (width : BitVec 4) (cxl flit : Bool) (s : State) : State :=
  let p := s.port port
  let top := p.pending128 && rate == 6
  let s1 := s.modPort port (fun p => { p with
    ltssm := .L0, rate := rate, width := width, l0pWidth := 0, cxl := cxl, flit := flit, lost := false, l0sTx := false, lastTx := s.tick, ftsSent := s.portFts port,
    active128 := cxl && rate == 6, failed128 := p.failed128 || (p.pending128 && !top), pending128 := false,
    partner := if p.upstream then 4 else p.partner })
  let s2 := if p.rate = rate then s1 else equalisePort port p.rate rate s1
  if p.downstream then showBound port true s2 else s2

/-- What a port may negotiate (R198, R199, R202, R203, R205): its rate and width at most; flit mode on an UPSTREAM port, on a CXL link and
above 32 GT/s; CXL at 128 GT/s only by an attempt of R202 and while its conditions hold; no CXL where the entry forbids it. -/
def Port.mayRun (p : Port) (retry : Bool) (rate : BitVec 3) (width : BitVec 4) (cxl flit : Bool) : Bool :=
  decide (rate.toNat ≤ (if retry && p.upstream then 0 else p.entry.maxRate.toNat)) && !(cxl && p.entry.pcieOnly) &&
    (flit || (p.downstream && !cxl && decide (rate.toNat ≤ 4))) && !(cxl && rate == 6 && !((p.pending128 || p.active128) && p.entry.cxl128 && p.partner128)) &&
    decide (2 ≤ width.toNat ∧ width.toNat ≤ p.entry.width.toNat + 2)

/-- A flit-mode link in L0 changes its L0p width (R199, R205, log 84): the widths run down to x1, code 1. -/
def Port.mayL0p (p : Port) (rate : BitVec 3) (width : BitVec 4) (cxl flit : Bool) : Bool :=
  decide (p.ltssm = .L0) && p.entry.l0p && p.flit && flit && p.cxl == cxl && p.rate == rate &&
    decide (1 ≤ width.toNat ∧ width.toNat ≤ p.width.toNat)

/-- The L0p width that a width gives (R228): 0 at full width. -/
def Port.l0pOf (p : Port) (width : BitVec 4) : BitVec 4 := if width.toNat < p.width.toNat then width else 0

/-- A link changes its L0p width (R199): counted where it differs (R528). -/
def changeL0p (port : Nat) (width : BitVec 4) (s : State) : State :=
  if (s.port port).l0pOf width = (s.port port).l0pWidth then s
  else portCount port 9 1 (s.modPort port (fun p => { p with l0pWidth := p.l0pOf width }))

/-- Meaning of PORT_REACHES_L0. On a link in L0 it is a change of the L0p width (log 84). -/
def execPortReachesL0 (port : Nat) (rate : BitVec 3) (width : BitVec 4) (cxl flit : Bool) (s : State) : Out :=
  let p := s.port port
  whenWf s (decide (port < 128)) (onlyIf (s.fabricOn && p.mayL0p rate width cxl flit) (changeL0p port width)
    (onlyIf (s.mayTrain port && decide (p.ltssm ≠ .L0 ∧ p.ltssm ≠ .L0s) && p.mayRun s.dev.retryStatus rate width cxl flit)
      (reachL0 port rate width cxl flit) s))

/-- L0s is enabled (R199, R242): on a non-flit downstream PCIe link whose partner advertises it with an exit latency of at most 4 µs. -/
def Port.l0sLink (p : Port) : Bool :=
  p.downstream && !p.flit && !p.cxl && (match p.l0sLatency with | some ns => decide (ns ≤ 4000) | none => false)

/-- Meaning of L0S_ENTRY (R242): 6 ticks with nothing to send. -/
def execL0sEntry (port : Nat) (s : State) : Out :=
  whenWf s (decide (port < 128)) (onlyIf (s.fabricOn && (s.port port).l0sLink && decide ((s.port port).ltssm = .L0) && s.depth port == 0 &&
      decide ((s.port port).lastTx + 6 ≤ s.tick))
    (fun t => t.modPort port (fun p => { p with l0sTx := true, ltssm := .L0s })) s)

/-- The ordered sets by which a port's lanes leave L0s (R242): an EIEOS at 8 to 32 GT/s, then n_fts FTS, then a SKP. -/
def Port.exitSets (p : Port) (fts : Nat) : List (OrderedSet × Nat) :=
  (if 2 ≤ p.rate.toNat ∧ p.rate.toNat ≤ 4 then [(.eieos, 1)] else []) ++ [(.fts, fts), (.skp, 1)]

/-- Meaning of L0S_EXIT (R242). -/
def execL0sExit (port : Nat) (s : State) : Out :=
  whenWf s (decide (port < 128)) (onlyIf (s.fabricOn && (s.port port).l0sTx)
    (fun t => t.modPort port (fun p => { p with
      l0sTx := false, ltssm := .L0, lastTx := t.tick, exitSent := p.exitSets (t.portFts port).toNat })) s)

/-- Meaning of ADD_CAPACITY_EVENT (R216): the device accepts every one. -/
def execAddCapacityEvent (port ld block count : Nat) (s : State) : Out :=
  whenWf s (decide (port < 128) && decide (ld < 16)) (onlyIf (s.deviceReaches port && (s.port port).dcd)
    (fun t => t.modPort port (fun p => { p with dcBlocks := p.dcBlocks ++ [(ld, block, count)] })) s)

/-- Accepted capacity without a run of blocks, apart from some that stay (R216). -/
def cutBlocks (ld block count : Nat) (kept : List Nat) (l : List (Nat × Nat × Nat)) : List (Nat × Nat × Nat) :=
  l.flatMap (fun r =>
    let lo := max r.2.1 block
    let hi := min (r.2.1 + r.2.2) (block + count)
    if r.1 ≠ ld ∨ hi ≤ lo then [r]
    else (if r.2.1 < lo then [(ld, r.2.1, lo - r.2.1)] else []) ++
      (kept.filter (fun b => decide (lo ≤ b ∧ b < hi))).map (fun b => (ld, b, 1)) ++
      (if hi < r.2.1 + r.2.2 then [(ld, hi, r.2.1 + r.2.2 - hi)] else []))

/-- The extents that cover blocks of an LD in a state other than FREE (R216), by index. -/
def State.coverers (s : State) (port ld block count : Nat) : List Nat :=
  (s.pool.extents.filter (fun e => decide (e.2.state ≠ .free ∧ e.2.place.port.toNat = port ∧ e.2.place.ld.toNat = ld ∧
    block ≤ e.2.place.dpaBase.toNat ∧ e.2.place.dpaBase.toNat < block + count))).map (·.1)

/-- Meaning of RELEASE_CAPACITY_REQUEST (R216): blocks that no extent covers are released, the others are kept. -/
def execReleaseCapacityRequest (port ld block count : Nat) (s : State) : Out :=
  whenWf s (decide (port < 128) && decide (ld < 16)) (onlyIf (s.deviceReaches port && (s.port port).dcd) (fun t =>
    let kept := (t.coverers port ld block count).map (fun i => (t.extent i).place.dpaBase.toNat)
    t.modPort port (fun p => { p with dcBlocks := cutBlocks ld block count kept p.dcBlocks })) s)

/-- A forced release (R77, R216): the capacity is gone, every covering extent fails, and accesses to it fare as if its link had gone down
(R224). -/
def forceRelease (port ld block count : Nat) (s : State) : State :=
  let l := s.coverers port ld block count
  let here (q : Place) : Bool := decide (q.port.toNat = port ∧ q.ld.toNat = ld ∧ block ≤ q.dpaBase.toNat ∧ q.dpaBase.toNat < block + count)
  let s1 := s.modPort port (fun p => { p with dcBlocks := cutBlocks ld block count [] p.dcBlocks })
  forEach l extentTaken (forEach (List.range 8) (linesLost (fun _ q => here q) 0 512) (placesLost (fun _ q => here q) s1))

/-- Meaning of FORCED_RELEASE. -/
def execForcedRelease (port ld block count : Nat) (s : State) : Out :=
  whenWf s (decide (port < 128) && decide (ld < 16)) (onlyIf (s.deviceReaches port && (s.port port).dcd) (forceRelease port ld block count) s)

/-- A virtual switch joins an upstream port to a downstream one (R89, R208). -/
def State.joined (s : State) (a b : Nat) : Bool :=
  let one (u d : Nat) : Bool := (s.port u).upstream && (s.port d).downstream && (s.boundVppbs d none).any (fun i => i / 17 == u)
  one a b || one b a

/-- The upstream port of a virtual switch that has two downstream ports below it (R211). -/
def State.commonHost (s : State) (a b : Nat) : Option Nat :=
  ((s.boundVppbs a none).map (· / 17)).find? (fun u => (s.boundVppbs b none).any (fun i => i / 17 == u))

/-- The port to which a TLP that came in on a port goes (R211): one from below a virtual switch to another function below it goes to the
host, through the upstream port. -/
def State.tlpExit (s : State) (port : Nat) (t : Tlp) : Option Nat :=
  if s.joined port t.egress then some t.egress
  else if (s.port port).downstream && (s.port t.egress).downstream then s.commonHost port t.egress else none

/-- A back-invalidate snoop of a directly bound LD goes to its host (R89, R166), its address unchanged. -/
def passSnoop (port : Nat) (op : MsgOp) (t : Tlp) (s : State) : State :=
  if (s.port port).downstream && s.joined port t.egress && (s.port t.egress).inL0 then
    enqueueCell { src := port / 8, dst := t.egress / 8, egress := t.egress, cls := clsSnoop, length := 16, home := s.self,
                  msgs := [{ op := op, addr := t.address }] } s
  else s

/-- A TLP passes through (R171, R211, R224, R226): towards a port out of L0 a non-posted request completes with Unsupported Request and
everything else is discarded. A host's configuration request whose egress is the host's own port is for a function of its own virtual
switch, and a read there is for its Barrow function (R321). -/
def passPcie (port : Nat) (t : Tlp) (s1 : State) : State :=
  let e := (s1.tlpExit port t).getD t.egress
  if e = port ∧ (s1.port port).upstream ∧ (t.kind = .cfgRd ∨ t.kind = .cfgWr) then ownConfig port t s1
  else if e = port ∧ (s1.port port).upstream ∧ t.kind = .memRd then
    enqueueTlp (s1.flitNow (port / 8)) false 16
      { src := port / 8, dst := xbarBarrow, cls := clsIo, ioSub := 1, items := [.io port (.barRead t.address t.length t.requester t.tag)] } s1
  else if (s1.tlpExit port t).isSome && (s1.port e).inL0 then sendTlp (port / 8) e (tlpSub t.kind) t s1
  else if tlpSub t.kind = 1 ∧ !(s1.port e).upstream then
    sendTlp (port / 8) port 2 (unsupportedReply port t) s1
  else s1

/-- What passes through between the two sides of a virtual switch: a TLP, or a snoop of a directly bound LD (R89, R171). -/
def passTlp (port : Nat) (t : Tlp) (s : State) : State :=
  let s1 := newFlit port (flitIn port 64 s)
  match t.kind with
  | .biSnp op => passSnoop port op t s1
  | _ => passPcie port t (portCount port 14 1 s1)

/-- Meaning of PASS_THROUGH_TLP. -/
def execPassThroughTlp (port : Nat) (tlp : Tlp) (s : State) : Out :=
  whenWf s (decide (port < 128)) (onlyIf ((s.deviceReaches port || s.configReaches port) && s.queueRoom (port / 8) clsIo)
    (passTlp port tlp) s)

end Sys2Proof.Machine
end

