-- ==== Sys2Proof/Machine/PowerDie.lean ====
section
/-! DEFINITION. The power die (R492 to R515): slot channels, branch switches and feeds, and what the fabric die sees of them on
the hard-wired lines of R33. Times are samples of 1 µs (R494, log 10). -/

namespace Sys2Proof.Machine

/-- The recording block of the power link and the slots (R540). -/
def blockPower : Nat := 0x1C

/-- The code of a channel state (R496). -/
def chCode : ChState → Nat
  | .empty => 0
  | .debounce => 1
  | .delay => 2
  | .ramp => 3
  | .qualify => 4
  | .on => 5
  | .retryWait => 6
  | .latched => 7
  | .off => 8
  | .isolated => 9

/-- CH_LIMIT as it reads (R514). -/
def Channel.limitReg (c : Channel) : Nat := fieldAt c.ftimer.toNat 16 + c.limit.toNat

/-- CH_SEQ as it reads (R514). -/
def Channel.seqReg (c : Channel) : Nat :=
  fieldAt c.dvdt.toNat 17 + fieldAt c.grise.toNat 10 + fieldAt c.interval.toNat 6 + fieldAt c.retries.toNat 3

/-- CH_STATE as it reads (R514). -/
def Channel.stateReg (c : Channel) : Nat :=
  fieldAt (chCode c.state) 20 + fieldAt c.retriesLeft.toNat 17 + fieldAt (bit c.present) 16 + fieldAt (bit c.pg) 15 +
  fieldAt (bit c.trip) 14 + fieldAt (bit c.inLimit) 13 + fieldAt (bit c.gateFault) 12 + fieldAt (bit c.stuckOn) 11 +
  fieldAt c.cause.toNat 8 + c.trips.toNat

/-- FD_CFG as it reads (R514): the dead time is feed A's. -/
def FeedState.cfgReg (f : FeedState) (a : Bool) : Nat := fieldAt (if a then f.dead.toNat else 0) 11 + f.uv.toNat

/-- FD_STATE as it reads (R514). -/
def FeedState.stateReg (f : FeedState) : Nat :=
  fieldAt f.switchovers.toNat 16 + fieldAt (bit f.closed) 2 + fieldAt (bit f.good) 1 + bit f.bad

/-- PD_STATE as it reads (R514). -/
def Power.stateReg (p : Power) : Nat :=
  fieldAt p.alarms.length 16 + fieldAt (bit p.overflow) 15 + fieldAt (bit p.brownout) 14 + fieldAt p.selected.toNat 12 +
  p.temperature.toNat

/-- One feed. -/
def Power.feed (p : Power) : Feed → FeedState
  | .A => p.feedA
  | .B => p.feedB

/-- The power die's index of a feed (R514). -/
def feedIndex : Feed → Nat
  | .A => 0x40
  | .B => 0x41

/-- The code of a feed in PD_STATE.selected (R514). -/
def feedCode : Feed → Nat
  | .A => 0
  | .B => 1

/-- The other feed. -/
def otherFeed : Feed → Feed
  | .A => .B
  | .B => .A

/-- Queue an alarm (R515): one that finds the 64-entry queue full is lost, and overflow is set. -/
def queueAlarm (index address value : Nat) (s : State) : State :=
  s.modPower (fun p =>
    if p.alarms.length < 64 then { p with alarms := p.alarms ++ [(index, address, BitVec.ofNat 24 value)] }
    else { p with overflow := true, overflowBeat := 1 + s.time.beats })

/-- CH_STATE without the fields whose changes send no alarm: in_limit and trips (R515). -/
def chAlarmPart (c : Channel) : Nat := ({ c with inLimit := false, trips := 0 } : Channel).stateReg

/-- The fabric die sees a channel's PG line rise (R33, R506, R508, R519): event 240 + c, and a waiting SLOT_ON is DONE. -/
def pgRises (c : Nat) (s : State) : State :=
  let s1 := s.modCopy c (fun x => { x with pg := true, pgTick := s.tick })
  if s.fabricOn then finishJob (.slotOn c) stDone [] (raise (240 + c) s1) else s1

/-- The fabric die sees a channel's TRIP line change (R33, R506). -/
def tripLine (c : Nat) (high : Bool) (s : State) : State :=
  let s1 := s.modCopy c (fun x => { x with trip := high, faultStamp := if high then s.now else x.faultStamp })
  if s.fabricOn then raise (240 + c) s1 else s1

/-- Change a channel: a change of its state register queues an alarm (R515), and a rise of PG or a change of TRIP shows on its
line in the same sample (R33, R505). The fabric die sees PG fall in PG_FALL. -/
def chChange (c : Nat) (f : Channel → Channel) (s : State) : State :=
  let old := s.channel c
  let new := f old
  let s1 := s.modChannel c (fun _ => new)
  let s2 := if chAlarmPart old ≠ chAlarmPart new then queueAlarm c 4 new.stateReg s1 else s1
  let s3 := if new.pg && !old.pg then pgRises c s2 else s2
  if new.trip != old.trip then tripLine c new.trip s3 else s3

/-- A fault of a channel is recorded (R518): SLOT_TRIP with the TRIP rise. -/
def logTrip (c cause : Nat) (s : State) : State :=
  if s.fabricOn then logFault 0x50 blockPower c cause 0 0 0 s else s

/-- Whether the branch switch of a channel is closed (R493). -/
def State.branchClosed (s : State) (c : Nat) : Bool := s.power.branches.getLsbD (c / 8)

/-- Whether a channel's ramp may start (R497, R498, R504). -/
def State.canRamp (s : State) (c : Nat) : Bool := !s.dev.slotHold && !s.power.brownout && s.branchClosed c

/-- A channel whose ramp and gate-rise timer start (R497). A first ramp restores the retries; a retry does not. -/
def Channel.ramp (x : Channel) (now : Nat) : Channel :=
  { x with state := .ramp, since := now, gate := true, auxEn := true, trip := false, delayOver := false,
           retriesLeft := if x.state = .retryWait then x.retriesLeft else x.retries, limitSince := none }

/-- Start the ramp, or wait for the blocking line to fall (R497, R498). -/
def rampOrWait (c : Nat) (s : State) : State :=
  if s.canRamp c then chChange c (fun x => x.ramp s.sample) s
  else chChange c (fun x => { x with delayOver := true }) s

/-- Every channel that waits starts its ramp in the first sample in which nothing blocks it (R498). -/
def startWaitingRamps (s : State) : State :=
  forEach (List.range 48) (fun c t =>
    let x := t.channel c
    if x.delayOver && t.canRamp c && (x.state == .delay || (x.state == .retryWait && x.prsnt)) then
      chChange c (fun y => y.ramp t.sample) t
    else t) s

/-- Change what PD_STATE reports: an alarm follows a change of any field but queue and temperature (R515). -/
def pdChange (f : Power → Power) (s : State) : State :=
  let key (p : Power) : Bool × Bool × BitVec 2 := (p.overflow, p.brownout, p.selected)
  let s1 := s.modPower f
  if key s.power ≠ key s1.power then queueAlarm 0x80 4 s1.power.stateReg s1 else s1

/-- Change a feed: an alarm follows a change of any field of FD_STATE but switchovers (R515). -/
def fdChange (fd : Feed) (f : FeedState → FeedState) (s : State) : State :=
  let key (x : FeedState) : Bool × Bool × Bool := (x.closed, x.good, x.bad)
  let s1 := s.modPower (fun p => match fd with
    | .A => { p with feedA := f p.feedA }
    | .B => { p with feedB := f p.feedB })
  if key (s.power.feed fd) ≠ key (s1.power.feed fd) then queueAlarm (feedIndex fd) 4 (s1.power.feed fd).stateReg s1 else s1

/-- The BROWNOUT line (R33, R498, R510, R517, R518): source 291 follows it, its rise is logged, and its fall lets waiting ramps
start. -/
def setBrownout (high : Bool) (s : State) : State :=
  if s.power.brownout = high then s
  else
    let s1 := pdChange (fun p => { p with brownout := high }) s
    let s2 := if s.fabricOn then driveInput 291 high s1 else s1
    if high then (if s.fabricOn then logFault 0x54 blockPower 0 0 0 0 0 s2 else s2) else startWaitingRamps s2

/-- A switchover begins (R510): the closed feed opens, and the dead time runs. -/
def openFeed (target : Feed) (s : State) : State :=
  fdChange (otherFeed target) (fun x => { x with closed := false })
    (s.modPower (fun p => { p with switchingTo := some target, switchSince := s.sample }))

/-- The first feed closes: no switchover (R510 Start). -/
def closeFirst (fd : Feed) (s : State) : State :=
  pdChange (fun p => { p with selected := BitVec.ofNat 2 (feedCode fd) }) (fdChange fd (fun x => { x with closed := true }) s)

/-- The feed that PD_STATE.selected names (R514). -/
def Power.selectedFeed (p : Power) : Option Feed := if p.selected = 0 then some .A else if p.selected = 1 then some .B else none

/-- Feed selection (R510) after a verdict or a switchover: nothing happens while a dead time runs. BROWNOUT is high too while no feed is
selected and both are below their thresholds (R33). -/
def feedReview (s : State) : State :=
  if s.power.switchingTo.isSome then s
  else match s.power.selectedFeed with
  | none =>
    if s.power.feedA.good then setBrownout false (closeFirst .A s)
    else if s.power.feedB.good then setBrownout false (closeFirst .B s)
    else setBrownout (s.power.feedA.bad && s.power.feedB.bad) s
  | some f =>
    if !(s.power.feed f).bad then setBrownout false s
    else if (s.power.feed (otherFeed f)).good then openFeed (otherFeed f) s
    else setBrownout true s

/-- FEED_BAD (R509, R510). -/
def feedBadOp (fd : Feed) (s : State) : State :=
  feedReview (fdChange fd (fun x => { x with good := false, bad := true }) s)

/-- FEED_GOOD (R509, R510). -/
def feedGoodOp (fd : Feed) (s : State) : State :=
  feedReview (fdChange fd (fun x => { x with good := true, bad := false, goodSince := s.sample }) s)

/-- The dead time ends and the other feed closes (R510): BROWNOUT falls. The qualification counts stood still meanwhile (R505). -/
def deadTimeEnds (fd : Feed) (s : State) : State :=
  let s1 := s.modPower (fun p => { p with switchingTo := none, channels := p.channels.map (fun e =>
    (e.1, if e.2.state = .qualify then { e.2 with qualSince := e.2.qualSince + (s.sample - p.switchSince) } else e.2)) })
  let s2 := fdChange fd (fun x => { x with closed := true, switchovers := satAdd x.switchovers 1 }) s1
  feedReview (setBrownout false (pdChange (fun p => { p with selected := BitVec.ofNat 2 (feedCode fd) }) s2))

/-- States in which a channel's gate is driven (R500, R501). -/
def Channel.driven (x : Channel) : Bool := x.state == .ramp || x.state == .qualify || x.state == .on

/-- A trip (R497, R501, R502): the gate goes off, and a retry follows while one is left. -/
def tripOp (c cause : Nat) (s : State) : State :=
  logTrip c cause (chChange c (fun x =>
    let y : Channel := { x with gate := false, pg := false, pgSince := none, inLimit := false, trip := true, since := s.sample,
                                cause := BitVec.ofNat 3 cause, trips := satAdd x.trips 1, delayOver := false }
    if x.retriesLeft = 0 then { y with state := .latched, auxEn := false }
    else { y with state := .retryWait, retriesLeft := x.retriesLeft - 1 }) s)

/-- A gate fault (R503): the channel latches at once. -/
def gateFaultOp (c : Nat) (s : State) : State :=
  logTrip c 4 (chChange c (fun x =>
    { x with gate := false, pg := false, pgSince := none, inLimit := false, trip := true, since := s.sample, cause := 4,
             trips := satAdd x.trips 1, gateFault := true, state := .latched, auxEn := false, delayOver := false }) s)

/-- A channel of a branch that opened (R497, R504). -/
def Channel.isolate (x : Channel) (now : Nat) : Channel :=
  { x with state := .isolated, gate := false, auxEn := false, pg := false, pgSince := none, trip := false, inLimit := false,
           since := now, delayOver := false }

/-- The other channels of channel c's branch (R493). -/
def branchMates (c : Nat) : List Nat := ((List.range 8).map (fun i => 8 * (c / 8) + i)).filter (· ≠ c)

/-- A stuck-on fault (R504): the branch opens, the channel latches, and the branch's other channels are isolated. -/
def stuckOnOp (c : Nat) (s : State) : State :=
  let s1 := s.modPower (fun p => { p with branches := p.branches &&& ~~~(BitVec.ofNat 6 (2 ^ (c / 8))) })
  let s2 := logTrip c 5 (chChange c (fun x =>
    { x with state := .latched, trip := true, stuckOn := true, cause := 5, trips := satAdd x.trips 1, auxEn := false,
             gate := false, since := s.sample, delayOver := false }) s1)
  forEach (branchMates c) (fun d t =>
    if (t.channel d).state ∈ [ChState.debounce, .delay, .ramp, .qualify, .on, .retryWait] then
      chChange d (fun x => x.isolate s.sample) t
    else t) s2

/-- Whether a channel's gate is low and a stuck-on fault can be seen (R497, R504). -/
def Channel.canStick (x : Channel) : Bool :=
  !x.stuckOn && decide (x.state ∈ [ChState.empty, .debounce, .delay, .retryWait, .latched, .off])

/-- The branch switch of channel c closes (R497, R504): its isolated channels start a fresh insertion delay. -/
def closeBranch (c : Nat) (s : State) : State :=
  let s1 := s.modPower (fun p => { p with branches := p.branches ||| BitVec.ofNat 6 (2 ^ (c / 8)) })
  startWaitingRamps (forEach (branchMates c) (fun d t =>
    if (t.channel d).state = .isolated then
      chChange d (fun x => { x with state := .delay, auxEn := true, since := s.sample, delayOver := false }) t
    else t) s1)

/-- CH_CTRL.clear_latch, as SLOT_CLEAR_LATCH (R405, R497): the branch closes once no stuck-on latch of it is left. -/
def clearLatchOp (c : Nat) (s : State) : State :=
  if (s.channel c).state ≠ .latched then s
  else
    let s1 := chChange c (fun x =>
      { x with state := if x.prsnt then .off else .empty, present := x.prsnt, gateFault := false, stuckOn := false, trip := false,
               retriesLeft := x.retries, since := s.sample }) s
    if (s.channel c).stuckOn && (branchMates c).all (fun d => !(s.channel d).stuckOn) then closeBranch c s1 else s1

/-- CH_CTRL.off, as SLOT_OFF (R497, R519): nothing in EMPTY, LATCHED, OFF and ISOLATED. -/
def offOp (c : Nat) (s : State) : State :=
  if (s.channel c).state ∈ [ChState.debounce, .delay, .ramp, .qualify, .on, .retryWait] then
    chChange c (fun x =>
      { x with state := .off, gate := false, auxEn := false, pg := false, pgSince := none, trip := false, inLimit := false,
               retriesLeft := x.retries, since := s.sample, delayOver := false }) s
  else s

/-- CH_CTRL.on, as SLOT_ON (R497): the ramp of an OFF channel starts, or waits as DELAY does. -/
def onOp (c : Nat) (s : State) : State :=
  if (s.channel c).state ≠ .off then s
  else if s.canRamp c then chChange c (fun x => x.ramp s.sample) s
  else chChange c (fun x =>
    { x with state := .delay, retriesLeft := x.retries, auxEn := true, since := s.sample, delayOver := true }) s

/-- PRESENCE_DETECT (R497, R507). -/
def presenceDetectOp (c : Nat) (s : State) : State :=
  chChange c (fun x =>
    if x.state = .empty then { x with prsnt := true, state := .debounce, since := s.sample } else { x with prsnt := true }) s

/-- DEBOUNCE_COMPLETE (R497). -/
def debounceOp (c : Nat) (s : State) : State :=
  chChange c (fun x => { x with state := .delay, auxEn := true, present := true, since := s.sample, delayOver := false }) s

/-- PRESENCE_LOST (R497, R507): lost before the debounce ends, or for 100 ms. A latch on a damaged FET stays. -/
def presenceLostOp (c : Nat) (s : State) : State :=
  chChange c (fun x =>
    if x.state = .debounce then { x with prsnt := false, state := .empty }
    else if x.state = .latched && (x.gateFault || x.stuckOn) then
      { x with prsnt := false, present := false, retriesLeft := x.retries }
    else { x with prsnt := false, present := false, state := .empty, gate := false, auxEn := false, pg := false, pgSince := none,
                  trip := false, inLimit := false, retriesLeft := x.retries, since := s.sample, delayOver := false }) s

/-- Whether a retry interval has ended (R497, R502). -/
def Channel.retryDue (x : Channel) (now : Nat) : Bool :=
  x.state == .retryWait && !x.delayOver && decide (x.since + (x.interval.toNat + 1) * 1000000 ≤ now)

/-- The power die's latest code of the selected feed's voltage (R29, R511, R512: 5 mV a code); none when no feed is selected. -/
def State.feedVolts (s : State) : Option Nat :=
  if s.power.selected = 0 then some s.power.codeA.toNat else if s.power.selected = 1 then some s.power.codeB.toNat else none

/-- Whether VOUT, in ADC codes, is at or above the selected feed less 0.5 V (R497). -/
def State.voutReached (s : State) (vout : Nat) : Bool :=
  match s.feedVolts with
  | some v => decide (v ≤ vout + 100)
  | none => false

/-- The longest RAMP in samples (R499): 2 × (feed ÷ dV/dt) + 10 ms, with the feed in 5 mV codes and dV/dt in 0.1 V/ms. -/
def State.rampLimit (s : State) (x : Channel) : Nat := 10000 + 100 * s.feedVolts.getD 0 / x.dvdt.toNat

/-- The channel has been out of limit for 4 samples, and its fault timer is back at 0 (R500). -/
def Channel.timerBack (x : Channel) (now : Nat) : Bool := !x.inLimit && decide (x.outSince + 4 ≤ now)

/-- The sample from which the fault timer counts after a sample in limit (R500): the samples out of limit since the last one do not
count. -/
def Channel.timerFrom (x : Channel) (now : Nat) : Nat :=
  match x.limitSince with
  | some t => if x.inLimit then t else if x.timerBack now then now else t + (now - x.outSince)
  | none => now

/-- A sample of a channel's shunt and output voltages (R500, R505; log 65): the fault timer counts the samples in limit from the first
one, stands in a sample out of limit, and is back at 0 after four of these; the qualification count starts again after a sample that
does not count. -/
def Channel.sampled (x : Channel) (shunt : Nat) (reached : Bool) (now : Nat) : Channel :=
  let lim := x.driven && decide (4 * x.limit.toNat ≤ shunt)
  let out := if lim || !x.inLimit then x.outSince else now
  let since := if lim then some (x.timerFrom now) else if x.timerBack now then none else x.limitSince
  { x with inLimit := lim, outSince := out, limitSince := since,
           qualSince := if lim || !reached then now + 1 else if since.isSome then max x.qualSince (out + 4) else x.qualSince }

/-- The fault timer has reached its setting, in 0.25 ms units (R500). -/
def Channel.timerOver (x : Channel) (now : Nat) : Bool :=
  x.driven && x.inLimit && x.limitSince.any (fun t => decide (t + 250 * x.ftimer.toNat ≤ now))

/-- The qualification count has reached 10,000 samples (R505): no fault timer runs, and no dead time stands still. -/
def State.qualified (s : State) (x : Channel) : Bool :=
  decide (x.state = .qualify ∧ x.qualSince + 10000 ≤ s.sample) && (x.limitSince.isNone || x.timerBack s.sample) && s.power.switchingTo.isNone

/-- Whether the power die runs (R475). -/
def State.powerOn (s : State) : Bool := s.power.ready

/-- A channel as PKG_RESET_N leaves it (R520): EMPTY with reset settings; presence starts DEBOUNCE again. -/
def Channel.coldReset (x : Channel) (now : Nat) : Channel :=
  if x.prsnt then { prsnt := true, state := .debounce, since := now } else {}

/-- PKG_RESET_N low on the power die (R520): every gate goes off, every branch closes, settings return to reset, and feed
selection keeps running. -/
def powerPkgReset (s : State) : State :=
  s.modPower (fun p =>
    { p with channels := p.channels.foldl (fun t e => Tab.set t {} e.1 (e.2.coldReset s.sample)) [], branches := 0x3F,
             feedA := { p.feedA with uv := 0x41A, dead := 5 }, feedB := { p.feedB with uv := 0x41A, dead := 5 },
             alarms := [], responses := [], wearAnswered := [], overflow := false })

/-- PRESENCE_DETECT (R497). -/
def execPresenceDetect (channel : Nat) (s : State) : Out :=
  whenWf s (decide (channel < 48)) (onlyIf (s.powerOn && !(s.channel channel).prsnt) (presenceDetectOp channel) s)

/-- DEBOUNCE_COMPLETE (R497). -/
def execDebounceComplete (channel : Nat) (s : State) : Out :=
  whenWf s (decide (channel < 48))
    (onlyIf (s.powerOn && (s.channel channel).state == .debounce && decide ((s.channel channel).since + 100000 ≤ s.sample))
      (debounceOp channel) s)

/-- PRESENCE_BOUNCE (R507): nothing changes, but a retry that fell due starts. -/
def execPresenceBounce (channel : Nat) (s : State) : Out :=
  whenWf s (decide (channel < 48))
    (onlyIf (s.powerOn && (s.channel channel).prsnt && (s.channel channel).retryDue s.sample) (rampOrWait channel) s)

/-- PRESENCE_LOST (R497, R507). -/
def execPresenceLost (channel : Nat) (s : State) : Out :=
  whenWf s (decide (channel < 48)) (onlyIf (s.powerOn && (s.channel channel).prsnt) (presenceLostOp channel) s)

/-- INSERTION_DELAY_END (R497, R498). -/
def execInsertionDelayEnd (channel : Nat) (s : State) : Out :=
  whenWf s (decide (channel < 48))
    (onlyIf (s.powerOn && (s.channel channel).state == .delay && !(s.channel channel).delayOver &&
        decide ((s.channel channel).since + 1000000 ≤ s.sample)) (rampOrWait channel) s)

/-- RAMP_REACHED (R497). -/
def execRampReached (channel : Nat) (vout : BitVec 12) (s : State) : Out :=
  whenWf s (decide (channel < 48))
    (onlyIf (s.powerOn && (s.channel channel).state == .ramp && s.voutReached vout.toNat)
      (chChange channel (fun x => { x with state := .qualify, since := s.sample, qualSince := s.sample })) s)

/-- QUALIFY_COMPLETE (R505): PG rises. -/
def execQualifyComplete (channel : Nat) (s : State) : Out :=
  whenWf s (decide (channel < 48))
    (onlyIf (s.powerOn && s.qualified (s.channel channel))
      (chChange channel (fun x => { x with state := .on, pg := true, pgSince := some s.sample, since := s.sample })) s)

/-- FAULT_TIMER_EXPIRY (R500). -/
def execFaultTimerExpiry (channel : Nat) (s : State) : Out :=
  whenWf s (decide (channel < 48)) (onlyIf (s.powerOn && (s.channel channel).timerOver s.sample) (tripOp channel 1) s)

/-- FAST_TRIP (R501): the shunt voltage, in the 0.1 mV units of the limit, exceeds twice the limit. -/
def execFastTrip (channel shunt : Nat) (s : State) : Out :=
  whenWf s (decide (channel < 48))
    (onlyIf (s.powerOn && (s.channel channel).driven && decide (2 * (s.channel channel).limit.toNat < shunt)) (tripOp channel 2) s)

/-- RAMP_TIMEOUT (R499). -/
def execRampTimeout (channel : Nat) (s : State) : Out :=
  whenWf s (decide (channel < 48))
    (onlyIf (s.powerOn && (s.channel channel).state == .ramp &&
        decide ((s.channel channel).since + s.rampLimit (s.channel channel) ≤ s.sample)) (tripOp channel 3) s)

/-- GATE_RISE_TIMEOUT (R499, R503). -/
def execGateRiseTimeout (channel : Nat) (s : State) : Out :=
  whenWf s (decide (channel < 48))
    (onlyIf (s.powerOn && (s.channel channel).state == .ramp &&
        decide ((s.channel channel).since + (s.channel channel).grise.toNat * 1000 ≤ s.sample)) (gateFaultOp channel) s)

/-- RETRY_INTERVAL_END (R497, R502). -/
def execRetryIntervalEnd (channel : Nat) (s : State) : Out :=
  whenWf s (decide (channel < 48)) (onlyIf (s.powerOn && (s.channel channel).retryDue s.sample) (rampOrWait channel) s)

/-- PG_HELD_60S (R497). -/
def execPgHeld60s (channel : Nat) (s : State) : Out :=
  whenWf s (decide (channel < 48))
    (onlyIf (s.powerOn && (s.channel channel).state == .on &&
        ((s.channel channel).pgSince.any (fun t => decide (t + 60000000 ≤ s.sample))))
      (chChange channel (fun x => { x with retriesLeft := x.retries })) s)

/-- STUCK_ON (R504). -/
def execStuckOn (channel : Nat) (s : State) : Out :=
  whenWf s (decide (channel < 48)) (onlyIf (s.powerOn && (s.channel channel).canStick) (stuckOnOp channel) s)

/-- CH_CTRL_ON (R497, R514). -/
def execChCtrlOn (channel : Nat) (s : State) : Out := whenWf s (decide (channel < 48)) (onlyIf s.powerOn (onOp channel) s)

/-- CH_CTRL_OFF (R497, R514). -/
def execChCtrlOff (channel : Nat) (s : State) : Out := whenWf s (decide (channel < 48)) (onlyIf s.powerOn (offOp channel) s)

/-- CH_CTRL_CLEAR_LATCH (R497, R514). -/
def execChCtrlClearLatch (channel : Nat) (s : State) : Out :=
  whenWf s (decide (channel < 48)) (onlyIf s.powerOn (clearLatchOp channel) s)

/-- FEED_BAD (R509, R510). -/
def execFeedBad (feed : Feed) (s : State) : Out :=
  whenWf s (true) (onlyIf (s.powerOn && !(s.power.feed feed).bad) (feedBadOp feed) s)

/-- FEED_GOOD (R509, R510). -/
def execFeedGood (feed : Feed) (s : State) : Out :=
  whenWf s (true) (onlyIf (s.powerOn && !(s.power.feed feed).good) (feedGoodOp feed) s)

/-- FEED_RETURN_TO_A (R510). -/
def execFeedReturnToA (s : State) : Out :=
  whenWf s (true)
    (onlyIf (s.powerOn && s.power.switchingTo.isNone && s.power.selected == 1 && s.power.feedA.good &&
        decide (s.power.feedA.goodSince + 1000000 ≤ s.sample)) (openFeed .A) s)

/-- FEED_DEAD_TIME_END (R509, R510): one dead time, feed A's, applies to every switchover. -/
def execFeedDeadTimeEnd (s : State) : Out :=
  whenWf s (true)
    (match s.power.switchingTo with
     | some fd => onlyIf (s.powerOn && decide (s.power.switchSince + s.power.feedA.dead.toNat ≤ s.sample)) (deadTimeEnds fd) s
     | none => s)

/-- A slot's reset is released (R222, R508): a port of the slot that a removal left Disabled trains again. -/
def releasePerst (c : Nat) (s : State) : State :=
  let ports := s.portsWhere (fun p => p.downstream && p.entry.slotValid && p.entry.slot.toNat == c && p.ltssm == .disabled)
  forEach ports (fun p t => t.modPort p (fun x => { x with ltssm := .detect })) (s.modCopy c (fun x => { x with perst := false }))

/-- PERST_RELEASE (R222, R508): 97,657 ticks after PG rose. -/
def execPerstRelease (channel : Nat) (s : State) : Out :=
  whenWf s (decide (channel < 48))
    (onlyIf (s.fabricOn && (s.chCopy channel).pg && (s.chCopy channel).perst && decide ((s.chCopy channel).pgTick + 97657 ≤ s.tick))
      (releasePerst channel) s)

/-- The slot's reset is driven (R508): what discovery and IDE found of the device behind it no longer holds (R212). -/
def drivePerst (c : Nat) (s : State) : State :=
  (s.modCopy c (fun x => { x with perst := true })).modPorts (fun q => { q with port := q.port.map (fun e =>
    if e.2.downstream && e.2.entry.slotValid && e.2.entry.slot.toNat == c then
      (e.1, { e.2 with partner := 0, ldMask := 0, dcd := false, mhd := false, partnerBi := false, discovered := false, advRead := false, capacities := [], dcRegions := [], decoder0 := [], dcBlocks := [] })
    else e) })

/-- PG_FALL (R506, R508): PERST_N falls in the beat in which the fabric die sees PG fall; event 240 + c. -/
def pgFallOp (c : Nat) (s : State) : State := raise (240 + c) (drivePerst c (s.modCopy c (fun x => { x with pg := false })))

/-- PG_FALL (R508). -/
def execPgFall (channel : Nat) (s : State) : Out :=
  whenWf s (decide (channel < 48))
    (onlyIf (s.fabricOn && (s.chCopy channel).pg && !(s.channel channel).pg) (pgFallOp channel) s)

end Sys2Proof.Machine
end

