-- ==== Sys2Proof/Machine/PowerLink.lean ====
section
/-! DEFINITION. The power link (R30 to R32), the power die's registers (R514), alarms (R515), telemetry (R511), and the fabric
die's copies and what it raises from them (R513, R516 to R518). -/

namespace Sys2Proof.Machine

/-- A power die register as it reads (R514); every other address reads 0 (R15). -/
def pdRead (s : State) (index address : Nat) : Nat :=
  if index < 48 then
    (let c := s.channel index
     if address = 1 then c.limitReg else if address = 2 then c.seqReg else if address = 4 then c.stateReg else 0)
  else if index = 0x40 ∨ index = 0x41 then
    (let a := decide (index = 0x40)
     let f := if a then s.power.feedA else s.power.feedB
     if address = 1 then f.cfgReg a else if address = 4 then f.stateReg else 0)
  else if index = 0x80 then
    (if address = 0 then 0xA07256 else if address = 1 then s.power.branches.toNat
     else if address = 4 then s.power.stateReg else 0)
  else 0

/-- A field takes a written value in its range; a value outside it is not allowed and changes nothing (R15, log 13). -/
def inRange {w : Nat} (lo hi v : Nat) (old : BitVec w) : BitVec w := if lo ≤ v ∧ v ≤ hi then BitVec.ofNat w v else old

/-- Write a channel register (R514). CH_CTRL acts in the order clear_latch, off, on (log 13). -/
def chWrite (c address v : Nat) (s : State) : State :=
  if address = 1 then s.modChannel c (fun x => { x with ftimer := inRange 1 128 (v / 2 ^ 16) x.ftimer,
                                                        limit := inRange 10 500 (v % 2 ^ 9) x.limit })
  else if address = 2 then
    s.modChannel c (fun x => { x with dvdt := inRange 1 100 (v / 2 ^ 17) x.dvdt, grise := inRange 1 100 (v / 2 ^ 10 % 2 ^ 7) x.grise,
                                      interval := BitVec.ofNat 4 (v / 2 ^ 6), retries := BitVec.ofNat 3 (v / 2 ^ 3) })
  else if address = 3 then
    onlyIf (v.testBit 0) (onOp c) (onlyIf (v.testBit 1) (offOp c) (onlyIf (v.testBit 2) (clearLatchOp c) s))
  else s

/-- Write a feed's configuration (R514): the dead time is feed A's. -/
def fdWrite (a : Bool) (v : Nat) (x : FeedState) : FeedState :=
  { x with uv := inRange 900 1400 (v % 2 ^ 11) x.uv, dead := if a then inRange 2 50 (v / 2 ^ 11 % 2 ^ 6) x.dead else x.dead }

/-- Write a power die register (R514): PD_STATE.overflow is cleared by writing 1, and a read-only field ignores writes. -/
def pdWrite (index address v : Nat) (s : State) : State :=
  if index < 48 then chWrite index address v s
  else if index = 0x40 ∧ address = 1 then s.modPower (fun p => { p with feedA := fdWrite true v p.feedA })
  else if index = 0x41 ∧ address = 1 then s.modPower (fun p => { p with feedB := fdWrite false v p.feedB })
  else if index = 0x80 ∧ address = 4 ∧ v.testBit 15 then pdChange (fun p => { p with overflow := p.overflow && !s.clears p.overflowBeat }) s
  else s

/-- The power link's frames of a tick cross in its beats 0 to 959 (R40); while FCLK stands there are no beats. -/
def State.linkWindow (s : State) : Bool := !s.time.running || decide (s.now.toNat % 1024 < 960)

/-- Whether a command slot is free in this tick (R30, R40, R543): six in all, two of them for wear-book writes. -/
def State.slotFree (s : State) (wear : Bool) : Bool :=
  s.linkWindow && (decide (s.power.slotTick ≠ s.tick) || (decide (s.power.slotUsed < 6) && (!wear || decide (s.power.wearUsed < 2))))

/-- Use a command slot of this tick. -/
def useSlot (wear : Bool) (s : State) : State :=
  s.modPower (fun p =>
    let fresh := decide (p.slotTick ≠ s.tick)
    { p with slotTick := s.tick, slotUsed := (if fresh then 0 else p.slotUsed) + 1,
             wearUsed := (if fresh then 0 else p.wearUsed) + bit wear })

/-- Whether a frame is the given one (R31). -/
def PlFrame.isFrame (f : PlFrame) (typ index address : Nat) (value : BitVec 24) : Bool :=
  f.typ == typ && f.index == index && f.address == address && (typ == 2 || f.value == value)

/-- The fields of a power link frame as its 64 bits carry them (R31): type, index, payload, and the CRC over bits [63:16]; a register's
address lies in payload bits [47:40] and its value in [39:16] (R514). PRESUMED (log 67): the CRC-16 is that of R235, over bytes 7 to 2. -/
def plImage (typ index : Nat) (payload : BitVec 32) : BitVec 64 :=
  let v := fieldAt (typ % 256) 40 + fieldAt (index % 256) 32 + payload.toNat
  BitVec.ofNat 64 (fieldAt v 16 + (crc16 ((List.range 6).map (fun i => BitVec.ofNat 8 (v / 256 ^ (5 - i))))).toNat)

/-- The index of a wear-book frame and of its response. DESIGN CHOICE (log 103): R31 names no index for them. -/
def wearIndex : Nat := 0xFF

/-- The image of a command frame (R31, R514): a register frame, or a wear-book frame. DESIGN CHOICE (log 103): R31 names no index for a
wear-book frame, and its payload cannot hold an address beside the four bytes that a write carries (R543: a summary of 32 bytes leaves in
8 frames), so that a read carries its address and a write its bytes alone. -/
def PlFrame.image (f : PlFrame) : BitVec 64 :=
  plImage f.typ f.index (if f.typ = 7 then BitVec.ofNat 32 (natOfBytes f.data) else if f.typ = 6 then BitVec.ofNat 32 f.wear
    else BitVec.ofNat 32 (fieldAt f.address 24 + f.value.toNat))

/-- A response frame (R514), a telemetry frame (R511) and an alarm frame (R515), by type 0x03 to 0x05 (R31). -/
def responseImage (index address : Nat) (value : BitVec 24) : BitVec 64 := plImage 3 index (BitVec.ofNat 32 (fieldAt address 24 + value.toNat))
/-- Telemetry (R31): sample A above sample B. -/
def telemetryImage (index : Nat) (a b : BitVec 12) : BitVec 64 := plImage 4 index (BitVec.ofNat 32 (fieldAt a.toNat 20 + fieldAt b.toNat 8))
/-- Alarm (R515). -/
def alarmImage (index address : Nat) (value : BitVec 24) : BitVec 64 := plImage 5 index (BitVec.ofNat 32 (fieldAt address 24 + value.toNat))
/-- Idle (R31). -/
def idleImage : BitVec 64 := plImage 0 0 0

/-- A receiver takes a frame whose CRC holds (R31, R32). -/
def plGood (image : BitVec 64) : Bool := image == plImage (bitsOf image 63 56) (bitsOf image 55 48) (image.extractLsb' 16 32)

/-- A command frame leaves (R32, R519): the frame at the head of the queue then waits for its response. -/
def frameLeaves (typ index address : Nat) (value : BitVec 24) (s : State) : State :=
  match s.power.outQueue with
  | f :: rest =>
    if f.isFrame typ index address value then
      s.modPower (fun p => { p with outQueue := rest, unanswered := p.unanswered ++ [{ f with sent := s.tick }] })
    else s
  | [] => s

/-- The power die answers a command frame (R514): the response waits for a response slot. -/
def respond (index address : Nat) (value : BitVec 24) (s : State) : State :=
  s.modPower (fun p => { p with responses := p.responses ++ [(index, address, value)] })

/-- A frame that was sent again has arrived (R30, R32): it took its command slot as it left. -/
def againArrives (is : PlFrame → Bool) (s : State) : State :=
  s.modPower (fun p => { p with unanswered := p.unanswered.map (fun f => if is f then { f with again := false } else f) })

/-- A frame that was sent again is on its way (R32). -/
def State.onItsWay (s : State) (is : PlFrame → Bool) : Bool := s.power.unanswered.any (fun f => is f && f.again)

/-- A register frame leaves, in a command slot of this tick (R30, R519), unless it is one that was sent again. -/
def registerLeaves (typ index address : Nat) (value : BitVec 24) (s : State) : State :=
  let is (f : PlFrame) : Bool := f.isFrame typ index address value
  if s.onItsWay is then againArrives is s else frameLeaves typ index address value (useSlot false s)

/-- Whether a register frame can leave in this tick (R30). -/
def State.registerFree (s : State) (typ index address : Nat) (value : BitVec 24) : Bool :=
  s.slotFree false || s.onItsWay (fun f => f.isFrame typ index address value)

/-- A register write frame (R514): it is discarded when its CRC fails (R32), otherwise applied and answered with the value written. -/
def writeFrameOp (index address : Nat) (value : BitVec 24) (crcGood : Bool) (s : State) : State :=
  let s1 := registerLeaves 1 index address value s
  if crcGood && s.powerOn then respond index address value (pdWrite index address value.toNat s1) else s1

/-- A register read frame (R514). -/
def readFrameOp (index address : Nat) (crcGood : Bool) (s : State) : State :=
  let s1 := registerLeaves 2 index address 0 s
  if crcGood && s.powerOn then respond index address (BitVec.ofNat 24 (pdRead s1 index address)) s1 else s1

/-- Queue command frames (R519): they leave in command order in the six slots of each tick. -/
def pushFrames (l : List PlFrame) (s : State) : State := s.modPower (fun p => { p with outQueue := p.outQueue ++ l })

/-- A register read frame to send. -/
def readFrame (index address : Nat) : PlFrame := { typ := 2, index := index, address := address }

/-- A register write frame to send. -/
def writeFrame (index address value : Nat) : PlFrame :=
  { typ := 1, index := index, address := address, value := BitVec.ofNat 24 value }

/-- The 149 reads of stage 2 and of a link that is up again (R516). -/
def allReads : List PlFrame :=
  (List.range 48).flatMap (fun c => [readFrame c 1, readFrame c 2, readFrame c 4]) ++
  [readFrame 0x40 1, readFrame 0x40 4, readFrame 0x41 1, readFrame 0x41 4, readFrame 0x80 4]

/-- Reads of every state register (R515). -/
def stateReads : List PlFrame :=
  (List.range 48).map (fun c => readFrame c 4) ++ [readFrame 0x40 4, readFrame 0x41 4, readFrame 0x80 4]

/-- A channel's state value reaches the fabric die (R517 to R519): events for a change of presence and for entry to LATCHED or
ISOLATED, the ledger entries, the branch event, and the ends of a waiting SLOT_ON and PORT_PREPARE_REMOVAL (R394). -/
def noteChannel (c : Nat) (v : BitVec 24) (s : State) : State :=
  let old := (s.chCopy c).stateReg
  let st := bitsOf v 23 20
  let entered (k : Nat) : Bool := decide (st = k ∧ bitsOf old 23 20 ≠ k)
  let cause := bitsOf v 10 8
  let others := (branchMates c).any (fun d => (s.chCopy d).stateReg.getLsbD 11)
  let s1 := s.modCopy c (fun x => { x with stateReg := v })
  let s2 := onlyIf (v.getLsbD 16 != old.getLsbD 16 || entered 7 || entered 9) (raise (240 + c)) s1
  let s3 := onlyIf (entered 7) (fun t => finishJob (.slotOn c) stFaulted [] (logFault 0x51 blockPower c cause 0 0 0 t)) s2
  let s4 := onlyIf (v.getLsbD 11 && !old.getLsbD 11 && !others)
    (fun t => raise 294 (logFault 0x52 blockPower (c / 8) c 0 0 0 t)) s3
  let s5 := onlyIf (!v.getLsbD 11 && old.getLsbD 11 && !others) (raise 294) s4
  let off := decide (st ∈ [0, 7, 8, 9])
  let ports := s.portsWhere (fun p => p.downstream && p.entry.slotValid && p.entry.slot.toNat == c)
  let s6 := if off then forEach ports (fun p t => finishJob (.removal p) stDone [] t) s5 else s5
  onlyIf (st == 0) (finishJob (.slotOn c) stFaulted []) s6

/-- A feed's state value reaches the fabric die (R517): sources 288 and 289. -/
def noteFeed (a : Bool) (v : BitVec 24) (s : State) : State :=
  let old := if a then s.power.feedStA else s.power.feedStB
  let s1 := s.modPower (fun p => if a then { p with feedStA := v } else { p with feedStB := v })
  onlyIf (bitsOf v 1 0 != bitsOf old 1 0) (raise (if a then 288 else 289)) s1

/-- PD_STATE reaches the fabric die (R515, R517, R518): a switchover, and an overflow that it clears before it reads every state
register. -/
def noteDie (v : BitVec 24) (s : State) : State :=
  let old := s.power.pdState
  let was := bitsOf old 13 12
  let is := bitsOf v 13 12
  let s1 := s.modPower (fun p => { p with pdState := v })
  let s2 := onlyIf (is != was && is < 2 && was < 2)
    (fun t => raise 290 (logFault 0x53 blockPower is 0 0 0 0 (t.modPower (fun p => { p with switchStamp := t.now })))) s1
  onlyIf (v.getLsbD 15 && !old.getLsbD 15)
    (fun t => raise 295 (pushFrames (writeFrame 0x80 4 0x8000 :: stateReads) t)) s2

/-- A state value reaches the fabric die. -/
def noteValue (index : Nat) (v : BitVec 24) (s : State) : State :=
  if index < 48 then noteChannel index v s
  else if index = 0x40 ∨ index = 0x41 then noteFeed (index == 0x40) v s
  else if index = 0x80 then noteDie v s else s

/-- The copies take a state value with nothing raised: the reads of stage 2 (R516). -/
def copyValue (index : Nat) (v : BitVec 24) (s : State) : State :=
  if index < 48 then s.modCopy index (fun x => { x with stateReg := v })
  else s.modPower (fun p =>
    if index = 0x40 then { p with feedStA := v } else if index = 0x41 then { p with feedStB := v }
    else if index = 0x80 then { p with pdState := v } else p)

/-- The copies take a setting (R516). -/
def copySetting (index address : Nat) (v : BitVec 24) (s : State) : State :=
  if index < 48 then
    s.modCopy index (fun x => if address = 1 then { x with limitReg := v } else if address = 2 then { x with seqReg := v } else x)
  else s.modPower (fun p =>
    if index = 0x40 ∧ address = 1 then { p with feedCfgA := v } else if index = 0x41 ∧ address = 1 then { p with feedCfgB := v } else p)

/-- The link comes up again (R516): event 292 and the 149 reads. -/
def linkUp (s : State) : State := raise 292 (pushFrames allReads (s.modPower (fun p => { p with link := true })))

/-- The response to a wear-book frame reaches the fabric die (R31, R32; log 66): it answers the oldest frame that the power die took, and
the four bytes read are what the log of the link keeps (log 4). -/
def wearResponse (bytes : List Byte) (crcGood : Bool) (s : State) : State :=
  match s.power.wearAnswered with
  | [] => s
  | f :: rest =>
    let s1 := s.modPower (fun p => { p with wearAnswered := rest })
    if !crcGood || !s.fabricOn then s1
    else s1.modPower (fun p =>
      { p with unanswered := p.unanswered.eraseP (fun x => decide (x.typ = f.typ ∧ x.wear = f.wear ∧ x.data = f.data)),
               wearReads := if f.typ = 6 then Tab.set p.wearReads [] f.wear bytes else p.wearReads })

/-- A response reaches the fabric die (R32, R516): its command frame is answered and the copy updated. -/
def responseOp (index address : Nat) (value : BitVec 24) (crcGood : Bool) (s : State) : State :=
  let s1 := s.modPower (fun p => { p with responses := p.responses.erase (index, address, value) })
  if index = wearIndex then wearResponse (bytesOf 4 32 (BitVec.ofNat 32 (fieldAt address 24 + value.toNat))) crcGood s1
  else if !crcGood || !s.fabricOn then s1
  else
    let s2 := s1.modPower (fun p =>
      { p with unanswered := p.unanswered.eraseP (fun f => f.index == index && f.address == address) })
    let s3 := if address = 4 then (if s.dev.stage = 2 then copyValue index value s2 else noteValue index value s2)
              else copySetting index address value s2
    if index = 0x80 ∧ address = 0 ∧ !s.power.link then linkUp s3 else s3

/-- A telemetry item of a channel (R511, R513). -/
def channelItem (c : Nat) (a b : BitVec 12) (s : State) : State :=
  let x := s.chCopy c
  let s1 := s.modCopy c (fun y => { y with shunt := a, vout := b })
  let sel := bitsOf s.power.pdState 13 12
  if x.pg && decide (bitsOf x.limitReg 8 0 ≤ a.toNat) && decide (sel < 2) then
    let feed : Int := if sel = 0 then s.power.voltA.toNat else s.power.voltB.toNat
    s1.modCopy c (fun y => { y with drops := y.drops + (feed - b.toNat), currents := y.currents + a.toNat })
  else s1

/-- The tick whose frames the power die sends (R30, R511). While FCLK stands, which the link's clock comes from, the power die samples on by
its own clock (R29), one group of four items to a sample (DESIGN CHOICE, log 104). -/
def State.linkTick (s : State) : Nat := if s.time.running then s.tick else s.sample

/-- A telemetry slot has not been used in this tick (R30, R40). -/
def State.itemFree (s : State) (slot : Nat) : Bool :=
  s.linkWindow && (decide (s.power.itemTick ≠ s.linkTick + 1) || !s.power.itemsSent.contains slot)

/-- One of the two slots for responses and alarms is free in this tick (R30, R40). -/
def State.answerFree (s : State) : Bool := s.linkWindow && decide (s.power.answerTick ≠ s.linkTick + 1 ∨ s.power.answerUsed < 2)

/-- Use a slot for a response or an alarm (R30). -/
def useAnswer (s : State) : State :=
  s.modPower (fun p => { p with answerTick := s.linkTick + 1, answerUsed := (if p.answerTick = s.linkTick + 1 then p.answerUsed else 0) + 1 })

/-- The temperature above which source 293 is held, 125 °C as a code (R512, R517). -/
def hotCode : Nat := (125 + 64) * 16

/-- A telemetry frame (R511): the power die converts the item of this slot in any case, and a lost frame is not replaced (R32). -/
def telemetryOp (slot : Nat) (a b : BitVec 12) (crcGood : Bool) (s0 : State) : State :=
  let item := 4 * (s0.linkTick % 13) + slot
  let s := s0.modPower (fun p =>
    { p with itemTick := s0.linkTick + 1, itemsSent := slot :: (if p.itemTick = s0.linkTick + 1 then p.itemsSent else []) })
  let s1 :=
    if item < 48 then s.modChannel item (fun x => x.sampled a.toNat (s.voutReached b.toNat) s.sample)
    else if item = 48 then s.modPower (fun p => { p with codeA := a })
    else if item = 49 then s.modPower (fun p => { p with codeB := a })
    else if item = 50 then s.modPower (fun p => { p with temperature := a }) else s
  if !crcGood || !s.fabricOn then s1
  else if item < 48 then channelItem item a b s1
  else if item = 48 then s1.modPower (fun p => { p with voltA := a, shuntA := b })
  else if item = 49 then s1.modPower (fun p => { p with voltB := a, shuntB := b })
  else if item = 50 then driveInput 293 (decide (hotCode < a.toNat)) (s1.modPower (fun p => { p with vaux := b }))
  else s1

/-- An alarm frame leaves the power die (R515): responses take the slots first. -/
def alarmOp (crcGood : Bool) (s : State) : State :=
  match s.power.alarms with
  | [] => s
  | (i, _, v) :: rest =>
    let s1 := s.modPower (fun p => { p with alarms := rest })
    if crcGood && s.fabricOn then noteValue i v s1 else s1

/-- A frame without a response for 4 ticks (R32): it is sent again, and after three resends the link is down. -/
def resendOp (s : State) : State :=
  match s.power.unanswered.find? (fun f => decide (f.sent + 4 ≤ s.tick)) with
  | none => s
  | some f =>
    if f.resends < 3 then
      if !s.slotFree (decide (f.typ = 7)) then s
      else count 26 0x0A 1 ((useSlot (decide (f.typ = 7)) s).modPower (fun p =>
        { p with unanswered := p.unanswered.erase f ++ [{ f with sent := s.tick, resends := f.resends + 1, again := true }] }))
    else raise 292 (s.modPower (fun p => { p with link := false, probeTick := s.tick, unanswered := [], outQueue := [] }))

/-- While the link is down, a PD_ID read leaves every 1,024 ticks (R516). -/
def probeOp (s : State) : State :=
  s.modPower (fun p => { p with probeTick := s.tick, outQueue := [readFrame 0x80 0] })

/-- The bytes of a wear-book write that waits lose the part that a frame has written (R543). -/
def wearWritten (address : Nat) (data : List Byte) (l : List (Nat × List Byte)) : List (Nat × List Byte) :=
  match l with
  | (o, b) :: rest =>
    if o = address ∧ b.take data.length = data then
      (if b.length ≤ data.length then rest else (o + data.length, b.drop data.length) :: rest)
    else l
  | [] => []

/-- A wear-book frame (R31). -/
def wearFrame (typ address : Nat) (data : List Byte) : PlFrame := { typ := typ, index := wearIndex, wear := address, data := data }

/-- Whether a frame is the given wear-book frame. -/
def PlFrame.isWear (f : PlFrame) (typ address : Nat) (data : List Byte) : Bool :=
  decide (f.typ = typ ∧ f.wear = address ∧ f.data = data)

/-- A wear-book frame leaves in a command slot and waits for its response (R30, R32), unless it is one that was sent again. -/
def wearLeaves (typ address : Nat) (data : List Byte) (s : State) : State :=
  let is (f : PlFrame) : Bool := f.isWear typ address data
  if s.onItsWay is then againArrives is s
  else (useSlot (decide (typ = 7)) s).modPower (fun p =>
    { p with unanswered := p.unanswered ++ [{ wearFrame typ address data with sent := s.tick }] })

/-- Whether a wear-book frame can leave in this tick (R30, R543). -/
def State.wearFree (s : State) (typ address : Nat) (data : List Byte) : Bool :=
  s.slotFree (decide (typ = 7)) || s.onItsWay (fun f => f.isWear typ address data)

/-- The power die answers a wear-book frame with the four bytes written or read, in a response frame (R30, R31; log 66). -/
def wearRespond (typ address : Nat) (data bytes : List Byte) (s : State) : State :=
  let v := natOfBytes (bytes.take 4)
  respond wearIndex (v / 2 ^ 24) (BitVec.ofNat 24 v)
    (s.modPower (fun p => { p with wearAnswered := p.wearAnswered ++ [wearFrame typ address data] }))

/-- A wear-book write frame (R31, R543, R549): up to four bytes, the payload of a frame, reach the EEPROM, and each word written is counted
(R552). -/
def wearWriteOp (address : Nat) (data' : List Byte) (crcGood : Bool) (s : State) : State :=
  let data := data'.take 4
  let s1 := wearLeaves 7 address data s
  if !crcGood || !s.powerOn then s1
  else
    settlePersisted <| (wearRespond 7 address data data s1).modWear (fun w =>
      { w with book := memWrite 0xFF w.book address (data.take (0x10000 - address)), writes := wearWritten address data w.writes,
               wordWrites := ((List.range 0x4000).filter (fun k => decide (address < 4 * k + 4 ∧ 4 * k < address + data.length))).foldl
                 (fun t k => Tab.upd t 0 k (· + 1)) w.wordWrites })

/-- A wear-book read frame (R31): the power die answers with the four bytes at the address. -/
def wearReadOp (address : Nat) (crcGood : Bool) (s : State) : State :=
  let s1 := wearLeaves 6 address [] s
  if !crcGood || !s.powerOn then s1 else wearRespond 6 address [] (memRead 0xFF s.wear.book address 4) s1

/-- POWER_LINK_REGISTER_WRITE (R514). -/
def execPowerLinkRegisterWrite (index address : Byte) (value : BitVec 24) (crcGood : Bool) (s : State) : Out :=
  whenWf s (true)
    (onlyIf (s.fabricOn && s.registerFree 1 index.toNat address.toNat value) (writeFrameOp index.toNat address.toNat value crcGood) s)

/-- POWER_LINK_REGISTER_READ (R514). -/
def execPowerLinkRegisterRead (index address : Byte) (crcGood : Bool) (s : State) : Out :=
  whenWf s (true)
    (onlyIf (s.fabricOn && s.registerFree 2 index.toNat address.toNat 0) (readFrameOp index.toNat address.toNat crcGood) s)

/-- POWER_LINK_RESPONSE (R514, R516). -/
def execPowerLinkResponse (index address : Byte) (value : BitVec 24) (crcGood : Bool) (s : State) : Out :=
  whenWf s (true)
    (onlyIf (s.powerOn && s.answerFree) (fun t => responseOp index.toNat address.toNat value crcGood (useAnswer t)) s)

/-- POWER_LINK_TELEMETRY (R511 to R513). -/
def execPowerLinkTelemetry (slot : Nat) (sampleA sampleB : BitVec 12) (crcGood : Bool) (s : State) : Out :=
  whenWf s (decide (slot < 4))
    (onlyIf (s.powerOn && s.itemFree slot) (telemetryOp slot sampleA sampleB crcGood) s)

/-- POWER_LINK_ALARM (R515). -/
def execPowerLinkAlarm (crcGood : Bool) (s : State) : Out :=
  whenWf s (true) (onlyIf (s.powerOn && s.answerFree && s.power.responses.isEmpty) (fun t => alarmOp crcGood (useAnswer t)) s)

/-- WEAR_BOOK_READ (R31). -/
def execWearBookRead (address : BitVec 16) (crcGood : Bool) (s : State) : Out :=
  whenWf s (true) (onlyIf (s.fabricOn && s.wearFree 6 address.toNat []) (wearReadOp address.toNat crcGood) s)

/-- WEAR_BOOK_WRITE (R31, R543). -/
def execWearBookWrite (address : BitVec 16) (data : List Byte) (crcGood : Bool) (s : State) : Out :=
  whenWf s (true) (onlyIf (s.fabricOn && s.wearFree 7 address.toNat (data.take 4)) (wearWriteOp address.toNat data crcGood) s)

/-- POWER_LINK_RESEND (R32). -/
def execPowerLinkResend (s : State) : Out := whenWf s (true) (onlyIf (s.fabricOn && s.power.link) resendOp s)

/-- POWER_LINK_PROBE (R516). -/
def execPowerLinkProbe (s : State) : Out :=
  whenWf s (true) (onlyIf (s.fabricOn && !s.power.link && decide (s.power.probeTick + 1024 ≤ s.tick)) probeOp s)

end Sys2Proof.Machine
end

