-- ==== Sys2Proof/Machine/Synth.lean ====
section
/-! DEFINITION. The mailbox of a synthesised memory device (R83 to R88, R546). -/

namespace Sys2Proof.Machine

/-- A host reaches the mailbox of a plot's device (R83, R210, R220): it is presented, its link is in L0 and no longer answers Retry. -/
def State.mailReaches (s : State) (plot : Nat) : Bool :=
  let p := s.plot plot
  decide (p.state = .active ∨ p.state = .draining ∨ p.state = .sanitizing) && s.configReaches p.port.toNat

/-- The mailbox answers. -/
def mailAnswer (plot : Nat) (r : MailReply) (s : State) : State := s.modPlot plot (fun p => { p with mail := r })

/-- Meaning of IDENTIFY_MEMORY_DEVICE. -/
def execIdentifyMemoryDevice (plot : Nat) (s : State) : Out :=
  whenWf s (decide (plot < 512)) (onlyIf (s.mailReaches plot) (mailAnswer plot (.identity (s.deviceSerial plot))) s)

/-- The region of a bed slot (R83): a slot without a bed has an empty one. -/
def State.region (s : State) (plot k : Nat) : Nat × Nat × Nat :=
  let b := (s.plot plot).slot k
  if b.valid then (b.dpaBase.toNat * 2 ^ 28, b.span.toNat * 2 ^ 28, 2 ^ (s.slotCount b).2 * 2 ^ 28) else (0, 0, 0)

/-- Meaning of GET_DYNAMIC_CAPACITY_CONFIGURATION. -/
def execGetDynamicCapacityConfiguration (plot : Nat) (s : State) : Out :=
  whenWf s (decide (plot < 512)) (onlyIf (s.mailReaches plot)
    (mailAnswer plot (.regions ((List.range 8).map (s.region plot)))) s)

/-- More than one plot maps the bed of a slot (R84): of a remote bed its home has told so. -/
def State.shared (s : State) (b : BedSlot) : Bool :=
  if b.home.toNat = s.self then decide (1 < (s.bed b.bed.toNat).mapCount.toNat) else b.remoteShared

/-- The accepted stripe sets of a slot as dynamic-capacity extents (R84). -/
def State.slotExtents (s : State) (plot k : Nat) : List (Nat × Nat × Option (Nat × Nat)) :=
  let b := (s.plot plot).slot k
  let n := 2 ^ (s.slotCount b).2
  let tag := if s.shared b then some (b.home.toNat, b.bed.toNat) else none
  if b.valid then (List.range (b.accepted.toNat / n)).map (fun set => ((b.dpaBase.toNat + set * n) * 2 ^ 28, n * 2 ^ 28, tag)) else []

/-- Meaning of GET_DYNAMIC_CAPACITY_EXTENT_LIST. -/
def execGetDynamicCapacityExtentList (plot : Nat) (s : State) : Out :=
  whenWf s (decide (plot < 512)) (onlyIf (s.mailReaches plot)
    (mailAnswer plot (.extents ((List.range 8).flatMap (s.slotExtents plot)))) s)

/-- The end of the longest run of accepted stripe sets from `cur` on (R86), below `limit`. -/
def acceptedRun (sets : List Nat) (limit : Nat) : Nat → Nat → Nat
  | 0, cur => cur
  | n + 1, cur => if cur < limit ∧ cur ∈ sets then acceptedRun sets limit n (cur + 1) else cur

/-- ADD_DYNAMIC_CAPACITY_RESPONSE (R86): the slot's outstanding offers are answered. -/
def addResponse (plot slot : Nat) (sets : List Nat) (s : State) : State :=
  let b := (s.plot plot).slot slot
  let c := s.slotCount b
  let n := 2 ^ c.2
  let t := acceptedRun sets (c.1 / n) (c.1 / n) (b.accepted.toNat / n)
  let s1 := s.modSlot plot slot (fun x => { x with accepted := BitVec.ofNat 15 (t * n) })
  mailAnswer plot .success
    (s1.modPlot plot (fun p => { p with events := p.events.filter (fun e => !(e.kind == 0 && e.slot == slot)) }))

/-- Meaning of ADD_DYNAMIC_CAPACITY_RESPONSE. -/
def execAddDynamicCapacityResponse (plot slot : Nat) (sets : List Nat) (s : State) : Out :=
  whenWf s (decide (plot < 512) && decide (slot < 8)) (onlyIf (s.mailReaches plot && decide ((s.plot plot).state = .active) &&
    ((s.plot plot).slot slot).valid) (mirrored (addResponse plot slot sets)) s)

/-- RELEASE_DYNAMIC_CAPACITY (R87): it answers for those of the slot's stripe sets whose release was asked for, in one answer or in
several, and the last of them lets the shrink go on; with none of them, the host gives up its stripe sets from the lowest named one on
(log 35). -/
def releaseCapacity (plot slot : Nat) (sets : List Nat) (s : State) : State :=
  let b := (s.plot plot).slot slot
  let n := 2 ^ (s.slotCount b).2
  let s1 :=
    if b.toRelease.any sets.contains then
      let left := b.toRelease.filter (fun x => !sets.contains x)
      let low := b.toRelease.foldl min (2 ^ 15)
      let s2 := (s.modPlot plot (fun q => { q with
        events := q.events.filter (fun e => !(e.kind == 1 && e.slot == slot && sets.contains e.set)) })).modSlot plot slot
          (fun x => { x with toRelease := left })
      if left.isEmpty then releaseAnswered plot b.home.toNat b.bed.toNat (low * n) s2 else s2
    else
      let low := sets.foldl (fun a x => min a (x * n)) b.accepted.toNat
      s.modSlot plot slot (fun x => { x with accepted := BitVec.ofNat 15 low })
  mailAnswer plot .success s1

/-- Meaning of RELEASE_DYNAMIC_CAPACITY. -/
def execReleaseDynamicCapacity (plot slot : Nat) (sets : List Nat) (s : State) : Out :=
  whenWf s (decide (plot < 512) && decide (slot < 8)) (onlyIf (s.mailReaches plot && ((s.plot plot).slot slot).valid)
    (mirrored (releaseCapacity plot slot sets)) s)

/-- The dynamic-capacity event log (log 36). -/
def capacityLog : Nat := 4

/-- Meaning of GET_EVENT_RECORDS: capacity events lie in the dynamic-capacity log; the spec puts nothing into another. -/
def execGetEventRecords (plot log : Nat) (s : State) : Out :=
  whenWf s (decide (plot < 512)) (onlyIf (s.mailReaches plot)
    (mailAnswer plot (.records (if log = capacityLog then (s.plot plot).events else []))) s)

/-- Meaning of CLEAR_EVENT_RECORDS. -/
def execClearEventRecords (plot log : Nat) (handles : List Nat) (s : State) : Out :=
  whenWf s (decide (plot < 512)) (onlyIf (s.mailReaches plot) (fun t =>
    mailAnswer plot .success (t.modPlot plot (fun p => { p with
      events := if log = capacityLog then p.events.filter (fun e => !handles.contains e.handle) else p.events }))) s)

/-- An answer whose content the spec does not give: a free value (log 3). -/
def mailOpen (plot : Nat) (s : State) : State := let r := takeFree s; mailAnswer plot (.logs r.1) r.2

/-- Meaning of GET_SUPPORTED_LOGS. -/
def execGetSupportedLogs (plot : Nat) (s : State) : Out := whenWf s (decide (plot < 512)) (onlyIf (s.mailReaches plot) (mailOpen plot) s)

/-- Meaning of GET_LOG. -/
def execGetLog (plot log : Nat) (s : State) : Out := whenWf s (decide (plot < 512)) (onlyIf (s.mailReaches plot) (mailOpen plot) s)

/-- The poison list of a plot's device (R546): LOST_LINE and LOST_WRITE entries of its beds still in the ledger, as its own DPAs. -/
def State.poisonList (s : State) (plot : Nat) : List Nat :=
  s.ledger.ring.filterMap (fun e =>
    if (e.2.kind = 0x10 ∨ e.2.kind = 0x11) ∧ e.2.device = s.self ∧ (s.plot plot).maps s.self e.2.key0 then
      some (s.dpaOf plot s.self e.2.key0 e.2.value0.toNat)
    else none)

/-- Meaning of GET_POISON_LIST. -/
def execGetPoisonList (plot : Nat) (s : State) : Out :=
  whenWf s (decide (plot < 512)) (onlyIf (s.mailReaches plot) (mailAnswer plot (.poison (s.poisonList plot) s.ledger.wrapped)) s)

/-- Meaning of UNSUPPORTED_MAILBOX_COMMAND. -/
def execUnsupportedMailboxCommand (plot : Nat) (opcode : BitVec 16) (s : State) : Out :=
  whenWf s (decide (plot < 512)) (onlyIf (s.mailReaches plot) (mailAnswer plot .unsupported) s)

end Sys2Proof.Machine
end

