-- ==== Sys2Proof/Machine/Lanes.lean ====
section
/-! DEFINITION. Events of the serial lanes (R246 to R255): signal detectors, eye-margin scans, PRBS checkers. -/

namespace Sys2Proof.Machine

/-- The port of a lane goes through Recovery after a lane fault (R249, R207). -/
def laneRecovery (lane : Nat) (s : State) : State :=
  match s.portOfLane lane with
  | some p => if (s.port p).isTrunk ∨ (s.port p).ltssm ≠ .L0 then s else toRecovery p s
  | none => s

/-- A lane's fault whose sticky bit was clear is logged and raises the station's event (R249): one event where LOS and LOL assert in one
cycle (R248), which is taken as one beat here. -/
def logLaneFault (lane : Nat) (lol : Bool) (s : State) : State :=
  let now := 1 + s.time.beats
  let t := logFault (if lol then 0x21 else 0x20) (lane / 16) lane 0 0 0 0 s
  if (s.lane lane).raisedBeat = now then t else raise (192 + lane / 16) (t.modLane lane (fun x => { x with raisedBeat := now }))

/-- A fault of an active lane (R248, R249): counted, and logged with the station's event where its sticky bit was clear. -/
def laneFault (lane : Nat) (lol : Bool) (s : State) : State :=
  let l := s.lane lane
  let was := if lol then l.lolSticky else l.losSticky
  let now := 1 + s.time.beats
  let s1 := s.modLane lane (fun x =>
    if lol then { x with faultBeat := now, lolSticky := true, lolCount := satAdd x.lolCount 1 }
    else { x with faultBeat := now, losSticky := true, losCount := satAdd x.losCount 1 })
  let s2 := if was then s1 else logLaneFault lane lol s1
  laneRecovery lane (countLaneFault lane lol s2)

/-- A detector's assertion on a lane is a fault (R248): the lane is active, or was when the other detector asserted in the same cycle. -/
def State.laneWatched (s : State) (lane : Nat) : Bool := s.laneActive lane || decide ((s.lane lane).faultBeat = 1 + s.time.beats)

/-- LANE_LOS and LANE_LOL (R246 to R248): the detector asserts; only on an active lane is it a fault. -/
def detectorAsserts (lane : Nat) (lol : Bool) (s : State) : State :=
  let s1 := s.modLane lane (fun x => if lol then { x with lol := true } else { x with los := true })
  if s.laneWatched lane then laneFault lane lol s1 else s1

/-- Meaning of LOS_DEASSERT. -/
def execLosDeassert (lane : Nat) (s : State) : Out :=
  whenWf s (decide (lane < 256)) (onlyIf (s.fabricOn && (s.lane lane).los) (fun t => t.modLane lane (fun x => { x with los := false })) s)

/-- Meaning of LOL_DEASSERT. -/
def execLolDeassert (lane : Nat) (s : State) : Out :=
  whenWf s (decide (lane < 256)) (onlyIf (s.fabricOn && (s.lane lane).lol) (fun t => t.modLane lane (fun x => { x with lol := false })) s)

/-- The margins of a lane as LANE_EYE_SCAN reports them (R393). -/
def Lane.margins (l : Lane) : List Byte :=
  [l.left.setWidth 8, l.right.setWidth 8, l.top.setWidth 8, l.bottom.setWidth 8, l.marginStatus.setWidth 8]

/-- A scan has left a lane (R255): a requested one that waited for an automatic one starts, where its lane is still active in L0.
DESIGN CHOICE (log 118): where it is not, the requested one answers ABORTED; the spec does not say. -/
def scanLeft (lane : Nat) (s : State) : State :=
  match (s.lane lane).scanWaits with
  | none => s
  | some k =>
    let s1 := s.modLane lane (fun l => { l with scanWaits := none })
    if s1.laneInL0 lane && !(s1.lane lane).margining then startScan lane k false s1
    else finishJob (.eyeScan lane) stAborted (s1.lane lane).margins s1

/-- A lane's scan stops at its current point (R254, R259): aborted, and its command ends so. -/
def abortScan (lane : Nat) (s : State) : State :=
  let l := s.lane lane
  if l.marginStatus ≠ 3 then s
  else
    let s1 := s.modLane lane (fun x => { x with marginStatus := 2, scanAuto := false })
    if l.scanAuto then scanLeft lane (s1.modLanes (fun x => { x with autoRuns := none }))
    else finishJob (.eyeScan lane) stAborted (s1.lane lane).margins s1

/-- EYE_SCAN_COMPLETE (R253, R255): the margins are valid; an automatic scan's sum is a value of the lane's monitor. -/
def scanEnds (lane : Nat) (left right : BitVec 6) (top bottom : BitVec 7) (s : State) : State :=
  let l := s.lane lane
  let s1 := s.modLane lane (fun x => { x with
    left := left, right := right, top := top, bottom := bottom, marginStatus := 1, scanAuto := false })
  if l.scanAuto then
    scanLeft lane (gatherValue 1 lane (left.toNat + right.toNat) (s1.modLanes (fun x => { x with autoRuns := none })))
  else finishJob (.eyeScan lane) stDone (s1.lane lane).margins s1

/-- Meaning of EYE_SCAN_COMPLETE: margins within the sampler's reach (R253). A lane no longer active in L0 cannot be scanned on. -/
def execEyeScanComplete (lane : Nat) (left right : BitVec 6) (top bottom : BitVec 7) (s : State) : Out :=
  whenWf s (decide (lane < 256)) (onlyIf (s.fabricOn && decide ((s.lane lane).marginStatus = 3) &&
      decide (left.toNat ≤ 32 ∧ right.toNat ≤ 32 ∧ top.toNat ≤ 64 ∧ bottom.toNat ≤ 64))
    (fun t => if t.laneInL0 lane then scanEnds lane left right top bottom t else abortScan lane t) s)

/-- Meaning of LANE_MARGINING_REQUEST (R254): on an UPSTREAM port, the host's request takes the margin sampler. -/
def execLaneMarginingRequest (lane : Nat) (active : Bool) (s : State) : Out :=
  let up := match s.portOfLane lane with | some p => (s.port p).upstream && (s.port p).inL0 | none => false
  whenWf s (decide (lane < 256)) (onlyIf (s.fabricOn && up) (fun t =>
    let t1 := t.modLane lane (fun l => { l with margining := active })
    if active then abortScan lane t1 else t1) s)

/-- A PRBS checker runs (R252, R259): only in PROBE. -/
def State.checking (s : State) (lane : Nat) : Bool := s.fabricOn && decide (s.dev.mode = .probe) && (s.lane lane).prbsChk != 0

/-- Meaning of PRBS_LOCK (R252). -/
def execPrbsLock (lane : Nat) (s : State) : Out :=
  whenWf s (decide (lane < 256)) (onlyIf (s.checking lane && !(s.lane lane).prbsLock) (fun t => t.modLane lane (fun l => { l with prbsLock := true })) s)

/-- Meaning of PRBS_LOCK_LOST (R252): the mismatches counted while locked stay in the count. -/
def execPrbsLockLost (lane errors : Nat) (s : State) : Out :=
  whenWf s (decide (lane < 256)) (onlyIf (s.checking lane && (s.lane lane).prbsLock)
    (fun t => t.modLane lane (fun l => { l with prbsLock := false, prbsErrors := satAdd l.prbsErrors errors })) s)

end Sys2Proof.Machine
end

