-- ==== Sys2Proof/Machine/ModeOps.lean ====
section
/-! DEFINITION. Mode changes (R482, R483) and the records of the hardware's own commands on ring 15 (R68, R351, R385). -/

namespace Sys2Proof.Machine

/-- The code of a mode (R384, R385). -/
def modeCode : Mode → Nat
  | .sprout => 0
  | .grow => 1
  | .shadow => 2
  | .fallow => 3
  | .dormant => 4
  | .probe => 5

/-- The opcode of DEV_SET_MODE (R384). -/
def opSetMode : Nat := 0x0103

/-- The opcode of PLOT_RESET (R389). -/
def opPlotReset : Nat := 0x0207

/-- The 64 bytes of a command of the hardware itself (R354): one parameter byte, and the number of the slot as its tag (log 41). -/
def hwWord (opcode plot param tag : Nat) : BitVec 512 :=
  BitVec.ofNat 512 (opcode + fieldAt 1 24 + fieldAt tag 32 + fieldAt plot 64 + fieldAt 1 80 + fieldAt param 128)

/-- The hardware writes a command to ring 15 (R349, R351). -/
def hwCommand (opcode plot param : Nat) (s : State) : State :=
  let tail := (s.ring 15).cmdTail
  let addr := 15 * 0x8000 + 0x40 * (tail.toNat % 256)
  let s1 := s.modTeller (fun t => { t with mem := memWrite 0 t.mem addr (bytesOf 64 512 (hwWord opcode plot param tail.toNat)) })
  s1.modRing 15 (fun r => { r with cmdTail := r.cmdTail + 1 })

/-- Record on ring 15 a transition that the hardware started (R385): the Teller takes such a record ahead of every other command (R358). -/
def recordTransition (m : Mode) (s : State) : State :=
  (hwCommand opSetMode 0xFFFF (modeCode m) s).modTeller (fun t => { t with hwRecords := t.hwRecords + 1 })

/-- The device changes its mode (R482): event 2. -/
def changeMode (m : Mode) (s : State) : State := if s.dev.mode = m then s else raise 2 (s.modDev (fun d => { d with mode := m }))

/-- The hardware changes the mode by itself (R385): the change is recorded on ring 15. -/
def hwChangeMode (m : Mode) (s : State) : State := if s.dev.mode = m then s else recordTransition m (changeMode m s)

/-- A transition in progress ends with ABORTED (R483), and so does the work of FALLOW. -/
def abortTransition (s : State) : State :=
  let s1 := s.modDev (fun d => { d with transition := none, fallow := [], dormantDue := false })
  let s2 := s1.modHome (fun h => { h with flushes := h.flushes.filter (fun f => !f.2.fallow) })
  let s3 := s2.modEvc (fun e => { e with offersStopped := false })
  finishJob .mode stAborted [BitVec.ofNat 8 (modeCode s.dev.mode)] s3

end Sys2Proof.Machine
end

