-- ==== Sys2Proof/Machine/PairOps.lean ====
section
/-! DEFINITION. The pair (10_redundant_pair): acknowledgements, the partner's use of records, resync, promotion and the other
transitions of R307. -/

namespace Sys2Proof.Machine

/-- The role of HEARTBEAT flags (R316). -/
def PairState.role : PairState → Nat
  | .unpaired => 0
  | .waiting => 0
  | .active => 1
  | .alone => 1
  | .syncing => 2
  | .shadow => 2

/-- The code of a pair state (R318). -/
def PairState.code : PairState → Nat
  | .unpaired => 0
  | .active => 1
  | .alone => 2
  | .syncing => 3
  | .shadow => 4
  | .waiting => 5

/-- The recording block of device control (R540). -/
def blockDevice : Nat := 0x1F

/-- The pair takes a state (R307): a change of role raises event 337 (R317). -/
def setPairState (st : PairState) (s : State) : State :=
  let s1 := s.modPair (fun p => { p with state := st })
  if s.pair.state.role = st.role then s1 else raise 337 s1

/-- The pair record of the wear book (R476) follows the pair's fields. -/
def savePair (s : State) : State :=
  s.setRecords { s.records with
    generation := s.pair.generation, partnerSerial := s.pair.partnerSerial, station := s.pair.station,
    pinPromote := s.pair.pinPromote, paired := decide (s.pair.state ≠ .unpaired) }

/-- The almanac's synchronisation takes a state (R56, R57): entry to IN_SYNC and departure from it raise the pair time event. -/
def setSync (x : Sync) (s : State) : State :=
  let s1 := s.modTime (fun t =>
    { t with sync := x, goodRun := if x = .free ∨ x = .acquiring then 0 else t.goodRun, badRun := if x = .free ∨ x = .acquiring then 0 else t.badRun })
  if decide (s.time.sync = .inSync) == decide (x = .inSync) then s1 else raise 336 s1

/-- Actions of a slice whose records are all acknowledged take place (R299): held Cmps, and grants withheld. -/
def recordsAcked (sl : Nat) (s : State) : State :=
  let due := (s.slice sl).heldCmps.filter (fun h => !s.isUnacked sl h.1)
  let s1 := s.modSlice sl (fun x => { x with heldCmps := x.heldCmps.filter (fun h => s.isUnacked sl h.1) })
  let s2 := forEach due (fun h t => reply sl h.2 { op := .cmp } t) s1
  let ready := ((s2.slice sl).txns.filter (fun e => decide (e.2.phase = .mirrored) && !s2.isUnacked sl e.2.waitSeq)).map (·.1)
  settle sl (forEach ready (fun i t => finishTxn sl i t) s2)

/-- The sets that a slice's walk of a resync has visited once this beat is over (R308): one per FCLK cycle. -/
def MirrorUnit.walkedTo (y : MirrorUnit) (beats : Nat) : Nat := min 65536 (2 * (beats - y.walkFrom))

/-- A slice's walk of a resync goes on (R308 step 2): in each cycle a set of the directory, a set of the vault bank and a position of the
write buffer, with a record of every entry that is not free, every dirty line and every write-buffer line. Nothing waits for these (R304). -/
def walkSlice (sl : Nat) (s : State) : State :=
  let x := s.slice sl
  let lo := (s.munit sl).walkPos
  let hi := (s.munit sl).walkedTo s.time.beats
  let now (n : Nat) : Bool := decide (lo ≤ n ∧ n < hi)
  let send (pl : Nat) (b : MirrorBody) (t : State) : State :=
    let q := t.bedOfPl pl
    mirrorAs false sl q.1 q.2 b t
  let s1 := forEach (x.dir.filter (fun e => e.2.used && now (e.1 / 16))) (fun e t =>
    send (plOfDir (e.1 / 16) e.2.tag.toNat) (.dir (e.1 / 16) (e.1 % 16) (BitVec.ofNat 64 { e.2 with pin := .none }.image)) t) s
  let s2 := forEach (x.vault.filter (fun v => decide (v.2.state = .dirty ∨ v.2.state = .writing) && now (v.1 / 16))) (fun v t =>
    send (vaultPl v.1 v.2) (.vaultDirty (v.1 / 16) (v.1 % 16) (BitVec.ofNat 48 v.2.tagImage) v.2.data) t) s1
  let s3 := forEach (x.wb.filter (fun w => now w.1)) (fun w t => send w.2.pl (.wbPending w.1 w.2.pl w.2.poisoned w.2.data) t) s2
  s3.modUnit sl (fun y =>
    { y with walkPos := hi, walked := decide (65536 ≤ hi), lastWalk := y.mseq })

/-- The walks of a resync go on (R308). -/
def walkSlices (s : State) : State :=
  if s.mirroring && decide (s.pair.resyncing = 2) then
    forEach ((List.range 8).filter (fun sl => !(s.munit sl).walked)) (fun sl => oneOutput (walkSlice sl)) s
  else s

/-- A walk of a resync still comes upon something (R308). -/
def State.walkAhead (s : State) : Bool :=
  s.mirroring && decide (s.pair.resyncing = 2) && (List.range 8).any (fun sl =>
    let x := s.slice sl
    !(s.munit sl).walked && !(x.dir.isEmpty && x.vault.isEmpty && x.wb.isEmpty))

/-- A resync begins (R308 step 1): the records of both devices are numbered afresh (log 39), every entry of a mirrored table that is not
in its reset state is sent, and one COMMIT. -/
def startResync (s : State) : State :=
  let s1 := s.modPair (fun p => { p with units := [], sent := [], resyncing := 1, resyncDone := false })
  let r := sendChange (configRecords State.reset s1) 0xFFFF s1
  r.1.modUnit 8 (fun y => { y with lastWalk := r.2 })

/-- The second phase begins once the COMMIT of the first is acknowledged (R308 step 2). -/
def resyncStep (s : State) : State :=
  if s.pair.resyncing = 1 && !s.commitWaits (s.munit 8).lastWalk then
    forEach (List.range 8) (fun sl t => t.modUnit sl (fun y => { y with walked := false, walkFrom := s.time.beats, walkPos := 0 }))
      (s.modPair (fun p => { p with resyncing := 2 }))
  else s

/-- Every walk has ended, and every record up to the last one that it sent is acknowledged (R308). -/
def State.resyncOver (s : State) : Bool :=
  decide (s.pair.resyncing = 2) && (List.range 8).all (fun sl => (s.munit sl).walked && !(s.munit sl).unacked.any (fun x =>
    decide (((s.munit sl).lastWalk - x.mseq).toNat < 2 ^ 31)))

/-- An acknowledgement of a unit (R300): every record up to its mseq is acknowledged. -/
def ackOp (u : Nat) (n : BitVec 32) (s : State) : State :=
  let s1 := s.modUnit u (fun x => { x with unacked := x.unacked.filter (fun y => decide ((y.mseq - n - 1).toNat < 2 ^ 31)) })
  let s2 := if s1.asyncHeld u then s1 else s1.modUnit u (fun x => { x with above := false })
  resyncStep (if u < 8 then recordsAcked u s2 else s2)

/-- Every held-back action completes without acknowledgement (R307). -/
def completeHeld (s : State) : State :=
  let s1 := forEach (List.range 9) (fun u t => t.modUnit u (fun x => { x with unacked := [], above := false })) s
  forEach (List.range 8) recordsAcked s1

/-- A slice without its directory, vault, write buffer and queues (R488): what commands set stays. -/
def Slice.emptied (x : Slice) : Slice :=
  { parkOn := x.parkOn, passAt := x.passAt, t1 := x.t1, t2 := x.t2, t3 := x.t3, stalls := x.stalls, lostWrites := x.lostWrites,
    retries := x.retries }

/-- Every slice is emptied. -/
def emptySlices (s : State) : State :=
  s.modHome (fun h => { h with slices := (List.range 8).foldl (fun t i => Tab.upd t {} i Slice.emptied) h.slices, flushes := [] })

/-- The tables that a resync fills are cleared (R307), and what the device holds of its partner's lines: plots, beds, extents, agents,
PASIDs, QoS and slices, directory, vault and write buffers. DEDUCED (log 114): entries of the port, trunk and key-slot tables, without which the
trunk to the partner would end, are cleared as the resync's first change takes effect. -/
def clearTables (s : State) : State :=
  let s0 := forEach ((s.pool.plots.filter (fun e => decide (e.2.state ≠ .free))).map (·.2)) (fun p t =>
    showDevice p.port.toNat p.vcsSlot.toNat false t) s
  let s1 := ((s0.setPool {}).modSwitch (fun w => { w with qos := [] })).setBarrow {}
  (emptySlices s1).modPair (fun p => { p with units := [], staged := [], applyDue := [], resyncing := 0, resyncDone := false, cleared := true })

/-- The device moves to mode SHADOW by its pair state (R482, R483). -/
def toShadow (s : State) : State := hwChangeMode .shadow (abortTransition s)

/-- The device leaves mode SHADOW for GROW (R482). -/
def toGrow (s : State) : State := hwChangeMode .grow (abortTransition s)

/-- A MGMT record for the pair partner, on VC0 of the pair's trunk (R307, R313, R360). -/
def pairMgmt (body : MgmtBody) (s : State) : State :=
  queueMgmt s.pair.station s.pair.partnerDev.toNat body s

/-- What PAIR_FORM compares of a device (R296): its port layout, and the serial that each DOWNSTREAM port discovered. -/
def State.wiring (s : State) : List (Nat × BitVec 64 × BitVec 64) :=
  (s.ports.port.filter (fun e => decide (e.2.entry.image ≠ 0))).map (fun e =>
    (e.1, BitVec.ofNat 64 e.2.entry.image, if e.2.downstream then e.2.serial else 0))

/-- A partner's pair request (R307): its answer, and SYNCING where every plot, bed and extent is FREE (log 42). -/
def pairRequestOp (station : Nat) (serial : BitVec 48) (device : BitVec 4) (generation : BitVec 32) (pin : Bool) (s : State) : State :=
  let free := s.pool.plots.all (fun e => decide (e.2.state = .free)) && s.pool.beds.all (fun e => decide (e.2.state = .free)) &&
    s.pool.extents.all (fun e => decide (e.2.state = .free))
  if s.pair.state = .unpaired ∧ free ∧ (s.dev.mode = .grow ∨ s.dev.mode = .fallow) then
    let s1 := s.modPair (fun p => { p with
      generation := generation, partnerSerial := serial, partnerDev := device, station := station, pinPromote := pin, asyncLag := 8 })
    pairMgmt (.pairAnswer true s1.wiring) (savePair (setPairState .syncing (clearTables (toShadow s1))))
  else
    queueMgmt station device.toNat (.pairAnswer false []) s

/-- A PAIR_FORM that has failed has changed nothing (R359, R400): no partner, and pin_promote as it was. -/
def formFailed (s : State) : State :=
  s.modPair (fun p => { p with forming := none, portsIn := [], partnerSerial := 0, partnerDev := 0, pinPromote := p.pinBefore })

/-- The partner's answer to PAIR_FORM (R296, R307, R308, R319). DESIGN CHOICE (log 106): the answer carries the partner's layout and
serials, and where they differ from the device's own the partner is told that there is no pair. -/
def pairAnswerOp (accepted : Bool) (ports : List (Nat × BitVec 64 × BitVec 64)) (s : State) : State :=
  if s.pair.forming.isNone then s
  else
    let s1 := s.modPair (fun p => { p with forming := none, portsIn := [], asyncLag := if accepted then 8 else p.asyncLag })
    if accepted && s.pair.portsIn ++ ports == s1.wiring then finishJob .pairForm stDone [] (startResync (savePair (setPairState .active s1)))
    else finishJob .pairForm stInvalidParam []
      (formFailed (if accepted then pairMgmt .dissolve s1 else s1))

/-- The partner did not answer PAIR_FORM (R319). -/
def formTimeout (s : State) : State :=
  finishJob .pairForm stTimeout [] (formFailed s)

/-- An acknowledgement of a unit's records held so far goes to the ACTIVE (R300, R305): the trunk's ingress sends it (R304). -/
def sendAck (u : Nat) (s : State) : State :=
  let body : MirrorBody := .ack ((s.munit u).rxNext - 1)
  let m : TrunkMsg :=
    { dstDev := s.pair.partnerDev, srcDev := BitVec.ofNat 4 s.self, cls := clsResponse, kind := 3, length := 20,
      msg := { op := .mirror, mirror := some { head := { stamp := s.now, unit := u }, body := body } } }
  enqueueCell { src := s.pair.station, dst := s.pair.station, egress := s.trunkPort s.pair.station, cls := clsResponse, vc := 2,
                length := 32, home := s.self, msgs := [m.msg], trunk := some m } s

/-- A vault line of its tag image (R137). -/
def vaultOfImage (tag : BitVec 48) (data : Line) : VaultLine :=
  { tag := BitVec.ofNat 30 (bitsOf tag 47 18), state := .dirty, parked := bitOf tag 15, age := BitVec.ofNat 10 (bitsOf tag 14 5),
    poisoned := bitOf tag 4, data := data }

/-- Entries of the port, trunk and key-slot tables that a resync's first change does not name are in their reset state at the ACTIVE (R308),
and take it here (R307, log 114). -/
def unnamed (l : List MirrorRec) (s : State) : List MirrorRec :=
  let named (table i : Nat) : Bool := l.any (fun r => match r.body with | .config n j _ => decide (n = table ∧ j = i) | _ => false)
  [6, 7, 9].flatMap (fun table => ((tableDiff State.reset s table).filter (fun i => !named table i)).map (fun i =>
    { head := {}, body := .config table i (State.reset.tableImage table i) }))

/-- The partner applies one record (R301, R302): CONFIG waits for its COMMIT, and a committed change for the tick boundary. -/
def applyRecord (u : Nat) (r : MirrorRec) (s : State) : State :=
  match r.body with
  | .config _ _ _ => s.modPair (fun p => { p with staged := p.staged ++ [r] })
  | .commit _ _ => s.modPair (fun p => { p with
      staged := [], cleared := false, applyDue := p.applyDue ++ [p.staged ++ (if p.cleared then unnamed p.staged s else [])] })
  | .dir set way e => s.modSlice u (fun x => { x with dir := Tab.set x.dir {} (16 * set + way) (DirEntry.ofImage e) })
  | .vaultDirty set way tag data => s.modSlice u (fun x => { x with vault := Tab.set x.vault {} (16 * set + way) (vaultOfImage tag data) })
  | .vaultClean set way => s.modSlice u (fun x => { x with vault := Tab.set x.vault {} (16 * set + way) {} })
  | .wbPending pos pl poison data =>
    let b := s.bedOfPl pl
    let w : WbLine :=
      { bed := b.1, line := b.2, pl := pl, data := data, poisoned := poison, unit := s.unit, station := 26, created := s.time.beats }
    s.modSlice u (fun x => { x with wb := Tab.put x.wb pos w })
  | .wbDone pos => s.modSlice u (fun x => { x with wb := Tab.drop x.wb pos })
  | .ack _ => s

/-- Records that wait for one that has come now are applied in mseq order (R301). -/
def drainRecords : Nat → Nat → State → State
  | 0, _, s => s
  | n + 1, u, s =>
    let x := s.munit u
    match x.rxWait.find? (fun r => r.head.mseq == x.rxNext) with
    | none => s
    | some r => drainRecords n u ((applyRecord u r s).modUnit u (fun y =>
        { y with rxNext := y.rxNext + 1, rxWait := y.rxWait.filter (fun q => q.head.mseq != r.head.mseq) }))

/-- A record comes from a unit that forms such records (R299, R304): the Teller CONFIG and COMMIT, home slices the rest. -/
def recordFits (r : MirrorRec) : Bool :=
  match r.body with
  | .config _ _ _ => decide (r.head.unit = 8)
  | .commit _ _ => decide (r.head.unit = 8)
  | .ack _ => decide (r.head.unit ≤ 8)
  | _ => decide (r.head.unit < 8)

/-- A mirror record arrives (R300, R301, R304): in SYNCING or SHADOW it is held, applied in mseq order and acknowledged; in ACTIVE or
ALONE an ACK releases what it acknowledges. -/
def recordArrives (r : MirrorRec) (s : State) : State :=
  match r.body with
  | .ack n => if s.mirroring && recordFits r then ackOp r.head.unit n s else s
  | _ =>
    if s.pair.state.role = 2 && recordFits r then
      let u := r.head.unit
      let x := s.munit u
      let d := (r.head.mseq - x.rxNext).toNat
      if 2 ^ 31 ≤ d ∨ x.rxWait.any (fun q => q.head.mseq == r.head.mseq) then sendAck u s
      else
        let s1 := s.modUnit u (fun y => { y with rxWait := y.rxWait ++ [r] })
        sendAck u (drainRecords (x.rxWait.length + 1) u s1)
    else s

/-- A CONFIG image takes effect at the partner (R301, R302): a plot that is ACTIVE shows its device, as on the ACTIVE (R297). -/
def applyImage (r : MirrorRec) (s : State) : State :=
  match r.body with
  | .config table i v =>
    let old := s.plot i
    let t := applyConfig table i v s
    let new := t.plot i
    if table = 1 then
      let t1 := if decide (old.state ≠ .free ∧ old.state ≠ .configured) && !decide (new.state ≠ .free ∧ new.state ≠ .configured) then
        showDevice old.port.toNat old.vcsSlot.toNat false t else t
      if decide (new.state = .active ∧ old.state ≠ .active) then showDevice new.port.toNat new.vcsSlot.toNat true t1 else t1
    else t
  | _ => s

/-- The changes whose COMMIT is held take effect together (R302). -/
def applyChanges (s : State) : State :=
  forEach s.pair.applyDue (fun l t => forEach l applyImage t) (s.modPair (fun p => { p with applyDue := [] }))

/-- Every record held is applied, in mseq order (R311 step 2). -/
def applyHeld (s : State) : State :=
  let s1 := forEach (List.range 9) (fun u t =>
    let l := sortBy (fun a b => decide ((a.head.mseq - (t.munit u).rxNext).toNat ≤ (b.head.mseq - (t.munit u).rxNext).toNat)) (t.munit u).rxWait
    (forEach l (applyRecord u) t).modUnit u (fun y => { y with rxWait := [] })) s
  (applyChanges s1).modPair (fun p => { p with staged := [] })

/-- What every takeover does (R311 steps 1 to 3 and 8, R58): generation, mode, records held, agents, almanac leadership. -/
def takeOver (st : PairState) (s0 : State) : State :=
  let s := applyHeld s0
  let old := s.pair.generation
  let s1 := s.modPair (fun p => { p with generation := old + 1, units := [], promoteLatch := false, resyncDone := false })
  let me := BitVec.ofNat 4 s.self
  let s2 := s1.modPool (fun p => { p with
    agents := p.agents.map (fun e => if e.2.valid ∧ e.2.device = s.pair.partnerDev then (e.1, { e.2 with device := me }) else e) })
  let s3 := s2.modPool (fun p => { p with
    beds := p.beds.map (fun e => (e.1, { e.2 with
      remote := (e.2.sharerList.map (fun a => Tab.get p.agents {} a)).filterMap (fun x =>
        if x.device = me then none else some (x.device.toNat, x.port.toNat)) })),
    plots := p.plots.map (fun e => (e.1, { e.2 with drain := e.2.drain.map (fun d => { d with started := s.tick, since := s.tick }) })) })
  let s4 := toGrow (setSync .free (savePair (setPairState st s3)))
  logFault 0x30 blockDevice 0 0 0 (BitVec.ofNat 64 old.toNat) (BitVec.ofNat 64 (old + 1).toNat) s4

/-- PROMOTION (R311): every write without WB_DONE is issued, every mirrored line, which is DIRTY here, takes the present age unit, migrations end at
their source and leave their target with zeroed 0 (R345), zeroing restarts, slices are reset and ASYNC beds are swept. -/
def promote (s0 : State) : State :=
  let s := takeOver .alone (s0.modPair (fun p => { p with recovery := true, recoveryFull := false }))
  let s1 := s.modHome (fun h => { h with slices := h.slices.map (fun x => (x.1, { x.2 with
    vault := x.2.vault.map (fun v => if v.2.state = .dirty then
      (v.1, { v.2 with age := BitVec.ofNat 10 s.unit, ripe := false, redirty := false }) else v) })) })
  let targets := (s1.pool.extents.filter (fun e => decide (e.2.state = .migrating))).map (·.2.mig)
  let s2 := s1.modPool (fun p => { p with
    extents := p.extents.map (fun e =>
      if e.2.state = .migrating then (e.1, { e.2 with state := .bound, mig := {} })
      else if e.2.state = .defined ∧ targets.contains e.2.place then (e.1, { e.2 with zeroed := false }) else e),
    zeroing := [], migrations := [] })
  let s2' := forEach (s2.plotsWhere (fun p => decide (p.state = .sanitizing))) markSanitize s2
  let s3 := forEach (List.range 8) (fun sl t => forEach ((t.slice sl).wb.map (·.1)) (attemptWrite sl) t) s2'
  let beds := (s3.pool.beds.filter (fun e => e.2.async && decide (e.2.state ≠ .free))).map (·.1)
  let s4 := forEach (List.range 8) (fun sl t => t.modSlice sl (fun x => { x with sweeping := beds, sweepLine := 0 })) (resetAllSlices s3)
  if beds.isEmpty then s4 else s4.modPair (fun p => { p with swept := false })

/-- The conditions of promotion (R309). -/
def State.promotionDue (s : State) : Bool :=
  let t := s.trunk s.pair.station
  (decide (t.state = .broken) || decide (t.lastHeart + 64 ≤ s.tick)) &&
  ((!s.pair.pinAlive && s.pair.pinPromote) || s.pair.promoteLatch)

/-- A promotion that is due (R309, R311); event 344 where the device is not in SHADOW (R317), once while that lasts. A device that serves has
nothing to promote to (R310). -/
def promotionOp (s : State) : State :=
  if s.pair.state = .shadow then (if s.promotionDue then promote s else s)
  else
    let due := decide (s.pair.state = .syncing ∨ s.pair.state = .waiting) && s.promotionDue
    let s1 := s.modPair (fun p => { p with dueNoted := due })
    if due && !s.pair.dueNoted then raise 344 s1 else s1

/-- The handoff of a switchover (R313 step 3): the new ACTIVE takes the roles without a sweep and without recovery. -/
def handoffOp (generation : BitVec 32) (s : State) : State :=
  takeOver .active (s.modPair (fun p => { p with generation := generation }))

/-- The ACTIVE has come to rest (R313): no open transaction, a write-back being one (R140), and every record acknowledged. DEDUCED (log 105):
every line of a write buffer is out, as the partner issues none (R313 step 3). -/
def State.quiesced (s : State) : Bool :=
  (List.range 8).all (fun sl => let x := s.slice sl; x.txns.isEmpty && x.heldCmps.isEmpty && x.wb.isEmpty) &&
  (List.range 9).all (fun u => (s.munit u).unacked.isEmpty)

/-- Order points take in messages again; in mode SHADOW they only answer them (R297). -/
def admitAgain (s : State) : State :=
  settleAll (forEach (List.range 8) (fun sl t => t.modSlice sl (fun x => { x with admissionHeld := false }))
    (s.modPair (fun p => { p with switching := none })))

/-- SWITCHOVER_QUIESCED (R313 steps 2 and 4). -/
def switchOver (s : State) : State :=
  let s1 := pairMgmt (.handoff s.pair.generation) s
  let s2 := savePair (setPairState .shadow (s1.modPair (fun p => { p with units := [], resyncDone := true })))
  admitAgain (toShadow (finishJob .switchover stDone [] s2))

/-- A switchover that has not ended is abandoned, with the final receipt given (R313). -/
def endSwitch (status : Nat) (s : State) : State :=
  if s.pair.switching.isNone then s else finishJob .switchover status [] (admitAgain s)

/-- SWITCHOVER_TIMEOUT (R313). -/
def switchTimeout (s : State) : State := endSwitch stTimeout s

/-- The pair's trunk has become BROKEN (R307). -/
def pairBroken (s : State) : State :=
  match s.pair.state with
  | .syncing => setPairState .waiting (clearTables s)
  | .active =>
    let s1 := completeHeld (s.modPair (fun p => { p with state := .alone, resyncing := 0, resyncDone := false }))
    raise 338 (logFault 0x31 blockDevice 0 0 0 (BitVec.ofNat 64 s.pair.generation.toNat) 0 s1)
  | _ => s

/-- The pair's trunk has reached UP (R307): the partner's device number is the peer's (R318), and a SHADOW
discards what it mirrored and awaits a resync. -/
def pairTrunkUp (s : State) : State :=
  if s.pair.state = .unpaired then s
  else
    let s1 := s.modPair (fun p => { p with partnerDev := (s.trunk p.station).peer, trunkAnew := true })
    if s1.pair.state = .shadow then setPairState .syncing (clearTables s1) else s1

/-- Lost writes of a device that stands down (R315 step 3): one for each dirty line and each write-buffer line. -/
def discardWrites (sl : Nat) (s : State) : State :=
  let x := s.slice sl
  let lost (pl unit : Nat) (t : State) : State :=
    let b := t.bedOfPl pl
    logLostWrite sl b.1 (t.extent (extentOf pl)).place.port.toNat (extentOf pl) b.2 unit t.now t
  let s1 := forEach (x.vault.filter (fun v => decide (v.2.state = .dirty))) (fun v t => lost (vaultPl v.1 v.2) v.2.age.toNat t) s
  let s2 := forEach x.wb (fun w t => lost w.2.pl w.2.unit t) s1
  s2.modSlice sl (fun y => y.emptied)

/-- The device stands down before another that serves (R315). -/
def standDown (other : BitVec 32) (s : State) : State :=
  let s1 := raise 341 (logFault 0x32 blockDevice 0 0 0 (BitVec.ofNat 64 s.pair.generation.toNat) (BitVec.ofNat 64 other.toNat) s)
  let hosts := s1.portsWhere (fun p => p.upstream && p.inL0 && p.cxl)
  let s2 := forEach (hosts.filter (fun q => (s1.pool.plots.any (fun e => decide (e.2.state ≠ .free ∧ e.2.port.toNat = q))))) takeLinkDown s1
  let s3 := forEach (List.range 8) discardWrites s2
  toShadow (savePair (setPairState .waiting ((endSwitch stAborted s3).modPair (fun p => { p with units := [], resyncing := 0 }))))

/-- A change that the partner asks for waits for the next tick boundary (R482, R571), once. -/
def pairAt (d : PairDue) (s : State) : State :=
  if s.pair.due.contains d then s else s.modPair (fun p => { p with due := p.due ++ [d] })

/-- The partner's HEARTBEAT flags on the pair's trunk in UP (R307, R315, R400). DESIGN CHOICE (log 116): role 0b00 stands for no pair and for
WAITING alike (R316), and a device in ALONE takes it for WAITING. -/
def pairHeartbeat (serial : BitVec 48) (flags : BitVec 64) (s : State) : State :=
  let role := bitsOf flags 1 0
  let gen : BitVec 32 := BitVec.ofNat 32 (bitsOf flags 63 32)
  let below := decide (s.pair.generation.toNat < gen.toNat ∨ (s.pair.generation = gen ∧ Config.serial.toNat < serial.toNat))
  let s1 := if role = 1 ∧ s.pair.trunkAnew then s.modPair (fun p => { p with promoteLatch := false }) else s
  if s1.pair.state.role = 1 ∧ role = 1 then (if below then pairAt (.standDown gen) s1 else s1)
  else if s1.pair.state = .alone ∧ role ≠ 3 then startResync (setPairState .active s1)
  else if s1.pair.state = .waiting ∧ role = 1 then setPairState .syncing (clearTables s1)
  else s1

/-- The pair ends at the partner (R307). -/
def dissolvedOp (s : State) : State :=
  if s.pair.state = .unpaired then s
  else toGrow (savePair (setPairState .unpaired (clearTables (s.modPair (fun p => { p with partnerSerial := 0, partnerDev := 0, recovery := false })))))

/-- What the partner asked for takes effect (R307, R313, R315, R571 phase 2), where the pair state still allows it. -/
def pairDue (d : PairDue) (s : State) : State :=
  match d with
  | .request station serial device generation pin => pairRequestOp station serial device generation pin s
  | .handoff generation => if s.pair.state = .shadow then handoffOp generation s else s
  | .dissolved => dissolvedOp s
  | .standDown generation => if s.pair.state.role = 1 then standDown generation s else s

/-- PAIR_ALIVE_IN counts as stopped (R298): event 342. -/
def aliveStopped (s : State) : State := raise 342 (s.modPair (fun p => { p with pinAlive := false }))

/-- PAIR_ALIVE_IN has had no edge for 32 boundaries (R298). -/
def State.aliveLate (s : State) : Bool := s.pair.pinAlive && decide (s.pair.pinEdge + 32 ≤ s.tick)

/-- A sweep's lines (R312): those of the bed's count that R101 gives the slice; one in every eight. -/
def sweepLineOf (sl bed n : Nat) : Nat :=
  ((List.range 8).find? (fun i => sliceOf bed (8 * n + i) == sl)).map (fun i => 8 * n + i) |>.getD (8 * n)

/-- Lines of a bed's count (R312). -/
def Bed.countLines (b : Bed) : Nat := b.count.toNat * extentLines

/-- The sweep of a slice goes on by one line, while a reserve entry is free (R111, R312). -/
def sweepOne (sl : Nat) (s : State) : State :=
  let x := s.slice sl
  match x.sweeping with
  | [] => s
  | bed :: _ =>
    let b := s.bed bed
    if b.countLines ≤ 8 * x.sweepLine || !s.reserveLeft sl || !x.work.isEmpty then s
    else
      let pl := b.pl (sweepLineOf sl bed x.sweepLine)
      settle sl (addWork sl (ownWork .sweep pl b.sharerList s) (s.modSlice sl (fun y => { y with sweepLine := y.sweepLine + 1 })))

/-- Every line of a slice's share of a bed has been swept (R312). -/
def State.sweepOver (s : State) (sl bed : Nat) : Bool :=
  let x := s.slice sl
  let mine (t : Txn) : Bool := decide (t.cls = .sweep ∧ t.bed = bed)
  decide (x.sweeping.head? = some bed) && decide ((s.bed bed).countLines ≤ 8 * x.sweepLine) &&
    !(x.work.any mine || x.input.any mine || x.txns.any (fun e => mine e.2))

/-- ASYNC_SWEEP_COMPLETE (R312): the bed is served by the slice; after the last one event 343 is raised. -/
def sweepDone (sl : Nat) (s : State) : State :=
  let s1 := s.modSlice sl (fun x => { x with sweeping := x.sweeping.tail, sweepLine := 0 })
  let s2 := settle sl s1
  if !s2.pair.swept && (List.range 8).all (fun i => (s2.slice i).sweeping.isEmpty) then
    raise 343 (s2.modPair (fun p => { p with swept := true }))
  else s2

/-- ASYNC beds not yet swept (R318). -/
def State.bedsSweeping (s : State) : Nat := ((List.range 8).flatMap (fun i => (s.slice i).sweeping)).dedup.length

end Sys2Proof.Machine
end

