-- ==== Sys2Proof/Machine/PairEv.lean ====
section
/-! DEFINITION. Commands and events of the pair (R295 to R320, R399, R400). -/

namespace Sys2Proof.Machine

/-- The age of the oldest unacknowledged record, as HEARTBEAT and PAIR_STATUS show it (R316, R318). -/
def State.lag (s : State) : Nat :=
  if s.mirroring then min 255 ((List.range 9).foldl (fun m u => max m (s.mirrorAge u)) 0) else 0

/-- The pair's trunk is in UP or RETRAIN (R318). -/
def State.pairTrunkPresent (s : State) : Bool :=
  decide (s.pair.state ≠ .unpaired) && decide ((s.trunk s.pair.station).state = .up ∨ (s.trunk s.pair.station).state = .retrain)

/-- PAIR_FORM at commit (R296, R307, R319): the pair request goes out on VC0 and its answer is awaited. -/
def runPairForm (c : Command) (s : State) : Ran :=
  let st := c.byte 16
  let t := s.trunk st
  checks [(decide (s.pair.state ≠ .unpaired), stNotInMode), (s.pair.forming.isSome, stBusy),
          (decide (15 < st) || !(s.port (s.trunkPort st)).isTrunk || !t.entry.pair || decide (t.peerSerial.toNat ≠ c.num 18 6), stInvalidParam)] s
    (fun s =>
      let s1 := s.modPair (fun p => { p with
        forming := some s.tick, pinBefore := p.pinPromote, station := st, pinPromote := decide (c.byte 17 % 2 = 1), partnerSerial := t.peerSerial, partnerDev := t.peer })
      queuedFor .pairForm (pairMgmt (.pairRequest s1.pair.generation s1.pair.pinPromote) s1))

/-- PAIR_DISSOLVE at commit (R307, R400). -/
def runPairDissolve (_ : Command) (s : State) : Ran :=
  let leave (t : State) : State :=
    savePair (setPairState .unpaired ((endSwitch stAborted t).modPair (fun p => { p with
      units := [], resyncing := 0, partnerSerial := 0, partnerDev := 0 })))
  match s.pair.state with
  | .active => done (leave (completeHeld (pairMgmt .dissolve s)))
  | .alone => done (leave (pairMgmt .dissolve s))
  | .waiting => done (toGrow (leave s))
  | _ => refuse stNotInMode s

/-- PAIR_SWITCHOVER at commit (R313 step 1): the order points stop admitting. -/
def runPairSwitchover (_ : Command) (s : State) : Ran :=
  checks [(decide (s.pair.state ≠ .active ∨ s.pair.resyncing ≠ 0), stNotInMode), (s.pair.switching.isSome, stBusy)] s (fun s =>
    queuedFor .switchover (forEach (List.range 8) (fun sl t => t.modSlice sl (fun x => { x with admissionHeld := true }))
      (s.modPair (fun p => { p with switching := some s.tick }))))

/-- PAIR_ASSUME at commit (R307). -/
def runPairAssume (_ : Command) (s : State) : Ran :=
  checks [(decide (s.pair.state ≠ .waiting), stNotInMode)] s (fun s =>
    let old := s.pair.generation
    let s1 := savePair (setPairState .alone (s.modPair (fun p => { p with generation := old + 1 })))
    done (toGrow (logFault 0x30 blockDevice 0 0 0 (BitVec.ofNat 64 old.toNat) (BitVec.ofNat 64 (old + 1).toNat) s1)))

/-- PAIR_PROMOTE (R309, R319, R400). -/
def runPairPromote (_ : Command) (s : State) : Ran :=
  checks [(decide (s.pair.state ≠ .shadow), stNotInMode)] s (fun s => done (s.modPair (fun p => { p with promoteLatch := true, trunkAnew := false })))

/-- PAIR_SET_LAG (R303). -/
def runPairSetLag (c : Command) (s : State) : Ran :=
  checks [(decide (c.byte 16 = 0), stInvalidParam)] s (fun s => done (s.modPair (fun p => { p with asyncLag := BitVec.ofNat 8 (c.byte 16) })))

/-- PAIR_CLEAR_RECOVERY (R314). -/
def runPairClearRecovery (_ : Command) (s : State) : Ran :=
  done (s.modPair (fun p => { p with recovery := false, recoveryFull := false }))

/-- The bits of PAIR_STATUS (R318). -/
def State.pairStatus (s : State) : Nat :=
  let p := s.pair
  fieldAt p.generation.toNat 96 + fieldAt s.bedsSweeping 80 + fieldAt s.lag 72 + fieldAt p.asyncLag.toNat 64 +
  fieldAt p.partnerSerial.toNat 16 + fieldAt p.partnerDev.toNat 12 + fieldAt (bit p.pinPromote) 11 + fieldAt (bit p.pinAlive) 10 +
  fieldAt (bit s.pairTrunkPresent) 9 + fieldAt (bit p.recovery) 8 + p.state.code

/-- PAIR_STATUS (R318). -/
def runPairStatus (_ : Command) (s : State) : Ran := doneWith (bytesOf 16 128 (BitVec.ofNat 128 s.pairStatus)) s

/-- The pair flags of a HEARTBEAT (R316). -/
def State.pairFlags (s : State) : BitVec 64 :=
  let p := s.pair
  BitVec.ofNat 64 (fieldAt p.generation.toNat 32 + fieldAt s.lag 8 + fieldAt (bit p.pinAlive) 4 + fieldAt (bit p.recovery) 3 +
    fieldAt (bit p.resyncDone) 2 + p.state.role)

/-- Meaning of PAIR_REQUEST. -/
def execPairRequest (station : Nat) (serial : BitVec 48) (device : BitVec 4) (generation : BitVec 32) (pinPromote : Bool) (s : State) : Out :=
  whenWf s (decide (station < 16)) (onlyIf (s.fabricOn && decide ((s.trunk station).state = .up))
    (pairAt (.request station serial device generation pinPromote)) s)

/-- Meaning of CONFIG. -/
def execConfig (head : MirrorHead) (table index : Nat) (image : BitVec 1024) (s : State) : Out :=
  whenWf s (true) (onlyIf s.fabricOn (recordArrives { head := head, body := .config table index image }) s)

/-- Meaning of COMMIT. -/
def execCommit (head : MirrorHead) (proposal : BitVec 16) (records : Nat) (s : State) : Out :=
  whenWf s (true) (onlyIf s.fabricOn (recordArrives { head := head, body := .commit proposal records }) s)

/-- Meaning of DIR. -/
def execDir (head : MirrorHead) (set way : Nat) (entry : BitVec 64) (s : State) : Out :=
  whenWf s (decide (set < 65536) && decide (way < 16)) (onlyIf s.fabricOn (recordArrives { head := head, body := .dir set way entry }) s)

/-- Meaning of VAULT_DIRTY. -/
def execVaultDirty (head : MirrorHead) (set way : Nat) (tag : BitVec 48) (data : Line) (s : State) : Out :=
  whenWf s (decide (set < 65536) && decide (way < 16)) (onlyIf s.fabricOn (recordArrives { head := head, body := .vaultDirty set way tag data }) s)

/-- Meaning of VAULT_CLEAN. -/
def execVaultClean (head : MirrorHead) (set way : Nat) (s : State) : Out :=
  whenWf s (decide (set < 65536) && decide (way < 16)) (onlyIf s.fabricOn (recordArrives { head := head, body := .vaultClean set way }) s)

/-- Meaning of WB_PENDING. -/
def execWbPending (head : MirrorHead) (pos pl : Nat) (poison : Bool) (data : Line) (s : State) : Out :=
  whenWf s (decide (pos < 512)) (onlyIf s.fabricOn (recordArrives { head := head, body := .wbPending pos pl poison data }) s)

/-- Meaning of WB_DONE. -/
def execWbDone (head : MirrorHead) (pos : Nat) (s : State) : Out :=
  whenWf s (decide (pos < 512)) (onlyIf s.fabricOn (recordArrives { head := head, body := .wbDone pos }) s)

/-- Meaning of ACK. -/
def execAck (unit : Nat) (mseq : BitVec 32) (s : State) : Out :=
  whenWf s (decide (unit < 9)) (onlyIf s.fabricOn (recordArrives { head := { unit := unit }, body := .ack mseq }) s)

/-- RESYNC_COMPLETE (R307, R308): the ACTIVE's resync is over; the SYNCING device, which waits for no record, is a SHADOW. -/
def resyncComplete (s : State) : State :=
  if s.pair.state = .syncing then raise 339 (setPairState .shadow (s.modPair (fun p => { p with resyncDone := true })))
  else s.modPair (fun p => { p with resyncing := 0 })

/-- Meaning of RESYNC_COMPLETE. -/
def execResyncComplete (s : State) : Out :=
  whenWf s true (onlyIf (s.fabricOn && (s.resyncOver ||
    (decide (s.pair.state = .syncing) && (List.range 9).all (fun u => (s.munit u).rxWait.isEmpty)))) resyncComplete s)

/-- Meaning of MIRROR_LAG_EXCEEDED. -/
def execMirrorLagExceeded (unit : Nat) (s : State) : Out := whenWf s (decide (unit < 9)) (onlyIf s.fabricOn (mirrorLagOp unit) s)

/-- Meaning of ASYNC_SWEEP_COMPLETE. -/
def execAsyncSweepComplete (slice bed : Nat) (s : State) : Out :=
  whenWf s (decide (slice < 8) && decide (bed < 4096)) (onlyIf (s.fabricOn && s.sweepOver slice bed) (sweepDone slice) s)

/-- Meaning of HANDOFF. -/
def execHandoff (generation : BitVec 32) (s : State) : Out :=
  whenWf s true (onlyIf (s.fabricOn && decide (s.pair.state = .shadow)) (pairAt (.handoff generation)) s)

/-- PAIR_ALIVE_EDGE (R298): event 342 where PAIR_ALIVE_IN counted as stopped. -/
def aliveEdge (s : State) : State :=
  let s1 := s.modPair (fun p => { p with pinEdge := s.tick, pinAlive := true })
  if s.pair.pinAlive then s1 else raise 342 s1

/-- Meaning of PAIR_ALIVE_EDGE. -/
def execPairAliveEdge (s : State) : Out := whenWf s true (onlyIf s.fabricOn aliveEdge s)

/-- Meaning of PAIR_ALIVE_STOPPED. -/
def execPairAliveStopped (s : State) : Out :=
  whenWf s true (onlyIf (s.fabricOn && s.pair.pinAlive && decide (s.pair.pinEdge + 32 ≤ s.tick))
    aliveStopped s)

end Sys2Proof.Machine
end

