-- ==== Sys2Proof/Machine/TrunkOps.lean ====
section
/-! DEFINITION. The trunk link (09_trunk_link): bring-up, sequence numbers and replay, credits, retraining, and what BROKEN does. -/

namespace Sys2Proof.Machine

/-- The default receive slots of a VC (R271). -/
def defaultSlots (vc : Nat) : Nat := ([64, 0, 256, 512, 256, 768, 1024, 704][vc]?).getD 0

/-- The receive slots of a VC in effect (R271, R272). -/
def Trunk.slotsOf (t : Trunk) (vc : Nat) : Nat := Tab.get t.slots (defaultSlots vc) vc

/-- The receive slots of a VC that hold a flit (R271, R279). -/
def Trunk.occupied (t : Trunk) (vc : Nat) : Nat := (t.buffers.filter (fun f => f.vc == vc)).length

/-- The free receive slots of a VC (R279, R283). -/
def Trunk.freeSlots (t : Trunk) (vc : Nat) : Nat := t.slotsOf vc - t.occupied vc

/-- A control-class VC (R271). -/
def controlVc (vc : Nat) : Bool := decide (vc < 5)

/-- Distance of sequence numbers modulo 4,096 (R273, R274). -/
def seqDist (a b : BitVec 12) : Nat := (b - a).toNat

/-- The number of lanes of a width code of the trunk (R293): x4, x8, x16. -/
def lanesOfTrunk (w : BitVec 2) : Nat := if w = 0 then 4 else if w = 1 then 8 else if w = 2 then 16 else 0

/-- A control flit waits for its flit slot (R266, R268). What its payload says is taken when it leaves. -/
def sendControl (st : Nat) (c : Control) (s : State) : State := s.modTrunk st (fun t => { t with waiting := t.waiting ++ [c] })

/-- A control flit of a kind of which one at most waits takes the place of one that still waits (R279, R288). -/
def sendLatest (st : Nat) (same : Control → Bool) (c : Control) (s : State) : State :=
  sendControl st c (s.modTrunk st (fun t => { t with waiting := t.waiting.filter (fun x => !same x) }))

/-- A trunk is DOWN, its lanes in electrical idle (R262). -/
def trunkDown (st : Nat) (s : State) : State :=
  s.modTrunk st (fun t => { t with state := .down, since := s.tick, waitFrom := none, rate := 3, width := 3, helloDone := false, waiting := [],
                                   resend := [] })

/-- The hello that a lane of a trunk sends (R235): the device's number, its place, its widths and rates, and its serial. -/
def State.ownHello (s : State) (st i : Nat) : Hello :=
  { device := s.self, station := st, lane := i, width := (s.port (s.trunkPort st)).entry.width.toNat,
    rates := 2 ^ (((s.trunk st).nextEntry.getD (s.trunk st).entry).maxRate.toNat + 1) - 1,
    preset := if Config.askPreset (16 * st + i) = 11 then 0xFF else (Config.askPreset (16 * st + i)).val, serial := Config.serial }

/-- A MGMT record carries a receipt of ring 14 (R351). -/
def carriesReceipt (r : MgmtRec) : Bool := match r.body with | .receipt _ _ _ _ _ _ => true | _ => false

/-- The MGMT records among some DATA flits. -/
def recordsOf (l : List Flit) : List MgmtRec := l.filterMap (fun f => match f.body with | .mgmt r => some r | _ => none)

/-- The records of ring 14's receipts among flits that no trunk will acknowledge any more (R351), with the parts of their result blocks: they
go to the partner once more. -/
def receiptsOf (l : List Flit) : List MgmtRec :=
  (recordsOf l).filter (fun r => carriesReceipt r || (match r.body with | .part true _ _ => true | _ => false))

/-- The record header of a MGMT record, bytes 6 to 11 of its flit (R266). -/
def recordHeader (r : MgmtRec) : List Byte :=
  let t := match r.body with | .unknown t => t | b => (b.kind.map Config.recordType).getD 0
  [BitVec.ofNat 8 (r.dst + 16 * r.src), BitVec.ofNat 8 r.hops] ++ bytesOf 2 16 t ++ bytesOf 2 16 (BitVec.ofNat 16 r.length)

/-- The record header that a DATA flit carries (R266): none with cell messages. -/
def FlitBody.header (b : FlitBody) : List Byte := match b with | .mgmt r => recordHeader r | .cells _ => []

/-- A trunk starts its hellos (R235, R262): the entry set last is in effect (R261), and both sequence spaces are cleared (R263). -/
def startHello (st : Nat) (s : State) : State :=
  let w := (s.port (s.trunkPort st)).entry.width
  let lanes := (s.port (s.trunkPort st)).lanes (s.trunkPort st)
  let s1 := forEach lanes (fun l u => u.modLane l (fun x => { x with rxPlus := none })) s
  s1.modTrunk st (fun t =>
    { helloSent := (List.range lanes.length).map (fun i => ((lanes[i]?).getD 0, helloCharacters (s.ownHello st i))),
      entry := t.nextEntry.getD t.entry, state := .hello, since := s.tick, rate := 3, width := w - 1, newSlots := t.newSlots,
      replays := t.replays, naksSent := t.naksSent, duplicates := t.duplicates, stompedRx := t.stompedRx, leaked := t.leaked,
      retrains := t.retrains, lastReason := t.lastReason, mgmtOut := receiptsOf t.replay ++ t.mgmtOut, sent := t.sent, buffers := t.buffers, lastTx := t.lastTx,
      lastHeart := t.lastHeart, peer := t.peer, peerSerial := t.peerSerial })

/-- A hello with a reserved value (R235, R236). -/
def helloGood (h : Hello) : Bool :=
  decide (h.device < 16 ∧ h.station < 16 ∧ h.lane < 16 ∧ 1 ≤ h.width ∧ h.width ≤ 3 ∧ h.rates < 8 ∧
    (h.preset ≤ 10 ∨ h.preset = 0xFF))

/-- The rates that both sides offer (R263). -/
def sharedRates (t : Trunk) (h : Hello) : Nat := h.rates &&& (2 ^ (t.entry.maxRate.toNat + 1) - 1)

/-- The checks of an accepted hello (R263). -/
def State.helloPasses (s : State) (st : Nat) (h : Hello) : Bool :=
  let t := s.trunk st
  decide (h.width = (s.port (s.trunkPort st)).entry.width.toNat ∧ h.device ≠ s.self ∧ sharedRates t h ≠ 0) &&
    (!t.entry.peerCheck || decide (h.device = t.entry.peer.toNat))

/-- Every lane has accepted (R262, R263): the further hellos begin, or the wait of 1,024 ticks. -/
def helloChecks (st : Nat) (h : Hello) (s : State) : State :=
  if s.helloPasses st h then
    let r := sharedRates (s.trunk st) h
    s.modTrunk st (fun t => { t with
      helloDone := true, helloTick := s.tick, peer := BitVec.ofNat 4 h.device, peerSerial := h.serial,
      target := if 4 ≤ r then 2 else if 2 ≤ r then 1 else 0 })
  else s.modTrunk st (fun t => { t with waitFrom := some s.tick })

/-- A lane's polarity by its hellos (R236), unless its polarity field forces a value (R256). -/
def setInverted (lane : Nat) (inv : Bool) (s : State) : State :=
  s.modLane lane (fun l => { l with inverted := if l.polarity = 0 then inv else decide (l.polarity = 2) })

/-- Receiver errors of a lane (R234): error symbols that its port sees, counted (R523, R528). -/
def receiverErrors (port n : Nat) (s : State) : State :=
  if n = 0 then s else countPort port 0x05 n (portCount port 7 n s)

/-- A hello is discarded, and the count of identical ones starts again (R236). -/
def voidHello (st lane : Nat) (s : State) : State :=
  s.modTrunk st (fun x => { x with helloRun := Tab.set x.helloRun 0 lane 0, lastHello := Tab.drop x.lastHello lane })

/-- A lane receives a good hello (R236). -/
def goodHello (st lane : Nat) (h : Hello) (s : State) : State :=
  let t := s.trunk st
  let run := if Tab.find t.lastHello lane = some h then Tab.get t.helloRun 0 lane + 1 else 1
  let s1 := s.modTrunk st (fun x => { x with helloRun := Tab.set x.helloRun 0 lane run, lastHello := Tab.put x.lastHello lane h })
  if 8 ≤ run then
    let s2 := s1.modTrunk st (fun x => { x with accepted := Tab.put x.accepted lane h })
    let lanes := (s2.port (s.trunkPort st)).lanes (s.trunkPort st)
    if lanes.all (fun l => (Tab.find (s2.trunk st).accepted l).isSome) && !(s2.trunk st).helloDone then helloChecks st h s2 else s2
  else s1

/-- A lane receives the sixteen characters of a hello (R234 to R236): a receiver error, a bad CRC or a reserved value voids it, and so does
loss of lock, under which every symbol is an error symbol (R247). -/
def helloOp (st lane : Nat) (characters : List Character) (s : State) : State :=
  if (s.lane lane).lol then voidHello st lane s else
  let r := receiveHello (s.lane lane) characters
  let s0 := match (s.lane lane).comInverted characters with
    | some inv => setInverted lane inv s
    | none => s
  let s1 := receiverErrors (s.trunkPort st) r.2.1 (s0.modLane lane (fun l => { l with rxPlus := some r.2.2 }))
  match r.1 with
  | some h => if helloGood h then goodHello st lane h s1 else voidHello st lane s1
  | none => voidHello st lane s1

/-- The roles of a trunk's equalisation in their order (R240): both in turn, the side of the lowest station leading first. DESIGN CHOICE
(log 118): between equal station numbers the lower device number does. -/
def State.stepRoles (s : State) (st : Nat) : List Bool :=
  let t := s.trunk st
  let other := ((t.accepted.head?.map (·.2.station)).getD st)
  let first := decide (st < other ∨ (st = other ∧ s.self < t.peer.toNat))
  [first, !first]

/-- The equalisation of a trunk's speed step (R240): at the first PAM4 rate with the preset that the partner's hello asks for (R235). -/
def equaliseStep (st rate : Nat) (s0 : State) : State :=
  let s := s0.modTrunk st (fun x => { x with eqRoles := s0.stepRoles st })
  let t := s.trunk st
  forEach ((s.port (s.trunkPort st)).lanes (s.trunkPort st)) (fun l u =>
    let h := Tab.find t.accepted l
    let asked := match h with | some x => if rate = 1 ∧ x.preset ≤ 10 then some x.preset else none | none => none
    equaliseLane ((h.map (·.lane)).getD 0) asked l u) s

/-- A speed step begins, with its equalisation (R240, R263). -/
def startStep (st rate : Nat) (s : State) : State :=
  let s1 := equaliseStep st rate s
  s1.modTrunk st (fun t => { t with state := .step, stepRate := BitVec.ofNat 2 rate, stepTick := s.tick, trainRun := [] })

/-- FCLK cycles of the receive and the transmit PHY of a trunk by its rate code (R238, R293). -/
def phyCycles (rate : BitVec 2) : Nat × Nat := if rate = 3 then (21, 11) else if rate = 0 then (17, 9) else (15, 7)

/-- The stamp of a flit that a trunk sends now (R287): the almanac at hand-off plus the transmit PHY time, rounded up to beats. -/
def State.sentStamp (s : State) (st : Nat) : BitVec 64 := s.now + BitVec.ofNat 64 (((phyCycles (s.trunk st).rate).2 + 1) / 2)

/-- The stamp of a flit whose CRC check completes now (R287): the almanac less the receive PHY time, the CRC check (the 16 cycles of R178)
and the port's measured deskew, a free value of at most 8 beats (R238, log 57), each rounded to beats. -/
def State.arrivedStamp (s : State) (st : Nat) : BitVec 64 :=
  s.now - BitVec.ofNat 64 (((phyCycles (s.trunk st).rate).1 + 1) / 2 + 8 + Config.deskew (s.trunkPort st) % 9)

/-- INIT is sent (R262, R283). -/
def sendInit (st : Nat) (s : State) : State := sendControl st (.init 0 []) s

/-- The trunk enters INIT at a rate (R262, R263). -/
def enterInit (st : Nat) (rate : BitVec 2) (s : State) : State :=
  sendInit st (s.modTrunk st (fun t => { t with state := .init, since := s.tick, rate := rate }))

/-- A TRAIN flit on a lane (R263): after 64 good ones on every lane, all in lock, the step has succeeded. A lane out of lock receives none
(R247). -/
def trainOp (st lane : Nat) (good : Bool) (s : State) : State :=
  let s1 := s.modTrunk st (fun t => { t with trainRun := Tab.set t.trainRun 0 lane (if good && !(s.lane lane).lol then Tab.get t.trainRun 0 lane + 1 else 0) })
  let t := s1.trunk st
  let lanes := (s1.port (s.trunkPort st)).lanes (s.trunkPort st)
  if lanes.all (fun l => decide (64 ≤ Tab.get t.trainRun 0 l) && !(s1.lane l).lol) then
    if t.stepRate = t.target then enterInit st t.stepRate s1
    else startStep st (t.stepRate.toNat + 1) (s1.modTrunk st (fun x => { x with rate := x.stepRate }))
  else s1

/-- A speed step fails (R262, R263). -/
def stepFails (st : Nat) (s : State) : State :=
  let t := s.trunk st
  if t.stepRate = 0 then trunkDown st s else enterInit st t.rate s

/-- Agents on devices that no trunk reaches are lost (R125, R286). -/
def loseUnreachable (s : State) : State :=
  forEach ((s.pool.agents.filter (fun e => e.2.valid && !e.2.retiring && decide (e.2.device.toNat ≠ s.self) &&
    (s.routeTo e.2.device.toNat).isNone)).map (·.1)) (fun a t => loseAgent a false t) s

/-- The trunk becomes BROKEN (R285, R286): causes 1 to 6 in the order of R285's list. Its port's link has left L0 (R228). -/
def breakTrunk (st cause : Nat) (s : State) : State :=
  let was := (s.trunk st).state
  let s0 := if was = .up ∨ was = .retrain then s.modPort (s.trunkPort st) (fun p => { p with downCount := satAdd p.downCount 1 }) else s
  let s1 := s0.modTrunk st (fun t => { t with
    state := .broken, since := s.tick, mgmtOut := receiptsOf t.replay ++ t.mgmtOut, replay := [], held := [], holes := [], request := none, requestSent := 0, acked := false,
    pauseTick := none, pauseBeat := none, lanesDone := false, idle := false, wakeBeat := none, stallTick := [], rate := 3, width := 3,
    waitFrom := none, waiting := [], resend := [], linkDue := none })
  let s2 := raise (320 + st) (logFault 0x23 st st cause 0 0 0 s1)
  let s3 := s2.modTrunks (fun x => { x with
    route := x.route.map (fun e => if e.2.station.toNat = st then (e.1, { e.2 with reachable := false }) else e) })
  let s4 := finishJob (.trunk st) stAborted [] (loseUnreachable s3)
  if (s4.trunk st).entry.pair ∧ s4.pair.station = st then pairBroken s4 else s4

/-- Receipts of ring 14 whose records the trunk has acknowledged are read (R351). -/
def receiptsAcked (l : List Flit) (s : State) : State :=
  let n := ((recordsOf l).filter carriesReceipt).length
  s.modRing 14 (fun r => { r with rcptHead := r.rcptHead + BitVec.ofNat 16 n })

/-- An ack (R273, R277): every flit up to it is freed; one that names a number not yet sent is ignored and counted. -/
def ackFlits (st : Nat) (a : BitVec 12) (s : State) : State :=
  let t := s.trunk st
  let s0 := s.modTrunk st (fun x => { x with ackRx := a })
  let oldest := match t.replay with | [] => t.nextSeq | f :: _ => f.seq
  let n := seqDist oldest a + 1
  if n ≤ t.replay.length then
    receiptsAcked (t.replay.take n) (s0.modTrunk st (fun x => { x with
      replay := x.replay.drop n, ackBeat := s.time.beats, resend := x.resend.filter (fun q => !(t.replay.take n).any (fun f => f.seq == q)) }))
  else if n - 1 < 2048 then s0.modTrunk st (fun x => { x with ignoredAcks := x.ignoredAcks + 1 })
  else s0

/-- The part of a link header that every good flit carries (R265, R267, R273, R278): ack, credits, flags; the flit is a sign of life. -/
def applyHeader (st : Nat) (h : LinkHeader) (s : State) : State :=
  let s1 := ackFlits st h.ack (flitIn (s.trunkPort st) 236 s)
  let s2 := s1.modTrunk st (fun t => { t with
    avail := Tab.set t.avail 0 h.creditVc (Tab.get t.avail 0 h.creditVc + h.creditCount),
    received := Tab.set t.received 0 h.creditVc (Tab.get t.received 0 h.creditVc + BitVec.ofNat 16 h.creditCount),
    stallTick := if h.creditCount = 0 then t.stallTick else Tab.set t.stallTick 0 h.creditVc 0, nakRx := h.nakPresent, lastGood := s.tick })
  if h.pause ∧ (s2.trunk st).state = .up ∧ (s2.trunk st).pauseBeat.isNone then
    s2.modTrunk st (fun t => { t with
      pauseBeat := some (s.time.beats + 1), retrainWidth := if t.pauseTick.isSome then t.retrainWidth else t.width.toNat + 1,
      retrainRate := if t.pauseTick.isSome then t.retrainRate else t.rate.toNat })
  else s2

/-- The numbers from exp to one before a number that are not held (R274). -/
def Trunk.missing (t : Trunk) (upto : BitVec 12) : List (BitVec 12) :=
  ((List.range (seqDist t.exp upto)).map (fun i => t.exp + BitVec.ofNat 12 i)).filter (fun q => !t.held.any (fun f => f.seq == q))

/-- The NAK records of the open holes (R275): the first has base exp; each covers 64 numbers, at most 16 records. -/
def nakBlocks (exp : BitVec 12) : Nat → List (BitVec 12) → List NakRecord
  | 0, _ => []
  | n + 1, l => match l with
    | [] => []
    | q :: _ =>
      let base := if n = 15 then exp else q
      let inside := l.filter (fun x => decide (seqDist base x < 64))
      { base := base, bitmap := inside.foldl (fun m x => m ||| (1#64 <<< seqDist base x)) 0 } ::
        nakBlocks exp n (l.filter (fun x => decide (64 ≤ seqDist base x)))

/-- The NAK records of a trunk's open holes, in ascending order (R275). -/
def Trunk.nakRecords (t : Trunk) : List NakRecord :=
  nakBlocks t.exp 16 (sortBy (fun a b => decide (seqDist t.exp a ≤ seqDist t.exp b)) (t.holes.map (·.1)))

/-- NAK records name a sequence number (R275). -/
def nakNames (l : List NakRecord) (q : BitVec 12) : Bool :=
  l.any (fun r => decide (seqDist r.base q < 64) && r.bitmap.getLsbD (seqDist r.base q))

/-- A NAK waits for the next flit slot (R268, R275): one names every open hole. -/
def sendNak (st : Nat) (s : State) : State := sendLatest st (fun c => match c with | .nak _ => true | _ => false) (.nak []) s

/-- A NAK that waits while no hole is open has nothing to ask for: it does not leave (R275). -/
def dropNak (st : Nat) (s : State) : State :=
  if (s.trunk st).holes.isEmpty && (s.trunk st).waiting.any (fun c => match c with | .nak _ => true | _ => false) then
    s.modTrunk st (fun t => { t with waiting := t.waiting.filter (fun c => match c with | .nak _ => false | _ => true) })
  else s

/-- Holes open up to a number (R274, R275): a NAK goes out if one is new. -/
def openHoles (st : Nat) (upto : BitVec 12) (s : State) : State :=
  let t := s.trunk st
  let fresh := (t.missing upto).filter (fun q => !t.holes.any (fun h => h.1 == q))
  if fresh.isEmpty then s
  else sendNak st (s.modTrunk st (fun x => { x with holes := x.holes ++ fresh.map (fun q => (q, s.time.beats)) }))

/-- A good flit that is not DATA shows the next number of the sender (R274). -/
def seqSeen (st : Nat) (q : BitVec 12) (s : State) : State :=
  let d := seqDist (s.trunk st).exp q
  if 0 < d ∧ d < 2048 then openHoles st q s else s

/-- A flit in order takes a slot of its VC (R271, R274). A stomped one takes none, and its credit goes back at once (R270, R278). -/
def acceptFlit (st : Nat) (f : Flit) (s : State) : State :=
  let s1 := s.modTrunk st (fun t => { t with exp := t.exp + 1, holes := t.holes.filter (fun h => h.1 != f.seq) })
  if f.stomp then
    countPort (s.trunkPort st) 0x09 1 (s1.modTrunk st (fun t => { t with
      stompedRx := satAdd t.stompedRx 1, pendingRet := Tab.set t.pendingRet 0 f.vc (Tab.get t.pendingRet 0 f.vc + 1) }))
  else s1.modTrunk st (fun t => { t with buffers := t.buffers ++ [f] })

/-- Held flits follow once exp reaches them (R274). -/
def releaseHeld (st : Nat) : Nat → State → State
  | 0, s => s
  | n + 1, s => match (s.trunk st).held.find? (fun f => f.seq == (s.trunk st).exp) with
    | none => s
    | some f =>
      let b := 1 + s.time.beats
      releaseHeld st n (acceptFlit st f (s.modTrunk st (fun t => { t with
        held := t.held.filter (fun g => g.seq != f.seq), released := (b, if t.released.1 = b then t.released.2 + 1 else 1) })))

/-- Up to four held flits are released in one beat (R274). -/
def releaseFour (st : Nat) (s : State) : State :=
  let r := (s.trunk st).released
  dropNak st (releaseHeld st (if r.1 = 1 + s.time.beats then 4 - r.2 else 4) s)

/-- A DATA flit whose CRC matches, true or inverted (R270, R274). -/
def dataFlit (st : Nat) (f : Flit) (s : State) : State :=
  let t := s.trunk st
  let d := seqDist t.exp f.seq
  if 2048 ≤ d ∨ t.held.any (fun g => g.seq == f.seq) then
    countPort (s.trunkPort st) 0x08 1 (s.modTrunk st (fun x => { x with duplicates := satAdd x.duplicates 1 }))
  else if d = 0 then releaseFour st (acceptFlit st f s)
  else if d < 512 ∧ t.held.length < 512 then
    dropNak st <| openHoles st f.seq (s.modTrunk st (fun x => { x with held := x.held ++ [f], holes := x.holes.filter (fun h => h.1 != f.seq) }))
  else s

/-- Some flits are to be replayed (R268, R276, R277): they wait for flit slots. -/
def replayFlits (st : Nat) (l : List (BitVec 12)) (s : State) : State :=
  s.modTrunk st (fun t => { t with resend := t.resend ++ l.filter (fun q => !t.resend.contains q) })

/-- A NAK's flits (R275, R276): sent, unacknowledged, and not replayed within the holdoff. -/
def nakOp (st : Nat) (records : List NakRecord) (s : State) : State :=
  let t := s.trunk st
  let due := t.replay.filter (fun f => nakNames records f.seq &&
    (decide (f.replays = 0) || decide (f.lastSent + 16 * t.entry.holdoff.toNat ≤ s.time.beats)))
  replayFlits st (due.map (·.seq)) s

/-- A retrain request is sent (R281, R282). Reason: 1 command, 2 leak, 3 accounting, 4 lane fault. DESIGN CHOICE (log 120): a command's waits
while another retrain is under way, a further command's takes its place, and the receipts of all of them wait for the last retrain. -/
def startRetrain (st width rate reason : Nat) (s : State) : State :=
  let t := s.trunk st
  if t.state ≠ .up then s
  else if t.request.isSome ∨ t.pauseTick.isSome ∨ t.pauseBeat.isSome then
    (if reason = 1 then s.modTrunk st (fun x => { x with linkDue := some (width, rate) }) else s)
  else sendControl st (.retrain false width rate reason) (s.modTrunk st (fun x => { x with
    request := some (width, rate, reason, s.tick), requestSent := 1, acked := false, pauseTick := some (s.tick + 2),
    retrainWidth := width, retrainRate := rate, lastReason := BitVec.ofNat 3 reason }))

/-- An automatic retrain at the present width and rate (R279 to R281). -/
def autoRetrain (st reason : Nat) (s : State) : State :=
  startRetrain st ((s.trunk st).width.toNat + 1) (s.trunk st).rate.toNat reason s

/-- One entry of an AUDIT (R279, R280). -/
def auditVc (st : Nat) (vc : Nat) (ret : BitVec 16) (s : State) : State :=
  let t := s.trunk st
  let x := (ret - Tab.get t.received 0 vc).toNat
  if x = 0 then s
  else if x < 32768 then
    let s1 := s.modTrunk st (fun y => { y with
      leak := Tab.set y.leak 0 vc (Tab.get y.leak 0 vc + x), received := Tab.set y.received 0 vc ret, leaked := satAdd y.leaked x })
    let t1 := s1.trunk st
    let ini := Tab.get t1.initial 0 vc
    if !controlVc vc && decide (100 * (ini - Tab.get t1.leak 0 vc) < t1.entry.leakPct.toNat * ini) then autoRetrain st 2 s1 else s1
  else autoRetrain st 3 s

/-- The trunk pauses for a retrain (R282): eight NULL flits with pause go out, and new receive slots take effect (R272). -/
def pauseTrunk (st : Nat) (s : State) : State :=
  (s.modTrunk st (fun t => { t with
    waiting := List.replicate 8 (.null true) ++ t.waiting,
    state := .retrain, since := s.tick, pauseTick := none, pauseBeat := none, lanesDone := false, retrains := satAdd t.retrains 1, stallTick := [],
    slots := match t.newSlots with
      | some l => (List.range 8).foldl (fun m vc => Tab.set m (defaultSlots vc) vc ((l[vc]?).getD (defaultSlots vc))) []
      | none => t.slots,
    newSlots := none }))

/-- The widest aligned width, at most a width code of R282, whose lanes all lock (R3, R282): 3 x16, 2 x8, 1 x4, 0 none; and the lanes of the
lowest such group, by place in the port. -/
def lockedWidth (mask : Nat) : Nat → Nat × List Nat
  | 0 => (0, [])
  | w + 1 =>
    let n := if w = 0 then 4 else if w = 1 then 8 else 16
    match (List.range (16 / n)).find? (fun g => (List.range n).all (fun i => decide (mask / 2 ^ (g * n + i) % 2 = 1))) with
    | some g => (w + 1, (List.range n).map (fun i => g * n + i))
    | none => lockedWidth mask w

/-- The lanes of a retrain have finished training (R282, R283): a new rate has been equalised (R240), and the lanes outside the width are
idle. -/
def lanesTrained (st mask : Nat) (s : State) : State :=
  let t := s.trunk st
  let w := lockedWidth mask (min 3 t.retrainWidth)
  if w.1 = 0 then breakTrunk st 5 s
  else
    let s1 := if t.retrainRate = t.rate.toNat then s else equaliseStep st t.retrainRate s
    sendInit st (s1.modTrunk st (fun x => { x with
      lanesDone := true, width := BitVec.ofNat 2 (w.1 - 1), rate := BitVec.ofNat 2 x.retrainRate,
      lanesOff := (List.range 16).filter (fun i => !w.2.contains i) }))

/-- The routes over a trunk lead somewhere again (log 43). -/
def routesBack (st : Nat) (s : State) : State :=
  s.modTrunks (fun x => { x with
    route := x.route.map (fun e => if e.2.valid ∧ e.2.station.toNat = st then (e.1, { e.2 with reachable := true }) else e) })

/-- INIT brings the trunk UP (R283): the reorder buffer goes, acknowledged flits go, credits are set anew and every flit that is left is
replayed. A command's retrain that waited for this one starts then; RETRAIN flits and a NAK that still wait belong to the retrain that is over.
DESIGN CHOICE (log 120): the count of credits received starts again with the partner's INIT, and that of credits returned with this side's
own; the initial credits of R280 are the partner's free slots. -/
def initOp (st : Nat) (ack : BitVec 12) (free : List Nat) (s : State) : State :=
  let again := decide ((s.trunk st).state = .retrain)
  let s1 := ackFlits st ack (s.modTrunk st (fun t => { t with held := [], holes := [] }))
  let t := s1.trunk st
  let own (vc : Nat) : Nat := (t.replay.filter (fun f => f.vc == vc)).length
  let at' (vc : Nat) : Nat := (free[vc]?).getD 0
  let s2 := s1.modTrunk st (fun x => { x with
    state := .up, since := s.tick, request := none, requestSent := 0, acked := false, pauseTick := none, pauseBeat := none, lanesDone := false,
    resend := [], linkDue := none,
    waiting := x.waiting.filter (fun c => match c with | .retrain _ _ _ _ => false | .nak _ => false | _ => true),
    avail := (List.range 8).foldl (fun m vc => Tab.set m 0 vc (at' vc - own vc)) [],
    initial := (List.range 8).foldl (fun m vc => Tab.set m 0 vc (at' vc)) [],
    leak := [], leaked := 0, received := [],
    lastGood := s.tick, lastHeart := if again then x.lastHeart else s.tick, ackBeat := s.time.beats })
  let s3 := routesBack st (replayFlits st (t.replay.map (·.seq)) s2)
  let s4 : State := match t.linkDue with
    | some l => startRetrain st l.1 l.2 1 s3
    | none => finishJob (.trunk st) stDone [] s3
  if !again ∧ (s4.trunk st).entry.pair ∧ s4.pair.station = st then pairTrunkUp s4 else s4

/-- A trunk starts replays and first transmissions (R268, R282): it is UP, and has not come to its pause. -/
def State.trunkOpen (s : State) (st : Nat) : Bool :=
  let t := s.trunk st
  decide (t.state = .up) && !t.idle && (match t.pauseTick with | some p => decide (s.tick < p) | none => true)

/-- The sequence window and a credit allow a first transmission on a VC (R268, R273, R278, R282). -/
def State.maySend (s : State) (st vc : Nat) : Bool :=
  let t := s.trunk st
  s.trunkOpen st &&
    decide (0 < Tab.get t.avail 0 vc) && (match t.replay with | [] => true | f :: _ => decide (seqDist f.seq t.nextSeq < 2048))

/-- The next VC with pending returns gives back up to 255 credits in a header (R278): the VC and their number. -/
def returnCredits (st : Nat) (s : State) : (Nat × Nat) × State :=
  let t := s.trunk st
  match (List.range 8).find? (fun i => 0 < Tab.get t.pendingRet 0 ((t.retTurn + 1 + i) % 8)) with
  | none => ((0, 0), s)
  | some i =>
    let vc := (t.retTurn + 1 + i) % 8
    let n := min 255 (Tab.get t.pendingRet 0 vc)
    ((vc, n), s.modTrunk st (fun x => { x with
      pendingRet := Tab.set x.pendingRet 0 vc (Tab.get x.pendingRet 0 vc - n), retTurn := vc,
      returned := Tab.set x.returned 0 vc (Tab.get x.returned 0 vc + BitVec.ofNat 16 n) }))

/-- The link header of a flit that leaves now (R186, R265, R274, R278): what it acknowledges and gives back, and its flags. -/
def flitHeader (st vc : Nat) (seq : BitVec 12) (pause stomp : Bool) (s : State) : LinkHeader × State :=
  let r := returnCredits st s
  let t := r.2.trunk st
  ({ vc := vc, seq := seq, ack := t.exp - 1, creditVc := r.1.1, creditCount := r.1.2, pause := pause, nakPresent := !t.holes.isEmpty,
     cong := decide (2 ≤ r.2.portLevel (r.2.trunkPort st)), stomp := stomp }, r.2)

/-- A flit leaves (R264, R523, R528). -/
def emitFlit (st : Nat) (f : SentFlit) (s : State) : State :=
  let s1 := flitOut (s.trunkPort st) 236 (s.modTrunk st (fun t => { t with sent := f :: t.sent, lastTx := s.time.beats }))
  if f.header.cong then portCount (s.trunkPort st) 13 1 s1 else s1

/-- A first transmission (R273, R278): it takes the next sequence number, a credit and a place in the replay buffer. -/
def sendFlit (st vc : Nat) (body : FlitBody) (origin : Option (Nat × BitVec 12)) (s : State) : State :=
  let r := flitHeader st vc (s.trunk st).nextSeq false false s
  emitFlit st { typ := 1, header := r.1, body := some body, record := body.header } (r.2.modTrunk st (fun t => { t with
    nextSeq := t.nextSeq + 1, replay := t.replay ++ [{ seq := t.nextSeq, vc := vc, cong := r.1.cong, body := body, origin := origin }],
    avail := Tab.set t.avail 0 vc (Tab.get t.avail 0 vc - 1),
    ackBeat := if t.replay.isEmpty then s.time.beats else t.ackBeat, stallTick := Tab.set t.stallTick 0 vc 0 }))

/-- A replay (R265, R269, R276): the flit's payload, number and VC under a header of now; it takes no credit. The 16th of one flit breaks
the trunk (R277). -/
def sendReplay (st : Nat) (f : Flit) (s : State) : State :=
  let r := flitHeader st f.vc f.seq false f.stomp s
  let s1 := emitFlit st { typ := 1, header := r.1, body := some f.body, record := f.body.header } (r.2.modTrunk st (fun t => { t with
    resend := t.resend.filter (· ≠ f.seq), replays := satAdd t.replays 1,
    replay := mapIf (fun g => g.seq == f.seq) (fun g => { g with replays := g.replays + 1, lastSent := s.time.beats }) t.replay }))
  let s2 := countPort (s.trunkPort st) 0x07 1 s1
  if 16 ≤ f.replays + 1 then breakTrunk st 3 s2 else s2

/-- The flit that is replayed next (R268): the one with the lowest sequence distance. -/
def Trunk.nextReplay (t : Trunk) : Option Flit := t.replay.find? (fun f => t.resend.contains f.seq)

/-- The type of a control flit (R266). -/
def Control.typ : Control → Nat
  | .null _ => 0
  | .nak _ => 2
  | .audit _ => 3
  | .time _ _ _ _ => 4
  | .heartbeat _ _ _ _ _ => 5
  | .init _ _ => 6
  | .retrain _ _ _ _ => 7

/-- The place of a control flit in the order of R268: RETRAIN and the NULL flits of a pause, INIT, NAK, TIME and HEARTBEAT, AUDIT. -/
def Control.rank : Control → Nat
  | .null _ => 0
  | .retrain _ _ _ _ => 0
  | .init _ _ => 1
  | .nak _ => 2
  | .time _ _ _ _ => 3
  | .heartbeat _ _ _ _ _ => 3
  | .audit _ => 4

/-- A control flit may leave now (R40, R268, R275, R282): within its beats of the tick, and in RETRAIN only a pause's NULL or INIT. -/
def State.mayControl (s : State) (st : Nat) (c : Control) : Bool :=
  let b := s.now.toNat % 1024
  let t := s.trunk st
  match c with
  | .null _ => true
  | .init _ _ => true
  | .audit _ => decide (t.state = .up ∧ b < 512)
  | .heartbeat _ _ _ _ _ => decide (t.state = .up ∧ b < 256)
  | .time _ _ _ _ => decide (t.state = .up ∧ b < 256)
  | .nak _ => decide (t.state = .up) && !t.holes.isEmpty
  | _ => decide (t.state = .up)

/-- The control flit that leaves next (R268). -/
def State.nextControl (s : State) (st : Nat) : Option Control :=
  (s.trunk st).waiting.foldl (fun (m : Option Control) c =>
    if !s.mayControl st c then m
    else match m with
      | some d => if c.rank < d.rank then some c else some d
      | none => some c) none

/-- What a control flit says as it leaves (R54, R275, R279, R283, R287, R288), its own header's credits already given back. -/
def State.filled (s : State) (st : Nat) (c : Control) : Control :=
  let t := s.trunk st
  match c with
  | .nak _ => .nak t.nakRecords
  | .audit _ => .audit ((List.range 8).map (fun vc => ((Tab.get t.returned 0 vc).toNat, t.occupied vc, t.freeSlots vc)))
  | .time 1 _ _ _ => .time 1 (s.sentStamp st) 0 0
  | .time k t1 t2 _ => .time k t1 t2 (s.sentStamp st)
  | .heartbeat _ _ _ _ _ => .heartbeat s.self (modeCode s.dev.mode) Config.serial (s.sentStamp st) s.pairFlags
  | .init _ _ => .init (t.exp - 1) ((List.range 8).map t.freeSlots)
  | _ => c

/-- What a control flit that leaves changes here (R54, R275, R283): an INIT tells of every free slot, so that returns start anew after it. -/
def controlSent (st : Nat) (c : Control) (s : State) : State :=
  match c with
  | .nak l => countPort (s.trunkPort st) 0x04 1 (s.modTrunk st (fun x => { x with
      naksSent := satAdd x.naksSent 1, holes := x.holes.map (fun h => if nakNames l h.1 then (h.1, s.time.beats) else h) }))
  | .init _ _ => s.modTrunk st (fun t => { t with returned := [], pendingRet := [] })
  | .time 1 t1 _ _ => s.modTime (fun t => { t with requestT1 := some t1 })
  | _ => s

/-- A control flit leaves (R265, R266, R268). -/
def emitControl (st : Nat) (c : Control) (s : State) : State :=
  let s0 := s.modTrunk st (fun t => { t with waiting := t.waiting.erase c })
  let r := flitHeader st (if c.rank = 3 then 1 else 0) (s.trunk st).nextSeq (decide (c = .null true)) false s0
  let d := r.2.filled st c
  controlSent st d (emitFlit st { typ := c.typ, header := r.1, control := some d } r.2)

/-- A NULL flit fills an empty flit slot (R268), and in a speed step a TRAIN flit (R263, R266): it carries what every header carries. -/
def emitNull (st : Nat) (s : State) : State :=
  let r := flitHeader st 0 (s.trunk st).nextSeq false false s
  let s1 := flitOut (s.trunkPort st) 236 (r.2.modTrunk st (fun t => { t with
    lastNull := r.1, trainSent := if t.state = .step then t.trainSent + 1 else t.trainSent }))
  if r.1.cong then portCount (s.trunkPort st) 13 1 s1 else s1

/-- The beats from one flit slot to the next (R268): one at x16 and 128 GT/s, twice as many at half the width or half the rate; in a speed
step at the step's rate (R263). -/
def Trunk.slotBeats (t : Trunk) : Nat := 2 ^ (2 - t.width.toNat) * 2 ^ (2 - (if t.state = .step then t.stepRate else t.rate).toNat)

/-- A flit slot comes in a beat. -/
def Trunk.slotNow (t : Trunk) (beat : Nat) : Bool := decide (beat % t.slotBeats = 0)

/-- A flit waits, or no flit waits, for a first transmission on a VC without a credit (R280). -/
def noteStall (st vc : Nat) (waits : Bool) (s : State) : State :=
  let t := s.trunk st
  let from' := Tab.get t.stallTick 0 vc
  if t.state = .up ∧ waits ∧ Tab.get t.avail 0 vc = 0 then
    (if from' = 0 then s.modTrunk st (fun x => { x with stallTick := Tab.set x.stallTick 0 vc (1 + s.tick) }) else s)
  else if from' = 0 then s
  else s.modTrunk st (fun x => { x with stallTick := Tab.set x.stallTick 0 vc 0 })

/-- The next MGMT record of a trunk goes out on VC0 (R268). -/
def sendRecord (st : Nat) (s : State) : State :=
  match (s.trunk st).mgmtOut with
  | [] => s
  | r :: rest =>
    if s.maySend st 0 then sendFlit st 0 (.mgmt r) none (s.modTrunk st (fun t => { t with mgmtOut := rest })) else s

/-- The AUDIT of a tick (R279). -/
def sendAudit (st : Nat) (s : State) : State :=
  if (s.trunk st).state = .up then sendLatest st (fun c => match c with | .audit _ => true | _ => false) (.audit []) s else s

/-- The HEARTBEAT of a tick (R288). -/
def sendHeartbeat (st : Nat) (s : State) : State :=
  if (s.trunk st).state = .up then
    sendLatest st (fun c => match c with | .heartbeat _ _ _ _ _ => true | _ => false) (.heartbeat 0 0 0 0 0) s
  else s

/-- A fault of an active lane of a trunk (R262, R281): an automatic retrain in UP; in STEP and INIT, once every lane of the partner has fallen
silent, DOWN. -/
def trunkLaneFault (lane : Nat) (s : State) : State :=
  match s.portOfLane lane with
  | some p =>
    let silent := ((s.port p).lanes p).all (fun l => (s.lane l).los)
    if (s.port p).isTrunk then
      match (s.trunk (p / 8)).state with
      | .up => autoRetrain (p / 8) 4 s
      | .step => if silent then trunkDown (p / 8) s else s
      | .init => if silent then trunkDown (p / 8) s else s
      | _ => s
    else s
  | none => s

end Sys2Proof.Machine
end

