-- ==== Sys2Proof/Machine/TrunkRx.lean ====
section
/-! DEFINITION. What a trunk delivers (R266, R267, R290, R291): messages for this device's homes, ports, Barrow and pair, messages in
transit, and MGMT records. -/

namespace Sys2Proof.Machine

/-- A trunk whose flits are taken: in UP or RETRAIN, on a running fabric die. -/
def State.linked (s : State) (st : Nat) : Bool :=
  s.fabricOn && decide ((s.trunk st).state = .up ∨ (s.trunk st).state = .retrain)

/-- A lane of a trunk's width is out of lock (R247): every flit fails its check. -/
def State.lolSeen (s : State) (st : Nat) : Bool :=
  let p := s.trunkPort st
  ((s.port p).lanes p).any (fun l => (s.lane l).lol && !(s.trunk st).lanesOff.contains (laneAt p l))

/-- A good flit can arrive on a trunk (R178, R247, R262). -/
def State.hears (s : State) (st : Nat) : Bool := s.linked st && !s.lolSeen st

/-- The DevLoad of a response that came on a flit with the congestion flag (R186): at least Moderate Overload. -/
def raisedLoad (cong : Bool) (m : TrunkMsg) : Nat := if cong ∧ m.cls = clsResponse then max 2 m.devload.toNat else m.devload.toNat

/-- The transaction of a message of another device towards a home here (R92, R115; log 24), which a trunk station's flit brought. -/
def remoteTxn (st : Nat) (cong : Bool) (req : Requester) (m : TrunkMsg) (s : State) : Txn :=
  let g := m.msg
  let a : AtomReq := g.atom.getD {}
  let wr := decide (g.op = .memWr ∨ g.op = .memWrPtl)
  let barrow := match req with | .barrow _ => true | _ => false
  { cls := if barrow && !wr && decide (g.op ≠ .atom) then .rdNC else classOf g.op .meta0 g.metaValue, req := req,
    device := m.srcDev.toNat, port := m.port.toNat, plot := m.plot.toNat, bed := m.bed.toNat, line := m.line.toNat,
    pl := (s.bed m.bed.toNat).pl m.line.toNat, hpa := g.addr, station := st, ingress := st, data := g.data,
    mask := g.mask, poison := g.poison, op := a.op, size := a.size, a := a.a, b := a.b, byteOff := a.off, metaV := g.metaValue,
    io := decide (g.tag = 0x10000), arrived := s.time.beats, ownOnly := g.fail,
    flit := s.flitNow st, known := true, cong := cong }

/-- A message for a home here (R92, R291): an answer to a snoop, a conflict, or a request, on its way as a cell of its station. A request of
a port that has no agent ID here is answered as the third row of R82. -/
def toHomeHere (st : Nat) (cong : Bool) (m : TrunkMsg) (s : State) : State :=
  let g := m.msg
  let sl := sliceOf m.bed.toNat m.line.toNat
  let src := m.srcDev.toNat
  let answer (r : Msg) (t : State) : State :=
    sendTrunkAs (t.flitNow st) true st clsResponse (vcOf clsResponse st 0)
      { dstDev := m.srcDev, srcDev := BitVec.ofNat 4 t.self, cls := clsResponse, kind := 1, port := m.port,
        devload := BitVec.ofNat 2 (t.sliceLevel sl), bed := m.bed, line := m.line, plot := m.plot, msg := r } t
  let noAgent (t : State) : State :=
    let v := takeFreeLine t
    if g.op = .atom then answer { op := .atomResult, fail := true, outcome := 3, tag := g.tag } t else
    match refusedReply g.op .meta0 g.metaValue g.addr v.1 with
    | some r => answer { r with outcome := 3, tag := g.tag } (if r.op = .memData then v.2 else t)
    | none => t
  let toSlice (i : HomeMsg) (t : State) : State :=
    enqueueGood { src := st, dst := 16 + sl, cls := clsResponse, length := m.length, plot := some m.plot.toNat, bed := m.bed.toNat,
                  offset := 64 * m.line.toNat, home := t.self, agent := m.agent.toNat, cong := cong, items := [i] } t
  if g.op = .rspI ∨ g.op = .rspS ∨ g.op = .rspE then
    match s.agentOf src m.port.toNat with
    | some a => toSlice (.answer a ((s.bed m.bed.toNat).pl m.line.toNat) g.op) s
    | none => count (16 + sl) 0x0B 1 s
  else if g.op = .biConflict then
    match s.agentOf src m.port.toNat with
    | some a => toSlice (.conflict a m.bed.toNat m.line.toNat m.plot.toNat g.addr) s
    | none => answer { op := .biConflictAck, addr := g.addr } s
  else if 1 ≤ g.tag ∧ g.tag ≤ 512 then arriveAtHome sl (remoteTxn st cong (.barrow (g.tag - 1)) m s) s
  else match s.agentOf src m.port.toNat with
    | some a => arriveAtHome sl (remoteTxn st cong (.agent a) m s) s
    | none => noAgent s

/-- A message for a port here (R186, R291): a cell of the trunk's station towards the port's egress. An access that its home did not serve
raises the plot's event here and is recorded here (R82), and a write that a drain discarded is counted here (R69); a write through the aperture has no completion. -/
def toPortHere (st : Nat) (vc : BitVec 3) (cong : Bool) (m : TrunkMsg) (s : State) : State :=
  let p := m.port.toNat
  let load := raisedLoad cong m
  let addr := if m.cls = clsSnoop then BitVec.ofNat 64 (s.snoopedAt p m.srcDev.toNat m.msg.addr.toNat) else m.msg.addr
  let g : Msg := { m.msg with addr := addr, devload := load, poison := m.msg.poison || (s.port p).viral }
  let s0 := if g.outcome = 0 then s else
    if g.outcome = discarded then plotCount m.plot.toNat 12 1 s else
    badAccess st (some m.plot.toNat) p g.outcome (if g.tag = 0x10000 then g.addr.toNat else
      match s.decode p g.addr with | some d => d.2 | none => g.addr.toNat) s
  if g.tag = 0x10000 then (if g.op = .cmp then s0 else sendTlpOf { plot := some m.plot.toNat, home := m.srcDev.toNat, cong := cong } (s0.flitNow st) true st p 2 (apertureTlp g ((g.atom.getD { size := 64 }).size)) s0)
  else
    let s1 := enqueueGood { src := st, dst := p / 8, egress := p, cls := m.cls, vc := vc, length := m.length, plot := some m.plot.toNat,
                            offset := 64 * m.line.toNat, bed := m.bed.toNat, home := m.srcDev.toNat, agent := m.agent.toNat,
                            devload := BitVec.ofNat 2 load, cong := cong, msgs := [g] } s0
    if m.cls = clsResponse then countResponse m.plot.toNat g s1 else s1

/-- A message for the pair partner (R301, R304): a mirror record, for the slice that R101 gives from the header's bed and line, or for the Teller; one of a reserved type is discarded with event 341 (R305).
DESIGN CHOICE (log 107): a record acts in the step in which the trunk's ingress takes its flit in. -/
def toPairHere (m : TrunkMsg) (s : State) : State :=
  match m.msg.mirror with
  | some r =>
    let sl := sliceOf m.bed.toNat m.line.toNat
    recordArrives (match r.body with
      | .config _ _ _ => r
      | .commit _ _ => r
      | .ack _ => r
      | _ => { r with head := { r.head with unit := sl } }) s
  | none => raise 341 s

/-- A message for another device (R291): its next hop, or ROUTE_LOOP. -/
def inTransit (st : Nat) (vc : BitVec 3) (cong : Bool) (m : TrunkMsg) (s : State) : State :=
  match s.routeTo m.dstDev.toNat with
  | some out =>
    if m.ttl = 0 then raise (320 + st) (logFault 0x24 st st m.dstDev.toNat 0 0 0 s)
    else
      let load := raisedLoad cong m
      enqueueGood { src := st, dst := out, egress := s.trunkPort out, cls := m.cls, vc := vc, length := 12 + m.length, plot := some m.plot.toNat,
                    offset := 64 * m.line.toNat, bed := m.bed.toNat,
                    home := if m.kind = 0 then m.dstDev.toNat else m.srcDev.toNat, agent := m.agent.toNat,
                    devload := BitVec.ofNat 2 load, cong := cong, msgs := [m.msg],
                    trunk := some { m with ttl := m.ttl - 1, devload := BitVec.ofNat 2 load } } s
  | none => raise (320 + st) (logFault 0x24 st st m.dstDev.toNat 0 0 0 s)

/-- An answer to a slice of this device's Barrow (R82, R291, R330) crosses as a cell; one that met no service is a BAD_ACCESS here. -/
def toBarrowHere (st : Nat) (vc : BitVec 3) (cong : Bool) (m : TrunkMsg) (s : State) : State :=
  let k := m.msg.tag - 1
  let load := raisedLoad cong m
  let t := enqueueGood
    { src := st, dst := xbarBarrow, cls := clsResponse, vc := vc, length := m.length, plot := some m.plot.toNat, offset := 64 * m.line.toNat,
      bed := m.bed.toNat, home := m.srcDev.toNat, devload := BitVec.ofNat 2 load, cong := cong,
      items := [.barrow k { m.msg with devload := load }] } s
  if m.msg.outcome = 0 then t
  else badAccess xbarBarrow (some m.plot.toNat) (t.slicePort k) m.msg.outcome (m.msg.addr.toNat % 2 ^ 46) t

/-- One message of a flit (R291). -/
def deliverMsg (st : Nat) (vc : BitVec 3) (cong : Bool) (m : TrunkMsg) (s : State) : State :=
  if m.dstDev.toNat ≠ s.self then inTransit st vc cong m s
  else if m.kind = 0 then toHomeHere st cong m s
  else if m.kind = 1 then toPortHere st vc cong m s
  else if m.kind = 2 then
    if 1 ≤ m.msg.tag ∧ m.msg.tag ≤ 512 then toBarrowHere st vc cong m s else s
  else toPairHere m s

/-- The messages of a payload up to the first header that ends it (R267, R289): `used` bytes come before. Answers whether one ended it
with reserved content. -/
def payload : Nat → List TrunkMsg → List TrunkMsg × Bool
  | _, [] => ([], false)
  | used, m :: rest =>
    let n := m.length.toNat
    if n = 0 then ([], false)
    else if 224 < n ∨ 236 < used + 12 + n then ([], true)
    else
      let r := payload (used + 12 + n) rest
      (m :: r.1, r.2)

/-- Whether a MGMT record is discarded (R267). -/
def State.badRecord (s : State) (r : MgmtRec) : Bool :=
  decide (230 < r.length) || (match r.body with | .unknown _ => true | _ => false) ||
    (decide (r.dst ≠ s.self) && (s.routeTo r.dst).isNone)

/-- A part of a block arrives (R360): in its place behind the parts before it. -/
def partArrives (ofReceipt : Bool) (index : Nat) (data : List Byte) (s : State) : State :=
  s.modTeller (fun t =>
    if ofReceipt then { t with partsBack := t.partsBack.take (228 * index) ++ data }
    else { t with partsIn := t.partsIn.take (228 * index) ++ data })

/-- A command of the partner reaches ring 14 (R351, R360, R362), with the parameter block that came ahead of it where it has one. -/
def commandArrives (origin : Nat) (word : BitVec 512) (last : List Byte) (s : State) : State :=
  let r := s.ring 14
  let block := if word.getLsbD 16 then s.teller.partsIn ++ last else []
  let n := r.cmdTail.toNat
  let s1 := s.modTeller (fun t => { t with
    partsIn := [], mem := memWrite 0 t.mem (14 * 0x8000 + 0x40 * (n % 256)) (bytesOf 64 512 word),
    blocks14 := if block.isEmpty then t.blocks14 else t.blocks14 ++ [(n, block)], origins14 := t.origins14 ++ [(n, origin)] })
  s1.modRing 14 (fun y => { y with cmdTail := y.cmdTail + 1 })

/-- A receipt of the partner's ring 14 returns (R360): it is written on the originating ring while the command still executes there. -/
def receiptReturns (origin : Nat) (tag : BitVec 32) (opcode status : BitVec 16) (result : BitVec 128) (last : List Byte) (s0 : State) :
    State :=
  let block := s0.teller.partsBack ++ last
  let s := s0.modTeller (fun t => { t with partsBack := [] })
  if (s.ring origin).history.any (fun e => e.executing && decide (e.tag = tag)) then
    let f := s.teller.forwards.find? (fun x => decide (x.ring = origin ∧ x.tag = tag))
    let mine (j : Job) : Bool := decide (j.ring = origin ∧ j.tag = tag ∧ j.kind = .forward)
    let s1 := s.modTeller (fun t => { t with
      forwards := t.forwards.filter (fun x => !decide (x.ring = origin ∧ x.tag = tag)), jobs := t.jobs.filter (fun j => !mine j) })
    let s2 := match f.bind (·.resultAddr) with
      | some a => writeBlock { ring := origin, word := BitVec.ofNat 512 (2 ^ 17 + a * 2 ^ 448) } block s1
      | none => s1
    let s3 := if status.toNat = stQueued then
        s2.modTeller (fun t => { t with jobs := t.jobs ++ [{ ring := origin, tag := tag, opcode := opcode, kind := .forward }] }) else s2
    let prop := if status.toNat = stAwaiting then some (bitsOf result 15 0) else f.bind (·.proposal)
    writeReceipt origin 0 tag opcode status.toNat (bytesOf 16 128 result) prop s3
  else s

/-- A MGMT record for this device (R85, R87, R93, R148, R266, R307, R313, R360). Those of the pair come from the pair partner. -/
def recordBody (st : Nat) (r : MgmtRec) (s : State) : State :=
  let partner := decide (s.pair.state ≠ .unpaired ∧ st = s.pair.station ∧ r.src = s.pair.partnerDev.toNat)
  match r.body with
  | .part ofReceipt index data => if partner then partArrives ofReceipt index data s else s
  | .wiring index ports => if st = s.pair.station then s.modPair (fun p => { p with portsIn := p.portsIn.take (13 * index) ++ ports }) else s
  | .command origin word block => if partner then commandArrives origin word block s else s
  | .receipt origin tag opcode status result block => if partner then receiptReturns origin tag opcode status result block s else s
  | .mapQuery bed port plot slot => mapQueryOp r.src bed port plot slot s
  | .mapAnswer plot slot status span cnt ways shared => mapAnswerOp plot slot status.toNat span cnt ways shared s
  | .unmap bed port _ => unmapAtHome bed r.src port s
  | .capacity bed port cnt release force sets => capacityRecord r.src bed port cnt release force sets s
  | .shared bed port shared => sharedRecord r.src bed port shared s
  | .accepted bed port _ => releasedBy bed (512 + 128 * r.src + port) s
  | .plotDrain bed port plot => remoteDrainStarts r.src port plot bed s
  | .plotDrained bed plot => homeAnswered plot r.src bed .draining false s
  | .plotLost bed port plot => mirrored (remoteDrainLost r.src port plot bed) s
  | .plotZero bed port plot => mirrored (remoteZeroStarts r.src port plot bed) s
  | .plotZeroed bed plot failed => homeAnswered plot r.src bed .sanitizing failed s
  | .lostWrite bed => forEach (s.plotsWhere (fun p => p.maps r.src bed)) plotEvent s
  | .pairRequest generation pin =>
    pairAt (.request st (s.trunk st).peerSerial (s.trunk st).peer generation pin) s
  | .pairAnswer accepted ports => if st = s.pair.station then pairAnswerOp accepted ports s else s
  | .handoff generation => if partner && decide (s.pair.state = .shadow) then pairAt (.handoff generation) s else s
  | .dissolve => if partner then pairAt .dissolved s else s
  | .unknown _ => s

/-- A MGMT record is taken by the Teller, sent on, or discarded and counted (R266, R267). -/
def takeRecord (st : Nat) (r : MgmtRec) (s : State) : State :=
  if s.badRecord r then countPort (s.trunkPort st) 0x06 1 s
  else if r.dst ≠ s.self then
    match s.routeTo r.dst with
    | some out => s.modTrunk out (fun t => { t with mgmtOut := t.mgmtOut ++ [{ r with hops := r.hops + 1 }] })
    | none => s
  else recordBody st r s

/-- A flit leaves its VC buffer (R266, R272). DESIGN CHOICE (log 82): a DATA flit comes with the outcome of its CRC-64, which is its tail
status (R178), so its cells need wait for none. -/
def deliver (st : Nat) (f : Flit) (s : State) : State :=
  match f.body with
  | .cells l =>
    let p := payload 0 l
    let s1 := forEach p.1 (deliverMsg st (BitVec.ofNat 3 f.vc) f.cong) (newFlit (s.trunkPort st) s)
    if p.2 then countPort (s.trunkPort st) 0x06 1 s1 else s1
  | .mgmt r => takeRecord st r s

/-- The queue of a station that a message from its trunk is for (R167, R291): none where the message takes no cell. -/
def State.queueFor (s : State) (st : Nat) (m : TrunkMsg) : Option SwCell :=
  let home (cls : BitVec 2) : SwCell := { src := st, dst := 16 + sliceOf m.bed.toNat m.line.toNat, cls := cls }
  if m.dstDev.toNat ≠ s.self then (s.routeTo m.dstDev.toNat).map (fun out => { src := st, dst := out, egress := s.trunkPort out, cls := m.cls })
  else if m.kind = 0 then
    some (home (if [MsgOp.rspI, .rspS, .rspE, .biConflict, .memWr, .memWrPtl].contains m.msg.op then clsResponse else clsRequest))
  else if m.kind = 1 then some { src := st, dst := m.port.toNat / 8, egress := m.port.toNat, cls := m.cls }
  else if m.kind = 2 then some { src := st, dst := xbarBarrow, cls := clsResponse }
  else none

/-- The messages of a flit have room in the station's queues together (R167, R272). -/
def State.messagesFit (s : State) (st : Nat) (l : List TrunkMsg) : Bool :=
  let cells := l.filterMap (s.queueFor st)
  !cells.any (fun c => s.switch.formed.any (fun d => holdsBack d c)) &&
    (cells.foldl (fun (a : Bool × List SwCell) c => (a.1 && cellFits a.2 c, a.2 ++ [c])) (true, s.inMemory st)).1

/-- The flit at the head of a VC buffer may leave it (R272): every message of it can be written to its queue, or the Teller can take its record.
A command waits while ring 14 has no free slot (R353). -/
def State.flitLeaves (s : State) (st : Nat) (f : Flit) : Bool :=
  match f.body with
  | .cells l => s.messagesFit st (payload 0 l).1
  | .mgmt r => !(match r.body with | .command _ _ _ => decide (r.dst = s.self ∧ 256 ≤ (s.ring 14).waiting) | _ => false)

/-- A flit leaves its VC buffer, and frees its slot (R272, R278): its credit is returned. -/
def leaveBuffer (st : Nat) (f : Flit) (s : State) : State :=
  deliver st f (s.modTrunk st (fun t => { t with
    buffers := t.buffers.eraseP (fun g => g.vc == f.vc), pendingRet := Tab.set t.pendingRet 0 f.vc (Tab.get t.pendingRet 0 f.vc + 1) }))

/-- Flits leave a VC buffer in order of arrival (R272). -/
def drainVc (st vc : Nat) : Nat → State → State
  | 0, s => s
  | n + 1, s => match (s.trunk st).buffers.find? (fun f => f.vc == vc) with
    | none => s
    | some f => if s.flitLeaves st f then drainVc st vc n (leaveBuffer st f s) else s

/-- Each VC buffer of a trunk gives up the flits that may leave it; no VC waits on another (R272). -/
def drainTrunk (st : Nat) (s : State) : State :=
  forEach (List.range 8) (fun vc t => drainVc st vc ((t.trunk st).occupied vc) t) s

/-- A good DATA flit, from its header to its VC buffer, and on where it may leave that (R270, R272, R274). -/
def takeFlit (st : Nat) (f : Flit) (s : State) : State := drainTrunk st (dataFlit st f s)

/-- The records of ring 14's receipts go out on the pair's trunk (R351, R360). -/
def sendReturns (s : State) : State :=
  match s.teller.returns with
  | [] => s
  | l =>
    if s.pair.state = .unpaired then s
    else
      let body (x : Returned) : MgmtBody := .receipt x.origin x.receipt.tag x.receipt.opcode x.receipt.status x.receipt.result x.block
      (forEach l (fun x t => pairMgmt (body x) t) s).modTeller (fun t => { t with returns := [] })

/-- A DATA flit with a MGMT record arrives in order (R266, R274). DESIGN CHOICE (log 95): the row gives no link header, so the flit is the
next one due on VC0, and its header acknowledges, returns and flags nothing new. -/
def recordFlit (st : Nat) (rec : MgmtRec) (s : State) : State :=
  let t := s.trunk st
  takeFlit st { seq := t.exp, vc := 0, body := .mgmt rec } (applyHeader st { seq := t.exp, ack := t.ackRx, nakPresent := t.nakRx } s)

/-- Meaning of MGMT_RECORD. -/
def execMgmtRecord (station : Nat) (rec : MgmtRec) (s : State) : Out :=
  whenWf s (decide (station < 16)) (onlyIf (s.hears station) (recordFlit station rec) s)

end Sys2Proof.Machine
end

