-- ==== Sys2Proof/Machine/TrunkEv.lean ====
section
/-! DEFINITION. The trunk's rows (09_trunk_link): bring-up, flits that arrive, timeouts, retrains, lane idle; and the time exchange of R54. -/

namespace Sys2Proof.Machine

/-- Meaning of TRUNK_HELLO. A looped lane does not take part in its port's link (R250). -/
def execTrunkHello (station lane : Nat) (hello : List (BitVec 10)) (s : State) : Out :=
  whenWf s (decide (station < 16) && decide (lane < 256)) (onlyIf (s.fabricOn && decide ((s.trunk station).state = .hello) &&
    (s.trunk station).waitFrom.isNone && (s.lane lane).loop == 0 && ((s.port (s.trunkPort station)).lanes (s.trunkPort station)).contains lane) (helloOp station lane hello) s)

/-- Meaning of HELLO_TIMEOUT. -/
def execHelloTimeout (station : Nat) (s : State) : Out :=
  let t := s.trunk station
  whenWf s (decide (station < 16)) (onlyIf (s.fabricOn && decide (t.state = .hello ∧ t.since + 4096 ≤ s.tick) && t.waitFrom.isNone && !t.helloDone)
    (fun u => u.modTrunk station (fun x => { x with waitFrom := some u.tick })) s)

/-- Meaning of HELLO_WAIT_END: DOWN, then HELLO. -/
def execHelloWaitEnd (station : Nat) (s : State) : Out :=
  let t := s.trunk station
  whenWf s (decide (station < 16)) (onlyIf (s.fabricOn && decide (t.state = .hello) &&
    (match t.waitFrom with | some w => decide (w + 1024 ≤ s.tick) | none => false)) (startHello station) s)

/-- Meaning of FURTHER_HELLOS_DONE. -/
def execFurtherHellosDone (station : Nat) (s : State) : Out :=
  let t := s.trunk station
  whenWf s (decide (station < 16)) (onlyIf (s.fabricOn && decide (t.state = .hello ∧ t.helloTick + 64 ≤ s.tick) && t.helloDone)
    (startStep station 0) s)

/-- Meaning of TRUNK_TRAIN. -/
def execTrunkTrain (station lane : Nat) (good : Bool) (s : State) : Out :=
  whenWf s (decide (station < 16) && decide (lane < 256)) (onlyIf (s.fabricOn && decide ((s.trunk station).state = .step) &&
    (s.lane lane).loop == 0 && ((s.port (s.trunkPort station)).lanes (s.trunkPort station)).contains lane) (trainOp station lane good) s)

/-- Meaning of SPEED_STEP_TIMEOUT. -/
def execSpeedStepTimeout (station : Nat) (s : State) : Out :=
  let t := s.trunk station
  whenWf s (decide (station < 16)) (onlyIf (s.fabricOn && decide (t.state = .step ∧ t.stepTick + 256 ≤ s.tick)) (stepFails station) s)

/-- A flit that fails its CRC both ways is discarded whole (R178, R274). -/
def badFlit (st : Nat) (s : State) : State := portCount (s.trunkPort st) 4 1 (countPort (s.trunkPort st) 0x03 1 s)

/-- A good flit that is not DATA (R265, R267, R274): its header is applied, and its sequence number shows a gap. -/
def otherFlit (st : Nat) (h : LinkHeader) (s : State) : State := seqSeen st h.seq (applyHeader st h s)

/-- INIT arrives (R262, R274, R283 to R285): its header is handled as every good flit's; from another device than the accepted hello's it breaks the trunk, and so does
one that comes later than 31 ticks after the pause of a retrain. -/
def initArrives (st : Nat) (h : LinkHeader) (device : BitVec 4) (serial : BitVec 48) (ack : BitVec 12) (free : List Nat) (s : State) : State :=
  let t := s.trunk st
  if device ≠ t.peer ∨ serial ≠ t.peerSerial then breakTrunk st 6 s
  else if t.state = .retrain ∧ t.since + 31 < s.tick then breakTrunk st 5 s
  else initOp st ack free (otherFlit st h s)

/-- Meaning of TRUNK_INIT: expected in INIT, and at the end of a retrain. -/
def execTrunkInit (station : Nat) (hdr : LinkHeader) (device : BitVec 4) (serial : BitVec 48) (expLess1 : BitVec 12) (free : List Nat)
    (s : State) : Out :=
  let t := s.trunk station
  whenWf s (decide (station < 16)) (onlyIf (s.fabricOn && !s.lolSeen station && (decide (t.state = .init) || (decide (t.state = .retrain) && t.lanesDone)))
    (initArrives station hdr device serial expLess1 free) s)

/-- The outcome of a flit's check on a trunk (R247, R270): a lane out of lock passes error symbols, so that no flit comes out good. -/
def State.checked (s : State) (st : Nat) (c : FlitCheck) : FlitCheck := if s.lolSeen st then .bad else c

/-- A DATA flit arrives (R270, R274): bad ones are discarded whole; the flits that are in order now take their slots. -/
def dataArrives (st : Nat) (h : LinkHeader) (check : FlitCheck) (msgs : List TrunkMsg) (s : State) : State :=
  if s.checked st check = .bad then badFlit st (flitIn (s.trunkPort st) 236 s)
  else
    takeFlit st { seq := h.seq, vc := h.vc, stomp := decide (check = .stomped) || h.stomp, cong := h.cong, body := .cells msgs }
      (applyHeader st h s)

/-- Meaning of TRUNK_DATA. -/
def execTrunkData (station : Nat) (hdr : LinkHeader) (check : FlitCheck) (msgs : List TrunkMsg) (s : State) : Out :=
  whenWf s (decide (station < 16)) (onlyIf (s.linked station) (dataArrives station hdr check msgs) s)

/-- A NULL flit, or one of a reserved type (R266, R267). -/
def nullArrives (st : Nat) (h : LinkHeader) (typ : BitVec 4) (check : FlitCheck) (s : State) : State :=
  if s.checked st check = .bad then badFlit st (flitIn (s.trunkPort st) 236 s)
  else if 9 ≤ typ.toNat then countPort (s.trunkPort st) 0x06 1 (otherFlit st h s)
  else otherFlit st h s

/-- Meaning of TRUNK_NULL. -/
def execTrunkNull (station : Nat) (hdr : LinkHeader) (flitType : BitVec 4) (check : FlitCheck) (s : State) : Out :=
  whenWf s (decide (station < 16)) (onlyIf (s.linked station) (nullArrives station hdr flitType check) s)

/-- Meaning of TRUNK_NAK: a count of 0 or above 16 voids the payload (R267). -/
def execTrunkNak (station : Nat) (hdr : LinkHeader) (count : Nat) (records : List NakRecord) (s : State) : Out :=
  whenWf s (decide (station < 16)) (onlyIf (s.hears station) (fun t =>
    let t1 := otherFlit station hdr t
    if 1 ≤ count ∧ count ≤ 16 ∧ (t1.trunk station).state = .up then nakOp station (records.take count) t1 else t1) s)

/-- Meaning of NAK_RESEND. -/
def execNakResend (station : Nat) (s : State) : Out :=
  whenWf s (decide (station < 16)) (onlyIf (s.fabricOn && decide ((s.trunk station).state = .up) &&
    (s.trunk station).holes.any (fun h => decide (h.2 + 512 ≤ s.time.beats))) (sendNak station) s)

/-- Every unacknowledged flit is replayed (R277). DESIGN CHOICE (log 96): the next 2,048 beats run from here. -/
def replayAll (st : Nat) (s : State) : State :=
  replayFlits st ((s.trunk st).replay.map (·.seq)) (s.modTrunk st (fun x => { x with ackBeat := s.time.beats }))

/-- Meaning of REPLAY_TIMEOUT. -/
def execReplayTimeout (station : Nat) (s : State) : Out :=
  let t := s.trunk station
  whenWf s (decide (station < 16)) (onlyIf (s.fabricOn && decide (t.state = .up ∧ t.ackBeat + 2048 ≤ s.time.beats) && !t.replay.isEmpty)
    (replayAll station) s)

/-- Meaning of TRUNK_AUDIT. -/
def execTrunkAudit (station : Nat) (hdr : LinkHeader) (returned : List (BitVec 16)) (s : State) : Out :=
  whenWf s (decide (station < 16)) (onlyIf (s.hears station) (fun t =>
    forEach (List.range 8) (fun vc u => if vc = 1 then u else auditVc station vc ((returned[vc]?).getD (Tab.get (u.trunk station).received 0 vc)) u)
      (otherFlit station hdr t)) s)

/-- The trunk station by which the device follows a time leader (R54, R59): towards the time root, or of a SHADOW its pair's. -/
def State.timeStation (s : State) : Option Nat :=
  match s.time.root with
  | some d => if d.toNat = s.self then none else s.routeTo d.toNat
  | none => if s.pair.state.role = 2 then some s.pair.station else none

/-- The device's own time request of a tick (R54, R287); it is stamped as it leaves. -/
def timeRequest (s : State) : State :=
  match s.timeStation with
  | some st =>
    if (s.trunk st).state = .up then sendLatest st (fun c => match c with | .time k _ _ _ => k == 1 | _ => false) (.time 1 0 0 0) s else s
  | none => s

/-- Half of a sum (R54): "/" truncates towards zero (R18). -/
def half (i : Int) : Int := i.tdiv 2

/-- Two's complement of a signed value in 32 bits. -/
def int32 (i : Int) : BitVec 32 := BitVec.ofInt 32 i

/-- The hops to the time root (R59, R60): one to a leader next door; the spec gives no message by which
a device learns a longer path. DESIGN CHOICE (log 45): a longer path is a free value, and with no root named it is 1, to the leader. -/
def rootHops (st : Nat) (s : State) : BitVec 4 × State :=
  match s.time.root with
  | some d =>
    if d.toNat = (s.trunk st).peer.toNat then (1, s)
    else let r := takeFree s; (r.1.setWidth 4, r.2)
  | none => (1, s)

/-- A measured offset moves the almanac's synchronisation state (R56); IN_SYNC refines a coarse almanac (R49). -/
def syncMoves (good : Bool) (s : State) : State :=
  match s.time.sync with
  | .free => setSync .acquiring s
  | .acquiring => if 16 ≤ s.time.goodRun then setSync .inSync (s.modTime (fun t => { t with coarse := false })) else s
  | .inSync => if 16 ≤ s.time.badRun then setSync .acquiring s else s
  | .holdover => if good then setSync .inSync (s.modTime (fun t => { t with coarse := false })) else setSync .acquiring s

/-- A time reply arrives (R54 to R56). -/
def timeReply (st : Nat) (t1 t2 t3 : BitVec 64) (s : State) : State :=
  if s.time.requestT1 = some t1 ∧ s.timeStation = some st then
    let t4 := s.arrivedStamp st
    let off := half ((t2 - t1).toInt - (t4 - t3).toInt)
    let good := decide (off.natAbs ≤ 2)
    let l := (off :: s.time.means).take 16
    let h := rootHops st s
    let s1 := h.2.modTime (fun t => { t with
      requestT1 := none, measured := some off, catchUp := decide (off < -64), delay := half ((t4 - t1).toInt - (t3 - t2).toInt), means := l,
      trim := (l.foldl (· + ·) 0).tdiv (l.length : Int), lastExchange := s.tick, offset := int32 off, hops := h.1,
      goodRun := if good then t.goodRun + 1 else 0, badRun := if good then 0 else t.badRun + 1 })
    syncMoves good s1
  else s

/-- A TIME flit arrives (R54, R267, R287): the leader answers a request; a byte 6 other than 1 or 2 voids the payload. -/
def timeArrives (st : Nat) (h : LinkHeader) (kind : BitVec 8) (t1 t2 t3 : BitVec 64) (s0 : State) : State :=
  let s := otherFlit st h s0
  if kind = 1 then (if (s.trunk st).state = .up then sendControl st (.time 2 t1 (s.arrivedStamp st) 0) s else s)
  else if kind = 2 then timeReply st t1 t2 t3 s
  else s

/-- Meaning of TRUNK_TIME. -/
def execTrunkTime (station : Nat) (hdr : LinkHeader) (kind : BitVec 8) (t1 t2 t3 : BitVec 64) (s : State) : Out :=
  whenWf s (decide (station < 16)) (onlyIf (s.hears station) (timeArrives station hdr kind t1 t2 t3) s)

/-- A HEARTBEAT arrives (R288, R307, R315): of the accepted partner on the pair's trunk it is the pair's as well. -/
def heartArrives (st : Nat) (h : LinkHeader) (device : BitVec 4) (mode : BitVec 8) (serial : BitVec 48) (flags : BitVec 64) (s0 : State) : State :=
  let s1 := otherFlit st h s0
  let s := s1.modTrunk st (fun t => { t with lastHeart := s1.tick, heartSeen := some (flags, mode.toNat) })
  let t := s.trunk st
  if t.entry.pair ∧ t.state = .up ∧ st = s.pair.station ∧ s.pair.state ≠ .unpaired ∧ device = t.peer ∧ serial = t.peerSerial ∧
      serial = s.pair.partnerSerial then pairHeartbeat serial flags s
  else s

/-- Meaning of TRUNK_HEARTBEAT. -/
def execTrunkHeartbeat (station : Nat) (hdr : LinkHeader) (device : BitVec 4) (mode : BitVec 8) (serial : BitVec 48) (stamp flags : BitVec 64)
    (s : State) : Out :=
  whenWf s (decide (station < 16)) (onlyIf (s.hears station) (heartArrives station hdr device mode serial flags) s)

/-- A RETRAIN flit arrives (R267, R282): a request is acknowledged and this side pauses too; a code outside the defined ones voids it.
DESIGN CHOICE (log 120): where both sides have sent a request, each keeps the width and rate of its own. -/
def retrainArrives (st : Nat) (h : LinkHeader) (isAck : Bool) (width rate : BitVec 8) (reason : BitVec 3) (s0 : State) : State :=
  let s := otherFlit st h s0
  if (s.trunk st).state ≠ .up ∨ width = 0 ∨ 3 < width.toNat ∨ 2 < rate.toNat then s
  else if isAck then s.modTrunk st (fun t => { t with acked := t.acked || t.request.isSome })
  else
    sendControl st (.retrain true width.toNat rate.toNat reason.toNat) (s.modTrunk st (fun t =>
      if t.pauseTick.isSome then t
      else { t with pauseTick := some (s.tick + 2), retrainWidth := width.toNat, retrainRate := rate.toNat, lastReason := reason }))

/-- Meaning of TRUNK_RETRAIN_REQUEST. -/
def execTrunkRetrainRequest (station : Nat) (hdr : LinkHeader) (isAck : Bool) (width rate : BitVec 8) (reason : BitVec 3) (s : State) : Out :=
  whenWf s (decide (station < 16)) (onlyIf (s.hears station) (retrainArrives station hdr isAck width rate reason) s)

/-- The trunk pauses now (R282). -/
def State.pauseDue (s : State) (st : Nat) : Bool :=
  decide ((s.trunk st).state = .up) && ((match (s.trunk st).pauseTick with | some p => decide (p ≤ s.tick) | none => false) ||
    (match (s.trunk st).pauseBeat with | some p => decide (p ≤ s.time.beats) | none => false))

/-- A request that is still not acknowledged a tick after its last sending is repeated, and after 4 ticks the trunk breaks (R282). -/
def repeatRequest (st : Nat) (s : State) : State :=
  let t := s.trunk st
  match t.request with
  | none => s
  | some (w, r, why, at') =>
    if t.acked then s
    else if at' + 4 ≤ s.tick then breakTrunk st 4 s
    else
      let s1 := s.modTrunk st (fun x => { x with requestSent := x.requestSent + 1 })
      if t.state = .up then sendControl st (.retrain false w r why) s1 else s1

/-- Meaning of RETRAIN_REQUEST_REPEAT. -/
def execRetrainRequestRepeat (station : Nat) (s : State) : Out :=
  let t := s.trunk station
  whenWf s (decide (station < 16)) (onlyIf (s.fabricOn && !t.acked && decide (t.state = .up ∨ t.state = .retrain) &&
    (match t.request with | some (_, _, _, at') => decide (at' + t.requestSent ≤ s.tick) | none => false)) (repeatRequest station) s)

/-- Meaning of RETRAIN_END. -/
def execRetrainEnd (station locked : Nat) (s : State) : Out :=
  whenWf s (decide (station < 16)) (onlyIf (s.fabricOn && decide ((s.trunk station).state = .retrain) && !(s.trunk station).lanesDone)
    (lanesTrained station locked) s)

/-- Meaning of RETRAIN_TIMEOUT: more than 31 ticks (R284). -/
def execRetrainTimeout (station : Nat) (s : State) : Out :=
  let t := s.trunk station
  whenWf s (decide (station < 16)) (onlyIf (s.fabricOn && decide (t.state = .retrain ∧ t.since + 31 < s.tick)) (breakTrunk station 5) s)

/-- Meaning of TRUNK_SILENCE. -/
def execTrunkSilence (station : Nat) (s : State) : Out :=
  let t := s.trunk station
  whenWf s (decide (station < 16)) (onlyIf (s.fabricOn && decide (t.state = .up ∧ t.lastGood + 16 ≤ s.tick)) (breakTrunk station 2) s)

/-- The cell of a VC that a trunk sends next (R170, R268). -/
def State.nextOnVc (s : State) (st vc : Nat) : Option SwCell :=
  s.switch.staging.find? (fun c => c.dst == st && c.egress == s.trunkPort st && c.vc.toNat == vc)

/-- A flit waits for its first transmission on a VC (R268, R280). -/
def State.flitWaits (s : State) (st vc : Nat) : Bool :=
  if vc = 0 then !(s.trunk st).mgmtOut.isEmpty else (s.nextOnVc st vc).isSome

/-- Meaning of CONTROL_CREDIT_STALL. -/
def execControlCreditStall (station vc : Nat) (s : State) : Out :=
  let t := s.trunk station
  let from' := Tab.get t.stallTick 0 vc
  whenWf s (decide (station < 16) && decide (vc < 8)) (onlyIf (s.fabricOn && controlVc vc && s.flitWaits station vc &&
    decide (t.state = .up ∧ Tab.get t.avail 0 vc = 0 ∧ 0 < from' ∧ from' + 3 ≤ s.tick))
    (breakTrunk station 1) s)

/-- Meaning of TRUNK_AUTO_RESTART. -/
def execTrunkAutoRestart (station : Nat) (s : State) : Out :=
  let t := s.trunk station
  whenWf s (decide (station < 16)) (onlyIf (s.fabricOn && t.entry.autoRestart && decide (t.state = .broken ∧ t.since + 1024 ≤ s.tick))
    (startHello station) s)

/-- Nothing waits to be sent on a trunk (R243, R268). -/
def State.trunkQuiet (s : State) (st : Nat) : Bool :=
  (s.trunk st).mgmtOut.isEmpty && (s.trunk st).resend.isEmpty && (s.nextControl st).isNone &&
    !(s.switch.voq ++ s.switch.staging).any (fun c => c.dst == st && c.egress == s.trunkPort st)

/-- The idle count of a trunk's transmitter (R243): 64 × 2^tidle beats of its lowest lane; 7 never. -/
def State.idleCount (s : State) (st : Nat) : Option Nat :=
  match (s.port (s.trunkPort st)).lanes (s.trunkPort st) with
  | [] => none
  | l :: _ => let n := (s.lane l).tidle.toNat; if n ≤ 4 then some (64 * 2 ^ n) else none

/-- Meaning of LANE_IDLE_ENTRY. -/
def execLaneIdleEntry (station : Nat) (s : State) : Out :=
  let t := s.trunk station
  whenWf s (decide (station < 16)) (onlyIf (s.fabricOn && decide (t.state = .up) && !t.idle && s.trunkQuiet station &&
      (match s.idleCount station with | some n => decide (t.lastTx + n ≤ s.time.beats) | none => false))
    (fun u => u.modTrunk station (fun x => { x with idle := true, idleBeat := u.time.beats, wakeBeat := none, burst := sleepMarker })) s)

/-- Beats of the sleep marker (R244). -/
def markerBeats (rate : BitVec 2) : Nat := if rate = 0 then 4 else if rate = 1 then 2 else 1

/-- The transmitters' scramblers start again at the end of the wake burst's marker (R244). The receivers' do at the end of the partner's
marker, of which no command tells; no bits pass them here, so that they stay at their seed (log 118). -/
def wakeScramblers (st : Nat) (s : State) : State :=
  forEach ((s.port (s.trunkPort st)).lanes (s.trunkPort st)) (fun l u =>
    u.modLane l (fun x => { x with scrTx := scramblerSeed (((Tab.find (s.trunk st).accepted l).map (·.lane)).getD 0) })) s

/-- Beats of the exit from lane idle (R244): the wake and the burst. -/
def exitBeats (rate : BitVec 2) : Nat := if rate = 0 then 34 else if rate = 1 then 18 else 10

/-- A trunk in lane idle may wake (R243, R245): a flit is ready, the sleep marker has gone out, and the minimum idle of 16 beats has passed. -/
def State.wakeDue (s : State) (st : Nat) : Bool :=
  let t := s.trunk st
  t.idle && t.wakeBeat.isNone && decide (t.idleBeat + markerBeats t.rate + 16 ≤ s.time.beats) && !s.trunkQuiet st

/-- A trunk starts to wake (R244): the burst ends, and the first flit may leave, after the exit's beats. -/
def startWake (st : Nat) (s : State) : State :=
  s.modTrunk st (fun x => { x with wakeBeat := some (s.time.beats + exitBeats x.rate), burst := wakeBurst x.rate })

/-- A trunk's lane idle in one beat (R243, R244): it wakes once a flit is ready, and its exit ends with the transmitters' scramblers reset. -/
def idleStep (st : Nat) (s : State) : State :=
  let t := s.trunk st
  match t.wakeBeat with
  | some b =>
    if t.idle ∧ b ≤ s.time.beats then
      wakeScramblers st (s.modTrunk st (fun x => { x with idle := false, wakeBeat := none, lastTx := s.time.beats }))
    else s
  | none => if s.wakeDue st then startWake st s else s

/-- Meaning of LANE_IDLE_EXIT. -/
def execLaneIdleExit (station : Nat) (s : State) : Out :=
  whenWf s (decide (station < 16)) (onlyIf (s.fabricOn && s.wakeDue station) (startWake station) s)

/-- An active lane's fault retrains its trunk (R262, R281). -/
def laneFaultSeen (lane : Nat) (lol : Bool) (s : State) : State :=
  let t := detectorAsserts lane lol s
  if s.laneWatched lane then trunkLaneFault lane t else t

/-- Meaning of LANE_LOS. -/
def execLaneLos (lane : Nat) (s : State) : Out :=
  whenWf s (decide (lane < 256)) (onlyIf (s.fabricOn && !(s.lane lane).los) (laneFaultSeen lane false) s)

/-- Meaning of LANE_LOL. -/
def execLaneLol (lane : Nat) (s : State) : Out :=
  whenWf s (decide (lane < 256)) (onlyIf (s.fabricOn && !(s.lane lane).lol) (laneFaultSeen lane true) s)

end Sys2Proof.Machine
end

