-- ==== Sys2Proof/Machine/Switch.lean ====
section
/-! DEFINITION. The switch core's beat (06_switch_core): matching, traverse, egress, tail status, and QoS replenishment. -/

namespace Sys2Proof.Machine

/-- The cell header (R165), as the crossbar's trace points see it. -/
def SwCell.image (c : SwCell) : Nat :=
  fieldAt c.agent 144 + fieldAt c.home 140 + fieldAt c.bed 128 + fieldAt c.offset 86 + fieldAt (c.plot.getD 0) 77 +
  fieldAt (bit c.plot.isSome) 76 + fieldAt c.vc.toNat 73 + fieldAt c.devload.toNat 71 + fieldAt (bit c.cong) 70 +
  fieldAt c.flitTag.toNat 52 + fieldAt c.length.toNat 40 + fieldAt c.ioSub.toNat 37 + fieldAt c.cls.toNat 35 + fieldAt c.egress 28 +
  fieldAt c.dst 23 + fieldAt c.src 18 + fieldAt (bit c.last) 17

/-- The head of every queue (R170, R171): for I/O the oldest cell, which no posted cell precedes. -/
def queueHeads : List SwCell → List SwCell
  | [] => []
  | c :: rest => c :: (queueHeads rest).filter (fun d => !sameQueue c d)

/-- An output has room for a cell (R172): a free staging cell of its port and class; at the Barrow and the bridge, one of 64 input cells of
its class; a home slice always has it. -/
def State.outputRoom (s : State) (c : SwCell) : Bool :=
  if 24 ≤ c.dst then decide ((s.switch.inbox.filter (fun d => d.dst == c.dst && d.cls == c.cls)).length < 64)
  else if 16 ≤ c.dst then true
  else decide ((s.switch.staging.filter (fun d => d.dst == c.dst && d.egress == c.egress && d.cls == c.cls)).length < 16)

/-- The heads that may be sent (R172). -/
def State.eligible (s : State) : List SwCell := (queueHeads s.switch.voq).filter s.outputRoom

/-- The highest class that an input holds for an output (R173). -/
def topClass (heads : List SwCell) (i o : Nat) : Option Nat :=
  (heads.filter (fun c => c.src == i && c.dst == o)).foldl (fun (m : Option Nat) c =>
    match m with | none => some c.cls.toNat | some k => some (min k c.cls.toNat)) none

/-- The best of some candidates (R173): highest class first, then rotating order from a pointer over 26. -/
def bestOf (ptr : Nat) (l : List (Nat × Nat)) : Option (Nat × Nat) :=
  let key (x : Nat × Nat) : Nat := 26 * x.2 + (x.1 + 26 - ptr % 26) % 26
  l.foldl (fun (m : Option (Nat × Nat)) x => match m with | none => some x | some y => if key x < key y then some x else some y) none

/-- One match: input, output, class. -/
abbrev Match := Nat × Nat × Nat

/-- One round of request, grant and accept (R173). -/
def matchRound (w : Switch) (heads : List SwCell) (done : List Match) : List Match :=
  let ports := List.range 26
  let freeIn := ports.filter (fun i => !done.any (fun m => m.1 == i))
  let freeOut := ports.filter (fun o => !done.any (fun m => m.2.1 == o))
  let grants : List (Nat × Nat × Nat) := freeOut.filterMap (fun o =>
    let asks := freeIn.filterMap (fun i => (topClass heads i o).map (fun k => (i, k)))
    (bestOf (Tab.get w.grantPtr 0 o) asks).map (fun g => (o, g.1, g.2)))
  freeIn.filterMap (fun i =>
    let got := (grants.filter (fun g => g.2.1 == i)).map (fun g => (g.1, g.2.2))
    (bestOf (Tab.get w.acceptPtr 0 i) got).map (fun a => (i, a.1, a.2)))

/-- The matches of a beat and the pointers after it (R173): only round 1 moves pointers. -/
def matchBeat (w : Switch) (heads : List SwCell) : List Match × Switch :=
  let r1 := matchRound w heads []
  let r2 := r1 ++ matchRound w heads r1
  let r3 := r2 ++ matchRound w heads r2
  (r3, { w with
    grantPtr := r1.foldl (fun t m => Tab.set t 0 m.2.1 ((m.1 + 1) % 26)) w.grantPtr,
    acceptPtr := r1.foldl (fun t m => Tab.set t 0 m.1 ((m.2.1 + 1) % 26)) w.acceptPtr })

/-- The place of a queue in the rotation over external port and I/O sub-queue (R174). -/
def queuePlace (c : SwCell) : Nat := 3 * (c.egress % 8) + (if c.cls = clsIo then c.ioSub.toNat % 3 else 0)

/-- The cell that an input sends on a match (R170, R174). DESIGN CHOICE (log 81): cells of one class from one input to one output keep their
order within one queue; between the queues of that output's external ports R174's rotation decides. -/
def chosenCell (w : Switch) (heads : List SwCell) (m : Match) : Option SwCell :=
  let ptr := Tab.get w.queuePtr 0 ((m.1 * 26 + m.2.1) * 4 + m.2.2)
  let key (c : SwCell) : Nat := (queuePlace c + 24 - ptr % 24) % 24
  (heads.filter (fun c => c.src == m.1 && c.dst == m.2.1 && c.cls.toNat == m.2.2)).foldl (fun (b : Option SwCell) c =>
    match b with | none => some c | some d => if key c < key d then some c else some d) none

/-- What a cell brings reaches a home slice, the Barrow or the bridge (R115, R166). -/
def deliverItem (dst : Nat) (m : HomeMsg) (s : State) : State :=
  match m with
  | .txn t => enterSlice (dst - 16) { t with known := true } s
  | .answer a pl op => snoopAnswer (dst - 16) a pl op s
  | .conflict a bed line plot hpa => conflictAck (dst - 16) a bed line plot hpa s
  | .memData port ld dpa data poison => memDataOp port ld dpa data poison s
  | .writeCmp port ld dpa => writeCmpOp port ld dpa s
  | .barrow k r => barrowAnswer k r s
  | .io port t => if dst = xbarBridge then bridgeTakes port t s else barrowTakes port t s

/-- A cell whose tail status is good is taken in (R181). -/
def deliverCell (c : SwCell) (s : State) : State := forEach c.items (deliverItem c.dst) s

/-- A message of a cell marked poisoned (R196). -/
def msgPoisoned (m : Msg) : Msg := { m with poison := true, tlp := m.tlp.map (fun t => { t with status := .poisoned }) }

/-- A TLP for the bridge or the Barrow marked poisoned (R196). DESIGN CHOICE (log 73): a poisoned write or message has no effect there. -/
def ioPoisoned (t : IoIn) : IoIn :=
  match t with
  | .completion slot _ data => .completion slot .poisoned data
  | .hostCompletion k _ data => .hostCompletion k .poisoned data
  | .barRead address length requester tag => .barRead address length requester tag
  | _ => .poisoned

/-- A message towards a home, the Barrow or the bridge marked poisoned (R196), where it carries data. -/
def HomeMsg.poisoned : HomeMsg → Option HomeMsg
  | .txn t => if t.cls.isWrite then some (.txn { t with poison := true }) else none
  | .memData port ld dpa data _ => some (.memData port ld dpa data true)
  | .barrow k m => if msgHasData m then some (.barrow k (msgPoisoned m)) else none
  | .io port t => some (.io port (ioPoisoned t))
  | _ => none

/-- The message into whose bytes a byte of a payload falls. -/
def messageAt (off : Nat) : List Nat → Option Nat
  | [] => none
  | n :: rest => if off < n then some 0 else (messageAt (off - n) rest).map (· + 1)

/-- The message of a trunk cell's payload into which a word from a byte on falls (R289); none where it touches a message header. -/
def trunkMessageAt (off : Nat) : List Nat → Option Nat
  | [] => none
  | n :: rest =>
    if off < 12 then none
    else if off + 8 ≤ 12 + n ∨ (off < 12 + n ∧ rest.isEmpty) then some 0
    else if off < 12 + n then none
    else (trunkMessageAt (off - (12 + n)) rest).map (· + 1)

/-- A cell with one of its messages marked poisoned (R196); none where that carries no data. -/
def SwCell.poisonAt (c : SwCell) (k : Nat) : Option SwCell :=
  match c.items[k]?, c.msgs[k]? with
  | some m, _ => (m.poisoned).map (fun n => { c with items := c.items.set k n })
  | none, some m =>
    if msgHasData m then
      let mark (t : TrunkMsg) : TrunkMsg := { t with msg := msgPoisoned t.msg }
      some { c with msgs := c.msgs.set k (msgPoisoned m), trunk := if k = 0 then c.trunk.map mark else c.trunk,
                    also := if k = 0 then c.also else c.also.modify (k - 1) mark }
    else none
  | none, none => none

/-- The cell brings its message or its TLP; an earlier cell of a TLP brings nothing yet (R163). -/
def SwCell.ends (c : SwCell) : Bool := !(c.msgs.isEmpty && c.items.isEmpty)

/-- A double-bit error falls into one word of a cell (R196; log 73): words 0 to 2 hold its header, and its messages follow, on a trunk after
their 12-byte header. It poisons the data message that it falls into; none where it falls into anything else. A TLP's own header is the first
two words of its first cell. -/
def SwCell.strike (c : SwCell) (i : Nat) : Option SwCell :=
  if i < 3 then none
  else if c.cls = clsIo then
    if c.part = 0 ∧ i < 5 then none else if c.ends then c.poisonAt 0 else some c
  else if c.trunk.isSome then (trunkMessageAt (8 * (i - 3)) (c.msgs.map Msg.bytes)).bind c.poisonAt
  else (messageAt (8 * (i - 3)) (if c.items.isEmpty then c.msgs.map Msg.bytes else c.items.map HomeMsg.bytes)).bind c.poisonAt

/-- The words of a cell that hold an uncorrectable error (R196, R575). -/
def SwCell.badWords (c : SwCell) : List Nat :=
  (List.range c.flips.length).filter (fun i => (eccCheck ((c.flips[i]?).getD 0)).isNone)

/-- A cell is read out of its memory, word by word (R196, R575): none where it cannot be trusted. -/
def SwCell.read (c : SwCell) : Option SwCell :=
  c.badWords.foldl (fun (r : Option SwCell) i => r.bind (fun d => d.strike i)) (some { c with flips := [] })

/-- A cell that cannot be trusted is discarded (R196): CELL_UNCORRECTABLE, its event, and viral on every upstream port. A home slice's cell raises
the slice's own event, and one of the Barrow or the bridge none (log 73). -/
def discardCell (c : SwCell) (s : State) : State :=
  let s1 := logFault 0x16 c.src c.src c.dst c.cls.toNat 0 0 s
  signalViral (s.portsWhere (·.upstream)) (if c.src < 24 then raise (192 + c.src) s1 else s1)

/-- The rest of a cell's TLP behind it in some cells (R163, R196): its last cell is changed by `f`, and where that leaves none the cells
between go with it. Answers whether the last cell was among them. -/
def restOfTlp (c : SwCell) (f : SwCell → Option SwCell) : List SwCell → Bool × List SwCell
  | [] => (false, [])
  | d :: rest =>
    if sameQueue c d && c.ioSub == d.ioSub && c.flitTag == d.flitTag && decide (c.part < d.part) then
      if d.ends then (true, (f d).toList ++ rest)
      else
        let r := restOfTlp c f rest
        (r.1, (if r.1 && (f c).isNone then [] else [d]) ++ r.2)
    else let r := restOfTlp c f rest; (r.1, d :: r.2)

/-- What an error in an earlier cell of a TLP does to the TLP (R196): its data message is poisoned, or it goes as a whole. -/
def tlpStruck (c : SwCell) (gone : Bool) (s : State) : State :=
  let f (d : SwCell) : Option SwCell := if gone then none else if d.ends then d.poisonAt 0 else some d
  let a := restOfTlp c f s.switch.staging
  let b := if a.1 then (true, s.switch.voq) else restOfTlp c f s.switch.voq
  let e := if b.1 then (true, s.switch.formed) else restOfTlp c f s.switch.formed
  s.modSwitch (fun w => { w with staging := a.2, voq := b.2, formed := e.2 })

/-- A cell is taken out of queue memory or staging (R196): poisoned or discarded where its words say so, with the TLP it belongs to. -/
def takeCell (c0 : SwCell) (s : State) : Option SwCell × State :=
  match c0.read with
  | none => (none, discardCell c0 (if c0.ends then s else tlpStruck c0 true s))
  | some c => (some c, if c0.ends || c0.badWords.isEmpty then s else tlpStruck c0 false s)

/-- A matched cell crosses (R172, R174, R180, R532): to its egress's staging, into a home slice or the Barrow, or to that block's input
where its tail status is not known yet. Its memory is read as it stands then (R196), and frees room for its source (R167). -/
def traverse (heads : List SwCell) (m : Match) (s : State) : State :=
  match (chosenCell s.switch heads m).bind (fun h => s.switch.voq.find? (fun d => d.order == h.order)) with
  | none => s
  | some c0 =>
    let s1 := s.modSwitch (fun w => { w with
      voq := w.voq.filter (fun d => d.order != c0.order),
      queuePtr := Tab.set w.queuePtr 0 ((m.1 * 26 + m.2.1) * 4 + m.2.2) ((queuePlace c0 + 1) % 24) })
    let r := takeCell c0 s1
    let s2 := match r.1 with
      | none => r.2
      | some c =>
        let t := trace c.dst c.image (trace c.src c.image r.2)
        if c.dst < 16 then t.modSwitch (fun w => { w with staging := w.staging ++ [c] })
        else if c.known then deliverCell c t
        else t.modSwitch (fun w => { w with inbox := w.inbox ++ [c] })
    if 16 ≤ c0.src ∧ c0.src < 24 then settle (c0.src - 16) s2 else if c0.src < 16 then settleAll s2 else s2

/-- Beats in which an eligible head's output was matched to a higher class (R176, R523). -/
def countBlocked (heads : List SwCell) (l : List Match) (s : State) : State :=
  forEach (List.range 16) (fun i t => forEach (List.range 4) (fun k u =>
    if heads.any (fun c => c.src == i && c.cls.toNat == k && l.any (fun m => m.2.1 == c.dst && decide (m.2.2 < k))) then
      count i (0x10 + k) 1 u
    else u) t) s

/-- The cell that a CXL or PCIe port places next (R172): of the highest class, the oldest. -/
def State.nextOut (s : State) (port : Nat) : Option SwCell :=
  ((List.range 4).filterMap (fun k => s.switch.staging.find? (fun c => c.dst == port / 8 && c.egress == port && c.cls.toNat == k))).head?

/-- The cells of the egress flit that a CXL or PCIe port assembles (R179). -/
def State.assembling (s : State) (port : Nat) : List SwCell := s.switch.holding.filter (fun c => c.dst == port / 8 && c.egress == port)

/-- The egress flit is sealed and leaves the device's pins, once every cell in it has stood its beat with good status (R179). -/
def sealFlit (port : Nat) (s : State) : State :=
  let l := s.assembling port
  if l.isEmpty ∨ l.any (fun c => !c.known || decide (s.time.beats ≤ c.placed)) then s
  else
    flitOut port (l.foldl (fun n c => n + c.length.toNat) 0) ((s.modSwitch (fun w => { w with
      holding := w.holding.filter (fun c => !(c.dst == port / 8 && c.egress == port)), sent := l.reverse ++ w.sent })).modPort port
        (fun x => { x with lastTx := s.tick }))

/-- The next staged cell is placed in the egress flit, where it fits (R163, R179). -/
def placeCell (port : Nat) (s : State) : State :=
  match s.nextOut port with
  | none => s
  | some c =>
    if 236 < (s.assembling port).foldl (fun n d => n + d.length.toNat) c.length.toNat then s
    else
      let r := takeCell c (s.modSwitch (fun w => { w with staging := w.staging.filter (fun d => d.order != c.order) }))
      match r.1 with
      | some d => r.2.modSwitch (fun w => { w with holding := w.holding ++ [{ d with placed := s.time.beats }] })
      | none => r.2

/-- A CXL or PCIe port's egress in one beat (R179). -/
def sendOut (port : Nat) (s : State) : State :=
  let p := s.port port
  if p.isTrunk ∨ p.ltssm ≠ .L0 ∨ p.l0sTx then s else placeCell port (sealFlit port s)

/-- The next staged cell of a VC goes out in a first transmission, if it can be read (R196, R268). -/
def sendCell (st vc : Nat) (c : SwCell) (s : State) : State :=
  let r := takeCell c (s.modSwitch (fun w => { w with staging := w.staging.filter (fun d => d.order != c.order) }))
  match r.1 with
  | some d => sendFlit st vc (.cells (d.trunk.toList ++ d.also)) (if d.known then none else some (d.src, d.flitTag)) r.2
  | none => r.2

/-- The first transmission that holds a credit goes out on a trunk, by VC in the order given (R268, R278, R280). Answers whether there was
one. -/
def sendFirst (st : Nat) : List Nat → State → Bool × State
  | [], s => (false, s)
  | vc :: rest, s =>
    if !s.flitWaits st vc then sendFirst st rest s
    else if s.maySend st vc then
      (true, match s.nextOnVc st vc with
        | some c => if vc = 0 then sendRecord st s else sendCell st vc c s
        | none => sendRecord st s)
    else sendFirst st rest s

/-- The control-class VCs on which a flit waits for a first transmission without a credit (R280), whatever leaves ahead of it. -/
def noteStalls (st : Nat) (s : State) : State := forEach [0, 2, 3, 4] (fun vc t => noteStall st vc (t.flitWaits st vc) t) s

/-- What a trunk sends in a flit slot (R263, R268): the first item it has, or a NULL; in a speed step a TRAIN. -/
def trunkSlot (st : Nat) (s0 : State) : State :=
  let s := noteStalls st s0
  match s.nextControl st with
  | some c => emitControl st c s
  | none =>
    if (s.trunk st).state = .step then emitNull st s
    else if (s.trunk st).state ≠ .up then s
    else match (if s.trunkOpen st then (s.trunk st).nextReplay else none) with
      | some f => sendReplay st f s
      | none =>
        let r := sendFirst st [0, 2, 3, 4, 6, 5, 7] s
        if r.1 then r.2 else emitNull st r.2

/-- A pause that a flit with pause asked for begins in this beat (R282). -/
def State.pauseNow (s : State) (st : Nat) : Bool :=
  decide ((s.trunk st).state = .up) && (match (s.trunk st).pauseBeat with | some p => decide (p ≤ s.time.beats) | none => false)

/-- A trunk's beat (R268, R272, R274, R282): held flits and VC buffers move on, a pause begins, lane idle ends, and a flit slot that comes
in this beat is used. -/
def trunkBeat (st : Nat) (s0 : State) : State :=
  let s1 := drainTrunk st (releaseFour st s0)
  let s := idleStep st (if s1.pauseNow st then pauseTrunk st s1 else s1)
  let t := s.trunk st
  if decide (t.state = .step ∨ t.state = .init ∨ t.state = .up ∨ t.state = .retrain) && !t.idle && t.slotNow s.time.beats then trunkSlot st s else s

/-- CELL_MATCH (R170 to R176): the matches of a beat, the cells that cross, and what leaves each egress. -/
def cellMatchOp (s0 : State) : State :=
  let s := (sendReturns s0).modSwitch (fun w => { w with matched := 1 + s0.time.beats })
  let heads := s.eligible
  let m := matchBeat s.switch heads
  let s1 := countBlocked heads m.1 (s.setSwitch m.2)
  let out := (((s1.switch.staging ++ s1.switch.holding).map (·.egress)).dedup)
  let s2 := forEach out sendOut s1
  let s3 := forEach ((s2.trunks.trunk.map (·.1))) trunkBeat s2
  fillQueues (forEach m.1 (traverse heads) s3)

/-- Meaning of CELL_MATCH: the switch core matches once in each beat (R162). -/
def execCellMatch (s : State) : Out := whenWf s (true) (onlyIf (s.fabricOn && decide (s.switch.matched ≠ 1 + s.time.beats)) cellMatchOp s)

/-- Change what waits at the ingress of a station for a flit's tail status (R178, R190): messages that wait for a credit, and held requests. -/
def modIngress (f : List Txn → List Txn) (g : List HeldReq → List HeldReq) (s : State) : State :=
  let s1 := forEach (List.range 8) (fun sl t => t.modSlice sl (fun x => { x with waiting := f x.waiting })) s
  s1.modSwitch (fun w => { w with qos := w.qos.map (fun q => (q.1, { q.2 with readHeld := g q.2.readHeld, writeHeld := g q.2.writeHeld })) })

/-- A cell of a flit whose tail status was not known. -/
def SwCell.ofFlit (c : SwCell) (station : Nat) (tag : BitVec 12) : Bool := c.src == station && c.flitTag == tag && !c.known

/-- A message that waits for a credit, of a flit whose tail status was not known. -/
def Txn.ofFlit (t : Txn) (station : Nat) (tag : BitVec 12) : Bool := t.ingress == station && t.flit == tag && !t.known

/-- A held request, of a flit whose tail status was not known. -/
def HeldReq.ofFlit (r : HeldReq) (station : Nat) (tag : BitVec 12) : Bool := r.port / 8 == station && r.flit == tag && !r.known

/-- A good tail status reaches the cells of a flit (R178): those at the input of a home slice or the Barrow are taken in (R181). -/
def tailGood (station : Nat) (tag : BitVec 12) (s : State) : State :=
  let mine (c : SwCell) : Bool := c.ofFlit station tag
  let good (c : SwCell) : SwCell := { c with known := true }
  let come := s.switch.inbox.filter mine
  let s1 := s.modSwitch (fun w => { w with
    voq := mapIf mine good w.voq, formed := mapIf mine good w.formed, staging := mapIf mine good w.staging, holding := mapIf mine good w.holding,
    inbox := w.inbox.filter (fun c => !mine c) })
  let s2 := modIngress (mapIf (fun t => t.ofFlit station tag) (fun t => { t with known := true }))
    (mapIf (fun r => r.ofFlit station tag) (fun r => { r with known := true })) s1
  let s3 := s2.modTrunks (fun x => { x with trunk := x.trunk.map (fun e => (e.1, { e.2 with
    replay := mapIf (fun f => decide (f.origin = some (station, tag))) (fun f => { f with origin := none }) e.2.replay })) })
  let s4 := s3.modPorts (fun p => { p with port := p.port.map (fun e => (e.1, { e.2 with
    ldOpen := mapIf (fun o => decide (o.flit = some (station, tag))) (fun o => { o with flit := none })
      (e.2.ldOpen.filter (fun o => decide (o.answer ≠ some (station, tag)))) })) })
  forEach come deliverCell s4

/-- The admission slot of a request whose cell is removed at a slice's input stays spent (R115, R180). -/
def spendSlot (c : SwCell) (s : State) : State :=
  forEach c.items (fun m t => match m with
    | .txn u => if u.cls.isWrite ∨ c.dst < 16 then t else t.modSlice (c.dst - 16) (fun x => { x with rotation := u.position })
    | _ => t) s

/-- The last transmission of a flit left with its CRC-64 inverted (R269). -/
def invertLast (q : BitVec 12) : List SentFlit → List SentFlit
  | [] => []
  | f :: rest => if f.typ = 1 ∧ f.header.seq = q then { f with inverted := true } :: rest else f :: invertLast q rest

/-- A bad tail status removes every cell of a flit wherever it stands (R180, R269): a trunk flit that has its sequence number is stomped. The
ingress port asks its sender to send the flit again, and an access of a bound LD that the flit answered is open again (R181). A stomped flit leaves with its CRC-64 inverted, or already has. -/
def tailBad (station : Nat) (tag : BitVec 12) (s : State) : State :=
  let keep (c : SwCell) : Bool := !c.ofFlit station tag
  let s1 := forEach (s.switch.inbox.filter (fun c => !keep c)) spendSlot (s.modSwitch (fun w => { w with
    voq := w.voq.filter keep, formed := w.formed.filter keep, staging := w.staging.filter keep, holding := w.holding.filter keep, inbox := w.inbox.filter keep }))
  let s2 := modIngress (fun l => l.filter (fun t => !t.ofFlit station tag)) (fun l => l.filter (fun r => !r.ofFlit station tag)) s1
  let s3 := s2.modPorts (fun p => { p with port := p.port.map (fun e => (e.1, { e.2 with
    ldOpen := mapIf (fun o => decide (o.answer = some (station, tag))) (fun o => { o with answer := none })
      (e.2.ldOpen.filter (fun o => decide (o.flit ≠ some (station, tag)))) })) })
  let mine (f : Flit) : Bool := decide (f.origin = some (station, tag))
  let s4 := forEach (s3.trunks.trunk.filter (fun e => e.2.replay.any mine)) (fun e t =>
    countPort (t.trunkPort e.1) 0x0A 1 (t.modTrunk e.1 (fun x => { x with
      replay := mapIf mine (fun f => { f with stomp := true, origin := none }) x.replay,
      sent := (x.replay.filter mine).foldl (fun l f => invertLast f.seq l) x.sent }))) s3
  let port := (Tab.find s.switch.flitPort (4096 * station + tag.toNat)).getD (8 * station)
  let s5 := portCount port 5 1 (portCount port 4 1 (s4.modPort port (fun p => { p with retryAsked := tag :: p.retryAsked })))
  settleAll (countPort port 0x04 1 (countPort port 0x03 1 s5))

/-- Meaning of TAIL_STATUS. -/
def execTailStatus (station : Nat) (flitTag : BitVec 12) (good : Bool) (s : State) : Out :=
  whenWf s (decide (station < 16)) (onlyIf s.fabricOn (if good then tailGood station flitTag else tailBad station flitTag) s)

/-- Balances at most at their limit, cap × burst (R189); a balance without a cap reads 0 (R191). -/
def Qos.clamped (q : Qos) : Qos :=
  { q with readBal := BitVec.ofNat 20 (min q.readBal.toNat (q.readCap.toNat * q.burst.toNat)),
           writeBal := BitVec.ofNat 20 (min q.writeBal.toNat (q.writeCap.toNat * q.burst.toNat)) }

/-- A change of PLOT_SET_QOS takes effect (R189), then the refill (R191). -/
def Qos.refill (q : Qos) (tick beat : Nat) : Qos :=
  let a := match q.pending with
    | some (r, w, b, g) =>
      { q with readCap := BitVec.ofNat 16 r, writeCap := BitVec.ofNat 16 w, burst := BitVec.ofNat 4 b, weight := BitVec.ofNat 8 g, pending := none }
    | none => q
  let c := a.clamped
  { c with readBal := BitVec.ofNat 20 (min (c.readBal.toNat + c.readCap.toNat) (c.readCap.toNat * c.burst.toNat)),
           writeBal := BitVec.ofNat 20 (min (c.writeBal.toNat + c.writeCap.toNat) (c.writeCap.toNat * c.burst.toNat)),
           replenished := tick + 1, refillBeat := 1 + beat }

/-- QOS_REPLENISH (R189, R191). -/
def replenish (p : Nat) (s : State) : State := s.modQos p (fun q => q.refill s.tick s.time.beats)

/-- The plots that the eight banks replenish in this beat (R191): bank b holds plots 64·b to 64·b + 63, and plot p has beat p % 64 of a
tick; one that QOS_REPLENISH has replenished in this tick is not among them. -/
def State.replenishDue (s : State) : List Nat :=
  ((List.range 8).map (fun b => 64 * b + s.now.toNat % 1024)).filter (fun p =>
    decide (s.now.toNat % 1024 < 64 ∧ (s.qos p).replenished ≠ s.tick + 1) && (Tab.find s.switch.qos p).isSome)

/-- The head of one of a plot's hold queues, where it may leave through a port in this beat (R190). -/
def State.releasable (s : State) (port p : Nat) (write : Bool) : Option HeldReq :=
  let q := s.qos p
  match (if write then q.writeHeld else q.readHeld) with
  | r :: _ => if r.port = port ∧ q.covers r.charge ∧ q.refillBeat ≠ 1 + s.time.beats then some r else none
  | [] => none

/-- A held request leaves its queue (R190); a device that has become a SHADOW answers it as in step 1 of R69 (R297). -/
def leaveHold (p : Nat) (write : Bool) (r : HeldReq) (s : State) : State :=
  (if s.serving then submit r false else refuseStepOne r p true) (s.modQos p (fun x =>
    let y := x.draw r.charge
    if write then { y with writeHeld := y.writeHeld.drop 1 } else { y with readHeld := y.readHeld.drop 1 }))

/-- Held requests of a port leave in order, at most `n` (R190). DESIGN CHOICE (log 62): among the plots of one port the lowest plot's go
first, its read queue before its write queue. -/
def releasePort (port : Nat) : Nat → State → State
  | 0, s => s
  | n + 1, s =>
    let held := (s.switch.qos.filter (fun e => !e.2.readHeld.isEmpty || !e.2.writeHeld.isEmpty)).map (·.1)
    match (held.flatMap (fun p => [(p, false), (p, true)])).find? (fun x => (s.releasable port x.1 x.2).isSome) with
    | none => s
    | some x =>
      match s.releasable port x.1 x.2 with
      | some r => releasePort port n (leaveHold x.1 x.2 r s)
      | none => s

/-- Ports at which requests are held (R190). -/
def State.heldPorts (s : State) : List Nat :=
  (s.switch.qos.flatMap (fun e => (e.2.readHeld ++ e.2.writeHeld).map (·.port))).dedup

/-- The hold queues and the QoS banks in one beat (R190, R191): requests funded by earlier refills leave, at most two a port; the refill of
this beat's plots follows. -/
def qosBeat (s : State) : State :=
  let s1 := forEach s.heldPorts (fun port t => releasePort port 2 t) s
  forEach s1.replenishDue replenish s1

end Sys2Proof.Machine
end

