-- ==== Sys2Proof/Machine/PortCmd.lean ====
section
/-! DEFINITION. Teller commands of ports, lanes and trunks (R393, R394): group 0x04. -/

namespace Sys2Proof.Machine

/-- Whether a slot channel counts as powered (R206, R519): in every state but EMPTY, LATCHED, OFF and ISOLATED. -/
def ChCopy.powered (x : ChCopy) : Bool := decide (bitsOf x.stateReg 23 20 ∉ [0, 7, 8, 9])

/-- The entry that PORT_SET_ROLE gives a port (R205): the fields that PORT_SET_LINK sets stay. -/
def PortEntry.roleFrom (old new : PortEntry) : PortEntry :=
  { new with l0p := old.l0p, cxl128 := old.cxl128, maxRate := old.maxRate }

/-- The eight entries of a station's new layout (R393). -/
def layoutOf (c : Command) (s : State) : List PortEntry :=
  (List.range 8).map (fun i => (s.port (8 * c.blk 0 1 + i)).entry.roleFrom (portEntryOf (c.blk (8 + 8 * i) 8)))

/-- The indices that a port takes (R3). -/
def PortEntry.indices (e : PortEntry) : Nat := 2 ^ e.width.toNat

/-- A station's layout keeps R3, R204 and R205: alignment, of DISABLED ports too; ports that do not overlap, with zeros inside a wider port; a trunk alone,
and no narrower than x4 (R260). -/
def layoutGood (l : List PortEntry) (zero : Nat → Bool) : Bool :=
  let e (i : Nat) : PortEntry := (l[i]?).getD {}
  (List.range 8).all (fun i =>
    let x := e i
    decide (x.role.toNat ≤ 3 ∧ x.slot.toNat < 48) && (!x.slotValid || x.role == 2) && (!x.ideRequired || x.role == 1) &&
      decide (i % x.indices = 0) && (List.range 8).all (fun j => !decide (i < j ∧ j < i + x.indices) || zero j) &&
      (x.role != 3 || (decide (x.width ≠ 0) && (List.range 8).all (fun j => decide (j = i) || (e j).role == 0))))

/-- Ports of a role once a station has a new layout (R204). -/
def State.roleCount (s : State) (st : Nat) (l : List PortEntry) (role : BitVec 3) : Nat :=
  (s.ports.port.filter (fun e => decide (e.1 / 8 ≠ st) && e.2.entry.role == role)).length + (l.filter (fun e => e.role == role)).length

/-- A port cannot change its layout (R206): a plot, a bound LD, an extent entry or a powered slot is left. -/
def State.portInUse (s : State) (port : Nat) : Bool :=
  !(s.plotsWhere (fun p => decide (p.port.toNat = port ∧ p.state ≠ .free))).isEmpty ||
  s.ports.vppb.any (fun e => e.2.bound.isSome && decide (e.1 / 17 = port)) || !(s.boundVppbs port none).isEmpty ||
  s.pool.extents.any (fun e => decide (e.2.state ≠ .free ∧ e.2.place.port.toNat = port)) ||
  ((s.port port).entry.slotValid && (s.chCopy (s.port port).entry.slot.toNat).powered)

/-- A trunk ends because its port takes another role (R206): its routes lead nowhere (R286). -/
def endTrunk (st : Nat) (s : State) : State :=
  let s1 := (trunkDown st s).modTrunks (fun x => { x with
    route := x.route.map (fun e => if e.2.station.toNat = st then (e.1, { e.2 with reachable := false }) else e) })
  finishJob (.trunk st) stAborted [] (loseUnreachable s1)

/-- A port's link leaves L0 (R206, R250), with the state it is left in. -/
def portLeavesL0 (port : Nat) (s : State) : State :=
  let p := s.port port
  if p.isTrunk then (if (s.trunk (port / 8)).state ∈ [TrunkState.hello, .step, .init, .up, .retrain] then endTrunk (port / 8) s else s)
  else if !p.inL0 then s
  else if p.upstream then upstreamDown port false s
  else if p.downstream then downstreamDown port .detect s else s

/-- One port of a station takes its new entry (R206, R531): a changed one leaves L0 first, and trains again in its new layout, a Disabled one
too. -/
def setPortRole (port : Nat) (e : PortEntry) (s : State) : State :=
  let old := (s.port port).entry
  let changed := decide (e.role ≠ old.role ∨ e.width ≠ old.width)
  let s1 := if e ≠ old then portLeavesL0 port s else s
  let s2 := s1.modPort port (fun p =>
    let q := p.withEntry e false
    if e ≠ old ∧ q.ltssm = .disabled then { q with ltssm := .detect } else q)
  let s3 := s2.setRecords { s2.records with ports := Tab.set s2.records.ports {} port e }
  let s4 := if changed then clearLive (portStat port 0) 16 s3 else s3
  if changed && e.role == 3 then startHello (port / 8) s4 else s4

/-- PORT_SET_ROLE at commit (R204, R206, R393). -/
def runPortSetRole (c : Command) (s : State) : Ran :=
  let st := c.blk 0 1
  let l := layoutOf c s
  let changed := (List.range 8).filter (fun i =>
    decide (((l[i]?).getD {}).role ≠ (s.port (8 * st + i)).entry.role ∨ ((l[i]?).getD {}).width ≠ (s.port (8 * st + i)).entry.width))
  checks [(decide (15 < st) || !layoutGood l (fun i => c.blk (8 + 8 * i) 8 == 0), stInvalidParam),
          (decide (64 < s.roleCount st l 1 ∨ 96 < s.roleCount st l 2), stNoResource),
          (changed.any (fun i => s.portInUse (8 * st + i)), stBusy)] s
    (fun s => done (forEach (List.range 8) (fun i t => setPortRole (8 * st + i) ((l[i]?).getD {}) t) s))

/-- A port of a SHADOW takes the entry of a CONFIG record (R206, R229, R302): a new layout as PORT_SET_ROLE sets it, new link settings by a directed
retrain. -/
def takePortEntry (port : Nat) (e : PortEntry) (s : State) : State :=
  let lay := (s.port port).entry.roleFrom e
  let s1 := if lay ≠ (s.port port).entry then setPortRole port lay s else s
  if e ≠ lay then toRecovery port (s1.modPort port (fun p => p.withEntry e true)) else s1

/-- PORT_SET_LINK (R203, R205, R229): in effect by directed retrain. -/
def runPortSetLink (c : Command) (s : State) : Ran :=
  let port := c.byte 16
  checks [(decide (127 < port ∨ 6 < c.byte 17), stInvalidParam)] s (fun s =>
    done (toRecovery port (s.modPort port (fun p => p.withEntry
      { p.entry with maxRate := BitVec.ofNat 3 (c.byte 17), cxl128 := decide (c.byte 18 % 2 = 1), l0p := decide (c.byte 18 / 2 % 2 = 1) } true))))

/-- PORT_RETRAIN (R207, R229): a link in L0 goes through Recovery; a Disabled one trains from Detect. -/
def runPortRetrain (c : Command) (s : State) : Ran :=
  let port := c.byte 16
  checks [(decide (127 < port), stInvalidParam)] s (fun s =>
    done (toRecovery port (s.modPort port (fun p => { p with ltssm := if p.ltssm = .disabled then .detect else p.ltssm }))))

/-- PORT_READ (R393). -/
def runPortRead (c : Command) (s : State) : Ran :=
  let port := c.byte 16
  checks [(decide (127 < port), stInvalidParam)] s (fun s => doneWith (bytesOf 8 64 (BitVec.ofNat 64 (s.port port).entry.image)) s)

/-- The code of a link state (R228). -/
def ltssmCode : Ltssm → Nat
  | .detect => 0
  | .polling => 1
  | .configuration => 2
  | .L0 => 3
  | .recovery => 4
  | .L0s => 5
  | .disabled => 6
  | .hotReset => 7
  | .loopback => 8

/-- The result of PORT_STATUS (R228). -/
def Port.status (p : Port) : Nat :=
  fieldAt p.downCount.toNat 96 + fieldAt p.ldMask.toNat 80 + fieldAt p.partner.toNat 68 + fieldAt (bit p.dcd) 67 +
  fieldAt (bit p.mhd) 66 + fieldAt (bit p.partnerBi) 65 + fieldAt (bit p.lost) 64 + fieldAt p.ide.toNat 48 +
  fieldAt p.l0pWidth.toNat 44 + fieldAt p.width.toNat 40 + fieldAt p.rate.toNat 36 + fieldAt (bit p.flit) 35 +
  fieldAt (bit p.cxl) 34 + fieldAt (bit p.active128) 33 + ltssmCode p.ltssm

/-- The port as PORT_STATUS shows it (R228): the link of a port of role TRUNK is its trunk's. DESIGN CHOICE (log 98): a trunk in HELLO shows
Polling, in STEP and INIT Configuration, in UP L0, in RETRAIN Recovery, and Detect otherwise. -/
def State.shownPort (s : State) (port : Nat) : Port :=
  let p := s.port port
  let t := s.trunk (port / 8)
  let on := decide (t.state = .up ∨ t.state = .retrain)
  if !p.isTrunk then p else
  { p with
    ltssm := match t.state with
      | .hello => .polling
      | .step => .configuration
      | .init => .configuration
      | .up => .L0
      | .retrain => .recovery
      | _ => .detect
    width := if on then 3 + t.width.setWidth 4 else 0, rate := if on then 4 + t.rate.setWidth 3 else 0, partner := if on then 5 else 0 }

/-- PORT_STATUS (R228). -/
def runPortStatus (c : Command) (s : State) : Ran :=
  let port := c.byte 16
  checks [(decide (127 < port), stInvalidParam)] s (fun s => doneWith (bytesOf 16 128 (BitVec.ofNat 128 (s.shownPort port).status)) s)

/-- Why a port's device cannot be removed (R223): an extent in use, at it or on its way to it (R341), or an LD bound directly. -/
def State.removalBusy (s : State) (port : Nat) : Bool :=
  s.pool.extents.any (fun e => decide ((e.2.place.port.toNat = port ∧ (e.2.state = .bound ∨ e.2.state = .migrating ∨ e.2.state = .zeroing)) ∨
    (e.2.state = .migrating ∧ e.2.mig.port.toNat = port))) ||
  !(s.boundVppbs port none).isEmpty

/-- The removal's steps (R223): PERST#, link Disabled, slot off; DEFINED extents lose zeroed. -/
def removePort (port : Nat) (s : State) : State :=
  let p := s.port port
  let s1 := if p.entry.slotValid then drivePerst p.entry.slot.toNat s else s
  let s2 := if p.inL0 then downstreamDown port .disabled s1 else s1.modPort port (fun q => { q with ltssm := .disabled })
  let l := (s2.pool.extents.filter (fun e => decide (e.2.place.port.toNat = port ∧ e.2.state = .defined))).map (·.1)
  let s3 := forEach l (fun i t => t.modExtent i (fun e => { e with zeroed := false })) s2
  if p.entry.slotValid then pushFrames [writeFrame p.entry.slot.toNat 3 2] s3 else s3

/-- PORT_PREPARE_REMOVAL (R223, R394): the final receipt waits for the slot channel to be off. -/
def runPortPrepareRemoval (c : Command) (s : State) : Ran :=
  let port := c.byte 16
  let p := s.port port
  checks [(decide (127 < port) || !p.downstream, stInvalidParam), (s.removalBusy port, stBusy)] s (fun s =>
    let s1 := removePort port s
    queuedFor (.removal port) (if p.entry.slotValid && (s.chCopy p.entry.slot.toNat).powered then s1 else finishJob (.removal port) stDone [] s1))

/-- What PORT_STATUS.ide shows for some installed key sets (R217, R228): secure once CXL.cachemem has both directions of one set. -/
def ideCode (keys : Tab (BitVec 352)) : BitVec 4 :=
  let has (k : Nat) : Bool := (Tab.find keys k).isSome
  if (has 4 && has 5) || (has 6 && has 7) then 2 else 1

/-- PORT_SET_IDE_KEY (R217, R393). -/
def runPortSetIdeKey (c : Command) (s : State) : Ran :=
  let port := c.blk 0 1
  checks [(decide (127 < port ∨ 1 < c.blk 1 1 ∨ 1 < c.blk 2 1 ∨ 1 < c.blk 3 1) || !(s.port port).upstream, stInvalidParam)] s (fun s =>
    let k := 4 * c.blk 1 1 + 2 * c.blk 2 1 + c.blk 3 1
    done (s.modPort port (fun p =>
      let store := Tab.put p.ideStore k (BitVec.ofNat 352 (c.blk 8 44))
      { p with ideStore := store, ide := ideCode store })))

/-- PORT_BIND_LD at commit (R89, R90, R210, R394). -/
def runPortBindLd (c : Command) (s : State) : Ran :=
  let d := c.byte 16
  let ld := c.byte 17
  let u := c.byte 18
  let v := c.byte 19
  checks [(decide (127 < d ∨ 127 < u ∨ (15 < ld ∧ ld ≠ 0xFF) ∨ v < 8 ∨ 15 < v) || !(s.port d).downstream || !(s.port u).upstream, stInvalidParam),
          (s.pool.extents.any (fun e => decide (e.2.state ≠ .free ∧ e.2.place.port.toNat = d ∧ (ld = 0xFF ∨ e.2.place.ld.toNat = ld))),
            stNoResource),
          ((s.vppb u v).bound.isSome, stBusy)] s (fun s =>
    let s1 := (s.modVppb u v (fun x => { x with bound := some (d, ld) })).modPort d (fun p =>
      { p with decoder0 := if ld = 0xFF then [] else Tab.drop p.decoder0 ld })
    done (if (s.port d).inL0 then showDevice u v true s1 else s1))

/-- An LD that is no longer bound may provide extents again: its decoder 0 is programmed as at discovery (R213). -/
def giveDecoders (b : Option (Nat × Nat)) (s : State) : State :=
  match b with
  | none => s
  | some (d, ld) => s.modPort d (fun p => { p with
      decoder0 := (p.capacities.filter (fun c => ld = 0xFF ∨ c.1 = ld)).foldl (fun t c => Tab.put t c.1 { size := c.2 }) p.decoder0 })

/-- PORT_UNBIND_LD at commit (R210, R394). -/
def runPortUnbindLd (c : Command) (s : State) : Ran :=
  let u := c.byte 16
  let v := c.byte 17
  checks [(decide (127 < u ∨ v < 8 ∨ 15 < v) || !(s.port u).upstream || (s.vppb u v).bound.isNone, stInvalidParam)] s (fun s =>
    let s1 := giveDecoders (s.vppb u v).bound (s.modVppb u v (fun x => { x with bound := none }))
    done (if (s.vppb u v).presence then showDevice u v false s1 else s1))

/-- PORT_SET_LOAD_THRESHOLDS (R182, R187). -/
def runPortSetLoadThresholds (c : Command) (s : State) : Ran :=
  let t1 := c.num 18 2
  let t2 := c.num 20 2
  let t3 := c.num 22 2
  checks [(decide (¬ (1 ≤ t1 ∧ t1 < t2 ∧ t2 < t3 ∧ t3 ≤ 4095)), stInvalidParam)] s (fun s =>
    done (forEach ((List.range 128).filter (fun p => (c.num 24 16).testBit p))
      (fun p t => t.modPort p (fun x => { x with t1 := t1, t2 := t2, t3 := t3 })) s))

/-- A lane entry as LANE_READ reports it (R256). -/
def Lane.image (l : Lane) : Nat :=
  fieldAt l.nFts.toNat 48 + fieldAt l.txPreset.toNat 40 + fieldAt (bit l.eqBypass) 37 + fieldAt l.polarity.toNat 35 +
  fieldAt l.tidle.toNat 32 + fieldAt l.losDebounce.toNat 24 + fieldAt l.losThresh.toNat 20 + fieldAt l.marginThresh.toNat 16 +
  fieldAt (bit l.wearScan) 15 + fieldAt l.loop.toNat 12 + fieldAt l.prbsGen.toNat 8 + fieldAt l.prbsChk.toNat 4

/-- The fields n_fts to wear_scan of a lane entry image, over a lane (R256): a forced polarity holds at once. -/
def Lane.withImage (l : Lane) (v : BitVec 64) : Lane :=
  let pol := v.extractLsb' 35 2
  { l with nFts := v.extractLsb' 48 8, txPreset := v.extractLsb' 40 4, eqBypass := v.getLsbD 37, polarity := pol,
           tidle := v.extractLsb' 32 3, losDebounce := v.extractLsb' 24 8, losThresh := v.extractLsb' 20 4,
           marginThresh := v.extractLsb' 16 4, wearScan := v.getLsbD 15,
           inverted := if pol = 0 then l.inverted else pol == 2 }

/-- The lanes of a 256-bit mask (R258). -/
def Command.lanes (c : Command) : List Nat := (List.range 256).filter (fun i => (c.num 24 32).testBit i)

/-- LANE_SET (R256, R258): a value outside a field's range is refused, and so are fields that it does not set. -/
def runLaneSet (c : Command) (s : State) : Ran :=
  let v := BitVec.ofNat 64 (c.num 16 8)
  let preset := bitsOf v 43 40
  let tidle := bitsOf v 34 32
  checks [(decide ((10 < preset ∧ preset ≠ 15) ∨ bitsOf v 36 35 = 3 ∨ (4 < tidle ∧ tidle ≠ 7) ∨ bitsOf v 31 24 = 0 ∨
            bitsOf v 19 16 = 0 ∨ bitsOf v 14 0 ≠ 0), stInvalidParam)] s (fun s =>
    done (forEach c.lanes (fun i t => t.modLane i (fun l => l.withImage v)) s))

/-- LANE_READ (R256). -/
def runLaneRead (c : Command) (s : State) : Ran := doneWith (bytesOf 8 64 (BitVec.ofNat 64 (s.lane (c.byte 16)).image)) s

/-- The rate of a lane (R205, R230): its port's, or its trunk's, which in a speed step is the step's (R263). DESIGN CHOICE (log 118): the
code is 0 where the lane is not active, for which the spec gives none. -/
def State.laneRate (s : State) (lane : Nat) : Nat :=
  if !s.laneActive lane then 0
  else match s.portOfLane lane with
    | some p =>
      let t := s.trunk (p / 8)
      if !(s.port p).isTrunk then (s.port p).rate.toNat
      else if t.state = .step then 4 + t.stepRate.toNat else if t.rate = 3 then 0 else 4 + t.rate.toNat
    | none => 0

/-- The number of a lane within its port, after the reversal that a trunk's hellos tell (R236, R257). -/
def State.laneLogical (s : State) (lane : Nat) : Nat :=
  match s.portOfLane lane with
  | some p =>
    let i := laneAt p lane
    if (s.port p).isTrunk then (match Tab.find (s.trunk (p / 8)).accepted lane with | some h => h.lane | none => i) else i
  | none => 0

/-- The coding of a lane (R230, R257): 8b/10b, 128b/130b or PAM4 by its rate. -/
def State.laneCoding (s : State) (lane : Nat) : Nat :=
  if !s.laneActive lane then 0 else if s.laneRate lane ≤ 1 then 1 else if s.laneRate lane ≤ 4 then 2 else 3

/-- The transmit preset in use on a lane (R239, R257): none at 2.5 and 5 GT/s, where the de-emphasis is fixed. DESIGN CHOICE (log 118): none
where the lane is not active, either. -/
def State.lanePreset (s : State) (lane : Nat) : BitVec 4 := if s.laneRate lane ≤ 1 then 0xF else (s.lane lane).preset

/-- The result of LANE_STATUS (R257). -/
def State.laneStatus (s : State) (i : Nat) : Nat :=
  let l := s.lane i
  fieldAt l.losCount.toNat 112 + fieldAt l.lolCount.toNat 96 + fieldAt l.left.toNat 90 + fieldAt l.right.toNat 84 +
  fieldAt l.top.toNat 77 + fieldAt l.bottom.toNat 70 + fieldAt l.marginStatus.toNat 66 + fieldAt l.prbsErrors.toNat 32 +
  fieldAt (bit l.prbsLock) 29 + fieldAt (bit l.losSticky) 28 + fieldAt (bit l.lolSticky) 27 + fieldAt (bit l.los) 26 +
  fieldAt (bit l.lol) 25 + fieldAt (bit l.inverted) 24 + fieldAt (s.lanePreset i).toNat 20 + fieldAt (s.laneRate i) 17 +
  fieldAt (bit (s.laneActive i)) 16 + fieldAt (s.laneLogical i) 8 + s.laneCoding i

/-- LANE_STATUS (R257): the clear flag acts after the result is taken. -/
def runLaneStatus (c : Command) (s : State) : Ran :=
  let i := c.byte 16
  doneWith (bytesOf 16 128 (BitVec.ofNat 128 (s.laneStatus i)))
    (if c.byte 17 % 2 = 1 then s.modLane i (fun l => { l with losSticky := false, lolSticky := false }) else s)

/-- LANE_SET_LOOP (R250): a looped lane leaves its port's link, and the port leaves L0. -/
def runLaneSetLoop (c : Command) (s : State) : Ran :=
  checks [(decide (3 < c.byte 16), stInvalidParam)] s (fun s =>
    done (forEach c.lanes (fun i t =>
      let t1 := t.modLane i (fun l => { l with loop := BitVec.ofNat 3 (c.byte 16) })
      if c.byte 16 = 0 then t1 else match t.portOfLane i with
        | some p => portLeavesL0 p (abortScan i t1)
        | none => t1) s))

/-- LANE_PRBS (R252): the result is the stamp at which the checker started, 0 where none starts. DESIGN CHOICE (log 100): prbs_errors is 0 when a
checker starts. -/
def runLanePrbs (c : Command) (s : State) : Ran :=
  let i := c.byte 16
  let chk := c.byte 18
  checks [(decide (4 < c.byte 17 ∨ 4 < chk), stInvalidParam)] s (fun s =>
    doneWith (bytesOf 8 64 (if chk = 0 then 0 else s.now)) (s.modLane i (fun l =>
      { l with prbsGen := BitVec.ofNat 4 (c.byte 17), prbsChk := BitVec.ofNat 4 chk, prbsLock := false,
               prbsErrors := if chk = 0 then l.prbsErrors else 0 })))

/-- LANE_EYE_SCAN (R253 to R255, R258). -/
def runLaneEyeScan (c : Command) (s : State) : Ran :=
  let i := c.byte 16
  let k := c.byte 17
  let l := s.lane i
  checks [(decide (k < 16 ∨ 30 < k), stInvalidParam), (!s.laneInL0 i, stNotInMode),
          ((l.marginStatus == 3 && !l.scanAuto) || l.scanWaits.isSome || l.margining, stBusy)] s (fun s =>
    queuedFor (.eyeScan i) (if l.marginStatus = 3 then s.modLane i (fun x => { x with scanWaits := some k }) else startScan i k false s))

/-- Whether a port is no trunk port (R294). -/
def State.notTrunk (s : State) (port : Nat) : Bool := decide (127 < port) || !(s.port port).isTrunk

/-- TRUNK_SET (R261). -/
def runTrunkSet (c : Command) (s : State) : Ran :=
  let port := c.byte 16
  let e := trunkEntryOf (c.num 24 8)
  checks [(s.notTrunk port || decide (e.leakPct.toNat < 10 ∨ 90 < e.leakPct.toNat ∨ e.holdoff.toNat < 4 ∨ e.maxRate = 3), stInvalidParam)] s
    (fun s => done (setTrunkEntry (port / 8) e s))

/-- A route entry (R291). -/
def Route.image (r : Route) : Nat := fieldAt (bit r.valid) 7 + fieldAt (bit r.reachable) 6 + r.station.toNat

/-- TRUNK_READ (R294, R393). -/
def runTrunkRead (c : Command) (s : State) : Ran :=
  let port := c.byte 16
  checks [(s.notTrunk port, stInvalidParam)] s (fun s =>
    doneWith (bytesOf 8 64 (BitVec.ofNat 64 (s.trunk (port / 8)).lastEntry.image) ++
      (List.range 16).map (fun d => BitVec.ofNat 8 (Tab.get s.trunks.route {} d).image)) s)

/-- The code of a trunk state (R293). -/
def trunkCode : TrunkState → Nat
  | .down => 0
  | .hello => 1
  | .step => 2
  | .init => 3
  | .up => 4
  | .retrain => 5
  | .broken => 6

/-- The result of TRUNK_STATUS (R293). -/
def Trunk.status (t : Trunk) : Nat :=
  fieldAt t.replays.toNat 112 + fieldAt t.naksSent.toNat 96 + fieldAt t.duplicates.toNat 80 + fieldAt t.stompedRx.toNat 64 +
  fieldAt t.leaked.toNat 48 + fieldAt t.retrains.toNat 40 + fieldAt t.peer.toNat 36 +
  fieldAt (bit (decide (t.state = .up ∨ t.state = .retrain))) 35 + fieldAt (bit t.nakRx) 34 + fieldAt t.rate.toNat 32 +
  fieldAt t.width.toNat 30 + fieldAt (trunkCode t.state) 27 + fieldAt t.lastReason.toNat 24 + fieldAt t.ackRx.toNat 12 + t.nextSeq.toNat

/-- TRUNK_STATUS (R293). -/
def runTrunkStatus (c : Command) (s : State) : Ran :=
  let port := c.byte 16
  checks [(s.notTrunk port, stInvalidParam)] s (fun s => doneWith (bytesOf 16 128 (BitVec.ofNat 128 (s.trunk (port / 8)).status)) s)

/-- A command's retrain of a trunk in UP (R281, R294). -/
def retrainFor (st width rate : Nat) (s : State) : Ran := queuedFor (.trunk st) (startRetrain st width rate 1 s)

/-- TRUNK_SET_LINK (R281, R294): no wider than the port, no faster than max_rate. -/
def runTrunkSetLink (c : Command) (s : State) : Ran :=
  let port := c.byte 16
  let st := port / 8
  checks [(s.notTrunk port || decide (c.byte 17 = 0 ∨ (s.port port).entry.width.toNat < c.byte 17 ∨ (s.trunk st).entry.maxRate.toNat < c.byte 18),
            stInvalidParam), (decide ((s.trunk st).state ≠ .up), stNotInMode)] s (retrainFor st (c.byte 17) (c.byte 18))

/-- TRUNK_RETRAIN (R281, R294): at the present settings. -/
def runTrunkRetrain (c : Command) (s : State) : Ran :=
  let port := c.byte 16
  let t := s.trunk (port / 8)
  checks [(s.notTrunk port, stInvalidParam), (decide (t.state ≠ .up), stNotInMode)] s
    (retrainFor (port / 8) (t.width.toNat + 1) t.rate.toNat)

/-- TRUNK_RESTART (R262, R294). -/
def runTrunkRestart (c : Command) (s : State) : Ran :=
  let port := c.byte 16
  checks [(s.notTrunk port, stInvalidParam),
          (decide ((s.trunk (port / 8)).state ≠ .broken ∧ (s.trunk (port / 8)).state ≠ .down), stBusy)] s
    (fun s => done (startHello (port / 8) s))

/-- TRUNK_SET_BUFFERS (R272): in effect at the next retrain. -/
def runTrunkSetBuffers (c : Command) (s : State) : Ran :=
  let port := c.byte 16
  let l := (List.range 8).map (fun n => c.num (24 + 2 * n) 2)
  let n (i : Nat) : Nat := (l[i]?).getD 0
  checks [(s.notTrunk port || decide (3584 < l.sum ∨ n 1 ≠ 0) || [0, 2, 3, 4].any (fun i => decide (n i < 16)) ||
            [5, 6, 7].any (fun i => decide (n i < 64)), stInvalidParam)] s
    (fun s => done (s.modTrunk (port / 8) (fun t => { t with newSlots := some l })))

/-- TRUNK_SET_ROUTE (R291, R394): the entries whose mask bit is set. -/
def runTrunkSetRoute (c : Command) (s : State) : Ran :=
  done (forEach ((List.range 16).filter (fun d => (c.num 16 2).testBit d)) (fun d t =>
    let v := c.byte (24 + d)
    let r : Route := { valid := v.testBit 7, reachable := v.testBit 6, station := BitVec.ofNat 4 v }
    t.modTrunks (fun x => { x with route := Tab.set x.route {} d r })) s)

end Sys2Proof.Machine
end

