-- ==== Sys2Proof/Machine/HomeCmd.lean ====
section
/-! DEFINITION. Teller commands of coherence and the vault (R395, R396): groups 0x05 and 0x06, and the end of a flush (R145). -/

namespace Sys2Proof.Machine

/-- The slices of an 8-bit mask (R395, R396). -/
def Command.slices (c : Command) : List Nat := (List.range 8).filter (fun i => (c.byte 16).testBit i)

/-- COH_SET_WEEDER (R113, R395). -/
def runCohSetWeeder (c : Command) (s : State) : Ran :=
  checks [(decide (64 < c.byte 17), stInvalidParam)] s (fun s =>
    done (forEach c.slices (fun i t => t.modDev (fun d => { d with weederBudget := Tab.set d.weederBudget 8 i (BitVec.ofNat 7 (c.byte 17)) })) s))

/-- COH_SET_SNOOP_TIMEOUT (R125, R395). -/
def runCohSetSnoopTimeout (c : Command) (s : State) : Ran :=
  checks [(decide (c.num 16 2 < 16 ∨ 4096 < c.num 16 2), stInvalidParam)] s (fun s =>
    done (s.modDev (fun d => { d with snoopTimeout := BitVec.ofNat 13 (c.num 16 2) })))

/-- COH_SET_LOAD_THRESHOLDS (R183, R187). -/
def runCohSetLoadThresholds (c : Command) (s : State) : Ran :=
  let t1 := c.num 18 2
  let t2 := c.num 20 2
  let t3 := c.num 22 2
  checks [(decide (¬ (1 ≤ t1 ∧ t1 < t2 ∧ t2 < t3 ∧ t3 ≤ 1024)), stInvalidParam)] s (fun s =>
    done (forEach c.slices (fun i t => t.modSlice i (fun x => { x with t1 := t1, t2 := t2, t3 := t3 })) s))

/-- COH_READ_ENTRY (R103, R395). -/
def runCohReadEntry (c : Command) (s : State) : Ran :=
  checks [(decide (7 < c.byte 16 ∨ 15 < c.byte 20), stInvalidParam)] s (fun s =>
    doneWith (bytesOf 9 72 ((s.slice (c.byte 16)).entry (16 * c.num 18 2 + c.byte 20)).stored) s)

/-- COH_LOOKUP (R101, R102, R105, R395): a free entry is a miss. -/
def runCohLookup (c : Command) (s : State) : Ran :=
  let bed := c.num 16 2
  let b := s.bed bed
  let off := c.num 24 8
  checks [(decide (4095 < bed ∨ b.state ≠ .defined ∨ b.span.toNat * 2 ^ 28 ≤ off), stInvalidParam)] s (fun s =>
    let line := off / 64
    let sl := sliceOf bed line
    let pl := b.pl line
    let x := s.slice sl
    let way := match x.hit pl with | some i => i % 16 | none => 0xFF
    let entry := match x.hit pl with | some i => bytesOf 9 72 (x.entry i).stored | none => List.replicate 9 0
    doneWith ([BitVec.ofNat 8 sl, BitVec.ofNat 8 way] ++ bytesOf 2 16 (BitVec.ofNat 16 (dirSetOf pl)) ++ entry) s)

/-- A slice runs a loss scan (R127, R131). -/
def State.lossScans (s : State) (sl : Nat) : Bool := s.pool.agents.any (fun e => e.2.lossScan.contains sl)

/-- The set that the loss scan visits next (R127, R131): the last set once all are read and only its snoops are open. -/
def State.scanSet (s : State) (sl : Nat) : Nat :=
  if !s.lossScans sl then 0
  else match s.home.scans.find? (fun d => match d.kind with | .loss _ => true | _ => false) with
    | some d => min 65535 (s.entriesRead d / 16)
    | none => 65535

/-- The result of COH_STATUS (R131). -/
def State.cohStatus (s : State) (sl : Nat) : Nat :=
  let x := s.slice sl
  let n (p : Txn → Bool) : Nat := (x.txns.filter (fun e => p e.2)).length
  fieldAt (bit (s.lossScans sl)) 116 + fieldAt (s.scanSet sl) 100 +
  fieldAt (x.dir.filter (fun e => e.2.bcast)).length 79 + fieldAt (Tab.get s.dev.weederBudget 8 sl).toNat 72 +
  fieldAt (x.dir.filter (fun e => decide (e.2.pin ≠ .none))).length 61 + fieldAt (n (fun t => decide (t.phase = .rowed))) 50 +
  fieldAt x.overflowCount 43 + fieldAt x.openEntries 32 + x.stalls.toNat

/-- COH_STATUS (R131). -/
def runCohStatus (c : Command) (s : State) : Ran :=
  checks [(decide (7 < c.byte 16), stInvalidParam)] s (fun s => doneWith (bytesOf 16 128 (BitVec.ofNat 128 (s.cohStatus (c.byte 16)))) s)

/-- VAULT_FLUSH (R145, R396): it starts at the boundary at which the command takes effect. -/
def runVaultFlush (c : Command) (s : State) : Ran :=
  let bed := c.num 16 2
  checks [(decide (4095 < bed ∧ bed ≠ 0xFFFF), stInvalidParam)] s (fun s =>
    queuedFor (.flush s.home.nextFlush)
      (startFlush { bed := if bed = 0xFFFF then none else some bed, invalidate := decide (c.byte 18 % 2 = 1) } s))

/-- A flush that a command started has ended (R145): its final receipt. -/
def flushDone (job : Nat) (s : State) : State :=
  let f := Tab.get s.home.flushes {} job
  finishJob (.flush job) (if f.failed then stFaulted else stDone) [] (s.modHome (fun h => { h with flushes := Tab.drop h.flushes job }))

/-- VAULT_FLUSH_COMPLETE (R145). -/
def execVaultFlushComplete (job : Nat) (s : State) : Out :=
  whenWf s (true)
    (onlyIf (s.fabricOn && s.flushEnded job && s.hasJob (fun k => decide (k = .flush job))) (flushDone job) s)

/-- VAULT_SET_WRITE_TIMEOUT (R147, R160). -/
def runVaultSetWriteTimeout (c : Command) (s : State) : Ran :=
  checks [(decide (c.num 16 2 < 4 ∨ 256 < c.num 16 2), stInvalidParam)] s (fun s =>
    done (s.modHome (fun h => { h with writeTimeout := c.num 16 2 })))

/-- VAULT_SET_PREDICTOR (R154, R160). -/
def runVaultSetPredictor (c : Command) (s : State) : Ran :=
  let on := c.byte 17
  let off := c.byte 18
  checks [(decide (on < 1 ∨ 15 < on ∨ 14 < off ∨ on ≤ off), stInvalidParam)] s (fun s =>
    done (forEach c.slices (fun i t => t.modSlice i (fun x => { x with parkOn := on, passAt := off })) s))

/-- Whether a flush or a policy scan runs in a bank (R161). -/
def State.bankScanned (s : State) (sl : Nat) : Bool :=
  s.home.flushes.any (fun e => decide (e.2.scanned < 4096) || e.2.waiting.any (fun w => w.1 == sl) || (s.slice sl).wb.any (fun w => w.2.flushes.contains e.1)) ||
  s.pool.beds.any (fun e => e.2.policyScan.contains sl)

/-- The result of VAULT_STATUS (R161). -/
def State.vaultStatus (s : State) (sl : Nat) : Nat :=
  let x := s.slice sl
  let n (p : VaultLine → Bool) : Nat := (x.vault.filter (fun e => p e.2)).length
  fieldAt x.lostWrites.toNat 96 + fieldAt x.retries.toNat 64 + fieldAt (bit (s.bankScanned sl)) 63 + fieldAt (n (·.parked)) 44 +
  fieldAt (n (fun v => decide (v.state = .writing))) 34 + fieldAt (n (fun v => decide (v.state = .dirty))) 17 +
  n (fun v => decide (v.state = .clean))

/-- VAULT_STATUS (R161). -/
def runVaultStatus (c : Command) (s : State) : Ran :=
  checks [(decide (7 < c.byte 16), stInvalidParam)] s (fun s => doneWith (bytesOf 16 128 (BitVec.ofNat 128 (s.vaultStatus (c.byte 16)))) s)

/-- VAULT_READ_TAG (R136, R137, R396): the read corrects a single-bit error. -/
def runVaultReadTag (c : Command) (s : State) : Ran :=
  checks [(decide (7 < c.byte 16 ∨ 4095 < c.num 18 2 ∨ 15 < c.byte 20), stInvalidParam)] s (fun s =>
    let t := checkVaultSet (c.byte 16) (c.num 18 2) s
    doneWith (bytesOf 6 48 (BitVec.ofNat 48 ((t.slice (c.byte 16)).vline (16 * c.num 18 2 + c.byte 20)).tagImage)) t)

/-- A predictor entry (R153). -/
def Predictor.image (p : Predictor) : Nat :=
  fieldAt p.tick.toNat 80 + fieldAt p.score.toNat 76 + fieldAt (bit p.mode) 75 + fieldAt (bit p.seenInt) 64 + p.seen.toNat

/-- VAULT_READ_PREDICTOR (R153, R396). -/
def runVaultReadPredictor (c : Command) (s : State) : Ran :=
  checks [(decide (7 < c.byte 16 ∨ 4095 < c.num 18 2), stInvalidParam)] s (fun s =>
    doneWith (bytesOf 11 88 (BitVec.ofNat 88 (Tab.get (s.slice (c.byte 16)).predictor {} (c.num 18 2)).image)) s)

end Sys2Proof.Machine
end

