-- ==== Sys2Proof/Machine/SliceCmd.lean ====
section
/-! DEFINITION. Teller commands of the Barrow's slices (R322, R323, R334, R397, R398): group 0x07 without extent migration. -/

namespace Sys2Proof.Machine

/-- The slice a command names (R397). -/
def Command.sliceNo (c : Command) : Nat := c.num 16 2

/-- A slice number out of range (R2). -/
def Command.badSlice (c : Command) : Bool := decide (511 < c.sliceNo)

/-- SLICE_BIND (R322, R334). -/
def runSliceBind (c : Command) (s : State) : Ran :=
  let k := c.sliceNo
  let f := c.byte 19
  checks [(c.badSlice || decide (63 < c.byte 18 ∨ 2 ^ 20 ≤ c.num 20 4 ∨ (s.plot c.plotField).state = .free), stInvalidParam),
          (decide ((s.bslice k).state ≠ .unbound), stBusy)] s (fun s =>
    done (s.modBslice k (fun b =>
      { state := if f / 2 % 2 = 1 then .frozen else .running, plot := BitVec.ofNat 9 c.plotField, vector := BitVec.ofNat 6 (c.byte 18),
        dmaPasid := BitVec.ofNat 20 (c.num 20 4), pasidEn := decide (f % 2 = 1), runNo := b.runNo, running := b.running })))

/-- SLICE_UNBIND (R322, R323, R334). -/
def runSliceUnbind (c : Command) (s : State) : Ran :=
  checks [(c.badSlice, stInvalidParam), (decide ((s.bslice c.sliceNo).state = .unbound), stNotInMode)] s
    (fun s => done (unbindSlice c.sliceNo s))

/-- The PASID table entry of a key (R323): upstream port, and PASID or none. -/
def State.pasidKey (s : State) (port : Nat) (noPasid : Bool) (pasid : Nat) : Option Nat :=
  (s.barrow.pasids.find? (fun e => e.2.valid && decide (e.2.port.toNat = port) && e.2.noPasid == noPasid && decide (e.2.pasid.toNat = pasid))).map (·.1)

/-- A PASID key out of range (R323): pasid is 0 with no_pasid. -/
def Command.badKey (c : Command) : Bool :=
  decide (127 < c.byte 18 ∨ 2 ^ 20 ≤ c.num 20 4 ∨ (c.byte 19 % 2 = 1 ∧ c.num 20 4 ≠ 0))

/-- SLICE_MAP_PASID (R323). -/
def runSliceMapPasid (c : Command) (s : State) : Ran :=
  let k := c.sliceNo
  let none' := decide (c.byte 19 % 2 = 1)
  let free := (List.range 4096).find? (fun i => !(Tab.get s.barrow.pasids {} i).valid)
  checks [(c.badSlice || c.badKey || decide ((s.bslice k).state = .unbound) ||
            decide ((s.plot (s.bslice k).plot.toNat).port.toNat ≠ c.byte 18) || (s.pasidKey (c.byte 18) none' (c.num 20 4)).isSome, stInvalidParam),
          (free.isNone, stNoResource)] s (fun s =>
    let e : Pasid := { valid := true, noPasid := none', port := BitVec.ofNat 7 (c.byte 18), pasid := BitVec.ofNat 20 (c.num 20 4),
                       slice := BitVec.ofNat 9 k }
    done (s.modBarrow (fun b => { b with pasids := Tab.put b.pasids (free.getD 0) e })))

/-- SLICE_UNMAP_PASID (R323, R398). -/
def runSliceUnmapPasid (c : Command) (s : State) : Ran :=
  let i := s.pasidKey (c.byte 18) (decide (c.byte 19 % 2 = 1)) (c.num 20 4)
  checks [(c.badKey || i.isNone, stInvalidParam)] s (fun s =>
    done (s.modBarrow (fun b => { b with pasids := Tab.drop b.pasids (i.getD 0) })))

/-- SLICE_FREEZE (R334). -/
def runSliceFreeze (c : Command) (s : State) : Ran :=
  checks [(c.badSlice || decide (1 < c.byte 18), stInvalidParam)] s (sliceAct c.sliceNo (.freeze (c.byte 18 == 0)) false)

/-- SLICE_THAW (R334). -/
def runSliceThaw (c : Command) (s : State) : Ran :=
  checks [(c.badSlice, stInvalidParam)] s (sliceAct c.sliceNo .thaw false)

/-- SLICE_RESET (R334). -/
def runSliceReset (c : Command) (s : State) : Ran :=
  checks [(c.badSlice, stInvalidParam)] s (sliceAct c.sliceNo .reset false)

/-- SLICE_CLEAR_FAULT (R334). -/
def runSliceClearFault (c : Command) (s : State) : Ran :=
  checks [(c.badSlice, stInvalidParam)] s (sliceAct c.sliceNo .clearFault false)

/-- SLICE_SAVE (R334, R339). -/
def runSliceSave (c : Command) (s : State) : Ran :=
  checks [(c.badSlice || decide (c.num 24 8 % 4096 ≠ 0), stInvalidParam)] s
    (sliceAct c.sliceNo (.save (BitVec.ofNat 64 (c.num 24 8)) (decide (c.byte 18 % 2 = 1))) false)

/-- SLICE_RESTORE (R334, R340). -/
def runSliceRestore (c : Command) (s : State) : Ran :=
  checks [(c.badSlice || decide (c.num 24 8 % 4096 ≠ 0), stInvalidParam)] s
    (sliceAct c.sliceNo (.restore (BitVec.ofNat 64 (c.num 24 8)) (decide (c.byte 18 % 2 = 1))) false)

/-- SLICE_STATUS (R334, R337, R397). -/
def runSliceStatus (c : Command) (s : State) : Ran :=
  checks [(c.badSlice, stInvalidParam), (decide ((s.bslice c.sliceNo).state = .unbound), stNotInMode)] s (fun s =>
    doneWith (bytesOf 8 64 (s.bslice c.sliceNo).status ++ bytesOf 8 64 (s.bslice c.sliceNo).counts) s)

end Sys2Proof.Machine
end

