-- ==== Sys2Proof/Machine/ObserveCmd.lean ====
section
/-! DEFINITION. Teller commands of events, counters, statistics and trace (R401 to R403, R410, R411): groups 0x09, 0x0A and part of 0x0E. -/

namespace Sys2Proof.Machine

/-- EVT_SET_SOURCE (R401, R402, R454, R455). -/
def runEvtSetSource (c : Command) (s : State) : Ran :=
  let n := c.num 16 2
  checks [(decide (n < 1 ∨ 2047 < n), stInvalidParam)] s (fun s =>
    done (setSourceVector n (BitVec.ofNat 64 (c.num 24 8)) (setSourceConfig n (BitVec.ofNat 32 (c.num 20 4)) s)))

/-- The flags of EVT_READ_SOURCE (R401): pending, in service, late take. Source 0 is raised and served per target (R465). -/
def State.sourceFlags (s : State) (n : Nat) : Nat :=
  let x := s.source n
  if n = 0 then
    bit ((List.range 4).any (fun t => (s.target t).faultPending)) + fieldAt (bit ((List.range 4).any (fun t => (s.target t).faultSlot))) 1 +
      fieldAt (bit x.late) 2
  else bit x.isPending + fieldAt (bit x.inService) 1 + fieldAt (bit x.late) 2

/-- EVT_READ_SOURCE (R401). -/
def runEvtReadSource (c : Command) (s : State) : Ran :=
  let n := c.num 16 2
  checks [(decide (2047 < n), stInvalidParam)] s (fun s =>
    doneWith (bytesOf 4 32 (BitVec.ofNat 32 (sourceConfig s n)) ++ [BitVec.ofNat 8 (s.sourceFlags n), 0, 0, 0] ++
      bytesOf 8 64 (vectorOf s n) ++ bytesOf 8 64 (s.source n).stamp) s)

/-- EVT_TRIGGER (R401, R402). -/
def runEvtTrigger (c : Command) (s : State) : Ran :=
  checks [(decide (511 < c.num 16 2), stInvalidParam)] s (fun s => done (softwareTrigger (c.num 16 2) s))

/-- Whether a block may count an event select (R522, R523). -/
def selectValid (block : Nat) (sel : BitVec 16) : Bool :=
  let kind := bitsOf sel 15 12
  let qual := bitsOf sel 11 8
  let ev := bitsOf sel 7 0
  let mine := blockKind block
  if kind = 0 then decide (qual = 0 ∧ ev ≤ 3)
  else if kind = 0xE ∨ kind = 0xF then decide (mine = 5) && !sel.getLsbD 11
  else decide (kind = mine) &&
    (if kind = 1 then decide ((qual < 8 ∨ qual = 15) ∧ ((1 ≤ ev ∧ ev ≤ 0x0C) ∨ (0x10 ≤ ev ∧ ev ≤ 0x14 ∧ qual = 15)))
     else decide (qual = 0 ∧ 1 ≤ ev ∧ ev ≤ (if kind = 2 then 0x15 else if kind = 3 then 0x0A else if kind = 4 then 8 else 0x0C)))

/-- CTR_SET_SELECT (R522): the counter is set to 0 in the same beat. -/
def runCtrSetSelect (c : Command) (s : State) : Ran :=
  let sel := BitVec.ofNat 16 (c.num 18 2)
  checks [(decide (26 < c.byte 16 ∨ 7 < c.byte 17) || !selectValid (c.byte 16) sel, stInvalidParam)] s (fun s =>
    let i := 8 * c.byte 16 + c.byte 17
    done (s.modCtr (fun x => { x with select := Tab.set x.select 0 i sel, value := Tab.drop x.value i })))

/-- CTR_SNAPSHOT (R403, R527). -/
def runCtrSnapshot (_ : Command) (s : State) : Ran := done (snapshot s)

/-- CTR_READ (R403, R527). -/
def runCtrRead (c : Command) (s : State) : Ran :=
  let copy := decide (c.byte 17 % 2 = 1)
  checks [(decide (26 < c.byte 16), stInvalidParam)] s (fun s =>
    let t := if copy then s.ctr.snap else s.ctr.value
    doneWith (bytesOf 8 64 (if copy then s.ctr.snapCycle else cycleCounter s) ++
      (List.range 8).flatMap (fun i => bytesOf 8 48 (Tab.get t 0 (8 * c.byte 16 + i)))) s)

/-- One statistic as STAT_READ returns it (R528): a port that is not configured, and plot statistic 31, read 0. -/
def State.statValue (s : State) (live plot : Bool) (n j : Nat) : BitVec 64 :=
  if plot then (if j = 31 then 0 else if live then liveStat s.ctr (plotStat n j) else ledgerStat s.ctr (plotStat n j))
  else if (s.port n).entry.role = 0 then 0
  else if live then liveStat s.ctr (portStat n j) else ledgerStat s.ctr (portStat n j)

/-- STAT_READ (R403, R530). -/
def runStatRead (c : Command) (s : State) : Ran :=
  let plot := c.byte 16 == 0
  let live := c.byte 17 == 1
  let n := c.num 18 2
  checks [(decide (1 < c.byte 16 ∨ 1 < c.byte 17 ∨ (if plot then 511 else 127) < n), stInvalidParam)] s (fun s =>
    let head := if live then bytesOf 8 64 s.time.seasonStart ++ bytesOf 4 32 s.time.seasonNum ++ [0, 0, 0, 0]
      else bytesOf 8 64 s.ctr.ledgerStart ++ bytesOf 4 32 (s.time.seasonNum - 1) ++
        [BitVec.ofNat 8 (bit s.ctr.ledgerShort + fieldAt (bit s.ctr.ledgerSpanning) 1), 0, 0, 0]
    doneWith (head ++ (List.range (if plot then 32 else 16)).flatMap (fun j => bytesOf 8 64 (s.statValue live plot n j))) s)

/-- Whether a trace point exists (R411). -/
def pointValid (p : Nat) : Bool := decide (p ≤ 0x19 ∨ (0x20 ≤ p ∧ p ≤ 0x27) ∨ p = 0x30 ∨ p = 0x31)

/-- TRACE_SET_FILTER (R411, R532, R535). -/
def runTraceSetFilter (c : Command) (s : State) : Ran :=
  checks [(decide (15 < c.byte 16) || !pointValid (c.byte 17), stInvalidParam)] s (fun s =>
    let f : TraceFilter := { point := BitVec.ofNat 8 (c.byte 17), enable := decide (c.byte 18 % 2 = 1),
                             match' := BitVec.ofNat 160 (c.num 24 20), mask := BitVec.ofNat 160 (c.num 44 20) }
    done (s.modCtr (fun x => { x with filters := Tab.set x.filters {} (c.byte 16) f })))

/-- TRACE_START (R411, R535). -/
def runTraceStart (c : Command) (s : State) : Ran :=
  checks [(s.ctr.capturing, stBusy)] s (fun s =>
    done (s.modCtr (fun x => { x with traceIndex := 0, captured := 0, capturing := true, traceOpen := true, traceDropped := false,
                                      stopWhenFull := decide (c.byte 16 % 2 = 1) })))

/-- TRACE_STOP (R410, R535). -/
def runTraceStop (_ : Command) (s : State) : Ran :=
  doneWith (bytesOf 4 32 s.ctr.captured) (s.modCtr (fun x => { x with capturing := false, traceOpen := false }))

/-- TRACE_READ (R410, R411): refused until TRACE_STOP has taken effect; entries in index order, wrapping at the buffer's end. -/
def runTraceRead (c : Command) (s : State) : Ran :=
  let n := c.num 20 2
  checks [(decide (262143 < c.num 16 4 ∨ n < 1 ∨ 128 < n), stInvalidParam), (s.ctr.traceOpen, stBusy)] s (fun s =>
    doneWith ((List.range n).flatMap (fun i => bytesOf 32 256 (Tab.get s.ctr.trace 0 ((c.num 16 4 + i) % 262144)))) s)

end Sys2Proof.Machine
end

