-- ==== Sys2Proof/Machine/SlotCmd.lean ====
section
/-! DEFINITION. Teller commands of slots and feeds (R404, R405, R516, R519): group 0x0B. While the power link is down only the two
status commands are served. -/

namespace Sys2Proof.Machine

/-- The state code that the fabric die's copy of a channel shows (R516). -/
def ChCopy.code (x : ChCopy) : Nat := bitsOf x.stateReg 23 20

/-- Refusals that every slot command with a channel shares (R404, R516). -/
def slotChecks (c : Command) (s : State) : List (Bool × Nat) := [(!s.power.link, stNotInMode), (decide (47 < c.byte 16), stInvalidParam)]

/-- SLOT_SET (R405, R495, R519): in effect when its frames arrive. -/
def runSlotSet (c : Command) (s : State) : Ran :=
  let ch := c.byte 16
  let out (v lo hi : Nat) : Bool := decide (v < lo ∨ hi < v)
  checks (slotChecks c s ++
      [(out (c.byte 17) 0 7 || out (c.byte 18) 1 16 || out (c.num 20 2) 10 500 || out (c.byte 22) 1 128 || out (c.byte 23) 1 100 ||
          out (c.num 24 2) 1 100, stInvalidParam), ((s.chCopy ch).powered, stBusy)]) s (fun s =>
    done (pushFrames [writeFrame ch 1 (fieldAt (c.byte 22) 16 + c.num 20 2),
      writeFrame ch 2 (fieldAt (c.num 24 2) 17 + fieldAt (c.byte 23) 10 + fieldAt (c.byte 18 - 1) 6 + fieldAt (c.byte 17) 3)] s))

/-- SLOT_ON (R405, R519): the check of the channel's presence input comes first. -/
def runSlotOn (c : Command) (s : State) : Ran :=
  let ch := c.byte 16
  checks (slotChecks c s ++ [(!(s.channel ch).prsnt, stInvalidParam), ((s.chCopy ch).code != 8, stBusy)]) s (fun s =>
    queuedFor (.slotOn ch) (pushFrames [writeFrame ch 3 1] s))

/-- A port's device behind a slot is in use (R223, R405). -/
def State.slotBusy (s : State) (ch : Nat) : Bool :=
  (s.portsWhere (fun p => p.entry.slotValid && p.entry.slot.toNat == ch)).any s.removalBusy

/-- SLOT_OFF (R405, R508, R519): PERST_N falls before the frame is sent. -/
def runSlotOff (c : Command) (s : State) : Ran :=
  let ch := c.byte 16
  checks (slotChecks c s ++ [(s.slotBusy ch || s.hasJob (fun k => decide (k = .slotOn ch)), stBusy)]) s (fun s =>
    done (pushFrames [writeFrame ch 3 2] (drivePerst ch s)))

/-- SLOT_CLEAR_LATCH (R405). -/
def runSlotClearLatch (c : Command) (s : State) : Ran :=
  checks (slotChecks c s) s (fun s => done (pushFrames [writeFrame (c.byte 16) 3 4] s))

/-- SLOT_READ (R404, R516): the copy, laid out as SLOT_SET bytes 16 to 31. -/
def runSlotRead (c : Command) (s : State) : Ran :=
  let ch := c.byte 16
  checks (slotChecks c s) s (fun s =>
    let x := s.chCopy ch
    doneWith ([BitVec.ofNat 8 ch, BitVec.ofNat 8 (bitsOf x.seqReg 5 3), BitVec.ofNat 8 (bitsOf x.seqReg 9 6 + 1), 0] ++
      bytesOf 2 16 (BitVec.ofNat 16 (bitsOf x.limitReg 8 0)) ++ [BitVec.ofNat 8 (bitsOf x.limitReg 23 16), BitVec.ofNat 8 (bitsOf x.seqReg 16 10)] ++
      bytesOf 2 16 (BitVec.ofNat 16 (bitsOf x.seqReg 23 17))) s)

/-- The result of SLOT_STATUS (R404, R516): PG and TRIP are taken from the hard-wired lines. -/
def ChCopy.status (x : ChCopy) : List Byte :=
  [BitVec.ofNat 8 x.code, BitVec.ofNat 8 (bitsOf x.stateReg 19 17),
   BitVec.ofNat 8 (bitsOf x.stateReg 16 16 + fieldAt (bit x.pg) 1 + fieldAt (bit x.trip) 2 + fieldAt (bit (x.code == 7)) 3 +
     fieldAt (bitsOf x.stateReg 12 12) 4 + fieldAt (bitsOf x.stateReg 11 11) 5), 0] ++
  bytesOf 2 12 x.shunt ++ bytesOf 2 12 x.vout ++ bytesOf 8 64 x.faultStamp

/-- SLOT_STATUS (R404, R516). -/
def runSlotStatus (c : Command) (s : State) : Ran :=
  checks [(decide (47 < c.byte 16), stInvalidParam)] s (fun s => doneWith (s.chCopy (c.byte 16)).status s)

/-- FEED_SET (R404, R509). -/
def runFeedSet (c : Command) (s : State) : Ran :=
  let uv := c.num 18 2
  let dead := c.byte 20
  checks [(!s.power.link, stNotInMode),
          (decide (1 < c.byte 16 ∨ uv < 900 ∨ 1400 < uv ∨ (c.byte 16 = 0 ∧ (dead < 2 ∨ 50 < dead)) ∨ (c.byte 16 = 1 ∧ dead ≠ 0)), stInvalidParam)] s
    (fun s => done (pushFrames [writeFrame (0x40 + c.byte 16) 1 (fieldAt dead 11 + uv)] s))

/-- FEED_STATUS (R404, R517). -/
def runFeedStatus (_ : Command) (s : State) : Ran :=
  let p := s.power
  doneWith ([BitVec.ofNat 8 (bitsOf p.pdState 13 12),
      BitVec.ofNat 8 (bitsOf p.feedStA 1 1 + fieldAt (bitsOf p.feedStB 1 1) 1 + fieldAt (bit p.brownout) 2)] ++
    bytesOf 2 12 p.voltA ++ bytesOf 2 12 p.voltB ++ [0, 0] ++ bytesOf 8 64 p.switchStamp) s

end Sys2Proof.Machine
end

