-- ==== Sys2Proof/Machine/WearCmd.lean ====
section
/-! DEFINITION. Teller commands of wear and health (R406, R407, R557): group 0x0C, the ends of the two tests, the thermal trip (R563)
and the VID outputs (R559). -/

namespace Sys2Proof.Machine

/-- WEAR_READ (R407, R551, R555): class 0x0A returns a lane's record as the wear book holds it. -/
def runWearRead (c : Command) (s : State) : Ran :=
  let cls := c.byte 16
  let inst := c.num 18 2
  let w := s.wear
  checks [(decide ((if cls = 0x0A then 256 else monitorInstances cls) ≤ inst), stInvalidParam)] s (fun s =>
    if cls = 0x0A then doneWith (bytesOf 4 32 (BitVec.ofNat 32 (w.bookLane inst).1) ++ bytesOf 4 32 (BitVec.ofNat 32 (w.bookLane inst).2)) s
    else
      let p := monitorPrediction w cls inst
      doneWith (bytesOf 4 32 (BitVec.ofNat 32 p.1) ++ bytesOf 4 32 (BitVec.ofNat 32 p.2) ++
        bytesOf 8 64 (BitVec.ofNat 64 (latestSample w cls inst))) s)

/-- WEAR_SUMMARY (R406, R556). -/
def runWearSummary (_ : Command) (s : State) : Ran :=
  let v := wearLimiting s.wear
  doneWith (bytesOf 4 32 (BitVec.ofNat 32 v.2.2.1) ++ bytesOf 4 32 (BitVec.ofNat 32 v.2.2.2) ++ [BitVec.ofNat 8 v.1, 0] ++
    bytesOf 2 16 (BitVec.ofNat 16 v.2.1) ++ [BitVec.ofNat 8 (bit s.wear.advisory + 2 * bit s.wear.urgent)]) s

/-- The 64 bytes of the ledger's entry at an index (R540): zeros where none was written. -/
def State.ledgerBytes (s : State) (i : Nat) : List Byte :=
  match s.ledger.ring.find i with
  | some e => bytesOf 64 512 e.image
  | none => List.replicate 64 0

/-- LEDGER_READ (R406, R542): entries in index order, wrapping from 4,095 to 0. -/
def runLedgerRead (c : Command) (s : State) : Ran :=
  let first := c.num 16 2
  let n := c.num 18 2
  checks [(decide (4095 < first ∨ n < 1 ∨ 64 < n), stInvalidParam)] s (fun s =>
    doneWith ((List.range n).flatMap (fun i => s.ledgerBytes ((first + i) % 4096))) s)

/-- LEDGER_STATUS (R406). -/
def runLedgerStatus (_ : Command) (s : State) : Ran :=
  doneWith (bytesOf 8 64 (BitVec.ofNat 64 s.ledger.written) ++ bytesOf 2 16 (BitVec.ofNat 16 s.ledger.next) ++
    bytesOf 2 16 (BitVec.ofNat 16 s.ledger.slots)) s

/-- HEALTH_BIST (R406, R557). -/
def runHealthBist (c : Command) (s : State) : Ran :=
  queuedFor .bist (s.modDev (fun d => { d with healthBist := d.healthBist ++ [c.byte 16] }))

/-- HEALTH_VMIN (R406, R557). -/
def runHealthVmin (c : Command) (s : State) : Ran :=
  checks [(decide (1 < c.byte 16), stInvalidParam)] s (fun s =>
    queuedFor .vmin (s.modDev (fun d => { d with healthVmin := d.healthVmin ++ [c.byte 16] })))

/-- The oldest command in QUEUED of a kind ends (R359). -/
def finishFirst (k : JobKind) (status : Nat) (result : List Byte) (s : State) : State :=
  match s.teller.jobs.find? (fun j => decide (j.kind = k)) with
  | some j => endOne j.ring j.origin j.tag status result s
  | none => s

/-- The repair usage that a BIST gathers for class 0x03 (R552): percent of the spares (log 46). -/
def gatherRepairs (s : State) : State := gatherValue 3 0 (100 * s.wear.repairs / Config.spares) s

/-- The arrays that a BIST has tested hold their reset values (R103, R137, R557): bit 0 the directory, bit 1 the vault. The other
arrays have no name in the spec (log 46). -/
def overwriteArrays (mask : Nat) (s : State) : State :=
  forEach (List.range 8) (fun sl t => t.modSlice sl (fun x =>
    { x with dir := if mask.testBit 0 then [] else x.dir, vault := if mask.testBit 1 then [] else x.vault })) s

/-- HEALTH_BIST_COMPLETE (R557): repairs in use and failing cells. -/
def healthBistDone (mask repairs failing : Nat) (s : State) : State :=
  let s1 := overwriteArrays mask (s.modDev (fun d => { d with healthBist := d.healthBist.tail }))
  let s2 := gatherRepairs (s1.modWear (fun w => { w with repairs := repairs }))
  let s3 := if failing = 0 then s2 else logFaultSev 2 0x04 blockDevice 0xFFFF failing 0 0 0 s2
  finishFirst .bist (if failing = 0 then stDone else stFaulted)
    (bytesOf 4 32 (BitVec.ofNat 32 repairs) ++ bytesOf 4 32 (BitVec.ofNat 32 failing)) s3

/-- The nominal voltage of a supply in mV (R558, R559). -/
def State.nominal (s : State) (supply : Nat) : Nat := if supply = 0 then 700 + 10 * s.dev.vid else 800

/-- HEALTH_VMIN_COMPLETE (R557): the last passing voltage, and the margin; none has passed where it lies above the nominal one. -/
def healthVminDone (supply vmin : Nat) (s : State) : State :=
  let nominal := s.nominal supply
  let s1 := s.modDev (fun d => { d with healthVmin := d.healthVmin.tail })
  if nominal < vmin then finishFirst .vmin stFaulted [] s1
  else
    finishFirst .vmin stDone (bytesOf 2 16 (BitVec.ofNat 16 vmin) ++ bytesOf 2 16 (BitVec.ofNat 16 (nominal - vmin)))
      (gatherValue 4 supply (nominal - vmin) s1)

/-- THERMAL_TRIP (R563): THERMTRIP_N falls, and stays low. -/
def thermalTripOp (s : State) : State := s.modDev (fun d => { d with thermalTripped := true })

/-- VID_STEP (R559): by at most one code per 1,024 ticks, within 0 to 10. -/
def State.vidMay (s : State) (up : Bool) : Bool :=
  s.fabricOn && decide (s.dev.vidTicks + 1024 ≤ s.tick) && (if up then decide (s.dev.vid < 10) else decide (0 < s.dev.vid))

/-- VID_STEP (R559). -/
def vidStepOp (up : Bool) (s : State) : State :=
  s.modDev (fun d => { d with vid := if up then d.vid + 1 else d.vid - 1, vidTicks := s.tick })

/-- Meaning of HEALTH_BIST_COMPLETE. -/
def execHealthBistComplete (repairs failing : Nat) (s : State) : Out :=
  whenWf s (true)
    (match s.dev.healthBist with
     | mask :: _ => onlyIf s.fabricOn (healthBistDone mask repairs failing) s
     | [] => s)

/-- Meaning of HEALTH_VMIN_COMPLETE. -/
def execHealthVminComplete (vmin : Nat) (s : State) : Out :=
  whenWf s (true)
    (match s.dev.healthVmin with
     | supply :: _ => onlyIf s.fabricOn (healthVminDone supply vmin) s
     | [] => s)

/-- Meaning of THERMAL_TRIP. -/
def execThermalTrip (s : State) : Out := whenWf s (true) (onlyIf (s.dev.vaux && !s.dev.thermalTripped) thermalTripOp s)

/-- Meaning of VID_STEP. -/
def execVidStep (up : Bool) (s : State) : Out := whenWf s (true) (onlyIf (s.vidMay up) (vidStepOp up) s)

end Sys2Proof.Machine
end

