-- ==== Sys2Proof/Machine/Modes.lean ====
section
/-! DEFINITION. Operating modes and the transitions between them (R477 to R485, R221, R259). -/

namespace Sys2Proof.Machine

/-- DEV_START as it reads (R480). -/
def State.devStart (s : State) : Nat :=
  let d := s.dev
  fieldAt d.lastReset.toNat 24 + fieldAt d.loadErrors.toNat 16 + fieldAt (bit d.deadline) 11 + fieldAt (bit d.bistFail) 10 +
    fieldAt (bit d.bistDone) 9 + fieldAt (bit d.slotHold) 8 + d.stage.toNat

/-- The mode byte of a DEV_SET_MODE's final receipt (R384). -/
def State.modeByte (s : State) : List Byte := [BitVec.ofNat 8 (modeCode s.dev.mode)]

/-- The transition that runs ends with its command's final receipt (R385). -/
def endTransition (status : Nat) (s : State) : State :=
  finishJob .mode status s.modeByte (s.modDev (fun d => { d with transition := none }))

/-- Retry Status ends (R221): every UPSTREAM port in L0 sends Device Readiness Status and is directed to its max_rate. -/
def endRetry (s : State) : State :=
  if !s.dev.retryStatus then s
  else
    forEach (s.portsWhere (fun p => p.upstream && p.inL0)) (fun q t =>
      let u := t.modPort q (fun p => { p with readySent := true })
      if (t.port q).rate.toNat < (t.port q).entry.maxRate.toNat then toRecovery q u else u)
      (s.modDev (fun d => { d with retryStatus := false }))

/-- The START entry of the ledger, as the device leaves SPROUT (R480). -/
def logStart (s : State) : State := logFault 0x02 blockDevice 0 0 s.devStart 0 0 s

/-- Leaving PROBE (R259): every lane's loop and PRBS setting is 0, checkers stop, and ports and trunks train again. -/
def leaveProbe (s : State) : State :=
  let s1 := s.modLanes (fun x => { x with
    lane := x.lane.foldl (fun t e => Tab.set t {} e.1 { e.2 with loop := 0, prbsGen := 0, prbsChk := 0, prbsLock := false }) [] })
  forEach ((s1.portsWhere (·.isTrunk)).filter (fun q => decide ((s1.trunk (stationOf q)).state = .down))) (fun q t => startHello (stationOf q) t) s1

/-- The device leaves SPROUT (R477, R480, R490, R307): to SHADOW and WAITING where the pair record shows paired, else to GROW.
`byCommand` tells a command's transition from one that the device makes by itself at the deadline. -/
def leaveSprout (byCommand atDeadline : Bool) (s : State) : State :=
  let paired := s.records.paired
  let m : Mode := if paired then .shadow else .grow
  let s1 := if paired then setPairState .waiting s else s
  let s2 := if byCommand then changeMode m s1 else hwChangeMode m s1
  let s3 := s2.modDev (fun d => { d with stage := 7, deadline := d.deadline || atDeadline, deadlineDone := true })
  let s4 := raise 3 (logStart s3)
  let s5 := if atDeadline then raise 4 s4 else s4
  let s6 := endRetry s5
  if byCommand then endTransition stDone s6 else s6

/-- The device enters FALLOW (R484): its work begins. -/
def enterFallow (s : State) : State :=
  (changeMode .fallow s).modDev (fun d => { d with
    transition := d.transition.map (fun t => { t with entered := true, started := s.tick }), fallow := d.fallow ++ [{}] })

/-- The deadline of the present start (R475, R477, R486). -/
def State.deadlinePassed (s : State) : Bool := decide (s.dev.stageTick + 976563 ≤ s.tick)

/-- Every UPSTREAM link is taken to Disabled (R478, R485). -/
def disableUpstream (s : State) : State :=
  forEach (s.portsWhere (·.upstream)) (fun q t =>
    (if (t.port q).inL0 then upstreamDown q false t else t).modPort q (fun p => { p with ltssm := .disabled })) s

/-- SPROUT_DEADLINE (R477, R478): the device leaves SPROUT once BIST has passed; after a failure it takes its UPSTREAM links down. -/
def sproutDeadline (s : State) : State :=
  if s.dev.mode ≠ .sprout ∨ s.dev.deadlineDone ∨ !s.deadlinePassed then s
  else if s.dev.bistFail then disableUpstream (s.modDev (fun d => { d with deadlineDone := true }))
  else if s.dev.bistDone then
    leaveSprout (match s.dev.transition with | some t => decide (t.target = .grow) | none => false) true s
  else s

/-- A slice has no transaction and no work of its own left. -/
def Slice.quiet (x : Slice) : Bool := x.txns.isEmpty && x.work.isEmpty && x.input.isEmpty

/-- Work of the home's own back-invalidations is left. -/
def State.sweeping (s : State) : Bool :=
  (List.range 8).any (fun sl => let x := s.slice sl
    let mine (t : Txn) : Bool := decide (t.cls = .sweep)
    x.work.any mine || x.input.any mine || x.txns.any (fun e => mine e.2))

/-- The work of one entry to FALLOW goes on to its next step that can begin (R484). -/
def fallowStep (i : Nat) (s : State) : State :=
  match s.dev.fallow[i]? with
  | none => s
  | some w =>
    let put (x : FallowWork) (t : State) : State := t.modDev (fun d => { d with fallow := d.fallow.set i x })
    if w.step = 0 then
      if (List.range 8).all (fun sl => (s.slice sl).quiet) then startDirScan .recall (put { w with step := 1, since := s.tick } s) else s
    else if w.step = 1 then
      if decide (s.tick < w.since + 512) || s.sweeping || s.scanRuns (fun k => decide (k = .recall)) then s
      else startFlush { fallow := true } (put { w with step := 2, job := s.home.nextFlush } s)
    else s

/-- The oldest work of FALLOW has ended (R484). -/
def State.fallowOver (s : State) : Bool :=
  match s.dev.fallow with
  | [] => false
  | w :: _ => decide (w.step = 2) && s.flushEnded w.job

/-- FALLOW_FLUSH_COMPLETE (R484): event 8, and the final receipt unless it was written before; a failed write does not change it. -/
def fallowDone (s : State) : State :=
  match s.dev.fallow with
  | [] => s
  | w :: rest =>
    let s1 := (s.modDev (fun d => { d with fallow := rest })).modHome (fun h => { h with flushes := Tab.drop h.flushes w.job })
    let s2 := if rest.isEmpty && (match s.dev.transition with | some t => decide (t.target = .fallow) && t.entered | none => false) then
      endTransition stDone s1 else s1
    raise 8 s2

/-- FALLOW_TIMEOUT is due (R484): 65,536 ticks from entry. -/
def State.fallowLate (s : State) : Bool :=
  match s.dev.transition with
  | some t => decide (t.target = .fallow) && t.entered && decide (t.started + 65536 ≤ s.tick)
  | none => false

/-- A proposal is withdrawn by DORMANT entry (R373, R485): final receipts ABORTED on the proposer's ring, and to its countersigner. -/
def withdrawProposal (p : Proposal) (s : State) : State :=
  let s1 := s.modTeller (fun t => { t with proposals := t.proposals.filter (fun x => x.number ≠ p.number) })
  let s2 := writeReceipt p.cmd.ring p.cmd.origin p.cmd.tag p.cmd.opcode stAborted [] (some p.number.toNat) s1
  finishJob (.countersign p.number) stAborted
    (bytesOf 8 16 p.number ++ bytesOf 8 64 (BitVec.ofNat 64 p.digest.toNat)) s2

/-- DORMANT entry begins (R485 steps 1 to 3): proposals are withdrawn, links are taken to Disabled, the EVC stops offers. -/
def startDormant (s : State) : State :=
  let s1 := forEach s.teller.proposals withdrawProposal s
  let ports := s1.portsWhere (fun p => (p.upstream || p.downstream) && decide (p.ltssm ≠ .disabled))
  let s2 := forEach ports (fun q t =>
    let t1 := if !(t.port q).inL0 then t else if (t.port q).upstream then upstreamDown q false t else downstreamDown q .disabled t
    t1.modPort q (fun p => { p with ltssm := .disabled })) s1
  let s3 := forEach (s2.portsWhere (·.isTrunk)) (fun q t => endTrunk (stationOf q) t) s2
  evcReviewAll ((s3.modEvc (fun e => { e with offersStopped := true })).modDev (fun d => { d with
    transition := some { target := .dormant, started := s.tick, links := ports } }))

/-- DORMANT entry waits for the EVC to come to rest (R485 step 3). -/
def State.dormantWaits (s : State) : Bool :=
  match s.dev.transition with
  | some t => decide (t.target = .dormant)
  | none => false

/-- The final receipt of a transition to DORMANT, in the last beat before entry (R385, R485 step 4), after those of proposals staged
since entry began (R373). -/
def dormantReceipt (s : State) : State :=
  if s.dormantWaits && s.evcQuiet && !s.dev.dormantDue then
    (finishJob .mode stDone [4] ((forEach s.teller.proposals withdrawProposal s).modDev (fun d => { d with transition := none }))).modDev (fun d => { d with dormantDue := true })
  else s

/-- DORMANT_QUIET_TIMEOUT (R485 step 3): entry is abandoned. -/
def quietTimeout (s : State) : State :=
  match s.dev.transition with
  | some x =>
    let s1 := forEach x.links (fun q t => t.modPort q (fun p => { p with ltssm := if p.ltssm = .disabled then .detect else p.ltssm })) s
    let s2 := forEach (s1.portsWhere (·.isTrunk)) (fun q t => startHello (stationOf q) t) s1
    raise 9 (endTransition stTimeout (s2.modEvc (fun e => { e with offersStopped := false })))
  | none => s

/-- Mode transitions of a tick boundary that a command has asked for (R477, R482, R484). -/
def modeStep (s : State) : State :=
  match s.dev.transition with
  | none => s
  | some t =>
    if t.entered then s
    else match t.target with
      | .grow =>
        if s.dev.mode = .sprout then
          if s.dev.bistDone then leaveSprout true (s.deadlinePassed && !s.dev.deadlineDone) s else s
        else
          let s1 := if s.dev.mode = .probe then leaveProbe s else s
          endTransition stDone (endRetry ((changeMode .grow s1).modDev (fun d => { d with stage := 7 })))
      | .fallow => enterFallow (if s.dev.mode = .probe then leaveProbe s else s)
      | .probe =>
        let s1 := changeMode .probe s
        endTransition stDone (if s.dev.mode = .sprout then driveInput 5 false (logStart s1) else s1)
      | _ => s

/-- The transitions of one boundary (R571 phase 2): commands, the deadline, the work of FALLOW, and records of transitions. -/
def modeTransitions (s : State) : State :=
  let s1 := sproutDeadline (modeStep s)
  let s2 := forEach (List.range s1.dev.fallow.length) fallowStep s1
  let s3 := if s2.fallowOver then fallowDone s2 else s2
  let s4 := if s3.fallowLate then endTransition stTimeout s3 else s3
  finishJob .modeRecord stDone s4.modeByte s4

/-- Meaning of DORMANT_QUIET_TIMEOUT. -/
def execDormantQuietTimeout (s : State) : Out :=
  whenWf s (true)
    (onlyIf (s.fabricOn && s.dormantWaits && !s.evcQuiet &&
      (match s.dev.transition with | some t => decide (t.started + 64 ≤ s.tick) | none => false)) quietTimeout s)

end Sys2Proof.Machine
end

