-- ==== Sys2Proof/Machine/DevCmd.lean ====
section
/-! DEFINITION. Teller commands of the device and its mode (R384 to R388): group 0x01. -/

namespace Sys2Proof.Machine

/-- DEV_IDENTIFY (R384): the pair serial reads 0 when UNPAIRED. -/
def runDevIdentify (_ : Command) (s : State) : Ran :=
  let pair : BitVec 48 := if s.pair.state = .unpaired then 0 else s.hostSerial
  doneWith (bytesOf 6 48 Config.serial ++ [BitVec.ofNat 8 Config.revision, BitVec.ofNat 8 s.self] ++ bytesOf 6 48 pair) s

/-- DEV_STATUS (R384). -/
def runDevStatus (_ : Command) (s : State) : Ran :=
  doneWith (s.modeByte ++ [BitVec.ofNat 8 s.pair.state.code,
      BitVec.ofNat 8 (bit s.pair.recovery + fieldAt (bit s.time.coarse) 1 + fieldAt (bit s.power.brownout) 2 + fieldAt (bit s.dev.slotHold) 3),
      BitVec.ofNat 8 s.teller.proposals.length] ++ bytesOf 4 32 s.time.overrun ++ bytesOf 4 32 s.time.seasonNum) s

/-- The mode that a target code names (R384). -/
def modeOfCode (n : Nat) : Option Mode :=
  if n = 0 then some .sprout else if n = 1 then some .grow else if n = 2 then some .shadow else if n = 3 then some .fallow
  else if n = 4 then some .dormant else if n = 5 then some .probe else none

/-- The transitions that a command may ask for (R482): from, to. -/
def modeTable (a b : Mode) : Bool :=
  match a, b with
  | .sprout, .grow => true
  | .sprout, .probe => true
  | .grow, .fallow => true
  | .fallow, .grow => true
  | .fallow, .dormant => true
  | .fallow, .probe => true
  | .probe, .grow => true
  | .probe, .fallow => true
  | _, _ => false

/-- Why the transition table refuses a transition (R478, R482). -/
def modeRefusal (target : Mode) (s : State) : List (Bool × Nat) :=
  let m := s.dev.mode
  let parks := decide (m = .fallow ∧ (target = .dormant ∨ target = .probe))
  [(!modeTable m target, stNotInMode), (decide (m = .sprout ∧ target = .grow) && s.dev.bistFail, stNotInMode),
   (decide (m = .sprout ∧ target = .probe) && s.records.paired, stNotInMode),
   (parks && decide (s.pair.state ≠ .unpaired), stNotInMode),
   (parks && s.pool.plots.any (fun e => decide (e.2.state ≠ .free)), stBusy)]

/-- DEV_SET_MODE from ring 15 (R385): it records a transition that hardware started, and never starts one. -/
def recordMode (target : Option Mode) (s : State) : Ran :=
  match target with
  | none => refuse stInvalidParam s
  | some m => if m = s.dev.mode then doneWith s.modeByte s else queuedFor .modeRecord s

/-- DEV_SET_MODE (R385, R482): a transition begins; every one takes effect at a tick boundary, but DORMANT entry's first steps begin now. -/
def runDevSetMode (c : Command) (s : State) : Ran :=
  let target := modeOfCode (c.byte 16)
  if c.ring = 15 then recordMode target s
  else match target with
    | none => refuse stInvalidParam s
    | some m =>
      if m = .sprout ∨ m = .shadow then refuse stInvalidParam s
      else if s.dev.transition.isSome ∨ s.dev.dormantDue then refuse stBusy s
      else if m = s.dev.mode then doneWith s.modeByte s
      else checks (modeRefusal m s) s (fun s =>
        queuedFor .mode (if m = .dormant then startDormant s
          else s.modDev (fun d => { d with transition := some { target := m, started := s.tick } })))

/-- DEV_RESET (R386, R387): the reset begins at the next tick boundary. -/
def runDevReset (c : Command) (s : State) : Ran :=
  let n := c.byte 16
  checks [(decide (n < 1 ∨ 3 < n), stInvalidParam), (s.hasJob (fun k => decide (k = .mode ∨ k = .modeRecord)), stBusy)] s (fun s =>
    done (s.modDev (fun d => { d with resetDue := some (if n = 1 then .warm else if n = 2 then .fabric else .steward) })))

/-- DEV_SET_NUMBER (R387): the number goes to the wear book too. -/
def runDevSetNumber (c : Command) (s : State) : Ran :=
  let n := c.byte 16
  let linked := s.trunks.trunk.any (fun e => decide (e.2.state ≠ .down ∧ e.2.state ≠ .broken))
  checks [(decide (15 < n), stInvalidParam), (decide (s.pair.state ≠ .unpaired) || linked, stBusy)] s (fun s =>
    done ((s.modDev (fun d => { d with number := BitVec.ofNat 4 n })).modRecords (fun r => { r with number := BitVec.ofNat 4 n })))

/-- A key slot takes a content, in the device and in the wear book (R388). -/
def setKeySlot (i : Nat) (k : KeySlot) (s : State) : State :=
  (s.modSteward (fun x => { x with keys := Tab.set x.keys {} i k })).modRecords (fun r => { r with keys := Tab.set r.keys {} i k })

/-- DEV_SET_KEY_SLOT at commit (R388, R434): the digest's byte 0 is the command's byte 24. -/
def runDevSetKeySlot (c : Command) (s : State) : Ran :=
  checks [(decide (3 < c.byte 16 ∨ c.byte 17 ≠ 1), stInvalidParam)] s (fun s =>
    done (setKeySlot (c.byte 16) { valid := true, algorithm := 1, digest := BitVec.ofNat 256 (c.num 24 32) } s))

/-- DEV_REVOKE_KEY_SLOT at commit (R388). -/
def runDevRevokeKeySlot (c : Command) (s : State) : Ran :=
  let i := c.byte 16
  checks [(decide (3 < i) || !s.steward.keys.any (fun e => decide (e.1 ≠ i) && e.2.valid), stInvalidParam)] s (fun s =>
    done (setKeySlot i {} s))

end Sys2Proof.Machine
end

