-- ==== Sys2Proof/Machine/TimeCmd.lean ====
section
/-! DEFINITION. Teller commands of time (R410, R411, R37 to R45, R59): part of group 0x0E, the almanac's registers (R60) and the
states of its synchronisation that time alone moves (R55, R56). -/

namespace Sys2Proof.Machine

/-- The code of ALM_STATUS.sync (R60). -/
def syncCode : Sync → Nat
  | .free => 0
  | .acquiring => 1
  | .inSync => 2
  | .holdover => 3

/-- ALM_STATUS as it reads (R60): hops is 0 at the root and with no partner, which is FREE (R56). -/
def Time.status (t : Time) : Nat :=
  fieldAt t.epochGen.toNat 16 + fieldAt t.seasonK.toNat 8 + fieldAt (if t.sync = .free then 0 else t.hops.toNat) 4 + fieldAt (bit t.coarse) 3 + syncCode t.sync

/-- ALM_OFFSET as it reads (R60): 0 when FREE. -/
def Time.offsetRead (t : Time) : BitVec 32 := if t.sync = .free then 0 else t.offset

/-- The next tick boundary's almanac value (R37, R42). -/
def nextBoundary (now : BitVec 64) : BitVec 64 := BitVec.ofNat 64 (now.toNat - now.toNat % 1024 + 1024)

/-- The count that TIME_SET_EPOCH replaces (R44): at its boundary the count otherwise reached; before, that of the next boundary. -/
def State.epochBase (s : State) : BitVec 64 := s.time.epochOld.getD (nextBoundary s.now)

/-- TIME_SET_EPOCH (R44, R45, R49, R411). The boundary has loaded the value before its phases; the command counts and logs it. -/
def runTimeSetEpoch (c : Command) (s : State) : Ran :=
  let v := BitVec.ofNat 64 (c.num 16 8)
  let old := s.epochBase
  checks [(decide (s.dev.mode = .shadow ∨ s.time.sync ≠ .free), stNotInMode),
          (decide (v.toNat % 1024 ≠ 0) || (decide (v.toNat < old.toNat) && decide (s.dev.mode ≠ .sprout ∧ s.dev.mode ≠ .probe)), stInvalidParam)] s
    (fun s =>
      let s1 := s.modTime (fun t => { t with epochGen := t.epochGen + 1, coarse := false, epochOld := some v })
      done (enqueue { ledgerEntry s1 0x01 0x1D s1.time.epochGen.toNat 0 0 old v with stamp := v } s1))

/-- TIME_SET_SEASON (R38, R411): k waits for the next season boundary under the old one. -/
def runTimeSetSeason (c : Command) (s : State) : Ran :=
  checks [(decide (c.byte 16 < 10 ∨ 24 < c.byte 16), stInvalidParam), (s.time.newK.isSome, stBusy)] s (fun s =>
    queuedFor .season (s.modTime (fun t => { t with newK := some (BitVec.ofNat 5 (c.byte 16)) })))

/-- TIME_SET_ROOT (R59): at the root itself, no hops. -/
def runTimeSetRoot (c : Command) (s : State) : Ran :=
  checks [(decide (15 < c.byte 16), stInvalidParam)] s (fun s =>
    done (s.modTime (fun t => { t with root := some (BitVec.ofNat 4 (c.byte 16)), hops := if c.byte 16 = s.self then 0 else t.hops })))

/-- TIME_READ (R410). -/
def runTimeRead (_ : Command) (s : State) : Ran :=
  doneWith (bytesOf 4 32 (BitVec.ofNat 32 s.time.status) ++ bytesOf 4 32 s.time.offsetRead ++ bytesOf 8 64 s.time.seasonStart) s

/-- The almanac's advance in a correction beat, and the offset that is left to correct (R55): forward by 2, not at all, or forward by
the whole offset. A follower ahead by more than 64 holds at each correction beat until the leader has caught up, `catchUp`. DESIGN CHOICE
(log 55): a slew takes up one measurement: where no fresh one has come by the next correction beat, nothing more is corrected. -/
def correction (catchUp : Bool) (off : Int) : Nat × Option Int :=
  if off < 0 then (0, if catchUp && decide (off < -1) then some (off + 1) else none)
  else if off ≤ 64 then (1 + min 1 off.toNat, none)
  else (1 + off.toNat, none)

/-- This beat is the correction beat of a follower (R55): the count stands at 1 above a multiple of 1,024. -/
def Time.corrects (t : Time) : Bool := t.corrDue && decide (t.now.toNat % 1024 = 1) && decide (t.sync ≠ .free)

/-- The advance of the almanac in this beat (R42, R55): 1, but for a follower's correction beat. -/
def Time.advance (t : Time) : Nat × Option Int :=
  match t.measured with
  | some off => if t.corrects then correction t.catchUp off else (1, some off)
  | none => (1, none)

/-- The almanac's beat (R42, R55). DESIGN CHOICE (log 56): a step forward over a multiple of 1,024, or of the season's span, takes no tick
boundary and no season close for the multiple that it passes over; the next one reached counts. -/
def almanacBeat (s : State) : State :=
  s.modTime (fun t => { t with
    now := t.now + BitVec.ofNat 64 t.advance.1, measured := t.advance.2,
    catchUp := t.catchUp && t.advance.2.isSome, corrDue := t.corrDue && !decide (t.now.toNat % 1024 = 1) })

/-- SYNC_HOLDOVER (R56, R57). -/
def execSyncHoldover (s : State) : Out :=
  whenWf s (true) (onlyIf (s.fabricOn && decide (s.time.sync = .inSync) && decide (s.time.lastExchange + 4 ≤ s.tick)) (setSync .holdover) s)

/-- SYNC_FREE (R56). -/
def execSyncFree (s : State) : Out :=
  whenWf s (true) (onlyIf (s.fabricOn && decide (s.time.sync = .holdover) && decide (s.time.lastExchange + 64 ≤ s.tick)) (setSync .free) s)

/-- ALM_NOW_LOW_LOAD (R60): the high word is latched in the same beat. -/
def latchNow (s : State) : State := s.modTime (fun t => { t with nowHi := t.now.extractLsb' 32 32 })

/-- Meaning of ALM_NOW_LOW_LOAD. -/
def execAlmNowLowLoad (s : State) : Out := whenWf s (true) (onlyIf (s.fabricOn && s.dieUp) latchNow s)

end Sys2Proof.Machine
end

