-- ==== Sys2Proof/Machine/CsCmd.lean ====
section
/-! DEFINITION. Countersigning (R368 to R373, R408, R409): proposals, their digests and windows, group 0x0D, and the bookkeeping of a
commit. -/

namespace Sys2Proof.Machine

/-- The recording block number of the Teller (R540). -/
def blockTeller : Nat := 0x1A

/-- An opcode group's authorities where no record names them (R373). -/
def authDefault (g : Nat) : BitVec 3 := if g = 0x08 ∨ g = 0x0D then 7 else 3

/-- The authorities of an opcode group (R373). -/
def State.authOf (s : State) (g : Nat) : BitVec 3 := Tab.get s.teller.authority (authDefault g) g

/-- The canonical body of a command (R369): what it asks for, not where it was written or by whom. -/
def Command.canonical (c : Command) : List Byte :=
  let clear (hi lo : Nat) : BitVec 512 := ~~~ (BitVec.ofNat 512 (2 ^ (hi + 1) - 2 ^ lo))
  let w := c.word &&& clear 63 32 &&& clear 18 17
  let w1 := if c.extResult then w &&& clear 511 448 else w
  let w2 := if c.extParam then w1 &&& clear 191 128 else w1
  bytesOf 64 512 w2 ++ (if c.extParam then c.block else [])

/-- The digest of a command, byte 0 of it lowest (R368). -/
def Command.digest (c : Command) : BitVec 256 := BitVec.ofNat 256 (natOfBytes (sha256 c.canonical))

/-- The first 8 bytes of a proposal's digest (R368, R372). -/
def Proposal.prefix (p : Proposal) : BitVec 64 := p.digest.extractLsb' 0 64

/-- The result of a COUNTERSIGN's final receipt (R372, R408). -/
def Proposal.result (p : Proposal) : List Byte := bytesOf 8 16 p.number ++ bytesOf 8 64 p.prefix

/-- The proposal number after one (R368): 0x0001 to 0xFFFE, wrapping. -/
def afterProposal (n : BitVec 16) : BitVec 16 := if 0xFFFE ≤ n.toNat then 1 else n + 1

/-- The first number from `n` on that no outstanding proposal has (R368). -/
def freeProposal (l : List Proposal) : Nat → BitVec 16 → BitVec 16
  | 0, n => n
  | k + 1, n => if l.any (fun p => p.number == n) then freeProposal l k (afterProposal n) else n

/-- A guarded command becomes a proposal (R368, R370). -/
def propose (c : Command) (s : State) : State :=
  if 8 ≤ s.teller.proposals.length then answer c stNoResource [] none s
  else
    let n := freeProposal s.teller.proposals 9 s.teller.nextProposal
    let p : Proposal := { number := n, cmd := c, digest := c.digest, authority := BitVec.ofNat 2 (authorityOf c.ring),
                          remaining := s.teller.window.toNat }
    let s1 := s.modTeller (fun t => { t with
      proposals := t.proposals ++ [p], nextProposal := afterProposal n, expired := t.expired.filter (· ≠ n) })
    let result := bytesOf 4 16 n ++ bytesOf 4 32 s.teller.window ++ bytesOf 8 64 p.prefix
    count 26 0x03 1 (answer c stAwaiting result (some n.toNat) s1)

/-- An outstanding proposal (R370). -/
def State.proposal (s : State) (n : BitVec 16) : Option Proposal := s.teller.proposals.find? (fun p => p.number == n)

/-- Change one outstanding proposal. -/
def State.modProposal (s : State) (n : BitVec 16) (f : Proposal → Proposal) : State :=
  s.modTeller (fun t => { t with proposals := mapIf (fun p => p.number == n) f t.proposals })

/-- A proposal is outstanding no longer, and its proposer's ring gets the final receipt (R370, R371, R373). -/
def endProposal (p : Proposal) (status : Nat) (s : State) : State :=
  writeReceipt p.cmd.ring p.cmd.origin p.cmd.tag p.cmd.opcode status [] none
    (s.modTeller (fun t => { t with proposals := t.proposals.filter (fun x => x.number ≠ p.number) }))

/-- COUNTERSIGN (R371). -/
def runCountersign (c : Command) (s : State) : Ran :=
  let n := BitVec.ofNat 16 (c.num 16 2)
  match s.proposal n with
  | none => refuse (if n ∈ s.teller.expired then stExpired else stInvalidParam) s
  | some p =>
    if p.signer.isSome then refuse stBusy s
    else if authorityOf c.ring = p.authority.toNat ∨ authorityOf c.ring = 3 then refuse stDenied s
    else if c.num 24 32 ≠ p.digest.toNat then
      (.final stMismatch [], logFault 0x41 blockTeller n.toNat p.cmd.opcode.toNat c.ring p.prefix (BitVec.ofNat 64 (c.num 24 8))
        (endProposal p stMismatch s))
    else queuedFor (.countersign n) (s.modProposal n (fun x => { x with signer := some c, due := true }))

/-- CS_WITHDRAW (R373). -/
def runCsWithdraw (c : Command) (s : State) : Ran :=
  match s.proposal (BitVec.ofNat 16 (c.num 16 2)) with
  | none => refuse stInvalidParam s
  | some p => if p.signer.isSome then refuse stBusy s else done (endProposal p stAborted s)

/-- An entry of CS_LIST (R409). -/
def Proposal.listed (p : Proposal) : List Byte :=
  bytesOf 2 16 p.number ++ bytesOf 2 16 p.cmd.opcode ++
  [p.authority.zeroExtend 8, BitVec.ofNat 8 p.cmd.ring, BitVec.ofNat 8 (bit p.signer.isSome), 0] ++
  bytesOf 4 32 p.cmd.tag ++ bytesOf 4 32 (BitVec.ofNat 32 p.remaining) ++ List.replicate 16 0 ++ bytesOf 32 256 p.digest

/-- CS_LIST (R373, R408, R409): a block of 520 bytes. -/
def runCsList (_ : Command) (s : State) : Ran :=
  let l := s.teller.proposals
  doneWith (bytesOf 8 8 (BitVec.ofNat 8 l.length) ++ l.flatMap Proposal.listed ++ List.replicate (64 * (8 - l.length)) 0) s

/-- CS_SET_WINDOW at commit (R373): for later proposals. -/
def runCsSetWindow (c : Command) (s : State) : Ran :=
  checks [(decide (c.num 16 4 < 1024 ∨ 58593750 < c.num 16 4), stInvalidParam)] s (fun s =>
    done (s.modTeller (fun t => { t with window := BitVec.ofNat 32 (c.num 16 4) })))

/-- The table of CS_SET_AUTHORITY (R408). -/
def Command.masks (c : Command) : Tab (BitVec 3) :=
  (List.range 14).foldl (fun t g => Tab.set t (authDefault (g + 1)) (g + 1) (BitVec.ofNat 3 (c.byte (16 + g)))) []

/-- CS_SET_AUTHORITY at commit (R373): group 0x0D keeps two authorities or more; the table goes to the wear book too. -/
def runCsSetAuthority (c : Command) (s : State) : Ran :=
  let m := c.byte 28
  checks [(decide (bit (m.testBit 0) + bit (m.testBit 1) + bit (m.testBit 2) < 2), stInvalidParam)] s (fun s =>
    done ((s.modTeller (fun t => { t with authority := c.masks })).modRecords (fun r => { r with authority := c.masks })))

/-- A countersigned proposal is due at a boundary once its mirror record is acknowledged (R302, R372). -/
def Proposal.ready (p : Proposal) (s : State) : Bool :=
  p.due && (match p.cmd.commitSeq with | some q => !s.commitWaits q | none => true)

/-- What a commit leaves beside the command's own effect (R372): the COUNTERSIGN's final receipt carries the command's first status,
QUEUED as DONE, and the ledger gets an entry COMMIT with that first status. -/
def committed (p : Proposal) (status : Nat) (s : State) : State :=
  let s1 := finishJob (.countersign p.number) (if status = stQueued then stDone else status) p.result s
  let signer := match p.signer with | some c => authorityOf c.ring | none => 0
  count 26 0x04 1 (logFault 0x40 blockTeller p.number.toNat p.cmd.opcode.toNat
    (p.authority.toNat + fieldAt signer 2 + fieldAt status 16) p.prefix 0 s1)

/-- Whether a proposal's window closes at this boundary (R370). -/
def Proposal.expires (p : Proposal) : Bool := p.signer.isNone && decide (p.remaining ≤ 1)

/-- An uncountersigned proposal's window count reaches 0 (R370): its number is remembered as expired. -/
def expireProposal (p : Proposal) (s : State) : State :=
  endProposal p stExpired (s.modTeller (fun t => { t with expired := t.expired ++ [p.number] }))

/-- Every uncountersigned proposal's count falls by 1, and those that reach 0 expire (R370). -/
def countProposals (s : State) : State :=
  forEach (s.teller.proposals.filter Proposal.expires) expireProposal
    (s.modTeller (fun t => { t with proposals := t.proposals.map (fun p =>
      if p.signer.isNone then { p with remaining := p.remaining - 1 } else p) }))

end Sys2Proof.Machine
end

