-- ==== Sys2Proof/Machine/DieLinkEv.lean ====
section
/-! DEFINITION. The die link's own events (R28, R427 to R434, R46, R47, R450): loss and return, replays, credits, broadcasts. -/

namespace Sys2Proof.Machine

/-- Recording block of the die link and the steward (R540). -/
def blockDie : Nat := 0x1E

/-- The rings that the steward writes are paused or not (R28, R352). -/
def pauseRings (b : Bool) (s : State) : State :=
  forEach (List.range 13) (fun n t => t.modRing n (fun r => { r with paused := b })) s

/-- The die link goes down (R28, R433, R469): offers are withdrawn, rings 0 to 12 pause, source 296 is raised; each die retrains. -/
def dieDown (s : State) : State :=
  let s1 := evcLinkDown s
  let s2 := s1.modDieLink (fun l => { l with state := 0, retrains := satAdd l.retrains 1, downTick := s.tick })
  raise 296 (pauseRings true s2)

/-- Count replayed flits of a direction (R434, R450): those of the fabric die count in DL_STATUS; the 16th replay within one tick
raises source 297. -/
def countReplays (dir : LinkDir) (n : Nat) (s : State) : State :=
  let old := if s.dieLink.replayTick = s.tick then s.dieLink.tickReplays else 0
  let s1 := s.modDieLink (fun l =>
    { l with replays := if dir = .toSteward then satAdd l.replays n else l.replays, tickReplays := old + n, replayTick := s.tick })
  let s2 := if dir = .toSteward then count 26 0x09 n s1 else s1
  if old < 16 ∧ 16 ≤ old + n then raise 297 s2 else s2

/-- The sender replays every unacknowledged flit (R431), and the receiver gets the flit it expects. A flit replayed 8 times takes
the link down (R433). -/
def dieReplay (dir : LinkDir) (s : State) : State :=
  let n := (s.dieLink.dir dir).replay.length
  let s1 := s.modDir dir (fun d =>
    { d with replay := d.replay.map (fun f => { f with replays := f.replays + 1 }), ackBeat := s.time.beats, naking := false })
  let s2 := countReplays dir n s1
  if (s2.dieLink.dir dir).replay.any (fun f => decide (8 ≤ f.replays)) then dieDown s2 else s2

/-- Meaning of DIE_LINK_DOWN. -/
def execDieLinkDown (s : State) : Out := whenWf s true (onlyIf (s.fabricOn && s.dieUp) dieDown s)

/-- One direction after INIT (R433): what its receiver has taken is acknowledged, its credits are the free slots reported less the
flits to be replayed. -/
def DieDir.restart (dir : LinkDir) (free : Nat → Nat) (beat : Nat) (d : DieDir) : DieDir :=
  let left := d.replay.filter (fun f => decide (seqDist10 d.exp f.seq < 512))
  let used (ch : Nat) : Nat := ((left.filter (fun f => f.channel == ch)).map (·.flits)).sum
  let d1 : DieDir := { d with replay := left.map (fun f => { f with replays := 0 }), acked := d.exp - 1, ackBeat := beat, naking := false,
                              owed := [] }
  (List.range 6).foldl (fun x ch => x.setCredit dir ch (min (dieSlots dir ch) (free ch) - used ch)) d1

/-- The die link is up (R28, R433, R470): credits are restored, unacknowledged flits are replayed in order, rings 0 to 12 go on,
source 296 is raised and offers resume. -/
def dieUpOp (free : List Nat) (s : State) : State :=
  let s1 := s.modDir .toSteward (DieDir.restart .toSteward (fun ch => (free[ch]?).getD 0) s.time.beats)
  let s2 := s1.modDir .toFabric (DieDir.restart .toFabric (dieSlots .toFabric) s.time.beats)
  let s3 := countReplays .toSteward s2.dieLink.toSteward.replay.length
    (countReplays .toFabric s2.dieLink.toFabric.replay.length (s2.modDieLink (fun l => { l with state := 2 })))
  let s4 := raise 296 (pauseRings false s3)
  let s5 := postedAcked (diePump .toFabric (diePump .toSteward s4))
  evcReviewAll (forEach (List.range 4) evcResolve s5)

/-- Meaning of DIE_LINK_UP: from stage 4 on (R475). -/
def execDieLinkUp (free : List Nat) (s : State) : Out :=
  whenWf s true (onlyIf (s.fabricOn && decide (4 ≤ s.dev.stage.toNat) && !s.dieUp) (dieUpOp free) s)

/-- A NAK names the flit that the receiver of a direction expects (R431): those before it have arrived and are acknowledged, the
others are replayed. -/
def dieNak (dir : LinkDir) (expected : BitVec 10) (s : State) : State :=
  let before (f : DieFlit) : Bool := decide (0 < seqDist10 f.seq expected ∧ seqDist10 f.seq expected < 512)
  let s1 := match dir with
    | .toSteward =>
      let due := s.dieLink.toSteward.inFlight.filter before
      deliverUpTo (fun _ => false) due s
    | .toFabric => s
  dieReplay dir (dieAck dir (expected - 1) s1)

/-- A NAK's number lies where it can: at the receiver's expected flit, and for the steward also at one sent after it (R431). -/
def State.nakFits (s : State) (dir : LinkDir) (expected : BitVec 10) : Bool :=
  let d := s.dieLink.dir dir
  expected == d.exp || (decide (dir = .toSteward) && decide (seqDist10 d.exp expected ≤ seqDist10 d.exp d.nextSeq ∧
    seqDist10 d.exp expected < 512))

/-- Meaning of DIE_LINK_NAK. -/
def execDieLinkNak (dir : LinkDir) (expected : BitVec 10) (s : State) : Out :=
  whenWf s true (onlyIf (s.fabricOn && s.dieUp && s.nakFits dir expected) (dieNak dir expected) s)

/-- Meaning of DIE_LINK_CREDIT: the flit acknowledges what its sender has received, and returns slots of one channel (R428, R430). -/
def execDieLinkCredit (dir : LinkDir) (channel count : Nat) (s : State) : Out :=
  whenWf s (decide (channel < 8) && decide (count < 64)) (onlyIf (s.fabricOn && s.dieUp) (fun t =>
    let t1 := t.modDir dir (DieDir.giveBack dir channel count)
    let ack := (t1.dieLink.dir dir).exp - 1
    let keep (d : DieDir) : DieDir :=
      { d with replay := d.replay.filter (fun f => !decide (seqDist10 f.seq ack < 512)), acked := ack,
               ackBeat := if d.acked = ack then d.ackBeat else t.time.beats }
    evcReviewAll (forEach (List.range 4) evcResolve (postedAcked (diePump dir (t1.modDir dir keep))))) s)

/-- Meaning of DIE_LINK_REPLAY_TIMEOUT. -/
def execDieLinkReplayTimeout (dir : LinkDir) (s : State) : Out :=
  let d := s.dieLink.dir dir
  whenWf s true (onlyIf (s.fabricOn && s.dieUp && !d.replay.isEmpty && decide (d.ackBeat + 256 ≤ s.time.beats)) (dieReplay dir) s)

/-- An access that waits on the die link ends in an access fault (R433, R469). -/
def accessTimeout (hart : Nat) (s : State) : State :=
  localAnswer hart cplError 0x01 (s.modHart hart (Hart.accessOver cplError))

/-- Meaning of DIE_LINK_ACCESS_TIMEOUT. -/
def execDieLinkAccessTimeout (hart : Nat) (s : State) : Out :=
  whenWf s (decide (hart < 4)) (onlyIf (s.fabricOn && !s.dieUp && (s.hart hart).waits.isSome &&
    decide (s.dieLink.downTick + 1024 ≤ s.tick)) (accessTimeout hart) s)

/-- Meaning of DIE_LINK_CRC_ERROR: the flit is discarded, NAK is sent, and later flits are discarded until the expected one arrives
(R431); the fabric die counts it (R434). -/
def execDieLinkCrcError (dir : LinkDir) (s : State) : Out :=
  whenWf s true (onlyIf (s.fabricOn && s.dieUp) (fun t =>
    t.modDieLink (fun l =>
      let l1 := l.modDir dir (fun d => { d with naking := true })
      { l1 with errors := if dir = .toFabric then satAdd l.errors 1 else l.errors })) s)

/-- Whether R429 defines a message type for a channel. -/
def dieTypeKnown (ch typ : Nat) : Bool :=
  if ch = 0 then 1 ≤ typ && typ ≤ 3 else if ch = 1 then 1 ≤ typ && typ ≤ 3 else if ch = 2 then typ == 1
  else if ch = 3 then 1 ≤ typ && typ ≤ 5 else if ch = 4 then 1 ≤ typ && typ ≤ 4 else if ch = 5 then typ == 1
  else ch == 6 && 1 ≤ typ && typ ≤ 3

/-- A flit that passes its CRC but is malformed (R432). -/
def headerMalformed (h : DieHeader) : Bool := decide (h.channel = 7 ∨ 52 < h.length) || !dieTypeKnown h.channel h.typ

/-- A malformed flit (R432): taken in sequence, its acknowledgement and credits applied, its slot freed; its content is discarded, and a
request it opened is answered with error 0x03. -/
def malformedFlit (dir : LinkDir) (h : DieHeader) (s : State) : State :=
  let s1 := if h.channel = 6 then s else
    s.modDir dir (fun d => { d with nextSeq := h.seq + 1, exp := h.seq + 1 })
  let s2 := dieAck (otherDir dir) h.ack
    (s1.modDir (otherDir dir) (DieDir.giveBack (otherDir dir) h.creditCh h.creditCount))
  match dir with
  | .toSteward => s2
  | .toFabric =>
    let s3 := s2.modDieLink (fun l => { l with errors := satAdd l.errors 1 })
    if (h.channel = 0 ∨ h.channel = 3) ∧ h.first then
      dieSend .toSteward chCompletion h.hart h.txn 1 (.completion cplError 0x03)
        (s3.modBridge (fun b => { b with answers := (h.hart, cplError, 0x03) :: b.answers }))
    else s3

/-- A malformed flit arrives in sequence: nothing its sender sent before it is still on its way. -/
def State.malformedArrives (s : State) (dir : LinkDir) (h : DieHeader) : Bool :=
  let d := s.dieLink.dir dir
  s.fabricOn && s.dieUp && headerMalformed h && (decide (h.channel = 6) || (!d.naking && d.inFlight.isEmpty && h.seq == d.exp))

/-- Meaning of DIE_LINK_MALFORMED_FLIT. -/
def execDieLinkMalformedFlit (dir : LinkDir) (hdr : DieHeader) (s : State) : Out :=
  whenWf s (true) (onlyIf (s.malformedArrives dir hdr) (malformedFlit dir hdr) s)

/-- The boundary's broadcast crosses the link (R46). DESIGN CHOICE (log 101): one that the link's being down has held past beat 8 of its tick
brings the almanac's value as it leaves, once the link is up. -/
def broadcastOp (s : State) : State :=
  let v := if s.now.toNat % 1024 ≤ 8 then s.now &&& 0xFFFFFFFFFFFFFC00#64 else s.now
  deliverNext (fun f => f.channel == chTime)
    (dieSend .toSteward chTime 0 0 1 (.almanac v) (s.modTime (fun t => { t with broadcastDue := false })))

/-- Meaning of ALMANAC_BROADCAST. -/
def execAlmanacBroadcast (s : State) : Out :=
  whenWf s true (onlyIf (s.fabricOn && s.dieUp && s.time.broadcastDue) broadcastOp s)

/-- Meaning of POSTED_IN_WRITE: the next posted write on its way reaches steward SRAM. -/
def execPostedInWrite (s : State) : Out :=
  whenWf s true (onlyIf s.fabricOn (deliverNext (fun f => f.channel == chPosted)) s)

end Sys2Proof.Machine
end

