-- ==== Sys2Proof/Machine/StewardEv.lean ====
section
/-! DEFINITION. The steward die's events (R419 to R426, R451, R470, R479, R487): boot, watchdog, QSPI, steward-only reset. -/

namespace Sys2Proof.Machine

/-- A write of QSPI_CMD (R424, R11, R15): a length above 64 leaves the field as it was; its other fields are stored and go set; a set that finds go 1 is remembered for its beat. -/
def qspiWrite (v : BitVec 32) (s : State) : State :=
  s.modSteward (fun x => { x with
    qspiCmd := (v &&& 0x00FF0003) ||| ((if 64 < bitsOf v 15 8 then x.qspiCmd else v) &&& 0xFF00) ||| (x.qspiCmd &&& 1),
    qspiAgain := if v.getLsbD 0 && x.qspiCmd.getLsbD 0 then some s.time.beats else x.qspiAgain })

/-- Meaning of QSPI_TRANSFER: a write of QSPI_CMD that sets go. -/
def execQspiTransfer (value : BitVec 32) (s : State) : Out :=
  whenWf s true (onlyIf (!s.steward.inReset) (qspiWrite (value ||| 1)) s)

/-- A load of execute-in-place space is answered (R418, R424): the flash behind it is another device, and its bytes are free values (log 61). -/
def flashLoad (hart size : Nat) (s : State) : State :=
  let f := takeFree s
  localAnswer hart cplData (BitVec.ofNat 64 (f.1.toNat % 2 ^ (8 * size))) f.2

/-- A load of execute-in-place space (R424): it stalls while a transfer runs. -/
def xipLoad (hart : Nat) (address : BitVec 64) (size : Nat) (s : State) : State :=
  if s.steward.qspiCmd.getLsbD 0 then s.modHart hart (fun h => { h with stalled := some (address, size) }) else flashLoad hart size s

/-- The loads that a transfer has stalled are answered (R424). -/
def xipResume (s : State) : State :=
  forEach (s.steward.harts.filter (fun h => h.2.stalled.isSome)) (fun h t => match h.2.stalled with
    | some l => flashLoad h.1 l.2 (t.modHart h.1 (fun x => { x with stalled := none }))
    | none => t) s

/-- The transfer ends (R424): received data fills the buffer, and go clears, unless it was set again in this very beat (R11); loads of
execute-in-place space that it stalled go on. -/
def qspiDone (data : List Byte) (s : State) : State :=
  let s1 := s.modSteward (fun x =>
    let n := min 64 (bitsOf x.qspiCmd 15 8)
    { x with qspiData := if x.qspiCmd.getLsbD 1 then x.qspiData else memWrite 0 x.qspiData 0 (data.take n),
             qspiCmd := if x.qspiAgain = some s.time.beats then x.qspiCmd else x.qspiCmd &&& 0xFFFFFFFE, qspiAgain := none })
  if s1.steward.qspiCmd.getLsbD 0 then s1 else xipResume s1

/-- Meaning of QSPI_TRANSFER_DONE. -/
def execQspiTransferDone (data : List Byte) (s : State) : Out :=
  whenWf s true (onlyIf (!s.steward.inReset && s.steward.qspiCmd.getLsbD 0) (qspiDone data) s)

/-- The interrupts of the harts (R412, R414): one that is pending, enabled and takeable is taken at the next instruction boundary, which is
within the beat (log 113). -/
def hartInterrupts (s : State) : State :=
  if s.steward.inReset then s
  else forEach ((s.steward.harts.filter (fun h => h.2.enables != 0)).map (·.1)) (fun h t =>
    match (t.hart h).interrupt (t.hartPending h (stewardTime t)) with
    | some i => t.modHart h (fun x => x.trap true i 0)
    | none => t) s

/-- kick: the watchdog's count restarts (R425). -/
def wdtKick (s : State) : State := s.modSteward (fun x => { x with wdtStart := s.tick })

/-- enable: the watchdog runs from now on (R425). -/
def wdtEnable (s : State) : State :=
  s.modSteward (fun x => if x.wdtEnable then x else { x with wdtEnable := true, wdtStart := s.tick })

/-- Meaning of WATCHDOG_KICK. -/
def execWatchdogKick (s : State) : Out := whenWf s true (onlyIf (!s.steward.inReset) wdtKick s)

/-- Meaning of WATCHDOG_ENABLE. -/
def execWatchdogEnable (s : State) : Out := whenWf s true (onlyIf (!s.steward.inReset) wdtEnable s)

/-- The steward die in reset (R419, R415, R424): its registers at their reset values, its harts as they start; the key slots and the
boot floor stay, and the pins keep their levels. -/
def Steward.afterReset (x : Steward) : Steward :=
  { inReset := true, gpioIn := x.gpioIn, bootFloor := x.bootFloor, keys := x.keys }

/-- The die link when the steward die is reset: down, with nothing in either direction (R470, R433). -/
def DieLink.afterReset (l : DieLink) (tick : Nat) : DieLink :=
  { replays := l.replays, retrains := l.retrains, errors := l.errors, downTick := tick, tickReplays := l.tickReplays,
    replayTick := l.replayTick }

/-- A steward-only reset (R28, R451, R470, R487, R488): the datapath runs on, rings 0 to 12 pause, the steward restarts. -/
def stewardReset (s : State) : State :=
  let wasUp := s.dieUp
  let s1 := bridgeStewardReset (evcStewardReset (pauseRings true s))
  let s2 := s1.modBridge (fun b => { b with posted := [] })
  let s3 := (s2.modDieLink (fun l => l.afterReset s.tick)).modSteward Steward.afterReset
  let s4 := s3.modTime (fun t => { t with stewardCopy := 0, stewardBeat := t.beats })
  if wasUp then raise 296 s4 else s4

/-- Meaning of WATCHDOG_EXPIRY (R425): a steward-only reset, and source 304 after it. -/
def execWatchdogExpiry (s : State) : Out :=
  whenWf s true (onlyIf (s.fabricOn && s.steward.wdtEnable &&
    decide (s.steward.wdtStart + 1024 * s.steward.wdtTimeout.toNat ≤ s.tick)) (fun t => raise 304 (stewardReset t)) s)

/-- The checks of R421 that an image fails, bit k for the k-th of them (log 30); an absent image fails the first. -/
def bootChecks (x : Steward) (img : Option BootImage) : Nat :=
  match img with
  | none => 1
  | some i =>
    let key := x.keys.any (fun k => k.2.valid && decide (k.2.algorithm = 1) && k.2.digest == i.keyDigest)
    bit !(i.formatGood && i.reservedGood) +
    fieldAt (bit !(decide (0x08000000 ≤ i.load ∧ i.load + i.length ≤ 0x0A000000))) 1 +
    fieldAt (bit !(decide (x.bootFloor.toNat ≤ i.svn))) 2 + fieldAt (bit !key) 3 + fieldAt (bit !(Config.signatureGood i)) 4

/-- Whether slot B is tried first: its header has the higher version (R419). -/
def secondFirst (a b : Option BootImage) : Bool :=
  match a, b with
  | some x, some y => decide (x.version.toNat < y.version.toNat)
  | none, some _ => true
  | _, _ => false

/-- The image that boots (R419): its slot code (R434) and itself. -/
def bootChoice (x : Steward) (a b : Option BootImage) : Option (Nat × BootImage) :=
  let one (slot : Nat) (i : Option BootImage) : Option (Nat × BootImage) :=
    if bootChecks x i = 0 then i.map (fun v => (slot, v)) else none
  if secondFirst a b then (one 2 b).orElse (fun _ => one 1 a) else (one 1 a).orElse (fun _ => one 2 b)

/-- The steward starts an image (R419, R422): SRAM holds its body, every hart is at its entry, and the floor follows svn. -/
def startImage (slot : Nat) (i : BootImage) (s : State) : State :=
  let raises := i.raiseFloor && decide (s.steward.bootFloor.toNat < i.svn)
  let body := i.body.take i.length
  let s1 := s.modSteward (fun x => { x with
    inReset := false, sram := memWrite 0 [] (i.load - 0x08000000) body, svn := BitVec.ofNat 16 i.svn, raiseFloor := raises,
    slot := BitVec.ofNat 2 slot, stage := 3,
    bootFloor := if raises then BitVec.ofNat 16 i.svn else x.bootFloor })
  let s2 := if raises then s1.modRecords (fun r => { r with bootFloor := BitVec.ofNat 16 i.svn }) else s1
  forEach (List.range 4) (fun h t => t.modHart h (fun x => { x with released := true, pc := BitVec.ofNat 64 i.entry })) s2

/-- Neither image is valid (R423, R479): stage 0xE, every hart halted, a BOOT_FAIL entry and source 6. -/
def bootFails (a b : Option BootImage) (s : State) : State :=
  let s1 := s.modSteward (fun x => { x with inReset := false, sram := [], stage := 0xE })
  let s2 := forEach (List.range 4) (fun h t => t.modHart h (fun x => { x with halted := true, mie := false })) s1
  raise 6 (logFault 0x05 blockDie 0xE 0 (bootChecks s.steward a + fieldAt (bootChecks s.steward b) 16) 0 0 s2)

/-- STEWARD_BOOT (R419). -/
def stewardBootOp (a b : Option BootImage) (s : State) : State :=
  match bootChoice s.steward a b with
  | some c => startImage c.1 c.2 s
  | none => bootFails a b s

/-- Meaning of STEWARD_BOOT: the steward die leaves reset in stage 4 (R475), or after its own reset. -/
def execStewardBoot (imageA imageB : Option BootImage) (s : State) : Out :=
  whenWf s true (onlyIf (s.fabricOn && s.steward.inReset && decide (4 ≤ s.dev.stage.toNat)) (stewardBootOp imageA imageB) s)

end Sys2Proof.Machine
end

