-- ==== Sys2Proof/Machine/Resets.lean ====
section
/-! DEFINITION. Staged start, DORMANT and the reset scopes of the device (R474 to R480, R485 to R491). -/

namespace Sys2Proof.Machine

/-- The latest sample of a cumulative monitor, 0 where it has none. -/
def Wear.total (w : Wear) (cls inst : Nat) : Nat := let v := latestSample w cls inst; if v = 0xFFFFFFFF then 0 else v

/-- What the fabric die gathers for the wear book is lost with its state (R551, R552): running totals go on from the last sample. -/
def Wear.lost (w : Wear) (keepWrites : Bool) : Wear :=
  let w1 := { w with writes := if keepWrites then w.writes else [] }
  let lanes := (w1.laneLos.map (·.1) ++ w1.laneLol.map (·.1)).dedup
  { w1 with
    gather := [], laneChanged := [], celsius := 0, thermalTick := 0, extreme := 0, risen := false, cycles := w.total 5 0,
    binTicks := w.total 6 0 * (100 * 3600 * 10 ^ 9) / 1024,
    charge := (List.range 5).foldl (fun t i => Tab.set t 0 i (w.total 7 i * (1000 * 3600 * 10 ^ 9) / (1024 * ratedCurrent i))) [],
    laneLos := lanes.foldl (fun t l => Tab.set t 0 l (BitVec.ofNat 32 (w1.bookLane l).1)) [],
    laneLol := lanes.foldl (fun t l => Tab.set t 0 l (BitVec.ofNat 32 (w1.bookLane l).2)) [] }

/-- A lane after a reset: a running scan has been aborted (R259). -/
def Lane.afterReset (l : Lane) : Lane := if l.marginStatus = 3 then { marginStatus := 2 } else {}

/-- The tables, queues and engines of the fabric die at their reset values (R488), with its counters, statistics and trace (R537). -/
def resetFabric (s : State) : State :=
  let s1 := (((((s.setPool {}).setHome {}).setSwitch {}).setPorts {}).setTrunks {}).setBarrow {}
  let s2 := (s1.setBridge {}).setLanes { lane := s.lanes.lane.foldl (fun t e => Tab.set t {} e.1 e.2.afterReset) [] }
  let s3 := s2.setPair { pinAlive := s.pair.pinAlive, pinEdge := s.pair.pinEdge }
  resetCounters (s3.setTeller { csAddress := s.teller.csAddress, ibi := s.teller.ibi })

/-- The device's own state as staged start begins (R475, R480): the mode is changed by what follows. -/
def Dev.restart (d : Dev) (code : Nat) (tick : Nat) : Dev :=
  { mode := d.mode, stage := 2, lastReset := BitVec.ofNat 4 code, vaux := true, pkgReset := false, inReset := false, recordsDue := true,
    stageTick := tick, thermalTripped := d.thermalTripped, vid := d.vid, vidTicks := d.vidTicks, wakeStamp := d.wakeStamp }

/-- The fabric die's part of the power link at its reset values; the power die stands as it is (R488, R520). PG, TRIP and PERST_N
are levels of lines (R33, R508). -/
def Power.fabricReset (p : Power) : Power :=
  { ready := p.ready, channels := p.channels, feedA := p.feedA, feedB := p.feedB, codeA := p.codeA, codeB := p.codeB,
    selected := p.selected, switchingTo := p.switchingTo,
    switchSince := p.switchSince, brownout := p.brownout, branches := p.branches, temperature := p.temperature, overflow := p.overflow,
    alarms := p.alarms, responses := p.responses, wearAnswered := p.wearAnswered, wearReads := p.wearReads,
    copies := p.copies.foldl (fun t e => Tab.set t {} e.1 { pg := e.2.pg, trip := e.2.trip, perst := e.2.perst, pgTick := e.2.pgTick }) [] }

/-- The sums of R513 are lost with the fabric die's state. -/
def Power.dropSums (p : Power) : Power :=
  { p with copies := p.copies.foldl (fun t e => Tab.set t {} e.1 { e.2 with drops := 0, currents := 0 }) [] }

/-- Everything but the power die and the wear book at its reset value, and the fabric die in reset (R487, R488, R491): a cold reset. The
mode is SPROUT from now on; the fabric die records the transition once it is out of reset (R385, R482). -/
def coldReset (code : Nat) (s : State) : State :=
  let s1 := evcReset (resetFabric s)
  let s2 := s1.setTeller {}
  let s3 := (s2.setPair {}).setSteward { gpioIn := s.steward.gpioIn }
  let s4 := (s3.setDieLink {}).setDev {
    vaux := s.dev.vaux, lastReset := BitVec.ofNat 4 code, thermalTripped := s.dev.thermalTripped,
    sproutDue := s.dev.sproutDue || decide (s.dev.mode ≠ .sprout) }
  let s5 := s4.setTime { beats := s.time.beats, ticks := s.time.ticks, stewardBeat := s.time.beats }
  (s5.setLedger { psn := s.ledger.psn, slots := s.ledger.slots, nextSlot := s.ledger.nextSlot }).modWear (fun w => w.lost false)

/-- A channel at VAUX power-on (R520): one with presence starts DEBOUNCE. -/
def Channel.atPowerOn (present : Bool) (now : Nat) : Channel := Channel.coldReset { prsnt := present } now

/-- The channels with a device seated in those of a list. -/
def channelsWith (present : List Nat) (now : Nat) : Tab Channel :=
  (List.range 48).foldl (fun t c => Tab.set t {} c (Channel.atPowerOn (present.contains c) now)) []

/-- VAUX_POWER_ON (R475, R510, R520): the power die starts, with the feeds and the seated devices given. -/
def vauxPowerOn (present : List Nat) (goodA goodB : Bool) (s : State) : State :=
  let s1 := coldReset 0 (s.modDev (fun d => { d with vaux := true, thermalTripped := false, mode := .sprout, sproutDue := false }))
  feedReview (s1.setPower {
    ready := true, channels := channelsWith present s.sample,
    feedA := { good := goodA, bad := !goodA, goodSince := s.sample }, feedB := { good := goodB, bad := !goodB, goodSince := s.sample },
    wearReads := s.power.wearReads })

/-- VAUX_LOSS (R491, R561): the power die and the fabric die's always-on domain are held in reset. -/
def vauxLoss (s : State) : State :=
  (coldReset 0 (s.modDev (fun d => { d with vaux := false }))).setPower { wearReads := s.power.wearReads }

/-- PKG_RESET_N falls (R487, R488, R520). -/
def pkgReset (present : List Nat) (s : State) : State :=
  let s1 := s.modPower (fun p => { p with channels := channelsWith present s.sample })
  (coldReset 1 (powerPkgReset s1)).modPower (fun p => { p.fabricReset with copies := [] })

/-- FABRIC_RESET_RELEASE (R42, R474, R475, R559): the fabric die leaves reset and stage 2 begins. A cold reset that ended another mode leaves
its record on ring 15, with event 2 (R385, R482). -/
def releaseFabric (s : State) : State :=
  let s1 := s.modDev (fun d =>
    { (d.restart d.lastReset.toNat s.tick) with mode := .sprout, thermalTripped := false, vid := Config.vidTarget.val, vidTicks := s.tick })
  let s2 := if s.dev.sproutDue then recordTransition .sprout (raise 2 s1) else s1
  driveInput 291 s.power.brownout (pushFrames allReads (s2.modTime (fun t => { t with running := true })))

/-- The records with the defaults of those that fail at load (R476). -/
def Records.loaded (r : Records) (bad : BitVec 5) : Records :=
  let r1 := if bad.getLsbD 0 then { r with ports := [], trunks := [] } else r
  let r2 := if bad.getLsbD 1 then { r1 with authority := [] } else r1
  let r3 := if bad.getLsbD 2 then { r2 with keys := [], bootFloor := 0xFFFF } else r2
  let r4 := if bad.getLsbD 3 then { r3 with number := 0 } else r3
  if bad.getLsbD 4 then { r4 with generation := 0, partnerSerial := 0, station := 0, pinPromote := true, paired := true } else r4

/-- The state that the records load (R476). The pair state stays UNPAIRED until SPROUT is left (R307). -/
def applyRecords (r : Records) (s : State) : State :=
  let s1 := s.modPorts (fun x => { x with 
    port := r.ports.foldl (fun t e => Tab.set t {} e.1 { entry := e.2, downCount := (Tab.get x.port {} e.1).downCount })
      (x.port.foldl (fun t e => Tab.set t {} e.1 { downCount := e.2.downCount }) []) })
  let s2 := forEach r.trunks (fun e t => t.modTrunk e.1 (fun x => { x with entry := e.2, nextEntry := none })) s1
  let s3 := (s2.modTeller (fun t => { t with authority := r.authority })).modSteward (fun x => { x with keys := r.keys, bootFloor := r.bootFloor })
  (s3.modDev (fun d => { d with number := r.number })).modPair (fun p =>
    { p with generation := r.generation, partnerSerial := r.partnerSerial, station := r.station, pinPromote := r.pinPromote })

/-- The end of stage 2 after a warm or fabric-only reset (R489). -/
def resetDone (s : State) : State :=
  match s.dev.resetScope with
  | some x =>
    raise 11 (logFault 0x03 blockDevice (if x = .warm then 1 else 2) 0 0 0 0 (s.modDev (fun d => { d with resetScope := none })))
  | none => s

/-- RECORDS_LOADED (R475, R476): stage 2 ends, stages 3 and 4 begin. -/
def recordsLoadedOp (bad : BitVec 5) (s : State) : State :=
  let r := s.records.loaded bad
  let s1 := applyRecords r (s.setRecords r)
  let s2 := forEach ((List.range 5).filter (fun i => bad.getLsbD i)) (fun _ t => raise 7 t)
    (s1.modDev (fun d => { d with stage := 4, recordsDue := false, loadErrors := bad }))
  let s3 := resetDone s2
  forEach (s3.portsWhere (·.isTrunk)) (fun q t => startHello (stationOf q) t) s3

/-- The result of BIST takes effect at its boundary (R475, R478). -/
def bistEffect (s : State) : State :=
  match s.dev.bistWait with
  | none => s
  | some [] =>
    startWaitingRamps (gatherRepairs (s.modDev (fun d =>
      { d with bistWait := none, bistDone := true, slotHold := false, stage := if d.stage = 4 then 5 else d.stage })))
  | some l =>
    driveInput 5 true (forEach l (fun x t => logFault 0x04 blockDevice x.1 x.2 0 0 0 t)
      (gatherRepairs (s.modDev (fun d => { d with bistWait := none, bistFail := true, stage := 6 }))))

/-- A port's link is in L0 (R207, R228): of a port of role TRUNK the trunk's link is its own. -/
def State.linkUp (s : State) (port : Nat) : Bool :=
  let p := s.port port
  if p.isTrunk then decide (s.trunkPort (port / 8) = port ∧ ((s.trunk (port / 8)).state = .up ∨ (s.trunk (port / 8)).state = .retrain)) else p.inL0

/-- What counts since cold reset goes on counting over a warm and a fabric-only reset (R228, R257, R293): the reset takes every link down. -/
def keepTotals (old s : State) : State :=
  let s1 := forEach old.ports.port (fun e t => t.modPort e.1 (fun p =>
    { p with downCount := if old.linkUp e.1 then satAdd e.2.downCount 1 else e.2.downCount })) s
  let s2 := forEach old.lanes.lane (fun e t => t.modLane e.1 (fun l => { l with losCount := e.2.losCount, lolCount := e.2.lolCount })) s1
  forEach old.trunks.trunk (fun e t => t.modTrunk e.1 (fun x => { x with replays := e.2.replays, retrains := e.2.retrains })) s2

/-- A warm or fabric-only reset begins (R386, R487, R488, R489): links go down with everything that they served, and stage 2 runs. -/
def resetStartOp (sc : Scope) (s : State) : State :=
  let warm := decide (sc = .warm)
  let s1 := keepTotals s (resetFabric s)
  let s2 := if warm then (evcReset s1).modSteward Steward.afterReset else pauseRings true (evcFabricReset s1)
  let s3 := (s2.setDieLink { downTick := s.tick }).modPower Power.dropSums
  let s4 := s3.setDev { (s.dev.restart (if warm then 2 else 3) s.tick) with resetScope := some sc }
  let s5 := (s4.modWear (fun w => w.lost true)).modTime (fun t =>
    { t with newK := none, root := none, hops := 0, requestT1 := none,
             stewardCopy := if warm then 0 else t.stewardCopy, stewardBeat := if warm then t.beats else t.stewardBeat })
  hwChangeMode .sprout (pushFrames allReads (s5.modPair (fun p => { p with recovery := !warm })))

/-- What the always-on domain keeps of ring 13 in DORMANT (R485, R488). -/
def Teller.retained (t : Teller) : Teller :=
  let r := Tab.get t.rings (ringReset 13) 13
  { rings := Tab.set [] (ringReset 13) 13 { r with
      deferred := [], firstOpen := false, history := r.history.map (fun e => { e with executing := false }) },
    mem := t.mem.filter (fun e => decide (13 * 0x8000 ≤ e.1 ∧ e.1 < 14 * 0x8000)), csAddress := t.csAddress, ibi := t.ibi }

/-- What the always-on domain keeps of the EVC in DORMANT (R472, R488). -/
def Evc.retained (e : Evc) : Evc :=
  { e with targets := (List.range 4).foldl (fun t i =>
      let x := Tab.get e.targets {} i
      Tab.set t {} i { faultPending := x.faultPending, faultCount := x.faultCount, expected := x.expected, offending := x.offending,
                       second := x.second, faultStamp := x.faultStamp }) [] }

/-- DORMANT is entered (R48, R472, R482, R485, R488). -/
def enterDormant (s0 : State) : State :=
  let s := raise 2 s0
  let s1 := resetFabric s
  let s2 := (s1.setTeller s.teller.retained).setEvc s.evc.retained
  let s3 := ((s2.modSteward Steward.afterReset).setDieLink { downTick := s.tick }).modPower Power.fabricReset
  let s4 := (s3.setDev { (s.dev.restart s.dev.lastReset.toNat s.dev.stageTick) with mode := .dormant, stage := 0, recordsDue := false }).setLedger
    { psn := s.ledger.psn, slots := s.ledger.slots, nextSlot := s.ledger.nextSlot }
  (s4.modWear (fun w => w.lost false)).modTime (fun t => { t with
    running := false, dormantE := t.now, dormantUs := 0, dormantBeat := t.beats, newK := none, root := none, hops := 0, requestT1 := none,
    stewardCopy := 0, stewardBeat := t.beats })

/-- The almanac's value as it resumes (R49): `us` is the microsecond count as FCLK became stable. -/
def wakeValue (e : BitVec 64) (us : Nat) : Nat := (e.toNat + 1000 * (us + 1) + 1023) / 1024 * 1024

/-- WAKE (R48 to R50, R472, R486): FCLK is stable within 2,048 ticks of the wake event, after a free number of microseconds. -/
def wakeOp (s : State) : State :=
  let f := takeFree s
  let n := s.time.dormantUs
  let d := f.1.toNat % 2098
  let e := s.time.dormantE
  let w := wakeValue e (n + d)
  let stamp := BitVec.ofNat 64 (e.toNat + 1000 * n)
  let span := s.seasonBeats
  let s1 := f.2.modTime (fun t => { t with
    beats := t.beats + 1000 * d, running := true, now := BitVec.ofNat 64 w, coarse := true, spanning := true,
    seasonDue := t.seasonDue || decide (e.toNat / span < w / span) })
  let s2 := (s1.setDev { (s.dev.restart 4 s.tick) with wakeStamp := stamp }).modEvc (fun x => { x with offersStopped := false })
  let s3 := (raise 10 (hwChangeMode .sprout s2)).modSource 10 (fun x => { x with stamp := stamp })
  driveInput 291 s.power.brownout (pushFrames allReads s3)

/-- Meaning of VAUX_POWER_ON. -/
def execVauxPowerOn (present : List Nat) (goodA goodB : Bool) (s : State) : Out :=
  whenWf s (true) (onlyIf (!s.dev.vaux) (vauxPowerOn present goodA goodB) s)

/-- Meaning of VAUX_LOSS. -/
def execVauxLoss (s : State) : Out := whenWf s (true) (onlyIf s.dev.vaux vauxLoss s)

/-- Meaning of PKG_RESET_ASSERT: it ends any other reset or transition (R489). -/
def execPkgResetAssert (present : List Nat) (s : State) : Out :=
  whenWf s (true) (onlyIf (s.dev.vaux && !s.dev.pkgReset) (pkgReset present) s)

/-- Meaning of FABRIC_RESET_RELEASE. -/
def execFabricResetRelease (s : State) : Out :=
  whenWf s (true) (onlyIf (s.dev.vaux && s.power.ready && s.dev.inReset) releaseFabric s)

/-- Meaning of RECORDS_LOADED. -/
def execRecordsLoaded (bad : BitVec 5) (s : State) : Out :=
  whenWf s (true) (onlyIf (s.fabricOn && s.dev.recordsDue) (recordsLoadedOp bad) s)

/-- Meaning of BIST_RESULT: the result waits for its tick boundary (R475). -/
def execBistResult (failures : List (Nat × Nat)) (s : State) : Out :=
  whenWf s (true) (onlyIf (s.fabricOn && decide (s.dev.stage = 4) && !s.dev.bistDone && !s.dev.bistFail)
    (fun t => t.modDev (fun d => { d with bistWait := some failures })) s)

/-- Meaning of WAKE. -/
def execWake (source : WakeSource) (s : State) : Out :=
  whenWf s (true) (onlyIf (decide (s.dev.mode = .dormant) && !s.dev.inReset) wakeOp s)

end Sys2Proof.Machine
end

