-- ==== Sys2Proof/Machine/Catalogue.lean ====
section
/-! DEFINITION. The command catalogue (R374 to R378, R384 to R410): what the Teller knows of each opcode, and R578's reserved bytes. -/

namespace Sys2Proof.Machine

/-- How a command ends (R378): at once; at a tick boundary; QUEUED from its start; QUEUED while its effect waits for the boundary, or at
the boundary with one receipt ("tick; Q"). -/
inductive Ends where
  | imm
  | tick
  | queued
  | tickQueued
  deriving DecidableEq, Repr

/-- A row of the catalogue. `named` lists the bytes that the parameters name, as runs (first, bytes, mask of the bits named): of the
command, or of its parameter block. A mode mask has SPROUT in bit 0, then GROW, SHADOW, FALLOW, PROBE. -/
structure OpInfo where
  modes : Nat                             -- R378 Modes
  ends : Ends                             -- R378 Ends
  guarded : Bool := false                 -- R378 Guarded
  named : List (Nat × Nat × Nat)          -- R376: bytes and bits that the table names
  block : Nat := 0                        -- R376: "block n" parameters, 0 for the inline form
  result : Nat := 0                       -- R377: the longest result block

/-- The block of PORT_SET_ROLE (R393, R205): the station, and at 8 + 8 · i the entry image of index i, reserved bits masked. -/
def roleBlock : List (Nat × Nat × Nat) :=
  (0, 1, 255) :: (List.range 8).flatMap (fun i =>
    [(8 + 8 * i, 1, 0xC7), (9 + 8 * i, 2, 0), (11 + 8 * i, 1, 0xC0), (12 + 8 * i, 1, 0xFF), (13 + 8 * i, 1, 0x0F), (14 + 8 * i, 2, 0)])

/-- Group 0x01: device and mode (R384). -/
def infoGroup01 (op : Nat) : Option OpInfo :=
  match op with
  | 0x01 => some { modes := 31, ends := .imm, named := [] }
  | 0x02 => some { modes := 31, ends := .imm, named := [] }
  | 0x03 => some { modes := 31, ends := .queued, named := [(16, 1, 255)] }
  | 0x04 => some { modes := 31, ends := .imm, named := [(16, 1, 255)] }
  | 0x05 => some { modes := 31, ends := .imm, named := [(16, 1, 255)] }
  | 0x06 => some { modes := 11, ends := .tick, named := [(16, 2, 255), (24, 32, 255)], guarded := true }
  | 0x07 => some { modes := 11, ends := .tick, named := [(16, 1, 255)], guarded := true }
  | _ => none

/-- Group 0x02: plots (R389). -/
def infoGroup02 (op : Nat) : Option OpInfo :=
  match op with
  | 0x01 => some { modes := 3, ends := .tick, named := [(16, 2, 255)], guarded := true }
  | 0x02 => some { modes := 11, ends := .tick, named := [], guarded := true }
  | 0x03 => some { modes := 3, ends := .tick, named := [(16, 8, 255)], guarded := true }
  | 0x04 => some { modes := 11, ends := .tick, named := [(16, 1, 255)], guarded := true }
  | 0x05 => some { modes := 2, ends := .tickQueued, named := [] }
  | 0x06 => some { modes := 10, ends := .tickQueued, named := [] }
  | 0x07 => some { modes := 10, ends := .tickQueued, named := [(16, 1, 1)] }
  | 0x08 => some { modes := 11, ends := .tick, named := [(16, 1, 1)], guarded := true }
  | 0x09 => some { modes := 11, ends := .imm, named := [(16, 6, 255)] }
  | 0x0A => some { modes := 31, ends := .imm, named := [], result := 144 }
  | _ => none

/-- Group 0x03: beds and extents (R391). -/
def infoGroup03 (op : Nat) : Option OpInfo :=
  match op with
  | 0x01 => some { modes := 3, ends := .tick, named := [(16, 8, 255), (24, 1, 15), (25, 2, 255), (28, 2, 255)], guarded := true }
  | 0x02 => some { modes := 11, ends := .queued, named := [(16, 2, 255)] }
  | 0x03 => some { modes := 11, ends := .tickQueued, named := [(16, 3, 255), (20, 2, 255)] }
  | 0x04 => some { modes := 3, ends := .queued, named := [(16, 4, 255)], guarded := true }
  | 0x05 => some { modes := 10, ends := .queued, named := [(16, 4, 255), (20, 1, 1), (24, 4, 255)] }
  | 0x06 => some { modes := 3, ends := .tick, named := [(16, 3, 255), (19, 1, 1)], guarded := true }
  | 0x07 => some { modes := 31, ends := .imm, named := [(16, 2, 255)], result := 32 }
  | 0x08 => some { modes := 11, ends := .queued, named := [(16, 6, 255), (24, 4, 255)] }
  | 0x09 => some { modes := 11, ends := .tick, named := [(16, 4, 255)] }
  | 0x0A => some { modes := 10, ends := .queued, named := [(16, 4, 255)] }
  | 0x0B => some { modes := 31, ends := .imm, named := [(16, 4, 255)] }
  | _ => none

/-- Group 0x04: ports, lanes and trunks (R393). -/
def infoGroup04 (op : Nat) : Option OpInfo :=
  match op with
  | 0x01 => some { modes := 11, ends := .tick, named := roleBlock, guarded := true, block := 72 }
  | 0x02 => some { modes := 26, ends := .tick, named := [(16, 2, 255), (18, 1, 3)] }
  | 0x03 => some { modes := 30, ends := .tick, named := [(16, 1, 255)] }
  | 0x04 => some { modes := 31, ends := .imm, named := [(16, 1, 255)] }
  | 0x05 => some { modes := 31, ends := .imm, named := [(16, 1, 255)] }
  | 0x06 => some { modes := 30, ends := .queued, named := [(16, 1, 255)] }
  | 0x07 => some { modes := 30, ends := .tick, named := [(0, 4, 255), (8, 44, 255)], block := 52 }
  | 0x08 => some { modes := 3, ends := .tick, named := [(16, 4, 255)], guarded := true }
  | 0x09 => some { modes := 11, ends := .tick, named := [(16, 2, 255)], guarded := true }
  | 0x0A => some { modes := 31, ends := .tick, named := [(18, 22, 255)] }
  | 0x10 => some { modes := 31, ends := .tick, named := [(16, 1, 240), (17, 1, 255), (18, 2, 255), (20, 1, 63), (21, 1, 15), (22, 1, 255), (23, 1, 0), (24, 32, 255)] }
  | 0x11 => some { modes := 31, ends := .imm, named := [(16, 1, 255)] }
  | 0x12 => some { modes := 31, ends := .imm, named := [(16, 1, 255), (17, 1, 1)] }
  | 0x13 => some { modes := 16, ends := .tick, named := [(16, 1, 255), (24, 32, 255)] }
  | 0x14 => some { modes := 16, ends := .tick, named := [(16, 3, 255)] }
  | 0x15 => some { modes := 31, ends := .queued, named := [(16, 2, 255)] }
  | 0x20 => some { modes := 27, ends := .tick, named := [(16, 1, 255), (24, 3, 0), (27, 1, 248), (28, 1, 15), (29, 2, 255), (31, 1, 0)] }
  | 0x21 => some { modes := 31, ends := .imm, named := [(16, 1, 255)], result := 24 }
  | 0x22 => some { modes := 31, ends := .imm, named := [(16, 1, 255)] }
  | 0x23 => some { modes := 31, ends := .queued, named := [(16, 3, 255)] }
  | 0x24 => some { modes := 31, ends := .queued, named := [(16, 1, 255)] }
  | 0x25 => some { modes := 31, ends := .imm, named := [(16, 1, 255)] }
  | 0x26 => some { modes := 27, ends := .imm, named := [(16, 1, 255), (24, 16, 255)] }
  | 0x27 => some { modes := 27, ends := .tick, named := [(16, 2, 255), (24, 16, 207)] }
  | _ => none

/-- Group 0x05: coherence (R395). -/
def infoGroup05 (op : Nat) : Option OpInfo :=
  match op with
  | 0x01 => some { modes := 31, ends := .tick, named := [(16, 2, 255)] }
  | 0x02 => some { modes := 31, ends := .tick, named := [(16, 2, 255)] }
  | 0x03 => some { modes := 31, ends := .tick, named := [(16, 1, 255), (18, 6, 255)] }
  | 0x04 => some { modes := 31, ends := .imm, named := [(16, 1, 255), (18, 3, 255)] }
  | 0x05 => some { modes := 31, ends := .imm, named := [(16, 2, 255), (24, 8, 255)] }
  | 0x06 => some { modes := 31, ends := .imm, named := [(16, 1, 255)] }
  | _ => none

/-- Group 0x06: the vault (R396). -/
def infoGroup06 (op : Nat) : Option OpInfo :=
  match op with
  | 0x01 => some { modes := 10, ends := .tickQueued, named := [(16, 2, 255), (18, 1, 1)] }
  | 0x02 => some { modes := 31, ends := .tick, named := [(16, 2, 255)] }
  | 0x03 => some { modes := 31, ends := .tick, named := [(16, 3, 255)] }
  | 0x04 => some { modes := 31, ends := .imm, named := [(16, 1, 255)] }
  | 0x05 => some { modes := 31, ends := .imm, named := [(16, 1, 255), (18, 3, 255)] }
  | 0x06 => some { modes := 31, ends := .imm, named := [(16, 1, 255), (18, 2, 255)] }
  | _ => none

/-- Group 0x07: the Barrow and slices (R397). -/
def infoGroup07 (op : Nat) : Option OpInfo :=
  match op with
  | 0x01 => some { modes := 11, ends := .tick, named := [(16, 3, 255), (19, 1, 3), (20, 4, 255)] }
  | 0x02 => some { modes := 11, ends := .tick, named := [(16, 2, 255)] }
  | 0x03 => some { modes := 11, ends := .tick, named := [(16, 3, 255), (19, 1, 1), (20, 4, 255)] }
  | 0x04 => some { modes := 11, ends := .tick, named := [(18, 1, 255), (19, 1, 1), (20, 4, 255)] }
  | 0x05 => some { modes := 10, ends := .tickQueued, named := [(16, 3, 255)] }
  | 0x06 => some { modes := 10, ends := .tick, named := [(16, 2, 255)] }
  | 0x07 => some { modes := 10, ends := .tick, named := [(16, 2, 255)] }
  | 0x08 => some { modes := 10, ends := .tick, named := [(16, 2, 255)] }
  | 0x09 => some { modes := 10, ends := .tickQueued, named := [(16, 2, 255), (18, 1, 1), (24, 8, 255)] }
  | 0x0A => some { modes := 10, ends := .tickQueued, named := [(16, 2, 255), (18, 1, 1), (24, 8, 255)] }
  | 0x0B => some { modes := 31, ends := .imm, named := [(16, 2, 255)] }
  | 0x10 => some { modes := 10, ends := .tickQueued, named := [(16, 10, 255)] }
  | 0x11 => some { modes := 10, ends := .imm, named := [(16, 4, 255)] }
  | _ => none

/-- Group 0x08: the pair (R399). -/
def infoGroup08 (op : Nat) : Option OpInfo :=
  match op with
  | 0x01 => some { modes := 10, ends := .tick, named := [(16, 1, 255), (17, 1, 1), (18, 6, 255)], guarded := true }
  | 0x02 => some { modes := 14, ends := .tick, named := [], guarded := true }
  | 0x03 => some { modes := 10, ends := .queued, named := [], guarded := true }
  | 0x04 => some { modes := 4, ends := .tick, named := [], guarded := true }
  | 0x05 => some { modes := 4, ends := .imm, named := [] }
  | 0x06 => some { modes := 31, ends := .tick, named := [(16, 1, 255)] }
  | 0x07 => some { modes := 31, ends := .imm, named := [] }
  | 0x08 => some { modes := 31, ends := .imm, named := [] }
  | _ => none

/-- Group 0x09: events (R401). -/
def infoGroup09 (op : Nat) : Option OpInfo :=
  match op with
  | 0x01 => some { modes := 31, ends := .tick, named := [(16, 2, 255), (20, 1, 51), (21, 1, 15), (22, 2, 0), (24, 1, 252), (25, 7, 255)] }
  | 0x02 => some { modes := 31, ends := .imm, named := [(16, 2, 255)], result := 24 }
  | 0x03 => some { modes := 31, ends := .imm, named := [(16, 2, 255)] }
  | _ => none

/-- Group 0x0A: counters and statistics (R403). -/
def infoGroup0A (op : Nat) : Option OpInfo :=
  match op with
  | 0x01 => some { modes := 31, ends := .tick, named := [(16, 4, 255)] }
  | 0x02 => some { modes := 31, ends := .tick, named := [] }
  | 0x03 => some { modes := 31, ends := .imm, named := [(16, 1, 255), (17, 1, 1)], result := 72 }
  | 0x04 => some { modes := 31, ends := .imm, named := [(16, 4, 255)], result := 272 }
  | _ => none

/-- Group 0x0B: slot power (R404). -/
def infoGroup0B (op : Nat) : Option OpInfo :=
  match op with
  | 0x01 => some { modes := 31, ends := .tick, named := [(16, 3, 255), (20, 6, 255)] }
  | 0x02 => some { modes := 30, ends := .queued, named := [(16, 1, 255)] }
  | 0x03 => some { modes := 31, ends := .tick, named := [(16, 1, 255)] }
  | 0x04 => some { modes := 31, ends := .tick, named := [(16, 1, 255)] }
  | 0x05 => some { modes := 31, ends := .imm, named := [(16, 1, 255)] }
  | 0x06 => some { modes := 31, ends := .imm, named := [(16, 1, 255)] }
  | 0x07 => some { modes := 31, ends := .tick, named := [(16, 1, 255), (18, 3, 255)] }
  | 0x08 => some { modes := 31, ends := .imm, named := [] }
  | _ => none

/-- Group 0x0C: wear and health (R406). -/
def infoGroup0C (op : Nat) : Option OpInfo :=
  match op with
  | 0x01 => some { modes := 31, ends := .imm, named := [(16, 1, 255), (18, 2, 255)] }
  | 0x02 => some { modes := 31, ends := .imm, named := [] }
  | 0x03 => some { modes := 31, ends := .imm, named := [(16, 4, 255)], result := 4096 }
  | 0x04 => some { modes := 31, ends := .imm, named := [] }
  | 0x05 => some { modes := 16, ends := .queued, named := [(16, 1, 7)] }
  | 0x06 => some { modes := 16, ends := .queued, named := [(16, 1, 255)] }
  | _ => none

/-- Group 0x0D: countersigning (R408). -/
def infoGroup0D (op : Nat) : Option OpInfo :=
  match op with
  | 0x01 => some { modes := 31, ends := .queued, named := [(16, 2, 255), (24, 32, 255)] }
  | 0x02 => some { modes := 31, ends := .imm, named := [(16, 2, 255)] }
  | 0x03 => some { modes := 31, ends := .imm, named := [], result := 520 }
  | 0x04 => some { modes := 11, ends := .tick, named := [(16, 4, 255)], guarded := true }
  | 0x05 => some { modes := 11, ends := .tick, named := [(16, 14, 7)], guarded := true }
  | _ => none

/-- Group 0x0E: time and trace (R410). -/
def infoGroup0E (op : Nat) : Option OpInfo :=
  match op with
  | 0x01 => some { modes := 27, ends := .tick, named := [(16, 8, 255)] }
  | 0x02 => some { modes := 31, ends := .queued, named := [(16, 1, 255)] }
  | 0x03 => some { modes := 27, ends := .tick, named := [(16, 1, 255)] }
  | 0x04 => some { modes := 31, ends := .imm, named := [] }
  | 0x05 => some { modes := 31, ends := .tick, named := [(16, 2, 255), (18, 1, 1), (24, 40, 255)] }
  | 0x06 => some { modes := 31, ends := .tick, named := [(16, 1, 1)] }
  | 0x07 => some { modes := 31, ends := .tick, named := [] }
  | 0x08 => some { modes := 31, ends := .imm, named := [(16, 6, 255)], result := 4096 }
  | _ => none

/-- What the catalogue says of an opcode (R374): none where it is not defined. -/
def opInfo (opcode : Nat) : Option OpInfo :=
  match opcode / 256 with
  | 0x01 => infoGroup01 (opcode % 256)
  | 0x02 => infoGroup02 (opcode % 256)
  | 0x03 => infoGroup03 (opcode % 256)
  | 0x04 => infoGroup04 (opcode % 256)
  | 0x05 => infoGroup05 (opcode % 256)
  | 0x06 => infoGroup06 (opcode % 256)
  | 0x07 => infoGroup07 (opcode % 256)
  | 0x08 => infoGroup08 (opcode % 256)
  | 0x09 => infoGroup09 (opcode % 256)
  | 0x0A => infoGroup0A (opcode % 256)
  | 0x0B => infoGroup0B (opcode % 256)
  | 0x0C => infoGroup0C (opcode % 256)
  | 0x0D => infoGroup0D (opcode % 256)
  | 0x0E => infoGroup0E (opcode % 256)
  | _ => none

/-- Run a command of group 0x01 (R357 step 8). -/
def runGroup01 (op : Nat) (c : Command) (s : State) : Ran :=
  match op with
  | 0x01 => runDevIdentify c s
  | 0x02 => runDevStatus c s
  | 0x03 => runDevSetMode c s
  | 0x04 => runDevReset c s
  | 0x05 => runDevSetNumber c s
  | 0x06 => runDevSetKeySlot c s
  | 0x07 => runDevRevokeKeySlot c s
  | _ => refuse stInvalidOpcode s

/-- Run a command of group 0x02 (R357 step 8). -/
def runGroup02 (op : Nat) (c : Command) (s : State) : Ran :=
  match op with
  | 0x01 => runPlotConfigure c s
  | 0x02 => runPlotRelease c s
  | 0x03 => runPlotMapBed c s
  | 0x04 => runPlotUnmapBed c s
  | 0x05 => runPlotEnable c s
  | 0x06 => runPlotDisable c s
  | 0x07 => runPlotReset c s
  | 0x08 => runPlotSetSanitize c s
  | 0x09 => runPlotSetQos c s
  | 0x0A => runPlotRead c s
  | _ => refuse stInvalidOpcode s

/-- Run a command of group 0x03 (R357 step 8). -/
def runGroup03 (op : Nat) (c : Command) (s : State) : Ran :=
  match op with
  | 0x01 => runBedDefine c s
  | 0x02 => runBedUndefine c s
  | 0x03 => runBedSetPolicy c s
  | 0x04 => runBedGrow c s
  | 0x05 => runBedShrink c s
  | 0x06 => runBedExport c s
  | 0x07 => runBedRead c s
  | 0x08 => runExtentDefine c s
  | 0x09 => runExtentUndefine c s
  | 0x0A => runExtentClearFailed c s
  | 0x0B => runExtentRead c s
  | _ => refuse stInvalidOpcode s

/-- Run a command of group 0x04 (R357 step 8). -/
def runGroup04 (op : Nat) (c : Command) (s : State) : Ran :=
  match op with
  | 0x01 => runPortSetRole c s
  | 0x02 => runPortSetLink c s
  | 0x03 => runPortRetrain c s
  | 0x04 => runPortRead c s
  | 0x05 => runPortStatus c s
  | 0x06 => runPortPrepareRemoval c s
  | 0x07 => runPortSetIdeKey c s
  | 0x08 => runPortBindLd c s
  | 0x09 => runPortUnbindLd c s
  | 0x0A => runPortSetLoadThresholds c s
  | 0x10 => runLaneSet c s
  | 0x11 => runLaneRead c s
  | 0x12 => runLaneStatus c s
  | 0x13 => runLaneSetLoop c s
  | 0x14 => runLanePrbs c s
  | 0x15 => runLaneEyeScan c s
  | 0x20 => runTrunkSet c s
  | 0x21 => runTrunkRead c s
  | 0x22 => runTrunkStatus c s
  | 0x23 => runTrunkSetLink c s
  | 0x24 => runTrunkRetrain c s
  | 0x25 => runTrunkRestart c s
  | 0x26 => runTrunkSetBuffers c s
  | 0x27 => runTrunkSetRoute c s
  | _ => refuse stInvalidOpcode s

/-- Run a command of group 0x05 (R357 step 8). -/
def runGroup05 (op : Nat) (c : Command) (s : State) : Ran :=
  match op with
  | 0x01 => runCohSetWeeder c s
  | 0x02 => runCohSetSnoopTimeout c s
  | 0x03 => runCohSetLoadThresholds c s
  | 0x04 => runCohReadEntry c s
  | 0x05 => runCohLookup c s
  | 0x06 => runCohStatus c s
  | _ => refuse stInvalidOpcode s

/-- Run a command of group 0x06 (R357 step 8). -/
def runGroup06 (op : Nat) (c : Command) (s : State) : Ran :=
  match op with
  | 0x01 => runVaultFlush c s
  | 0x02 => runVaultSetWriteTimeout c s
  | 0x03 => runVaultSetPredictor c s
  | 0x04 => runVaultStatus c s
  | 0x05 => runVaultReadTag c s
  | 0x06 => runVaultReadPredictor c s
  | _ => refuse stInvalidOpcode s

/-- Run a command of group 0x07 (R357 step 8). -/
def runGroup07 (op : Nat) (c : Command) (s : State) : Ran :=
  match op with
  | 0x01 => runSliceBind c s
  | 0x02 => runSliceUnbind c s
  | 0x03 => runSliceMapPasid c s
  | 0x04 => runSliceUnmapPasid c s
  | 0x05 => runSliceFreeze c s
  | 0x06 => runSliceThaw c s
  | 0x07 => runSliceReset c s
  | 0x08 => runSliceClearFault c s
  | 0x09 => runSliceSave c s
  | 0x0A => runSliceRestore c s
  | 0x0B => runSliceStatus c s
  | 0x10 => runExtentMigrate c s
  | 0x11 => runExtentMigrateCancel c s
  | _ => refuse stInvalidOpcode s

/-- Run a command of group 0x08 (R357 step 8). -/
def runGroup08 (op : Nat) (c : Command) (s : State) : Ran :=
  match op with
  | 0x01 => runPairForm c s
  | 0x02 => runPairDissolve c s
  | 0x03 => runPairSwitchover c s
  | 0x04 => runPairAssume c s
  | 0x05 => runPairPromote c s
  | 0x06 => runPairSetLag c s
  | 0x07 => runPairClearRecovery c s
  | 0x08 => runPairStatus c s
  | _ => refuse stInvalidOpcode s

/-- Run a command of group 0x09 (R357 step 8). -/
def runGroup09 (op : Nat) (c : Command) (s : State) : Ran :=
  match op with
  | 0x01 => runEvtSetSource c s
  | 0x02 => runEvtReadSource c s
  | 0x03 => runEvtTrigger c s
  | _ => refuse stInvalidOpcode s

/-- Run a command of group 0x0A (R357 step 8). -/
def runGroup0A (op : Nat) (c : Command) (s : State) : Ran :=
  match op with
  | 0x01 => runCtrSetSelect c s
  | 0x02 => runCtrSnapshot c s
  | 0x03 => runCtrRead c s
  | 0x04 => runStatRead c s
  | _ => refuse stInvalidOpcode s

/-- Run a command of group 0x0B (R357 step 8). -/
def runGroup0B (op : Nat) (c : Command) (s : State) : Ran :=
  match op with
  | 0x01 => runSlotSet c s
  | 0x02 => runSlotOn c s
  | 0x03 => runSlotOff c s
  | 0x04 => runSlotClearLatch c s
  | 0x05 => runSlotRead c s
  | 0x06 => runSlotStatus c s
  | 0x07 => runFeedSet c s
  | 0x08 => runFeedStatus c s
  | _ => refuse stInvalidOpcode s

/-- Run a command of group 0x0C (R357 step 8). -/
def runGroup0C (op : Nat) (c : Command) (s : State) : Ran :=
  match op with
  | 0x01 => runWearRead c s
  | 0x02 => runWearSummary c s
  | 0x03 => runLedgerRead c s
  | 0x04 => runLedgerStatus c s
  | 0x05 => runHealthBist c s
  | 0x06 => runHealthVmin c s
  | _ => refuse stInvalidOpcode s

/-- Run a command of group 0x0D (R357 step 8). -/
def runGroup0D (op : Nat) (c : Command) (s : State) : Ran :=
  match op with
  | 0x01 => runCountersign c s
  | 0x02 => runCsWithdraw c s
  | 0x03 => runCsList c s
  | 0x04 => runCsSetWindow c s
  | 0x05 => runCsSetAuthority c s
  | _ => refuse stInvalidOpcode s

/-- Run a command of group 0x0E (R357 step 8). -/
def runGroup0E (op : Nat) (c : Command) (s : State) : Ran :=
  match op with
  | 0x01 => runTimeSetEpoch c s
  | 0x02 => runTimeSetSeason c s
  | 0x03 => runTimeSetRoot c s
  | 0x04 => runTimeRead c s
  | 0x05 => runTraceSetFilter c s
  | 0x06 => runTraceStart c s
  | 0x07 => runTraceStop c s
  | 0x08 => runTraceRead c s
  | _ => refuse stInvalidOpcode s

/-- Run a command: the checks of its chapter, and its effect (R357 step 8). -/
def runOp (c : Command) (s : State) : Ran :=
  let op := c.opcode.toNat
  match op / 256 with
  | 0x01 => runGroup01 (op % 256) c s
  | 0x02 => runGroup02 (op % 256) c s
  | 0x03 => runGroup03 (op % 256) c s
  | 0x04 => runGroup04 (op % 256) c s
  | 0x05 => runGroup05 (op % 256) c s
  | 0x06 => runGroup06 (op % 256) c s
  | 0x07 => runGroup07 (op % 256) c s
  | 0x08 => runGroup08 (op % 256) c s
  | 0x09 => runGroup09 (op % 256) c s
  | 0x0A => runGroup0A (op % 256) c s
  | 0x0B => runGroup0B (op % 256) c s
  | 0x0C => runGroup0C (op % 256) c s
  | 0x0D => runGroup0D (op % 256) c s
  | 0x0E => runGroup0E (op % 256) c s
  | _ => refuse stInvalidOpcode s

/-- The bits that a row names in byte n (R376). -/
def OpInfo.mask (o : OpInfo) (n : Nat) : Nat :=
  match o.named.find? (fun r => decide (r.1 ≤ n ∧ n < r.1 + r.2.1)) with
  | some r => r.2.2
  | none => 0

/-- The parameter length that a row asks for (R376): the highest byte named, less 15; or the length of its block. -/
def OpInfo.paramLen (o : OpInfo) : Nat := if o.block = 0 then o.named.foldl (fun m r => max m (r.1 + r.2.1 - 16)) 0 else o.block

/-- The plot field of group 0x02 and of SLICE_BIND names a plot (R375). -/
def plotOpcode (op : Nat) : Bool := decide (op / 256 = 2 ∨ op = 0x0701)

/-- A command that can end QUEUED, which a ring with 16 commands in QUEUED does not start (R359). -/
def mayQueue (c : Command) : Bool :=
  c.fwd || (match opInfo c.opcode.toNat with
    | some o => !o.guarded && decide (o.ends = .queued ∨ o.ends = .tickQueued)
    | none => false)

/-- Byte n of the command lies in the inline parameter area, or is part of an address (R578). -/
def Command.used (c : Command) (n : Nat) : Bool :=
  (c.extResult && decide (56 ≤ n)) ||
  (if c.extParam then decide (n < 24) else decide (n < 16 + c.paramLen))

/-- Byte n of the command is a byte of its inline area (R578). -/
def Command.inlineByte (c : Command) (n : Nat) : Bool :=
  !c.extParam && decide (n < 16 + c.paramLen) && !(c.extResult && decide (56 ≤ n))

/-- The bits of an event select that are reserved (R522): bit 11 of kinds 0xE and 0xF. -/
def reservedSelect (c : Command) : Bool :=
  decide (c.opcode.toNat = 0x0A01) && c.inlineByte 19 && (c.byte 19).testBit 3 && decide (0xE0 ≤ c.byte 19)

/-- A bit of a byte lies outside a mask. -/
def outside (b mask : Nat) : Bool := b &&& mask != b

/-- Step 2 of R357 finds a reserved bit set (R376, R578). -/
def Command.reservedSet (c : Command) : Bool :=
  let head := bitsOf c.word 127 96 != 0 || bitsOf c.word 23 19 != 0
  let unused := (List.range 48).any (fun i => !c.used (16 + i) && c.byte (16 + i) != 0)
  let own := match opInfo c.opcode.toNat with
    | none => false
    | some o =>
      let line := (List.range 48).any (fun i =>
        c.inlineByte (16 + i) && outside (c.byte (16 + i)) (if o.block = 0 then o.mask (16 + i) else 0))
      let inBlock := o.block != 0 && (List.range c.block.length).any (fun i => outside (c.blk i 1) (o.mask i))
      line || inBlock || reservedSelect c
  head || unused || own

/-- A block lies wholly within the region of a ring (R355). -/
def blockFits (ring address length : Nat) : Bool :=
  if ring < 13 then decide (0x08000000 ≤ address ∧ address + length ≤ 0x0A000000)
  else if ring = 13 then decide (address + length ≤ 0x1000)
  else true

/-- The parameter block of a command (R355): empty where it does not lie within its region. -/
def State.paramBlock (s : State) (c : Command) : List Byte :=
  if !c.extParam || c.paramLen = 0 || decide (4096 < c.paramLen) || !blockFits c.ring c.paramAddr c.paramLen then []
  else if c.ring < 13 then memRead 0 s.steward.sram (c.paramAddr - 0x08000000) c.paramLen
  else if c.ring = 13 then memRead 0 s.teller.csParam c.paramAddr c.paramLen
  else []

/-- The length of the result block that a command writes (R355, R377, R406, R403, R410). -/
def Command.resultLen (c : Command) (o : OpInfo) : Nat :=
  let op := c.opcode.toNat
  if op = 0x0C03 then min 4096 (64 * c.num 18 2)
  else if op = 0x0E08 then min 4096 (32 * c.num 20 2)
  else if op = 0x0A04 then (if c.byte 16 = 0 then 272 else 144)
  else o.result

/-- Step 4 of R357 refuses the command (R354, R355, R360, R375, R376, R578). -/
def Command.badParam (c : Command) (o : OpInfo) : Bool :=
  let plotBad := if plotOpcode c.opcode.toNat then decide (511 < c.plotField) else c.plotField != 0xFFFF
  bitsOf c.word 31 24 != 1 || c.paramLen != o.paramLen || c.extParam != (o.block != 0) ||
  (!c.extParam && c.extResult && decide (40 < c.paramLen)) ||
  (c.extParam && !blockFits c.ring c.paramAddr c.paramLen) ||
  (c.extResult && !blockFits c.ring c.resultAddr (max 16 (c.resultLen o))) || (c.fwd && decide (14 ≤ c.ring)) || plotBad

/-- Step 5 of R357: the ring's authority may not issue the command (R373, R380). -/
def State.denied (s : State) (c : Command) : Bool :=
  let op := c.opcode.toNat
  if c.ring = 15 then decide (op ≠ opPlotReset ∧ op ≠ opSetMode)
  else if op = 0x0805 then decide (c.ring ≠ 13)
  else !(s.authOf (op / 256)).getLsbD (authorityOf c.ring)

/-- The bit of a mode in a mode mask of the catalogue. -/
def Mode.bit : Mode → Nat
  | .sprout => 1
  | .grow => 2
  | .shadow => 4
  | .fallow => 8
  | .probe => 16
  | .dormant => 32

/-- A device in mode SHADOW refuses a command that would change a mirrored table (R320, R372). -/
def State.shadowForbids (s : State) (c : Command) : Bool :=
  decide (s.dev.mode = .shadow) && !(configRecords s (runOp c s).2).isEmpty

/-- A command whose effect falls at a boundary runs its own checks there (R372, R381), under R320. -/
def runDue (c : Command) (s : State) : Ran := if s.shadowForbids c then refuse stNotInMode s else runOp c s

/-- Step 6 of R357: the mode does not permit the command (R378), or a SHADOW refuses it because it would change a mirrored table (R320).
What ring 15 records is never refused so (R385). -/
def State.modeForbids (s : State) (c : Command) (o : OpInfo) : Bool :=
  if c.ring = 15 ∧ c.opcode.toNat = opSetMode then false
  else o.modes &&& s.dev.mode.bit == 0 || s.shadowForbids c

/-- Steps 2 to 6 of R357: the status of the first check that fails. -/
def State.firstFailure (s : State) (c : Command) : Option Nat :=
  if c.reservedSet then some stReserved
  else match opInfo c.opcode.toNat with
    | none => some stInvalidOpcode
    | some o =>
      if c.badParam o then some stInvalidParam
      else if s.denied c then some stDenied
      else if c.fwd then (if s.pair.state = .unpaired ∨ (s.trunk s.pair.station).state ≠ .up then some stNotInMode else none)
      else if s.modeForbids c o then some stNotInMode
      else none

end Sys2Proof.Machine
end

