-- ==== Sys2Proof/Machine/Teller.lean ====
section
/-! DEFINITION. The Teller at work (R353 to R363, R368 to R373, R381): visits, checks, execution, forwarding and commits. -/

namespace Sys2Proof.Machine

/-- The command at the head of a ring, with its parameter block (R354, R355) and, on ring 14, its originating ring (R362). -/
def State.front (s : State) (ring : Nat) : Command :=
  let n := (s.ring ring).cmdHead.toNat
  let word := BitVec.ofNat 512 (natOfBytes (memRead 0 s.teller.mem (ring * 0x8000 + 0x40 * (n % 256)) 64))
  let c : Command := { ring := ring, word := word }
  if ring = 14 then
    { c with origin := ((s.teller.origins14.find? (fun e => e.1 == n)).map (·.2)).getD 0,
             block := ((s.teller.blocks14.find? (fun e => e.1 == n)).map (·.2)).getD [] }
  else { c with block := s.paramBlock c }

/-- The Teller may start a ring's next command (R351, R358, R359): a command waits, the ring is enabled and not paused, its last
command has written a receipt, there is receipt room, and a ring with 16 commands in QUEUED starts none that may end QUEUED. -/
def State.mayVisit (s : State) (n : Nat) : Bool :=
  let r := s.ring n
  decide (0 < r.waiting) && r.enable && !r.paused && !r.firstOpen && (decide (n = 15) || decide (r.unread < 256)) &&
  !(decide (16 ≤ queuedSelf s n) && mayQueue (s.front n))

/-- The ring that the Teller visits next (R358): ring 15 while it holds the record of a transition, else in rotation. -/
def State.nextRing (s : State) : Option Nat :=
  if decide (0 < s.teller.hwRecords) && s.mayVisit 15 then some 15
  else ((List.range 16).map (fun i => (s.teller.turn + 1 + i) % 16)).find? s.mayVisit

/-- The 4 beats since the last start have passed (R358). -/
def State.startFree (s : State) : Bool :=
  match s.teller.lastStart with
  | some b => decide (b + 4 ≤ s.time.beats)
  | none => true

/-- The Teller copies a command and advances RING_CMD_HEAD in the same beat (R353, R358). -/
def takeCommand (ring : Nat) (c : Command) (s : State) : State :=
  let n := (s.ring ring).cmdHead.toNat
  let s1 := s.modRing ring (fun r => { r with cmdHead := r.cmdHead + 1, firstOpen := true, openOrigin := c.origin, openTag := c.tag })
  let ahead := decide (ring = 15 ∧ 0 < s.teller.hwRecords)
  count 26 0x01 1 (s1.modTeller (fun t => { t with
    lastStart := some s.time.beats, turn := if ahead then t.turn else ring,
    hwRecords := if ring = 15 ∧ c.opcode.toNat = opSetMode then t.hwRecords - 1 else t.hwRecords,
    blocks14 := if ring = 14 then t.blocks14.filter (fun e => e.1 ≠ n) else t.blocks14,
    origins14 := if ring = 14 then t.origins14.filter (fun e => e.1 ≠ n) else t.origins14 }))

/-- The proposal that a COUNTERSIGN names (R363). -/
def Command.proposalNo (c : Command) : Option Nat := if c.opcode.toNat = 0x0D01 then some (c.num 16 2) else none

/-- The tag that a ring's history holds already (R357 step 1, R362). -/
def State.held (s : State) (c : Command) : Option HistEntry :=
  (s.ring c.ring).history.find? (fun e => decide (e.tag = c.tag ∧ e.origin = c.origin))

/-- The receipt of a command whose tag is held (R363). -/
def duplicate (c : Command) (e : HistEntry) (s : State) : State :=
  writeReceipt c.ring c.origin c.tag e.opcode stDuplicate
    (bytesOf 2 16 e.status ++ bytesOf 2 16 e.proposal ++ [0, 0, 0, 0] ++ bytesOf 8 64 e.stamp) none s

/-- Answer a command that has just started, or one whose effect takes place at a boundary. -/
def answerStart (c : Command) (status : Nat) (result : List Byte) (s : State) : State := answer c status result c.proposalNo s

/-- The state as the changes that wait for their acknowledgement will leave it (R302): commits first, then the commands of a boundary. -/
def State.afterPending (s : State) : State :=
  let l := (s.teller.proposals.filter (·.due)).map (·.cmd) ++ s.teller.atTick
  (l.filter (fun c => c.commitSeq.isSome)).foldl (fun t c => (runOp c t).2) s

/-- The mirror record that holds back a change which a command asks for (R302), where it changes a mirrored table. Its images hold the
changes that wait before it. -/
def mirrorAhead (c : Command) (proposal : BitVec 16) (s : State) : Command × State :=
  if !s.mirroring then (c, s)
  else match configRecords s.afterPending (runOp c s.afterPending).2 with
    | [] => (c, s)
    | l =>
      let r := sendChange l proposal s
      ({ c with commitSeq := some r.2 }, r.1.modPair (fun p => { p with sent := p.sent ++ [(r.2, l)] }))

/-- A command waits for its tick boundary (R359, R381). -/
def deferToTick (c : Command) (s : State) : State :=
  let r := mirrorAhead c 0xFFFF s
  r.2.modTeller (fun t => { t with atTick := t.atTick ++ [r.1] })

/-- A command's change has to wait for the partner's acknowledgement (R299, R302). -/
def changeWaits (s t : State) : Bool := s.mirroring && !(configRecords s t).isEmpty

/-- Run a command now. It writes QUEUED before its work begins, so that what ends at once still finds it (R359). In a pair, one that changes
a mirrored table takes effect at the first boundary after the acknowledgement of its COMMIT (R302). -/
def runNow (c : Command) (s : State) : State :=
  match runOp c s with
  | (.final status result, t) => if changeWaits s t then deferToTick c s else answerStart c status result t
  | (.queued k, _) =>
    let s1 := addJob c k false (answerStart c stQueued [] s)
    let t := (runOp c s1).2
    if changeWaits s1 t then deferToTick c (addJob c .boundary false (answerStart c stQueued [] s)) else t

/-- Run a command whose effect falls at a tick boundary (R359, R381): refused at once, or held for the boundary; QUEUED is written now. -/
def runAtBoundary (c : Command) (s : State) : State :=
  match runOp c s with
  | (.final status _, _) => if status = stDone then deferToTick c s else answerStart c status [] s
  | (.queued _, _) => deferToTick c (addJob c .boundary false (answerStart c stQueued [] s))

/-- PLOT_ENABLE and PLOT_RESET of a plot that drains or sanitises are recorded at once (R67). -/
def State.recordsPlot (s : State) (c : Command) : Bool :=
  decide ((c.opcode.toNat = 0x0205 ∨ c.opcode.toNat = 0x0207) ∧
    ((s.plot c.plotField).state = .draining ∨ (s.plot c.plotField).state = .sanitizing))

/-- A proposal that has just been countersigned is mirrored (R302, R372). -/
def mirrorProposal (n : BitVec 16) (s : State) : State :=
  match s.proposal n with
  | some p =>
    if p.due && p.cmd.commitSeq.isNone then
      let r := mirrorAhead p.cmd n s
      r.2.modProposal n (fun x => { x with cmd := r.1 })
    else s
  | none => s

/-- Run a command that has passed steps 1 to 7 of R357. -/
def runStarted (o : OpInfo) (c : Command) (s : State) : State :=
  if c.opcode.toNat = 0x0D01 then mirrorProposal (BitVec.ofNat 16 (c.num 16 2)) (runNow c s)
  else match o.ends with
    | .imm => runNow c s
    | .queued => runNow c s
    | .tick => runAtBoundary c s
    | .tickQueued => if s.recordsPlot c then runNow c s else runAtBoundary c s

/-- A command is sent to the partner's ring 14 (R360), where it runs as a local one: fwd is 0 there. -/
def forwardCommand (c : Command) (s : State) : State :=
  let word := c.word &&& ~~~ (BitVec.ofNat 512 (2 ^ 18))
  (pairMgmt (.command c.ring word c.block) s).modTeller (fun t => { t with forwards := t.forwards ++
    [{ ring := c.ring, tag := c.tag, opcode := c.opcode, sent := s.tick, proposal := c.proposalNo,
       resultAddr := if c.extResult then some c.resultAddr else none }] })

/-- Decide a command whose tag is new (R357 steps 2 to 8, R360, R368). -/
def decideCommand (c : Command) (s : State) : State :=
  match s.firstFailure c with
  | some status => answerStart c status [] s
  | none =>
    if c.fwd then forwardCommand c s
    else match opInfo c.opcode.toNat with
      | some o => if o.guarded then propose c s else runStarted o c s
      | none => s

/-- A command can be sent to the partner (R360). -/
def State.forwards (s : State) : Bool := decide (s.pair.state ≠ .unpaired) && decide ((s.trunk s.pair.station).state = .up)

/-- The Teller starts a ring's next command (R353, R357, R358, R362). DEDUCED (log 115): a forwarded command that ended TIMEOUT and comes again
with its tag goes to the partner again, whose answer tells its outcome (R360). -/
def startCommand (ring : Nat) (s : State) : State :=
  let c := s.front ring
  let s1 := takeCommand ring c s
  match s1.held c with
  | some e =>
    if c.fwd && decide (e.status.toNat = stTimeout) && s1.forwards then forwardCommand c (s1.modRing ring (fun r => { r with
      history := mapIf (fun x => decide (x.tag = c.tag ∧ x.origin = c.origin)) (fun x => { x with executing := true }) r.history }))
    else duplicate c e s1
  | none =>
    decideCommand c (s1.modRing ring (fun r => { r with history := r.history ++ [{ origin := c.origin, tag := c.tag, opcode := c.opcode }] }))

/-- The job of a command in QUEUED. -/
def Job.isOf (j : Job) (c : Command) : Bool := decide (j.ring = c.ring ∧ j.origin = c.origin ∧ j.tag = c.tag)

/-- A command in QUEUED ends with its final receipt (R359). -/
def endJob (c : Command) (status : Nat) (result : List Byte) (s : State) : State :=
  answer c status result none (s.modTeller (fun t => { t with jobs := t.jobs.filter (fun j => !j.isOf c) }))

/-- A command of R381 takes effect at its boundary: its own checks run again. One that is QUEUED already keeps its job, for the work
that begins now. -/
def boundaryCommand (c : Command) (s : State) : State :=
  let waiting := s.teller.jobs.any (fun j => j.isOf c)
  let note (a b : State) : State := mirrorDone c.commitSeq a b
  match runDue c s with
  | (.final status result, t) => if waiting then endJob c status result (note s t) else answerStart c status result (note s t)
  | (.queued k, t) =>
    if waiting then
      (note s t).modTeller (fun x => { x with jobs := mapIf (fun j => j.isOf c) (fun j => { j with kind := k }) x.jobs })
    else
      let s1 := addJob c k false (answerStart c stQueued [] s)
      note s1 (runDue c s1).2

/-- A command's change waits for the acknowledgement of its mirror record (R302). -/
def State.ackedAt (s : State) (c : Command) : Bool :=
  match c.commitSeq with
  | some q => !s.commitWaits q
  | none => true

/-- The commands of R381 that take effect at this boundary, cancels of migrations among them (R347), in the order in which they were
started (R571 phase 3). One that finds a change to make where none was to be seen when it was started waits for that change's record
(R302). -/
def boundaryCommands (s : State) : State :=
  let l := s.teller.atTick
  forEach (List.range (l.length + 1)) (fun i t =>
    let t1 := if t.pool.migrations.any (fun m => decide (m.2.cancel = some i)) then mirrored (cancelMigrations i) t else t
    let waits (r : Command × State) : State := r.2.modTeller (fun x => { x with atTick := x.atTick ++ [r.1] })
    match l[i]? with
    | some c =>
      let r := if c.commitSeq.isNone then mirrorAhead c 0xFFFF t1 else (c, t1)
      if !s.ackedAt c then waits (c, t1) else if r.1.commitSeq ≠ c.commitSeq then waits r else boundaryCommand c t1
    | none => t1) (s.modTeller (fun t => { t with atTick := [] }))

/-- A countersigned proposal commits (R372): the stored command runs its own checks and executes. -/
def commitProposal (p : Proposal) (s : State) : State :=
  let c := p.cmd
  let s1 := s.modTeller (fun t => { t with proposals := t.proposals.filter (fun x => x.number ≠ p.number) })
  let note (a b : State) : State := mirrorDone c.commitSeq a b
  match runDue c s1 with
  | (.final status result, t) => committed p status (answer c status result none (note s1 t))
  | (.queued k, _) =>
    let s2 := addJob c k true (answer c stQueued [] none s1)
    committed p stQueued (note s2 (runDue c s2).2)

/-- The commits of a boundary, in the order in which their proposals were staged, and then the windows (R40, R370, R372). -/
def commitAll (s : State) : State :=
  let due := s.teller.proposals.filter (fun p => p.ready s)
  countProposals (forEach (due.take 8) (fun p t =>
    let r := if p.cmd.commitSeq.isNone then mirrorAhead p.cmd p.number t else (p.cmd, t)
    if r.1.commitSeq ≠ p.cmd.commitSeq then r.2.modProposal p.number (fun x => { x with cmd := r.1 }) else commitProposal p t) s)

/-- A forwarded command has had no first receipt for 64 ticks (R360). -/
def Forward.late (f : Forward) (tick : Nat) : Bool := decide (f.sent + 64 ≤ tick)

/-- FORWARD_TIMEOUT (R360). -/
def forwardTimeout (f : Forward) (s : State) : State :=
  writeReceipt f.ring 0 f.tag f.opcode stTimeout [] none
    (s.modTeller (fun t => { t with forwards := t.forwards.filter (fun x => !decide (x.ring = f.ring ∧ x.tag = f.tag)) }))

/-- Meaning of FORWARD_TIMEOUT. -/
def execForwardTimeout (ring : Nat) (tag : BitVec 32) (s : State) : Out :=
  whenWf s (decide (ring < 16)) (match s.teller.forwards.find? (fun x => decide (x.ring = ring ∧ x.tag = tag)) with
    | some f => onlyIf (s.fabricOn && f.late s.tick) (forwardTimeout f) s
    | none => s)

/-- Meaning of RECEIPT_WRITE_DEFERRED. -/
def execReceiptWriteDeferred (ring : Nat) (s : State) : Out :=
  whenWf s (decide (ring < 16)) (onlyIf s.fabricOn (writeDeferred ring) s)

/-- RING_STATUS as it reads (R351, R352). -/
def ringStatus (s : State) (n : Nat) : Nat :=
  let r := s.ring n
  fieldAt r.duplicates.toNat 16 + fieldAt (queuedAll s n % 32) 11 + fieldAt (bit r.overrun) 7 +
    fieldAt (bit (decide (n ≠ 15 ∧ 256 ≤ r.unread))) 6 + fieldAt (bit (r.paused || !r.enable)) 5 + authorityOf n

/-- The ring registers as they read (R352), by offset from 0x6000. -/
def ringRegister (s : State) (n offset : Nat) : Nat :=
  let r := s.ring n
  match offset with
  | 0x00 => r.cmdTail.toNat
  | 0x04 => r.cmdHead.toNat
  | 0x08 => r.rcptTail.toNat
  | 0x0C => r.rcptHead.toNat
  | 0x10 => fieldAt (bit r.eventEn) 1 + bit r.enable
  | 0x14 => ringStatus s n
  | 0x18 => r.history.length
  | _ => 0

/-- A write outside its bounds sets overrun (R353), and keeps the beat for R10. -/
def Ring.overran (beat : Nat) (r : Ring) : Ring := { r with overrun := true, overrunBeat := 1 + beat }

/-- A producer writes RING_CMD_TAIL (R353): more than 256 ahead of the head, or behind it, is ignored and sets overrun. -/
def writeCmdTail (n : Nat) (v : BitVec 32) (s : State) : State :=
  let x := v.truncate 16
  s.modRing n (fun r => if 256 < (x - r.cmdHead).toNat then r.overran s.time.beats else { r with cmdTail := x })

/-- A consumer writes RING_RCPT_HEAD (R353): ahead of the tail, or more than 256 behind it, is ignored and sets overrun. -/
def writeRcptHead (n : Nat) (v : BitVec 32) (s : State) : State :=
  let x := v.truncate 16
  s.modRing n (fun r => if 256 < (r.rcptTail - x).toNat then r.overran s.time.beats else { r with rcptHead := x })

/-- A write of a ring register by the ring's producer and consumer (R352). -/
def writeRingRegister (n offset : Nat) (v : BitVec 32) (s : State) : State :=
  match offset with
  | 0x00 => writeCmdTail n v s
  | 0x0C => writeRcptHead n v s
  | 0x10 => s.modRing n (fun r => { r with enable := v.getLsbD 0, eventEn := v.getLsbD 1 })
  | 0x14 => s.modRing n (fun r => { r with overrun := r.overrun && !(v.getLsbD 7 && s.clears r.overrunBeat) })
  | _ => s

/-- Ring 13 can be written through the countersign port: from stage 2 on, and in DORMANT (R366, R383, R485, R491). -/
def State.portLive (s : State) : Bool := !s.dev.inReset

/-- Ring 13's tail has been written: in DORMANT that wakes the device (R383, R486). -/
def afterTail13 (s : State) : State := if s.dev.mode = .dormant then wakeOp s else s

/-- A ring register is written by its producer and consumer (R27, R348, R351): the steward on the die link's TELLER channel, or the
countersign port. Rings 14 and 15 are RO. DESIGN CHOICE (log 102): the rows name no hart, and the store is hart 0's. -/
def ringAccess (n offset : Nat) (v : BitVec 32) (f : State → State) (s : State) : State :=
  if n < 13 then
    hartAccess chTeller 0 true (BitVec.ofNat 64 (0x20006000 + 0x8000 * n + offset)) 4 (v.setWidth 64) (fun t => completeToHart 0 cplDone 0 (f t)) s
  else if n = 13 && s.portLive then f s
  else s

/-- Meaning of RING_CMD_TAIL_WRITE. -/
def execRingCmdTailWrite (ring : Nat) (value : BitVec 32) (s : State) : Out :=
  whenWf s (decide (ring < 16)) (ringAccess ring 0 value (fun t => let u := writeCmdTail ring value t; if ring = 13 then afterTail13 u else u) s)

/-- Meaning of RING_RCPT_HEAD_WRITE. -/
def execRingRcptHeadWrite (ring : Nat) (value : BitVec 32) (s : State) : Out :=
  whenWf s (decide (ring < 16)) (ringAccess ring 0x0C value (writeRcptHead ring value) s)

/-- One byte of ring 13's registers written through the countersign port (R367): the register takes its value with its most significant
byte; a byte not written keeps what the register reads, but in RING_STATUS, whose bits are cleared by ones. -/
def portRegisterByte (o : Nat) (b : Byte) (s : State) : State :=
  let reg := o / 4 * 4
  let wide := s.teller.csWide.filter (fun e => e.1 ≠ o) ++ [(o, b)]
  if o % 4 ≠ 3 then s.modTeller (fun t => { t with csWide := wide })
  else
    let old := if reg = 0x14 then 0 else ringRegister s 13 reg
    let byte (i : Nat) : Byte :=
      match wide.find? (fun e => e.1 == reg + i) with
      | some e => e.2
      | none => BitVec.ofNat 8 (old / 256 ^ i)
    let s1 := writeRingRegister 13 reg (BitVec.ofNat 32 (natOfBytes ((List.range 4).map byte)))
      (s.modTeller (fun t => { t with csWide := wide.filter (fun e => e.1 / 4 ≠ o / 4) }))
    if reg = 0 then afterTail13 s1 else s1

/-- One byte of a private write to the countersign port (R367). In DORMANT there is ring 13 only (R485, R491). -/
def portByte (o : Nat) (b : Byte) (s : State) : State :=
  if o < 0x4000 then s.modTeller (fun t => { t with mem := memSet 0 t.mem (13 * 0x8000 + o) b })
  else if 0x6000 ≤ o ∧ o < 0x6020 then portRegisterByte (o - 0x6000) b s
  else if 0x7000 ≤ o ∧ o < 0x8000 ∧ s.fabricOn then s.modTeller (fun t => { t with csParam := memSet 0 t.csParam (o - 0x7000) b })
  else s

/-- A private write to the countersign port (R367): data at ascending offsets. -/
def portWrite (offset : Nat) : List Byte → State → State
  | [], s => s
  | b :: rest, s => portWrite (offset + 1) rest (portByte offset b s)

/-- Meaning of COUNTERSIGN_PORT_WRITE. -/
def execCountersignPortWrite (offset : BitVec 16) (data : List Byte) (s : State) : Out :=
  whenWf s (true) (onlyIf s.portLive
    (fun t => portWrite offset.toNat data (t.modTeller (fun x => { x with csOffset := offset }))) s)

/-- One byte of the countersign port's space as a private read returns it (R351, R367). In DORMANT there is ring 13 only (R485, R491). -/
def State.portByteAt (s : State) (o : Nat) : Byte :=
  if o < 0x6000 then memGet 0 s.teller.mem (13 * 0x8000 + o)
  else if o < 0x6020 then BitVec.ofNat 8 (ringRegister s 13 ((o - 0x6000) / 4 * 4) / 256 ^ (o % 4))
  else if !s.fabricOn then 0
  else if 0x7000 ≤ o ∧ o < 0x8000 then memGet 0 s.teller.csParam (o - 0x7000)
  else if 0x8000 ≤ o ∧ o < 0x9000 then memGet 0 s.teller.csResult (o - 0x8000)
  else if 0x9000 ≤ o ∧ o < 0x9006 then BitVec.ofNat 8 (Config.serial.toNat / 256 ^ (o - 0x9000))
  else if o = 0x9006 then BitVec.ofNat 8 Config.revision
  else 0

/-- What a private read of the countersign port returns (R367): bytes from the offset of the last write. It changes nothing, and the table
has no row for it. -/
def State.portRead (s : State) (n : Nat) : List Byte :=
  (List.range n).map (fun i => s.portByteAt (s.teller.csOffset.toNat + i))

/-- Meaning of DYNAMIC_ADDRESS_ASSIGNMENT (R366). -/
def execDynamicAddressAssignment (address : BitVec 7) (byEntdaa : Bool) (s : State) : Out :=
  whenWf s (true) (onlyIf s.portLive
    (fun t => t.modTeller (fun x => { x with csAddress := address })) s)

end Sys2Proof.Machine
end

