-- ==== Sys2Proof/Machine/Weeder.lean ====
section
/-! DEFINITION. The directory weeder (R113, R114). -/

namespace Sys2Proof.Machine

/-- The weeder may probe an entry (R113): bcast 1, no pin, state S or O. -/
def DirEntry.weedable (e : DirEntry) : Bool := e.bcast && decide (e.pin = .none ∧ (e.state = .S ∨ e.state = .O))

/-- The ways of a set from `way` on are visited while budget and reserve last (R113). Answers the probes left, the way to resume at
where the walk has ended on a probe, and the state. A probe that finds no reserve entry ends the tick's walk before it. -/
def weedSet (sl set : Nat) : Nat → Nat → Nat → State → Nat × Option Nat × State
  | 0, _, left, s => (left, none, s)
  | n + 1, way, left, s =>
    let e := (s.slice sl).entry (16 * set + way)
    if !e.weedable then weedSet sl set n (way + 1) left s
    else if !s.reserveLeft sl then (left, some way, s)
    else
      let pl := plOfDir set e.tag.toNat
      let s1 := settle sl (addWork sl (ownWork .probe pl [] s) (count (16 + sl) 0x08 1 s))
      if left ≤ 1 then (0, some (way + 1), s1) else weedSet sl set n (way + 1) (left - 1) s1

/-- A tick's walk of one slice (R113): at most `sets` sets are read, and checked as any read checks them (R114, R132), and at most `left`
probes started. -/
def weedWalk (sl : Nat) : Nat → Nat → State → State
  | 0, _, s => s
  | sets + 1, left, s =>
    let set := (s.slice sl).weederSet
    let way := (s.slice sl).weederWay
    let r := weedSet sl set (16 - way) way left (checkDirSet sl set s)
    let goTo (a b : Nat) (t : State) : State := t.modSlice sl (fun x => { x with weederSet := a % 65536, weederWay := b })
    match r.2.1 with
    | some w => if w < 16 then goTo set w r.2.2 else goTo (set + 1) 0 r.2.2
    | none => weedWalk sl sets r.1 (goTo (set + 1) 0 r.2.2)

/-- WEEDER_WALK (R40, R113): every slice's walk of one tick. A SHADOW's homes start no probe. -/
def weederWalk (s : State) : State :=
  forEach (List.range 8) (fun sl t =>
    let budget := (Tab.get t.dev.weederBudget 8 sl).toNat
    if t.serving then weedWalk sl budget budget t else t) s

end Sys2Proof.Machine
end

