-- ==== Sys2Proof/Machine/Boundary.lean ====
section
/-! DEFINITION. Beat 0 of a tick boundary (R37 to R41, R44, R45, R571): its three phases. -/

namespace Sys2Proof.Machine

/-- The opcode of TIME_SET_EPOCH (R411). -/
def opSetEpoch : Nat := 0x0E01

/-- The stations that hold a trunk. -/
def State.trunkStations (s : State) : List Nat := (s.portsWhere (·.isTrunk)).map stationOf

/-- The flips that are due, in the order in which they fell due (R41, R344). -/
def State.flipsDue (s : State) : List Nat :=
  (sortBy (fun a b => decide (a.2.readyTick ≤ b.2.readyTick)) (s.pool.migrations.filter (fun m => s.flipReady m.1))).map (·.1)

/-- Extent-table flips of a boundary (R40, R41): at most 16; the excess waits whole, and ALM_OVERRUN counts each. -/
def flipExtents (s : State) : State :=
  let l := if s.serving then s.flipsDue else []
  let late := l.length - 16
  let s1 := forEach (l.take 16) (fun i t => mirroredAt i (flipExtent i) t) s
  if late = 0 then s1 else count 26 0x0B late (s1.modTime (fun t => { t with overrun := satAdd t.overrun late }))

/-- The level of PAIR_ALIVE_OUT at a boundary (R298): it toggles in a paired state, and is low otherwise. -/
def toggleAlive (s : State) : State :=
  s.modPair (fun p => { p with aliveOut := if p.state = .unpaired then false else !p.aliveOut })

/-- Phase 1 (R571): the items of R40 in the order of its table. Each item that its table places later in the tick starts here. -/
def phaseOne (s0 : State) : State :=
  let s1 := if s0.time.seasonDue then seasonCloseOp s0 else s0
  let s2 := flipExtents (commitAll s1)
  let s3 := forEach (s2.trunkStations.filter s2.pauseDue) pauseTrunk s2
  let s4 := timeRequest s3
  let s5 := forEach s4.trunkStations sendAudit (forEach s4.trunkStations sendHeartbeat s4)
  weederWalk (sampleImon s5)

/-- Resets and mode transitions of phase 2 (R477, R482, R484 to R486, R489). -/
def phaseModes (s : State) : State :=
  match s.dev.resetDue with
  | some .warm => resetStartOp .warm s
  | some .fabric => resetStartOp .fabric s
  | some .steward => modeTransitions (stewardReset (s.modDev (fun d => { d with resetDue := none })))
  | none => if s.dev.dormantDue then enterDormant s else modeTransitions s

/-- Pair state transitions of phase 2 (R302, R307, R309, R313, R319): what the partner asked for, and the loss of its PAIR_ALIVE edges, come
before the test for promotion. -/
def phasePair (s : State) : State :=
  let ports := forEach s.pair.applyDue.flatten (fun r t => match r.body with
    | .config 6 i v => takePortEntry i (portEntryOf v.toNat) t
    | _ => t) s
  let s0 := forEach s.pair.due pairDue ((applyChanges ports).modPair (fun p => { p with due := [] }))
  let s1 := if s0.fabricOn && s0.aliveLate then aliveStopped s0 else s0
  let s2 := promotionOp s1
  let s3 := match s2.pair.switching with
    | none => s2
    | some b =>
      if decide (s2.pair.state = PairState.active) && s2.quiesced then switchOver s2
      else if b + 4096 ≤ s2.tick then switchTimeout s2 else s2
  match s3.pair.forming with
  | some b => if b + 64 ≤ s3.tick then formTimeout s3 else s3
  | none => s3

/-- One plot's transitions at a boundary (R66, R67, R69 to R71): its drain runs on, and a queued command runs once the plot has
settled. -/
def plotBoundary (p : Nat) (s : State) : State :=
  let s0 := if (s.plot p).state = .sanitizing then dropUnreachable p s else s
  let hold (n : Nat) : (State → State) → State → State := mirroredAt (0x100000 * n + p)
  let s1 := hold 1 (drainStep p) s0
  let s2 := if s1.drained p then hold 2 (startSanitize p) s1
    else if s1.drainLate p then hold 3 (drainTimeout p) s1
    else if decide ((s1.plot p).state = .sanitizing) && !s1.sanitizing p then hold 4 (endSanitize p) s1
    else s1
  if s2.queuedReady p then hold 5 (runQueued p) s2 else s2

/-- Plot transitions of phase 2, in ascending order, after the work for other devices' plots. -/
def phasePlots (s : State) : State :=
  if !s.serving then s
  else forEach (s.plotsWhere (fun x => x.moving || decide (x.queued ≠ .none))) plotBoundary (mirroredAt 0x600000 remoteDrainSteps s)

/-- Count changes and shrink timeouts of phase 2, by bed (R85, R87). -/
def phaseBeds (s : State) : State :=
  if !s.serving then s
  else forEach ((s.pool.beds.filter (fun b => b.2.resize.isSome)).map (·.1)) (fun b t =>
    if t.resizeReady b then mirroredAt (0x700000 + b) (countChange b) t
    else if t.shrinkLate b then mirroredAt (0x800000 + b) (shrinkTimeout b) t else t) s

/-- Retries and poison writes of failed attempts of one slice (R147, R148), by position; a SHADOW makes none (R297). A line bound for a lost port waits for the walk of
R225, and has no further attempt (R224), and so has a copy for a lost target. -/
def retryWrites (sl : Nat) (s : State) : State :=
  let due := ((s.slice sl).wb.filter (fun w => decide (w.2.state = .failed ∧ w.2.since < s.tick ∧ (s.port w.2.place.port.toNat).walkFrom = none) && !(w.2.migOnly && s.portLost w.2.place.port.toNat))).map (·.1)
  forEach due (fun p t =>
    let y := (t.slice sl).wbLine p
    if y.state ≠ .failed then t
    else if 4 ≤ y.attempts then writesMoved sl (poisonLine sl p t)
    else
      let t1 := attemptWrite sl p t
      if ((t1.slice sl).wbLine p).state = .failed then writesMoved sl (failAttempt sl p t1) else t1) s

/-- Every other change of phase 2: maps of remote beds that have waited too long (R93), freezes that end, scans that start, retirement passes, the ripeners' passes, write retries. DESIGN CHOICE
(log 19): the ripeners' passes begin at the boundaries at which the device has counted an even number of ticks. -/
def phaseRest (s : State) : State :=
  let s0 := forEach (s.pool.remoteMaps.filter s.mapLate) (fun r => mapTimeout r.plot r.slot) s
  let s1 := forEach ((s0.barrow.slices.filter (fun b => b.2.frozenNow)).map (·.1)) freezeEnds s0
  let s2 := forEach ((s1.pool.agents.filter (fun a => a.2.lossDue)).map (·.1)) lossScanOp s1
  let s3 := if s2.pool.retireScan && decide (s2.pool.retireStart + 512 ≤ s2.tick) then mirroredAt 0x900000 retireEnd s2 else s2
  let s4 := if s3.pool.retireDue && !s3.pool.retireScan && !s3.passIds.isEmpty then retirePass s3 else s3
  let s5 := forEach (s4.portsWhere (·.scanDue)) (fun p t => mirrored (extentScan p) t) s4
  let s6 := if s5.serving && decide (s5.time.ticks % 2 = 0) then forEach (List.range 8) ripenStart s5 else s5
  let s7 := attemptsDue s6
  if s7.serving then forEach (List.range 8) retryWrites s7 else s7

/-- Phase 2 (R571): the state changes that the device starts itself, kind by kind. -/
def phaseTwo (s : State) : State :=
  phaseRest (phaseBeds (phasePlots (phasePair (phaseModes (bistEffect s)))))

/-- The TIME_SET_EPOCH commands that take effect at this boundary (R381). -/
def State.epochsDue (s : State) : List Command :=
  s.teller.atTick.filter (fun c => decide (c.opcode.toNat = opSetEpoch) && s.ackedAt c)

/-- The values that the boundary's TIME_SET_EPOCH commands load, in turn (R44): `h` is the state against which they run their checks. -/
def epochLoads : List Command → State → List (BitVec 64)
  | [], _ => []
  | c :: rest, h =>
    match runTimeSetEpoch c h with
    | (.final st _, t) => if st = stDone then BitVec.ofNat 64 (c.num 16 8) :: epochLoads rest t else epochLoads rest h
    | _ => epochLoads rest h

/-- The almanac's value in beat 0, and the season close that an epoch forces (R44, R45). The commands themselves count and log in
phase 3; whether they are still there and pass their checks is found by letting the first two phases run ahead. DESIGN CHOICE (log 63): where two of
them take effect at one boundary, the last value stands in beat 0 and one close is forced. -/
def loadEpoch (s : State) : State :=
  let l := s.epochsDue
  let s1 := s.modTime (fun t => { t with epochOld := some t.now })
  if l.isEmpty then s1
  else match (let h := phaseTwo (phaseOne s1); epochLoads (l.filter h.teller.atTick.contains) h).getLast? with
    | none => s1
    | some v => s1.modTime (fun t => { t with now := v, seasonDue := true, closeShort := true })

/-- What a boundary begins with (R37, R38, R46, R55, R521): the tick is counted; a season boundary under the exponent in force is due;
the broadcast to the steward and the correction beat are due. -/
def tickStart (s : State) : State :=
  let s1 := loadEpoch (countAll 3 1 (s.modTime (fun t => { t with ticks := t.ticks + 1, broadcastDue := true, corrDue := true })))
  let k := decide (s1.now.toNat % s1.seasonBeats = 0)
  s1.modTime (fun t => { t with kDue := k, seasonDue := t.seasonDue || k })

/-- Phase 3 (R571): the commands of R381, then the pending BAR 2 actions of Barrow slices (R334). -/
def phaseThree (s : State) : State :=
  let s1 := boundaryCommands s
  forEach ((s1.barrow.slices.filter (fun b => b.2.pendingBar.isSome)).map (·.1)) slcBoundary s1

/-- Beat 0 of a tick boundary (R571). The counters change their way of counting at the first boundary after the change (R526). -/
def boundaryOp (s : State) : State :=
  let switch := counterSwitchDue s
  let s1 := phaseTwo (phaseOne (tickStart s))
  let s2 := if switch && counterSwitchDue s1 then switchCounters s1 else s1
  let s3 := phaseThree s2
  (toggleAlive s3).modTime (fun t => { t with epochOld := none, kDue := false })

end Sys2Proof.Machine
end

