-- ==== Sys2Proof/Machine/Beat.lean ====
section
/-! DEFINITION. Beats of the time base (R16, R37, R42, R48): what every beat does, the beat that reaches a tick boundary, and the
commands that let beats pass. -/

namespace Sys2Proof.Machine

/-- A port holds back link-layer credits (R169): a class has no room in its station, or one of its station's queues of the request or I/O
class stands at 256 cells. -/
def State.creditsHeld (s : State) (port : Nat) : Bool :=
  let st := stationOf port
  let mine := s.inMemory st
  [clsSnoop, clsResponse, clsRequest, clsIo].any (fun k => !s.queueRoom st k) ||
    mine.any (fun c => decide (c.cls = clsRequest ∨ c.cls = clsIo) && decide (256 ≤ (mine.filter (sameQueue c)).length))

/-- A candidate of a slice is held back by a full overflow queue (R123). -/
def State.heldByOverflow (s : State) (sl : Nat) : Bool :=
  let x := s.slice sl
  decide (64 ≤ x.overflowCount) && x.input.any (fun t => x.setFull t.pl)

/-- Requests to ASYNC beds are held back at a slice (R303). -/
def State.heldByLag (s : State) (sl : Nat) : Bool :=
  s.asyncHeld sl && (s.slice sl).input.any (fun t => (s.bed t.bed).async && decide (t.req ≠ .home))

/-- The statistics and counters of `n` beats that are alike (R523, R528). -/
def countBeats (n : Nat) (s : State) : State :=
  let s1 := countAll 2 n (countAll 1 (2 * n) s)
  let held := (s.switch.qos.filter (fun q => !q.2.readHeld.isEmpty || !q.2.writeHeld.isEmpty)).map (·.1)
  let s2 := forEach held (fun p t => plotCount p 16 n t) s1
  let s3 := forEach (s.plotsWhere (fun p => decide (p.state = .active))) (fun p t => plotCount p 30 n t) s2
  let s4 := forEach (s.portsWhere (fun p => decide (p.entry.role ≠ 0))) (fun p t =>
    let t1 := onlyIf (decide ((s.port p).ltssm = .L0)) (portCount p 10 n) t
    let t2 := onlyIf ((s.port p).inL0 && s.creditsHeld p) (fun u => countPortLong p 0x0C (2 * n) (portCount p 11 n u)) t1
    onlyIf (decide (2 ≤ s.portLevel p)) (portCount p 12 n) t2) s3
  forEach (List.range 8) (fun sl t =>
    let stall (u : State) : State := countLong (16 + sl) 0x04 (2 * n) (u.modSlice sl (fun x => { x with stalls := satAdd x.stalls (2 * n) }))
    onlyIf (s.heldByLag sl) (countLong (16 + sl) 0x14 (2 * n)) (onlyIf (s.heldByOverflow sl) stall t)) s4

/-- The empty flit slots of `n` beats on a trunk in UP or STEP (R263, R268): a NULL leaves in each, or a TRAIN. -/
def nullBeats (n : Nat) (s : State) : State :=
  forEach (s.trunks.trunk.filter (fun e => decide (e.2.state = .up ∨ e.2.state = .step) && !e.2.idle)) (fun e t =>
    let k := e.2.slotBeats
    let m := (s.time.beats + n + k - 1) / k - (s.time.beats + k - 1) / k
    if m = 0 then t
    else emitNull e.1 (portCount (t.trunkPort e.1) 3 (236 * (m - 1)) (portCount (t.trunkPort e.1) 1 (m - 1) (countPortLong (t.trunkPort e.1) 0x02 (m - 1)
      (t.modTrunk e.1 (fun x => { x with trainSent := if x.state = .step then x.trainSent + (m - 1) else x.trainSent })))))) s

/-- `n` beats pass in which nothing comes about but their counting, and the NULL flits of their empty slots. -/
def passBeats (n : Nat) (s : State) : State :=
  let s1 := if s.fabricOn then countBeats n (nullBeats n s) else s
  s1.modTime (fun t => { t with beats := t.beats + n, now := if t.running then t.now + BitVec.ofNat 64 n else t.now,
                                dormantUs := if s.dev.mode = .dormant then (t.beats + n - t.dormantBeat) / 1000 else t.dormantUs })

/-- A ring whose next command has an opcode that the catalogue does not define (R374): no command row starts it. -/
def State.startsUndefined (s : State) : Option Nat :=
  match s.nextRing with
  | some n => if s.startFree && (opInfo (s.front n).opcode.toNat).isNone then some n else none
  | none => none

/-- The boundary's broadcast reaches the steward die by beat 8 of the tick, where no command brought it earlier (R46, R427); one that falls due
while the die link is down goes out in the first beat in which the link is up (log 101). -/
def broadcastBeat (s : State) : State :=
  if s.time.broadcastDue && s.dieUp && decide (7 ≤ s.now.toNat % 1024) then broadcastOp s else s

/-- The directory and vault scans read on (R69, R127, R142, R145, R146, R572), the walks of a resync (R308), and what a lost port started (R225). -/
def scanBeat (s : State) : State := walkSlices <| scanPorts (walkPorts (ripeners (policyScans (flushScans (dirScans s)))))

/-- A scan still comes upon an entry or a line. -/
def State.scanAhead (s : State) : Bool :=
  s.home.scans.any (fun d => s.home.slices.any (fun x => x.2.dir.any (fun e => decide (d.pos ≤ e.1)))) ||
  s.home.flushes.any (fun f => s.home.slices.any (fun x => x.2.vault.any (fun e => decide (f.2.scanned ≤ e.1 / 16)))) ||
  s.pool.beds.any (fun b => !b.2.policyScan.isEmpty && s.home.slices.any (fun x => x.2.vault.any (fun e => decide (b.2.policySets ≤ e.1 / 16)))) ||
  (s.serving && s.home.slices.any (fun x => x.2.vault.any (fun e => decide (x.2.ripSets ≤ e.1 / 16)))) ||
  s.walkAhead || s.ports.port.any (fun p => (p.2.walkFrom.isSome && s.home.slices.any (fun x => !x.2.wb.isEmpty)) ||
    (p.2.scanning && s.pool.extents.any (fun e => (e.2.place.port.toNat == p.1 || (decide (e.2.state = .migrating) && e.2.mig.port.toNat == p.1)) && decide (p.2.scanPos ≤ e.1))))

/-- A trunk has something to send, to deliver or to do beside NULL flits (R268, R272, R274, R282). -/
def Trunk.busy (t : Trunk) : Bool :=
  !t.waiting.isEmpty || !t.resend.isEmpty || !t.mgmtOut.isEmpty || !t.buffers.isEmpty || t.held.any (fun f => f.seq == t.exp) ||
    t.pendingRet.any (fun e => decide (0 < e.2)) || t.pauseBeat.isSome || t.wakeBeat.isSome

/-- The switch core or a trunk has work (R162, R176). -/
def State.switchBusy (s : State) : Bool :=
  !s.switch.voq.isEmpty || !s.switch.formed.isEmpty || !s.switch.staging.isEmpty || !s.switch.holding.isEmpty ||
    s.trunks.trunk.any (fun e => e.2.busy)

/-- The switch core's part of a beat (R162, R176): it matches once in every beat, where no command has done so. -/
def switchBeat (s : State) : State :=
  if s.switch.matched = 1 + s.time.beats then s else if s.switchBusy then cellMatchOp s else nullBeats 1 s

/-- What the fabric die does in every beat beside its commands: sweeps of ASYNC beds and the scans go on (R127, R312), the zeroing goes on (R95), TLPs of the Barrow that wait for a turn leave (R331), the receipts of ring 14 leave
(R351), the switch core and the trunks have their beat (R162, R268), receipts that wait are written as room frees (R359), the Teller starts a command of an undefined opcode (R374), the hold queues
and the QoS banks have their beat (R190, R191), the almanac's broadcast arrives (R46), the fault ledger takes an entry (R538), the EVC selects (R461, R468), and the harts take their interrupts (R414). -/
def beatWork (s : State) : State :=
  let s1 := forEach (List.range 8) (fun sl t => if (t.slice sl).sweeping.isEmpty then t else sweepOne sl (sweepOne sl t)) s
  let s2 := forEach ((s1.teller.rings.filter (fun r => !r.2.deferred.isEmpty)).map (·.1)) writeDeferred (sendReturns s1)
  let s3 := match s2.startsUndefined with
    | some n => startCommand n s2
    | none => s2
  hartInterrupts <| evcBeats <| drainBeat (broadcastBeat (switchBeat (qosBeat (scanBeat (tlpBeat (zeroBeat s3))))))

/-- Nothing of its own comes about on the fabric die up to the last beat of the tick: its beats may be counted at once. -/
def State.still (s : State) : Bool :=
  (List.range 8).all (fun sl => (s.slice sl).sweeping.isEmpty) && s.teller.returns.isEmpty && s.teller.rings.all (fun r => r.2.deferred.isEmpty) &&
  s.startsUndefined.isNone && s.barrow.tlpOut.isEmpty && !s.scanAhead && !s.switchBusy && decide (s.switch.matched ≠ 1 + s.time.beats) && (!s.memServing || s.zeroNext.isNone) && s.heldPorts.isEmpty && (s.switch.qos.isEmpty || decide (64 ≤ s.now.toNat % 1024)) &&
  !(s.time.broadcastDue && s.dieUp) && !s.time.corrDue && !s.evcBusy &&
  s.ledger.queues.isEmpty && s.ctr.trigBeat.isNone && s.steward.harts.all (fun h => h.2.enables == 0)

/-- One beat (R16, R42). In the last beat of a tick the receipt of a transition to DORMANT is written (R485); a beat that takes the
almanac to a multiple of 1,024 is beat 0 of a tick (R37, R571). A snapshot that an assertion has triggered is taken as the beat after it begins
(R527). -/
def idleBeat (s : State) : State :=
  if !s.fabricOn then passBeats 1 s
  else
    let s1 := beatWork (if s.now.toNat % 1024 = 1023 then dormantReceipt s else s)
    let s2 := countBeats 1 s1
    let s3 := almanacBeat (s2.modTime (fun t => { t with beats := t.beats + 1 }))
    let s4 := if s3.ctr.trigBeat.isSome then snapshot s3 else s3
    if s4.now ≠ s2.now ∧ s4.now.toNat % 1024 = 0 then boundaryOp s4 else s4

/-- Time goes on: by the beats up to the last one of the tick where nothing comes about in them, else by one beat. The scans then stand
where they stand in the last of those beats. -/
def passOn (s : State) : State :=
  let left := 1023 - s.now.toNat % 1024
  if s.still && decide (0 < left) && s.fabricOn && s.time.running then passBeats 1 (scanBeat (passBeats (left - 1) s)) else idleBeat s

/-- Time goes on until a state that `stop` names. -/
def runUntil (stop : State → Bool) : Nat → State → State
  | 0, s => s
  | n + 1, s => if stop s then s else runUntil stop n (passOn s)

/-- The rest of the tick passes (R37, R571), beat by beat, and beat 0 of the next one takes effect: at most 1,024 beats, and those in which
the almanac holds (R55). -/
def passTick (s : State) : State := runUntil (fun t => decide (t.tick ≠ s.tick) || !t.time.running) 2048 s

/-- The rest of the season passes, tick by tick (R37, R39): its ticks are at most 2^24 and one more (R38). -/
def passSeason (s : State) : State := runUntil (fun t => decide (t.time.seasonNum ≠ s.time.seasonNum) || !t.time.running) (2 ^ 36) s

/-- Meaning of TICK_BOUNDARY (R571): beats pass up to the next tick boundary, and its beat 0 takes effect. -/
def execTickBoundary (s : State) : Out := whenWf s true (onlyIf (s.fabricOn && s.time.running) passTick s)

/-- Meaning of SEASON_CLOSE (R37, R39, R571): ticks pass, each with the work of its boundary, up to the one at which the season closes. -/
def execSeasonClose (s : State) : Out := whenWf s true (onlyIf (s.fabricOn && s.time.running) passSeason s)

/-- A bank's ripener has come to the end of a pass since a state: of the one that ran there, or of the next (R142). -/
def State.ripened (s : State) (bank : Nat) (t : State) : Bool :=
  let x := s.slice bank
  let y := t.slice bank
  decide (y.ripSets = 4096) && (decide (x.ripSets < 4096) || y.ripStart != x.ripStart)

/-- Meaning of RIPENER_PASS (R142, R135): beats pass up to the end of the bank's pass, each with the two sets that it reads. -/
def execRipenerPass (bank : Nat) (s : State) : Out :=
  whenWf s (decide (bank < 8)) (onlyIf (s.serving && s.time.running)
    (runUntil (fun t => s.ripened bank t || !t.serving || !t.time.running) 6144) s)

/-- Meaning of QOS_REPLENISH (R191): in the plot's beat of the tick, once. The beat goes to its end: a charge of the same beat comes first. -/
def execQosReplenish (plot : Nat) (s : State) : Out :=
  whenWf s (decide (plot < 512))
    (onlyIf (s.fabricOn && decide ((s.qos plot).replenished ≠ s.tick + 1 ∧ s.now.toNat % 1024 = plot % 64)) idleBeat s)

/-- Meaning of COUNTER_TRIGGER_SNAPSHOT (R527): the beat after the assertion begins. -/
def execCounterTriggerSnapshot (s : State) : Out :=
  whenWf s (true) (onlyIf (s.fabricOn && s.ctr.trigBeat.isSome) idleBeat s)

/-- EVC_OFFER (R459 to R461, R468): beats pass up to the one in which the target's offer is sent, where it has a candidate; the selection takes
four of them. -/
def evcOfferOp (t : Nat) (s : State) : State :=
  runUntil (fun u => (u.toOffer t).isNone && !u.offerStale t) 6 (evcReview t (evcResolve t s))

/-- Meaning of EVC_OFFER. -/
def execEvcOffer (target : Nat) (s : State) : Out :=
  whenWf s (decide (target < 4)) (onlyIf s.fabricOn (evcOfferOp target) s)

/-- Meaning of ALMANAC_CORRECTION (R55): the beat after a tick boundary, at a count of 1 modulo 1,024. -/
def execAlmanacCorrection (s : State) : Out :=
  whenWf s true (onlyIf (s.fabricOn && s.time.running && s.time.corrDue) (runUntil (fun t => !t.time.corrDue) 1024) s)

end Sys2Proof.Machine
end

