-- ==== Sys2Proof/Machine/BoundaryRows.lean ====
section
/-! DEFINITION. The rows whose effect the spec places at a tick boundary (R40, R571): where the item is due, beats pass up to the next tick
boundary, and its beat 0 takes the item in its phase and its place in that phase's order, with everything else that is due there. -/

namespace Sys2Proof.Machine

/-- The state as the next tick boundary finds it, as far as spans of ticks go. -/
def State.nextTick (s : State) : State := s.modTime (fun t => { t with ticks := t.ticks + 1 })

/-- An item of the next tick boundary (R40, R571) that is due at it: the tick ends. -/
def atBoundary (due : State → Bool) (s : State) : State :=
  onlyIf (s.fabricOn && s.time.running && due s.nextTick) passTick s

/-- Meaning of EXTENT_FLIP (R40, R41: it takes effect in phase 1 of the boundary, as one of at most 16 flips). -/
def execExtentFlip (extent : Nat) (s : State) : Out :=
  whenWf s (decide (extent < 1048576)) (atBoundary (fun t => t.serving && t.flipReady extent) s)

/-- Meaning of BED_COUNT_CHANGE (R85, R571). -/
def execBedCountChange (bed : Nat) (s : State) : Out :=
  whenWf s (decide (bed < 4096)) (atBoundary (fun t => t.serving && t.resizeReady bed) s)

/-- Meaning of BED_SHRINK_TIMEOUT (R87, R571). -/
def execBedShrinkTimeout (bed : Nat) (s : State) : Out :=
  whenWf s (decide (bed < 4096)) (atBoundary (fun t => t.serving && t.shrinkLate bed) s)

/-- Meaning of PLOT_DRAIN_COMPLETE (R66, R69, R571). -/
def execPlotDrainComplete (plot : Nat) (s : State) : Out :=
  whenWf s (decide (plot < 512)) (atBoundary (fun t => t.serving && (t.drained plot || t.drainDue plot)) s)

/-- Meaning of PLOT_DRAIN_TIMEOUT (R70, R571). -/
def execPlotDrainTimeout (plot : Nat) (s : State) : Out :=
  whenWf s (decide (plot < 512)) (atBoundary (fun t => t.serving && t.drainLate plot) s)

/-- Meaning of PLOT_SANITIZE_COMPLETE (R66, R71, R571). -/
def execPlotSanitizeComplete (plot : Nat) (s : State) : Out :=
  whenWf s (decide (plot < 512)) (atBoundary (fun t => t.serving && decide ((t.plot plot).state = .sanitizing) && !t.sanitizing plot) s)

/-- Meaning of PLOT_QUEUED_COMMAND_RUN (R67, R571). -/
def execPlotQueuedCommandRun (plot : Nat) (s : State) : Out :=
  whenWf s (decide (plot < 512)) (atBoundary (fun t => t.serving && t.queuedReady plot) s)

/-- Meaning of PROPOSAL_COMMIT (R40, R372: in phase 1, in the order in which the proposals were staged). -/
def execProposalCommit (n : Nat) (s : State) : Out :=
  whenWf s (true) (atBoundary (fun t => (match t.proposal (BitVec.ofNat 16 n) with | some p => p.ready t | none => false)) s)

/-- Meaning of PROPOSAL_EXPIRY (R370: after the boundary's commits). -/
def execProposalExpiry (n : Nat) (s : State) : Out :=
  whenWf s (true) (atBoundary (fun t => (match t.proposal (BitVec.ofNat 16 n) with | some p => p.expires | none => false)) s)

/-- Meaning of RETRAIN_PAUSE (R40, R281). -/
def execRetrainPause (station : Nat) (s : State) : Out :=
  whenWf s (decide (station < 16)) (atBoundary (fun t => t.pauseDue station) s)

/-- Meaning of PROMOTION (R309, R571). -/
def execPromotion (s : State) : Out :=
  whenWf s (true) (atBoundary (fun t => decide (t.pair.state = .shadow) && t.promotionDue) s)

/-- Meaning of SWITCHOVER_QUIESCED (R313, R571). -/
def execSwitchoverQuiesced (s : State) : Out :=
  whenWf s (true) (atBoundary (fun t => t.pair.switching.isSome && decide (t.pair.state = .active) && t.quiesced) s)

/-- Meaning of SWITCHOVER_TIMEOUT (R313, R571). -/
def execSwitchoverTimeout (s : State) : Out :=
  whenWf s (true) (atBoundary (fun t => (match t.pair.switching with | some b => decide (b + 4096 ≤ t.tick) | none => false)) s)

/-- Meaning of PAIR_FORM_TIMEOUT (R319, R571). -/
def execPairFormTimeout (s : State) : Out :=
  whenWf s (true) (atBoundary (fun t => (match t.pair.forming with | some b => decide (b + 64 ≤ t.tick) | none => false)) s)

/-- Meaning of RESET_START (R386, R489, R571). -/
def execResetStart (s : State) : Out :=
  whenWf s (true) (atBoundary (fun t => decide (t.dev.resetDue = some .warm ∨ t.dev.resetDue = some .fabric)) s)

/-- Meaning of DORMANT_ENTRY (R48, R485: its receipt is written in the beat before). -/
def execDormantEntry (s : State) : Out :=
  whenWf s (true) (atBoundary (fun t => t.dev.dormantDue || (t.dormantWaits && t.evcQuiet)) s)

/-- Meaning of STEWARD_ONLY_RESET (R386, R571). -/
def execStewardOnlyReset (s : State) : Out :=
  whenWf s (true) (atBoundary (fun t => decide (t.dev.resetDue = some .steward)) s)

/-- Meaning of LOSS_SCAN_START (R127, R571). -/
def execLossScanStart (agent : Nat) (s : State) : Out :=
  whenWf s (decide (agent < 64)) (atBoundary (fun t => (t.agent agent).lossDue) s)

/-- Meaning of RETIREMENT_PASS_START (R572, R571). -/
def execRetirementPassStart (s : State) : Out :=
  whenWf s (true) (atBoundary (fun t => t.pool.retireDue && !t.pool.retireScan && !t.passIds.isEmpty) s)

/-- Meaning of RETIREMENT_PASS_END (R572, R571). -/
def execRetirementPassEnd (s : State) : Out :=
  whenWf s (true) (atBoundary (fun t => t.pool.retireScan && decide (t.pool.retireStart + 512 ≤ t.tick)) s)

/-- Meaning of EXTENT_SCAN_START (R225, R571). -/
def execExtentScanStart (port : Nat) (s : State) : Out :=
  whenWf s (decide (port < 128)) (atBoundary (fun t => (t.port port).scanDue) s)

/-- Meaning of SLICE_FROZEN (R334, R571). -/
def execSliceFrozen (slice : Nat) (s : State) : Out :=
  whenWf s (decide (slice < 512)) (atBoundary (fun t => (t.bslice slice).frozenNow) s)

/-- Meaning of WRITE_RETRY (R147, R571). -/
def execWriteRetry (slice pos : Nat) (s : State) : Out :=
  whenWf s (decide (slice < 8) && decide (pos < 512)) (atBoundary (fun t => let y := (t.slice slice).wbLine pos; decide (y.state = .failed ∧ y.attempts < 4 ∧ y.since < t.tick)) s)

/-- Meaning of POISON_WRITE (R148, R571). -/
def execPoisonWrite (slice pos : Nat) (s : State) : Out :=
  whenWf s (decide (slice < 8) && decide (pos < 512)) (atBoundary (fun t => let y := (t.slice slice).wbLine pos; decide (y.state = .failed ∧ 4 ≤ y.attempts ∧ y.since < t.tick)) s)

/-- Meaning of COUNTER_MODE_SWITCH (R526). -/
def execCounterModeSwitch (s : State) : Out :=
  whenWf s (true) (atBoundary (counterSwitchDue) s)

/-- Meaning of FALLOW_FLUSH_COMPLETE (R484, R571). -/
def execFallowFlushComplete (s : State) : Out :=
  whenWf s (true) (atBoundary (State.fallowOver) s)

/-- Meaning of FALLOW_TIMEOUT (R484, R571). -/
def execFallowTimeout (s : State) : Out :=
  whenWf s (true) (atBoundary (State.fallowLate) s)

/-- Meaning of SPROUT_DEADLINE (R477, R478, R571). -/
def execSproutDeadline (s : State) : Out :=
  whenWf s (true) (atBoundary (fun t => decide (t.dev.mode = .sprout) && !t.dev.deadlineDone && t.deadlinePassed) s)

end Sys2Proof.Machine
end

