-- ==== Sys2Proof/Machine/TellerCmd.lean ====
section
/-! DEFINITION. The rows of the command catalogue (13_command_catalogue): the Teller starts a ring's next command of that opcode. What each
command does, its checks and its receipts are in Catalogue.lean and Teller.lean, and the files they use. -/

namespace Sys2Proof.Machine

/-- A beat passes where the Teller started a command less than 4 beats ago (R358). -/
def State.waitBeat (s : State) : State := if s.startFree then s else idleBeat s

/-- The Teller can start the waiting command of a ring next (R353, R358), and it has that opcode and that flag fwd (R354, R360). -/
def State.waitsFor (s : State) (op ring : Nat) (fwd : Bool) : Bool :=
  s.fabricOn && decide (s.nextRing = some ring) && decide ((s.front ring).opcode.toNat = op) && (s.front ring).fwd == fwd

/-- The Teller takes a ring's next command, an opcode `op` with fwd 0 (R353, R357, R358), once 4 beats have passed since the last
start. Where no such command is next, nothing happens (log 5). -/
def tellerCommand (op ring : Nat) (s : State) : State :=
  if s.waitsFor op ring false then
    let s1 := s.waitBeat.waitBeat.waitBeat.waitBeat
    if s1.waitsFor op ring false then startCommand ring s1 else s1
  else s

/-- The Teller takes a ring's next command, whatever its opcode, with fwd 1 (R360). -/
def tellerForward (ring : Nat) (s : State) : State :=
  if s.waitsFor (s.front ring).opcode.toNat ring true then
    let s1 := s.waitBeat.waitBeat.waitBeat.waitBeat
    if s1.waitsFor (s1.front ring).opcode.toNat ring true then startCommand ring s1 else s1
  else s

/-- Meaning of DEV_IDENTIFY. -/
def execDevIdentify (ring : Nat) (s : State) : Out := whenWf s (decide (ring < 16)) (tellerCommand 0x0101 ring s)

/-- Meaning of DEV_STATUS. -/
def execDevStatus (ring : Nat) (s : State) : Out := whenWf s (decide (ring < 16)) (tellerCommand 0x0102 ring s)

/-- Meaning of DEV_SET_MODE. -/
def execDevSetMode (ring : Nat) (s : State) : Out := whenWf s (decide (ring < 16)) (tellerCommand 0x0103 ring s)

/-- Meaning of DEV_RESET. -/
def execDevReset (ring : Nat) (s : State) : Out := whenWf s (decide (ring < 16)) (tellerCommand 0x0104 ring s)

/-- Meaning of DEV_SET_NUMBER. -/
def execDevSetNumber (ring : Nat) (s : State) : Out := whenWf s (decide (ring < 16)) (tellerCommand 0x0105 ring s)

/-- Meaning of DEV_SET_KEY_SLOT. -/
def execDevSetKeySlot (ring : Nat) (s : State) : Out := whenWf s (decide (ring < 16)) (tellerCommand 0x0106 ring s)

/-- Meaning of DEV_REVOKE_KEY_SLOT. -/
def execDevRevokeKeySlot (ring : Nat) (s : State) : Out := whenWf s (decide (ring < 16)) (tellerCommand 0x0107 ring s)

/-- Meaning of PLOT_CONFIGURE. -/
def execPlotConfigure (ring : Nat) (s : State) : Out := whenWf s (decide (ring < 16)) (tellerCommand 0x0201 ring s)

/-- Meaning of PLOT_RELEASE. -/
def execPlotRelease (ring : Nat) (s : State) : Out := whenWf s (decide (ring < 16)) (tellerCommand 0x0202 ring s)

/-- Meaning of PLOT_MAP_BED. -/
def execPlotMapBed (ring : Nat) (s : State) : Out := whenWf s (decide (ring < 16)) (tellerCommand 0x0203 ring s)

/-- Meaning of PLOT_UNMAP_BED. -/
def execPlotUnmapBed (ring : Nat) (s : State) : Out := whenWf s (decide (ring < 16)) (tellerCommand 0x0204 ring s)

/-- Meaning of PLOT_ENABLE. -/
def execPlotEnable (ring : Nat) (s : State) : Out := whenWf s (decide (ring < 16)) (tellerCommand 0x0205 ring s)

/-- Meaning of PLOT_DISABLE. -/
def execPlotDisable (ring : Nat) (s : State) : Out := whenWf s (decide (ring < 16)) (tellerCommand 0x0206 ring s)

/-- Meaning of PLOT_RESET. -/
def execPlotReset (ring : Nat) (s : State) : Out := whenWf s (decide (ring < 16)) (tellerCommand 0x0207 ring s)

/-- Meaning of PLOT_SET_SANITIZE. -/
def execPlotSetSanitize (ring : Nat) (s : State) : Out := whenWf s (decide (ring < 16)) (tellerCommand 0x0208 ring s)

/-- Meaning of PLOT_SET_QOS. -/
def execPlotSetQos (ring : Nat) (s : State) : Out := whenWf s (decide (ring < 16)) (tellerCommand 0x0209 ring s)

/-- Meaning of PLOT_READ. -/
def execPlotRead (ring : Nat) (s : State) : Out := whenWf s (decide (ring < 16)) (tellerCommand 0x020A ring s)

/-- Meaning of BED_DEFINE. -/
def execBedDefine (ring : Nat) (s : State) : Out := whenWf s (decide (ring < 16)) (tellerCommand 0x0301 ring s)

/-- Meaning of BED_UNDEFINE. -/
def execBedUndefine (ring : Nat) (s : State) : Out := whenWf s (decide (ring < 16)) (tellerCommand 0x0302 ring s)

/-- Meaning of BED_SET_POLICY. -/
def execBedSetPolicy (ring : Nat) (s : State) : Out := whenWf s (decide (ring < 16)) (tellerCommand 0x0303 ring s)

/-- Meaning of BED_GROW. -/
def execBedGrow (ring : Nat) (s : State) : Out := whenWf s (decide (ring < 16)) (tellerCommand 0x0304 ring s)

/-- Meaning of BED_SHRINK. -/
def execBedShrink (ring : Nat) (s : State) : Out := whenWf s (decide (ring < 16)) (tellerCommand 0x0305 ring s)

/-- Meaning of BED_EXPORT. -/
def execBedExport (ring : Nat) (s : State) : Out := whenWf s (decide (ring < 16)) (tellerCommand 0x0306 ring s)

/-- Meaning of BED_READ. -/
def execBedRead (ring : Nat) (s : State) : Out := whenWf s (decide (ring < 16)) (tellerCommand 0x0307 ring s)

/-- Meaning of EXTENT_DEFINE. -/
def execExtentDefine (ring : Nat) (s : State) : Out := whenWf s (decide (ring < 16)) (tellerCommand 0x0308 ring s)

/-- Meaning of EXTENT_UNDEFINE. -/
def execExtentUndefine (ring : Nat) (s : State) : Out := whenWf s (decide (ring < 16)) (tellerCommand 0x0309 ring s)

/-- Meaning of EXTENT_CLEAR_FAILED. -/
def execExtentClearFailed (ring : Nat) (s : State) : Out := whenWf s (decide (ring < 16)) (tellerCommand 0x030A ring s)

/-- Meaning of EXTENT_READ. -/
def execExtentRead (ring : Nat) (s : State) : Out := whenWf s (decide (ring < 16)) (tellerCommand 0x030B ring s)

/-- Meaning of PORT_SET_ROLE. -/
def execPortSetRole (ring : Nat) (s : State) : Out := whenWf s (decide (ring < 16)) (tellerCommand 0x0401 ring s)

/-- Meaning of PORT_SET_LINK. -/
def execPortSetLink (ring : Nat) (s : State) : Out := whenWf s (decide (ring < 16)) (tellerCommand 0x0402 ring s)

/-- Meaning of PORT_RETRAIN. -/
def execPortRetrain (ring : Nat) (s : State) : Out := whenWf s (decide (ring < 16)) (tellerCommand 0x0403 ring s)

/-- Meaning of PORT_READ. -/
def execPortRead (ring : Nat) (s : State) : Out := whenWf s (decide (ring < 16)) (tellerCommand 0x0404 ring s)

/-- Meaning of PORT_STATUS. -/
def execPortStatus (ring : Nat) (s : State) : Out := whenWf s (decide (ring < 16)) (tellerCommand 0x0405 ring s)

/-- Meaning of PORT_PREPARE_REMOVAL. -/
def execPortPrepareRemoval (ring : Nat) (s : State) : Out := whenWf s (decide (ring < 16)) (tellerCommand 0x0406 ring s)

/-- Meaning of PORT_SET_IDE_KEY. -/
def execPortSetIdeKey (ring : Nat) (s : State) : Out := whenWf s (decide (ring < 16)) (tellerCommand 0x0407 ring s)

/-- Meaning of PORT_BIND_LD. -/
def execPortBindLd (ring : Nat) (s : State) : Out := whenWf s (decide (ring < 16)) (tellerCommand 0x0408 ring s)

/-- Meaning of PORT_UNBIND_LD. -/
def execPortUnbindLd (ring : Nat) (s : State) : Out := whenWf s (decide (ring < 16)) (tellerCommand 0x0409 ring s)

/-- Meaning of PORT_SET_LOAD_THRESHOLDS. -/
def execPortSetLoadThresholds (ring : Nat) (s : State) : Out := whenWf s (decide (ring < 16)) (tellerCommand 0x040A ring s)

/-- Meaning of LANE_SET. -/
def execLaneSet (ring : Nat) (s : State) : Out := whenWf s (decide (ring < 16)) (tellerCommand 0x0410 ring s)

/-- Meaning of LANE_READ. -/
def execLaneRead (ring : Nat) (s : State) : Out := whenWf s (decide (ring < 16)) (tellerCommand 0x0411 ring s)

/-- Meaning of LANE_STATUS. -/
def execLaneStatus (ring : Nat) (s : State) : Out := whenWf s (decide (ring < 16)) (tellerCommand 0x0412 ring s)

/-- Meaning of LANE_SET_LOOP. -/
def execLaneSetLoop (ring : Nat) (s : State) : Out := whenWf s (decide (ring < 16)) (tellerCommand 0x0413 ring s)

/-- Meaning of LANE_PRBS. -/
def execLanePrbs (ring : Nat) (s : State) : Out := whenWf s (decide (ring < 16)) (tellerCommand 0x0414 ring s)

/-- Meaning of LANE_EYE_SCAN. -/
def execLaneEyeScan (ring : Nat) (s : State) : Out := whenWf s (decide (ring < 16)) (tellerCommand 0x0415 ring s)

/-- Meaning of TRUNK_SET. -/
def execTrunkSet (ring : Nat) (s : State) : Out := whenWf s (decide (ring < 16)) (tellerCommand 0x0420 ring s)

/-- Meaning of TRUNK_READ. -/
def execTrunkRead (ring : Nat) (s : State) : Out := whenWf s (decide (ring < 16)) (tellerCommand 0x0421 ring s)

/-- Meaning of TRUNK_STATUS. -/
def execTrunkStatus (ring : Nat) (s : State) : Out := whenWf s (decide (ring < 16)) (tellerCommand 0x0422 ring s)

/-- Meaning of TRUNK_SET_LINK. -/
def execTrunkSetLink (ring : Nat) (s : State) : Out := whenWf s (decide (ring < 16)) (tellerCommand 0x0423 ring s)

/-- Meaning of TRUNK_RETRAIN. -/
def execTrunkRetrain (ring : Nat) (s : State) : Out := whenWf s (decide (ring < 16)) (tellerCommand 0x0424 ring s)

/-- Meaning of TRUNK_RESTART. -/
def execTrunkRestart (ring : Nat) (s : State) : Out := whenWf s (decide (ring < 16)) (tellerCommand 0x0425 ring s)

/-- Meaning of TRUNK_SET_BUFFERS. -/
def execTrunkSetBuffers (ring : Nat) (s : State) : Out := whenWf s (decide (ring < 16)) (tellerCommand 0x0426 ring s)

/-- Meaning of TRUNK_SET_ROUTE. -/
def execTrunkSetRoute (ring : Nat) (s : State) : Out := whenWf s (decide (ring < 16)) (tellerCommand 0x0427 ring s)

/-- Meaning of COH_SET_WEEDER. -/
def execCohSetWeeder (ring : Nat) (s : State) : Out := whenWf s (decide (ring < 16)) (tellerCommand 0x0501 ring s)

/-- Meaning of COH_SET_SNOOP_TIMEOUT. -/
def execCohSetSnoopTimeout (ring : Nat) (s : State) : Out := whenWf s (decide (ring < 16)) (tellerCommand 0x0502 ring s)

/-- Meaning of COH_SET_LOAD_THRESHOLDS. -/
def execCohSetLoadThresholds (ring : Nat) (s : State) : Out := whenWf s (decide (ring < 16)) (tellerCommand 0x0503 ring s)

/-- Meaning of COH_READ_ENTRY. -/
def execCohReadEntry (ring : Nat) (s : State) : Out := whenWf s (decide (ring < 16)) (tellerCommand 0x0504 ring s)

/-- Meaning of COH_LOOKUP. -/
def execCohLookup (ring : Nat) (s : State) : Out := whenWf s (decide (ring < 16)) (tellerCommand 0x0505 ring s)

/-- Meaning of COH_STATUS. -/
def execCohStatus (ring : Nat) (s : State) : Out := whenWf s (decide (ring < 16)) (tellerCommand 0x0506 ring s)

/-- Meaning of VAULT_FLUSH. -/
def execVaultFlush (ring : Nat) (s : State) : Out := whenWf s (decide (ring < 16)) (tellerCommand 0x0601 ring s)

/-- Meaning of VAULT_SET_WRITE_TIMEOUT. -/
def execVaultSetWriteTimeout (ring : Nat) (s : State) : Out := whenWf s (decide (ring < 16)) (tellerCommand 0x0602 ring s)

/-- Meaning of VAULT_SET_PREDICTOR. -/
def execVaultSetPredictor (ring : Nat) (s : State) : Out := whenWf s (decide (ring < 16)) (tellerCommand 0x0603 ring s)

/-- Meaning of VAULT_STATUS. -/
def execVaultStatus (ring : Nat) (s : State) : Out := whenWf s (decide (ring < 16)) (tellerCommand 0x0604 ring s)

/-- Meaning of VAULT_READ_TAG. -/
def execVaultReadTag (ring : Nat) (s : State) : Out := whenWf s (decide (ring < 16)) (tellerCommand 0x0605 ring s)

/-- Meaning of VAULT_READ_PREDICTOR. -/
def execVaultReadPredictor (ring : Nat) (s : State) : Out := whenWf s (decide (ring < 16)) (tellerCommand 0x0606 ring s)

/-- Meaning of SLICE_BIND. -/
def execSliceBind (ring : Nat) (s : State) : Out := whenWf s (decide (ring < 16)) (tellerCommand 0x0701 ring s)

/-- Meaning of SLICE_UNBIND. -/
def execSliceUnbind (ring : Nat) (s : State) : Out := whenWf s (decide (ring < 16)) (tellerCommand 0x0702 ring s)

/-- Meaning of SLICE_MAP_PASID. -/
def execSliceMapPasid (ring : Nat) (s : State) : Out := whenWf s (decide (ring < 16)) (tellerCommand 0x0703 ring s)

/-- Meaning of SLICE_UNMAP_PASID. -/
def execSliceUnmapPasid (ring : Nat) (s : State) : Out := whenWf s (decide (ring < 16)) (tellerCommand 0x0704 ring s)

/-- Meaning of SLICE_FREEZE. -/
def execSliceFreeze (ring : Nat) (s : State) : Out := whenWf s (decide (ring < 16)) (tellerCommand 0x0705 ring s)

/-- Meaning of SLICE_THAW. -/
def execSliceThaw (ring : Nat) (s : State) : Out := whenWf s (decide (ring < 16)) (tellerCommand 0x0706 ring s)

/-- Meaning of SLICE_RESET. -/
def execSliceReset (ring : Nat) (s : State) : Out := whenWf s (decide (ring < 16)) (tellerCommand 0x0707 ring s)

/-- Meaning of SLICE_CLEAR_FAULT. -/
def execSliceClearFault (ring : Nat) (s : State) : Out := whenWf s (decide (ring < 16)) (tellerCommand 0x0708 ring s)

/-- Meaning of SLICE_SAVE. -/
def execSliceSave (ring : Nat) (s : State) : Out := whenWf s (decide (ring < 16)) (tellerCommand 0x0709 ring s)

/-- Meaning of SLICE_RESTORE. -/
def execSliceRestore (ring : Nat) (s : State) : Out := whenWf s (decide (ring < 16)) (tellerCommand 0x070A ring s)

/-- Meaning of SLICE_STATUS. -/
def execSliceStatus (ring : Nat) (s : State) : Out := whenWf s (decide (ring < 16)) (tellerCommand 0x070B ring s)

/-- Meaning of EXTENT_MIGRATE. -/
def execExtentMigrate (ring : Nat) (s : State) : Out := whenWf s (decide (ring < 16)) (tellerCommand 0x0710 ring s)

/-- Meaning of EXTENT_MIGRATE_CANCEL. -/
def execExtentMigrateCancel (ring : Nat) (s : State) : Out := whenWf s (decide (ring < 16)) (tellerCommand 0x0711 ring s)

/-- Meaning of PAIR_FORM. -/
def execPairForm (ring : Nat) (s : State) : Out := whenWf s (decide (ring < 16)) (tellerCommand 0x0801 ring s)

/-- Meaning of PAIR_DISSOLVE. -/
def execPairDissolve (ring : Nat) (s : State) : Out := whenWf s (decide (ring < 16)) (tellerCommand 0x0802 ring s)

/-- Meaning of PAIR_SWITCHOVER. -/
def execPairSwitchover (ring : Nat) (s : State) : Out := whenWf s (decide (ring < 16)) (tellerCommand 0x0803 ring s)

/-- Meaning of PAIR_ASSUME. -/
def execPairAssume (ring : Nat) (s : State) : Out := whenWf s (decide (ring < 16)) (tellerCommand 0x0804 ring s)

/-- Meaning of PAIR_PROMOTE. -/
def execPairPromote (ring : Nat) (s : State) : Out := whenWf s (decide (ring < 16)) (tellerCommand 0x0805 ring s)

/-- Meaning of PAIR_SET_LAG. -/
def execPairSetLag (ring : Nat) (s : State) : Out := whenWf s (decide (ring < 16)) (tellerCommand 0x0806 ring s)

/-- Meaning of PAIR_CLEAR_RECOVERY. -/
def execPairClearRecovery (ring : Nat) (s : State) : Out := whenWf s (decide (ring < 16)) (tellerCommand 0x0807 ring s)

/-- Meaning of PAIR_STATUS. -/
def execPairStatus (ring : Nat) (s : State) : Out := whenWf s (decide (ring < 16)) (tellerCommand 0x0808 ring s)

/-- Meaning of EVT_SET_SOURCE. -/
def execEvtSetSource (ring : Nat) (s : State) : Out := whenWf s (decide (ring < 16)) (tellerCommand 0x0901 ring s)

/-- Meaning of EVT_READ_SOURCE. -/
def execEvtReadSource (ring : Nat) (s : State) : Out := whenWf s (decide (ring < 16)) (tellerCommand 0x0902 ring s)

/-- Meaning of EVT_TRIGGER. -/
def execEvtTrigger (ring : Nat) (s : State) : Out := whenWf s (decide (ring < 16)) (tellerCommand 0x0903 ring s)

/-- Meaning of CTR_SET_SELECT. -/
def execCtrSetSelect (ring : Nat) (s : State) : Out := whenWf s (decide (ring < 16)) (tellerCommand 0x0A01 ring s)

/-- Meaning of CTR_SNAPSHOT. -/
def execCtrSnapshot (ring : Nat) (s : State) : Out := whenWf s (decide (ring < 16)) (tellerCommand 0x0A02 ring s)

/-- Meaning of CTR_READ. -/
def execCtrRead (ring : Nat) (s : State) : Out := whenWf s (decide (ring < 16)) (tellerCommand 0x0A03 ring s)

/-- Meaning of STAT_READ. -/
def execStatRead (ring : Nat) (s : State) : Out := whenWf s (decide (ring < 16)) (tellerCommand 0x0A04 ring s)

/-- Meaning of SLOT_SET. -/
def execSlotSet (ring : Nat) (s : State) : Out := whenWf s (decide (ring < 16)) (tellerCommand 0x0B01 ring s)

/-- Meaning of SLOT_ON. -/
def execSlotOn (ring : Nat) (s : State) : Out := whenWf s (decide (ring < 16)) (tellerCommand 0x0B02 ring s)

/-- Meaning of SLOT_OFF. -/
def execSlotOff (ring : Nat) (s : State) : Out := whenWf s (decide (ring < 16)) (tellerCommand 0x0B03 ring s)

/-- Meaning of SLOT_CLEAR_LATCH. -/
def execSlotClearLatch (ring : Nat) (s : State) : Out := whenWf s (decide (ring < 16)) (tellerCommand 0x0B04 ring s)

/-- Meaning of SLOT_READ. -/
def execSlotRead (ring : Nat) (s : State) : Out := whenWf s (decide (ring < 16)) (tellerCommand 0x0B05 ring s)

/-- Meaning of SLOT_STATUS. -/
def execSlotStatus (ring : Nat) (s : State) : Out := whenWf s (decide (ring < 16)) (tellerCommand 0x0B06 ring s)

/-- Meaning of FEED_SET. -/
def execFeedSet (ring : Nat) (s : State) : Out := whenWf s (decide (ring < 16)) (tellerCommand 0x0B07 ring s)

/-- Meaning of FEED_STATUS. -/
def execFeedStatus (ring : Nat) (s : State) : Out := whenWf s (decide (ring < 16)) (tellerCommand 0x0B08 ring s)

/-- Meaning of WEAR_READ. -/
def execWearRead (ring : Nat) (s : State) : Out := whenWf s (decide (ring < 16)) (tellerCommand 0x0C01 ring s)

/-- Meaning of WEAR_SUMMARY. -/
def execWearSummary (ring : Nat) (s : State) : Out := whenWf s (decide (ring < 16)) (tellerCommand 0x0C02 ring s)

/-- Meaning of LEDGER_READ. -/
def execLedgerRead (ring : Nat) (s : State) : Out := whenWf s (decide (ring < 16)) (tellerCommand 0x0C03 ring s)

/-- Meaning of LEDGER_STATUS. -/
def execLedgerStatus (ring : Nat) (s : State) : Out := whenWf s (decide (ring < 16)) (tellerCommand 0x0C04 ring s)

/-- Meaning of HEALTH_BIST. -/
def execHealthBist (ring : Nat) (s : State) : Out := whenWf s (decide (ring < 16)) (tellerCommand 0x0C05 ring s)

/-- Meaning of HEALTH_VMIN. -/
def execHealthVmin (ring : Nat) (s : State) : Out := whenWf s (decide (ring < 16)) (tellerCommand 0x0C06 ring s)

/-- Meaning of COUNTERSIGN. -/
def execCountersign (ring : Nat) (s : State) : Out := whenWf s (decide (ring < 16)) (tellerCommand 0x0D01 ring s)

/-- Meaning of CS_WITHDRAW. -/
def execCsWithdraw (ring : Nat) (s : State) : Out := whenWf s (decide (ring < 16)) (tellerCommand 0x0D02 ring s)

/-- Meaning of CS_LIST. -/
def execCsList (ring : Nat) (s : State) : Out := whenWf s (decide (ring < 16)) (tellerCommand 0x0D03 ring s)

/-- Meaning of CS_SET_WINDOW. -/
def execCsSetWindow (ring : Nat) (s : State) : Out := whenWf s (decide (ring < 16)) (tellerCommand 0x0D04 ring s)

/-- Meaning of CS_SET_AUTHORITY. -/
def execCsSetAuthority (ring : Nat) (s : State) : Out := whenWf s (decide (ring < 16)) (tellerCommand 0x0D05 ring s)

/-- Meaning of TIME_SET_EPOCH. -/
def execTimeSetEpoch (ring : Nat) (s : State) : Out := whenWf s (decide (ring < 16)) (tellerCommand 0x0E01 ring s)

/-- Meaning of TIME_SET_SEASON. -/
def execTimeSetSeason (ring : Nat) (s : State) : Out := whenWf s (decide (ring < 16)) (tellerCommand 0x0E02 ring s)

/-- Meaning of TIME_SET_ROOT. -/
def execTimeSetRoot (ring : Nat) (s : State) : Out := whenWf s (decide (ring < 16)) (tellerCommand 0x0E03 ring s)

/-- Meaning of TIME_READ. -/
def execTimeRead (ring : Nat) (s : State) : Out := whenWf s (decide (ring < 16)) (tellerCommand 0x0E04 ring s)

/-- Meaning of TRACE_SET_FILTER. -/
def execTraceSetFilter (ring : Nat) (s : State) : Out := whenWf s (decide (ring < 16)) (tellerCommand 0x0E05 ring s)

/-- Meaning of TRACE_START. -/
def execTraceStart (ring : Nat) (s : State) : Out := whenWf s (decide (ring < 16)) (tellerCommand 0x0E06 ring s)

/-- Meaning of TRACE_STOP. -/
def execTraceStop (ring : Nat) (s : State) : Out := whenWf s (decide (ring < 16)) (tellerCommand 0x0E07 ring s)

/-- Meaning of TRACE_READ. -/
def execTraceRead (ring : Nat) (s : State) : Out := whenWf s (decide (ring < 16)) (tellerCommand 0x0E08 ring s)

/-- Meaning of COMMAND_FORWARD. -/
def execCommandForward (ring : Nat) (s : State) : Out := whenWf s (decide (ring < 16)) (tellerForward ring s)

end Sys2Proof.Machine
end

