-- ==== Sys2Proof/Machine/Registers.lean ====
section
/-! DEFINITION. Writes of registers (R9 to R15, R24, R321, R337, R352, R424, R434 to R436, R445 to R448, R454, R455, R473), accesses to ring
memory over the die link (R350, R351, R429), and a host's CXL Reset (R68). -/

namespace Sys2Proof.Machine

/-- A write of 4 or 8 bytes to registers of 32 bits: each takes its word (R9). -/
def eachWord (f : Nat → BitVec 32 → State → State) (offset size : Nat) (v : BitVec 64) (s : State) : State :=
  let s1 := f offset (v.setWidth 32) s
  if size = 8 then f (offset + 4) ((v >>> 32).setWidth 32) s1 else s1

/-- A store of a hart to the EVC (R454, R455, R473). -/
def evcStore (hart offset size : Nat) (v : BitVec 64) (s : State) : State :=
  let w := bitsOf v 31 0
  if offset < 0x2000 then eachWord (fun o x t => setSourceConfig (o / 4) x t) offset size v s
  else if offset < 0x6000 then
    let i := (offset - 0x2000) / 8
    setSourceVector i (mergeHalf (s.source i).vec offset size v) s
  else if 0xA000 ≤ offset ∧ offset < 0xA100 then pendClear ((offset - 0xA000) / 8) (mergeHalf 0 offset size v) s
  else if 0xA200 ≤ offset ∧ offset < 0xA300 then lateClear ((offset - 0xA200) / 8) (mergeHalf 0 offset size v) s
  else if offset = 0xF000 then evcDoneOp hart (w % 2048) s
  else if offset / 8 = 0xF008 / 8 then
    s.modEvc (fun e => { e with faultVec := mergeHalf e.faultVec offset size v &&& 0xFFFFFFFFFFFFFFFC#64 })
  else if offset = 0xF010 then forEach (bitsSet (v.setWidth 32) 4) targetReset s
  else if offset = 0xF018 then softwareTrigger (w % 512) s
  else s

/-- A write of BRG_CONTROL (R435): discard is stored within its limits; cpl_timeout keeps its value on a write of 0. -/
def brgControl (v : BitVec 64) (b : Bridge) : Bridge :=
  { b with
    cplTimeout := if bitsOf v 41 32 = 0 then b.cplTimeout else BitVec.ofNat 10 (bitsOf v 41 32),
    discard := BitVec.ofNat 11 (min 1953 (max 8 (bitsOf v 10 0))) }

/-- A write of half an aperture descriptor (R436); a reserved kind is ignored (R15). -/
def apertureWrite (high : Bool) (v : BitVec 64) (a : Aperture) : Aperture :=
  if high then { a with base := v.extractLsb' 28 36 }
  else { a with valid := v.getLsbD 63, kind := if bitsOf v 62 61 < 2 then v.extractLsb' 61 2 else a.kind,
                port := v.extractLsb' 54 7, bdf := v.extractLsb' 0 16 }

/-- The half of an aperture descriptor as it reads (R436). -/
def Aperture.half (a : Aperture) (high : Bool) : BitVec 64 :=
  BitVec.ofNat 64 (if high then fieldAt a.base.toNat 28
    else fieldAt (bit a.valid) 63 + fieldAt a.kind.toNat 61 + fieldAt a.port.toNat 54 + a.bdf.toNat)

/-- A word of a mailbox queue's registers (R446): MBX_TAIL is RO. -/
def mailboxWrite (offset : Nat) (v : BitVec 32) (m : Mailbox) : Mailbox :=
  if offset % 16 = 0 then
    { m with base := v.extractLsb' 7 25, eventEn := v.getLsbD 4, n := if bitsOf v 3 0 ≤ 8 then v.extractLsb' 0 4 else m.n }
  else if offset % 16 = 12 then { m with head := v.setWidth 16 }
  else m

/-- A store of a hart to the bridge registers (R435, R436, R445 to R448). -/
def bridgeStore (offset size : Nat) (v : BitVec 64) (s : State) : State :=
  if offset < 8 then
    s.modBridge (fun b => brgControl (mergeHalf (BitVec.ofNat 64 (fieldAt b.cplTimeout.toNat 32 + b.discard.toNat)) offset size v) b)
  else if offset = 0x10 then s.modBridge (fun b => { b with inBase := v.extractLsb' 12 20 })
  else if offset = 0x18 then s.modBridge (fun b => { b with inLimit := v.extractLsb' 12 20 })
  else if 0x400 ≤ offset ∧ offset < 0x800 then
    let high := decide (offset % 16 / 8 = 1)
    s.modBridge (fun b => { b with apertures := Tab.upd b.apertures {} ((offset - 0x400) / 16) (fun a =>
      apertureWrite high (mergeHalf (a.half high) offset size v) a) })
  else if 0x800 ≤ offset ∧ offset < 0x1000 then
    s.modBridge (fun b => { b with routes := Tab.upd b.routes 0 ((offset - 0x800) / 8) (fun r =>
      mergeHalf r offset size v &&& 0xFFFCFFFFFF000000#64) })
  else if 0x1000 ≤ offset ∧ offset < 0x1200 then
    if offset % 32 = 0 && v.getLsbD 0 then
      s.modBridge (fun b => { b with errors := Tab.upd b.errors {} ((offset - 0x1000) / 32) (fun e =>
        { e with valid := e.valid && !s.clears e.setBeat }) })
    else s
  else if 0x1400 ≤ offset ∧ offset < 0x1600 then
    eachWord (fun o x t => t.modBridge (fun b => { b with mailboxes := Tab.upd b.mailboxes {} ((o - 0x1400) / 16) (mailboxWrite o x) })) offset size v s
  else if 0x2000 ≤ offset ∧ offset < 0x3000 then s.modBridge (fun b => { b with txBuf := memWrite 0 b.txBuf (offset - 0x2000) (bytesOf size 64 v) })
  else if offset = 0x3000 then sendMessage v s
  else s

/-- The boot registers can be written (R434): until stage is 0x3, 0xE or 0xF. -/
def Steward.bootOpen (x : Steward) : Bool := decide (x.stage ≠ 3 ∧ x.stage ≠ 0xE ∧ x.stage ≠ 0xF)

/-- A write of STW_BOOT (R15, R422, R434): a reserved value of slot or stage is ignored, and raise_floor raises the boot floor. -/
def stwBoot (v : BitVec 32) (s : State) : State :=
  if !s.steward.bootOpen then s
  else
    let svn := v.extractLsb' 16 16
    let raises := v.getLsbD 8 && decide (s.steward.bootFloor.toNat < svn.toNat)
    let s1 := s.modSteward (fun x => { x with
      svn := svn, raiseFloor := v.getLsbD 8, slot := if bitsOf v 7 6 < 3 then v.extractLsb' 6 2 else x.slot,
      stage := if bitsOf v 3 0 ∈ [0, 1, 2, 3, 0xE, 0xF] then v.extractLsb' 0 4 else x.stage,
      bootFloor := if raises then svn else x.bootFloor })
    if raises then s1.modRecords (fun r => { r with bootFloor := svn }) else s1

/-- A write of QSPI_CFG (R424, R15): a width of 0b11, or a div above 0x1E, leaves its field as it was. -/
def qspiConfig (v old : BitVec 32) : BitVec 32 :=
  (v &&& 0x3F) ||| ((if bitsOf v 7 6 = 3 then old else v) &&& 0xC0) ||| ((if 0x1E < bitsOf v 15 8 then old else v) &&& 0xFF00)

/-- A word of the QSPI controller (R424). -/
def qspiWord (offset : Nat) (v : BitVec 32) (s : State) : State :=
  match offset with
  | 0x00 => s.modSteward (fun x => { x with qspiCfg := qspiConfig v x.qspiCfg })
  | 0x04 => qspiWrite v s
  | 0x08 => s.modSteward (fun x => { x with qspiAddr := v })
  | o => if 0x40 ≤ o ∧ o < 0x80 then s.modSteward (fun x => { x with qspiData := memWrite 0 x.qspiData (o - 0x40) (bytesOf 4 32 v) }) else s

/-- A write of WDT_CTRL (R425): timeout is stored, kick and enable are W1S. -/
def wdtWrite (v : BitVec 32) (s : State) : State :=
  let s1 := s.modSteward (fun x => { x with wdtTimeout := v.extractLsb' 4 12 })
  let s2 := if v.getLsbD 1 then wdtKick s1 else s1
  if v.getLsbD 0 then wdtEnable s2 else s2

/-- A word of the steward's peripherals (R414, R424, R425), by offset from 0x1000_0000; the ACLINT's places are those of log 9. -/
def peripheralWord (offset : Nat) (v : BitVec 32) (s : State) : State :=
  if offset < 0x10 then s.modSteward (fun x => { x with msip := Tab.set x.msip false (offset / 4) (v.getLsbD 0) })
  else if 0x400 ≤ offset ∧ offset < 0x420 then
    s.modSteward (fun x => { x with mtimecmp := Tab.upd x.mtimecmp 0 ((offset - 0x400) / 8) (fun c => mergeHalf c offset 4 (v.setWidth 64)) })
  else if 0x1000 ≤ offset ∧ offset < 0x2000 then qspiWord (offset - 0x1000) v s
  else if 0x2000 ≤ offset ∧ offset < 0x4000 then s.modSteward (fun x => { x with i3c := Tab.set x.i3c 0 (offset - 0x2000) v })
  else if 0x4000 ≤ offset ∧ offset < 0x5000 then
    s.modSteward (fun x => { x with uart := Tab.set x.uart 0 ((offset - 0x4000) / 4) (v.setWidth 8) })
  else if offset = 0x5004 then s.modSteward (fun x => { x with gpioOut := v.setWidth 16 })
  else if offset = 0x5008 then s.modSteward (fun x => { x with gpioOe := v.setWidth 16 })
  else if offset = 0x6000 then wdtWrite v s
  else s

/-- A hart's own control and status registers are named by this address and their number (log 48). -/
def csrBase : Nat := 0xFFFFFFFFFFFF0000

/-- A mode may use a control register (R412): its number's bits [9:8] name the lowest one, and numbers from 0xC00 on take no write. -/
def Hart.csrAllowed (h : Hart) (csr : Nat) (write : Bool) : Bool := decide (csr / 256 % 4 ≤ h.priv.toNat) && !(write && decide (0xC00 ≤ csr))

/-- A write of four PMP configurations and four more (R412): a locked entry keeps its value, and so does one whose W is set without R. -/
def pmpWrite (first : Nat) (v : BitVec 64) (t : Tab (BitVec 8)) : Tab (BitVec 8) :=
  (List.range 8).foldl (fun u i =>
    let b := v.extractLsb' (8 * i) 8
    if (Tab.get u 0 (first + i)).getLsbD 7 || (b.getLsbD 1 && !b.getLsbD 0) then u else Tab.set u 0 (first + i) (b &&& 0x9F)) t

/-- A PMP address takes a write (R412): its entry is not locked, nor the next one as a range that begins at it. -/
def Hart.pmpOpen (h : Hart) (i : Nat) : Bool :=
  let next := Tab.get h.pmpcfg 0 (i + 1)
  !(Tab.get h.pmpcfg 0 i).getLsbD 7 && !(next.getLsbD 7 && decide (next.extractLsb' 3 2 = 1))

/-- A write of a hart's own register (R412, R414 to R416; log 9). A hart leaves WFI where its offer becomes takeable (R417). -/
def csrWrite (csr : Nat) (v : BitVec 64) (h : Hart) : Hart :=
  let sstatus (y : Hart) : Hart :=
    { y with sie := v.getLsbD 1, spie := v.getLsbD 5, spp := v.getLsbD 8, status := (y.status &&& 0x39C) ||| (v.extractLsb' 13 10 &&& 0x063) }
  let x := match csr with
    | 0x001 => { h with fcsr := (h.fcsr &&& 0xE0) ||| (v.setWidth 8 &&& 0x1F) }
    | 0x002 => { h with fcsr := (h.fcsr &&& 0x1F) ||| (v.extractLsb' 0 3 ++ 0#5) }
    | 0x003 => { h with fcsr := v.setWidth 8 }
    | 0x100 => sstatus h
    | 0x104 => { h with enables := (h.enables &&& ~~~h.mideleg) ||| (v.setWidth 16 &&& h.mideleg) }
    | 0x105 => { h with stvec := v &&& 0xFFFFFFFFFFFFFFFD#64 }
    | 0x140 => { h with sscratch := v }
    | 0x141 => { h with sepc := v &&& 0xFFFFFFFFFFFFFFFE#64 }
    | 0x142 => { h with scause := v }
    | 0x143 => { h with stval := v }
    | 0x144 => { h with softPending := (h.softPending &&& ~~~(h.mideleg &&& 2)) ||| (v.setWidth 16 &&& h.mideleg &&& 2) }
    | 0x180 => if bitsOf v 63 60 ∈ [0, 8, 9] then { h with satp := v } else h
    | 0x300 => { sstatus h with mie := v.getLsbD 3, mpie := v.getLsbD 7, mpp := if bitsOf v 12 11 = 2 then h.mpp else v.extractLsb' 11 2,
                                status := v.extractLsb' 13 10 &&& 0x3F3 }
    | 0x302 => { h with medeleg := v.setWidth 16 &&& 0xB3FF }
    | 0x303 => { h with mideleg := v.setWidth 16 &&& 0x222 }
    | 0x304 => { h with enables := v.setWidth 16 &&& 0xAAA }
    | 0x305 => { h with mtvec := v &&& 0xFFFFFFFFFFFFFFFD#64 }
    | 0x340 => { h with mscratch := v }
    | 0x341 => { h with mepc := v &&& 0xFFFFFFFFFFFFFFFE#64 }
    | 0x342 => { h with mcause := v }
    | 0x343 => { h with mtval := v }
    | 0x344 => { h with softPending := v.setWidth 16 &&& 0x222 }
    | 0x3A0 => { h with pmpcfg := pmpWrite 0 v h.pmpcfg }
    | 0x3A2 => { h with pmpcfg := pmpWrite 8 v h.pmpcfg }
    | 0x7C0 => { h with mevthr := v.extractLsb' 0 4 }
    | k => if 0x3B0 ≤ k ∧ k < 0x3C0 ∧ h.pmpOpen (k - 0x3B0) then { h with pmpaddr := Tab.set h.pmpaddr 0 (k - 0x3B0) (v.setWidth 54) } else h
  { x with wfi := x.wfi && !x.canTake }

/-- A size and alignment that ring memory takes (R418): 1 to 8 bytes, registers 4. -/
def ringAligned (address : BitVec 64) (size : Nat) : Bool :=
  decide (size ∈ [1, 2, 4, 8]) && address.toNat % size == 0 &&
  (decide (address.toNat % 0x8000 < 0x6000 ∨ 0x6020 ≤ address.toNat % 0x8000) || size == 4)

/-- A steward store to ring memory (R350, R351): it reaches the command slots and the registers of rings 0 to 12 (log 49). -/
def ringStore (address size : Nat) (v : BitVec 64) (s : State) : State :=
  let n := (address - 0x20000000) / 0x8000
  let o := address % 0x8000
  if 13 ≤ n then s
  else if o < 0x4000 then s.modTeller (fun t => { t with mem := memWrite 0 t.mem (0x8000 * n + o) (bytesOf size 64 v) })
  else if 0x6000 ≤ o ∧ o < 0x6020 then writeRingRegister n (o - 0x6000) (v.setWidth 32) s
  else s

/-- A steward load from ring memory (R350, R351): ring 13's command slots and the reserved part read 0. -/
def ringLoad (address size : Nat) (s : State) : BitVec 64 :=
  let n := (address - 0x20000000) / 0x8000
  let o := address % 0x8000
  if o < 0x6000 then
    if n = 13 ∧ o < 0x4000 then 0 else BitVec.ofNat 64 (natOfBytes (memRead 0 s.teller.mem (0x8000 * n + o) size))
  else if o < 0x6020 then BitVec.ofNat 64 (ringRegister s n (o - 0x6000))
  else 0

/-- The ring memory's addresses (R350, R418). -/
def inRings (address : BitVec 64) : Bool := decide (0x20000000 ≤ address.toNat ∧ address.toNat < 0x20080000)

/-- A steward access to ring memory crosses on the TELLER channel, and is answered on COMPLETION (R427, R429). -/
def tellerAccessAs (named : BitVec 64) (hart : Nat) (store : Bool) (address : BitVec 64) (size : Nat) (v : BitVec 64) (s : State) : State :=
  hartAccessAs named chTeller hart store address size v
    (fun t => if store then completeToHart hart cplDone 0 (ringStore address.toNat size v t)
      else completeToHart hart cplData (ringLoad address.toNat size t) t) s

/-- A steward access to ring memory at an address that needs no translation (R427, R429). -/
def tellerAccess (hart : Nat) (store : Bool) (address : BitVec 64) (size : Nat) (v : BitVec 64) (s : State) : State :=
  tellerAccessAs address hart store address size v s

/-- An access of `size` bytes lies in steward SRAM (R418). -/
def inSram (a size : Nat) : Bool := decide (0x08000000 ≤ a ∧ a + size ≤ 0x0A000000)

/-- An address of the bridge window (R418, R436). -/
def inWindow (a : Nat) : Bool := decide (0x400000000 ≤ a ∧ a < 0x800000000)

/-- A hart's store at a physical address (R24, R418, R438): to its own die, or over the die link. One to an address that takes no store,
misaligned, or of another size, raises an access fault in the hart and writes nothing. -/
def storeAt (named : BitVec 64) (hart : Nat) (address : BitVec 64) (size : Nat) (v : BitVec 64) (s : State) : State :=
  let a := address.toNat
  let out (f : State → State) : State := hartAccessAs named chRequest hart true address size v (fun t => completeToHart hart cplDone 0 (f t)) s
  if inSram a size then sramWrite a (bytesOf size 64 v) s
  else if inWindow a then hartAccessAs named chRequest hart true address size v (windowStore hart address size v) s
  else if inRings address && ringAligned address size then tellerAccessAs named hart true address size v s
  else if inRings address || !ioAligned address size || !regionTakes a size true false then hartFault hart (accessCause true) named s
  else if a < 0x10010000 then eachWord peripheralWord (a - 0x10000000) size v s
  else if a < 0x20090000 then out (evcStore hart (a - 0x20080000) size v)
  else if a < 0x200A0000 then out (bridgeStore (a - 0x20090000) size v)
  else out (if a = 0x200A0108 then stwBoot (v.setWidth 32) else fun t => t)

/-- A memory access of a hart out of reset (R412): at its physical address, or the exception that its translation or protection raises. -/
def hartMemory (hart : Nat) (address : BitVec 64) (size : Nat) (store : Bool) (f : BitVec 64 → State → State) (s : State) : State :=
  if s.steward.inReset then s
  else match s.physical hart address size store with
    | .inl a => f (BitVec.ofNat 64 a) s
    | .inr c => hartFault hart c address s

/-- A hart's store (R24, R412, R418): to one of its own registers, or to memory. A register that its mode may not write raises an illegal
instruction (cause 2). -/
def hartWrite (hart : Nat) (address : BitVec 64) (size : Nat) (v : BitVec 64) (s : State) : State :=
  let csr := address.toNat - csrBase
  if csrBase ≤ address.toNat then
    if s.steward.inReset then s
    else if (s.hart hart).csrAllowed csr true then s.modHart hart (csrWrite csr v)
    else hartFault hart 2 0 s
  else hartMemory hart address size true (fun a => storeAt address hart a size v) s

/-- A register of BRG_STATUS, as it reads (R435). -/
def Bridge.status (b : Bridge) : Nat :=
  fieldAt b.discarded.toNat 48 + fieldAt b.semReleases.toNat 32 + fieldAt b.msgDrops.toNat 16 + fieldAt b.logOverflow.toNat 8 +
    b.semaphores.length

/-- An error log entry as it reads (R448). -/
def BrgError.image (e : BrgError) : Nat :=
  fieldAt e.stamp.toNat 192 + fieldAt e.address.toNat 128 + fieldAt e.bdf.toNat 112 + fieldAt e.port.toNat 105 + fieldAt e.hart.toNat 96 +
    fieldAt e.kind.toNat 88 + fieldAt e.status.toNat 80 + bit e.valid

/-- A mailbox queue's registers as they read (R446). -/
def Mailbox.image (m : Mailbox) : Nat :=
  fieldAt m.base.toNat 7 + fieldAt (bit m.eventEn) 4 + m.n.toNat + fieldAt m.tail.toNat 64 + fieldAt m.head.toNat 96

/-- The doubleword of the bridge's registers at an offset that is a multiple of 8, as it reads (R9, R435, R436, R445 to R448):
BRG_TX_SEND is WO and reads 0, as other addresses do. -/
def bridgeRead (s : State) (o : Nat) : Nat :=
  let b := s.bridge
  if o = 0 then fieldAt b.cplTimeout.toNat 32 + b.discard.toNat
  else if o = 8 then b.status
  else if o = 0x10 then fieldAt b.inBase.toNat 12
  else if o = 0x18 then fieldAt b.inLimit.toNat 12
  else if 0x400 ≤ o ∧ o < 0x800 then ((Tab.get b.apertures {} ((o - 0x400) / 16)).half (decide (o % 16 = 8))).toNat
  else if 0x800 ≤ o ∧ o < 0x1000 then (Tab.get b.routes 0 ((o - 0x800) / 8)).toNat
  else if 0x1000 ≤ o ∧ o < 0x1200 then (Tab.get b.errors {} ((o - 0x1000) / 32)).image / 2 ^ (8 * (o % 32))
  else if 0x1400 ≤ o ∧ o < 0x1600 then (Tab.get b.mailboxes {} ((o - 0x1400) / 16)).image / 2 ^ (8 * (o % 16))
  else if 0x2000 ≤ o ∧ o < 0x3000 then natOfBytes (memRead 0 b.txBuf (o - 0x2000) 8)
  else 0

/-- STW_BOOT as it reads (R434). -/
def Steward.bootWord (x : Steward) : Nat :=
  fieldAt x.svn.toNat 16 + fieldAt (bit x.raiseFloor) 8 + fieldAt x.slot.toNat 6 + x.stage.toNat

/-- The doubleword of the almanac's, the die link's and the boot registers at an offset that is a multiple of 8, as it reads (R60,
R434, R480). -/
def almanacRead (s : State) (o : Nat) : Nat :=
  let t := s.time
  let l := s.dieLink
  match o with
  | 0x00 => t.now.toNat
  | 0x08 => t.nowHi.toNat
  | 0x10 => t.status
  | 0x18 => t.seasonStart.toNat
  | 0x20 => t.seasonNum.toNat
  | 0x28 => t.offsetRead.toNat
  | 0x30 => t.overrun.toNat
  | 0x100 => fieldAt l.errors.toNat 32 + fieldAt l.replays.toNat 16 + fieldAt l.retrains.toNat 8 + l.state.toNat
  | 0x108 => s.steward.bootWord
  | 0x110 => s.steward.bootFloor.toNat
  | 0x200 => s.devStart
  | k =>
    if 0x140 ≤ k ∧ k < 0x1E0 then (Tab.get s.steward.keys {} ((k - 0x140) / 0x28)).image / 2 ^ (8 * ((k - 0x140) % 0x28)) else 0

/-- A load of 4 or 8 bytes from registers that read by doublewords. -/
def partOf (read : Nat → Nat) (offset size : Nat) : BitVec 64 :=
  BitVec.ofNat 64 (read (offset - offset % 8) / 2 ^ (8 * (offset % 8)) % 2 ^ (8 * size))

/-- A word of the steward's peripherals as it reads (R9, R414, R424, R425), by offset from 0x1000_0000: MTIME is the steward's copy of the
almanac; the places of the ACLINT's registers are those of log 9. -/
def peripheralRead (s : State) (o : Nat) : Nat :=
  let x := s.steward
  if o < 0x10 then bit (Tab.get x.msip false (o / 4))
  else if 0x400 ≤ o ∧ o < 0x420 then (Tab.get x.mtimecmp 0 ((o - 0x400) / 8)).toNat / 2 ^ (8 * (o % 8)) % 2 ^ 32
  else if 0xBF8 ≤ o ∧ o < 0xC00 then (stewardTime s).toNat / 2 ^ (8 * (o % 8)) % 2 ^ 32
  else if o = 0x1000 then x.qspiCfg.toNat
  else if o = 0x1004 then x.qspiCmd.toNat
  else if o = 0x1008 then x.qspiAddr.toNat
  else if 0x1040 ≤ o ∧ o < 0x1080 then natOfBytes (memRead 0 x.qspiData (o - 0x1040) 4)
  else if 0x2000 ≤ o ∧ o < 0x4000 then (Tab.get x.i3c 0 (o - 0x2000)).toNat
  else if 0x4000 ≤ o ∧ o < 0x5000 then (Tab.get x.uart 0 ((o - 0x4000) / 4)).toNat
  else if o = 0x5000 then x.gpioIn.toNat
  else if o = 0x5004 then x.gpioOut.toNat
  else if o = 0x5008 then x.gpioOe.toNat
  else if o = 0x6000 then fieldAt x.wdtTimeout.toNat 4 + bit x.wdtEnable
  else 0

/-- sstatus and mstatus share these fields (R412). -/
def Hart.sharedStatus (h : Hart) : Nat :=
  fieldAt h.status.toNat 13 + fieldAt (bit h.spp) 8 + fieldAt (bit h.spie) 5 + fieldAt (bit h.sie) 1

/-- A hart's own control and status registers as they read (R46, R412, R414 to R416; log 9): time is the steward's copy of the almanac. -/
def csrRead (s : State) (hart csr : Nat) : BitVec 64 :=
  let h := s.hart hart
  let pending := s.hartPending hart (stewardTime s)
  match csr with
  | 0x001 => (h.fcsr &&& 0x1F).setWidth 64
  | 0x002 => (h.fcsr >>> 5).setWidth 64
  | 0x003 => h.fcsr.setWidth 64
  | 0x100 => BitVec.ofNat 64 h.sharedStatus &&& 0xC6122
  | 0x104 => (h.enables &&& h.mideleg).setWidth 64
  | 0x105 => h.stvec
  | 0x140 => h.sscratch
  | 0x141 => h.sepc
  | 0x142 => h.scause
  | 0x143 => h.stval
  | 0x144 => (pending &&& h.mideleg).setWidth 64
  | 0x180 => h.satp
  | 0x300 => BitVec.ofNat 64 (fieldAt h.mpp.toNat 11 + fieldAt (bit h.mpie) 7 + fieldAt (bit h.mie) 3 + h.sharedStatus)
  | 0x301 => 0x800000000014112D
  | 0x302 => h.medeleg.setWidth 64
  | 0x303 => h.mideleg.setWidth 64
  | 0x304 => h.enables.setWidth 64
  | 0x305 => h.mtvec
  | 0x340 => h.mscratch
  | 0x341 => h.mepc
  | 0x342 => h.mcause
  | 0x343 => h.mtval
  | 0x344 => pending.setWidth 64
  | 0x3A0 => BitVec.ofNat 64 (natOfBytes ((List.range 8).map (fun i => Tab.get h.pmpcfg 0 i)))
  | 0x3A2 => BitVec.ofNat 64 (natOfBytes ((List.range 8).map (fun i => Tab.get h.pmpcfg 0 (8 + i))))
  | 0x7C0 => h.mevthr.setWidth 64
  | 0xC01 => stewardTime s
  | 0xF14 => BitVec.ofNat 64 hart
  | 0xFC0 => h.mevsrc.setWidth 64
  | k => if 0x3B0 ≤ k ∧ k < 0x3C0 then (Tab.get h.pmpaddr 0 (k - 0x3B0)).setWidth 64 else 0

/-- A load by a hart from the registers of the fabric die that an I/O access of 4 or 8 bytes reaches (R418, R60): a 4-byte load of the low
word of ALM_NOW latches the high one in the same beat. -/
def registerLoad (named : BitVec 64) (hart : Nat) (address : BitVec 64) (size : Nat) (s : State) : State :=
  let a := address.toNat
  let answer (read : Nat → Nat) (o : Nat) (t : State) : State := completeToHart hart cplData (partOf read o size) t
  hartAccessAs named chRequest hart false address size 0 (fun t =>
    if a < 0x20090000 then answer (evcRead t) (a - 0x20080000) t
    else if a < 0x200A0000 then answer (bridgeRead t) (a - 0x20090000) t
    else answer (almanacRead t) (a - 0x200A0000) (if a = 0x200A0000 ∧ size = 4 then latchNow t else t)) s

/-- The bytes of steward SRAM at a physical address. -/
def State.sramBytes (s : State) (a size : Nat) : BitVec 64 := BitVec.ofNat 64 (natOfBytes (memRead 0 s.steward.sram (a - 0x08000000) size))

/-- A load by a hart at a physical address (R24, R413, R414, R418, R424): from its own die, ring memory, the registers of the fabric die, or
the bridge window; from any other address, misaligned, or of another size, it raises an access fault. -/
def loadAt (named : BitVec 64) (hart : Nat) (address : BitVec 64) (size : Nat) (s : State) : State :=
  let a := address.toNat
  let data (v : BitVec 64) : State := localAnswer hart cplData v s
  if inWindow a then hartAccessAs named chRequest hart false address size 0 (windowLoad hart address size) s
  else if inRings address && ringAligned address size then tellerAccessAs named hart false address size 0 s
  else if a + size ≤ 0x10000 then data (BitVec.ofNat 64 (natOfBytes ((List.range size).map (fun i => Config.bootRom (a + i)))))
  else if inSram a size then data (s.sramBytes a size)
  else if 0x30000000 ≤ a ∧ a + size ≤ 0x40000000 then xipLoad hart named size s
  else if inRings address || !ioAligned address size || !regionTakes a size false false then hartFault hart (accessCause false) named s
  else if a < 0x10010000 then
    let o := a - 0x10000000
    data (BitVec.ofNat 64 (peripheralRead s o + (if size = 8 then fieldAt (peripheralRead s (o + 4)) 32 else 0)))
  else registerLoad named hart address size s

/-- A load by a hart (R412, R418): from one of its own registers, or from memory. -/
def hartLoad (hart : Nat) (address : BitVec 64) (size : Nat) (s : State) : State :=
  let csr := address.toNat - csrBase
  if csrBase ≤ address.toNat then
    if s.steward.inReset then s
    else if (s.hart hart).csrAllowed csr false then localAnswer hart cplData (csrRead s hart csr) s
    else hartFault hart 2 0 s
  else hartMemory hart address size false (fun a => loadAt address hart a size) s

/-- A physical address takes an LR, SC or AMO (R413): 4 or 8 bytes, aligned, in steward SRAM or the bridge window. -/
def takesAtomic (a size : Nat) : Bool := (size == 4 || size == 8) && regionTakes a size true true

/-- An LR at a physical address (R413, R442): in steward SRAM it reads and notes the reservation. Elsewhere than there and in the window it
raises a store/AMO access fault. -/
def lrAt (named : BitVec 64) (hart : Nat) (address : BitVec 64) (size : Nat) (s : State) : State :=
  let a := address.toNat
  if inWindow a then hartAccessAs named chRequest hart false address size 0 (windowLr hart address size) s
  else if takesAtomic a size then
    localAnswer hart cplData (s.sramBytes a size) (s.modHart hart (fun h => { h with reservation := some (address, size) }))
  else hartFault hart (accessCause true) named s

/-- An SC at a physical address (R413, R442): in steward SRAM it writes under the hart's reservation alone, and answers 0 where it does. -/
def scAt (named : BitVec 64) (hart : Nat) (address : BitVec 64) (size : Nat) (data : BitVec 64) (s : State) : State :=
  let a := address.toNat
  if inWindow a then hartAccessAs named chRequest hart true address size data (windowSc hart address size data) s
  else if takesAtomic a size then
    if (s.hart hart).reservation = some (address, size) then localAnswer hart cplDone 0 (sramWrite a (bytesOf size 64 data) s)
    else localAnswer hart cplDone 1 (s.modHart hart (fun h => { h with reservation := none }))
  else hartFault hart (accessCause true) named s

/-- An AMO at a physical address (R413, R442): in steward SRAM it answers the old value and writes the new one; one of no function of the A
extension is an illegal instruction. -/
def amoAt (named : BitVec 64) (hart : Nat) (address : BitVec 64) (size : Nat) (func : BitVec 5) (data : BitVec 64) (s : State) : State :=
  let a := address.toNat
  let w := 8 * size
  let old := (s.sramBytes a size).toNat
  if inWindow a then hartAccessAs named chRequest hart true address size data (windowAmo hart address size func data) s
  else if !takesAtomic a size then hartFault hart (accessCause true) named s
  else if !amoKnown func then hartFault hart 2 0 s
  else localAnswer hart cplData (BitVec.ofNat 64 old) (sramWrite a (bytesOf size 64 (BitVec.ofNat 64 (amoValue func w old (data.toNat % 2 ^ w)))) s)

/-- Meaning of BRIDGE_STORE. -/
def execBridgeStore (hart : Nat) (address : BitVec 64) (size : Nat) (data : BitVec 64) (s : State) : Out :=
  whenWf s (decide (hart < 4) && decide (size < 9)) (hartWrite hart address size data s)

/-- Meaning of BRIDGE_CONFIG_WRITE. -/
def execBridgeConfigWrite (hart : Nat) (address : BitVec 64) (size : Nat) (data : BitVec 64) (s : State) : Out :=
  whenWf s (decide (hart < 4) && decide (size < 9)) (hartMemory hart address size true (fun a => storeAt address hart a size data) s)

/-- Meaning of BRIDGE_LR. -/
def execBridgeLr (hart : Nat) (address : BitVec 64) (size : Nat) (s : State) : Out :=
  whenWf s (decide (hart < 4) && decide (size < 9)) (hartMemory hart address size false (fun a => lrAt address hart a size) s)

/-- Meaning of BRIDGE_SC. -/
def execBridgeSc (hart : Nat) (address : BitVec 64) (size : Nat) (data : BitVec 64) (s : State) : Out :=
  whenWf s (decide (hart < 4) && decide (size < 9)) (hartMemory hart address size true (fun a => scAt address hart a size data) s)

/-- Meaning of BRIDGE_AMO. -/
def execBridgeAmo (hart : Nat) (address : BitVec 64) (size : Nat) (funct : BitVec 5) (data : BitVec 64) (s : State) : Out :=
  whenWf s (decide (hart < 4) && decide (size < 9)) (hartMemory hart address size true (fun a => amoAt address hart a size funct data) s)

/-- Meaning of BRIDGE_LOAD. -/
def execBridgeLoad (hart : Nat) (address : BitVec 64) (size : Nat) (s : State) : Out :=
  whenWf s (decide (hart < 4) && decide (size < 9)) (hartLoad hart address size s)

/-- A register that an abstract command names (R426, log 60): the hart's control registers, its integer and its floating-point ones. -/
def Hart.debugRead (h : Hart) (csrs : Nat → BitVec 64) (r : Nat) : BitVec 64 :=
  if r < 0x1000 then csrs r else if r < 0x1020 then Tab.get h.x 0 (r - 0x1000) else if r < 0x1040 then Tab.get h.f 0 (r - 0x1020) else 0

/-- An abstract command writes a register (R426, log 60); x0 takes no value. -/
def Hart.debugStore (r : Nat) (v : BitVec 64) (h : Hart) : Hart :=
  if r < 0x1000 then csrWrite r v h
  else if 0x1000 < r ∧ r < 0x1020 then { h with x := Tab.set h.x 0 (r - 0x1000) v }
  else if 0x1020 ≤ r ∧ r < 0x1040 then { h with f := Tab.set h.f 0 (r - 0x1020) v }
  else h

/-- A write of data0, data1 or command of the debug module (R426, log 60): an access-register command moves 64 bits between data0 and data1
and a register of the selected hart, while that is halted. -/
def debugWrite (reg : Nat) (v : BitVec 32) (s : State) : State :=
  let x := s.steward
  let h := x.hartSel.toNat
  let r := bitsOf (v.setWidth 64) 15 0
  if !x.dmActive || x.inReset then s
  else if reg = 4 ∨ reg = 5 then s.modSteward (fun y => { y with dmData := mergeHalf y.dmData (4 * (reg - 4)) 4 (v.setWidth 64) })
  else if reg ≠ 0x17 ∨ bitsOf (v.setWidth 64) 31 24 ≠ 0 ∨ !v.getLsbD 17 ∨ !(s.hart h).debug then s
  else if v.getLsbD 16 then s.modHart h (Hart.debugStore r x.dmData)
  else s.modSteward (fun y => { y with dmData := (s.hart h).debugRead (csrRead s h) r })

/-- A write by the debug transport module (R426, log 60): bits [39:32] of the address name the DTM's own register (1, dtmcs) or, as 0, a
register of the debug module. An access outside PROBE is not performed and leaves dmistat busy, and so do accesses while it is
busy, until dmireset. dmcontrol selects a hart and halts or resumes it. -/
def jtagWrite (address : BitVec 64) (v : BitVec 64) (s : State) : State :=
  if bitsOf address 39 32 = 1 then s.modSteward (fun x => { x with dmistat := if v.getLsbD 16 then 0 else x.dmistat })
  else if s.dev.mode ≠ .probe then s.modSteward (fun x => { x with dmistat := 3 })
  else if s.steward.dmistat ≠ 0 then s
  else if bitsOf address 31 0 ≠ 0x10 then debugWrite (bitsOf address 31 0) (v.setWidth 32) s
  else
    let h := bitsOf v 25 16 % 4
    let s1 := s.modSteward (fun x => { x with dmActive := v.getLsbD 0, hartSel := BitVec.ofNat 2 h })
    if !v.getLsbD 0 || s.steward.inReset then s1
    else s1.modHart h (fun y => { y with debug := if v.getLsbD 31 then true else if v.getLsbD 30 then false else y.debug,
                                         wfi := y.wfi && !v.getLsbD 31 })

/-- A write of a register by one of those who can reach it (R24, R321, R367). -/
def registerWrite (w : RegWriter) (address : BitVec 64) (size : Nat) (v : BitVec 64) (s : State) : State :=
  match w with
  | .hart h => hartWrite h address size v s
  | .countersign => if s.portLive then portWrite address.toNat (bytesOf size 64 v) s else s
  | .host p => onlyIf (s.ioReaches p) (tlpInside p xbarBarrow (.bar address size v)) s
  | .jtag => jtagWrite address v s

/-- Meaning of REGISTER_WRITE. -/
def execRegisterWrite (writer : RegWriter) (address : BitVec 64) (size : Nat) (value : BitVec 64) (s : State) : Out :=
  whenWf s (decide (size < 9) &&
    (match writer with | .hart n => decide (n < 4) | .countersign | .jtag => true | .host port => decide (port < 128)))
    (registerWrite writer address size value s)

/-- Meaning of TELLER_ACCESS. -/
def execTellerAccess (hart : Nat) (store : Bool) (address : BitVec 64) (size : Nat) (data : BitVec 64) (s : State) : Out :=
  whenWf s (decide (hart < 4) && decide (size < 9))
    (onlyIf (!s.steward.inReset && inRings address && ringAligned address size) (tellerAccess hart store address size data) s)

/-- Meaning of HOST_CXL_RESET (R68): it enters ring 15 as PLOT_RESET, with clear from the request; CXL Reset Error clears as it starts
and is set where the command is refused. -/
def execHostCxlReset (port plot : Nat) (clear : Bool) (s : State) : Out :=
  whenWf s (decide (port < 128) && decide (plot < 512))
    (onlyIf (s.ioReaches port && decide ((s.plot plot).state ≠ .free ∧ (s.plot plot).port.toNat = port ∧ (s.ring 15).waiting < 256))
      (fun t => hwCommand opPlotReset plot (bit clear) (t.modPlot plot (fun p => { p with resetError := false }))) s)

end Sys2Proof.Machine
end

