-- ==== Sys2Proof/Machine/Dispatch.lean ====
section
/-! DEFINITION. The dispatcher: one arm per command. -/

namespace Sys2Proof.Machine

/-- The effect of a command on everything but the queue. -/
def exec (i : Instr) (s : State) : Host.Outcome State Fault Refusal :=
  match i with
  | .devIdentify ring => Sys2Proof.Machine.execDevIdentify ring s
  | .devStatus ring => Sys2Proof.Machine.execDevStatus ring s
  | .devSetMode ring => Sys2Proof.Machine.execDevSetMode ring s
  | .devReset ring => Sys2Proof.Machine.execDevReset ring s
  | .devSetNumber ring => Sys2Proof.Machine.execDevSetNumber ring s
  | .devSetKeySlot ring => Sys2Proof.Machine.execDevSetKeySlot ring s
  | .devRevokeKeySlot ring => Sys2Proof.Machine.execDevRevokeKeySlot ring s
  | .plotConfigure ring => Sys2Proof.Machine.execPlotConfigure ring s
  | .plotRelease ring => Sys2Proof.Machine.execPlotRelease ring s
  | .plotMapBed ring => Sys2Proof.Machine.execPlotMapBed ring s
  | .plotUnmapBed ring => Sys2Proof.Machine.execPlotUnmapBed ring s
  | .plotEnable ring => Sys2Proof.Machine.execPlotEnable ring s
  | .plotDisable ring => Sys2Proof.Machine.execPlotDisable ring s
  | .plotReset ring => Sys2Proof.Machine.execPlotReset ring s
  | .plotSetSanitize ring => Sys2Proof.Machine.execPlotSetSanitize ring s
  | .plotSetQos ring => Sys2Proof.Machine.execPlotSetQos ring s
  | .plotRead ring => Sys2Proof.Machine.execPlotRead ring s
  | .bedDefine ring => Sys2Proof.Machine.execBedDefine ring s
  | .bedUndefine ring => Sys2Proof.Machine.execBedUndefine ring s
  | .bedSetPolicy ring => Sys2Proof.Machine.execBedSetPolicy ring s
  | .bedGrow ring => Sys2Proof.Machine.execBedGrow ring s
  | .bedShrink ring => Sys2Proof.Machine.execBedShrink ring s
  | .bedExport ring => Sys2Proof.Machine.execBedExport ring s
  | .bedRead ring => Sys2Proof.Machine.execBedRead ring s
  | .extentDefine ring => Sys2Proof.Machine.execExtentDefine ring s
  | .extentUndefine ring => Sys2Proof.Machine.execExtentUndefine ring s
  | .extentClearFailed ring => Sys2Proof.Machine.execExtentClearFailed ring s
  | .extentRead ring => Sys2Proof.Machine.execExtentRead ring s
  | .portSetRole ring => Sys2Proof.Machine.execPortSetRole ring s
  | .portSetLink ring => Sys2Proof.Machine.execPortSetLink ring s
  | .portRetrain ring => Sys2Proof.Machine.execPortRetrain ring s
  | .portRead ring => Sys2Proof.Machine.execPortRead ring s
  | .portStatus ring => Sys2Proof.Machine.execPortStatus ring s
  | .portPrepareRemoval ring => Sys2Proof.Machine.execPortPrepareRemoval ring s
  | .portSetIdeKey ring => Sys2Proof.Machine.execPortSetIdeKey ring s
  | .portBindLd ring => Sys2Proof.Machine.execPortBindLd ring s
  | .portUnbindLd ring => Sys2Proof.Machine.execPortUnbindLd ring s
  | .portSetLoadThresholds ring => Sys2Proof.Machine.execPortSetLoadThresholds ring s
  | .laneSet ring => Sys2Proof.Machine.execLaneSet ring s
  | .laneRead ring => Sys2Proof.Machine.execLaneRead ring s
  | .laneStatus ring => Sys2Proof.Machine.execLaneStatus ring s
  | .laneSetLoop ring => Sys2Proof.Machine.execLaneSetLoop ring s
  | .lanePrbs ring => Sys2Proof.Machine.execLanePrbs ring s
  | .laneEyeScan ring => Sys2Proof.Machine.execLaneEyeScan ring s
  | .trunkSet ring => Sys2Proof.Machine.execTrunkSet ring s
  | .trunkRead ring => Sys2Proof.Machine.execTrunkRead ring s
  | .trunkStatus ring => Sys2Proof.Machine.execTrunkStatus ring s
  | .trunkSetLink ring => Sys2Proof.Machine.execTrunkSetLink ring s
  | .trunkRetrain ring => Sys2Proof.Machine.execTrunkRetrain ring s
  | .trunkRestart ring => Sys2Proof.Machine.execTrunkRestart ring s
  | .trunkSetBuffers ring => Sys2Proof.Machine.execTrunkSetBuffers ring s
  | .trunkSetRoute ring => Sys2Proof.Machine.execTrunkSetRoute ring s
  | .cohSetWeeder ring => Sys2Proof.Machine.execCohSetWeeder ring s
  | .cohSetSnoopTimeout ring => Sys2Proof.Machine.execCohSetSnoopTimeout ring s
  | .cohSetLoadThresholds ring => Sys2Proof.Machine.execCohSetLoadThresholds ring s
  | .cohReadEntry ring => Sys2Proof.Machine.execCohReadEntry ring s
  | .cohLookup ring => Sys2Proof.Machine.execCohLookup ring s
  | .cohStatus ring => Sys2Proof.Machine.execCohStatus ring s
  | .vaultFlush ring => Sys2Proof.Machine.execVaultFlush ring s
  | .vaultSetWriteTimeout ring => Sys2Proof.Machine.execVaultSetWriteTimeout ring s
  | .vaultSetPredictor ring => Sys2Proof.Machine.execVaultSetPredictor ring s
  | .vaultStatus ring => Sys2Proof.Machine.execVaultStatus ring s
  | .vaultReadTag ring => Sys2Proof.Machine.execVaultReadTag ring s
  | .vaultReadPredictor ring => Sys2Proof.Machine.execVaultReadPredictor ring s
  | .sliceBind ring => Sys2Proof.Machine.execSliceBind ring s
  | .sliceUnbind ring => Sys2Proof.Machine.execSliceUnbind ring s
  | .sliceMapPasid ring => Sys2Proof.Machine.execSliceMapPasid ring s
  | .sliceUnmapPasid ring => Sys2Proof.Machine.execSliceUnmapPasid ring s
  | .sliceFreeze ring => Sys2Proof.Machine.execSliceFreeze ring s
  | .sliceThaw ring => Sys2Proof.Machine.execSliceThaw ring s
  | .sliceReset ring => Sys2Proof.Machine.execSliceReset ring s
  | .sliceClearFault ring => Sys2Proof.Machine.execSliceClearFault ring s
  | .sliceSave ring => Sys2Proof.Machine.execSliceSave ring s
  | .sliceRestore ring => Sys2Proof.Machine.execSliceRestore ring s
  | .sliceStatus ring => Sys2Proof.Machine.execSliceStatus ring s
  | .extentMigrate ring => Sys2Proof.Machine.execExtentMigrate ring s
  | .extentMigrateCancel ring => Sys2Proof.Machine.execExtentMigrateCancel ring s
  | .pairForm ring => Sys2Proof.Machine.execPairForm ring s
  | .pairDissolve ring => Sys2Proof.Machine.execPairDissolve ring s
  | .pairSwitchover ring => Sys2Proof.Machine.execPairSwitchover ring s
  | .pairAssume ring => Sys2Proof.Machine.execPairAssume ring s
  | .pairPromote ring => Sys2Proof.Machine.execPairPromote ring s
  | .pairSetLag ring => Sys2Proof.Machine.execPairSetLag ring s
  | .pairClearRecovery ring => Sys2Proof.Machine.execPairClearRecovery ring s
  | .pairStatus ring => Sys2Proof.Machine.execPairStatus ring s
  | .evtSetSource ring => Sys2Proof.Machine.execEvtSetSource ring s
  | .evtReadSource ring => Sys2Proof.Machine.execEvtReadSource ring s
  | .evtTrigger ring => Sys2Proof.Machine.execEvtTrigger ring s
  | .ctrSetSelect ring => Sys2Proof.Machine.execCtrSetSelect ring s
  | .ctrSnapshot ring => Sys2Proof.Machine.execCtrSnapshot ring s
  | .ctrRead ring => Sys2Proof.Machine.execCtrRead ring s
  | .statRead ring => Sys2Proof.Machine.execStatRead ring s
  | .slotSet ring => Sys2Proof.Machine.execSlotSet ring s
  | .slotOn ring => Sys2Proof.Machine.execSlotOn ring s
  | .slotOff ring => Sys2Proof.Machine.execSlotOff ring s
  | .slotClearLatch ring => Sys2Proof.Machine.execSlotClearLatch ring s
  | .slotRead ring => Sys2Proof.Machine.execSlotRead ring s
  | .slotStatus ring => Sys2Proof.Machine.execSlotStatus ring s
  | .feedSet ring => Sys2Proof.Machine.execFeedSet ring s
  | .feedStatus ring => Sys2Proof.Machine.execFeedStatus ring s
  | .wearRead ring => Sys2Proof.Machine.execWearRead ring s
  | .wearSummary ring => Sys2Proof.Machine.execWearSummary ring s
  | .ledgerRead ring => Sys2Proof.Machine.execLedgerRead ring s
  | .ledgerStatus ring => Sys2Proof.Machine.execLedgerStatus ring s
  | .healthBist ring => Sys2Proof.Machine.execHealthBist ring s
  | .healthVmin ring => Sys2Proof.Machine.execHealthVmin ring s
  | .countersign ring => Sys2Proof.Machine.execCountersign ring s
  | .csWithdraw ring => Sys2Proof.Machine.execCsWithdraw ring s
  | .csList ring => Sys2Proof.Machine.execCsList ring s
  | .csSetWindow ring => Sys2Proof.Machine.execCsSetWindow ring s
  | .csSetAuthority ring => Sys2Proof.Machine.execCsSetAuthority ring s
  | .timeSetEpoch ring => Sys2Proof.Machine.execTimeSetEpoch ring s
  | .timeSetSeason ring => Sys2Proof.Machine.execTimeSetSeason ring s
  | .timeSetRoot ring => Sys2Proof.Machine.execTimeSetRoot ring s
  | .timeRead ring => Sys2Proof.Machine.execTimeRead ring s
  | .traceSetFilter ring => Sys2Proof.Machine.execTraceSetFilter ring s
  | .traceStart ring => Sys2Proof.Machine.execTraceStart ring s
  | .traceStop ring => Sys2Proof.Machine.execTraceStop ring s
  | .traceRead ring => Sys2Proof.Machine.execTraceRead ring s
  | .proposalCommit n => Sys2Proof.Machine.execProposalCommit n s
  | .proposalExpiry n => Sys2Proof.Machine.execProposalExpiry n s
  | .ringCmdTailWrite ring value => Sys2Proof.Machine.execRingCmdTailWrite ring value s
  | .ringRcptHeadWrite ring value => Sys2Proof.Machine.execRingRcptHeadWrite ring value s
  | .receiptWriteDeferred ring => Sys2Proof.Machine.execReceiptWriteDeferred ring s
  | .commandForward ring => Sys2Proof.Machine.execCommandForward ring s
  | .forwardTimeout ring tag => Sys2Proof.Machine.execForwardTimeout ring tag s
  | .mgmtRecord station rec => Sys2Proof.Machine.execMgmtRecord station rec s
  | .countersignPortWrite offset data => Sys2Proof.Machine.execCountersignPortWrite offset data s
  | .tickBoundary => Sys2Proof.Machine.execTickBoundary s
  | .seasonClose => Sys2Proof.Machine.execSeasonClose s
  | .qosReplenish plot => Sys2Proof.Machine.execQosReplenish plot s
  | .almanacCorrection => Sys2Proof.Machine.execAlmanacCorrection s
  | .syncHoldover => Sys2Proof.Machine.execSyncHoldover s
  | .syncFree => Sys2Proof.Machine.execSyncFree s
  | .memrd port hpa mf mv snpNoOp => Sys2Proof.Machine.execMemrd port hpa mf mv snpNoOp s
  | .memrddata port hpa snpNoOp => Sys2Proof.Machine.execMemrddata port hpa snpNoOp s
  | .meminv port hpa mf mv snpNoOp nt => Sys2Proof.Machine.execMeminv port hpa mf mv snpNoOp nt s
  | .memwr port hpa mf mv snpNoOp data poison => Sys2Proof.Machine.execMemwr port hpa mf mv snpNoOp data poison s
  | .memwrptl port hpa mf mv snpNoOp data mask poison => Sys2Proof.Machine.execMemwrptl port hpa mf mv snpNoOp data mask poison s
  | .memspecrd port hpa => Sys2Proof.Machine.execMemspecrd port hpa s
  | .biconflict port hpa => Sys2Proof.Machine.execBiconflict port hpa s
  | .birspi port hpa => Sys2Proof.Machine.execBirspi port hpa s
  | .birsps port hpa => Sys2Proof.Machine.execBirsps port hpa s
  | .birspe port hpa => Sys2Proof.Machine.execBirspe port hpa s
  | .deviceMemdata port head dpa data poison => Sys2Proof.Machine.execDeviceMemdata port head dpa data poison s
  | .deviceWriteCmp port head dpa => Sys2Proof.Machine.execDeviceWriteCmp port head dpa s
  | .atomicop port vppb offset op size a b => Sys2Proof.Machine.execAtomicop port vppb offset op size a b s
  | .apertureRead port vppb offset => Sys2Proof.Machine.execApertureRead port vppb offset s
  | .apertureWrite port vppb offset data mask => Sys2Proof.Machine.execApertureWrite port vppb offset data mask s
  | .tailStatus station flitTag good => Sys2Proof.Machine.execTailStatus station flitTag good s
  | .cellMatch => Sys2Proof.Machine.execCellMatch s
  | .overflowReadmit slice => Sys2Proof.Machine.execOverflowReadmit slice s
  | .snoopTimeout slice txn agent => Sys2Proof.Machine.execSnoopTimeout slice txn agent s
  | .upstreamLinkDown port => Sys2Proof.Machine.execUpstreamLinkDown port s
  | .lossScanStart agent => Sys2Proof.Machine.execLossScanStart agent s
  | .lossScanComplete slice agent => Sys2Proof.Machine.execLossScanComplete slice agent s
  | .upstreamLinkReturn port => Sys2Proof.Machine.execUpstreamLinkReturn port s
  | .retirementPassStart => Sys2Proof.Machine.execRetirementPassStart s
  | .retirementPassEnd => Sys2Proof.Machine.execRetirementPassEnd s
  | .writeTimeout slice pos => Sys2Proof.Machine.execWriteTimeout slice pos s
  | .writeRetry slice pos => Sys2Proof.Machine.execWriteRetry slice pos s
  | .poisonWrite slice pos => Sys2Proof.Machine.execPoisonWrite slice pos s
  | .lineRelease slice pos => Sys2Proof.Machine.execLineRelease slice pos s
  | .ripenerPass bank => Sys2Proof.Machine.execRipenerPass bank s
  | .vaultFlushComplete job => Sys2Proof.Machine.execVaultFlushComplete job s
  | .policyScanComplete bed => Sys2Proof.Machine.execPolicyScanComplete bed s
  | .downstreamLinkDown port => Sys2Proof.Machine.execDownstreamLinkDown port s
  | .extentScanStart port => Sys2Proof.Machine.execExtentScanStart port s
  | .extentScanComplete port => Sys2Proof.Machine.execExtentScanComplete port s
  | .deviceErrorReport port ld report => Sys2Proof.Machine.execDeviceErrorReport port ld report s
  | .deviceViral port ld => Sys2Proof.Machine.execDeviceViral port ld s
  | .hostViral port => Sys2Proof.Machine.execHostViral port s
  | .portDiscovery port found => Sys2Proof.Machine.execPortDiscovery port found s
  | .cxl128Attempt port => Sys2Proof.Machine.execCxl128Attempt port s
  | .cxl128Failed port rate => Sys2Proof.Machine.execCxl128Failed port rate s
  | .yalkelDvsecWrite port value => Sys2Proof.Machine.execYalkelDvsecWrite port value s
  | .hdmDecoderCommit port vppb index base size ways gran dpaBase position => Sys2Proof.Machine.execHdmDecoderCommit port vppb index base size ways gran dpaBase position s
  | .configRequestRetry port => Sys2Proof.Machine.execConfigRequestRetry port s
  | .hostCxlReset port plot clear => Sys2Proof.Machine.execHostCxlReset port plot clear s
  | .ideFailure port => Sys2Proof.Machine.execIdeFailure port s
  | .laneMarginingRequest lane active => Sys2Proof.Machine.execLaneMarginingRequest lane active s
  | .loopbackRequest port => Sys2Proof.Machine.execLoopbackRequest port s
  | .identifyMemoryDevice plot => Sys2Proof.Machine.execIdentifyMemoryDevice plot s
  | .getDynamicCapacityConfiguration plot => Sys2Proof.Machine.execGetDynamicCapacityConfiguration plot s
  | .getDynamicCapacityExtentList plot => Sys2Proof.Machine.execGetDynamicCapacityExtentList plot s
  | .addDynamicCapacityResponse plot slot sets => Sys2Proof.Machine.execAddDynamicCapacityResponse plot slot sets s
  | .releaseDynamicCapacity plot slot sets => Sys2Proof.Machine.execReleaseDynamicCapacity plot slot sets s
  | .getEventRecords plot log => Sys2Proof.Machine.execGetEventRecords plot log s
  | .clearEventRecords plot log handles => Sys2Proof.Machine.execClearEventRecords plot log handles s
  | .getSupportedLogs plot => Sys2Proof.Machine.execGetSupportedLogs plot s
  | .getLog plot log => Sys2Proof.Machine.execGetLog plot log s
  | .getPoisonList plot => Sys2Proof.Machine.execGetPoisonList plot s
  | .unsupportedMailboxCommand plot opcode => Sys2Proof.Machine.execUnsupportedMailboxCommand plot opcode s
  | .addCapacityEvent port ld block count => Sys2Proof.Machine.execAddCapacityEvent port ld block count s
  | .releaseCapacityRequest port ld block count => Sys2Proof.Machine.execReleaseCapacityRequest port ld block count s
  | .forcedRelease port ld block count => Sys2Proof.Machine.execForcedRelease port ld block count s
  | .bedShrinkTimeout bed => Sys2Proof.Machine.execBedShrinkTimeout bed s
  | .bedCountChange bed => Sys2Proof.Machine.execBedCountChange bed s
  | .plotDrainComplete plot => Sys2Proof.Machine.execPlotDrainComplete plot s
  | .plotDrainTimeout plot => Sys2Proof.Machine.execPlotDrainTimeout plot s
  | .plotSanitizeComplete plot => Sys2Proof.Machine.execPlotSanitizeComplete plot s
  | .plotQueuedCommandRun plot => Sys2Proof.Machine.execPlotQueuedCommandRun plot s
  | .zeroingStart extent => Sys2Proof.Machine.execZeroingStart extent s
  | .zeroingComplete extent ok => Sys2Proof.Machine.execZeroingComplete extent ok s
  | .migCopy extent => Sys2Proof.Machine.execMigCopy extent s
  | .extentFlip extent => Sys2Proof.Machine.execExtentFlip extent s
  | .submission port offset length deferrable pasid data => Sys2Proof.Machine.execSubmission port offset length deferrable pasid data s
  | .descriptorStart slice => Sys2Proof.Machine.execDescriptorStart slice s
  | .copy slice => Sys2Proof.Machine.execCopy slice s
  | .fill slice => Sys2Proof.Machine.execFill slice s
  | .compare slice => Sys2Proof.Machine.execCompare slice s
  | .crc slice => Sys2Proof.Machine.execCrc slice s
  | .atomic slice => Sys2Proof.Machine.execAtomic slice s
  | .descriptorComplete slice => Sys2Proof.Machine.execDescriptorComplete slice s
  | .barrowHostReadTimeout slice => Sys2Proof.Machine.execBarrowHostReadTimeout slice s
  | .sliceFrozen slice => Sys2Proof.Machine.execSliceFrozen slice s
  | .sliceSaveComplete slice ok => Sys2Proof.Machine.execSliceSaveComplete slice ok s
  | .sliceRestoreComplete slice ok => Sys2Proof.Machine.execSliceRestoreComplete slice ok s
  | .slcControlFreezeComplete port slice => Sys2Proof.Machine.execSlcControlFreezeComplete port slice s
  | .slcControlFreezeBoundary port slice => Sys2Proof.Machine.execSlcControlFreezeBoundary port slice s
  | .slcControlThaw port slice => Sys2Proof.Machine.execSlcControlThaw port slice s
  | .slcControlReset port slice => Sys2Proof.Machine.execSlcControlReset port slice s
  | .slcControlClearFault port slice => Sys2Proof.Machine.execSlcControlClearFault port slice s
  | .slcControlSave port slice => Sys2Proof.Machine.execSlcControlSave port slice s
  | .slcControlRestore port slice => Sys2Proof.Machine.execSlcControlRestore port slice s
  | .slcControlMalformed port slice value => Sys2Proof.Machine.execSlcControlMalformed port slice value s
  | .pairRequest station serial device generation pinPromote => Sys2Proof.Machine.execPairRequest station serial device generation pinPromote s
  | .config head table index image => Sys2Proof.Machine.execConfig head table index image s
  | .commit head proposal records => Sys2Proof.Machine.execCommit head proposal records s
  | .dir head set way entry => Sys2Proof.Machine.execDir head set way entry s
  | .vaultDirty head set way tag data => Sys2Proof.Machine.execVaultDirty head set way tag data s
  | .vaultClean head set way => Sys2Proof.Machine.execVaultClean head set way s
  | .wbPending head pos pl poison data => Sys2Proof.Machine.execWbPending head pos pl poison data s
  | .wbDone head pos => Sys2Proof.Machine.execWbDone head pos s
  | .ack unit mseq => Sys2Proof.Machine.execAck unit mseq s
  | .resyncComplete => Sys2Proof.Machine.execResyncComplete s
  | .mirrorLagExceeded unit => Sys2Proof.Machine.execMirrorLagExceeded unit s
  | .promotion => Sys2Proof.Machine.execPromotion s
  | .asyncSweepComplete slice bed => Sys2Proof.Machine.execAsyncSweepComplete slice bed s
  | .handoff generation => Sys2Proof.Machine.execHandoff generation s
  | .switchoverQuiesced => Sys2Proof.Machine.execSwitchoverQuiesced s
  | .switchoverTimeout => Sys2Proof.Machine.execSwitchoverTimeout s
  | .pairAliveEdge => Sys2Proof.Machine.execPairAliveEdge s
  | .pairAliveStopped => Sys2Proof.Machine.execPairAliveStopped s
  | .trunkHello station lane hello => Sys2Proof.Machine.execTrunkHello station lane hello s
  | .helloTimeout station => Sys2Proof.Machine.execHelloTimeout station s
  | .trunkTrain station lane good => Sys2Proof.Machine.execTrunkTrain station lane good s
  | .speedStepTimeout station => Sys2Proof.Machine.execSpeedStepTimeout station s
  | .trunkInit station hdr device serial expLess1 free => Sys2Proof.Machine.execTrunkInit station hdr device serial expLess1 free s
  | .trunkData station hdr check msgs => Sys2Proof.Machine.execTrunkData station hdr check msgs s
  | .trunkNull station hdr flitType check => Sys2Proof.Machine.execTrunkNull station hdr flitType check s
  | .trunkNak station hdr count records => Sys2Proof.Machine.execTrunkNak station hdr count records s
  | .nakResend station => Sys2Proof.Machine.execNakResend station s
  | .replayTimeout station => Sys2Proof.Machine.execReplayTimeout station s
  | .trunkAudit station hdr returned => Sys2Proof.Machine.execTrunkAudit station hdr returned s
  | .trunkTime station hdr kind t1 t2 t3 => Sys2Proof.Machine.execTrunkTime station hdr kind t1 t2 t3 s
  | .trunkHeartbeat station hdr device mode serial stamp flags => Sys2Proof.Machine.execTrunkHeartbeat station hdr device mode serial stamp flags s
  | .trunkRetrainRequest station hdr isAck width rate reason => Sys2Proof.Machine.execTrunkRetrainRequest station hdr isAck width rate reason s
  | .retrainPause station => Sys2Proof.Machine.execRetrainPause station s
  | .retrainRequestRepeat station => Sys2Proof.Machine.execRetrainRequestRepeat station s
  | .retrainTimeout station => Sys2Proof.Machine.execRetrainTimeout station s
  | .trunkSilence station => Sys2Proof.Machine.execTrunkSilence station s
  | .controlCreditStall station vc => Sys2Proof.Machine.execControlCreditStall station vc s
  | .trunkAutoRestart station => Sys2Proof.Machine.execTrunkAutoRestart station s
  | .laneIdleEntry station => Sys2Proof.Machine.execLaneIdleEntry station s
  | .laneIdleExit station => Sys2Proof.Machine.execLaneIdleExit station s
  | .l0sEntry port => Sys2Proof.Machine.execL0sEntry port s
  | .l0sExit port => Sys2Proof.Machine.execL0sExit port s
  | .laneLos lane => Sys2Proof.Machine.execLaneLos lane s
  | .laneLol lane => Sys2Proof.Machine.execLaneLol lane s
  | .eyeScanComplete lane left right top bottom => Sys2Proof.Machine.execEyeScanComplete lane left right top bottom s
  | .sourceAssertion source => Sys2Proof.Machine.execSourceAssertion source s
  | .evcOffer target => Sys2Proof.Machine.execEvcOffer target s
  | .withdrawAcknowledged target => Sys2Proof.Machine.execWithdrawAcknowledged target s
  | .take target source priority => Sys2Proof.Machine.execTake target source priority s
  | .offerTaken hart => Sys2Proof.Machine.execOfferTaken hart s
  | .withdrawReceived hart source => Sys2Proof.Machine.execWithdrawReceived hart source s
  | .evcDone hart value => Sys2Proof.Machine.execEvcDone hart value s
  | .evcTgtReset value => Sys2Proof.Machine.execEvcTgtReset value s
  | .evcSwtrig value => Sys2Proof.Machine.execEvcSwtrig value s
  | .evcPendClear word value => Sys2Proof.Machine.execEvcPendClear word value s
  | .dieLinkDown => Sys2Proof.Machine.execDieLinkDown s
  | .dieLinkUp free => Sys2Proof.Machine.execDieLinkUp free s
  | .dieLinkNak dir expected => Sys2Proof.Machine.execDieLinkNak dir expected s
  | .dieLinkCredit dir channel count => Sys2Proof.Machine.execDieLinkCredit dir channel count s
  | .dieLinkReplayTimeout dir => Sys2Proof.Machine.execDieLinkReplayTimeout dir s
  | .dieLinkAccessTimeout hart => Sys2Proof.Machine.execDieLinkAccessTimeout hart s
  | .almanacBroadcast => Sys2Proof.Machine.execAlmanacBroadcast s
  | .postedInWrite => Sys2Proof.Machine.execPostedInWrite s
  | .tellerAccess hart store address size data => Sys2Proof.Machine.execTellerAccess hart store address size data s
  | .bridgeLoad hart address size => Sys2Proof.Machine.execBridgeLoad hart address size s
  | .bridgeStore hart address size data => Sys2Proof.Machine.execBridgeStore hart address size data s
  | .bridgeConfigWrite hart address size data => Sys2Proof.Machine.execBridgeConfigWrite hart address size data s
  | .bridgeLr hart address size => Sys2Proof.Machine.execBridgeLr hart address size s
  | .bridgeSc hart address size data => Sys2Proof.Machine.execBridgeSc hart address size data s
  | .bridgeAmo hart address size funct data => Sys2Proof.Machine.execBridgeAmo hart address size funct data s
  | .bridgeCompletion slot status data => Sys2Proof.Machine.execBridgeCompletion slot status data s
  | .delayedReadDiscard slot => Sys2Proof.Machine.execDelayedReadDiscard slot s
  | .bridgeCplTimeout slot => Sys2Proof.Machine.execBridgeCplTimeout slot s
  | .semaphoreTimeout semaphore => Sys2Proof.Machine.execSemaphoreTimeout semaphore s
  | .semaphoreWaitTimeout hart => Sys2Proof.Machine.execSemaphoreWaitTimeout hart s
  | .inboundWrite port requester address data => Sys2Proof.Machine.execInboundWrite port requester address data s
  | .inboundMessage port kind vendor id requester header payload => Sys2Proof.Machine.execInboundMessage port kind vendor id requester header payload s
  | .brgTxSend value => Sys2Proof.Machine.execBrgTxSend value s
  | .qspiTransfer value => Sys2Proof.Machine.execQspiTransfer value s
  | .qspiTransferDone data => Sys2Proof.Machine.execQspiTransferDone data s
  | .watchdogKick => Sys2Proof.Machine.execWatchdogKick s
  | .watchdogEnable => Sys2Proof.Machine.execWatchdogEnable s
  | .watchdogExpiry => Sys2Proof.Machine.execWatchdogExpiry s
  | .stewardBoot imageA imageB => Sys2Proof.Machine.execStewardBoot imageA imageB s
  | .vauxPowerOn present goodA goodB => Sys2Proof.Machine.execVauxPowerOn present goodA goodB s
  | .vauxLoss => Sys2Proof.Machine.execVauxLoss s
  | .pkgResetAssert present => Sys2Proof.Machine.execPkgResetAssert present s
  | .fabricResetRelease => Sys2Proof.Machine.execFabricResetRelease s
  | .recordsLoaded bad => Sys2Proof.Machine.execRecordsLoaded bad s
  | .bistResult failures => Sys2Proof.Machine.execBistResult failures s
  | .sproutDeadline => Sys2Proof.Machine.execSproutDeadline s
  | .fallowFlushComplete => Sys2Proof.Machine.execFallowFlushComplete s
  | .fallowTimeout => Sys2Proof.Machine.execFallowTimeout s
  | .dormantEntry => Sys2Proof.Machine.execDormantEntry s
  | .dormantQuietTimeout => Sys2Proof.Machine.execDormantQuietTimeout s
  | .wake source => Sys2Proof.Machine.execWake source s
  | .resetStart => Sys2Proof.Machine.execResetStart s
  | .stewardOnlyReset => Sys2Proof.Machine.execStewardOnlyReset s
  | .counterModeSwitch => Sys2Proof.Machine.execCounterModeSwitch s
  | .counterTriggerSnapshot => Sys2Proof.Machine.execCounterTriggerSnapshot s
  | .ledgerWrite => Sys2Proof.Machine.execLedgerWrite s
  | .ledgerPersist => Sys2Proof.Machine.execLedgerPersist s
  | .lifeClockHour => Sys2Proof.Machine.execLifeClockHour s
  | .thermalReading celsius => Sys2Proof.Machine.execThermalReading celsius s
  | .thermalTrip => Sys2Proof.Machine.execThermalTrip s
  | .vidStep up => Sys2Proof.Machine.execVidStep up s
  | .powerLinkRegisterWrite index address value crcGood => Sys2Proof.Machine.execPowerLinkRegisterWrite index address value crcGood s
  | .powerLinkRegisterRead index address crcGood => Sys2Proof.Machine.execPowerLinkRegisterRead index address crcGood s
  | .powerLinkResponse index address value crcGood => Sys2Proof.Machine.execPowerLinkResponse index address value crcGood s
  | .powerLinkTelemetry slot sampleA sampleB crcGood => Sys2Proof.Machine.execPowerLinkTelemetry slot sampleA sampleB crcGood s
  | .powerLinkAlarm crcGood => Sys2Proof.Machine.execPowerLinkAlarm crcGood s
  | .wearBookRead address crcGood => Sys2Proof.Machine.execWearBookRead address crcGood s
  | .wearBookWrite address data crcGood => Sys2Proof.Machine.execWearBookWrite address data crcGood s
  | .powerLinkResend => Sys2Proof.Machine.execPowerLinkResend s
  | .powerLinkProbe => Sys2Proof.Machine.execPowerLinkProbe s
  | .chCtrlOn channel => Sys2Proof.Machine.execChCtrlOn channel s
  | .chCtrlOff channel => Sys2Proof.Machine.execChCtrlOff channel s
  | .chCtrlClearLatch channel => Sys2Proof.Machine.execChCtrlClearLatch channel s
  | .presenceDetect channel => Sys2Proof.Machine.execPresenceDetect channel s
  | .debounceComplete channel => Sys2Proof.Machine.execDebounceComplete channel s
  | .presenceBounce channel => Sys2Proof.Machine.execPresenceBounce channel s
  | .presenceLost channel => Sys2Proof.Machine.execPresenceLost channel s
  | .insertionDelayEnd channel => Sys2Proof.Machine.execInsertionDelayEnd channel s
  | .rampReached channel vout => Sys2Proof.Machine.execRampReached channel vout s
  | .qualifyComplete channel => Sys2Proof.Machine.execQualifyComplete channel s
  | .faultTimerExpiry channel => Sys2Proof.Machine.execFaultTimerExpiry channel s
  | .fastTrip channel shunt => Sys2Proof.Machine.execFastTrip channel shunt s
  | .rampTimeout channel => Sys2Proof.Machine.execRampTimeout channel s
  | .gateRiseTimeout channel => Sys2Proof.Machine.execGateRiseTimeout channel s
  | .retryIntervalEnd channel => Sys2Proof.Machine.execRetryIntervalEnd channel s
  | .pgHeld60s channel => Sys2Proof.Machine.execPgHeld60s channel s
  | .stuckOn channel => Sys2Proof.Machine.execStuckOn channel s
  | .feedBad feed => Sys2Proof.Machine.execFeedBad feed s
  | .feedGood feed => Sys2Proof.Machine.execFeedGood feed s
  | .feedReturnToA => Sys2Proof.Machine.execFeedReturnToA s
  | .feedDeadTimeEnd => Sys2Proof.Machine.execFeedDeadTimeEnd s
  | .perstRelease channel => Sys2Proof.Machine.execPerstRelease channel s
  | .pgFall channel => Sys2Proof.Machine.execPgFall channel s
  | .registerWrite writer address size value => Sys2Proof.Machine.execRegisterWrite writer address size value s
  | .passThroughTlp port tlp => Sys2Proof.Machine.execPassThroughTlp port tlp s
  | .portReachesL0 port rate width cxl flit => Sys2Proof.Machine.execPortReachesL0 port rate width cxl flit s
  | .remoteMapTimeout plot slot => Sys2Proof.Machine.execRemoteMapTimeout plot slot s
  | .pairFormTimeout => Sys2Proof.Machine.execPairFormTimeout s
  | .helloWaitEnd station => Sys2Proof.Machine.execHelloWaitEnd station s
  | .furtherHellosDone station => Sys2Proof.Machine.execFurtherHellosDone station s
  | .retrainEnd station locked => Sys2Proof.Machine.execRetrainEnd station locked s
  | .losDeassert lane => Sys2Proof.Machine.execLosDeassert lane s
  | .lolDeassert lane => Sys2Proof.Machine.execLolDeassert lane s
  | .prbsLock lane => Sys2Proof.Machine.execPrbsLock lane s
  | .prbsLockLost lane errors => Sys2Proof.Machine.execPrbsLockLost lane errors s
  | .dieLinkCrcError dir => Sys2Proof.Machine.execDieLinkCrcError dir s
  | .dieLinkMalformedFlit dir hdr => Sys2Proof.Machine.execDieLinkMalformedFlit dir hdr s
  | .barrowHostCompletion slice status data => Sys2Proof.Machine.execBarrowHostCompletion slice status data s
  | .dynamicAddressAssignment address byEntdaa => Sys2Proof.Machine.execDynamicAddressAssignment address byEntdaa s
  | .almNowLowLoad => Sys2Proof.Machine.execAlmNowLowLoad s
  | .extentDefineScanComplete extent => Sys2Proof.Machine.execExtentDefineScanComplete extent s
  | .healthBistComplete repairs failing => Sys2Proof.Machine.execHealthBistComplete repairs failing s
  | .healthVminComplete vmin => Sys2Proof.Machine.execHealthVminComplete vmin s

end Sys2Proof.Machine
end

