-- ==== Sys2Proof/Safety.lean ====
section
/-! DEFINITION. The terms in which claims are stated: the frame of a command, when a Teller command passes the checks of R357, and the
invariants of the queue and of the memories. -/

namespace Sys2Proof

/-- The opcode and the ring of a row of the command catalogue (R384 to R411). -/
def Instr.command (c : Instr) : Option (Nat × Nat) :=
  match c with
  | .devIdentify ring => some (0x0101, ring)
  | .devStatus ring => some (0x0102, ring)
  | .devSetMode ring => some (0x0103, ring)
  | .devReset ring => some (0x0104, ring)
  | .devSetNumber ring => some (0x0105, ring)
  | .devSetKeySlot ring => some (0x0106, ring)
  | .devRevokeKeySlot ring => some (0x0107, ring)
  | .plotConfigure ring => some (0x0201, ring)
  | .plotRelease ring => some (0x0202, ring)
  | .plotMapBed ring => some (0x0203, ring)
  | .plotUnmapBed ring => some (0x0204, ring)
  | .plotEnable ring => some (0x0205, ring)
  | .plotDisable ring => some (0x0206, ring)
  | .plotReset ring => some (0x0207, ring)
  | .plotSetSanitize ring => some (0x0208, ring)
  | .plotSetQos ring => some (0x0209, ring)
  | .plotRead ring => some (0x020A, ring)
  | .bedDefine ring => some (0x0301, ring)
  | .bedUndefine ring => some (0x0302, ring)
  | .bedSetPolicy ring => some (0x0303, ring)
  | .bedGrow ring => some (0x0304, ring)
  | .bedShrink ring => some (0x0305, ring)
  | .bedExport ring => some (0x0306, ring)
  | .bedRead ring => some (0x0307, ring)
  | .extentDefine ring => some (0x0308, ring)
  | .extentUndefine ring => some (0x0309, ring)
  | .extentClearFailed ring => some (0x030A, ring)
  | .extentRead ring => some (0x030B, ring)
  | .portSetRole ring => some (0x0401, ring)
  | .portSetLink ring => some (0x0402, ring)
  | .portRetrain ring => some (0x0403, ring)
  | .portRead ring => some (0x0404, ring)
  | .portStatus ring => some (0x0405, ring)
  | .portPrepareRemoval ring => some (0x0406, ring)
  | .portSetIdeKey ring => some (0x0407, ring)
  | .portBindLd ring => some (0x0408, ring)
  | .portUnbindLd ring => some (0x0409, ring)
  | .portSetLoadThresholds ring => some (0x040A, ring)
  | .laneSet ring => some (0x0410, ring)
  | .laneRead ring => some (0x0411, ring)
  | .laneStatus ring => some (0x0412, ring)
  | .laneSetLoop ring => some (0x0413, ring)
  | .lanePrbs ring => some (0x0414, ring)
  | .laneEyeScan ring => some (0x0415, ring)
  | .trunkSet ring => some (0x0420, ring)
  | .trunkRead ring => some (0x0421, ring)
  | .trunkStatus ring => some (0x0422, ring)
  | .trunkSetLink ring => some (0x0423, ring)
  | .trunkRetrain ring => some (0x0424, ring)
  | .trunkRestart ring => some (0x0425, ring)
  | .trunkSetBuffers ring => some (0x0426, ring)
  | .trunkSetRoute ring => some (0x0427, ring)
  | .cohSetWeeder ring => some (0x0501, ring)
  | .cohSetSnoopTimeout ring => some (0x0502, ring)
  | .cohSetLoadThresholds ring => some (0x0503, ring)
  | .cohReadEntry ring => some (0x0504, ring)
  | .cohLookup ring => some (0x0505, ring)
  | .cohStatus ring => some (0x0506, ring)
  | .vaultFlush ring => some (0x0601, ring)
  | .vaultSetWriteTimeout ring => some (0x0602, ring)
  | .vaultSetPredictor ring => some (0x0603, ring)
  | .vaultStatus ring => some (0x0604, ring)
  | .vaultReadTag ring => some (0x0605, ring)
  | .vaultReadPredictor ring => some (0x0606, ring)
  | .sliceBind ring => some (0x0701, ring)
  | .sliceUnbind ring => some (0x0702, ring)
  | .sliceMapPasid ring => some (0x0703, ring)
  | .sliceUnmapPasid ring => some (0x0704, ring)
  | .sliceFreeze ring => some (0x0705, ring)
  | .sliceThaw ring => some (0x0706, ring)
  | .sliceReset ring => some (0x0707, ring)
  | .sliceClearFault ring => some (0x0708, ring)
  | .sliceSave ring => some (0x0709, ring)
  | .sliceRestore ring => some (0x070A, ring)
  | .sliceStatus ring => some (0x070B, ring)
  | .extentMigrate ring => some (0x0710, ring)
  | .extentMigrateCancel ring => some (0x0711, ring)
  | .pairForm ring => some (0x0801, ring)
  | .pairDissolve ring => some (0x0802, ring)
  | .pairSwitchover ring => some (0x0803, ring)
  | .pairAssume ring => some (0x0804, ring)
  | .pairPromote ring => some (0x0805, ring)
  | .pairSetLag ring => some (0x0806, ring)
  | .pairClearRecovery ring => some (0x0807, ring)
  | .pairStatus ring => some (0x0808, ring)
  | .evtSetSource ring => some (0x0901, ring)
  | .evtReadSource ring => some (0x0902, ring)
  | .evtTrigger ring => some (0x0903, ring)
  | .ctrSetSelect ring => some (0x0A01, ring)
  | .ctrSnapshot ring => some (0x0A02, ring)
  | .ctrRead ring => some (0x0A03, ring)
  | .statRead ring => some (0x0A04, ring)
  | .slotSet ring => some (0x0B01, ring)
  | .slotOn ring => some (0x0B02, ring)
  | .slotOff ring => some (0x0B03, ring)
  | .slotClearLatch ring => some (0x0B04, ring)
  | .slotRead ring => some (0x0B05, ring)
  | .slotStatus ring => some (0x0B06, ring)
  | .feedSet ring => some (0x0B07, ring)
  | .feedStatus ring => some (0x0B08, ring)
  | .wearRead ring => some (0x0C01, ring)
  | .wearSummary ring => some (0x0C02, ring)
  | .ledgerRead ring => some (0x0C03, ring)
  | .ledgerStatus ring => some (0x0C04, ring)
  | .healthBist ring => some (0x0C05, ring)
  | .healthVmin ring => some (0x0C06, ring)
  | .countersign ring => some (0x0D01, ring)
  | .csWithdraw ring => some (0x0D02, ring)
  | .csList ring => some (0x0D03, ring)
  | .csSetWindow ring => some (0x0D04, ring)
  | .csSetAuthority ring => some (0x0D05, ring)
  | .timeSetEpoch ring => some (0x0E01, ring)
  | .timeSetSeason ring => some (0x0E02, ring)
  | .timeSetRoot ring => some (0x0E03, ring)
  | .timeRead ring => some (0x0E04, ring)
  | .traceSetFilter ring => some (0x0E05, ring)
  | .traceStart ring => some (0x0E06, ring)
  | .traceStop ring => some (0x0E07, ring)
  | .traceRead ring => some (0x0E08, ring)
  | _ => none

end Sys2Proof

namespace Sys2Proof.Machine

/-- The components of the state, by name. -/
inductive Part where
  | time | dev | evc | ctr | ledger | wear | records | teller | pool | home | switch | ports | lanes | trunks | pair | barrow
  | steward | dieLink | bridge | power | free | pending
  deriving DecidableEq, Repr

/-- Two states agree in one component. -/
def Part.same (s t : State) : Part → Prop
  | .time => t.time = s.time
  | .dev => t.dev = s.dev
  | .evc => t.evc = s.evc
  | .ctr => t.ctr = s.ctr
  | .ledger => t.ledger = s.ledger
  | .wear => t.wear = s.wear
  | .records => t.records = s.records
  | .teller => t.teller = s.teller
  | .pool => t.pool = s.pool
  | .home => t.home = s.home
  | .switch => t.switch = s.switch
  | .ports => t.ports = s.ports
  | .lanes => t.lanes = s.lanes
  | .trunks => t.trunks = s.trunks
  | .pair => t.pair = s.pair
  | .barrow => t.barrow = s.barrow
  | .steward => t.steward = s.steward
  | .dieLink => t.dieLink = s.dieLink
  | .bridge => t.bridge = s.bridge
  | .power => t.power = s.power
  | .free => t.free = s.free
  | .pending => t.pending = s.pending

/-- The frame: `t` is `s` but for the components listed. Every register, queue, flag and memory of another component is as it was. -/
def State.onlyChanges (s : State) (l : List Part) (t : State) : Prop := ∀ k : Part, k ∉ l → k.same s t

/-- What a command answers that makes `t` of `s`: a next state, with the queue of waiting commands as it was. -/
def State.becomes (s t : State) : Out := .next (t.setPending s.pending)

/-- The state in which the Teller decides a ring's next command (R353, R358, R362): the command is copied, the head has advanced, its
tag is noted in the ring's history. -/
def State.taken (s : State) (ring : Nat) : State :=
  let c := s.front ring
  (takeCommand ring c s).modRing ring (fun r =>
    { r with history := r.history ++ [{ origin := c.origin, tag := c.tag, opcode := c.opcode }] })

/-- The Teller starts the next command of a ring now, its opcode is `op`, its fwd is 0, its tag is new, and it passes steps 2 to 6 of R357:
conditions on the state and the ring alone. -/
def State.passes (s : State) (op ring : Nat) : Bool :=
  decide (ring < 16) && s.waitsFor op ring false && s.startFree && ((takeCommand ring (s.front ring) s).held (s.front ring)).isNone &&
  ((s.taken ring).firstFailure (s.front ring)).isNone

/-- Where in ring memory a ring's next receipt goes (R350, R351). -/
def State.receiptSlot (s : State) (ring : Nat) : Nat := ring * 0x8000 + 0x4000 + 0x20 * ((s.ring ring).rcptTail.toNat % 256)

/-- The next state after a command that ends at once (R359, R361): its effect `t` is made and its one receipt is written with a status and
a result; where the effect changes a mirrored table, the command waits for its partner and its boundary instead (R299, R302). -/
def State.endsWith (s : State) (ring status : Nat) (result : List Byte) (t : State) : Out :=
  .next ((if changeWaits (s.taken ring) t then deferToTick (s.front ring) (s.taken ring)
    else answerStart (s.front ring) status result t).setPending s.pending)

/-- The next state of a command that waits for its tick boundary (R359, R381). -/
def State.waitsForBoundary (s : State) (ring : Nat) : Out :=
  .next ((deferToTick (s.front ring) (s.taken ring)).setPending s.pending)

/-- The next state of a guarded command (R368, R380): its body is staged as a proposal. -/
def State.isStaged (s : State) (ring : Nat) : Out := .next ((propose (s.front ring) (s.taken ring)).setPending s.pending)

/-- The state in which the work of a command that ends QUEUED begins (R359): QUEUED is written, and the command is among the jobs. -/
def State.noted (s : State) (ring : Nat) (k : JobKind) : State :=
  addJob (s.front ring) k false (answerStart (s.front ring) stQueued [] (s.taken ring))

/-- The next state of a command that ends QUEUED from its start (R359): its work `f` has begun, or, where that changes a mirrored table,
waits for the partner and the boundary (R299, R302). -/
def State.isQueued (s : State) (ring : Nat) (k : JobKind) (f : State → State) : Out :=
  .next ((if changeWaits (s.noted ring k) (f (s.noted ring k)) then deferToTick (s.front ring) (s.noted ring .boundary)
    else f (s.noted ring k)).setPending s.pending)

/-- The next state of a command that is QUEUED and whose work begins at the tick boundary (R359, R381). -/
def State.isQueuedForBoundary (s : State) (ring : Nat) : Out :=
  .next ((deferToTick (s.front ring) (s.noted ring .boundary)).setPending s.pending)

/-- Every waiting command names resources that the device has (R2). -/
def State.queueWf (s : State) : Prop := ∀ c ∈ s.pending, c.wf = true

/-- The addressed memories are in canonical form: ring memory, the countersign port's buffers, the
steward's SRAM and QSPI buffer, the bridge's transmit buffers, the wear book. -/
def State.memoriesWf (s : State) : Prop :=
  Memory.wf 0 s.teller.mem = true ∧ Memory.wf 0 s.teller.csParam = true ∧ Memory.wf 0 s.teller.csResult = true ∧
  Memory.wf 0 s.steward.sram = true ∧ Memory.wf 0 s.steward.qspiData = true ∧ Memory.wf 0 s.bridge.txBuf = true ∧
  Memory.wf 0xFF s.wear.book = true

end Sys2Proof.Machine
end

