-- ==== Sys2Proof/Certificates/Slice0/Obligations.lean ====
section
/-! DEFINITION. The statements for the provers. -/

open Sys2Proof Sys2Proof.Machine

/-- Teller commands (device, plot, bed and extent): a command that may start (passes) and whose own conditions hold is staged, waits for its boundary,
is QUEUED or ends DONE. -/
def Obligations.PlotBedAndDeviceCommandsComplete : Prop :=
  ∀ (s u : State) (c : Command) (ring n b e : Nat) (m : Mode),
  s.front ring = c → s.taken ring = u → c.num 16 2 = n → c.byte 16 = b → c.num 16 4 = e →
  (∀ o i, (o, i) ∈ ([(0x0106, .devSetKeySlot), (0x0107, .devRevokeKeySlot), (0x0201, .plotConfigure), (0x0202, .plotRelease), (0x0203, .plotMapBed), (0x0204,
  .plotUnmapBed), (0x0208, .plotSetSanitize), (0x0301, .bedDefine), (0x0304, .bedGrow), (0x0306, .bedExport)] : List (Nat × (Nat → Instr))) → s.passes o ring
  = true → exec (i ring) s = s.isStaged ring) ∧
  (∀ o i h, (o, i, h) ∈ ([
   (0x0205, .plotEnable, (u.plot c.plotField).state = .configured),
   (0x0207, .plotReset, (u.plot c.plotField).state = .configured),
   (0x0309, .extentUndefine, e < 2 ^ 20 ∧ (u.extent e).state = .defined ∧ u.migTarget e = false ∧ u.growing e = false)] :
   List (Nat × (Nat → Instr) × Prop)) → h → s.passes o ring = true → exec (i ring) s = s.waitsForBoundary ring) ∧
  (∀ o i h, (o, i, h) ∈ ([
   (0x0101, .devIdentify, True),
   (0x0102, .devStatus, True),
   (0x0104, .devReset, 1 ≤ b ∧ b ≤ 3 ∧ (s.hasJob (fun k => decide (k = .mode ∨ k = .modeRecord)) = false)),
   (0x0105, .devSetNumber, b ≤ 15 ∧ s.pair.state = .unpaired ∧ s.trunks.trunk.any (fun e => decide (e.2.state ≠ .down ∧ e.2.state ≠ .broken)) = false),
   (0x0209, .plotSetQos, (n = 0 ∨ 4 ≤ n) ∧ (c.num 18 2 = 0 ∨ 4 ≤ c.num 18 2) ∧ 1 ≤ c.byte 20 ∧ c.byte 20 ≤ 15 ∧ c.byte 21 ≠ 0 ∧ (u.plot c.plotField).moving =
   false ∧ (u.plot c.plotField).state ≠ .free),
   (0x020A, .plotRead, True),
   (0x0307, .bedRead, n ≤ 4095),
   (0x030B, .extentRead, e < 2 ^ 20)] :
   List (Nat × (Nat → Instr) × Prop)) → h → s.passes o ring = true → ∃ r t, exec (i ring) s = s.endsWith ring stDone r t) ∧
  (∀ o i h, (o, i, h) ∈ ([
   (0x0103, .devSetMode, ring ≠ 15 ∧ modeOfCode b = some m ∧ m ≠ .sprout ∧ m ≠ .shadow ∧ m ≠ s.dev.mode ∧ s.dev.transition = none ∧ s.dev.dormantDue = false
   ∧ (modeRefusal m s).all (fun x => !x.1) = true),
   (0x0302, .bedUndefine, n ≤ 4095 ∧ (s.bed n).state = .defined ∧ (s.bed n).mapCount = 0 ∧ (s.bed n).exports = []),
   (0x0305, .bedShrink, n ≤ 4095 ∧ (s.bed n).state = .defined ∧ (s.bed n).resize = none ∧ c.num 18 2 ≤ (s.bed n).count.toNat / 2 ^ (s.bed n).ways.toNat ∧
   ((s.bed n).leaving (c.num 18 2)).all (fun i => decide ((s.extent i).state ≠ .migrating)) = true),
   (0x0308, .extentDefine, e < 2 ^ 20 ∧ c.byte 20 ≤ 127 ∧ c.byte 21 ≤ 15 ∧ c.num 24 4 < 2 ^ 20 ∧ (s.port (c.byte 20)).downstream = true ∧ s.ldBound (c.byte
   20) (c.byte 21) = false ∧ (s.extent e).state = .free ∧ Tab.find s.pool.defining e = none ∧ s.capacityHas
   { port := BitVec.ofNat 7 (c.byte 20), ld := BitVec.ofNat 4 (c.byte 21), dpaBase := BitVec.ofNat 20 (c.num 24 4) } = true ∧ (Tab.find (s.port (c.byte
   20)).decoder0 (c.byte 21)).isSome = true),
   (0x030A, .extentClearFailed, e < 2 ^ 20 ∧ (s.extent e).state = .failed)] :
   List (Nat × (Nat → Instr) × Prop)) → h → s.passes o ring = true → ∃ k f, exec (i ring) s = s.isQueued ring k f) ∧
  ((u.plot c.plotField).state = .active → s.passes 0x0206 ring = true → exec (.plotDisable ring) s = s.isQueuedForBoundary ring) ∧
  (n ≤ 4095 ∧ c.byte 18 ≤ 2 ∧ 1 ≤ c.num 20 2 ∧ c.num 20 2 ≤ 953 → (c.byte 18 = 2 → (u.bed n).mosi = true) → (u.bed n).state = .defined ∧ (u.bed n).policyScan
  = [] → s.passes 0x0303 ring = true → exec (.bedSetPolicy ring) s = s.isQueuedForBoundary ring)

/-- Teller commands (port, lane and trunk): a command that may start (passes) and whose own conditions hold is staged, waits for its boundary, is
QUEUED or ends DONE. -/
def Obligations.PortLaneAndTrunkCommandsComplete : Prop :=
  ∀ (s u : State) (c : Command) (ring n b e : Nat),
  s.front ring = c → s.taken ring = u → c.num 16 2 = n → c.byte 16 = b → c.num 16 4 = e →
  (∀ o i, (o, i) ∈ ([(0x0401, .portSetRole), (0x0408, .portBindLd), (0x0409, .portUnbindLd)] : List (Nat × (Nat → Instr))) → s.passes o ring = true → exec (i
  ring) s = s.isStaged ring) ∧
  (∀ o i h, (o, i, h) ∈ ([
   (0x0402, .portSetLink, b ≤ 127 ∧ c.byte 17 ≤ 6),
   (0x0403, .portRetrain, b ≤ 127),
   (0x0407, .portSetIdeKey, c.blk 0 1 ≤ 127 ∧ c.blk 1 1 ≤ 1 ∧ c.blk 2 1 ≤ 1 ∧ c.blk 3 1 ≤ 1 ∧ (u.port (c.blk 0 1)).upstream = true),
   (0x040A, .portSetLoadThresholds, 1 ≤ c.num 18 2 ∧ c.num 18 2 < c.num 20 2 ∧ c.num 20 2 < c.num 22 2 ∧ c.num 22 2 ≤ 4095),
   (0x0410, .laneSet, (bitsOf (BitVec.ofNat 64 (c.num 16 8)) 43 40 ≤ 10 ∨ bitsOf (BitVec.ofNat 64 (c.num 16 8)) 43 40 = 15) ∧ bitsOf (BitVec.ofNat 64 (c.num
   16 8)) 36 35 ≠ 3 ∧ (bitsOf (BitVec.ofNat 64 (c.num 16 8)) 34 32 ≤ 4 ∨ bitsOf (BitVec.ofNat 64 (c.num 16 8)) 34 32 = 7) ∧ bitsOf (BitVec.ofNat 64 (c.num 16
   8)) 31 24 ≠ 0 ∧ bitsOf (BitVec.ofNat 64 (c.num 16 8)) 19 16 ≠ 0 ∧ bitsOf (BitVec.ofNat 64 (c.num 16 8)) 14 0 = 0),
   (0x0413, .laneSetLoop, b ≤ 3),
   (0x0414, .lanePrbs, c.byte 17 ≤ 4 ∧ c.byte 18 ≤ 4),
   (0x0420, .trunkSet, b ≤ 127 ∧ (u.port b).isTrunk = true ∧ 10 ≤ (trunkEntryOf (c.num 24 8)).leakPct.toNat ∧ (trunkEntryOf (c.num 24 8)).leakPct.toNat ≤ 90
   ∧ 4 ≤ (trunkEntryOf (c.num 24 8)).holdoff.toNat ∧ (trunkEntryOf (c.num 24 8)).maxRate ≠ 3),
   (0x0427, .trunkSetRoute, True)] :
   List (Nat × (Nat → Instr) × Prop)) → h → s.passes o ring = true → exec (i ring) s = s.waitsForBoundary ring) ∧
  (∀ o i h, (o, i, h) ∈ ([
   (0x0404, .portRead, b ≤ 127),
   (0x0405, .portStatus, b ≤ 127),
   (0x0411, .laneRead, True),
   (0x0412, .laneStatus, c.byte 17 % 2 = 0),
   (0x0421, .trunkRead, b ≤ 127 ∧ (u.port b).isTrunk = true),
   (0x0422, .trunkStatus, b ≤ 127 ∧ (u.port b).isTrunk = true),
   (0x0425, .trunkRestart, b ≤ 127 ∧ (u.port b).isTrunk = true ∧ ((u.trunk (b / 8)).state = .broken ∨ (u.trunk (b / 8)).state = .down)),
   (0x0426, .trunkSetBuffers, b ≤ 127 ∧ (u.port b).isTrunk = true ∧ ((List.range 8).map (fun n => c.num (24 + 2 * n) 2)).sum ≤ 3584 ∧ c.num 26 2 = 0 ∧ 16 ≤
   c.num 24 2 ∧ 16 ≤ c.num 28 2 ∧ 16 ≤ c.num 30 2 ∧ 16 ≤ c.num 32 2 ∧ 64 ≤ c.num 34 2 ∧ 64 ≤ c.num 36 2 ∧ 64 ≤ c.num 38 2)] :
   List (Nat × (Nat → Instr) × Prop)) → h → s.passes o ring = true → ∃ r t, exec (i ring) s = s.endsWith ring stDone r t) ∧
  (∀ o i h, (o, i, h) ∈ ([
   (0x0406, .portPrepareRemoval, b ≤ 127 ∧ (s.port b).downstream = true ∧ s.removalBusy b = false),
   (0x0415, .laneEyeScan, 16 ≤ c.byte 17 ∧ c.byte 17 ≤ 30 ∧ s.laneInL0 b = true ∧ (s.lane b).marginStatus ≠ 3 ∧ (s.lane b).scanWaits = none ∧ (s.lane
   b).margining = false),
   (0x0423, .trunkSetLink, b ≤ 127 ∧ (s.port b).isTrunk = true ∧ 1 ≤ c.byte 17 ∧ c.byte 17 ≤ (s.port b).entry.width.toNat ∧ c.byte 18 ≤ (s.trunk (b /
   8)).entry.maxRate.toNat ∧ (s.trunk (b / 8)).state = .up),
   (0x0424, .trunkRetrain, b ≤ 127 ∧ (s.port b).isTrunk = true ∧ (s.trunk (b / 8)).state = .up)] :
   List (Nat × (Nat → Instr) × Prop)) → h → s.passes o ring = true → ∃ k f, exec (i ring) s = s.isQueued ring k f)

/-- Teller commands (home, vault and Barrow slice): a command that may start (passes) and whose own conditions hold is staged, waits for its boundary,
is QUEUED or ends DONE. -/
def Obligations.HomeVaultAndSliceCommandsComplete : Prop :=
  ∀ (s u : State) (c : Command) (ring n b e : Nat) (t : State),
  s.front ring = c → s.taken ring = u → c.num 16 2 = n → c.byte 16 = b → c.num 16 4 = e →
  (∀ o i h, (o, i, h) ∈ ([
   (0x0501, .cohSetWeeder, c.byte 17 ≤ 64),
   (0x0502, .cohSetSnoopTimeout, 16 ≤ n ∧ n ≤ 4096),
   (0x0503, .cohSetLoadThresholds, 1 ≤ c.num 18 2 ∧ c.num 18 2 < c.num 20 2 ∧ c.num 20 2 < c.num 22 2 ∧ c.num 22 2 ≤ 1024),
   (0x0602, .vaultSetWriteTimeout, 4 ≤ n ∧ n ≤ 256),
   (0x0603, .vaultSetPredictor, 1 ≤ c.byte 17 ∧ c.byte 17 ≤ 15 ∧ c.byte 18 < c.byte 17),
   (0x0701, .sliceBind, n ≤ 511 ∧ c.byte 18 ≤ 63 ∧ c.num 20 4 < 2 ^ 20 ∧ (u.plot c.plotField).state ≠ .free ∧ (u.bslice n).state = .unbound),
   (0x0702, .sliceUnbind, n ≤ 511 ∧ (u.bslice n).state ≠ .unbound),
   (0x0703, .sliceMapPasid, n ≤ 511 ∧ c.badKey = false ∧ (u.bslice n).state ≠ .unbound ∧ (u.plot (u.bslice n).plot.toNat).port.toNat = c.byte 18 ∧ u.pasidKey
   (c.byte 18) (decide (c.byte 19 % 2 = 1)) (c.num 20 4) = none ∧ u.barrow.pasids = []),
   (0x0704, .sliceUnmapPasid, c.badKey = false ∧ u.pasidKey (c.byte 18) (decide (c.byte 19 % 2 = 1)) (c.num 20 4) = some 4095),
   (0x0706, .sliceThaw, n ≤ 511 ∧ (u.bslice n).state = .frozen),
   (0x0707, .sliceReset, n ≤ 511 ∧ (u.bslice n).state ≠ .unbound),
   (0x0708, .sliceClearFault, n ≤ 511 ∧ (u.bslice n).state ≠ .unbound)] :
   List (Nat × (Nat → Instr) × Prop)) → h → s.passes o ring = true → exec (i ring) s = s.waitsForBoundary ring) ∧
  (∀ o i h, (o, i, h) ∈ ([
   (0x0504, .cohReadEntry, b ≤ 7 ∧ c.byte 20 ≤ 15),
   (0x0505, .cohLookup, n ≤ 4095 ∧ (u.bed n).state = .defined ∧ c.num 24 8 < (u.bed n).span.toNat * 2 ^ 28 ∧ (u.slice (sliceOf n (c.num 24 8 / 64))).hit
   ((u.bed n).pl (c.num 24 8 / 64)) = none),
   (0x0506, .cohStatus, b ≤ 7),
   (0x0604, .vaultStatus, b ≤ 7),
   (0x0605, .vaultReadTag, b ≤ 7 ∧ c.num 18 2 ≤ 4095 ∧ c.byte 20 ≤ 15 ∧ checkVaultSet b (c.num 18 2) u = t),
   (0x0606, .vaultReadPredictor, b ≤ 7 ∧ c.num 18 2 ≤ 4095),
   (0x070B, .sliceStatus, n ≤ 511 ∧ (u.bslice n).state ≠ .unbound),
   (0x0711, .extentMigrateCancel, e < 2 ^ 20 ∧ (u.extent e).state = .migrating)] :
   List (Nat × (Nat → Instr) × Prop)) → h → s.passes o ring = true → ∃ r t, exec (i ring) s = s.endsWith ring stDone r t) ∧
  ((n ≤ 4095 ∨ n = 0xFFFF) → s.passes 0x0601 ring = true → exec (.vaultFlush ring) s = s.isQueuedForBoundary ring) ∧
  (n ≤ 511 ∧ c.byte 18 ≤ 1 → (u.bslice n).state = .running → s.passes 0x0705 ring = true → exec (.sliceFreeze ring) s = s.isQueuedForBoundary ring) ∧
  (n ≤ 511 ∧ c.num 24 8 % 4096 = 0 → (u.bslice n).state = .frozen → (u.bslice n).job = none → s.passes 0x0709 ring = true → exec (.sliceSave ring) s =
  s.isQueuedForBoundary ring) ∧
  (n ≤ 511 ∧ c.num 24 8 % 4096 = 0 → (u.bslice n).state = .frozen → (u.bslice n).job = none ∧ (u.bslice n).queue = [] → s.passes 0x070A ring = true → exec
  (.sliceRestore ring) s = s.isQueuedForBoundary ring) ∧
  ((e < 2 ^ 20 ∧ c.num 20 4 < 2 ^ 20 ∧ (c.num 24 2 = 0 ∨ 64 ≤ c.num 24 2) ∧ c.num 24 2 ≤ 16384) → u.pool.migrations = [] → (u.extent e).state = .bound ∧
  (u.extent (c.num 20 4)).state = .defined → u.pool.beds.any (fun e => decide (e.2.state ≠ .free ∧ e.2.base.toNat ≤ c.num 20 4 ∧ c.num 20 4 < e.2.base.toNat
  + e.2.span.toNat)) = false → s.passes 0x0710 ring = true → exec (.extentMigrate ring) s = s.isQueuedForBoundary ring)

/-- Teller commands (pair, event and counter): a command that may start (passes) and whose own conditions hold is staged, waits for its boundary, is
QUEUED or ends DONE. -/
def Obligations.PairEventAndCounterCommandsComplete : Prop :=
  ∀ (s u : State) (c : Command) (ring n b e : Nat),
  s.front ring = c → s.taken ring = u → c.num 16 2 = n → c.byte 16 = b → c.num 16 4 = e →
  (∀ o i, (o, i) ∈ ([(0x0801, .pairForm), (0x0802, .pairDissolve), (0x0803, .pairSwitchover), (0x0804, .pairAssume)] : List (Nat × (Nat → Instr))) → s.passes
  o ring = true → exec (i ring) s = s.isStaged ring) ∧
  (∀ o i h, (o, i, h) ∈ ([
   (0x0806, .pairSetLag, b ≠ 0),
   (0x0901, .evtSetSource, 1 ≤ n ∧ n ≤ 2047),
   (0x0A01, .ctrSetSelect, b ≤ 26 ∧ c.byte 17 ≤ 7 ∧ selectValid b (BitVec.ofNat 16 (c.num 18 2)) = true),
   (0x0A02, .ctrSnapshot, True)] :
   List (Nat × (Nat → Instr) × Prop)) → h → s.passes o ring = true → exec (i ring) s = s.waitsForBoundary ring) ∧
  (∀ o i h, (o, i, h) ∈ ([
   (0x0805, .pairPromote, u.pair.state = .shadow),
   (0x0807, .pairClearRecovery, True),
   (0x0808, .pairStatus, True),
   (0x0902, .evtReadSource, n ≤ 2047),
   (0x0903, .evtTrigger, n ≤ 511),
   (0x0A03, .ctrRead, b ≤ 26),
   (0x0A04, .statRead, b = 1 ∧ c.byte 17 = 1 ∧ c.num 18 2 ≤ 127)] :
   List (Nat × (Nat → Instr) × Prop)) → h → s.passes o ring = true → ∃ r t, exec (i ring) s = s.endsWith ring stDone r t)

/-- Teller commands (slot, ledger, health, countersign and time): a command that may start (passes) and whose own conditions hold is staged, waits for
its boundary, is QUEUED or ends DONE. -/
def Obligations.SlotWearProposalAndTimeCommandsComplete : Prop :=
  ∀ (s u : State) (c : Command) (ring n b e : Nat) (p : Proposal),
  s.front ring = c → s.taken ring = u → c.num 16 2 = n → c.byte 16 = b → c.num 16 4 = e →
  (∀ o i, (o, i) ∈ ([(0x0D04, .csSetWindow), (0x0D05, .csSetAuthority)] : List (Nat × (Nat → Instr))) → s.passes o ring = true → exec (i ring) s = s.isStaged
  ring) ∧
  (∀ o i h, (o, i, h) ∈ ([
   (0x0B01, .slotSet, u.power.link = true ∧ b ≤ 47 ∧ c.byte 17 ≤ 7 ∧ 1 ≤ c.byte 18 ∧ c.byte 18 ≤ 16 ∧ 10 ≤ c.num 20 2 ∧ c.num 20 2 ≤ 500 ∧ 1 ≤ c.byte 22 ∧
   c.byte 22 ≤ 128 ∧ 1 ≤ c.byte 23 ∧ c.byte 23 ≤ 100 ∧ 1 ≤ c.num 24 2 ∧ c.num 24 2 ≤ 100 ∧ (u.chCopy b).powered = false),
   (0x0B03, .slotOff, u.power.link = true ∧ b ≤ 47 ∧ u.slotBusy b = false ∧ u.hasJob (fun k => decide (k = .slotOn b)) = false),
   (0x0B04, .slotClearLatch, u.power.link = true ∧ b ≤ 47),
   (0x0B07, .feedSet, u.power.link = true ∧ b ≤ 1 ∧ 900 ≤ c.num 18 2 ∧ c.num 18 2 ≤ 1400 ∧ (b = 0 → 2 ≤ c.byte 20 ∧ c.byte 20 ≤ 50) ∧ (b = 1 → c.byte 20 =
   0)),
   (0x0E01, .timeSetEpoch, u.dev.mode ≠ .shadow ∧ u.time.sync = .free ∧ c.num 16 8 % 1024 = 0 ∧ u.epochBase.toNat ≤ c.num 16 8 ∧ c.num 16 8 < 2 ^ 64),
   (0x0E03, .timeSetRoot, b ≤ 15),
   (0x0E05, .traceSetFilter, b ≤ 15 ∧ pointValid (c.byte 17) = true),
   (0x0E06, .traceStart, u.ctr.capturing = false),
   (0x0E07, .traceStop, True)] :
   List (Nat × (Nat → Instr) × Prop)) → h → s.passes o ring = true → exec (i ring) s = s.waitsForBoundary ring) ∧
  (∀ o i h, (o, i, h) ∈ ([
   (0x0B05, .slotRead, u.power.link = true ∧ b ≤ 47),
   (0x0B06, .slotStatus, b ≤ 47),
   (0x0B08, .feedStatus, True),
   (0x0C01, .wearRead, b ≠ 0x0A ∧ c.num 18 2 < monitorInstances b),
   (0x0C02, .wearSummary, True),
   (0x0C03, .ledgerRead, n ≤ 4095 ∧ 1 ≤ c.num 18 2 ∧ c.num 18 2 ≤ 64),
   (0x0C04, .ledgerStatus, True),
   (0x0D02, .csWithdraw, u.proposal (BitVec.ofNat 16 n) = some p ∧ p.signer = none),
   (0x0D03, .csList, True),
   (0x0E04, .timeRead, True),
   (0x0E08, .traceRead, e ≤ 262143 ∧ 1 ≤ c.num 20 2 ∧ c.num 20 2 ≤ 128 ∧ u.ctr.traceOpen = false)] :
   List (Nat × (Nat → Instr) × Prop)) → h → s.passes o ring = true → ∃ r t, exec (i ring) s = s.endsWith ring stDone r t) ∧
  (∀ o i h, (o, i, h) ∈ ([
   (0x0B02, .slotOn, s.power.link = true ∧ b ≤ 47 ∧ (s.channel b).prsnt = true ∧ (s.chCopy b).code = 8),
   (0x0C05, .healthBist, True),
   (0x0C06, .healthVmin, b ≤ 1),
   (0x0E02, .timeSetSeason, 10 ≤ b ∧ b ≤ 24 ∧ s.time.newK = none)] :
   List (Nat × (Nat → Instr) × Prop)) → h → s.passes o ring = true → ∃ k f, exec (i ring) s = s.isQueued ring k f) ∧
  (s.proposal (BitVec.ofNat 16 n) = some p → p.signer = none → authorityOf ring ≠ p.authority.toNat ∧ authorityOf ring ≠ 3 → c.num 24 32 = p.digest.toNat →
  s.passes 0x0D01 ring = true → ∃ k f, exec (.countersign ring) s = .next ((mirrorProposal k f).setPending s.pending))

/-- A row whose item is due at the next tick boundary lets the beats up to it pass, and the boundary does the item. -/
def Obligations.BoundaryRowsComplete : Prop :=
  ∀ (s n : State) (ag sl pos port bed plot x st k : Nat),
  (s.fabricOn = true → s.time.running = true → s.nextTick = n → ∀ h i, (h, i) ∈ ([
   (ag < 64 ∧ (n.agent ag).lossDue = true, .lossScanStart ag),
   (n.pool.retireDue = true ∧ n.pool.retireScan = false ∧ n.passIds.isEmpty = false, .retirementPassStart),
   (n.pool.retireScan = true ∧ n.pool.retireStart + 512 ≤ n.tick, .retirementPassEnd),
   (sl < 8 ∧ pos < 512 ∧ ((n.slice sl).wbLine pos).state = .failed ∧ ((n.slice sl).wbLine pos).attempts < 4 ∧ ((n.slice sl).wbLine
   pos).since < n.tick, .writeRetry sl pos),
   (sl < 8 ∧ pos < 512 ∧ ((n.slice sl).wbLine pos).state = .failed ∧ 4 ≤ ((n.slice sl).wbLine pos).attempts ∧ ((n.slice sl).wbLine
   pos).since < n.tick, .poisonWrite sl pos),
   (port < 128 ∧ (n.port port).scanDue = true, .extentScanStart port),
   (bed < 4096 ∧ n.serving = true ∧ n.shrinkLate bed = true, .bedShrinkTimeout bed),
   (bed < 4096 ∧ n.serving = true ∧ n.resizeReady bed = true, .bedCountChange bed),
   (x < 1048576 ∧ n.serving = true ∧ n.flipReady x = true, .extentFlip x),
   (sl < 512 ∧ (n.bslice sl).frozenNow = true, .sliceFrozen sl),
   (n.pair.state = .shadow ∧ n.promotionDue = true, .promotion),
   (n.pair.switching.isSome = true ∧ n.pair.state = .active ∧ n.quiesced = true, .switchoverQuiesced),
   (n.pair.switching.any (fun b => decide (b + 4096 ≤ n.tick)) = true, .switchoverTimeout),
   (n.pair.forming.any (fun b => decide (b + 64 ≤ n.tick)) = true, .pairFormTimeout),
   (st < 16 ∧ n.pauseDue st = true, .retrainPause st),
   (n.dev.mode = .sprout ∧ n.dev.deadlineDone = false ∧ n.deadlinePassed = true, .sproutDeadline),
   (State.fallowOver n = true, .fallowFlushComplete),
   (State.fallowLate n = true, .fallowTimeout),
   ((n.dev.dormantDue = true ∨ (n.dormantWaits = true ∧ n.evcQuiet = true)), .dormantEntry),
   ((n.dev.resetDue = some .warm ∨ n.dev.resetDue = some .fabric), .resetStart),
   (n.dev.resetDue = some .steward, .stewardOnlyReset),
   ((n.proposal (BitVec.ofNat 16 k)).any (fun p => p.ready n) = true, .proposalCommit k),
   ((n.proposal (BitVec.ofNat 16 k)).any (fun p => p.expires) = true, .proposalExpiry k),
   (counterSwitchDue n = true, .counterModeSwitch),
   (True, .tickBoundary)] : List (Prop × Instr)) → h → exec i s = s.becomes (passTick s)) ∧
  (s.fabricOn = true → s.time.running = true → s.nextTick = n → plot < 512 → ∀ h i, (h, i) ∈ ([
   (n.serving = true ∧ (n.drained plot || n.drainDue plot) = true, .plotDrainComplete plot),
   (n.serving = true ∧ n.drainLate plot = true, .plotDrainTimeout plot),
   (n.serving = true ∧ (n.plot plot).state = .sanitizing ∧ n.sanitizing plot = false, .plotSanitizeComplete plot),
   (n.serving = true ∧ n.queuedReady plot = true, .plotQueuedCommandRun plot)] : List (Prop × Instr)) → h → exec i s = s.becomes (passTick s))

/-- Events of the home slices, vault banks and extent pool: the next state of each where the event stands. -/
def Obligations.HomeAndPoolEventsComplete : Prop :=
  ∀ (s : State) (port sl txn ag pos j bank job bed x plot slot st : Nat) (head : RspHead) (dpa : BitVec 64) (data : Line) (psn ok : Bool) (rec : MgmtRec),
  (port < 128 ∧ head.ld < 16 ∧ s.answerReaches port = true → ∃ t, exec (.deviceMemdata port head dpa data psn) s = .next t) ∧
  (port < 128 ∧ head.ld < 16 ∧ s.answerReaches port = true → ∃ t, exec (.deviceWriteCmp port head dpa) s = .next t) ∧
  (s.fabricOn = true → sl < 8 → ∀ h i t, (h, i, t) ∈ ([
   (True, .overflowReadmit sl, settle sl s),
   (txn < 1024 ∧ ag < 64 ∧ ag ∈ ((s.slice sl).txn txn).waiting ∧ ((s.slice sl).txn txn).snooped + s.dev.snoopTimeout.toNat ≤ s.tick, .snoopTimeout sl txn ag,
   mirrored (snoopTimedOut ag) s),
   (ag < 64 ∧ sl ∈ (s.agent ag).lossScan ∧ (s.agent ag).lossStart + 512 ≤ s.tick ∧ s.scanRuns (fun k => decide (k = .loss ag)) = false ∧ (s.slice
   sl).scanClear ag = true, .lossScanComplete sl ag, lossScanDone sl ag s),
   (pos < 512 ∧ ((s.slice sl).wbLine pos).state = .sent ∧ ((s.slice sl).wbLine pos).since + s.home.writeTimeout ≤ s.tick, .writeTimeout sl pos, writesMoved
   sl (failAttempt sl pos s)),
   (pos < 512 ∧ s.releaseHead sl pos = some j, .lineRelease sl pos, writesMoved sl (homeStage sl j s))] : List (Prop × Instr × State)) → h → exec i s = s.becomes t) ∧
  (∀ h i t, (h, i, t) ∈ ([
   (bank < 8 ∧ s.serving = true ∧ s.time.running = true, .ripenerPass bank, runUntil (fun t => s.ripened bank t || !t.serving || !t.time.running) 6144 s),
   (x < 1048576 ∧ s.memServing = true ∧ s.nextZero = some x, .zeroingStart x, zeroStart x s),
   (x < 1048576 ∧ s.memServing = true ∧ (Tab.find s.pool.zeroing x).isSome = true ∧ (!ok || s.zeroWritten x) = true, .zeroingComplete x ok, mirrored (fun t
   => if ok then zeroDone x t else zeroFails x t) s),
   (x < 1048576 ∧ s.memServing = true ∧ s.internalTurns = true ∧ s.migCopies x = true, .migCopy x, migCopyOp x s),
   (x < 1048576 ∧ s.serving = true ∧ (Tab.find s.pool.defining x).any (fun d => decide (d.2 + 32 ≤ s.tick)) = true, .extentDefineScanComplete x, mirrored
   (defineScanned x) s),
   (plot < 512 ∧ slot < 8 ∧ s.serving = true ∧ s.pool.remoteMaps.any (fun r => decide (r.plot = plot ∧ r.slot = slot) && s.mapLate r) = true,
   .remoteMapTimeout plot slot, mapTimeout plot slot s),
   (st < 16 ∧ s.hears st = true, .mgmtRecord st rec, recordFlit st rec s)] : List (Prop × Instr × State)) → h → exec i s = s.becomes t) ∧
  (s.fabricOn = true → ∀ h i t, (h, i, t) ∈ ([
   (s.flushEnded job = true ∧ s.hasJob (fun k => decide (k = .flush job)) = true, .vaultFlushComplete job, flushDone job s),
   (bed < 4096 ∧ s.policyScanned bed = true, .policyScanComplete bed, finishJob (.policy bed) stDone [] (s.modBed bed (fun b =>
   { b with policyScan := [] })))] : List (Prop × Instr × State)) → h → exec i s = s.becomes t)

/-- Events of ports: the next state of each, on every port or vPPB where it can happen. -/
def Obligations.PortAndLaneEventsComplete : Prop :=
  ∀ (s : State) (port ld vppb ix ways gran po plot bl n : Nat) (r : DeviceReport) (f : Discovery) (rate : BitVec 3) (v : BitVec 32) (base size db : BitVec
  64) (clear cxl flit : Bool) (tlp : Tlp) (wd : BitVec 4),
  (s.fabricOn = true → port < 128 → ∀ h i t, (h, i, t) ∈ ([
   ((s.port port).upstream = true ∧ (s.port port).inL0 = true, .upstreamLinkDown port, mirrored (upstreamDown port false) s),
   ((s.port port).upstream = true ∧ s.mayReturn port = true, .upstreamLinkReturn port, s.modPort port (fun p => { p with held := false, ltssm := .polling })),
   ((s.port port).downstream = true ∧ (s.port port).inL0 = true, .downstreamLinkDown port, downstreamDown port .detect s),
   (s.scanOver port = true, .extentScanComplete port, s.modPort port (fun p => { p with scanning := false })),
   ((s.port port).upstream = true ∧ (s.port port).inL0 = true, .hostViral port, mirrored (takeLinkDown port) s),
   ((s.port port).may128 = true, .cxl128Attempt port, attempt128 port s),
   ((s.port port).pending128 = true ∧ rate.toNat < 6, .cxl128Failed port rate, s.modPort port (fun p =>
   { p with pending128 := false, failed128 := true, ltssm := .L0, rate := rate })),
   ((s.port port).upstream = true ∧ (s.port port).inL0 = true ∧ s.dev.retryStatus = true, .configRequestRetry port, s.modPort port (fun p =>
   { p with cfgRetries := p.cfgRetries + 1 })),
   ((s.port port).upstream = true ∧ (s.port port).inL0 = true ∧ ((s.port port).ide = 1 ∨ (s.port port).ide = 2), .ideFailure port, ideFails port s),
   (((s.port port).upstream = true ∨ (s.port port).downstream = true) ∧ (s.port port).inL0 = false ∧ (s.port port).held = false ∧ (s.port port).ltssm ≠
   .detect ∧ (s.port port).ltssm ≠ .disabled, .loopbackRequest port, s.modPort port (fun q => { q with ltssm := .loopback })),
   ((s.port port).upstream = true ∧ (s.port port).inL0 = true ∧ (s.port port).held = false ∧ (s.port port).ltssm ≠ .detect ∧ (s.port port).ltssm ≠ .disabled,
   .loopbackRequest port, (upstreamDown port false s).modPort port (fun q => { q with ltssm := .loopback })),
   ((s.port port).upstream = false ∧ (s.port port).downstream = true ∧ (s.port port).inL0 = true ∧ (s.port port).held = false ∧ (s.port port).ltssm ≠ .detect
   ∧ (s.port port).ltssm ≠ .disabled, .loopbackRequest port, (downstreamDown port .loopback s).modPort port (fun q => { q with ltssm := .loopback })),
   ((s.port port).mayL0p rate wd cxl flit = true, .portReachesL0 port rate wd cxl flit, changeL0p port wd s),
   (s.mayTrain port = true ∧ (s.port port).ltssm ≠ .L0 ∧ (s.port port).ltssm ≠ .L0s ∧ (s.port port).mayRun s.dev.retryStatus rate wd cxl flit = true,
   .portReachesL0 port rate wd cxl flit, reachL0 port rate wd cxl flit s),
   ((s.port port).l0sLink = true ∧ (s.port port).ltssm = .L0 ∧ s.depth port = 0 ∧ (s.port port).lastTx + 6 ≤ s.tick, .l0sEntry port, s.modPort port (fun p =>
   { p with l0sTx := true, ltssm := .L0s })),
   ((s.port port).l0sTx = true, .l0sExit port, s.modPort port (fun p =>
   { p with l0sTx := false, ltssm := .L0, lastTx := s.tick, exitSent := p.exitSets (s.portFts port).toNat }))] : List (Prop × Instr × State)) → h → exec i s = s.becomes t) ∧
  (port < 128 → s.deviceReaches port = true → ∀ h i t, (h, i, t) ∈ ([
   (ld < 16, .deviceErrorReport port ld r, failReported port ld r s),
   (ld < 16, .deviceViral port ld, deviceViral port ld s),
   ((s.port port).advRead = false, .portDiscovery port f, discover port f s),
   (ld < 16 ∧ (s.port port).dcd = true, .addCapacityEvent port ld bl n, s.modPort port (fun p => { p with dcBlocks := p.dcBlocks ++ [(ld, bl, n)] })),
   (ld < 16 ∧ (s.port port).dcd = true, .releaseCapacityRequest port ld bl n, s.modPort port (fun p =>
   { p with dcBlocks := cutBlocks ld bl n ((s.coverers port ld bl n).map (fun i => (s.extent i).place.dpaBase.toNat)) p.dcBlocks })),
   (ld < 16 ∧ (s.port port).dcd = true, .forcedRelease port ld bl n, forceRelease port ld bl n s)] : List (Prop × Instr × State)) → h → exec i s = s.becomes t) ∧
  (∀ h i t, (h, i, t) ∈ ([
   (port < 128 ∧ s.configReaches port = true, .yalkelDvsecWrite port v, writePartner128 port v s),
   (port < 128 ∧ vppb < 17 ∧ ix < 4 ∧ s.configReaches port = true, .hdmDecoderCommit port vppb ix base size ways gran db po, commitDecoder port vppb ix
   { base := base, size := size, w := ways, g := gran, dpaBase := db, position := po % 2 ^ ways } s),
   (port < 128 ∧ plot < 512 ∧ s.ioReaches port = true ∧ (s.plot plot).state ≠ .free ∧ (s.plot plot).port.toNat = port ∧ (s.ring 15).waiting < 256,
   .hostCxlReset port plot clear, hwCommand opPlotReset plot (bit clear) (s.modPlot plot (fun p => { p with resetError := false }))),
   (port < 128 ∧ (s.deviceReaches port = true ∨ s.configReaches port = true) ∧ s.queueRoom (port / 8) clsIo = true, .passThroughTlp port tlp, passTlp port
   tlp s)] : List (Prop × Instr × State)) → h → exec i s = s.becomes t)

/-- Events of lanes: the next state of each, on every lane where it can happen. -/
def Obligations.LaneEventsComplete : Prop :=
  ∀ (s : State) (lane p errors : Nat) (on : Bool) (lf ri : BitVec 6) (tp bo : BitVec 7),
  (s.fabricOn = true → lane < 256 → ∀ h i t, (h, i, t) ∈ ([
   (s.portOfLane lane = some p ∧ (s.port p).upstream = true ∧ (s.port p).inL0 = true, .laneMarginingRequest lane on, (if on then abortScan lane else id)
   (s.modLane lane (fun l => { l with margining := on }))),
   ((s.lane lane).los = false, .laneLos lane, laneFaultSeen lane false s),
   ((s.lane lane).lol = false, .laneLol lane, laneFaultSeen lane true s),
   ((s.lane lane).marginStatus = 3 ∧ lf.toNat ≤ 32 ∧ ri.toNat ≤ 32 ∧ tp.toNat ≤ 64 ∧ bo.toNat ≤ 64, .eyeScanComplete lane lf ri tp bo, if s.laneInL0 lane
   then scanEnds lane lf ri tp bo s else abortScan lane s),
   ((s.lane lane).los = true, .losDeassert lane, s.modLane lane (fun x => { x with los := false })),
   ((s.lane lane).lol = true, .lolDeassert lane, s.modLane lane (fun x => { x with lol := false }))] : List (Prop × Instr × State)) → h → exec i s = s.becomes t) ∧
  (∀ h i t, (h, i, t) ∈ ([
   (lane < 256 ∧ s.checking lane = true ∧ (s.lane lane).prbsLock = false, .prbsLock lane, s.modLane lane (fun l => { l with prbsLock := true })),
   (lane < 256 ∧ s.checking lane = true ∧ (s.lane lane).prbsLock = true, .prbsLockLost lane errors, s.modLane lane (fun l =>
   { l with prbsLock := false, prbsErrors := satAdd l.prbsErrors errors }))] : List (Prop × Instr × State)) → h → exec i s = s.becomes t)

/-- Every mailbox command of the host of an ACTIVE, DRAINING or SANITIZING plot is answered. -/
def Obligations.MailboxCommandsComplete : Prop :=
  ∀ (s : State) (plot slot log : Nat) (sets hs : List Nat) (o : BitVec 16),
  (plot < 512 → s.mailReaches plot = true → ∀ h i t, (h, i, t) ∈ ([
   (True, .identifyMemoryDevice plot, mailAnswer plot (.identity (s.deviceSerial plot)) s),
   (True, .getDynamicCapacityConfiguration plot, mailAnswer plot (.regions ((List.range 8).map (s.region plot))) s),
   (True, .getDynamicCapacityExtentList plot, mailAnswer plot (.extents ((List.range 8).flatMap (s.slotExtents plot))) s),
   (slot < 8 ∧ (s.plot plot).state = .active ∧ ((s.plot plot).slot slot).valid = true, .addDynamicCapacityResponse plot slot sets, mirrored (addResponse plot
   slot sets) s),
   (slot < 8 ∧ ((s.plot plot).slot slot).valid = true, .releaseDynamicCapacity plot slot sets, mirrored (releaseCapacity plot slot sets) s),
   (True, .getEventRecords plot log, mailAnswer plot (.records (if log = capacityLog then (s.plot plot).events else [])) s),
   (True, .clearEventRecords plot log hs, mailAnswer plot .success (s.modPlot plot (fun p =>
   { p with events := if log = capacityLog then p.events.filter (fun e => !hs.contains e.handle) else p.events }))),
   (True, .getSupportedLogs plot, mailOpen plot s),
   (True, .getLog plot log, mailOpen plot s),
   (True, .getPoisonList plot, mailAnswer plot (.poison (s.poisonList plot) s.ledger.wrapped) s),
   (True, .unsupportedMailboxCommand plot o, mailAnswer plot .unsupported s)] : List (Prop × Instr × State)) → h → exec i s = s.becomes t)

/-- Submissions, descriptor steps, completions, saves, restores and SLC_CONTROL writes: the next state of each. -/
def Obligations.BarrowEventsComplete : Prop :=
  ∀ (s : State) (port off len sl : Nat) (df ok : Bool) (pa : Option Nat) (data : BitVec 512) (v : BitVec 64) (sts : CplStatus) (data2 : List Byte),
  (∀ h i t, (h, i, t) ∈ ([
   (port < 128 ∧ s.ioReaches port = true, .submission port off len df pa data, tlpInside port xbarBarrow (.submission off len df pa data) s)] : List (Prop × Instr × State)) → h → exec i s = s.becomes t) ∧
  (s.fabricOn = true → sl < 512 → ∀ h i t, (h, i, t) ∈ ([
   ((s.bslice sl).mayStart = true, .descriptorStart sl, startDescriptor sl s),
   ((s.bslice sl).runOver = true, .descriptorComplete sl, descriptorDone sl s),
   ((s.bslice sl).readSince.any (fun n => decide (n + 16 ≤ s.tick)) = true, .barrowHostReadTimeout sl, hostCompletion sl .timeout [] s),
   ((s.bslice sl).images true = true ∧ s.tlpWaits sl = false, .sliceSaveComplete sl ok, if ok then imageEnds sl stDone 1 s else imageEnds sl stFaulted 5 s),
   ((s.bslice sl).images false = true ∧ (ok = true → (s.bslice sl).job.any (fun j => decide (j.image.length = 4096)) = true), .sliceRestoreComplete sl ok,
   restoreEnds sl ok s),
   (s.queueRoom (s.answerPort sl / 8) clsIo = true ∧ ((s.bslice sl).hostWaits.isSome = true ∨ (s.bslice sl).restoreWaits = true), .barrowHostCompletion sl
   sts data2, tlpInside (s.answerPort sl) xbarBarrow (.hostCompletion sl sts data2) s)] : List (Prop × Instr × State)) → h → exec i s = s.becomes t) ∧
  (sl < 512 → ∀ h i t, (h, i, t) ∈ ([
   (s.turnOf sl 1 = true, .copy sl, barrowTurn sl s),
   (s.turnOf sl 2 = true, .fill sl, barrowTurn sl s),
   (s.turnOf sl 3 = true, .compare sl, barrowTurn sl s),
   (s.turnOf sl 4 = true, .crc sl, barrowTurn sl s),
   (s.turnOf sl 5 = true, .atomic sl, barrowTurn sl s)] : List (Prop × Instr × State)) → h → exec i s = s.becomes t) ∧
  (port < 128 → s.barReaches port sl = true → ∀ h i t, (h, i, t) ∈ ([
   (sl < 512, .slcControlFreezeComplete port sl, tlpInside port xbarBarrow (.control sl 0x02) s),
   (sl < 512, .slcControlFreezeBoundary port sl, tlpInside port xbarBarrow (.control sl 0x04) s),
   (sl < 512, .slcControlThaw port sl, tlpInside port xbarBarrow (.control sl 0x08) s),
   (sl < 512, .slcControlReset port sl, tlpInside port xbarBarrow (.control sl 0x10) s),
   (sl < 512, .slcControlClearFault port sl, tlpInside port xbarBarrow (.control sl 0x20) s),
   (sl < 512, .slcControlSave port sl, tlpInside port xbarBarrow (.control sl 0x40) s),
   (sl < 512, .slcControlRestore port sl, tlpInside port xbarBarrow (.control sl 0x80) s),
   (sl < 512 ∧ (slcActs v).length ≠ 1, .slcControlMalformed port sl v, tlpInside port xbarBarrow (.control sl v) s)] : List (Prop × Instr × State)) → h → exec i s = s.becomes t)

/-- Pairing, mirror records, resync and sweep ends, handoff and PAIR_ALIVE: the next state of each. -/
def Obligations.PairEventsComplete : Prop :=
  ∀ (s : State) (st table ix rec set way pos pl un sl bed : Nat) (ser tag : BitVec 48) (dv : BitVec 4) (gen mseq : BitVec 32) (pinPromote psn : Bool) (head :
  MirrorHead) (im : BitVec 1024) (pn : BitVec 16) (en : BitVec 64) (data : Line),
  (s.fabricOn = true → ∀ h i t, (h, i, t) ∈ ([
   (st < 16 ∧ (s.trunk st).state = .up, .pairRequest st ser dv gen pinPromote, pairAt (.request st ser dv gen pinPromote) s),
   (True, .config head table ix im, recordArrives { head := head, body := .config table ix im } s),
   (True, .commit head pn rec, recordArrives { head := head, body := .commit pn rec } s),
   (set < 65536 ∧ way < 16, .dir head set way en, recordArrives { head := head, body := .dir set way en } s),
   (set < 65536 ∧ way < 16, .vaultDirty head set way tag data, recordArrives { head := head, body := .vaultDirty set way tag data } s),
   (set < 65536 ∧ way < 16, .vaultClean head set way, recordArrives { head := head, body := .vaultClean set way } s),
   (pos < 512, .wbPending head pos pl psn data, recordArrives { head := head, body := .wbPending pos pl psn data } s),
   (pos < 512, .wbDone head pos, recordArrives { head := head, body := .wbDone pos } s),
   (un < 9, .ack un mseq, recordArrives { head := { unit := un }, body := .ack mseq } s),
   ((s.resyncOver = true ∨ (s.pair.state = .syncing ∧ (List.range 9).all (fun u => (s.munit u).rxWait.isEmpty) = true)), .resyncComplete, resyncComplete s),
   (un < 9, .mirrorLagExceeded un, mirrorLagOp un s),
   (sl < 8 ∧ bed < 4096 ∧ s.sweepOver sl bed = true, .asyncSweepComplete sl bed, sweepDone sl s),
   (s.pair.state = .shadow, .handoff gen, pairAt (.handoff gen) s),
   (True, .pairAliveEdge, aliveEdge s),
   (s.pair.pinAlive = true ∧ s.pair.pinEdge + 32 ≤ s.tick, .pairAliveStopped, aliveStopped s)] : List (Prop × Instr × State)) → h → exec i s = s.becomes t)

/-- Trunk timeouts of bring-up and retrain, and lane idle: the next state of each. -/
def Obligations.TrunkEventsComplete : Prop :=
  ∀ (s : State) (st vc locked : Nat),
  (s.fabricOn = true → st < 16 → ∀ h i t, (h, i, t) ∈ ([
   ((s.trunk st).state = .hello ∧ (s.trunk st).since + 4096 ≤ s.tick ∧ (s.trunk st).waitFrom.isNone = true ∧ (s.trunk st).helloDone = false, .helloTimeout
   st, s.modTrunk st (fun x => { x with waitFrom := some s.tick })),
   ((s.trunk st).state = .step ∧ (s.trunk st).stepTick + 256 ≤ s.tick, .speedStepTimeout st, stepFails st s),
   ((s.trunk st).state = .up ∧ (s.trunk st).holes.any (fun h => decide (h.2 + 512 ≤ s.time.beats)) = true, .nakResend st, sendNak st s),
   ((s.trunk st).state = .up ∧ (s.trunk st).ackBeat + 2048 ≤ s.time.beats ∧ (s.trunk st).replay.isEmpty = false, .replayTimeout st, replayAll st s),
   ((s.trunk st).acked = false ∧ ((s.trunk st).state = .up ∨ (s.trunk st).state = .retrain) ∧ (s.trunk st).request.any (fun q => decide (q.2.2.2 + (s.trunk
   st).requestSent ≤ s.tick)) = true, .retrainRequestRepeat st, repeatRequest st s),
   ((s.trunk st).state = .retrain ∧ (s.trunk st).since + 31 < s.tick, .retrainTimeout st, breakTrunk st 5 s),
   ((s.trunk st).state = .up ∧ (s.trunk st).lastGood + 16 ≤ s.tick, .trunkSilence st, breakTrunk st 2 s),
   (vc < 8 ∧ controlVc vc = true ∧ s.flitWaits st vc = true ∧ (s.trunk st).state = .up ∧ Tab.get (s.trunk st).avail 0 vc = 0 ∧ 0 < (Tab.get (s.trunk
   st).stallTick 0 vc) ∧ (Tab.get (s.trunk st).stallTick 0 vc) + 3 ≤ s.tick, .controlCreditStall st vc, breakTrunk st 1 s),
   ((s.trunk st).entry.autoRestart = true ∧ (s.trunk st).state = .broken ∧ (s.trunk st).since + 1024 ≤ s.tick, .trunkAutoRestart st, startHello st s),
   ((s.trunk st).state = .up ∧ (s.trunk st).idle = false ∧ s.trunkQuiet st = true ∧ (s.idleCount st).any (fun n => decide ((s.trunk st).lastTx + n ≤
   s.time.beats)) = true, .laneIdleEntry st, s.modTrunk st (fun x =>
   { x with idle := true, idleBeat := s.time.beats, wakeBeat := none, burst := sleepMarker })),
   (s.wakeDue st = true, .laneIdleExit st, startWake st s),
   ((s.trunk st).state = .hello ∧ (s.trunk st).waitFrom.any (fun w => decide (w + 1024 ≤ s.tick)) = true, .helloWaitEnd st, startHello st s),
   ((s.trunk st).state = .hello ∧ (s.trunk st).helloTick + 64 ≤ s.tick ∧ (s.trunk st).helloDone = true, .furtherHellosDone st, startStep st 0 s),
   ((s.trunk st).state = .retrain ∧ (s.trunk st).lanesDone = false, .retrainEnd st locked, lanesTrained st locked s)] : List (Prop × Instr × State)) → h → exec i s = s.becomes t)

/-- Hellos, training patterns and flits of a trunk: the next state of each. -/
def Obligations.TrunkFlitsComplete : Prop :=
  ∀ (s : State) (st lane n : Nat) (he : List (BitVec 10)) (good isAck : Bool) (hdr : LinkHeader) (dv flitType : BitVec 4) (ser : BitVec 48) (expLess1 :
  BitVec 12) (free : List Nat) (check : FlitCheck) (msgs : List TrunkMsg) (rec : List NakRecord) (ret : List (BitVec 16)) (kind mode wd rate : BitVec 8) (t1
  t2 t3 stamp flags : BitVec 64) (reason : BitVec 3),
  (s.fabricOn = true → st < 16 → ∀ h i t, (h, i, t) ∈ ([
   (lane < 256 ∧ (s.trunk st).state = .hello ∧ (s.trunk st).waitFrom.isNone = true ∧ (s.lane lane).loop = 0 ∧ ((s.port (s.trunkPort st)).lanes (s.trunkPort
   st)).contains lane = true, .trunkHello st lane he, helloOp st lane he s),
   (lane < 256 ∧ (s.trunk st).state = .step ∧ (s.lane lane).loop = 0 ∧ ((s.port (s.trunkPort st)).lanes (s.trunkPort st)).contains lane = true, .trunkTrain
   st lane good, trainOp st lane good s),
   (s.lolSeen st = false ∧ ((s.trunk st).state = .init ∨ ((s.trunk st).state = .retrain ∧ (s.trunk st).lanesDone = true)), .trunkInit st hdr dv ser expLess1
   free, initArrives st hdr dv ser expLess1 free s)] : List (Prop × Instr × State)) → h → exec i s = s.becomes t) ∧
  (∀ h i t, (h, i, t) ∈ ([
   (st < 16 ∧ s.linked st = true, .trunkData st hdr check msgs, dataArrives st hdr check msgs s),
   (st < 16 ∧ s.linked st = true, .trunkNull st hdr flitType check, nullArrives st hdr flitType check s)] : List (Prop × Instr × State)) → h → exec i s = s.becomes t) ∧
  (st < 16 → s.hears st = true → ∀ h i t, (h, i, t) ∈ ([
   (1 ≤ n ∧ n ≤ 16 ∧ ((otherFlit st hdr s).trunk st).state = .up, .trunkNak st hdr n rec, nakOp st (rec.take n) (otherFlit st hdr s)),
   (True, .trunkAudit st hdr ret, forEach (List.range 8) (fun vc u => if vc = 1 then u else auditVc st vc ((ret[vc]?).getD (Tab.get (u.trunk st).received 0
   vc)) u) (otherFlit st hdr s)),
   (True, .trunkTime st hdr kind t1 t2 t3, timeArrives st hdr kind t1 t2 t3 s),
   (True, .trunkHeartbeat st hdr dv mode ser stamp flags, heartArrives st hdr dv mode ser flags s),
   (True, .trunkRetrainRequest st hdr isAck wd rate reason, retrainArrives st hdr isAck wd rate reason s)] : List (Prop × Instr × State)) → h → exec i s = s.becomes t)

/-- Accesses of the harts, register writes, the bridge, QSPI, watchdog and boot: the next state of each. -/
def Obligations.BridgeAndStewardEventsComplete : Prop :=
  ∀ (s : State) (hart size slot sm port : Nat) (store kind : Bool) (ad data v : BitVec 64) (fn : BitVec 5) (sts : CplStatus) (rq vn : BitVec 16) (data2 pl :
  List Byte) (id : Byte) (hd : BitVec 128) (v2 : BitVec 32) (ia ib : Option BootImage) (wr : RegWriter),
  (hart < 4 → ∀ h i t, (h, i, t) ∈ ([
   (size < 9 ∧ s.steward.inReset = false ∧ inRings ad = true ∧ ringAligned ad size = true, .tellerAccess hart store ad size data, tellerAccess hart store ad
   size data s),
   (size < 9, .bridgeLoad hart ad size, hartLoad hart ad size s),
   (size < 9, .bridgeStore hart ad size data, hartWrite hart ad size data s),
   (size < 9, .bridgeConfigWrite hart ad size data, hartMemory hart ad size true (fun a => storeAt ad hart a size data) s),
   (size < 9, .bridgeLr hart ad size, hartMemory hart ad size false (fun a => lrAt ad hart a size) s),
   (size < 9, .bridgeSc hart ad size data, hartMemory hart ad size true (fun a => scAt ad hart a size data) s),
   (size < 9, .bridgeAmo hart ad size fn data, hartMemory hart ad size true (fun a => amoAt ad hart a size fn data) s),
   (wr = .hart hart ∧ size < 9, .registerWrite wr ad size v, registerWrite wr ad size v s)] : List (Prop × Instr × State)) → h → exec i s = s.becomes t) ∧
  (s.fabricOn = true → ∀ h i t, (h, i, t) ∈ ([
   (slot < 16 ∧ (Tab.find s.bridge.slots slot).isSome = true ∧ (s.port ((Tab.get s.bridge.slots {} slot).port)).inL0 = true ∧ s.queueRoom (((Tab.get
   s.bridge.slots {} slot).port) / 8) clsIo = true, .bridgeCompletion slot sts data, tlpInside ((Tab.get s.bridge.slots {} slot).port) xbarBridge
   (.completion slot sts data) s),
   (slot < 16 ∧ (Tab.get s.bridge.slots {} slot).result.isSome = true ∧ (Tab.get s.bridge.slots {} slot).arrived + s.bridge.discard.toNat ≤ s.tick,
   .delayedReadDiscard slot, discardOp slot s),
   (slot < 16 ∧ (Tab.find s.bridge.slots slot).isSome = true ∧ (Tab.get s.bridge.slots {} slot).result.isNone = true ∧ (Tab.get s.bridge.slots {} slot).sent
   + s.bridge.cplTimeout.toNat ≤ s.tick, .bridgeCplTimeout slot, resultArrives slot .timeout 0 s),
   (sm < 16 ∧ (Tab.find s.bridge.semaphores sm).any (fun x => decide (x.since + 63 ≤ s.tick)) = true, .semaphoreTimeout sm, raise 300 (s.modBridge (fun b =>
   { b with semaphores := Tab.drop b.semaphores sm, semReleases := satAdd b.semReleases 1 }))),
   (hart < 4 ∧ 0 < (Tab.get s.bridge.semWaits 0 hart) ∧ (Tab.get s.bridge.semWaits 0 hart) - 1 + 8 ≤ s.tick, .semaphoreWaitTimeout hart, completeToHart hart
   cplError 0x02 (semClear hart s)),
   (port < 128 ∧ (s.port port).downstream = true ∧ (s.port port).inL0 = true ∧ s.queueRoom (port / 8) clsIo = true, .inboundWrite port rq ad data2,
   inboundWriteOp port rq ad data2 s),
   (port < 128 ∧ (s.port port).inL0 = true ∧ ((s.port port).upstream = false ∨ s.dev.retryStatus = false) ∧ s.queueRoom (port / 8) clsIo = true,
   .inboundMessage port kind vn id rq hd pl, tlpInside port xbarBridge (.message kind vn id rq hd pl) s),
   (s.steward.wdtEnable = true ∧ s.steward.wdtStart + 1024 * s.steward.wdtTimeout.toNat ≤ s.tick, .watchdogExpiry, raise 304 (stewardReset s)),
   (s.steward.inReset = true ∧ 4 ≤ s.dev.stage.toNat, .stewardBoot ia ib, stewardBootOp ia ib s)] : List (Prop × Instr × State)) → h → exec i s = s.becomes t) ∧
  (∀ h i t, (h, i, t) ∈ ([
   (True, .brgTxSend v, hartAccess chRequest 0 true 0x20093000 8 v (fun t => completeToHart 0 cplDone 0 (sendMessage v t)) s),
   (s.steward.inReset = false, .qspiTransfer v2, qspiWrite (v2 ||| 1) s),
   (s.steward.inReset = false ∧ s.steward.qspiCmd.getLsbD 0 = true, .qspiTransferDone data2, qspiDone data2 s),
   (s.steward.inReset = false, .watchdogKick, wdtKick s),
   (s.steward.inReset = false, .watchdogEnable, wdtEnable s),
   (wr = .host port ∧ port < 128 ∧ size < 9, .registerWrite wr ad size v, registerWrite wr ad size v s),
   ((wr = .jtag ∨ wr = .countersign) ∧ size < 9, .registerWrite wr ad size v, registerWrite wr ad size v s)] : List (Prop × Instr × State)) → h → exec i s = s.becomes t)

/-- VAUX, package reset, fabric release, records, BIST, wake and the quiet wait: the next state of each. -/
def Obligations.ResetAndModeEventsComplete : Prop :=
  ∀ (s : State) (pr : List Nat) (goodA goodB : Bool) (bad : BitVec 5) (fl : List (Nat × Nat)) (src : WakeSource),
  (∀ h i t, (h, i, t) ∈ ([
   (s.dev.vaux = false, .vauxPowerOn pr goodA goodB, vauxPowerOn pr goodA goodB s),
   (s.dev.vaux = true, .vauxLoss, vauxLoss s),
   (s.dev.vaux = true ∧ s.dev.pkgReset = false, .pkgResetAssert pr, pkgReset pr s),
   (s.dev.vaux = true ∧ s.power.ready = true ∧ s.dev.inReset = true, .fabricResetRelease, releaseFabric s),
   (s.dev.mode = .dormant ∧ s.dev.inReset = false, .wake src, wakeOp s)] : List (Prop × Instr × State)) → h → exec i s = s.becomes t) ∧
  (s.fabricOn = true → ∀ h i t, (h, i, t) ∈ ([
   (s.dev.recordsDue = true, .recordsLoaded bad, recordsLoadedOp bad s),
   (s.dev.stage = 4 ∧ s.dev.bistDone = false ∧ s.dev.bistFail = false, .bistResult fl, s.modDev (fun d => { d with bistWait := some fl })),
   (s.dormantWaits = true ∧ s.evcQuiet = false ∧ s.dev.transition.any (fun t => decide (t.started + 64 ≤ s.tick)) = true, .dormantQuietTimeout, quietTimeout
   s)] : List (Prop × Instr × State)) → h → exec i s = s.becomes t)

/-- Power-link frames and the events of slot channels and feeds: the next state of each. -/
def Obligations.PowerEventsComplete : Prop :=
  ∀ (s : State) (ix ad : Byte) (v : BitVec 24) (ok : Bool) (slot ch sh : Nat) (a b vout : BitVec 12) (ad2 : BitVec 16) (data : List Byte) (feed fd : Feed),
  (s.fabricOn = true → ∀ h i t, (h, i, t) ∈ ([
   (s.registerFree 1 ix.toNat ad.toNat v = true, .powerLinkRegisterWrite ix ad v ok, writeFrameOp ix.toNat ad.toNat v ok s),
   (s.registerFree 2 ix.toNat ad.toNat 0 = true, .powerLinkRegisterRead ix ad ok, readFrameOp ix.toNat ad.toNat ok s),
   (s.wearFree 6 ad2.toNat [] = true, .wearBookRead ad2 ok, wearReadOp ad2.toNat ok s),
   (s.wearFree 7 ad2.toNat (data.take 4) = true, .wearBookWrite ad2 data ok, wearWriteOp ad2.toNat data ok s),
   (s.power.link = true, .powerLinkResend, resendOp s),
   (s.power.link = false ∧ s.power.probeTick + 1024 ≤ s.tick, .powerLinkProbe, probeOp s),
   (ch < 48 ∧ (s.chCopy ch).pg = true ∧ (s.chCopy ch).perst = true ∧ (s.chCopy ch).pgTick + 97657 ≤ s.tick, .perstRelease ch, releasePerst ch s),
   (ch < 48 ∧ (s.chCopy ch).pg = true ∧ (s.channel ch).pg = false, .pgFall ch, pgFallOp ch s)] : List (Prop × Instr × State)) → h → exec i s = s.becomes t) ∧
  (s.powerOn = true → ∀ h i t, (h, i, t) ∈ ([
   (s.answerFree = true, .powerLinkResponse ix ad v ok, responseOp ix.toNat ad.toNat v ok (useAnswer s)),
   (slot < 4 ∧ s.itemFree slot = true, .powerLinkTelemetry slot a b ok, telemetryOp slot a b ok s),
   (s.answerFree = true ∧ s.power.responses.isEmpty = true, .powerLinkAlarm ok, alarmOp ok (useAnswer s)),
   ((s.power.feed feed).bad = false, .feedBad feed, feedBadOp feed s),
   ((s.power.feed feed).good = false, .feedGood feed, feedGoodOp feed s),
   (s.power.switchingTo.isNone = true ∧ s.power.selected = 1 ∧ s.power.feedA.good = true ∧ s.power.feedA.goodSince + 1000000 ≤ s.sample, .feedReturnToA,
   openFeed .A s),
   (s.power.switchingTo = some fd ∧ s.power.switchSince + s.power.feedA.dead.toNat ≤ s.sample, .feedDeadTimeEnd, deadTimeEnds fd s)] : List (Prop × Instr × State)) → h → exec i s = s.becomes t) ∧
  (ch < 48 → s.powerOn = true → ∀ h i t, (h, i, t) ∈ ([
   (True, .chCtrlOn ch, onOp ch s),
   (True, .chCtrlOff ch, offOp ch s),
   (True, .chCtrlClearLatch ch, clearLatchOp ch s),
   ((s.channel ch).prsnt = false, .presenceDetect ch, presenceDetectOp ch s),
   ((s.channel ch).state = .debounce ∧ (s.channel ch).since + 100000 ≤ s.sample, .debounceComplete ch, debounceOp ch s),
   ((s.channel ch).prsnt = true ∧ (s.channel ch).retryDue s.sample = true, .presenceBounce ch, rampOrWait ch s),
   ((s.channel ch).prsnt = true, .presenceLost ch, presenceLostOp ch s),
   ((s.channel ch).state = .delay ∧ (s.channel ch).delayOver = false ∧ (s.channel ch).since + 1000000 ≤ s.sample, .insertionDelayEnd ch, rampOrWait ch s),
   ((s.channel ch).state = .ramp ∧ s.voutReached vout.toNat = true, .rampReached ch vout, chChange ch (fun x =>
   { x with state := .qualify, since := s.sample, qualSince := s.sample }) s),
   (s.qualified (s.channel ch) = true, .qualifyComplete ch, chChange ch (fun x =>
   { x with state := .on, pg := true, pgSince := some s.sample, since := s.sample }) s),
   ((s.channel ch).timerOver s.sample = true, .faultTimerExpiry ch, tripOp ch 1 s),
   ((s.channel ch).driven = true ∧ 2 * (s.channel ch).limit.toNat < sh, .fastTrip ch sh, tripOp ch 2 s),
   ((s.channel ch).state = .ramp ∧ (s.channel ch).since + s.rampLimit (s.channel ch) ≤ s.sample, .rampTimeout ch, tripOp ch 3 s),
   ((s.channel ch).state = .ramp ∧ (s.channel ch).since + (s.channel ch).grise.toNat * 1000 ≤ s.sample, .gateRiseTimeout ch, gateFaultOp ch s),
   ((s.channel ch).retryDue s.sample = true, .retryIntervalEnd ch, rampOrWait ch s),
   ((s.channel ch).state = .on ∧ ((s.channel ch).pgSince.any (fun t => decide (t + 60000000 ≤ s.sample))) = true, .pgHeld60s ch, chChange ch (fun x =>
   { x with retriesLeft := x.retries }) s),
   ((s.channel ch).canStick = true, .stuckOn ch, stuckOnOp ch s)] : List (Prop × Instr × State)) → h → exec i s = s.becomes t)

/-- Host requests, snoop answers, the atomic aperture, a tail status and a cell match: the next state of each. -/
def Obligations.HostRequestsComplete : Prop :=
  ∀ (s : State) (port vppb size st plot : Nat) (hpa mask off : BitVec 64) (mf : MetaField) (mv : MetaValue) (snpNoOp nt psn good : Bool) (data : Line) (op :
  AtomOp) (a b : BitVec 128) (tag : BitVec 12),
  (port < 128 → s.requestReaches port false = true → ∀ h i t, (h, i, t) ∈ ([
   (True, .memrd port hpa mf mv snpNoOp, hostRequest { port := port, hpa := hpa, op := .memRd, metaField := mf, metaValue := mv } (readable mf mv snpNoOp) s),
   (True, .memrddata port hpa snpNoOp, hostRequest { port := port, hpa := hpa, op := .memRdData, metaValue := .S } snpNoOp s),
   (True, .meminv port hpa mf mv snpNoOp nt, hostRequest { port := port, hpa := hpa, op := .memInv, metaField := mf, metaValue := mv } (cleanable mf mv
   snpNoOp) s)] : List (Prop × Instr × State)) → h → exec i s = s.becomes t) ∧
  (port < 128 → ∀ h i t, (h, i, t) ∈ ([
   (s.requestReaches port true = true, .memwr port hpa mf mv snpNoOp data psn, hostRequest
   { port := port, hpa := hpa, op := .memWr, metaField := mf, metaValue := mv, data := data, mask := fullMask, poison := psn } (writable mf mv snpNoOp) s),
   (s.requestReaches port true = true, .memwrptl port hpa mf mv snpNoOp data mask psn, hostRequest
   { port := port, hpa := hpa, op := .memWrPtl, metaField := mf, metaValue := mv, data := data, mask := mask, poison := psn } (writable mf mv snpNoOp) s),
   (s.memReaches port clsResponse = true, .biconflict port hpa, hostAnswer port hpa .biConflict s),
   (s.memReaches port clsResponse = true, .birspi port hpa, hostAnswer port hpa .rspI s),
   (s.memReaches port clsResponse = true, .birsps port hpa, hostAnswer port hpa .rspS s),
   (s.memReaches port clsResponse = true, .birspe port hpa, hostAnswer port hpa .rspE s)] : List (Prop × Instr × State)) → h → exec i s = s.becomes t) ∧
  (port < 128 ∧ s.requestReaches port false = true → ∃ t, exec (.memspecrd port hpa) s = .next t) ∧
  (port < 128 ∧ vppb < 17 ∧ s.apertureReaches port = true ∧ inAperture off = true → ∃ t, exec (.atomicop port vppb off op size a b) s = .next t) ∧
  (∀ h i t, (h, i, t) ∈ ([
   (port < 128 ∧ vppb < 17 ∧ s.apertureReaches port = true ∧ inAperture off = true, .apertureRead port vppb off, apertureRequest
   { port := port, op := .memRd, metaField := .noOp } vppb off (newFlit port (portCount port 14 1 s))),
   (port < 128 ∧ vppb < 17 ∧ s.apertureReaches port = true ∧ inAperture off = true, .apertureWrite port vppb off data mask, apertureRequest
   { port := port, op := .memWrPtl, data := data, mask := mask } vppb off (newFlit port (portCount port 14 1 s)))] : List (Prop × Instr × State)) → h → exec i s = s.becomes t) ∧
  (s.fabricOn = true → ∀ h i t, (h, i, t) ∈ ([
   (st < 16, .tailStatus st tag good, (if good then tailGood st tag s else tailBad st tag s)),
   (s.switch.matched ≠ 1 + s.time.beats, .cellMatch, cellMatchOp s),
   (plot < 512 ∧ (s.qos plot).replenished ≠ s.tick + 1 ∧ s.now.toNat % 1024 = plot % 64, .qosReplenish plot, idleBeat s)] : List (Prop × Instr × State)) → h → exec i s = s.becomes t)

/-- Ring registers, countersign port, forwards, seasons, ledger and health runs: the next state of each. -/
def Obligations.TellerEventsComplete : Prop :=
  ∀ (s : State) (ring rp fl mask vmin supply : Nat) (v tag : BitVec 32) (f : Forward) (off : BitVec 16) (data : List Byte) (ad : BitVec 7) (e up : Bool)
  (celsius : Int) (rest : List Nat),
  (ring < 16 → ∀ h i t, (h, i, t) ∈ ([
   (True, .ringCmdTailWrite ring v, ringAccess ring 0 v (fun t => if ring = 13 then afterTail13 (writeCmdTail ring v t) else writeCmdTail ring v t) s),
   (True, .ringRcptHeadWrite ring v, ringAccess ring 0x0C v (writeRcptHead ring v) s),
   (True, .commandForward ring, tellerForward ring s)] : List (Prop × Instr × State)) → h → exec i s = s.becomes t) ∧
  (s.fabricOn = true → ∀ h i t, (h, i, t) ∈ ([
   (ring < 16, .receiptWriteDeferred ring, writeDeferred ring s),
   (ring < 16 ∧ s.teller.forwards.find? (fun x => decide (x.ring = ring ∧ x.tag = tag)) = some f ∧ f.late s.tick = true, .forwardTimeout ring tag,
   forwardTimeout f s),
   (s.time.running = true, .seasonClose, passSeason s),
   (s.time.running = true ∧ s.time.corrDue = true, .almanacCorrection, runUntil (fun t => !t.time.corrDue) 1024 s),
   (s.time.sync = .inSync ∧ s.time.lastExchange + 4 ≤ s.tick, .syncHoldover, setSync .holdover s),
   (s.time.sync = .holdover ∧ s.time.lastExchange + 64 ≤ s.tick, .syncFree, setSync .free s),
   (s.dieUp = true, .almNowLowLoad, latchNow s),
   (s.ctr.trigBeat.isSome = true, .counterTriggerSnapshot, idleBeat s),
   (s.ledger.drained ≠ 1 + s.time.beats, .ledgerWrite, drainOne s),
   (True, .ledgerPersist, ledgerPersistOp s),
   (s.thermalDue = true, .thermalReading celsius, thermalReadingOp celsius s),
   (s.dev.healthBist = mask :: rest, .healthBistComplete rp fl, healthBistDone mask rp fl s),
   (s.dev.healthVmin = supply :: rest, .healthVminComplete vmin, healthVminDone supply vmin s)] : List (Prop × Instr × State)) → h → exec i s = s.becomes t) ∧
  (∀ h i t, (h, i, t) ∈ ([
   (s.portLive = true, .countersignPortWrite off data, portWrite off.toNat data (s.modTeller (fun x => { x with csOffset := off }))),
   (s.portLive = true, .dynamicAddressAssignment ad e, s.modTeller (fun x => { x with csAddress := ad })),
   (s.dev.vaux = true, .lifeClockHour, lifeClockHourOp s),
   (s.dev.vaux = true ∧ s.dev.thermalTripped = false, .thermalTrip, thermalTripOp s),
   (s.vidMay up = true, .vidStep up, vidStepOp up s)] : List (Prop × Instr × State)) → h → exec i s = s.becomes t)

/-- Event-controller and die-link events: the next state of each where the event can happen. -/
def Obligations.EventAndDieLinkEventsComplete : Prop :=
  ∀ (s : State) (src tg pri hart word ch n : Nat) (v : BitVec 32) (v2 : BitVec 64) (free : List Nat) (dir : LinkDir) (ex : BitVec 10) (hdr : DieHeader),
  (s.fabricOn = true → ∀ h i t, (h, i, t) ∈ ([
   (src < 2048, .sourceAssertion src, evcReviewAll (raise src s)),
   (tg < 4, .evcOffer tg, evcOfferOp tg s),
   (tg < 4, .withdrawAcknowledged tg, withdrawAckOp tg s),
   (4 ≤ s.dev.stage.toNat ∧ s.dieUp = false, .dieLinkUp free, dieUpOp free s),
   (hart < 4 ∧ s.dieUp = false ∧ (s.hart hart).waits.isSome = true ∧ s.dieLink.downTick + 1024 ≤ s.tick, .dieLinkAccessTimeout hart, accessTimeout hart s),
   (True, .postedInWrite, deliverNext (fun f => f.channel == chPosted) s)] : List (Prop × Instr × State)) → h → exec i s = s.becomes t) ∧
  (∀ h i t, (h, i, t) ∈ ([
   (tg < 4 ∧ src < 2048, .take tg src pri, takeArrives tg src pri s),
   (True, .evcTgtReset v, evcRegisterStore 0xF010 4 (v.setWidth 64) (forEach (bitsSet v 4) targetReset) s),
   (True, .evcSwtrig v, evcRegisterStore 0xF018 4 (v.setWidth 64) (softwareTrigger (bitsOf v 8 0)) s),
   (word < 32, .evcPendClear word v2, evcRegisterStore (0xA000 + 8 * word) 8 v2 (pendClear word v2) s),
   (s.malformedArrives dir hdr = true, .dieLinkMalformedFlit dir hdr, malformedFlit dir hdr s)] : List (Prop × Instr × State)) → h → exec i s = s.becomes t) ∧
  (hart < 4 → ∀ h i t, (h, i, t) ∈ ([
   (True, .offerTaken hart, offerTakenOp hart s),
   (src < 2048, .withdrawReceived hart src, withdrawReceivedOp hart src s),
   (True, .evcDone hart v, hartAccess chRequest hart true 0x2008F000 4 (v.setWidth 64) (fun t => completeToHart hart 4 0 (evcDoneOp hart (bitsOf v 10 0) t))
   s)] : List (Prop × Instr × State)) → h → exec i s = s.becomes t) ∧
  (s.fabricOn = true → s.dieUp = true → ∀ h i t, (h, i, t) ∈ ([
   (True, .dieLinkDown, dieDown s),
   (s.nakFits dir ex = true, .dieLinkNak dir ex, dieNak dir ex s),
   ((s.dieLink.dir dir).replay.isEmpty = false ∧ (s.dieLink.dir dir).ackBeat + 256 ≤ s.time.beats, .dieLinkReplayTimeout dir, dieReplay dir s),
   (True, .dieLinkCrcError dir, s.modDieLink (fun l => let l1 := l.modDir dir (fun d => { d with naking := true });
   { l1 with errors := if dir = .toFabric then satAdd l.errors 1 else l.errors })),
   (s.time.broadcastDue = true, .almanacBroadcast, broadcastOp s)] : List (Prop × Instr × State)) → h → exec i s = s.becomes t) ∧
  (s.fabricOn = true → ch < 8 ∧ n < 64 ∧ s.dieUp = true → ∃ t, exec (.dieLinkCredit dir ch n) s = .next t)

/-- For every command c: a step of a state with c at the front of its queue is exec of c on that state with the rest of the queue. -/
def Obligations.StepRunsFrontCommand : Prop :=
  (∀ (s : State) (c : Instr) (rest : List Instr),
      s.pending = c :: rest →
      step s = exec c (s.setPending rest)) ∧
  (∀ (s : State),
      s.pending = [] →
      step s = .next ((idleBeat s).setPending []))

/-- For every command and state: exec answers the fault noSuchResource where the command names a resource beyond the numbers of R2, and otherwise a
next state with the same waiting commands. No command is refused. -/
def Obligations.IllFormedCommandsStop : Prop :=
  (∀ (c : Instr) (s : State),
      c.wf = false →
      exec c s = .fault .noSuchResource) ∧
  (∀ (c : Instr) (s : State),
      c.wf = true →
      ∃ t, exec c s = .next t ∧ t.pending = s.pending)

/-- The invariant: every waiting command names resources that the device has. For every state that meets it, a step answers a next state (never a
fault, never a refusal), takes the front command off the queue, leaves the rest waiting in order, and keeps the invariant; on an empty queue the queue
stays empty. -/
def Obligations.WellFormedQueueIsKept : Prop :=
  (∀ (s : State),
      s.queueWf →
      ∃ t, step s = .next t ∧ t.pending = s.pending.tail ∧ t.queueWf)

/-- At reset the fabric die is in reset with PKG_RESET_N held low, SLOT_HOLD high and the mode SPROUT; the almanac is 0; every plot, bed and extent is
as its entry resets; no command waits and none is in QUEUED; rings 13 to 15 are enabled and rings 0 to 12 are not; the weeder budget is 8, the snoop
timeout 256 ticks, the countersign window 976,563 ticks, the countersign port answers at 0x3A; the queue is well formed and every memory has its
canonical form. The values that no rule states are those of the assumption log. -/
def Obligations.ResetHolds : Prop :=
  (State.reset.dev.inReset = true ∧ State.reset.dev.pkgReset = true ∧ State.reset.dev.slotHold = true ∧ State.reset.dev.mode = .sprout ∧ State.reset.now = 0) ∧
  (∀ (n : Nat),
      State.reset.plot n = {} ∧ State.reset.bed n = {} ∧ State.reset.extent n = {} ∧ State.reset.agent n = {} ∧ State.reset.slice n = {} ∧ State.reset.port n = {} ∧ State.reset.source n = { edge := true }) ∧
  (∀ (n : Nat),
      n < 16 →
      (State.reset.ring n).enable = decide (13 ≤ n) ∧ (State.reset.ring n).waiting = 0 ∧ (State.reset.ring n).unread = 0) ∧
  (State.reset.teller.jobs = [] ∧ State.reset.teller.proposals = [] ∧ State.reset.teller.window = 976563 ∧ State.reset.teller.csAddress = 0x3A ∧ State.reset.dev.snoopTimeout = 256 ∧ State.reset.home.writeTimeout = 16) ∧
  (State.reset.queueWf ∧ State.reset.memoriesWf)

/-- For every row of the command catalogue: a command that fails one of the checks of steps 2 to 6 is answered with that status and changes no
component but the Teller, the event controller and the counters (and, for a PLOT_RESET of ring 15 that is refused as NOT_IN_MODE, the plot table). A
command whose tag the history holds is not executed: it is answered with DUPLICATE and the status, proposal and stamp of the original. Where the
receipt area has room, the 32 bytes of the receipt stand in the ring's next receipt slot, stamped with the almanac, and every other byte of ring
memory reads as before. -/
def Obligations.RefusedCommandOnlyAnswers : Prop :=
  (∀ (i : Instr) (s : State) (op ring status : Nat),
      i.command = some (op, ring) ∧ ring < 16 →
      s.waitsFor op ring false = true ∧ s.startFree = true →
      (takeCommand ring (s.front ring) s).held (s.front ring) = none →
      (s.taken ring).firstFailure (s.front ring) = some status →
      ∃ t, exec i s = .next t ∧ t = (answerStart (s.front ring) status [] (s.taken ring)).setPending s.pending ∧ s.onlyChanges [.teller, .evc, .ctr, .pool] t ∧
        (¬ (ring = 15 ∧ op = 0x0207) → t.pool = s.pool)) ∧
  (∀ (i : Instr) (s : State) (op ring status : Nat),
      i.command = some (op, ring) ∧ ring < 16 →
      s.waitsFor op ring false = true ∧ s.startFree = true →
      (takeCommand ring (s.front ring) s).held (s.front ring) = none →
      (s.taken ring).firstFailure (s.front ring) = some status →
      s.memoriesWf ∧ Tab.above none s.teller.rings = true ∧ ¬ (ring = 15 ∧ op = 0x0207) →
      (s.taken ring).receiptWaits ring = false →
      ∃ t, exec i s = .next t ∧
        memRead 0 t.teller.mem (s.receiptSlot ring) 32 =
          ({ tag := (s.front ring).tag, opcode := (s.front ring).opcode, status := BitVec.ofNat 16 status, stamp := s.now, result := 0 } : Receipt).bytes ∧
        ∀ a, a < s.receiptSlot ring ∨ s.receiptSlot ring + 32 ≤ a → memGet 0 t.teller.mem a = memGet 0 s.teller.mem a) ∧
  (∀ (i : Instr) (s : State) (op ring : Nat) (e : HistEntry),
      i.command = some (op, ring) ∧ ring < 16 →
      s.waitsFor op ring false = true ∧ s.startFree = true →
      (takeCommand ring (s.front ring) s).held (s.front ring) = some e →
      ∃ t, exec i s = .next t ∧ s.onlyChanges [.teller, .evc, .ctr] t ∧
        t = (writeReceipt ring (s.front ring).origin (s.front ring).tag e.opcode stDuplicate
          (bytesOf 2 16 e.status ++ bytesOf 2 16 e.proposal ++ [0, 0, 0, 0] ++ bytesOf 8 64 e.stamp) none (takeCommand ring (s.front ring) s)).setPending s.pending)

/-- A producer's write of RING_CMD_TAIL takes effect where it stands at most 256 ahead of RING_CMD_HEAD, and a consumer's write of RING_RCPT_HEAD
where it stands at most 256 behind RING_RCPT_TAIL; any other is ignored and sets overrun. A write of a ring of 0 to 12 crosses the die link as a store
of hart 0 (log 102); ring 13 is written through the countersign port. A receipt that waits inside the Teller is written once receipt space is free. A
private write of the countersign port stores into ring 13's command slots or its parameter buffer, and is ignored in the receipt slots; a dynamic
address replaces the port's address. A write of ring 13's tail in DORMANT also wakes the device. A private read of the port finds its identity at
0x9006 and 0 above its registers. -/
def Obligations.RingRegisterWrites : Prop :=
  (∀ (ring : Nat) (value : BitVec 32) (s u : State),
      ring < 13 ∧ s.fabricOn = true ∧ s.stewardCanReach chTeller = true →
      fromSteward chTeller 0 (.access true (BitVec.ofNat 64 (0x20006000 + 0x8000 * ring)) 4 (value.setWidth 64)) ((deliverNext (fun f => f.channel == chCompletion && f.hart == 0) s).modHart 0 (fun h => { h with access := some (true, (BitVec.ofNat 64 (0x20006000 + 0x8000 * ring))) })) = u →
      (value.truncate 16 - (u.ring ring).cmdHead).toNat ≤ 256 →
      exec (.ringCmdTailWrite ring value) s = s.becomes (completeToHart 0 cplDone 0 (u.modRing ring (fun r => { r with cmdTail := value.truncate 16 })))) ∧
  (∀ (value : BitVec 32) (s : State),
      s.dev.inReset = false ∧ s.dev.mode ≠ .dormant →
      (value.truncate 16 - (s.ring 13).cmdHead).toNat ≤ 256 →
      exec (.ringCmdTailWrite 13 value) s = s.becomes (s.modRing 13 (fun r => { r with cmdTail := value.truncate 16 }))) ∧
  (∀ (ring : Nat) (value : BitVec 32) (s u : State),
      ring < 13 ∧ s.fabricOn = true ∧ s.stewardCanReach chTeller = true →
      fromSteward chTeller 0 (.access true (BitVec.ofNat 64 (0x20006000 + 0x8000 * ring)) 4 (value.setWidth 64)) ((deliverNext (fun f => f.channel == chCompletion && f.hart == 0) s).modHart 0 (fun h => { h with access := some (true, (BitVec.ofNat 64 (0x20006000 + 0x8000 * ring))) })) = u →
      256 < (value.truncate 16 - (u.ring ring).cmdHead).toNat →
      exec (.ringCmdTailWrite ring value) s = s.becomes (completeToHart 0 cplDone 0 (u.modRing ring (fun r => { r with overrun := true, overrunBeat := 1 + u.time.beats })))) ∧
  (∀ (value : BitVec 32) (s : State),
      s.dev.inReset = false ∧ s.dev.mode ≠ .dormant →
      256 < (value.truncate 16 - (s.ring 13).cmdHead).toNat →
      exec (.ringCmdTailWrite 13 value) s = s.becomes (s.modRing 13 (fun r => { r with overrun := true, overrunBeat := 1 + s.time.beats }))) ∧
  (∀ (value : BitVec 32) (s : State),
      s.dev.inReset = false ∧ s.dev.mode = .dormant →
      (value.truncate 16 - (s.ring 13).cmdHead).toNat ≤ 256 →
      exec (.ringCmdTailWrite 13 value) s = s.becomes (wakeOp (s.modRing 13 (fun r => { r with cmdTail := value.truncate 16 })))) ∧
  (∀ (ring : Nat) (value : BitVec 32) (s u : State),
      ring < 13 ∧ s.fabricOn = true ∧ s.stewardCanReach chTeller = true →
      fromSteward chTeller 0 (.access true (BitVec.ofNat 64 (0x2000600C + 0x8000 * ring)) 4 (value.setWidth 64)) ((deliverNext (fun f => f.channel == chCompletion && f.hart == 0) s).modHart 0 (fun h => { h with access := some (true, (BitVec.ofNat 64 (0x2000600C + 0x8000 * ring))) })) = u →
      ((u.ring ring).rcptTail - value.truncate 16).toNat ≤ 256 →
      exec (.ringRcptHeadWrite ring value) s = s.becomes (completeToHart 0 cplDone 0 (u.modRing ring (fun r => { r with rcptHead := value.truncate 16 })))) ∧
  (∀ (value : BitVec 32) (s : State),
      s.dev.inReset = false →
      ((s.ring 13).rcptTail - value.truncate 16).toNat ≤ 256 →
      exec (.ringRcptHeadWrite 13 value) s = s.becomes (s.modRing 13 (fun r => { r with rcptHead := value.truncate 16 }))) ∧
  (∀ (ring : Nat) (value : BitVec 32) (s u : State),
      ring < 13 ∧ s.fabricOn = true ∧ s.stewardCanReach chTeller = true →
      fromSteward chTeller 0 (.access true (BitVec.ofNat 64 (0x2000600C + 0x8000 * ring)) 4 (value.setWidth 64)) ((deliverNext (fun f => f.channel == chCompletion && f.hart == 0) s).modHart 0 (fun h => { h with access := some (true, (BitVec.ofNat 64 (0x2000600C + 0x8000 * ring))) })) = u →
      256 < ((u.ring ring).rcptTail - value.truncate 16).toNat →
      exec (.ringRcptHeadWrite ring value) s = s.becomes (completeToHart 0 cplDone 0 (u.modRing ring (fun r => { r with overrun := true, overrunBeat := 1 + u.time.beats })))) ∧
  (∀ (value : BitVec 32) (s : State),
      s.dev.inReset = false →
      256 < ((s.ring 13).rcptTail - value.truncate 16).toNat →
      exec (.ringRcptHeadWrite 13 value) s = s.becomes (s.modRing 13 (fun r => { r with overrun := true, overrunBeat := 1 + s.time.beats }))) ∧
  (∀ (ring : Nat) (d : Returned) (rest : List Returned) (s : State),
      ring < 16 ∧ s.fabricOn = true →
      (s.ring ring).deferred = d :: rest ∧ (s.ring ring).unread < 256 →
      exec (.receiptWriteDeferred ring) s = s.becomes (issueReceipt ring d (s.modRing ring (fun r => { r with deferred := rest })))) ∧
  (∀ (offset : BitVec 16) (data : List Byte) (s : State),
      s.dev.inReset = false ∧ offset.toNat + data.length ≤ 0x4000 →
      exec (.countersignPortWrite offset data) s = s.becomes (s.modTeller (fun t => { t with csOffset := offset, mem := memWrite 0 t.mem (13 * 0x8000 + offset.toNat) data }))) ∧
  (∀ (offset : BitVec 16) (data : List Byte) (s : State),
      s.fabricOn = true →
      0x7000 ≤ offset.toNat ∧ offset.toNat + data.length ≤ 0x8000 →
      exec (.countersignPortWrite offset data) s = s.becomes (s.modTeller (fun t => { t with csOffset := offset, csParam := memWrite 0 t.csParam (offset.toNat - 0x7000) data }))) ∧
  (∀ (offset : BitVec 16) (data : List Byte) (s : State),
      s.dev.inReset = false →
      0x4000 ≤ offset.toNat ∧ offset.toNat + data.length ≤ 0x6000 →
      exec (.countersignPortWrite offset data) s = s.becomes (s.modTeller (fun t => { t with csOffset := offset }))) ∧
  (∀ (address : BitVec 7) (byEntdaa : Bool) (s : State),
      s.dev.inReset = false →
      exec (.dynamicAddressAssignment address byEntdaa) s = s.becomes (s.modTeller (fun t => { t with csAddress := address }))) ∧
  (∀ (s : State),
      s.fabricOn = true →
      s.portByteAt 0x9006 = 0xA0 ∧ (∀ o, 0x9010 ≤ o → s.portByteAt o = 0))

/-- A command with fwd = 1 that passes its checks is sent to the partner with its parameter block, and waits for the partner's receipt; after 64 ticks
without one, TIMEOUT is written on its ring. PROPOSAL_COMMIT and PROPOSAL_EXPIRY let time pass to the tick boundary at which the proposal is ready or
its window closes; there a countersigned proposal that commits leaves the outstanding proposals, runs the stored command's own checks and effect,
answers the proposer's ring with the command's status, gives the COUNTERSIGN the first status (QUEUED as DONE) and logs COMMIT. A proposal whose
window closes uncountersigned leaves with COUNTERSIGN_EXPIRED, and its number is remembered. -/
def Obligations.ForwardsAndProposalsEnd : Prop :=
  (∀ (ring : Nat) (s : State),
      ring < 16 ∧ s.waitsFor (s.front ring).opcode.toNat ring true = true ∧ s.startFree = true →
      (takeCommand ring (s.front ring) s).held (s.front ring) = none →
      (s.taken ring).firstFailure (s.front ring) = none →
      exec (.commandForward ring) s = s.becomes (forwardCommand (s.front ring) (s.taken ring))) ∧
  (∀ (ring : Nat) (tag : BitVec 32) (f : Forward) (s : State),
      ring < 16 ∧ s.fabricOn = true →
      s.teller.forwards.find? (fun x => decide (x.ring = ring ∧ x.tag = tag)) = some f ∧ f.sent + 64 ≤ s.tick →
      exec (.forwardTimeout ring tag) s = s.becomes (writeReceipt f.ring 0 f.tag f.opcode stTimeout [] none
        (s.modTeller (fun t => { t with forwards := t.forwards.filter (fun x => !decide (x.ring = f.ring ∧ x.tag = f.tag)) })))) ∧
  (∀ (n : Nat) (p : Proposal) (s : State),
      s.fabricOn = true ∧ s.time.running = true →
      s.nextTick.proposal (BitVec.ofNat 16 n) = some p ∧ p.ready s.nextTick = true →
      exec (.proposalCommit n) s = s.becomes (passTick s)) ∧
  (∀ (p : Proposal) (status : Nat) (result : List Byte) (s u t : State),
      s.modTeller (fun x => { x with proposals := x.proposals.filter (fun y => y.number ≠ p.number) }) = u →
      runDue p.cmd u = (.final status result, t) →
      commitProposal p s = committed p status (answer p.cmd status result none (mirrorDone p.cmd.commitSeq u t))) ∧
  (∀ (n : Nat) (p : Proposal) (s : State),
      s.fabricOn = true ∧ s.time.running = true →
      s.nextTick.proposal (BitVec.ofNat 16 n) = some p ∧ p.expires = true →
      exec (.proposalExpiry n) s = s.becomes (passTick s)) ∧
  (∀ (p : Proposal) (s : State),
      expireProposal p s = writeReceipt p.cmd.ring p.cmd.origin p.cmd.tag p.cmd.opcode stExpired [] none
        (s.modTeller (fun t => { t with proposals := t.proposals.filter (fun x => x.number ≠ p.number), expired := t.expired ++ [p.number] }))) ∧
  (∀ (p : Proposal),
      p.signer = none ∧ p.remaining ≤ 1 →
      p.expires = true)

/-- An assertion of a source is raised and the offers are reviewed. EVC_OFFER lets beats pass up to the one that sends the offer of a target that has
a candidate and no offer; the selection takes 4 beats. A TAKE of the offered source above the target's level clears its pending bit, puts it in
service, pushes it at the priority that the offer carried, ends the offer, and sets EVC_LATE where the offer was withdrawn or the source is disabled.
A TAKE of a source with no offer for that target changes only the ledger. A DONE that names the top of the stack pops it and the source leaves
service; any other is a stack-order fault, unless a fabric-only reset made the empty stack quiet. EVC_TGT_RESET, EVC_SWTRIG and EVC_PEND write-ones
cross the die link on REQUEST-OUT as stores of hart 0 (log 102) and act as their registers say: a pending bit is cleared, source 0 at every target,
but not where it was set in this very beat (R10). -/
def Obligations.EventControllerTakesAndDone : Prop :=
  (∀ (source : Nat) (s : State),
      source < 2048 ∧ s.fabricOn = true →
      exec (.sourceAssertion source) s = s.becomes (evcReviewAll (raise source s))) ∧
  (∀ (target : Nat) (s : State),
      target < 4 ∧ s.fabricOn = true →
      exec (.evcOffer target) s = s.becomes (runUntil (fun u => (u.toOffer target).isNone && !u.offerStale target) 6 (evcReview target (evcResolve target s)))) ∧
  (∀ (target : Nat) (c : Nat × Nat) (s u : State),
      evcReview target (evcResolve target s) = u →
      (u.target target).offer = none ∧ u.canOffer = true ∧ bestCandidate u target = some c →
      0 < (u.target target).selBeat ∧ (u.target target).selBeat + 3 ≤ u.time.beats →
      evcBeat target s = (evcSendOffer target c.1 c.2 u).modTarget target (fun x => { x with selBeat := 0 })) ∧
  (∀ (target src prio : Nat) (s : State),
      evcSendOffer target src prio s = traceEvc src target prio 1 (count 26 0x05 1 (dieSend .toSteward chEvent target 0 1 (.offer src prio (vectorOf s src)) (s.modTarget target (fun x => { x with offer := some { source := src, priority := prio } }))))) ∧
  (∀ (target source priority : Nat) (f : DieFlit) (rest : List DieFlit) (s u : State),
      target < 4 ∧ source < 2048 ∧ s.fabricOn = true ∧ s.dieUp = true ∧ s.dieLink.toFabric.naking = false →
      s.dieLink.toFabric.inFlight = f :: rest ∧ f.channel = chEvent ∧ f.hart = target ∧ f.msg = .take source priority →
      takeFromSteward f s = u →
      exec (.take target source priority) s = s.becomes (evcTakeOp target source priority u)) ∧
  (∀ (s : State) (t src prio : Nat) (o : EvcOffer),
      (s.target t).offer = some o ∧ o.source = src ∧ src ≠ 0 →
      (s.target t).level < o.priority →
      evcTakeOp t src prio s = (let late := !o.isOpen || !(s.source src).enable
        traceEvc src t o.priority 3 ((count 26 0x06 1 ((if late then count 26 0x08 1 else id)
          ((s.modTarget t (fun y => { y with offer := none, quietDone := false })).modSource src (fun y => { y with pending := false, inService := true, late := y.late || late, lateBeat := if late then 1 + s.time.beats else y.lateBeat })))).modTarget t
            (fun y => { y with stack := (o.priority, src) :: y.stack })))) ∧
  (∀ (s : State) (t src prio : Nat),
      (∀ o, (s.target t).offer = some o → o.source ≠ src) →
      evcTakeOp t src prio s = logFault 0x49 blockEvc t src 0 0 0 s) ∧
  (∀ (hart : Nat) (value : BitVec 32) (s u : State),
      hart < 4 ∧ s.fabricOn = true ∧ s.stewardCanReach chRequest = true →
      fromSteward chRequest hart (.access true 0x2008F000 4 (value.setWidth 64)) ((deliverNext (fun f => f.channel == chCompletion && f.hart == hart) s).modHart hart (fun h => { h with access := some (true, 0x2008F000) })) = u →
      exec (.evcDone hart value) s = s.becomes (completeToHart hart 4 0 (evcDoneOp hart (bitsOf value 10 0) u))) ∧
  (∀ (s : State) (t src : Nat),
      (s.target t).top = some src →
      evcDoneOp t src s = traceEvc src t 0 4 ((s.modTarget t EvcTarget.pop).modSource src (fun y => { y with inService := false }))) ∧
  (∀ (s : State) (t src : Nat),
      (s.target t).top ≠ some src ∧ ((s.target t).quietDone = false ∨ (s.target t).top ≠ none) →
      evcDoneOp t src s = stackOrderFault t src s) ∧
  (∀ (s : State) (t src : Nat),
      (s.target t).top = none ∧ (s.target t).quietDone = true →
      evcDoneOp t src s = s) ∧
  (∀ (value : BitVec 32) (s u : State),
      s.fabricOn = true ∧ s.stewardCanReach chRequest = true →
      fromSteward chRequest 0 (.access true 0x2008F010 4 (value.setWidth 64)) ((deliverNext (fun f => f.channel == chCompletion && f.hart == 0) s).modHart 0 (fun h => { h with access := some (true, 0x2008F010) })) = u →
      exec (.evcTgtReset value) s = s.becomes (completeToHart 0 4 0 (forEach (bitsSet value 4) targetReset u))) ∧
  (∀ (value : BitVec 32) (s u : State),
      s.fabricOn = true ∧ s.stewardCanReach chRequest = true →
      fromSteward chRequest 0 (.access true 0x2008F018 4 (value.setWidth 64)) ((deliverNext (fun f => f.channel == chCompletion && f.hart == 0) s).modHart 0 (fun h => { h with access := some (true, 0x2008F018) })) = u →
      exec (.evcSwtrig value) s = s.becomes (completeToHart 0 4 0 (evcReviewAll (raise (1536 + bitsOf value 8 0) u)))) ∧
  (∀ (word : Nat) (value : BitVec 64) (s u : State),
      word < 32 ∧ s.fabricOn = true ∧ s.stewardCanReach chRequest = true →
      fromSteward chRequest 0 (.access true (BitVec.ofNat 64 (0x2008A000 + 8 * word)) 8 value) ((deliverNext (fun f => f.channel == chCompletion && f.hart == 0) s).modHart 0 (fun h => { h with access := some (true, (BitVec.ofNat 64 (0x2008A000 + 8 * word))) })) = u →
      exec (.evcPendClear word value) s = s.becomes (completeToHart 0 4 0 (evcReviewAll (forEach (bitsSet value 64) (fun b => pendClearOne (64 * word + b)) u)))) ∧
  (∀ (src : Nat) (s : State),
      (s.source src).edge = true ∧ src ≠ 0 ∧ (s.source src).setBeat ≠ 1 + s.time.beats →
      pendClearOne src s = s.modSource src (fun x => { x with pending := false })) ∧
  (∀ (src : Nat) (s : State),
      (s.source src).setBeat = 1 + s.time.beats →
      pendClearOne src s = s) ∧
  (∀ (s : State),
      (s.source 0).edge = true ∧ (s.source 0).setBeat ≠ 1 + s.time.beats →
      pendClearOne 0 s = forEach (List.range 4) (fun t u => u.modTarget t (fun x => { x with faultPending := false })) (s.modSource 0 (fun x => { x with pending := false })))

/-- A hart that can take the offer it holds enters its handler by the machine-mode interrupt entry (mepc, mpie, mpp, mcause and mevsrc saved, mie
cleared, the pc at the offer's vector) and sends TAKE. A WITHDRAW that reaches a hart takes the offer of its source away. The acknowledgement of a
WITHDRAW flit that no TAKE raced resolves the offer in doubt; while such a flit waits or is unacknowledged, it stays in doubt. -/
def Obligations.HartsTakeOffers : Prop :=
  (∀ (hart src prio : Nat) (vec : BitVec 64) (s : State),
      hart < 4 ∧ s.steward.inReset = false ∧ (s.hart hart).offer = some (src, prio, vec) →
      (s.hart hart).canTake = true →
      exec (.offerTaken hart) s = s.becomes (dieSend .toFabric chEvent hart 0 1 (.take src prio) (s.modHart hart (fun h => { h with mepc := h.pc, mpie := h.mie, mpp := h.priv, mie := false, priv := 3, mcause := 0x8000000000000018, mevsrc := BitVec.ofNat 11 src, pc := vec, wfi := false, offer := none })))) ∧
  (∀ (hart : Nat) (s : State),
      hart < 4 ∧ (s.hart hart).canTake = false →
      (s.hart hart).offer ≠ none →
      exec (.offerTaken hart) s = s.becomes (s)) ∧
  (∀ (hart source : Nat) (f : DieFlit) (rest : List DieFlit) (prio : Nat) (s : State),
      hart < 4 ∧ source < 2048 ∧ s.dieUp = true ∧ s.dieLink.toSteward.naking = false →
      s.dieLink.toSteward.inFlight = f :: rest ∧ f.hart = hart ∧ f.msg = .withdraw source prio →
      exec (.withdrawReceived hart source) s = s.becomes (diePump .toFabric ((((s.modHart hart (fun h => match h.offer with | some o => if o.1 = source then { h with offer := none } else h | none => h)).modDir .toSteward
        (fun d => ({ d with exp := f.seq + 1 }).free f.channel f.flits))).modDir .toFabric (DieDir.acknowledge .toFabric f.ack s.time.beats)))) ∧
  (∀ (target : Nat) (o : EvcOffer) (f : DieFlit) (s : State),
      target < 4 ∧ s.fabricOn = true ∧ s.dieUp = true ∧ s.dieLink.toSteward.naking = false →
      (s.target target).offer = some o ∧ o.isOpen = false →
      s.dieLink.toFabric.inFlight = [] ∧ s.dieLink.toSteward.replay.find? (·.withdraws target) = some f →
      exec (.withdrawAcknowledged target) s = s.becomes (evcResolve target (dieAck .toSteward f.seq (deliverNext (fun g => g.seq == f.seq) s)))) ∧
  (∀ (s : State) (t : Nat) (o : EvcOffer),
      (s.target t).offer = some o ∧ o.isOpen = false →
      (s.dieLink.toSteward.waiting ++ s.dieLink.toSteward.replay).any (·.withdraws t) = false →
      evcResolve t s = s.modTarget t (fun x => { x with offer := none })) ∧
  (∀ (s : State) (t : Nat),
      (s.dieLink.toSteward.waiting ++ s.dieLink.toSteward.replay).any (·.withdraws t) = true →
      evcResolve t s = s)

/-- When the die link goes down each open offer is withdrawn, rings 0 to 12 pause and source 296 is raised; when it comes up credits are restored,
unacknowledged flits go again, rings 0 to 12 go on. A NAK and 256 beats without an acknowledgement replay; a CRC error makes the receiver discard
until the expected flit arrives; a credit flit returns receive slots; a malformed flit is counted and its request answered with error 0x03; an access
held for 1,024 ticks of a link that is down ends in an access fault; the almanac broadcast, sent by beat 8 of its tick, and posted writes reach the
steward die in order. -/
def Obligations.DieLinkEvents : Prop :=
  (∀ (s : State),
      s.fabricOn = true ∧ s.dieUp = true →
      exec (.dieLinkDown) s = s.becomes (raise 296 (forEach (List.range 13) (fun n t => t.modRing n (fun r => { r with paused := true }))
        ((forEach (List.range 4) evcWithdraw s).modDieLink (fun l => { l with state := 0, retrains := satAdd l.retrains 1, downTick := s.tick }))))) ∧
  (∀ (free : List Nat) (s : State),
      s.fabricOn = true ∧ 4 ≤ s.dev.stage.toNat ∧ s.dieUp = false →
      ∃ t, exec (.dieLinkUp free) s = .next t ∧ t = (dieUpOp free s).setPending s.pending) ∧
  (∀ (dir : LinkDir) (expected : BitVec 10) (s : State),
      s.fabricOn = true ∧ s.dieUp = true ∧ s.nakFits dir expected = true →
      exec (.dieLinkNak dir expected) s = s.becomes (dieNak dir expected s)) ∧
  (∀ (s : State) (dir : LinkDir),
      (∀ f ∈ (s.dieLink.dir dir).replay, f.replays < 7) →
      dieReplay dir s = countReplays dir (s.dieLink.dir dir).replay.length (s.modDir dir (fun d =>
        { d with replay := d.replay.map (fun f => { f with replays := f.replays + 1 }), ackBeat := s.time.beats, naking := false }))) ∧
  (∀ (dir : LinkDir) (channel count : Nat) (s : State),
      s.fabricOn = true ∧ s.dieUp = true ∧ channel < 8 ∧ count < 64 →
      ∃ t, exec (.dieLinkCredit dir channel count) s = .next t ∧ t = (evcReviewAll (forEach (List.range 4) evcResolve (postedAcked (diePump dir ((s.modDir dir (DieDir.giveBack dir channel count)).modDir dir (fun d =>
          { d with replay := d.replay.filter (fun f => !decide (seqDist10 f.seq (((s.modDir dir (DieDir.giveBack dir channel count)).dieLink.dir dir).exp - 1) < 512)),
                   acked := ((s.modDir dir (DieDir.giveBack dir channel count)).dieLink.dir dir).exp - 1,
                   ackBeat := if d.acked = ((s.modDir dir (DieDir.giveBack dir channel count)).dieLink.dir dir).exp - 1 then d.ackBeat else s.time.beats })))))).setPending s.pending) ∧
  (∀ (dir : LinkDir) (s : State),
      s.fabricOn = true ∧ s.dieUp = true ∧ (s.dieLink.dir dir).replay ≠ [] →
      (s.dieLink.dir dir).ackBeat + 256 ≤ s.time.beats →
      exec (.dieLinkReplayTimeout dir) s = s.becomes (dieReplay dir s)) ∧
  (∀ (hart : Nat) (s : State),
      hart < 4 ∧ s.fabricOn = true ∧ s.dieUp = false →
      (s.hart hart).waits.isSome = true ∧ s.dieLink.downTick + 1024 ≤ s.tick →
      exec (.dieLinkAccessTimeout hart) s = s.becomes ((s.modHart hart (Hart.accessOver cplError)).modBridge (fun b => { b with answers := (hart, cplError, 0x01) :: b.answers }))) ∧
  (∀ (s : State),
      s.fabricOn = true ∧ s.dieUp = true ∧ s.time.broadcastDue = true ∧ s.now.toNat % 1024 ≤ 8 →
      exec (.almanacBroadcast) s = s.becomes (deliverNext (fun f => f.channel == chTime) (dieSend .toSteward chTime 0 0 1 (.almanac (s.now &&& 0xFFFFFFFFFFFFFC00#64)) (s.modTime (fun t => { t with broadcastDue := false }))))) ∧
  (∀ (f : DieFlit) (rest : List DieFlit) (address : Nat) (data : List Byte) (s : State),
      s.fabricOn = true ∧ s.dieUp = true ∧ s.dieLink.toSteward.naking = false →
      s.dieLink.toSteward.inFlight = f :: rest ∧ f.channel = chPosted ∧ f.msg = .posted address data →
      0x08000000 ≤ address ∧ address + data.length ≤ 0x0A000000 →
      exec (.postedInWrite) s = s.becomes (diePump .toFabric (((s.modSteward (fun t => { t with sram := memWrite 0 t.sram (address - 0x08000000) data })).modDir .toSteward (fun d => ({ d with exp := f.seq + 1 }).free f.channel f.flits)).modDir .toFabric (DieDir.acknowledge .toFabric f.ack s.time.beats)))) ∧
  (∀ (dir : LinkDir) (s : State),
      s.fabricOn = true ∧ s.dieUp = true →
      exec (.dieLinkCrcError dir) s = s.becomes (s.modDieLink (fun l => { (l.modDir dir (fun d => { d with naking := true })) with errors := if dir = .toFabric then satAdd l.errors 1 else l.errors }))) ∧
  (∀ (dir : LinkDir) (hdr : DieHeader) (s : State),
      s.malformedArrives dir hdr = true →
      exec (.dieLinkMalformedFlit dir hdr) s = s.becomes (malformedFlit dir hdr s)) ∧
  (∀ (s : State) (h : DieHeader),
      h.channel = 3 ∧ h.first = true →
      ∃ u, u = (dieAck .toSteward h.ack ((s.modDir .toFabric (fun d => { d with nextSeq := h.seq + 1, exp := h.seq + 1 })).modDir .toSteward (DieDir.giveBack .toSteward h.creditCh h.creditCount))).modDieLink
          (fun l => { l with errors := satAdd l.errors 1 }) ∧
        malformedFlit .toFabric h s = dieSend .toSteward chCompletion h.hart h.txn 1 (.completion cplError 0x03) (u.modBridge (fun b => { b with answers := (h.hart, cplError, 0x03) :: b.answers })))

/-- TICK_BOUNDARY lets beats pass up to the next multiple of 1,024, in whose first beat the boundary's work takes effect: beats with nothing to do up
to the last one of the tick are counted at once, and change only time, the event controller, the counters, the home statistics and the trunks.
SEASON_CLOSE lets tick after tick pass, each with its boundary's work, up to the one at which the season closes. COUNTER_MODE_SWITCH takes effect at
its boundary. A close latches every live statistic into the season ledger and starts the live ones from 0, numbers the season and starts it at the
almanac. COUNTER_TRIGGER_SNAPSHOT is the beat whose trigger takes the snapshot. ALM_NOW_LOW_LOAD latches the high word. ALMANAC_CORRECTION is the beat
after a boundary, in which a follower's almanac moves by its offset. -/
def Obligations.TimePasses : Prop :=
  (∀ (s : State),
      s.fabricOn = true ∧ s.time.running = true →
      exec .tickBoundary s = s.becomes (passTick s)) ∧
  (∀ (s : State),
      s.fabricOn = true ∧ s.time.running = true ∧ s.still = true ∧ s.now.toNat % 1024 < 1023 →
      passOn s = passBeats 1 (scanBeat (passBeats (1023 - s.now.toNat % 1024 - 1) s))) ∧
  (∀ (s : State) (n : Nat),
      (passBeats n s).time.beats = s.time.beats + n ∧ s.onlyChanges [.time, .evc, .ctr, .home, .trunks] (passBeats n s)) ∧
  (∀ (s m b : State),
      s.fabricOn = true ∧ s.time.running = true →
      passOn s = m →
      m.tick = s.tick ∧ m.time.running = true →
      passOn m = b →
      b.tick ≠ s.tick →
      exec .tickBoundary s = s.becomes b) ∧
  (∀ (s u v b : State),
      s.fabricOn = true ∧ s.now.toNat % 1024 = 1023 →
      countBeats 1 (beatWork (dormantReceipt s)) = u →
      almanacBeat (u.modTime (fun t => { t with beats := t.beats + 1 })) = v →
      (if v.ctr.trigBeat.isSome then snapshot v else v) = b →
      b.now ≠ u.now ∧ b.now.toNat % 1024 = 0 →
      idleBeat s = boundaryOp b) ∧
  (∀ (s : State),
      s.fabricOn = true ∧ s.time.running = true →
      exec .seasonClose s = s.becomes (passSeason s)) ∧
  (∀ (s t : State),
      s.time.running = true ∧ passOn s = t →
      t.time.seasonNum ≠ s.time.seasonNum →
      passSeason s = t) ∧
  (∀ (s : State) (i : Nat),
      ledgerStat (latchStatistics s).ctr i = liveStat s.ctr i ∧ liveStat (latchStatistics s).ctr i = 0 ∧ (latchStatistics s).ctr.ledgerStart = s.time.seasonStart ∧ s.onlyChanges [.ctr] (latchStatistics s)) ∧
  (∀ (s : State),
      s.fabricOn = true ∧ s.time.running = true ∧ s.time.corrDue = true →
      exec .almanacCorrection s = s.becomes (runUntil (fun t => !t.time.corrDue) 1024 s)) ∧
  (∀ (s : State) (off : Int),
      s.time.measured = some off ∧ s.time.corrects = true →
      (almanacBeat s).now = s.now + BitVec.ofNat 64 (if off < 0 then 0 else if off ≤ 64 then 1 + min 1 off.toNat else 1 + off.toNat) ∧ s.onlyChanges [.time] (almanacBeat s)) ∧
  (∀ (s : State),
      s.fabricOn = true ∧ s.dieUp = true →
      exec (.almNowLowLoad) s = s.becomes (s.modTime (fun t => { t with nowHi := t.now.extractLsb' 32 32 }))) ∧
  (∀ (s : State),
      s.fabricOn = true ∧ s.time.sync = .inSync ∧ s.time.lastExchange + 4 ≤ s.tick →
      exec (.syncHoldover) s = s.becomes (raise 336 (s.modTime (fun t => { t with sync := .holdover })))) ∧
  (∀ (s : State),
      s.fabricOn = true ∧ s.time.sync = .holdover ∧ s.time.lastExchange + 64 ≤ s.tick →
      exec (.syncFree) s = s.becomes (s.modTime (fun t => { t with sync := .free, goodRun := 0, badRun := 0 }))) ∧
  (∀ (s : State),
      s.fabricOn = true ∧ s.time.running = true →
      counterSwitchDue s.nextTick = true →
      exec .counterModeSwitch s = s.becomes (passTick s)) ∧
  (∀ (s : State),
      switchCounters s = (snapshot s).modCtr (fun c => { c with value := [], chained := wantsChain (snapshot s), modeDue := false })) ∧
  (∀ (s : State),
      s.fabricOn = true ∧ s.ctr.trigBeat.isSome = true →
      exec (.counterTriggerSnapshot) s = s.becomes (idleBeat s)) ∧
  (∀ (s v : State),
      s.fabricOn = true ∧ s.now.toNat % 1024 ≠ 1023 →
      almanacBeat ((countBeats 1 (beatWork s)).modTime (fun t => { t with beats := t.beats + 1 })) = v →
      v.ctr.trigBeat.isSome = true ∧ v.now.toNat % 1024 ≠ 0 →
      idleBeat s = snapshot v) ∧
  (∀ (s : State),
      s.ctr.snapBeat ≠ some s.time.beats →
      snapshot s = raise 384 (count 26 0x0C 1 (s.modCtr (fun c => { c with snapCycle := cycleCounter s, snap := c.value, snapBeat := some s.time.beats, satSeen := false, trigBeat := none }))))

/-- LEDGER_WRITE, once a beat, moves the oldest entry of the next block's queue into the ring at the next index, and an entry of severity 2 or higher
into the persist queue; LEDGER_PERSIST queues the oldest summary for the next slot, and its entry for the mark that follows the write. The life clock
writes its next slot, and the rest of the wear book reads as before. A thermal reading counts its bin and a cycle after a rise and a fall of 20
degrees; the first reading after power-on is the first extreme. A thermal trip latches THERMTRIP_N. VID_STEP moves the VID by one code within 0 to 10.
The ends of HEALTH_BIST and HEALTH_VMIN write their command's final receipt. -/
def Obligations.LedgerWearHealthEvents : Prop :=
  (∀ (b : Nat) (e : LedgerEntry) (rest : List LedgerEntry) (s : State),
      s.fabricOn = true ∧ nextLogBlock s.ledger = some b ∧ Tab.get s.ledger.queues [] b = e :: rest ∧ s.ledger.drained ≠ 1 + s.time.beats →
      exec (.ledgerWrite) s = s.becomes (s.modLedger (fun l => { l with queues := Tab.set l.queues [] b rest, turn := b, drained := 1 + s.time.beats, ring := Tab.put l.ring l.next { e with index := l.next }, next := (l.next + 1) % 4096, written := l.written + 1, wrapped := l.wrapped || decide (4096 ≤ l.written + 1), persist := toPersist { e with index := l.next } l.persist }))) ∧
  (∀ (e : LedgerEntry) (rest : List LedgerEntry) (s : State),
      s.fabricOn = true ∧ s.ledger.persist = e :: rest →
      ∃ t, exec (.ledgerPersist) s = .next t ∧ t.wear.writes = s.wear.writes ++ [(0x2000 + 32 * s.ledger.nextSlot, e.summary s.ledger.psn)] ∧ t.ledger.persist = rest ∧ t.ledger.psn = (s.ledger.psn + 1) % 65536 ∧
        t.ledger.nextSlot = (s.ledger.nextSlot + 1) % 256 ∧ t.ledger.persisting = s.ledger.persisting ++ [(0x2000 + 32 * s.ledger.nextSlot, e)] ∧ s.onlyChanges [.ledger, .wear] t) ∧
  (∀ (s : State),
      s.dev.vaux = true ∧ Memory.wf 0xFF s.wear.book = true →
      ∃ t, exec (.lifeClockHour) s = .next t ∧ t.wear.hours = s.wear.hours + 1 ∧ t.wear.hourDue = true ∧ memRead 0xFF t.wear.book (0x1000 + 16 * (s.wear.hours % 16)) 8 = bytesOf 8 64 (BitVec.ofNat 64 (s.wear.hours + 1)) ∧
        (∀ a, a < 0x1000 + 16 * (s.wear.hours % 16) ∨ 0x1000 + 16 * (s.wear.hours % 16) + 16 ≤ a → memGet 0xFF t.wear.book a = memGet 0xFF s.wear.book a) ∧ s.onlyChanges [.wear] t) ∧
  (∀ (celsius : Int) (s : State),
      s.fabricOn = true ∧ s.thermalDue = true ∧ s.wear.thermalTick ≠ 0 →
      ∃ t, exec (.thermalReading celsius) s = .next t ∧ t.wear.celsius = celsius ∧ t.wear.thermalTick = 1 + s.tick ∧ t.wear.binTicks = s.wear.binTicks + 1024 * binWeight celsius ∧ s.onlyChanges [.wear] t ∧
        t.wear.cycles = s.wear.cycles + (if s.wear.risen = true ∧ celsius ≤ s.wear.extreme - 20 then 1 else 0) ∧
        t.wear.risen = (if s.wear.risen then decide (s.wear.extreme - 20 < celsius) else decide (s.wear.extreme + 20 ≤ celsius))) ∧
  (∀ (celsius : Int) (s : State),
      s.fabricOn = true ∧ s.wear.thermalTick = 0 →
      exec (.thermalReading celsius) s = s.becomes (s.modWear (fun w => { w with celsius := celsius, thermalTick := 1 + s.tick, binTicks := w.binTicks + 1024 * binWeight celsius, extreme := celsius }))) ∧
  (∀ (s : State),
      s.dev.vaux = true ∧ s.dev.thermalTripped = false →
      exec (.thermalTrip) s = s.becomes (s.modDev (fun d => { d with thermalTripped := true }))) ∧
  (∀ (up : Bool) (s : State),
      s.fabricOn = true ∧ s.dev.vidTicks + 1024 ≤ s.tick →
      (up = true → s.dev.vid < 10) →
      (up = false → 0 < s.dev.vid) →
      exec (.vidStep up) s = s.becomes (s.modDev (fun d => { d with vid := if up then d.vid + 1 else d.vid - 1, vidTicks := s.tick }))) ∧
  (∀ (up : Bool) (s : State),
      (if up then 10 else s.dev.vid) ≤ (if up then s.dev.vid else 0) →
      exec (.vidStep up) s = s.becomes (s)) ∧
  (∀ (repairs failing mask : Nat) (rest : List Nat) (s : State),
      s.fabricOn = true ∧ s.dev.healthBist = mask :: rest ∧ failing = 0 →
      exec (.healthBistComplete repairs failing) s = s.becomes (finishFirst .bist stDone (bytesOf 4 32 (BitVec.ofNat 32 repairs) ++ bytesOf 4 32 (BitVec.ofNat 32 0))
        (gatherRepairs ((overwriteArrays mask (s.modDev (fun d => { d with healthBist := rest }))).modWear (fun w => { w with repairs := repairs }))))) ∧
  (∀ (repairs failing mask : Nat) (rest : List Nat) (s : State),
      s.fabricOn = true ∧ s.dev.healthBist = mask :: rest ∧ failing ≠ 0 →
      exec (.healthBistComplete repairs failing) s = s.becomes (finishFirst .bist stFaulted (bytesOf 4 32 (BitVec.ofNat 32 repairs) ++ bytesOf 4 32 (BitVec.ofNat 32 failing)) (logFaultSev 2 0x04 blockDevice 0xFFFF failing 0 0 0
        (gatherRepairs ((overwriteArrays mask (s.modDev (fun d => { d with healthBist := rest }))).modWear (fun w => { w with repairs := repairs })))))) ∧
  (∀ (vmin supply : Nat) (rest : List Nat) (s : State),
      s.fabricOn = true ∧ s.dev.healthVmin = supply :: rest ∧ vmin ≤ s.nominal supply →
      exec (.healthVminComplete vmin) s = s.becomes (finishFirst .vmin stDone (bytesOf 2 16 (BitVec.ofNat 16 vmin) ++ bytesOf 2 16 (BitVec.ofNat 16 (s.nominal supply - vmin)))
        (gatherValue 4 supply (s.nominal supply - vmin) (s.modDev (fun d => { d with healthVmin := rest }))))) ∧
  (∀ (vmin supply : Nat) (rest : List Nat) (s : State),
      s.fabricOn = true ∧ s.dev.healthVmin = supply :: rest ∧ s.nominal supply < vmin →
      exec (.healthVminComplete vmin) s = s.becomes (finishFirst .vmin stFaulted [] (s.modDev (fun d => { d with healthVmin := rest }))))

/-- CELL_MATCH, once a beat, takes the heads that are eligible, matches inputs to outputs, and the matched cells cross; what is staged at an egress
leaves it and each trunk in UP sends. A good tail status marks a flit's cells, a bad one removes those not marked and stomps the trunk flits that hold
them. QOS_REPLENISH is the beat of the plot's bank, once a tick, in which the refill adds each cap to its balance up to cap times burst. -/
def Obligations.SwitchEvents : Prop :=
  (∀ (s : State),
      s.fabricOn = true ∧ s.switch.matched ≠ 1 + s.time.beats →
      exec .cellMatch s = s.becomes (cellMatchOp s)) ∧
  (∀ (s u v : State),
      s.teller.returns = [] →
      s.modSwitch (fun w => { w with matched := 1 + s.time.beats }) = u →
      countBlocked u.eligible (matchBeat u.switch u.eligible).1 (u.setSwitch (matchBeat u.switch u.eligible).2) = v →
      cellMatchOp s = fillQueues (forEach (matchBeat u.switch u.eligible).1 (traverse u.eligible) (forEach ((forEach (((v.switch.staging ++ v.switch.holding).map (·.egress)).dedup) sendOut v).trunks.trunk.map (·.1)) trunkBeat (forEach (((v.switch.staging ++ v.switch.holding).map (·.egress)).dedup) sendOut v)))) ∧
  (∀ (station : Nat) (flitTag : BitVec 12) (s : State),
      station < 16 ∧ s.fabricOn = true →
      exec (.tailStatus station flitTag true) s = s.becomes (tailGood station flitTag s)) ∧
  (∀ (station : Nat) (flitTag : BitVec 12) (s : State),
      station < 16 ∧ s.fabricOn = true →
      exec (.tailStatus station flitTag false) s = s.becomes (tailBad station flitTag s)) ∧
  (∀ (station : Nat) (flitTag : BitVec 12) (s : State),
      ∃ t, tailBad station flitTag s = settleAll t ∧ t.switch.voq = s.switch.voq.filter (fun c => !c.ofFlit station flitTag) ∧
        t.switch.formed = s.switch.formed.filter (fun c => !c.ofFlit station flitTag) ∧ t.switch.staging = s.switch.staging.filter (fun c => !c.ofFlit station flitTag) ∧
        s.onlyChanges [.switch, .home, .ports, .trunks, .ctr, .evc] t) ∧
  (∀ (plot : Nat) (s : State),
      plot < 512 ∧ s.fabricOn = true ∧ (s.qos plot).replenished ≠ s.tick + 1 ∧ s.now.toNat % 1024 = plot % 64 →
      exec (.qosReplenish plot) s = s.becomes (idleBeat s)) ∧
  (∀ (plot : Nat) (s : State),
      (s.qos plot).pending = none ∧ Tab.wf s.switch.qos {} = true →
      ((replenish plot s).qos plot).readBal = BitVec.ofNat 20 (min (((s.qos plot).clamped).readBal.toNat + (s.qos plot).readCap.toNat) ((s.qos plot).readCap.toNat * (s.qos plot).burst.toNat)) ∧
        ((replenish plot s).qos plot).writeBal = BitVec.ofNat 20 (min (((s.qos plot).clamped).writeBal.toNat + (s.qos plot).writeCap.toNat) ((s.qos plot).writeCap.toNat * (s.qos plot).burst.toNat)) ∧
        (∀ p, p ≠ plot → (replenish plot s).qos p = s.qos p) ∧ s.onlyChanges [.switch] (replenish plot s)) ∧
  (∀ (s : State),
      s.heldPorts = [] →
      qosBeat s = forEach s.replenishDue replenish s) ∧
  (∀ (plot : Nat) (s : State),
      plot < 512 ∧ s.now.toNat % 1024 = plot % 64 →
      (Tab.find s.switch.qos plot).isSome = true ∧ (s.qos plot).replenished ≠ s.tick + 1 →
      plot ∈ s.replenishDue)

/-- Within its slice a line is identified by PL = idx * 2^22 + (inx >> 6), where idx and inx are what the third translation step gives; PL is 42 bits
where idx is an extent of the table; its set is PL[15:0] ^ PL[31:16] and its tag PL[41:16]. -/
def Obligations.PoolLineNumbers : Prop :=
  (∀ (b : Bed) (line : Nat),
      b.pl line = (b.locate (64 * line)).1 * 2 ^ 22 + (b.locate (64 * line)).2 >>> 6) ∧
  (∀ (idx inx : Nat),
      idx < 2 ^ 20 →
      inx < 2 ^ 28 →
      idx * 2 ^ 22 + inx >>> 6 < 2 ^ 42) ∧
  (∀ (pl : BitVec 42),
      dirSetOf pl.toNat = (pl.extractLsb' 0 16 ^^^ pl.extractLsb' 16 16).toNat ∧ dirTagOf pl.toNat = (pl.extractLsb' 16 26).toNat)

/-- A MemRd, MemRdData, MemInv, MemWr or MemWrPtl that reaches the device in L0 counts as a flit; where its address lies in a committed decoder of a
plot in ACTIVE and in the window of a mapped bed, it is charged to the plot's balances and goes to its home; where no decoder contains the address it
is answered with poison or Cmp and recorded as BAD_ACCESS with outcome 3. A request that its balances cover draws its charge and goes on; one that
they do not waits in the plot's hold queue. At its home here, a request becomes a transaction of the slice that R101 gives, from the agent of its
port. MemSpecRd is discarded. -/
def Obligations.HostRequestsAreRouted : Prop :=
  (∀ (port : Nat) (hpa : BitVec 64) (mf : MetaField) (mv : MetaValue) (snp : Bool) (p h bd off : Nat) (s u : State),
      port < 128 ∧ s.requestReaches port false = true ∧ newFlit port (flitIn port 64 s) = u →
      u.boundAt port hpa = none →
      u.reach port hpa = .backed p h bd off ∧ readable mf mv snp = true →
      u.stepOne port p false (if h = u.self then some bd else none) = false ∧ u.reachable h = true →
      exec (.memrd port hpa mf mv snp) s = s.becomes (chargeAndSubmit { port := port, hpa := hpa, flit := u.flitNow (port / 8), op := .memRd, metaField := mf, metaValue := mv, plot := p, home := h, bed := bd, off := off, placed := true } u)) ∧
  (∀ (port : Nat) (hpa : BitVec 64) (mf : MetaField) (mv : MetaValue) (snp : Bool) (s u : State),
      port < 128 ∧ s.requestReaches port false = true ∧ newFlit port (flitIn port 64 s) = u →
      u.boundAt port hpa = none →
      u.reach port hpa = .noDecoder ∧ readable mf mv snp = true →
      exec (.memrd port hpa mf mv snp) s = s.becomes (badAccess (port / 8) none port 3 hpa.toNat (refuseHost { port := port, hpa := hpa, flit := u.flitNow (port / 8), op := .memRd, metaField := mf, metaValue := mv } none u))) ∧
  (∀ (port : Nat) (hpa : BitVec 64) (p h bd off : Nat) (s u : State),
      port < 128 ∧ s.requestReaches port false = true ∧ newFlit port (flitIn port 64 s) = u →
      u.boundAt port hpa = none →
      u.reach port hpa = .backed p h bd off ∧ port < 128 →
      u.stepOne port p false (if h = u.self then some bd else none) = false ∧ u.reachable h = true →
      exec (.memrddata port hpa true) s = s.becomes (chargeAndSubmit { port := port, hpa := hpa, flit := u.flitNow (port / 8), op := .memRdData, metaValue := .S, plot := p, home := h, bed := bd, off := off, placed := true } u)) ∧
  (∀ (port : Nat) (hpa : BitVec 64) (s u : State),
      port < 128 ∧ s.requestReaches port false = true ∧ newFlit port (flitIn port 64 s) = u →
      u.boundAt port hpa = none →
      u.reach port hpa = .noDecoder ∧ port < 128 →
      exec (.memrddata port hpa true) s = s.becomes (badAccess (port / 8) none port 3 hpa.toNat (refuseHost { port := port, hpa := hpa, flit := u.flitNow (port / 8), op := .memRdData, metaValue := .S } none u))) ∧
  (∀ (port : Nat) (hpa : BitVec 64) (mf : MetaField) (mv : MetaValue) (snp nt : Bool) (p h bd off : Nat) (s u : State),
      port < 128 ∧ s.requestReaches port false = true ∧ newFlit port (flitIn port 64 s) = u →
      u.boundAt port hpa = none →
      u.reach port hpa = .backed p h bd off ∧ cleanable mf mv snp = true →
      u.stepOne port p false (if h = u.self then some bd else none) = false ∧ u.reachable h = true →
      exec (.meminv port hpa mf mv snp nt) s = s.becomes (chargeAndSubmit { port := port, hpa := hpa, flit := u.flitNow (port / 8), op := .memInv, metaField := mf, metaValue := mv, plot := p, home := h, bed := bd, off := off, placed := true } u)) ∧
  (∀ (port : Nat) (hpa : BitVec 64) (mf : MetaField) (mv : MetaValue) (snp nt : Bool) (s u : State),
      port < 128 ∧ s.requestReaches port false = true ∧ newFlit port (flitIn port 64 s) = u →
      u.boundAt port hpa = none →
      u.reach port hpa = .noDecoder ∧ cleanable mf mv snp = true →
      exec (.meminv port hpa mf mv snp nt) s = s.becomes (badAccess (port / 8) none port 3 hpa.toNat (refuseHost { port := port, hpa := hpa, flit := u.flitNow (port / 8), op := .memInv, metaField := mf, metaValue := mv } none u))) ∧
  (∀ (port : Nat) (hpa : BitVec 64) (mf : MetaField) (mv : MetaValue) (snp : Bool) (data : Line) (poison : Bool) (p h bd off : Nat) (s u : State),
      port < 128 ∧ s.requestReaches port true = true ∧ newFlit port (flitIn port 64 s) = u →
      u.boundAt port hpa = none →
      u.reach port hpa = .backed p h bd off ∧ writable mf mv snp = true →
      (u.port port).viral = false ∧ u.stepOne port p false (if h = u.self then some bd else none) = false ∧ u.reachable h = true →
      exec (.memwr port hpa mf mv snp data poison) s = s.becomes (chargeAndSubmit { port := port, hpa := hpa, flit := u.flitNow (port / 8), op := .memWr, metaField := mf, metaValue := mv, data := data, mask := fullMask, poison := poison, plot := p, home := h, bed := bd, off := off, placed := true } u)) ∧
  (∀ (port : Nat) (hpa : BitVec 64) (mf : MetaField) (mv : MetaValue) (snp : Bool) (data : Line) (poison : Bool) (s u : State),
      port < 128 ∧ s.requestReaches port true = true ∧ newFlit port (flitIn port 64 s) = u →
      u.boundAt port hpa = none →
      u.reach port hpa = .noDecoder ∧ writable mf mv snp = true →
      exec (.memwr port hpa mf mv snp data poison) s = s.becomes (badAccess (port / 8) none port 3 hpa.toNat (refuseHost { port := port, hpa := hpa, flit := u.flitNow (port / 8), op := .memWr, metaField := mf, metaValue := mv, data := data, mask := fullMask, poison := poison } none u))) ∧
  (∀ (port : Nat) (hpa : BitVec 64) (mf : MetaField) (mv : MetaValue) (snp : Bool) (data : Line) (mask : BitVec 64) (poison : Bool) (p h bd off : Nat) (s u : State),
      port < 128 ∧ s.requestReaches port true = true ∧ newFlit port (flitIn port 64 s) = u →
      u.boundAt port hpa = none →
      u.reach port hpa = .backed p h bd off ∧ writable mf mv snp = true →
      (u.port port).viral = false ∧ u.stepOne port p false (if h = u.self then some bd else none) = false ∧ u.reachable h = true →
      exec (.memwrptl port hpa mf mv snp data mask poison) s = s.becomes (chargeAndSubmit { port := port, hpa := hpa, flit := u.flitNow (port / 8), op := .memWrPtl, metaField := mf, metaValue := mv, data := data, mask := mask, poison := poison, plot := p, home := h, bed := bd, off := off, placed := true } u)) ∧
  (∀ (port : Nat) (hpa : BitVec 64) (mf : MetaField) (mv : MetaValue) (snp : Bool) (data : Line) (mask : BitVec 64) (poison : Bool) (s u : State),
      port < 128 ∧ s.requestReaches port true = true ∧ newFlit port (flitIn port 64 s) = u →
      u.boundAt port hpa = none →
      u.reach port hpa = .noDecoder ∧ writable mf mv snp = true →
      exec (.memwrptl port hpa mf mv snp data mask poison) s = s.becomes (badAccess (port / 8) none port 3 hpa.toNat (refuseHost { port := port, hpa := hpa, flit := u.flitNow (port / 8), op := .memWrPtl, metaField := mf, metaValue := mv, data := data, mask := mask, poison := poison } none u))) ∧
  (∀ (port : Nat) (hpa : BitVec 64) (s u : State),
      port < 128 ∧ s.requestReaches port false = true →
      newFlit port (flitIn port 64 s) = u ∧ u.boundAt port hpa = none →
      exec (.memspecrd port hpa) s = s.becomes u) ∧
  (∀ (r : HeldReq) (u : State),
      r.charge ≠ (0, 0) ∧ (u.qos r.plot).covers r.charge = true →
      (u.qos r.plot).readHeld = [] ∧ (u.qos r.plot).writeHeld = [] →
      chargeAndSubmit r u = submit r false (u.modQos r.plot (fun q => q.draw r.charge))) ∧
  (∀ (r : HeldReq) (u : State),
      r.charge ≠ (0, 0) ∧ (u.qos r.plot).covers r.charge = false →
      r.write = false →
      chargeAndSubmit r u = plotCount r.plot 14 1 ((countPort r.port 0x0B 1 u).modQos r.plot (fun q => { q with readHeld := q.readHeld ++ [r] }))) ∧
  (∀ (r : HeldReq) (u : State),
      r.charge ≠ (0, 0) ∧ (u.qos r.plot).covers r.charge = false →
      r.write = true →
      chargeAndSubmit r u = plotCount r.plot 15 1 ((countPort r.port 0x0B 1 u).modQos r.plot (fun q => { q with writeHeld := q.writeHeld ++ [r] }))) ∧
  (∀ (r : HeldReq) (u : State) (a : Nat),
      r.home = u.self ∧ u.agentOf u.self r.port = some a →
      submit r false u = arriveAtHome (sliceOf r.bed (r.off / 64)) (r.txn (countRequest r u) a false) (countRequest r u)) ∧
  (∀ (r : HeldReq) (u : State) (a : Nat),
      r.op = .memRd ∧ r.metaField = .meta0 ∧ r.metaValue = .A →
      (r.txn u a false).cls = .rdA ∧ (r.txn u a false).req = .agent a ∧ (r.txn u a false).bed = r.bed ∧ (r.txn u a false).line = r.off / 64 ∧ (r.txn u a false).pl = (u.bed r.bed).pl (r.off / 64))

/-- A read, a write of up to one line and an AtomicOp of 4 or 8 bytes (CAS of 16 too) that reaches the aperture counts as an I/O request, and goes on
as an access to the DPA that is its offset; another size completes as unsupported and is noted in AER; one that is not naturally aligned is discarded
and noted in AER. That a misaligned one is so discarded is the model's reading (log 28). -/
def Obligations.AtomicAperture : Prop :=
  (∀ (port vppb : Nat) (offset : BitVec 64) (op : AtomOp) (size : Nat) (a b : BitVec 128) (p : Nat) (s u : State),
      port < 128 ∧ vppb < 17 ∧ s.apertureReaches port = true ∧ inAperture offset = true ∧ newFlit port (portCount port 14 1 s) = u →
      atomicAccepted op size = true ∧ offset.toNat % size = 0 ∧ u.plotAt port vppb = some p →
      exec (.atomicop port vppb offset op size a b) s = s.becomes (routeRequest { port := port, hpa := offset, flit := u.flitNow (port / 8), vppb := vppb, op := .atom, atomOp := op, size := size, a := a, b := b, io := true } true (u.reachDpa p offset.toNat) u)) ∧
  (∀ (port vppb : Nat) (offset : BitVec 64) (op : AtomOp) (size : Nat) (a b : BitVec 128) (s u : State),
      port < 128 ∧ vppb < 17 ∧ s.apertureReaches port = true ∧ inAperture offset = true ∧ newFlit port (portCount port 14 1 s) = u →
      atomicAccepted op size = false →
      exec (.atomicop port vppb offset op size a b) s = s.becomes (unsupportedIo port (18 + vppb) true u)) ∧
  (∀ (port vppb : Nat) (offset : BitVec 64) (op : AtomOp) (size : Nat) (a b : BitVec 128) (s u : State),
      port < 128 ∧ vppb < 17 ∧ s.apertureReaches port = true ∧ inAperture offset = true ∧ newFlit port (portCount port 14 1 s) = u →
      atomicAccepted op size = true ∧ offset.toNat % size ≠ 0 →
      exec (.atomicop port vppb offset op size a b) s = s.becomes (noteAer port (18 + vppb) true 18 u)) ∧
  (∀ (port vppb : Nat) (offset : BitVec 64) (p : Nat) (s u : State),
      port < 128 ∧ vppb < 17 ∧ s.apertureReaches port = true ∧ inAperture offset = true ∧ newFlit port (portCount port 14 1 s) = u →
      u.plotAt port vppb = some p →
      exec (.apertureRead port vppb offset) s = s.becomes (routeRequest { port := port, hpa := offset, flit := u.flitNow (port / 8), vppb := vppb, op := .memRd, metaField := .noOp, io := true } true (u.reachDpa p offset.toNat) u)) ∧
  (∀ (port vppb : Nat) (offset : BitVec 64) (data : Line) (mask : BitVec 64) (p : Nat) (s u : State),
      port < 128 ∧ vppb < 17 ∧ s.apertureReaches port = true ∧ inAperture offset = true ∧ newFlit port (portCount port 14 1 s) = u →
      u.plotAt port vppb = some p →
      exec (.apertureWrite port vppb offset data mask) s = s.becomes (routeRequest { port := port, hpa := offset, flit := u.flitNow (port / 8), vppb := vppb, op := .memWrPtl, data := data, mask := mask, io := true } true (u.reachDpa p offset.toNat) u))

/-- A BIRspI, BIRspS or BIRspE whose address the ingress takes to a line of a bed whose home is here crosses as a response cell to the line's slice,
where it is matched to its snoop; one that answers no open snoop is counted and changes nothing else; one that names no line is dropped. A BIConflict
is answered with BIConflictAck, by the home slice, to which it crosses as a cell, where its line is known and by the ingress where it is not. -/
def Obligations.SnoopAnswersOfHosts : Prop :=
  (∀ (port : Nat) (hpa : BitVec 64) (bd line a plot : Nat) (d : Nat × Nat) (s u : State),
      port < 128 ∧ s.memReaches port clsResponse = true ∧ newFlit port (flitIn port 64 s) = u →
      u.boundAt port hpa = none ∧ u.lineAt port hpa = some (u.self, bd, line) ∧ u.agentOf u.self port = some a →
      u.decode port hpa = some d ∧ u.plotAt port d.1 = some plot →
      exec (.birspi port hpa) s = s.becomes (enqueueCell { src := port / 8, dst := 16 + sliceOf bd line, cls := clsResponse, length := 16, bed := bd, offset := 64 * line, home := u.self, plot := some plot, agent := a, items := [.answer a ((u.bed bd).pl line) .rspI] } u)) ∧
  (∀ (port : Nat) (hpa : BitVec 64) (bd line a plot : Nat) (d : Nat × Nat) (s u : State),
      port < 128 ∧ s.memReaches port clsResponse = true ∧ newFlit port (flitIn port 64 s) = u →
      u.boundAt port hpa = none ∧ u.lineAt port hpa = some (u.self, bd, line) ∧ u.agentOf u.self port = some a →
      u.decode port hpa = some d ∧ u.plotAt port d.1 = some plot →
      exec (.birsps port hpa) s = s.becomes (enqueueCell { src := port / 8, dst := 16 + sliceOf bd line, cls := clsResponse, length := 16, bed := bd, offset := 64 * line, home := u.self, plot := some plot, agent := a, items := [.answer a ((u.bed bd).pl line) .rspS] } u)) ∧
  (∀ (port : Nat) (hpa : BitVec 64) (bd line a plot : Nat) (d : Nat × Nat) (s u : State),
      port < 128 ∧ s.memReaches port clsResponse = true ∧ newFlit port (flitIn port 64 s) = u →
      u.boundAt port hpa = none ∧ u.lineAt port hpa = some (u.self, bd, line) ∧ u.agentOf u.self port = some a →
      u.decode port hpa = some d ∧ u.plotAt port d.1 = some plot →
      exec (.birspe port hpa) s = s.becomes (enqueueCell { src := port / 8, dst := 16 + sliceOf bd line, cls := clsResponse, length := 16, bed := bd, offset := 64 * line, home := u.self, plot := some plot, agent := a, items := [.answer a ((u.bed bd).pl line) .rspE] } u)) ∧
  (∀ (sl a pl : Nat) (op : MsgOp) (s : State),
      (s.slice sl).awaits a pl = none →
      snoopAnswer sl a pl op s = count (16 + sl) 0x0B 1 s) ∧
  (∀ (port : Nat) (hpa : BitVec 64) (s u : State),
      port < 128 ∧ s.memReaches port clsResponse = true ∧ newFlit port (flitIn port 64 s) = u →
      u.boundAt port hpa = none ∧ u.lineAt port hpa = none →
      exec (.birspi port hpa) s = s.becomes (u)) ∧
  (∀ (port : Nat) (hpa : BitVec 64) (s u : State),
      port < 128 ∧ s.memReaches port clsResponse = true ∧ newFlit port (flitIn port 64 s) = u →
      u.boundAt port hpa = none ∧ u.lineAt port hpa = none →
      exec (.biconflict port hpa) s = s.becomes (ingressRespond port none none { op := .biConflictAck, addr := hpa } u)) ∧
  (∀ (port : Nat) (hpa : BitVec 64) (bd line a plot : Nat) (d : Nat × Nat) (s u : State),
      port < 128 ∧ s.memReaches port clsResponse = true ∧ newFlit port (flitIn port 64 s) = u →
      u.boundAt port hpa = none ∧ u.lineAt port hpa = some (u.self, bd, line) ∧ u.agentOf u.self port = some a →
      u.decode port hpa = some d ∧ u.plotAt port d.1 = some plot →
      exec (.biconflict port hpa) s = s.becomes (enqueueCell { src := port / 8, dst := 16 + sliceOf bd line, cls := clsResponse, length := 16, bed := bd, offset := 64 * line, home := u.self, plot := some plot, agent := a, items := [.conflict a bd line plot hpa] } (plotCount plot 10 1 u)))

/-- DEV_IDENTIFY and DEV_STATUS answer DONE with their results and change nothing else; DEV_SET_MODE to another mode that the table allows begins the
transition and ends QUEUED, and to the present mode ends DONE with the mode byte; DEV_RESET asks for the reset of its scope at the next tick boundary;
DEV_SET_NUMBER sets the number in the device and in the wear book; the key-slot commands, which are guarded, are staged as proposals, and when they
run they replace or clear a slot in the device and in the wear book, where DEV_REVOKE_KEY_SLOT leaves another valid slot. Each clause about exec is
about a command that passes steps 1 to 6 of R357 in the state as it stands. -/
def Obligations.DeviceCommandsRun : Prop :=
  (∀ (s : State) (ring : Nat),
      s.passes 0x0101 ring = true →
      exec (.devIdentify ring) s = s.endsWith ring stDone (bytesOf 6 48 Config.serial ++ [0xA0, BitVec.ofNat 8 s.self] ++
        bytesOf 6 48 (if s.pair.state = .unpaired then 0 else s.hostSerial)) (s.taken ring)) ∧
  (∀ (s : State) (ring : Nat),
      s.passes 0x0102 ring = true →
      exec (.devStatus ring) s = s.endsWith ring stDone ([BitVec.ofNat 8 (modeCode s.dev.mode), BitVec.ofNat 8 s.pair.state.code,
          BitVec.ofNat 8 (bit s.pair.recovery + 2 * bit s.time.coarse + 4 * bit s.power.brownout + 8 * bit s.dev.slotHold),
          BitVec.ofNat 8 s.teller.proposals.length] ++ bytesOf 4 32 s.time.overrun ++ bytesOf 4 32 s.time.seasonNum) (s.taken ring)) ∧
  (∀ (s : State) (ring : Nat) (m : Mode),
      s.passes 0x0103 ring = true →
      ring ≠ 15 →
      modeOfCode ((s.front ring).byte 16) = some m →
      m ≠ .sprout ∧ m ≠ .shadow ∧ m ≠ s.dev.mode →
      s.dev.transition = none ∧ s.dev.dormantDue = false →
      (modeRefusal m s).all (fun x => !x.1) = true →
      exec (.devSetMode ring) s = s.isQueued ring (.mode)
        (fun t => if m = .dormant then startDormant t else t.modDev (fun d => { d with transition := some { target := m, started := t.tick } }))) ∧
  (∀ (s : State) (ring : Nat),
      s.passes 0x0103 ring = true →
      modeOfCode ((s.front ring).byte 16) = some s.dev.mode →
      s.dev.mode ≠ .sprout ∧ s.dev.mode ≠ .shadow →
      s.dev.transition = none ∧ s.dev.dormantDue = false →
      exec (.devSetMode ring) s = s.endsWith ring stDone ([BitVec.ofNat 8 (modeCode s.dev.mode)]) (s.taken ring)) ∧
  (∀ (s : State) (ring : Nat),
      s.passes 0x0104 ring = true →
      1 ≤ (s.front ring).byte 16 ∧ (s.front ring).byte 16 ≤ 3 →
      s.hasJob (fun k => decide (k = .mode ∨ k = .modeRecord)) = false →
      exec (.devReset ring) s = s.endsWith ring stDone ([]) ((s.taken ring).modDev (fun d =>
        { d with resetDue := some (if (s.front ring).byte 16 = 1 then .warm else if (s.front ring).byte 16 = 2 then .fabric else .steward) }))) ∧
  (∀ (s : State) (ring : Nat),
      s.passes 0x0105 ring = true →
      (s.front ring).byte 16 ≤ 15 →
      s.pair.state = .unpaired →
      s.trunks.trunk.any (fun e => decide (e.2.state ≠ .down ∧ e.2.state ≠ .broken)) = false →
      exec (.devSetNumber ring) s = s.endsWith ring stDone ([]) (((s.taken ring).modDev (fun d => { d with number := BitVec.ofNat 4 ((s.front ring).byte 16) })).modRecords
        (fun r => { r with number := BitVec.ofNat 4 ((s.front ring).byte 16) }))) ∧
  (∀ (s : State) (ring : Nat),
      s.passes 0x0106 ring = true →
      exec (.devSetKeySlot ring) s = s.isStaged ring) ∧
  (∀ (u : State) (c : Command),
      c.opcode.toNat = 0x0106 →
      c.byte 16 ≤ 3 →
      c.byte 17 = 1 →
      runOp c u = (.final stDone [], (u.modSteward (fun x => { x with keys := Tab.set x.keys {} (c.byte 16) { valid := true, algorithm := 1, digest := BitVec.ofNat 256 (c.num 24 32) } })).modRecords
        (fun r => { r with keys := Tab.set r.keys {} (c.byte 16) { valid := true, algorithm := 1, digest := BitVec.ofNat 256 (c.num 24 32) } }))) ∧
  (∀ (s : State) (ring : Nat),
      s.passes 0x0107 ring = true →
      exec (.devRevokeKeySlot ring) s = s.isStaged ring) ∧
  (∀ (u : State) (c : Command),
      c.opcode.toNat = 0x0107 →
      c.byte 16 ≤ 3 →
      u.steward.keys.any (fun e => decide (e.1 ≠ c.byte 16) && e.2.valid) = true →
      runOp c u = (.final stDone [], (u.modSteward (fun x => { x with keys := Tab.set x.keys {} (c.byte 16) {} })).modRecords
        (fun r => { r with keys := Tab.set r.keys {} (c.byte 16) {} }))) ∧
  (∀ (u : State) (c : Command),
      c.opcode.toNat = 0x0107 →
      u.steward.keys.any (fun e => decide (e.1 ≠ c.byte 16) && e.2.valid) = false →
      runOp c u = (.final stInvalidParam [], u))

/-- PLOT_CONFIGURE makes a FREE plot CONFIGURED on a free vPPB of an UPSTREAM port; PLOT_RELEASE, which ends a command still queued, PLOT_MAP_BED of a
bed of this device that the plot maps already, PLOT_UNMAP_BED and PLOT_SET_SANITIZE change the plot; PLOT_ENABLE enables a CONFIGURED plot;
PLOT_DISABLE and PLOT_RESET of an ACTIVE plot begin its drain; PLOT_RESET of a CONFIGURED plot clears its fault flag; a PLOT_ENABLE or PLOT_RESET of a
plot that drains or sanitises is QUEUED in the plot; PLOT_SET_QOS notes the values for the next replenishment; PLOT_READ answers the plot and its QoS
entry. Guarded rows are staged, rows of R381 wait for the tick boundary. -/
def Obligations.PlotCommandsRun : Prop :=
  (∀ (s : State) (ring : Nat),
      s.passes 0x0201 ring = true →
      exec (.plotConfigure ring) s = s.isStaged ring) ∧
  (∀ (u : State) (c : Command),
      c.opcode.toNat = 0x0201 →
      (u.plot c.plotField).state = .free →
      c.byte 17 ≤ 7 ∧ c.byte 16 ≤ 127 ∧ (u.port (c.byte 16)).upstream = true →
      u.plotAt (c.byte 16) (c.byte 17) = none →
      runOp c u = (.final stDone [], clearLive (plotStat c.plotField 0) 32 (u.modPlot c.plotField (fun x =>
        { x with state := .configured, port := BitVec.ofNat 7 (c.byte 16), vcsSlot := BitVec.ofNat 3 (c.byte 17) })))) ∧
  (∀ (s : State) (ring : Nat),
      s.passes 0x0202 ring = true →
      exec (.plotRelease ring) s = s.isStaged ring) ∧
  (∀ (u : State) (c : Command),
      c.opcode.toNat = 0x0202 →
      (u.plot c.plotField).state = .configured →
      runOp c u = (.final stDone [], (((finishJob (.plotQueued c.plotField) stNotInMode [] (unbindPlot c.plotField (forEach ((u.plot c.plotField).validSlots.map (·.1)) (unmapOne c.plotField) u))).modPlot c.plotField
        (fun x => { nextHandle := x.nextHandle })).modQos c.plotField (fun _ => {})))) ∧
  (∀ (s : State) (ring : Nat),
      s.passes 0x0203 ring = true →
      exec (.plotMapBed ring) s = s.isStaged ring) ∧
  (∀ (u : State) (c : Command),
      c.opcode.toNat = 0x0203 →
      (u.plot c.plotField).moving = false ∧ (u.plot c.plotField).state ≠ .free →
      c.byte 16 ≤ 7 ∧ c.byte 17 = u.self ∧ c.num 18 2 ≤ 4095 ∧ c.num 20 4 < 2 ^ 17 →
      ((u.plot c.plotField).slot (c.byte 16)).valid = false ∧ u.pool.remoteMaps = [] →
      (u.bed (c.num 18 2)).state = .defined →
      (u.plot c.plotField).windowFree (c.byte 16) (c.num 20 4) (u.bed (c.num 18 2)).span.toNat (u.bed (c.num 18 2)).ways.toNat = true →
      u.portMaps c.plotField u.self (c.num 18 2) = false →
      (u.plot c.plotField).maps u.self (c.num 18 2) = true →
      runOp c u = (.final stDone [], putSlot c.plotField (c.byte 16) u.self (c.num 18 2) (c.num 20 4) (u.bed (c.num 18 2)).span.toNat 0 0 u)) ∧
  (∀ (s : State) (ring : Nat),
      s.passes 0x0204 ring = true →
      exec (.plotUnmapBed ring) s = s.isStaged ring) ∧
  (∀ (u : State) (c : Command),
      c.opcode.toNat = 0x0204 →
      (u.plot c.plotField).moving = false ∧ (u.plot c.plotField).state ≠ .free →
      c.byte 16 ≤ 7 ∧ ((u.plot c.plotField).slot (c.byte 16)).valid = true →
      (u.plot c.plotField).state ≠ .active ∨ ((u.plot c.plotField).slot (c.byte 16)).accepted = 0 →
      runOp c u = (.final stDone [], ((unmapOne c.plotField (c.byte 16) u).modPlot c.plotField (fun x => { x with events := x.events.filter (fun e => e.slot ≠ c.byte 16) })))) ∧
  (∀ (s u : State) (c : Command) (ring : Nat),
      s.passes 0x0205 ring = true →
      s.front ring = c →
      s.taken ring = u →
      (u.plot c.plotField).state = .configured →
      exec (.plotEnable ring) s = s.waitsForBoundary ring) ∧
  (∀ (u : State) (c : Command),
      c.opcode.toNat = 0x0205 →
      (u.plot c.plotField).state = .configured →
      runOp c u = (.final stDone [], enablePlot c.plotField u)) ∧
  (∀ (s : State) (c : Command) (ring : Nat),
      s.passes 0x0205 ring = true →
      s.front ring = c →
      (s.plot c.plotField).moving = true ∧ (s.plot c.plotField).queued = .none →
      exec (.plotEnable ring) s = s.isQueued ring (.plotQueued c.plotField)
        (fun t => t.modPlot c.plotField (fun x => { x with queued := .enable, queuedRing := BitVec.ofNat 4 c.ring, queuedTag := c.tag }))) ∧
  (∀ (s u : State) (c : Command) (ring : Nat),
      s.passes 0x0206 ring = true →
      s.front ring = c →
      s.taken ring = u →
      (u.plot c.plotField).state = .active →
      exec (.plotDisable ring) s = s.isQueuedForBoundary ring) ∧
  (∀ (u : State) (c : Command),
      c.opcode.toNat = 0x0206 →
      (u.plot c.plotField).state = .active →
      runOp c u = (.queued (.plot c.plotField), startDrain c.plotField false false u)) ∧
  (∀ (s u : State) (c : Command) (ring : Nat),
      s.passes 0x0207 ring = true →
      s.front ring = c →
      s.taken ring = u →
      (u.plot c.plotField).state = .configured →
      exec (.plotReset ring) s = s.waitsForBoundary ring) ∧
  (∀ (u : State) (c : Command),
      c.opcode.toNat = 0x0207 →
      (u.plot c.plotField).state = .configured →
      runOp c u = (.final stDone [], u.modPlot c.plotField (fun x => { x with fault := false }))) ∧
  (∀ (s u : State) (c : Command) (ring : Nat),
      s.passes 0x0207 ring = true →
      s.front ring = c →
      s.taken ring = u →
      (u.plot c.plotField).state = .active →
      exec (.plotReset ring) s = s.isQueuedForBoundary ring) ∧
  (∀ (u : State) (c : Command),
      c.opcode.toNat = 0x0207 →
      (u.plot c.plotField).state = .active →
      runOp c u = (.queued (.plot c.plotField), startDrain c.plotField true (decide (c.byte 16 % 2 = 1)) u)) ∧
  (∀ (s : State) (ring : Nat),
      s.passes 0x0208 ring = true →
      exec (.plotSetSanitize ring) s = s.isStaged ring) ∧
  (∀ (u : State) (c : Command),
      c.opcode.toNat = 0x0208 →
      (u.plot c.plotField).state = .configured →
      runOp c u = (.final stDone [], u.modPlot c.plotField (fun x => { x with sanitizeOff := decide (c.byte 16 % 2 = 1) }))) ∧
  (∀ (s u : State) (c : Command) (ring : Nat),
      s.passes 0x0209 ring = true →
      s.front ring = c →
      s.taken ring = u →
      c.num 16 2 = 0 ∨ 4 ≤ c.num 16 2 →
      c.num 18 2 = 0 ∨ 4 ≤ c.num 18 2 →
      1 ≤ c.byte 20 ∧ c.byte 20 ≤ 15 ∧ c.byte 21 ≠ 0 →
      (u.plot c.plotField).moving = false ∧ (u.plot c.plotField).state ≠ .free →
      exec (.plotSetQos ring) s = s.endsWith ring stDone ([]) (u.modQos c.plotField (fun q => { q with pending := some (c.num 16 2, c.num 18 2, c.byte 20, c.byte 21) }))) ∧
  (∀ (s u : State) (c : Command) (ring : Nat),
      s.passes 0x020A ring = true →
      s.front ring = c →
      s.taken ring = u →
      exec (.plotRead ring) s = s.endsWith ring stDone (plotBytes u c.plotField ++ bytesOf 16 128 (BitVec.ofNat 128 (u.qos c.plotField).image)) u)

/-- BED_DEFINE makes a FREE bed DEFINED with the attributes that the command names; BED_UNDEFINE begins the release of a bed that no plot maps and no
device may map; BED_SET_POLICY changes policy and ripening, and scans the vault where the policy changes; BED_GROW and BED_SHRINK begin a change of
the count; BED_EXPORT permits or forbids a device; EXTENT_DEFINE, of capacity that the LD has and behind a decoder 0 that is programmed (log 85),
starts the scan of the table; EXTENT_UNDEFINE frees a DEFINED extent; EXTENT_CLEAR_FAILED zeroes a FAILED one; the read rows answer the bed or the
extent. An index of an extent that the table does not have is refused with INVALID_PARAMETER. -/
def Obligations.BedAndExtentCommandsRun : Prop :=
  (∀ (s : State) (ring : Nat),
      s.passes 0x0301 ring = true →
      exec (.bedDefine ring) s = s.isStaged ring) ∧
  (∀ (u : State) (c : Command),
      c.opcode.toNat = 0x0301 →
      c.num 16 2 ≤ 4095 →
      1 ≤ c.num 18 2 ∧ c.num 18 2 ≤ 16384 ∧ c.num 20 4 + c.num 18 2 ≤ 2 ^ 20 →
      c.byte 25 ≤ 4 ∧ c.byte 26 ≤ 6 ∧ c.num 18 2 % 2 ^ c.byte 25 = 0 →
      1 ≤ c.num 28 2 ∧ c.num 28 2 ≤ 953 →
      c.byte 24 / 2 % 4 ≤ 1 ∨ (c.byte 24 / 2 % 4 = 2 ∧ c.byte 24 % 2 = 1) →
      u.spanTaken (c.num 16 2) (c.num 20 4) (c.num 18 2) = false →
      (u.bed (c.num 16 2)).state = .free →
      runOp c u = (.final stDone [], u.modBed (c.num 16 2) (fun _ =>
        { state := .defined, mosi := decide (c.byte 24 % 2 = 1), vault := policyOf (c.byte 24 / 2 % 4), async := decide (c.byte 24 / 8 % 2 = 1),
          ways := BitVec.ofNat 3 (c.byte 25), gran := BitVec.ofNat 3 (c.byte 26), ripen := BitVec.ofNat 10 (c.num 28 2),
          base := BitVec.ofNat 20 (c.num 20 4), span := BitVec.ofNat 15 (c.num 18 2) }))) ∧
  (∀ (s : State) (c : Command) (ring : Nat),
      s.passes 0x0302 ring = true →
      s.front ring = c →
      c.num 16 2 ≤ 4095 →
      (s.bed (c.num 16 2)).state = .defined ∧ (s.bed (c.num 16 2)).mapCount = 0 ∧ (s.bed (c.num 16 2)).exports = [] →
      exec (.bedUndefine ring) s = s.isQueued ring (.bedUndefine (c.num 16 2))
        (fun t => releaseBed (c.num 16 2) t)) ∧
  (∀ (s u : State) (c : Command) (ring : Nat),
      s.passes 0x0303 ring = true →
      s.front ring = c →
      s.taken ring = u →
      c.num 16 2 ≤ 4095 ∧ c.byte 18 ≤ 2 ∧ 1 ≤ c.num 20 2 ∧ c.num 20 2 ≤ 953 →
      (c.byte 18 = 2 → (u.bed (c.num 16 2)).mosi = true) →
      (u.bed (c.num 16 2)).state = .defined ∧ (u.bed (c.num 16 2)).policyScan = [] →
      exec (.bedSetPolicy ring) s = s.isQueuedForBoundary ring) ∧
  (∀ (u : State) (c : Command),
      c.opcode.toNat = 0x0303 →
      c.num 16 2 ≤ 4095 ∧ c.byte 18 ≤ 2 ∧ 1 ≤ c.num 20 2 ∧ c.num 20 2 ≤ 953 →
      (c.byte 18 = 2 → (u.bed (c.num 16 2)).mosi = true) →
      (u.bed (c.num 16 2)).state = .defined ∧ (u.bed (c.num 16 2)).policyScan = [] →
      runOp c u = (.queued (.policy (c.num 16 2)), if policyOf (c.byte 18) = (u.bed (c.num 16 2)).vault then
        finishJob (.policy (c.num 16 2)) stDone [] (u.modBed (c.num 16 2) (fun x => { x with vault := policyOf (c.byte 18), ripen := BitVec.ofNat 10 (c.num 20 2) }))
      else (u.modBed (c.num 16 2) (fun x => { x with vault := policyOf (c.byte 18), ripen := BitVec.ofNat 10 (c.num 20 2) })).modBed (c.num 16 2)
          (fun x => { x with policyScan := List.range 8, policyStart := u.time.beats, policySets := 0 }))) ∧
  (∀ (s : State) (ring : Nat),
      s.passes 0x0304 ring = true →
      exec (.bedGrow ring) s = s.isStaged ring) ∧
  (∀ (u : State) (c : Command),
      c.opcode.toNat = 0x0304 →
      c.num 16 2 ≤ 4095 →
      (u.bed (c.num 16 2)).state = .defined ∧ (u.bed (c.num 16 2)).resize = none →
      (u.bed (c.num 16 2)).count.toNat + c.num 18 2 * 2 ^ (u.bed (c.num 16 2)).ways.toNat ≤ (u.bed (c.num 16 2)).span.toNat →
      ((u.bed (c.num 16 2)).joining (c.num 18 2)).all (fun i => decide ((u.extent i).state = .defined)) = true →
      runOp c u = (.queued (.grow (c.num 16 2)), forEach ((u.bed (c.num 16 2)).joining (c.num 18 2)) (fun i t => t.modExtent i (fun e => if e.zeroed then e else { e with state := .zeroing, toBound := false }))
        (u.modBed (c.num 16 2) (fun x => { x with resize := some { grow := true, sets := c.num 18 2 } })))) ∧
  (∀ (s : State) (c : Command) (ring : Nat),
      s.passes 0x0305 ring = true →
      s.front ring = c →
      c.num 16 2 ≤ 4095 →
      (s.bed (c.num 16 2)).state = .defined ∧ (s.bed (c.num 16 2)).resize = none →
      c.num 18 2 ≤ (s.bed (c.num 16 2)).count.toNat / 2 ^ (s.bed (c.num 16 2)).ways.toNat →
      ((s.bed (c.num 16 2)).leaving (c.num 18 2)).all (fun i => decide ((s.extent i).state ≠ .migrating)) = true →
      exec (.bedShrink ring) s = s.isQueued ring (.shrink (c.num 16 2))
        (fun t => let b := (t.bed (c.num 16 2)); let n := b.count.toNat / 2 ^ b.ways.toNat; let left := b.count.toNat - c.num 18 2 * 2 ^ b.ways.toNat
          let users := (t.bedUsers (c.num 16 2)).filter (fun q => (decide (512 ≤ q) && decide (0 < c.num 18 2)) || t.covers q (c.num 16 2) left)
          let limit := if c.num 24 4 = 0 then 1048576 else c.num 24 4
          bedCapacity (c.num 16 2) 1 (n - c.num 18 2) n left users (t.modBed (c.num 16 2) (fun x => { x with resize := some { grow := false, sets := c.num 18 2, force := decide (c.byte 20 % 2 = 1), deadline := t.tick + limit, waiting := users } })))) ∧
  (∀ (s : State) (ring : Nat),
      s.passes 0x0306 ring = true →
      exec (.bedExport ring) s = s.isStaged ring) ∧
  (∀ (u : State) (c : Command),
      c.opcode.toNat = 0x0306 →
      c.num 16 2 ≤ 4095 ∧ c.byte 18 ≤ 15 →
      (u.bed (c.num 16 2)).state = .defined →
      c.byte 19 % 2 = 1 →
      (u.bed (c.num 16 2)).remote.any (fun r => decide (r.1 = c.byte 18)) = false →
      runOp c u = (.final stDone [], u.modBed (c.num 16 2) (fun x => { x with exports := (u.bed (c.num 16 2)).exports.filter (· ≠ BitVec.ofNat 4 (c.byte 18)) }))) ∧
  (∀ (u : State) (c : Command),
      c.opcode.toNat = 0x0306 →
      c.num 16 2 ≤ 4095 ∧ c.byte 18 ≤ 15 →
      (u.bed (c.num 16 2)).state = .defined →
      c.byte 19 % 2 = 0 →
      (u.bed (c.num 16 2)).exports.contains (BitVec.ofNat 4 (c.byte 18)) = false →
      runOp c u = (.final stDone [], u.modBed (c.num 16 2) (fun x => { x with exports := (u.bed (c.num 16 2)).exports ++ [BitVec.ofNat 4 (c.byte 18)] }))) ∧
  (∀ (s u : State) (c : Command) (ring : Nat),
      s.passes 0x0307 ring = true →
      s.front ring = c →
      s.taken ring = u →
      c.num 16 2 ≤ 4095 →
      exec (.bedRead ring) s = s.endsWith ring stDone (bytesOf 32 256 (BitVec.ofNat 256 (u.bed (c.num 16 2)).image)) u) ∧
  (∀ (s : State) (c : Command) (ring : Nat),
      s.passes 0x0308 ring = true →
      s.front ring = c →
      c.num 16 4 < 2 ^ 20 ∧ c.byte 20 ≤ 127 ∧ c.byte 21 ≤ 15 ∧ c.num 24 4 < 2 ^ 20 →
      (s.port (c.byte 20)).downstream = true →
      s.ldBound (c.byte 20) (c.byte 21) = false →
      (s.extent (c.num 16 4)).state = .free ∧ Tab.find s.pool.defining (c.num 16 4) = none →
      s.capacityHas { port := BitVec.ofNat 7 (c.byte 20), ld := BitVec.ofNat 4 (c.byte 21), dpaBase := BitVec.ofNat 20 (c.num 24 4) } = true ∧ (Tab.find (s.port (c.byte 20)).decoder0 (c.byte 21)).isSome = true →
      exec (.extentDefine ring) s = s.isQueued ring (.extentDefine (c.num 16 4))
        (fun t => t.modPool (fun x => { x with defining := Tab.put x.defining (c.num 16 4) ({ port := BitVec.ofNat 7 (c.byte 20), ld := BitVec.ofNat 4 (c.byte 21), dpaBase := BitVec.ofNat 20 (c.num 24 4) }, t.tick) }))) ∧
  (∀ (s u : State) (c : Command) (ring : Nat),
      s.passes 0x0309 ring = true →
      s.front ring = c →
      s.taken ring = u →
      c.num 16 4 < 2 ^ 20 →
      (u.extent (c.num 16 4)).state = .defined ∧ u.migTarget (c.num 16 4) = false ∧ u.growing (c.num 16 4) = false →
      exec (.extentUndefine ring) s = s.waitsForBoundary ring) ∧
  (∀ (u : State) (c : Command),
      c.opcode.toNat = 0x0309 →
      c.num 16 4 < 2 ^ 20 →
      (u.extent (c.num 16 4)).state = .defined ∧ u.migTarget (c.num 16 4) = false ∧ u.growing (c.num 16 4) = false →
      runOp c u = (.final stDone [], u.modExtent (c.num 16 4) (fun _ => {}))) ∧
  (∀ (s : State) (c : Command) (ring : Nat),
      s.passes 0x030A ring = true →
      s.front ring = c →
      c.num 16 4 < 2 ^ 20 →
      (s.extent (c.num 16 4)).state = .failed →
      exec (.extentClearFailed ring) s = s.isQueued ring (.extentClear (c.num 16 4))
        (fun t => t.modExtent (c.num 16 4) (fun e => { e with state := .zeroing, zeroed := false, toBound := t.inBed (c.num 16 4) }))) ∧
  (∀ (s u : State) (c : Command) (ring : Nat),
      s.passes 0x030B ring = true →
      s.front ring = c →
      s.taken ring = u →
      c.num 16 4 < 2 ^ 20 →
      exec (.extentRead ring) s = s.endsWith ring stDone (bytesOf 16 128 (BitVec.ofNat 128 (u.extent (c.num 16 4)).image)) u) ∧
  (∀ (s u : State) (c : Command) (ring : Nat),
      s.passes 0x030B ring = true →
      s.front ring = c →
      s.taken ring = u →
      2 ^ 20 ≤ c.num 16 4 →
      exec (.extentRead ring) s = s.endsWith ring stInvalidParam ([]) u)

/-- PORT_SET_ROLE, which is guarded, gives a station the layout of its block where R204 to R206 allow it; PORT_SET_LINK, PORT_RETRAIN,
PORT_SET_IDE_KEY and PORT_SET_LOAD_THRESHOLDS change the port at the tick boundary; PORT_BIND_LD and PORT_UNBIND_LD change a vPPB when they commit,
and with it who programs decoder 0 of the LD; PORT_PREPARE_REMOVAL begins the removal steps and is QUEUED; PORT_READ and PORT_STATUS answer the entry
and the status. Ports above 127 are refused. -/
def Obligations.PortCommandsRun : Prop :=
  (∀ (s : State) (ring : Nat),
      s.passes 0x0401 ring = true →
      exec (.portSetRole ring) s = s.isStaged ring) ∧
  (∀ (u : State) (c : Command),
      c.opcode.toNat = 0x0401 →
      c.blk 0 1 ≤ 15 →
      layoutGood (layoutOf c u) (fun i => c.blk (8 + 8 * i) 8 == 0) = true →
      u.roleCount (c.blk 0 1) (layoutOf c u) 1 ≤ 64 ∧ u.roleCount (c.blk 0 1) (layoutOf c u) 2 ≤ 96 →
      (∀ i < 8, u.portInUse (8 * c.blk 0 1 + i) = false) →
      runOp c u = (.final stDone [], forEach (List.range 8) (fun i t => setPortRole (8 * c.blk 0 1 + i) (((layoutOf c u)[i]?).getD {}) t) u)) ∧
  (∀ (s u : State) (c : Command) (ring : Nat),
      s.passes 0x0402 ring = true →
      s.front ring = c →
      s.taken ring = u →
      c.byte 16 ≤ 127 ∧ c.byte 17 ≤ 6 →
      exec (.portSetLink ring) s = s.waitsForBoundary ring) ∧
  (∀ (u : State) (c : Command),
      c.opcode.toNat = 0x0402 →
      c.byte 16 ≤ 127 ∧ c.byte 17 ≤ 6 →
      runOp c u = (.final stDone [], toRecovery (c.byte 16) (u.modPort (c.byte 16) (fun p => p.withEntry { p.entry with maxRate := BitVec.ofNat 3 (c.byte 17), cxl128 := decide (c.byte 18 % 2 = 1), l0p := decide (c.byte 18 / 2 % 2 = 1) } true)))) ∧
  (∀ (s u : State) (c : Command) (ring : Nat),
      s.passes 0x0403 ring = true →
      s.front ring = c →
      s.taken ring = u →
      c.byte 16 ≤ 127 →
      exec (.portRetrain ring) s = s.waitsForBoundary ring) ∧
  (∀ (u : State) (c : Command),
      c.opcode.toNat = 0x0403 →
      c.byte 16 ≤ 127 →
      runOp c u = (.final stDone [], toRecovery (c.byte 16) (u.modPort (c.byte 16) (fun p => { p with ltssm := if p.ltssm = .disabled then .detect else p.ltssm })))) ∧
  (∀ (s u : State) (c : Command) (ring : Nat),
      s.passes 0x0404 ring = true →
      s.front ring = c →
      s.taken ring = u →
      c.byte 16 ≤ 127 →
      exec (.portRead ring) s = s.endsWith ring stDone (bytesOf 8 64 (BitVec.ofNat 64 (u.port (c.byte 16)).entry.image)) u) ∧
  (∀ (s u : State) (c : Command) (ring : Nat),
      s.passes 0x0404 ring = true →
      s.front ring = c →
      s.taken ring = u →
      127 < c.byte 16 →
      exec (.portRead ring) s = s.endsWith ring stInvalidParam ([]) u) ∧
  (∀ (s u : State) (c : Command) (ring : Nat),
      s.passes 0x0405 ring = true →
      s.front ring = c →
      s.taken ring = u →
      c.byte 16 ≤ 127 →
      exec (.portStatus ring) s = s.endsWith ring stDone (bytesOf 16 128 (BitVec.ofNat 128 (u.shownPort (c.byte 16)).status)) u) ∧
  (∀ (s : State) (c : Command) (ring : Nat),
      s.passes 0x0406 ring = true →
      s.front ring = c →
      c.byte 16 ≤ 127 ∧ (s.port (c.byte 16)).downstream = true →
      s.removalBusy (c.byte 16) = false →
      exec (.portPrepareRemoval ring) s = s.isQueued ring (.removal (c.byte 16))
        (fun t => if (t.port (c.byte 16)).entry.slotValid && (t.chCopy (t.port (c.byte 16)).entry.slot.toNat).powered then removePort (c.byte 16) t
          else finishJob (.removal (c.byte 16)) stDone [] (removePort (c.byte 16) t))) ∧
  (∀ (s u : State) (c : Command) (ring : Nat),
      s.passes 0x0407 ring = true →
      s.front ring = c →
      s.taken ring = u →
      c.blk 0 1 ≤ 127 ∧ c.blk 1 1 ≤ 1 ∧ c.blk 2 1 ≤ 1 ∧ c.blk 3 1 ≤ 1 →
      (u.port (c.blk 0 1)).upstream = true →
      exec (.portSetIdeKey ring) s = s.waitsForBoundary ring) ∧
  (∀ (u : State) (c : Command),
      c.opcode.toNat = 0x0407 →
      c.blk 0 1 ≤ 127 ∧ c.blk 1 1 ≤ 1 ∧ c.blk 2 1 ≤ 1 ∧ c.blk 3 1 ≤ 1 →
      (u.port (c.blk 0 1)).upstream = true →
      runOp c u = (.final stDone [], u.modPort (c.blk 0 1) (fun p => { p with ideStore := Tab.put p.ideStore (4 * c.blk 1 1 + 2 * c.blk 2 1 + c.blk 3 1) (BitVec.ofNat 352 (c.blk 8 44)), ide := ideCode (Tab.put p.ideStore (4 * c.blk 1 1 + 2 * c.blk 2 1 + c.blk 3 1) (BitVec.ofNat 352 (c.blk 8 44))) }))) ∧
  (∀ (s : State) (ring : Nat),
      s.passes 0x0408 ring = true →
      exec (.portBindLd ring) s = s.isStaged ring) ∧
  (∀ (u t : State) (c : Command),
      c.opcode.toNat = 0x0408 →
      c.byte 16 ≤ 127 ∧ c.byte 18 ≤ 127 ∧ (c.byte 17 ≤ 15 ∨ c.byte 17 = 0xFF) ∧ 8 ≤ c.byte 19 ∧ c.byte 19 ≤ 15 →
      (u.port (c.byte 16)).downstream = true ∧ (u.port (c.byte 18)).upstream = true →
      u.pool.extents.any (fun e => decide (e.2.state ≠ .free ∧ e.2.place.port.toNat = c.byte 16 ∧ (c.byte 17 = 0xFF ∨ e.2.place.ld.toNat = c.byte 17))) = false →
      (u.vppb (c.byte 18) (c.byte 19)).bound = none →
      (u.modVppb (c.byte 18) (c.byte 19) (fun x => { x with bound := some (c.byte 16, c.byte 17) })).modPort (c.byte 16) (fun p => { p with decoder0 := if c.byte 17 = 0xFF then [] else Tab.drop p.decoder0 (c.byte 17) }) = t →
      runOp c u = (.final stDone [], if (u.port (c.byte 16)).inL0 then showDevice (c.byte 18) (c.byte 19) true t else t)) ∧
  (∀ (s : State) (ring : Nat),
      s.passes 0x0409 ring = true →
      exec (.portUnbindLd ring) s = s.isStaged ring) ∧
  (∀ (u t : State) (c : Command),
      c.opcode.toNat = 0x0409 →
      c.byte 16 ≤ 127 ∧ 8 ≤ c.byte 17 ∧ c.byte 17 ≤ 15 →
      (u.port (c.byte 16)).upstream = true ∧ (u.vppb (c.byte 16) (c.byte 17)).bound.isSome = true →
      giveDecoders (u.vppb (c.byte 16) (c.byte 17)).bound (u.modVppb (c.byte 16) (c.byte 17) (fun x => { x with bound := none })) = t →
      runOp c u = (.final stDone [], if (u.vppb (c.byte 16) (c.byte 17)).presence then showDevice (c.byte 16) (c.byte 17) false t else t)) ∧
  (∀ (s u : State) (c : Command) (ring : Nat),
      s.passes 0x040A ring = true →
      s.front ring = c →
      s.taken ring = u →
      1 ≤ c.num 18 2 ∧ c.num 18 2 < c.num 20 2 ∧ c.num 20 2 < c.num 22 2 ∧ c.num 22 2 ≤ 4095 →
      exec (.portSetLoadThresholds ring) s = s.waitsForBoundary ring) ∧
  (∀ (u : State) (c : Command),
      c.opcode.toNat = 0x040A →
      1 ≤ c.num 18 2 ∧ c.num 18 2 < c.num 20 2 ∧ c.num 20 2 < c.num 22 2 ∧ c.num 22 2 ≤ 4095 →
      runOp c u = (.final stDone [], forEach ((List.range 128).filter (fun p => (c.num 24 16).testBit p)) (fun p t => t.modPort p (fun x => { x with t1 := c.num 18 2, t2 := c.num 20 2, t3 := c.num 22 2 })) u))

/-- LANE_SET, LANE_SET_LOOP and LANE_PRBS change the lanes of their mask at the tick boundary; LANE_EYE_SCAN starts a scan and is QUEUED; TRUNK_SET,
TRUNK_SET_ROUTE and TRUNK_SET_BUFFERS change the trunk entry, the routes and the buffers of the next retrain; TRUNK_SET_LINK and TRUNK_RETRAIN begin a
retrain of a trunk in UP and are QUEUED; TRUNK_RESTART starts hellos of a trunk that is DOWN or BROKEN; the read rows answer, and LANE_STATUS with its
clear flag clears the sticky flags after its result is taken. -/
def Obligations.LaneAndTrunkCommandsRun : Prop :=
  (∀ (s u : State) (c : Command) (ring : Nat),
      s.passes 0x0410 ring = true →
      s.front ring = c →
      s.taken ring = u →
      bitsOf (BitVec.ofNat 64 (c.num 16 8)) 43 40 ≤ 10 ∨ bitsOf (BitVec.ofNat 64 (c.num 16 8)) 43 40 = 15 →
      bitsOf (BitVec.ofNat 64 (c.num 16 8)) 36 35 ≠ 3 →
      bitsOf (BitVec.ofNat 64 (c.num 16 8)) 34 32 ≤ 4 ∨ bitsOf (BitVec.ofNat 64 (c.num 16 8)) 34 32 = 7 →
      bitsOf (BitVec.ofNat 64 (c.num 16 8)) 31 24 ≠ 0 ∧ bitsOf (BitVec.ofNat 64 (c.num 16 8)) 19 16 ≠ 0 ∧ bitsOf (BitVec.ofNat 64 (c.num 16 8)) 14 0 = 0 →
      exec (.laneSet ring) s = s.waitsForBoundary ring) ∧
  (∀ (u : State) (c : Command),
      c.opcode.toNat = 0x0410 →
      bitsOf (BitVec.ofNat 64 (c.num 16 8)) 43 40 ≤ 10 ∨ bitsOf (BitVec.ofNat 64 (c.num 16 8)) 43 40 = 15 →
      bitsOf (BitVec.ofNat 64 (c.num 16 8)) 36 35 ≠ 3 →
      bitsOf (BitVec.ofNat 64 (c.num 16 8)) 34 32 ≤ 4 ∨ bitsOf (BitVec.ofNat 64 (c.num 16 8)) 34 32 = 7 →
      bitsOf (BitVec.ofNat 64 (c.num 16 8)) 31 24 ≠ 0 ∧ bitsOf (BitVec.ofNat 64 (c.num 16 8)) 19 16 ≠ 0 ∧ bitsOf (BitVec.ofNat 64 (c.num 16 8)) 14 0 = 0 →
      runOp c u = (.final stDone [], forEach c.lanes (fun i t => t.modLane i (fun l => l.withImage (BitVec.ofNat 64 (c.num 16 8)))) u)) ∧
  (∀ (s u : State) (c : Command) (ring : Nat),
      s.passes 0x0411 ring = true →
      s.front ring = c →
      s.taken ring = u →
      exec (.laneRead ring) s = s.endsWith ring stDone (bytesOf 8 64 (BitVec.ofNat 64 (u.lane (c.byte 16)).image)) u) ∧
  (∀ (s u : State) (c : Command) (ring : Nat),
      s.passes 0x0412 ring = true →
      s.front ring = c →
      s.taken ring = u →
      c.byte 17 % 2 = 0 →
      exec (.laneStatus ring) s = s.endsWith ring stDone (bytesOf 16 128 (BitVec.ofNat 128 (u.laneStatus (c.byte 16)))) u) ∧
  (∀ (s u : State) (c : Command) (ring : Nat),
      s.passes 0x0412 ring = true →
      s.front ring = c →
      s.taken ring = u →
      c.byte 17 % 2 = 1 →
      exec (.laneStatus ring) s = s.endsWith ring stDone (bytesOf 16 128 (BitVec.ofNat 128 (u.laneStatus (c.byte 16)))) (u.modLane (c.byte 16) (fun l => { l with losSticky := false, lolSticky := false }))) ∧
  (∀ (s u : State) (c : Command) (ring : Nat),
      s.passes 0x0413 ring = true →
      s.front ring = c →
      s.taken ring = u →
      c.byte 16 ≤ 3 →
      exec (.laneSetLoop ring) s = s.waitsForBoundary ring) ∧
  (∀ (u : State) (c : Command),
      c.opcode.toNat = 0x0413 →
      c.byte 16 ≤ 3 →
      runOp c u = (.final stDone [], forEach c.lanes (fun i t =>
        if c.byte 16 = 0 then t.modLane i (fun l => { l with loop := BitVec.ofNat 3 (c.byte 16) })
        else match (t.modLane i (fun l => { l with loop := BitVec.ofNat 3 (c.byte 16) })).portOfLane i with
          | some p => portLeavesL0 p (abortScan i (t.modLane i (fun l => { l with loop := BitVec.ofNat 3 (c.byte 16) })))
          | none => t.modLane i (fun l => { l with loop := BitVec.ofNat 3 (c.byte 16) })) u)) ∧
  (∀ (s u : State) (c : Command) (ring : Nat),
      s.passes 0x0414 ring = true →
      s.front ring = c →
      s.taken ring = u →
      c.byte 17 ≤ 4 ∧ c.byte 18 ≤ 4 →
      exec (.lanePrbs ring) s = s.waitsForBoundary ring) ∧
  (∀ (u : State) (c : Command),
      c.opcode.toNat = 0x0414 →
      c.byte 17 ≤ 4 ∧ c.byte 18 ≤ 4 →
      runOp c u = (.final stDone (bytesOf 8 64 (if c.byte 18 = 0 then 0 else u.now)), u.modLane (c.byte 16) (fun l => { l with prbsGen := BitVec.ofNat 4 (c.byte 17), prbsChk := BitVec.ofNat 4 (c.byte 18), prbsLock := false, prbsErrors := if c.byte 18 = 0 then l.prbsErrors else 0 }))) ∧
  (∀ (s : State) (c : Command) (ring : Nat),
      s.passes 0x0415 ring = true →
      s.front ring = c →
      16 ≤ c.byte 17 ∧ c.byte 17 ≤ 30 →
      s.laneInL0 (c.byte 16) = true →
      (s.lane (c.byte 16)).marginStatus ≠ 3 ∧ (s.lane (c.byte 16)).scanWaits = none ∧ (s.lane (c.byte 16)).margining = false →
      exec (.laneEyeScan ring) s = s.isQueued ring (.eyeScan (c.byte 16))
        (fun t => startScan (c.byte 16) (c.byte 17) false t)) ∧
  (∀ (s u : State) (c : Command) (ring : Nat),
      s.passes 0x0420 ring = true →
      s.front ring = c →
      s.taken ring = u →
      c.byte 16 ≤ 127 ∧ (u.port (c.byte 16)).isTrunk = true →
      10 ≤ (trunkEntryOf (c.num 24 8)).leakPct.toNat ∧ (trunkEntryOf (c.num 24 8)).leakPct.toNat ≤ 90 ∧ 4 ≤ (trunkEntryOf (c.num 24 8)).holdoff.toNat ∧ (trunkEntryOf (c.num 24 8)).maxRate ≠ 3 →
      exec (.trunkSet ring) s = s.waitsForBoundary ring) ∧
  (∀ (u : State) (c : Command),
      c.opcode.toNat = 0x0420 →
      c.byte 16 ≤ 127 ∧ (u.port (c.byte 16)).isTrunk = true →
      10 ≤ (trunkEntryOf (c.num 24 8)).leakPct.toNat ∧ (trunkEntryOf (c.num 24 8)).leakPct.toNat ≤ 90 ∧ 4 ≤ (trunkEntryOf (c.num 24 8)).holdoff.toNat ∧ (trunkEntryOf (c.num 24 8)).maxRate ≠ 3 →
      runOp c u = (.final stDone [], setTrunkEntry (c.byte 16 / 8) (trunkEntryOf (c.num 24 8)) u)) ∧
  (∀ (s u : State) (c : Command) (ring : Nat),
      s.passes 0x0421 ring = true →
      s.front ring = c →
      s.taken ring = u →
      c.byte 16 ≤ 127 ∧ (u.port (c.byte 16)).isTrunk = true →
      exec (.trunkRead ring) s = s.endsWith ring stDone (bytesOf 8 64 (BitVec.ofNat 64 (u.trunk (c.byte 16 / 8)).lastEntry.image) ++ (List.range 16).map (fun d => BitVec.ofNat 8 (Tab.get u.trunks.route {} d).image)) u) ∧
  (∀ (s u : State) (c : Command) (ring : Nat),
      s.passes 0x0422 ring = true →
      s.front ring = c →
      s.taken ring = u →
      c.byte 16 ≤ 127 ∧ (u.port (c.byte 16)).isTrunk = true →
      exec (.trunkStatus ring) s = s.endsWith ring stDone (bytesOf 16 128 (BitVec.ofNat 128 (u.trunk (c.byte 16 / 8)).status)) u) ∧
  (∀ (s : State) (c : Command) (ring : Nat),
      s.passes 0x0423 ring = true →
      s.front ring = c →
      c.byte 16 ≤ 127 ∧ (s.port (c.byte 16)).isTrunk = true →
      1 ≤ c.byte 17 ∧ c.byte 17 ≤ (s.port (c.byte 16)).entry.width.toNat ∧ c.byte 18 ≤ (s.trunk (c.byte 16 / 8)).entry.maxRate.toNat →
      (s.trunk (c.byte 16 / 8)).state = .up →
      exec (.trunkSetLink ring) s = s.isQueued ring (.trunk (c.byte 16 / 8))
        (fun t => startRetrain (c.byte 16 / 8) (c.byte 17) (c.byte 18) 1 t)) ∧
  (∀ (s : State) (c : Command) (ring : Nat),
      s.passes 0x0424 ring = true →
      s.front ring = c →
      c.byte 16 ≤ 127 ∧ (s.port (c.byte 16)).isTrunk = true →
      (s.trunk (c.byte 16 / 8)).state = .up →
      exec (.trunkRetrain ring) s = s.isQueued ring (.trunk (c.byte 16 / 8))
        (fun t => startRetrain (c.byte 16 / 8) ((t.trunk (c.byte 16 / 8)).width.toNat + 1) (t.trunk (c.byte 16 / 8)).rate.toNat 1 t)) ∧
  (∀ (s u : State) (c : Command) (ring : Nat),
      s.passes 0x0425 ring = true →
      s.front ring = c →
      s.taken ring = u →
      c.byte 16 ≤ 127 ∧ (u.port (c.byte 16)).isTrunk = true →
      (u.trunk (c.byte 16 / 8)).state = .broken ∨ (u.trunk (c.byte 16 / 8)).state = .down →
      exec (.trunkRestart ring) s = s.endsWith ring stDone ([]) (startHello (c.byte 16 / 8) u)) ∧
  (∀ (s u : State) (c : Command) (ring : Nat),
      s.passes 0x0426 ring = true →
      s.front ring = c →
      s.taken ring = u →
      c.byte 16 ≤ 127 ∧ (u.port (c.byte 16)).isTrunk = true →
      ((List.range 8).map (fun n => c.num (24 + 2 * n) 2)).sum ≤ 3584 ∧ c.num 26 2 = 0 →
      16 ≤ c.num 24 2 ∧ 16 ≤ c.num 28 2 ∧ 16 ≤ c.num 30 2 ∧ 16 ≤ c.num 32 2 →
      64 ≤ c.num 34 2 ∧ 64 ≤ c.num 36 2 ∧ 64 ≤ c.num 38 2 →
      exec (.trunkSetBuffers ring) s = s.endsWith ring stDone ([]) (u.modTrunk (c.byte 16 / 8) (fun t => { t with newSlots := some ((List.range 8).map (fun n => c.num (24 + 2 * n) 2)) }))) ∧
  (∀ (s u : State) (c : Command) (ring : Nat),
      s.passes 0x0427 ring = true →
      s.front ring = c →
      s.taken ring = u →
      exec (.trunkSetRoute ring) s = s.waitsForBoundary ring) ∧
  (∀ (u : State) (c : Command),
      c.opcode.toNat = 0x0427 →
      runOp c u = (.final stDone [], forEach ((List.range 16).filter (fun d => (c.num 16 2).testBit d)) (fun d t => t.modTrunks (fun x => { x with route := Tab.set x.route {} d { valid := (c.byte (24 + d)).testBit 7, reachable := (c.byte (24 + d)).testBit 6, station := BitVec.ofNat 4 (c.byte (24 + d)) } })) u))

/-- The COH_SET and VAULT_SET rows change the budget, timeout, thresholds or predictor limits of the slices that their mask names, at the tick
boundary; VAULT_FLUSH starts a flush of a bed, or of the whole device, and is QUEUED; the read rows answer a stored directory entry, the lookup of a
line, a vault tag as corrected, a predictor entry and the two status images. A slice above 7 is refused. -/
def Obligations.HomeCommandsRun : Prop :=
  (∀ (s u : State) (c : Command) (ring : Nat),
      s.passes 0x0501 ring = true →
      s.front ring = c →
      s.taken ring = u →
      c.byte 17 ≤ 64 →
      exec (.cohSetWeeder ring) s = s.waitsForBoundary ring) ∧
  (∀ (u : State) (c : Command),
      c.opcode.toNat = 0x0501 →
      c.byte 17 ≤ 64 →
      runOp c u = (.final stDone [], forEach c.slices (fun i t => t.modDev (fun d => { d with weederBudget := Tab.set d.weederBudget 8 i (BitVec.ofNat 7 (c.byte 17)) })) u)) ∧
  (∀ (s u : State) (c : Command) (ring : Nat),
      s.passes 0x0502 ring = true →
      s.front ring = c →
      s.taken ring = u →
      16 ≤ c.num 16 2 ∧ c.num 16 2 ≤ 4096 →
      exec (.cohSetSnoopTimeout ring) s = s.waitsForBoundary ring) ∧
  (∀ (u : State) (c : Command),
      c.opcode.toNat = 0x0502 →
      16 ≤ c.num 16 2 ∧ c.num 16 2 ≤ 4096 →
      runOp c u = (.final stDone [], u.modDev (fun d => { d with snoopTimeout := BitVec.ofNat 13 (c.num 16 2) }))) ∧
  (∀ (s u : State) (c : Command) (ring : Nat),
      s.passes 0x0503 ring = true →
      s.front ring = c →
      s.taken ring = u →
      1 ≤ c.num 18 2 ∧ c.num 18 2 < c.num 20 2 ∧ c.num 20 2 < c.num 22 2 ∧ c.num 22 2 ≤ 1024 →
      exec (.cohSetLoadThresholds ring) s = s.waitsForBoundary ring) ∧
  (∀ (u : State) (c : Command),
      c.opcode.toNat = 0x0503 →
      1 ≤ c.num 18 2 ∧ c.num 18 2 < c.num 20 2 ∧ c.num 20 2 < c.num 22 2 ∧ c.num 22 2 ≤ 1024 →
      runOp c u = (.final stDone [], forEach c.slices (fun i t => t.modSlice i (fun x => { x with t1 := c.num 18 2, t2 := c.num 20 2, t3 := c.num 22 2 })) u)) ∧
  (∀ (s u : State) (c : Command) (ring : Nat),
      s.passes 0x0504 ring = true →
      s.front ring = c →
      s.taken ring = u →
      c.byte 16 ≤ 7 ∧ c.byte 20 ≤ 15 →
      exec (.cohReadEntry ring) s = s.endsWith ring stDone (bytesOf 9 72 ((u.slice (c.byte 16)).entry (16 * c.num 18 2 + c.byte 20)).stored) u) ∧
  (∀ (s u : State) (c : Command) (ring : Nat),
      s.passes 0x0505 ring = true →
      s.front ring = c →
      s.taken ring = u →
      c.num 16 2 ≤ 4095 ∧ (u.bed (c.num 16 2)).state = .defined ∧ c.num 24 8 < (u.bed (c.num 16 2)).span.toNat * 2 ^ 28 →
      (u.slice (sliceOf (c.num 16 2) (c.num 24 8 / 64))).hit ((u.bed (c.num 16 2)).pl (c.num 24 8 / 64)) = none →
      exec (.cohLookup ring) s = s.endsWith ring stDone ([BitVec.ofNat 8 (sliceOf (c.num 16 2) (c.num 24 8 / 64)), 0xFF] ++
        bytesOf 2 16 (BitVec.ofNat 16 (dirSetOf ((u.bed (c.num 16 2)).pl (c.num 24 8 / 64)))) ++ List.replicate 9 0) u) ∧
  (∀ (s u : State) (c : Command) (ring : Nat),
      s.passes 0x0506 ring = true →
      s.front ring = c →
      s.taken ring = u →
      c.byte 16 ≤ 7 →
      exec (.cohStatus ring) s = s.endsWith ring stDone (bytesOf 16 128 (BitVec.ofNat 128 (u.cohStatus (c.byte 16)))) u) ∧
  (∀ (s u : State) (c : Command) (ring : Nat),
      s.passes 0x0506 ring = true →
      s.front ring = c →
      s.taken ring = u →
      8 ≤ c.byte 16 →
      exec (.cohStatus ring) s = s.endsWith ring stInvalidParam ([]) u) ∧
  (∀ (s u : State) (c : Command) (ring : Nat),
      s.passes 0x0601 ring = true →
      s.front ring = c →
      s.taken ring = u →
      c.num 16 2 ≤ 4095 ∨ c.num 16 2 = 0xFFFF →
      exec (.vaultFlush ring) s = s.isQueuedForBoundary ring) ∧
  (∀ (u : State) (c : Command),
      c.opcode.toNat = 0x0601 →
      c.num 16 2 ≤ 4095 ∨ c.num 16 2 = 0xFFFF →
      runOp c u = (.queued (.flush u.home.nextFlush), startFlush { bed := if c.num 16 2 = 0xFFFF then none else some (c.num 16 2), invalidate := decide (c.byte 18 % 2 = 1) } u)) ∧
  (∀ (s u : State) (c : Command) (ring : Nat),
      s.passes 0x0602 ring = true →
      s.front ring = c →
      s.taken ring = u →
      4 ≤ c.num 16 2 ∧ c.num 16 2 ≤ 256 →
      exec (.vaultSetWriteTimeout ring) s = s.waitsForBoundary ring) ∧
  (∀ (u : State) (c : Command),
      c.opcode.toNat = 0x0602 →
      4 ≤ c.num 16 2 ∧ c.num 16 2 ≤ 256 →
      runOp c u = (.final stDone [], u.modHome (fun h => { h with writeTimeout := c.num 16 2 }))) ∧
  (∀ (s u : State) (c : Command) (ring : Nat),
      s.passes 0x0603 ring = true →
      s.front ring = c →
      s.taken ring = u →
      1 ≤ c.byte 17 ∧ c.byte 17 ≤ 15 ∧ c.byte 18 < c.byte 17 →
      exec (.vaultSetPredictor ring) s = s.waitsForBoundary ring) ∧
  (∀ (u : State) (c : Command),
      c.opcode.toNat = 0x0603 →
      1 ≤ c.byte 17 ∧ c.byte 17 ≤ 15 ∧ c.byte 18 < c.byte 17 →
      runOp c u = (.final stDone [], forEach c.slices (fun i t => t.modSlice i (fun x => { x with parkOn := c.byte 17, passAt := c.byte 18 })) u)) ∧
  (∀ (s u : State) (c : Command) (ring : Nat),
      s.passes 0x0604 ring = true →
      s.front ring = c →
      s.taken ring = u →
      c.byte 16 ≤ 7 →
      exec (.vaultStatus ring) s = s.endsWith ring stDone (bytesOf 16 128 (BitVec.ofNat 128 (u.vaultStatus (c.byte 16)))) u) ∧
  (∀ (s u t : State) (c : Command) (ring : Nat),
      s.passes 0x0605 ring = true →
      s.front ring = c →
      s.taken ring = u →
      c.byte 16 ≤ 7 ∧ c.num 18 2 ≤ 4095 ∧ c.byte 20 ≤ 15 →
      checkVaultSet (c.byte 16) (c.num 18 2) u = t →
      exec (.vaultReadTag ring) s = s.endsWith ring stDone (bytesOf 6 48 (BitVec.ofNat 48 ((t.slice (c.byte 16)).vline (16 * c.num 18 2 + c.byte 20)).tagImage)) t) ∧
  (∀ (s u : State) (c : Command) (ring : Nat),
      s.passes 0x0606 ring = true →
      s.front ring = c →
      s.taken ring = u →
      c.byte 16 ≤ 7 ∧ c.num 18 2 ≤ 4095 →
      exec (.vaultReadPredictor ring) s = s.endsWith ring stDone (bytesOf 11 88 (BitVec.ofNat 88 (Tab.get (u.slice (c.byte 16)).predictor {} (c.num 18 2)).image)) u)

/-- SLICE_BIND binds an UNBOUND slice to a plot, RUNNING or FROZEN; SLICE_UNBIND unbinds it; SLICE_MAP_PASID and SLICE_UNMAP_PASID change the PASID
table; SLICE_FREEZE of a RUNNING slice makes it FREEZING and is QUEUED; SLICE_THAW of a FROZEN slice makes it RUNNING; SLICE_RESET and
SLICE_CLEAR_FAULT act in every bound state; SLICE_SAVE and SLICE_RESTORE of a FROZEN slice start their transfer and are QUEUED; EXTENT_MIGRATE makes a
BOUND extent MIGRATING; EXTENT_MIGRATE_CANCEL marks it; SLICE_STATUS of a bound slice answers. All but SLICE_STATUS and EXTENT_MIGRATE_CANCEL take
effect at the tick boundary. -/
def Obligations.SliceCommandsRun : Prop :=
  (∀ (s u : State) (c : Command) (ring : Nat),
      s.passes 0x0701 ring = true →
      s.front ring = c →
      s.taken ring = u →
      c.num 16 2 ≤ 511 ∧ c.byte 18 ≤ 63 ∧ c.num 20 4 < 2 ^ 20 →
      (u.plot c.plotField).state ≠ .free →
      (u.bslice (c.num 16 2)).state = .unbound →
      exec (.sliceBind ring) s = s.waitsForBoundary ring) ∧
  (∀ (u : State) (c : Command),
      c.opcode.toNat = 0x0701 →
      c.num 16 2 ≤ 511 ∧ c.byte 18 ≤ 63 ∧ c.num 20 4 < 2 ^ 20 →
      (u.plot c.plotField).state ≠ .free →
      (u.bslice (c.num 16 2)).state = .unbound →
      runOp c u = (.final stDone [], u.modBslice (c.num 16 2) (fun b => { state := if c.byte 19 / 2 % 2 = 1 then .frozen else .running, plot := BitVec.ofNat 9 c.plotField, vector := BitVec.ofNat 6 (c.byte 18), dmaPasid := BitVec.ofNat 20 (c.num 20 4), pasidEn := decide (c.byte 19 % 2 = 1), runNo := b.runNo, running := b.running }))) ∧
  (∀ (s u : State) (c : Command) (ring : Nat),
      s.passes 0x0702 ring = true →
      s.front ring = c →
      s.taken ring = u →
      c.num 16 2 ≤ 511 →
      (u.bslice (c.num 16 2)).state ≠ .unbound →
      exec (.sliceUnbind ring) s = s.waitsForBoundary ring) ∧
  (∀ (u : State) (c : Command),
      c.opcode.toNat = 0x0702 →
      c.num 16 2 ≤ 511 →
      (u.bslice (c.num 16 2)).state ≠ .unbound →
      runOp c u = (.final stDone [], unbindSlice (c.num 16 2) u)) ∧
  (∀ (s u : State) (c : Command) (ring : Nat),
      s.passes 0x0703 ring = true →
      s.front ring = c →
      s.taken ring = u →
      c.num 16 2 ≤ 511 ∧ c.badKey = false →
      (u.bslice (c.num 16 2)).state ≠ .unbound ∧ (u.plot (u.bslice (c.num 16 2)).plot.toNat).port.toNat = c.byte 18 →
      u.pasidKey (c.byte 18) (decide (c.byte 19 % 2 = 1)) (c.num 20 4) = none →
      u.barrow.pasids = [] →
      exec (.sliceMapPasid ring) s = s.waitsForBoundary ring) ∧
  (∀ (u : State) (c : Command),
      c.opcode.toNat = 0x0703 →
      c.num 16 2 ≤ 511 ∧ c.badKey = false →
      (u.bslice (c.num 16 2)).state ≠ .unbound ∧ (u.plot (u.bslice (c.num 16 2)).plot.toNat).port.toNat = c.byte 18 →
      u.pasidKey (c.byte 18) (decide (c.byte 19 % 2 = 1)) (c.num 20 4) = none →
      u.barrow.pasids = [] →
      runOp c u = (.final stDone [], u.modBarrow (fun b => { b with pasids := [(0, { valid := true, noPasid := decide (c.byte 19 % 2 = 1), port := BitVec.ofNat 7 (c.byte 18), pasid := BitVec.ofNat 20 (c.num 20 4), slice := BitVec.ofNat 9 (c.num 16 2) })] }))) ∧
  (∀ (s u : State) (c : Command) (ring : Nat),
      s.passes 0x0704 ring = true →
      s.front ring = c →
      s.taken ring = u →
      c.badKey = false →
      u.pasidKey (c.byte 18) (decide (c.byte 19 % 2 = 1)) (c.num 20 4) = some 4095 →
      exec (.sliceUnmapPasid ring) s = s.waitsForBoundary ring) ∧
  (∀ (u : State) (c : Command),
      c.opcode.toNat = 0x0704 →
      c.badKey = false →
      u.pasidKey (c.byte 18) (decide (c.byte 19 % 2 = 1)) (c.num 20 4) = some 4095 →
      runOp c u = (.final stDone [], u.modBarrow (fun b => { b with pasids := Tab.drop b.pasids 4095 }))) ∧
  (∀ (s u : State) (c : Command) (ring : Nat),
      s.passes 0x0705 ring = true →
      s.front ring = c →
      s.taken ring = u →
      c.num 16 2 ≤ 511 ∧ c.byte 18 ≤ 1 →
      (u.bslice (c.num 16 2)).state = .running →
      exec (.sliceFreeze ring) s = s.isQueuedForBoundary ring) ∧
  (∀ (u : State) (c : Command),
      c.opcode.toNat = 0x0705 →
      c.num 16 2 ≤ 511 ∧ c.byte 18 ≤ 1 →
      (u.bslice (c.num 16 2)).state = .running →
      runOp c u = (.queued (.freeze (c.num 16 2)), u.modBslice (c.num 16 2) (fun x => { x with state := .freezing, freezeAll := c.byte 18 == 0, freezeBar := false }))) ∧
  (∀ (s u : State) (c : Command) (ring : Nat),
      s.passes 0x0705 ring = true →
      s.front ring = c →
      s.taken ring = u →
      c.num 16 2 ≤ 511 ∧ c.byte 18 ≤ 1 →
      (u.bslice (c.num 16 2)).state = .frozen →
      exec (.sliceFreeze ring) s = s.waitsForBoundary ring) ∧
  (∀ (u : State) (c : Command),
      c.opcode.toNat = 0x0705 →
      c.num 16 2 ≤ 511 ∧ c.byte 18 ≤ 1 →
      (u.bslice (c.num 16 2)).state = .frozen →
      runOp c u = (.final stDone [], u)) ∧
  (∀ (s u : State) (c : Command) (ring : Nat),
      s.passes 0x0706 ring = true →
      s.front ring = c →
      s.taken ring = u →
      c.num 16 2 ≤ 511 →
      (u.bslice (c.num 16 2)).state = .frozen →
      exec (.sliceThaw ring) s = s.waitsForBoundary ring) ∧
  (∀ (u : State) (c : Command),
      c.opcode.toNat = 0x0706 →
      c.num 16 2 ≤ 511 →
      (u.bslice (c.num 16 2)).state = .frozen →
      runOp c u = (.final stDone [], u.modBslice (c.num 16 2) (fun x => { x with state := .running }))) ∧
  (∀ (s u : State) (c : Command) (ring : Nat),
      s.passes 0x0707 ring = true →
      s.front ring = c →
      s.taken ring = u →
      c.num 16 2 ≤ 511 →
      (u.bslice (c.num 16 2)).state ≠ .unbound →
      exec (.sliceReset ring) s = s.waitsForBoundary ring) ∧
  (∀ (u : State) (c : Command),
      c.opcode.toNat = 0x0707 →
      c.num 16 2 ≤ 511 →
      (u.bslice (c.num 16 2)).state ≠ .unbound →
      runOp c u = (.final stDone [], resetSlice (c.num 16 2) u)) ∧
  (∀ (s u : State) (c : Command) (ring : Nat),
      s.passes 0x0708 ring = true →
      s.front ring = c →
      s.taken ring = u →
      c.num 16 2 ≤ 511 →
      (u.bslice (c.num 16 2)).state ≠ .unbound →
      exec (.sliceClearFault ring) s = s.waitsForBoundary ring) ∧
  (∀ (u : State) (c : Command),
      c.opcode.toNat = 0x0708 →
      c.num 16 2 ≤ 511 →
      (u.bslice (c.num 16 2)).state ≠ .unbound →
      runOp c u = (.final stDone [], u.modBslice (c.num 16 2) (fun x => { x with fault := false }))) ∧
  (∀ (s u : State) (c : Command) (ring : Nat),
      s.passes 0x0709 ring = true →
      s.front ring = c →
      s.taken ring = u →
      c.num 16 2 ≤ 511 ∧ c.num 24 8 % 4096 = 0 →
      (u.bslice (c.num 16 2)).state = .frozen →
      (u.bslice (c.num 16 2)).job = none →
      exec (.sliceSave ring) s = s.isQueuedForBoundary ring) ∧
  (∀ (u : State) (c : Command),
      c.opcode.toNat = 0x0709 →
      c.num 16 2 ≤ 511 ∧ c.num 24 8 % 4096 = 0 →
      (u.bslice (c.num 16 2)).state = .frozen →
      (u.bslice (c.num 16 2)).job = none →
      runOp c u = (.queued (.save (c.num 16 2)), startSave (c.num 16 2) { save := true, byBar := false, address := BitVec.ofNat 64 (c.num 24 8), usePasid := decide (c.byte 18 % 2 = 1) } u)) ∧
  (∀ (s u : State) (c : Command) (ring : Nat),
      s.passes 0x070A ring = true →
      s.front ring = c →
      s.taken ring = u →
      c.num 16 2 ≤ 511 ∧ c.num 24 8 % 4096 = 0 →
      (u.bslice (c.num 16 2)).state = .frozen →
      (u.bslice (c.num 16 2)).job = none ∧ (u.bslice (c.num 16 2)).queue = [] →
      exec (.sliceRestore ring) s = s.isQueuedForBoundary ring) ∧
  (∀ (u : State) (c : Command),
      c.opcode.toNat = 0x070A →
      c.num 16 2 ≤ 511 ∧ c.num 24 8 % 4096 = 0 →
      (u.bslice (c.num 16 2)).state = .frozen →
      (u.bslice (c.num 16 2)).job = none ∧ (u.bslice (c.num 16 2)).queue = [] →
      runOp c u = (.queued (.restore (c.num 16 2)), restoreRead (c.num 16 2) (u.modBslice (c.num 16 2) (fun x => { x with job := some { save := false, byBar := false, address := BitVec.ofNat 64 (c.num 24 8), usePasid := decide (c.byte 18 % 2 = 1) } })))) ∧
  (∀ (s u : State) (c : Command) (ring : Nat),
      s.passes 0x070B ring = true →
      s.front ring = c →
      s.taken ring = u →
      c.num 16 2 ≤ 511 ∧ (u.bslice (c.num 16 2)).state ≠ .unbound →
      exec (.sliceStatus ring) s = s.endsWith ring stDone (bytesOf 8 64 (u.bslice (c.num 16 2)).status ++ bytesOf 8 64 (u.bslice (c.num 16 2)).counts) u) ∧
  (∀ (s u : State) (c : Command) (ring : Nat),
      s.passes 0x0710 ring = true →
      s.front ring = c →
      s.taken ring = u →
      c.num 16 4 < 2 ^ 20 ∧ c.num 20 4 < 2 ^ 20 ∧ (c.num 24 2 = 0 ∨ 64 ≤ c.num 24 2) ∧ c.num 24 2 ≤ 16384 →
      u.pool.migrations = [] →
      (u.extent (c.num 16 4)).state = .bound ∧ (u.extent (c.num 20 4)).state = .defined →
      u.pool.beds.any (fun e => decide (e.2.state ≠ .free ∧ e.2.base.toNat ≤ c.num 20 4 ∧ c.num 20 4 < e.2.base.toNat + e.2.span.toNat)) = false →
      exec (.extentMigrate ring) s = s.isQueuedForBoundary ring) ∧
  (∀ (u : State) (c : Command),
      c.opcode.toNat = 0x0710 →
      c.num 16 4 < 2 ^ 20 ∧ c.num 20 4 < 2 ^ 20 ∧ (c.num 24 2 = 0 ∨ 64 ≤ c.num 24 2) ∧ c.num 24 2 ≤ 16384 →
      u.pool.migrations = [] →
      (u.extent (c.num 16 4)).state = .bound ∧ (u.extent (c.num 20 4)).state = .defined →
      u.pool.beds.any (fun e => decide (e.2.state ≠ .free ∧ e.2.base.toNat ≤ c.num 20 4 ∧ c.num 20 4 < e.2.base.toNat + e.2.span.toNat)) = false →
      runOp c u = (.queued (.migrate (c.num 16 4)), alsoToTarget (c.num 16 4) (u.extent (c.num 20 4)).place ((u.modPool (fun p => { p with migrations := [(c.num 16 4, { target := c.num 20 4, started := u.time.beats, rate := if c.num 24 2 = 0 then 512 else c.num 24 2 })] })).modExtent (c.num 16 4)
          (fun e => { e with state := .migrating, mig := (u.extent (c.num 20 4)).place })))) ∧
  (∀ (s u : State) (c : Command) (ring : Nat),
      s.passes 0x0711 ring = true →
      s.front ring = c →
      s.taken ring = u →
      c.num 16 4 < 2 ^ 20 ∧ (u.extent (c.num 16 4)).state = .migrating →
      exec (.extentMigrateCancel ring) s = s.endsWith ring stDone ([]) (u.modPool (fun p => { p with migrations := p.migrations.map (fun m => if m.1 = c.num 16 4 then (m.1, { m.2 with cancel := some (m.2.cancel.getD u.teller.atTick.length) }) else m) })))

/-- PAIR_FORM, when it commits on an UNPAIRED device whose trunk names the partner, notes the partner and asks it, and its receipt waits;
PAIR_DISSOLVE of a WAITING device leads to UNPAIRED and GROW; PAIR_SWITCHOVER holds admission at every slice; PAIR_ASSUME takes the ALONE state with a
new generation; PAIR_PROMOTE latches a promotion in a SHADOW; PAIR_SET_LAG and PAIR_CLEAR_RECOVERY set the limit and clear the recovery flag;
PAIR_STATUS answers. -/
def Obligations.PairCommandsRun : Prop :=
  (∀ (s : State) (ring : Nat),
      s.passes 0x0801 ring = true →
      exec (.pairForm ring) s = s.isStaged ring) ∧
  (∀ (u : State) (c : Command),
      c.opcode.toNat = 0x0801 →
      u.pair.state = .unpaired ∧ u.pair.forming = none →
      c.byte 16 ≤ 15 ∧ (u.port (u.trunkPort (c.byte 16))).isTrunk = true →
      (u.trunk (c.byte 16)).entry.pair = true ∧ (u.trunk (c.byte 16)).peerSerial.toNat = c.num 18 6 →
      runOp c u = (.queued (.pairForm), pairMgmt (.pairRequest u.pair.generation (decide (c.byte 17 % 2 = 1))) (u.modPair (fun p => { p with forming := some u.tick, pinBefore := p.pinPromote, station := c.byte 16, pinPromote := decide (c.byte 17 % 2 = 1), partnerSerial := (u.trunk (c.byte 16)).peerSerial, partnerDev := (u.trunk (c.byte 16)).peer })))) ∧
  (∀ (s : State) (ring : Nat),
      s.passes 0x0802 ring = true →
      exec (.pairDissolve ring) s = s.isStaged ring) ∧
  (∀ (u : State) (c : Command),
      c.opcode.toNat = 0x0802 →
      u.pair.state = .waiting →
      runOp c u = (.final stDone [], toGrow (savePair (setPairState .unpaired ((endSwitch stAborted u).modPair (fun p => { p with units := [], resyncing := 0, partnerSerial := 0, partnerDev := 0 })))))) ∧
  (∀ (s : State) (ring : Nat),
      s.passes 0x0803 ring = true →
      exec (.pairSwitchover ring) s = s.isStaged ring) ∧
  (∀ (u : State) (c : Command),
      c.opcode.toNat = 0x0803 →
      u.pair.state = .active ∧ u.pair.resyncing = 0 ∧ u.pair.switching = none →
      runOp c u = (.queued (.switchover), forEach (List.range 8) (fun sl t => t.modSlice sl (fun x => { x with admissionHeld := true })) (u.modPair (fun p => { p with switching := some u.tick })))) ∧
  (∀ (s : State) (ring : Nat),
      s.passes 0x0804 ring = true →
      exec (.pairAssume ring) s = s.isStaged ring) ∧
  (∀ (u : State) (c : Command),
      c.opcode.toNat = 0x0804 →
      u.pair.state = .waiting →
      runOp c u = (.final stDone [], toGrow (logFault 0x30 blockDevice 0 0 0 (BitVec.ofNat 64 u.pair.generation.toNat) (BitVec.ofNat 64 (u.pair.generation + 1).toNat)
          (savePair (setPairState .alone (u.modPair (fun p => { p with generation := u.pair.generation + 1 }))))))) ∧
  (∀ (s u : State) (c : Command) (ring : Nat),
      s.passes 0x0805 ring = true →
      s.front ring = c →
      s.taken ring = u →
      u.pair.state = .shadow →
      exec (.pairPromote ring) s = s.endsWith ring stDone ([]) (u.modPair (fun p => { p with promoteLatch := true, trunkAnew := false }))) ∧
  (∀ (s u : State) (c : Command) (ring : Nat),
      s.passes 0x0806 ring = true →
      s.front ring = c →
      s.taken ring = u →
      c.byte 16 ≠ 0 →
      exec (.pairSetLag ring) s = s.waitsForBoundary ring) ∧
  (∀ (u : State) (c : Command),
      c.opcode.toNat = 0x0806 →
      c.byte 16 ≠ 0 →
      runOp c u = (.final stDone [], u.modPair (fun p => { p with asyncLag := BitVec.ofNat 8 (c.byte 16) }))) ∧
  (∀ (s u : State) (c : Command) (ring : Nat),
      s.passes 0x0807 ring = true →
      s.front ring = c →
      s.taken ring = u →
      exec (.pairClearRecovery ring) s = s.endsWith ring stDone ([]) (u.modPair (fun p => { p with recovery := false, recoveryFull := false }))) ∧
  (∀ (s u : State) (c : Command) (ring : Nat),
      s.passes 0x0808 ring = true →
      s.front ring = c →
      s.taken ring = u →
      exec (.pairStatus ring) s = s.endsWith ring stDone (bytesOf 16 128 (BitVec.ofNat 128 u.pairStatus)) u)

/-- EVT_SET_SOURCE sets a source, EVT_TRIGGER triggers one of the first 512, CTR_SET_SELECT selects an event and zeroes the counter, CTR_SNAPSHOT
takes a snapshot, TRACE_SET_FILTER, TRACE_START and TRACE_STOP change the trace; the read rows answer. TRACE_START is refused with BUSY while the
trace captures, TRACE_READ from TRACE_START until TRACE_STOP. -/
def Obligations.EventCounterTraceCommandsRun : Prop :=
  (∀ (s u : State) (c : Command) (ring : Nat),
      s.passes 0x0901 ring = true →
      s.front ring = c →
      s.taken ring = u →
      1 ≤ c.num 16 2 ∧ c.num 16 2 ≤ 2047 →
      exec (.evtSetSource ring) s = s.waitsForBoundary ring) ∧
  (∀ (u : State) (c : Command),
      c.opcode.toNat = 0x0901 →
      1 ≤ c.num 16 2 ∧ c.num 16 2 ≤ 2047 →
      runOp c u = (.final stDone [], setSourceVector (c.num 16 2) (BitVec.ofNat 64 (c.num 24 8)) (setSourceConfig (c.num 16 2) (BitVec.ofNat 32 (c.num 20 4)) u))) ∧
  (∀ (s u : State) (c : Command) (ring : Nat),
      s.passes 0x0902 ring = true →
      s.front ring = c →
      s.taken ring = u →
      c.num 16 2 ≤ 2047 →
      exec (.evtReadSource ring) s = s.endsWith ring stDone (bytesOf 4 32 (BitVec.ofNat 32 (sourceConfig u (c.num 16 2))) ++ [BitVec.ofNat 8 (u.sourceFlags (c.num 16 2)), 0, 0, 0] ++
        bytesOf 8 64 (vectorOf u (c.num 16 2)) ++ bytesOf 8 64 (u.source (c.num 16 2)).stamp) u) ∧
  (∀ (s u : State) (c : Command) (ring : Nat),
      s.passes 0x0903 ring = true →
      s.front ring = c →
      s.taken ring = u →
      c.num 16 2 ≤ 511 →
      exec (.evtTrigger ring) s = s.endsWith ring stDone ([]) (softwareTrigger (c.num 16 2) u)) ∧
  (∀ (s u : State) (c : Command) (ring : Nat),
      s.passes 0x0A01 ring = true →
      s.front ring = c →
      s.taken ring = u →
      c.byte 16 ≤ 26 ∧ c.byte 17 ≤ 7 →
      selectValid (c.byte 16) (BitVec.ofNat 16 (c.num 18 2)) = true →
      exec (.ctrSetSelect ring) s = s.waitsForBoundary ring) ∧
  (∀ (u : State) (c : Command),
      c.opcode.toNat = 0x0A01 →
      c.byte 16 ≤ 26 ∧ c.byte 17 ≤ 7 →
      selectValid (c.byte 16) (BitVec.ofNat 16 (c.num 18 2)) = true →
      runOp c u = (.final stDone [], u.modCtr (fun x => { x with select := Tab.set x.select 0 (8 * c.byte 16 + c.byte 17) (BitVec.ofNat 16 (c.num 18 2)), value := Tab.drop x.value (8 * c.byte 16 + c.byte 17) }))) ∧
  (∀ (s u : State) (c : Command) (ring : Nat),
      s.passes 0x0A02 ring = true →
      s.front ring = c →
      s.taken ring = u →
      exec (.ctrSnapshot ring) s = s.waitsForBoundary ring) ∧
  (∀ (u : State) (c : Command),
      c.opcode.toNat = 0x0A02 →
      runOp c u = (.final stDone [], snapshot u)) ∧
  (∀ (s u : State) (c : Command) (ring : Nat),
      s.passes 0x0A03 ring = true →
      s.front ring = c →
      s.taken ring = u →
      c.byte 16 ≤ 26 →
      exec (.ctrRead ring) s = s.endsWith ring stDone (bytesOf 8 64 (if c.byte 17 % 2 = 1 then u.ctr.snapCycle else cycleCounter u) ++ (List.range 8).flatMap (fun i => bytesOf 8 48
          (Tab.get (if c.byte 17 % 2 = 1 then u.ctr.snap else u.ctr.value) 0 (8 * c.byte 16 + i)))) u) ∧
  (∀ (s u : State) (c : Command) (ring : Nat),
      s.passes 0x0A04 ring = true →
      s.front ring = c →
      s.taken ring = u →
      c.byte 16 = 1 ∧ c.byte 17 = 1 ∧ c.num 18 2 ≤ 127 →
      exec (.statRead ring) s = s.endsWith ring stDone ((bytesOf 8 64 u.time.seasonStart ++ bytesOf 4 32 u.time.seasonNum ++ [0, 0, 0, 0]) ++
        (List.range 16).flatMap (fun j => bytesOf 8 64 (u.statValue true false (c.num 18 2) j))) u) ∧
  (∀ (s u : State) (c : Command) (ring : Nat),
      s.passes 0x0E05 ring = true →
      s.front ring = c →
      s.taken ring = u →
      c.byte 16 ≤ 15 →
      pointValid (c.byte 17) = true →
      exec (.traceSetFilter ring) s = s.waitsForBoundary ring) ∧
  (∀ (u : State) (c : Command),
      c.opcode.toNat = 0x0E05 →
      c.byte 16 ≤ 15 →
      pointValid (c.byte 17) = true →
      runOp c u = (.final stDone [], u.modCtr (fun x => { x with filters := Tab.set x.filters {} (c.byte 16) { point := BitVec.ofNat 8 (c.byte 17), enable := decide (c.byte 18 % 2 = 1), match' := BitVec.ofNat 160 (c.num 24 20), mask := BitVec.ofNat 160 (c.num 44 20) } }))) ∧
  (∀ (s u : State) (c : Command) (ring : Nat),
      s.passes 0x0E06 ring = true →
      s.front ring = c →
      s.taken ring = u →
      u.ctr.capturing = false →
      exec (.traceStart ring) s = s.waitsForBoundary ring) ∧
  (∀ (u : State) (c : Command),
      c.opcode.toNat = 0x0E06 →
      u.ctr.capturing = false →
      runOp c u = (.final stDone [], u.modCtr (fun x => { x with traceIndex := 0, captured := 0, capturing := true, traceOpen := true, traceDropped := false, stopWhenFull := decide (c.byte 16 % 2 = 1) }))) ∧
  (∀ (s u : State) (c : Command) (ring : Nat),
      s.passes 0x0E07 ring = true →
      s.front ring = c →
      s.taken ring = u →
      exec (.traceStop ring) s = s.waitsForBoundary ring) ∧
  (∀ (u : State) (c : Command),
      c.opcode.toNat = 0x0E07 →
      runOp c u = (.final stDone (bytesOf 4 32 u.ctr.captured), u.modCtr (fun x => { x with capturing := false, traceOpen := false }))) ∧
  (∀ (s u : State) (c : Command) (ring : Nat),
      s.passes 0x0E08 ring = true →
      s.front ring = c →
      s.taken ring = u →
      c.num 16 4 ≤ 262143 ∧ 1 ≤ c.num 20 2 ∧ c.num 20 2 ≤ 128 →
      u.ctr.traceOpen = false →
      exec (.traceRead ring) s = s.endsWith ring stDone ((List.range (c.num 20 2)).flatMap (fun i => bytesOf 32 256 (Tab.get u.ctr.trace 0 ((c.num 16 4 + i) % 262144)))) u) ∧
  (∀ (s u : State) (c : Command) (ring : Nat),
      s.passes 0x0E08 ring = true →
      s.front ring = c →
      s.taken ring = u →
      c.num 16 4 ≤ 262143 ∧ 1 ≤ c.num 20 2 ∧ c.num 20 2 ≤ 128 →
      u.ctr.traceOpen = true →
      exec (.traceRead ring) s = s.endsWith ring stBusy ([]) u)

/-- With the power link up, SLOT_SET of a channel without power writes its limit and sequence registers over the link; SLOT_ON of a channel whose
presence input is set and that is OFF sends on and is QUEUED; SLOT_OFF drives PERST_N low and sends off; SLOT_CLEAR_LATCH sends clear; FEED_SET writes
the feed register; SLOT_READ, SLOT_STATUS and FEED_STATUS answer the fabric die's copies. While the link is down only the two status rows are served.
-/
def Obligations.SlotCommandsRun : Prop :=
  (∀ (s u : State) (c : Command) (ring : Nat),
      s.passes 0x0B01 ring = true →
      s.front ring = c →
      s.taken ring = u →
      u.power.link = true ∧ c.byte 16 ≤ 47 →
      c.byte 17 ≤ 7 ∧ 1 ≤ c.byte 18 ∧ c.byte 18 ≤ 16 ∧ 10 ≤ c.num 20 2 ∧ c.num 20 2 ≤ 500 →
      1 ≤ c.byte 22 ∧ c.byte 22 ≤ 128 ∧ 1 ≤ c.byte 23 ∧ c.byte 23 ≤ 100 ∧ 1 ≤ c.num 24 2 ∧ c.num 24 2 ≤ 100 →
      (u.chCopy (c.byte 16)).powered = false →
      exec (.slotSet ring) s = s.waitsForBoundary ring) ∧
  (∀ (u : State) (c : Command),
      c.opcode.toNat = 0x0B01 →
      u.power.link = true ∧ c.byte 16 ≤ 47 →
      c.byte 17 ≤ 7 ∧ 1 ≤ c.byte 18 ∧ c.byte 18 ≤ 16 ∧ 10 ≤ c.num 20 2 ∧ c.num 20 2 ≤ 500 →
      1 ≤ c.byte 22 ∧ c.byte 22 ≤ 128 ∧ 1 ≤ c.byte 23 ∧ c.byte 23 ≤ 100 ∧ 1 ≤ c.num 24 2 ∧ c.num 24 2 ≤ 100 →
      (u.chCopy (c.byte 16)).powered = false →
      runOp c u = (.final stDone [], pushFrames [writeFrame (c.byte 16) 1 (fieldAt (c.byte 22) 16 + c.num 20 2), writeFrame (c.byte 16) 2 (fieldAt (c.num 24 2) 17 + fieldAt (c.byte 23) 10 + fieldAt (c.byte 18 - 1) 6 + fieldAt (c.byte 17) 3)] u)) ∧
  (∀ (s : State) (c : Command) (ring : Nat),
      s.passes 0x0B02 ring = true →
      s.front ring = c →
      s.power.link = true ∧ c.byte 16 ≤ 47 →
      (s.channel (c.byte 16)).prsnt = true ∧ (s.chCopy (c.byte 16)).code = 8 →
      exec (.slotOn ring) s = s.isQueued ring (.slotOn (c.byte 16))
        (fun t => pushFrames [writeFrame (c.byte 16) 3 1] t)) ∧
  (∀ (s u : State) (c : Command) (ring : Nat),
      s.passes 0x0B03 ring = true →
      s.front ring = c →
      s.taken ring = u →
      u.power.link = true ∧ c.byte 16 ≤ 47 →
      u.slotBusy (c.byte 16) = false ∧ u.hasJob (fun k => decide (k = .slotOn (c.byte 16))) = false →
      exec (.slotOff ring) s = s.waitsForBoundary ring) ∧
  (∀ (u : State) (c : Command),
      c.opcode.toNat = 0x0B03 →
      u.power.link = true ∧ c.byte 16 ≤ 47 →
      u.slotBusy (c.byte 16) = false ∧ u.hasJob (fun k => decide (k = .slotOn (c.byte 16))) = false →
      runOp c u = (.final stDone [], pushFrames [writeFrame (c.byte 16) 3 2] (drivePerst (c.byte 16) u))) ∧
  (∀ (s u : State) (c : Command) (ring : Nat),
      s.passes 0x0B04 ring = true →
      s.front ring = c →
      s.taken ring = u →
      u.power.link = true ∧ c.byte 16 ≤ 47 →
      exec (.slotClearLatch ring) s = s.waitsForBoundary ring) ∧
  (∀ (u : State) (c : Command),
      c.opcode.toNat = 0x0B04 →
      u.power.link = true ∧ c.byte 16 ≤ 47 →
      runOp c u = (.final stDone [], pushFrames [writeFrame (c.byte 16) 3 4] u)) ∧
  (∀ (s u : State) (c : Command) (ring : Nat),
      s.passes 0x0B05 ring = true →
      s.front ring = c →
      s.taken ring = u →
      u.power.link = true ∧ c.byte 16 ≤ 47 →
      exec (.slotRead ring) s = s.endsWith ring stDone ([BitVec.ofNat 8 (c.byte 16), BitVec.ofNat 8 (bitsOf (u.chCopy (c.byte 16)).seqReg 5 3), BitVec.ofNat 8 (bitsOf (u.chCopy (c.byte 16)).seqReg 9 6 + 1), 0] ++
        bytesOf 2 16 (BitVec.ofNat 16 (bitsOf (u.chCopy (c.byte 16)).limitReg 8 0)) ++ [BitVec.ofNat 8 (bitsOf (u.chCopy (c.byte 16)).limitReg 23 16), BitVec.ofNat 8 (bitsOf (u.chCopy (c.byte 16)).seqReg 16 10)] ++
        bytesOf 2 16 (BitVec.ofNat 16 (bitsOf (u.chCopy (c.byte 16)).seqReg 23 17))) u) ∧
  (∀ (s u : State) (c : Command) (ring : Nat),
      s.passes 0x0B05 ring = true →
      s.front ring = c →
      s.taken ring = u →
      u.power.link = false →
      exec (.slotRead ring) s = s.endsWith ring stNotInMode ([]) u) ∧
  (∀ (s u : State) (c : Command) (ring : Nat),
      s.passes 0x0B06 ring = true →
      s.front ring = c →
      s.taken ring = u →
      c.byte 16 ≤ 47 →
      exec (.slotStatus ring) s = s.endsWith ring stDone ((u.chCopy (c.byte 16)).status) u) ∧
  (∀ (s u : State) (c : Command) (ring : Nat),
      s.passes 0x0B07 ring = true →
      s.front ring = c →
      s.taken ring = u →
      u.power.link = true ∧ c.byte 16 ≤ 1 →
      900 ≤ c.num 18 2 ∧ c.num 18 2 ≤ 1400 →
      (c.byte 16 = 0 → 2 ≤ c.byte 20 ∧ c.byte 20 ≤ 50) →
      (c.byte 16 = 1 → c.byte 20 = 0) →
      exec (.feedSet ring) s = s.waitsForBoundary ring) ∧
  (∀ (u : State) (c : Command),
      c.opcode.toNat = 0x0B07 →
      u.power.link = true ∧ c.byte 16 ≤ 1 →
      900 ≤ c.num 18 2 ∧ c.num 18 2 ≤ 1400 →
      (c.byte 16 = 0 → 2 ≤ c.byte 20 ∧ c.byte 20 ≤ 50) →
      (c.byte 16 = 1 → c.byte 20 = 0) →
      runOp c u = (.final stDone [], pushFrames [writeFrame (0x40 + c.byte 16) 1 (fieldAt (c.byte 20) 11 + c.num 18 2)] u)) ∧
  (∀ (s u : State) (c : Command) (ring : Nat),
      s.passes 0x0B08 ring = true →
      s.front ring = c →
      s.taken ring = u →
      exec (.feedStatus ring) s = s.endsWith ring stDone ([BitVec.ofNat 8 (bitsOf u.power.pdState 13 12), BitVec.ofNat 8 (bitsOf u.power.feedStA 1 1 + 2 * bitsOf u.power.feedStB 1 1 + 4 * bit u.power.brownout)] ++
        bytesOf 2 12 u.power.voltA ++ bytesOf 2 12 u.power.voltB ++ [0, 0] ++ bytesOf 8 64 u.power.switchStamp) u)

/-- WEAR_READ answers the prediction and latest sample of a monitor, and for class 0x0A the fault counts of a lane's record in the wear book;
WEAR_SUMMARY answers the limiting monitor and the flags; LEDGER_READ answers entries in index order, wrapping; LEDGER_STATUS answers the totals;
HEALTH_BIST and HEALTH_VMIN join the tests that run and are QUEUED. -/
def Obligations.WearCommandsRun : Prop :=
  (∀ (s u : State) (c : Command) (ring : Nat),
      s.passes 0x0C01 ring = true →
      s.front ring = c →
      s.taken ring = u →
      c.byte 16 ≠ 0x0A ∧ c.num 18 2 < monitorInstances (c.byte 16) →
      exec (.wearRead ring) s = s.endsWith ring stDone (bytesOf 4 32 (BitVec.ofNat 32 (monitorPrediction u.wear (c.byte 16) (c.num 18 2)).1) ++ bytesOf 4 32 (BitVec.ofNat 32 (monitorPrediction u.wear (c.byte 16) (c.num 18 2)).2) ++
        bytesOf 8 64 (BitVec.ofNat 64 (latestSample u.wear (c.byte 16) (c.num 18 2)))) u) ∧
  (∀ (s u : State) (c : Command) (ring : Nat),
      s.passes 0x0C01 ring = true →
      s.front ring = c →
      s.taken ring = u →
      c.byte 16 = 0x0A ∧ c.num 18 2 < 256 →
      exec (.wearRead ring) s = s.endsWith ring stDone (bytesOf 4 32 (BitVec.ofNat 32 (u.wear.bookLane (c.num 18 2)).1) ++ bytesOf 4 32 (BitVec.ofNat 32 (u.wear.bookLane (c.num 18 2)).2)) u) ∧
  (∀ (s u : State) (c : Command) (ring : Nat),
      s.passes 0x0C02 ring = true →
      s.front ring = c →
      s.taken ring = u →
      exec (.wearSummary ring) s = s.endsWith ring stDone (bytesOf 4 32 (BitVec.ofNat 32 (wearLimiting u.wear).2.2.1) ++ bytesOf 4 32 (BitVec.ofNat 32 (wearLimiting u.wear).2.2.2) ++ [BitVec.ofNat 8 (wearLimiting u.wear).1, 0] ++
        bytesOf 2 16 (BitVec.ofNat 16 (wearLimiting u.wear).2.1) ++ [BitVec.ofNat 8 (bit u.wear.advisory + 2 * bit u.wear.urgent)]) u) ∧
  (∀ (s u : State) (c : Command) (ring : Nat),
      s.passes 0x0C03 ring = true →
      s.front ring = c →
      s.taken ring = u →
      c.num 16 2 ≤ 4095 ∧ 1 ≤ c.num 18 2 ∧ c.num 18 2 ≤ 64 →
      exec (.ledgerRead ring) s = s.endsWith ring stDone ((List.range (c.num 18 2)).flatMap (fun i => u.ledgerBytes ((c.num 16 2 + i) % 4096))) u) ∧
  (∀ (s u : State) (c : Command) (ring : Nat),
      s.passes 0x0C04 ring = true →
      s.front ring = c →
      s.taken ring = u →
      exec (.ledgerStatus ring) s = s.endsWith ring stDone (bytesOf 8 64 (BitVec.ofNat 64 u.ledger.written) ++ bytesOf 2 16 (BitVec.ofNat 16 u.ledger.next) ++ bytesOf 2 16 (BitVec.ofNat 16 u.ledger.slots)) u) ∧
  (∀ (s : State) (c : Command) (ring : Nat),
      s.passes 0x0C05 ring = true →
      s.front ring = c →
      exec (.healthBist ring) s = s.isQueued ring (.bist)
        (fun t => t.modDev (fun d => { d with healthBist := d.healthBist ++ [c.byte 16] }))) ∧
  (∀ (s : State) (c : Command) (ring : Nat),
      s.passes 0x0C06 ring = true →
      s.front ring = c →
      c.byte 16 ≤ 1 →
      exec (.healthVmin ring) s = s.isQueued ring (.vmin)
        (fun t => t.modDev (fun d => { d with healthVmin := d.healthVmin ++ [c.byte 16] })))

/-- COUNTERSIGN by another authority with the proposal's digest makes the proposal due and is QUEUED; by the proposer's own authority it is refused
with DENIED; CS_WITHDRAW ends a proposal with ABORTED; CS_LIST answers the outstanding proposals; CS_SET_WINDOW and CS_SET_AUTHORITY, which are
guarded, change the window and the authorities, where CS_SET_AUTHORITY leaves two authorities to group 0x0D. -/
def Obligations.CountersignCommandsRun : Prop :=
  (∀ (s : State) (c : Command) (p : Proposal) (ring : Nat),
      s.passes 0x0D01 ring = true →
      s.front ring = c →
      s.proposal (BitVec.ofNat 16 (c.num 16 2)) = some p →
      p.signer = none →
      authorityOf ring ≠ p.authority.toNat ∧ authorityOf ring ≠ 3 →
      c.num 24 32 = p.digest.toNat →
      exec (.countersign ring) s = .next ((mirrorProposal (BitVec.ofNat 16 (c.num 16 2)) ((s.noted ring (.countersign (BitVec.ofNat 16 (c.num 16 2)))).modProposal (BitVec.ofNat 16 (c.num 16 2)) (fun x => { x with signer := some c, due := true }))).setPending s.pending)) ∧
  (∀ (s u : State) (c : Command) (ring : Nat),
      s.passes 0x0D02 ring = true →
      s.front ring = c →
      s.taken ring = u →
      u.proposal (BitVec.ofNat 16 (c.num 16 2)) = none →
      exec (.csWithdraw ring) s = s.endsWith ring stInvalidParam ([]) u) ∧
  (∀ (s u : State) (c : Command) (p : Proposal) (ring : Nat),
      s.passes 0x0D02 ring = true →
      s.front ring = c →
      s.taken ring = u →
      u.proposal (BitVec.ofNat 16 (c.num 16 2)) = some p →
      p.signer = none →
      exec (.csWithdraw ring) s = s.endsWith ring stDone [] (endProposal p stAborted u)) ∧
  (∀ (s u : State) (c : Command) (ring : Nat),
      s.passes 0x0D03 ring = true →
      s.front ring = c →
      s.taken ring = u →
      exec (.csList ring) s = s.endsWith ring stDone (bytesOf 8 8 (BitVec.ofNat 8 u.teller.proposals.length) ++ u.teller.proposals.flatMap Proposal.listed ++ List.replicate (64 * (8 - u.teller.proposals.length)) 0) u) ∧
  (∀ (s : State) (ring : Nat),
      s.passes 0x0D04 ring = true →
      exec (.csSetWindow ring) s = s.isStaged ring) ∧
  (∀ (u : State) (c : Command),
      c.opcode.toNat = 0x0D04 →
      1024 ≤ c.num 16 4 ∧ c.num 16 4 ≤ 58593750 →
      runOp c u = (.final stDone [], u.modTeller (fun t => { t with window := BitVec.ofNat 32 (c.num 16 4) }))) ∧
  (∀ (s : State) (ring : Nat),
      s.passes 0x0D05 ring = true →
      exec (.csSetAuthority ring) s = s.isStaged ring) ∧
  (∀ (u : State) (c : Command),
      c.opcode.toNat = 0x0D05 →
      2 ≤ bit ((c.byte 28).testBit 0) + bit ((c.byte 28).testBit 1) + bit ((c.byte 28).testBit 2) →
      runOp c u = (.final stDone [], (u.modTeller (fun t => { t with authority := c.masks })).modRecords (fun r => { r with authority := c.masks })))

/-- TIME_SET_EPOCH, outside SHADOW while the almanac is FREE, counts the epoch and logs the old and new values; TIME_SET_SEASON notes the exponent for
the next season boundary and is QUEUED; TIME_SET_ROOT sets the root, with no hops at the root itself; TIME_READ answers. -/
def Obligations.TimeCommandsRun : Prop :=
  (∀ (s u : State) (c : Command) (ring : Nat),
      s.passes 0x0E01 ring = true →
      s.front ring = c →
      s.taken ring = u →
      u.dev.mode ≠ .shadow ∧ u.time.sync = .free →
      c.num 16 8 % 1024 = 0 ∧ u.epochBase.toNat ≤ c.num 16 8 ∧ c.num 16 8 < 2 ^ 64 →
      exec (.timeSetEpoch ring) s = s.waitsForBoundary ring) ∧
  (∀ (u : State) (c : Command),
      c.opcode.toNat = 0x0E01 →
      u.dev.mode ≠ .shadow ∧ u.time.sync = .free →
      c.num 16 8 % 1024 = 0 ∧ u.epochBase.toNat ≤ c.num 16 8 ∧ c.num 16 8 < 2 ^ 64 →
      runOp c u = (.final stDone [], enqueue { ledgerEntry (u.modTime (fun t => { t with epochGen := t.epochGen + 1, coarse := false, epochOld := some (BitVec.ofNat 64 (c.num 16 8)) })) 0x01 0x1D (u.time.epochGen + 1).toNat 0 0 u.epochBase (BitVec.ofNat 64 (c.num 16 8)) with stamp := BitVec.ofNat 64 (c.num 16 8) } (u.modTime (fun t => { t with epochGen := t.epochGen + 1, coarse := false, epochOld := some (BitVec.ofNat 64 (c.num 16 8)) })))) ∧
  (∀ (s : State) (c : Command) (ring : Nat),
      s.passes 0x0E02 ring = true →
      s.front ring = c →
      10 ≤ c.byte 16 ∧ c.byte 16 ≤ 24 →
      s.time.newK = none →
      exec (.timeSetSeason ring) s = s.isQueued ring (.season)
        (fun t => t.modTime (fun t => { t with newK := some (BitVec.ofNat 5 (c.byte 16)) }))) ∧
  (∀ (s u : State) (c : Command) (ring : Nat),
      s.passes 0x0E03 ring = true →
      s.front ring = c →
      s.taken ring = u →
      c.byte 16 ≤ 15 →
      exec (.timeSetRoot ring) s = s.waitsForBoundary ring) ∧
  (∀ (u : State) (c : Command),
      c.opcode.toNat = 0x0E03 →
      c.byte 16 ≤ 15 →
      runOp c u = (.final stDone [], u.modTime (fun t => { t with root := some (BitVec.ofNat 4 (c.byte 16)), hops := if c.byte 16 = u.self then 0 else t.hops }))) ∧
  (∀ (s u : State) (c : Command) (ring : Nat),
      s.passes 0x0E04 ring = true →
      s.front ring = c →
      s.taken ring = u →
      exec (.timeRead ring) s = s.endsWith ring stDone (bytesOf 4 32 (BitVec.ofNat 32 u.time.status) ++ bytesOf 4 32 u.time.offsetRead ++ bytesOf 8 64 u.time.seasonStart) u)

/-- The canonical body of a command: its 64 bytes as issued, with tag (bytes 4 to 7), ext_result and fwd (bits 17 and 18) zero, with bytes 56 to 63
zero where ext_result is 1 and kept where it is 0, and with param_addr (bytes 16 to 23) zero and the parameter block following where ext_param is 1.
The digest is that of the canonical body, so two commands that differ in nothing but what is cleared, the ring they were written to and who wrote them
have one digest. -/
def Obligations.CanonicalBodies : Prop :=
  (∀ (c : Command) (i : Nat),
      i < 64 →
      c.canonical[i]? = some (BitVec.ofNat 8 (if 4 ≤ i ∧ i < 8 then 0
        else if i = 2 then c.byte 2 - c.byte 2 / 2 % 4 * 2
        else if 56 ≤ i ∧ c.extResult = true then 0
        else if 16 ≤ i ∧ i < 24 ∧ c.extParam = true then 0
        else c.byte i))) ∧
  (∀ (c : Command),
      c.canonical.drop 64 = if c.extParam then c.block else []) ∧
  (∀ (c : Command),
      c.digest = BitVec.ofNat 256 (natOfBytes (sha256 c.canonical))) ∧
  (∀ (c d : Command),
      c.extResult = d.extResult →
      (c.extParam = true → c.block = d.block) →
      (∀ i, i < 512 → ¬ (32 ≤ i ∧ i < 64) → i ≠ 17 → i ≠ 18 → ¬ (448 ≤ i ∧ c.extResult = true) → ¬ (128 ≤ i ∧ i < 192 ∧ c.extParam = true) →
      c.word.getLsbD i = d.word.getLsbD i) →
      c.canonical = d.canonical ∧ c.digest = d.digest)

/-- An entry of CS_LIST is 64 bytes: the proposal number, the opcode, the proposer's authority coded as in RING_STATUS of its ring, the ring, bit 0 of
byte 6 set when it is countersigned, the tag, the remaining ticks and the full digest, and every other byte zero. CS_LIST answers with the entry of
the i-th outstanding proposal at 8 + 64 * i of its block. -/
def Obligations.CountersignListEntries : Prop :=
  (∀ (p : Proposal),
      p.listed.length = 64) ∧
  (∀ (p : Proposal) (i : Nat),
      i < 64 →
      p.listed[i]? = some (BitVec.ofNat 8 (if i < 2 then p.number.toNat / 256 ^ i
        else if i < 4 then p.cmd.opcode.toNat / 256 ^ (i - 2)
        else if i = 4 then p.authority.toNat
        else if i = 5 then p.cmd.ring
        else if i = 6 then (if p.signer.isSome then 1 else 0)
        else if 8 ≤ i ∧ i < 12 then p.cmd.tag.toNat / 256 ^ (i - 8)
        else if 12 ≤ i ∧ i < 16 then p.remaining / 256 ^ (i - 12)
        else if 32 ≤ i then p.digest.toNat / 256 ^ (i - 32)
        else 0))) ∧
  (∀ (c : Command) (s t : State) (p : Proposal),
      p ∈ (propose c s).teller.proposals →
      p ∉ s.teller.proposals →
      p.cmd = c ∧ p.authority = BitVec.ofNat 2 (ringStatus t c.ring)) ∧
  (∀ (s u : State) (c : Command) (ring : Nat),
      s.passes 0x0D03 ring = true →
      s.front ring = c →
      s.taken ring = u →
      ∃ block, exec (.csList ring) s = s.endsWith ring stDone block u ∧
        ∀ i p, u.teller.proposals[i]? = some p → (block.drop (8 + 64 * i)).take 64 = p.listed)

/-- The depth of an external egress port is the number of cells that wait for it, of every class, in all virtual output queues and in the port's
staging. With thresholds T1 < T2 < T3 it is graded 0 light below T1, 1 optimal from T1 to T2 - 1, 2 moderate from T2 to T3 - 1 and 3 severe from T3
on. The occupancy of a home slice, the number of its transaction entries in use as COH_STATUS shows it, is graded by the same table with the slice's
own thresholds. At reset the thresholds are 8, 32 and 96 cells, and 256, 640 and 896 entries. -/
def Obligations.LoadLevels : Prop :=
  (∀ (s : State) (port : Nat),
      s.depth port = s.switch.voq.countP (fun c => c.dst < 16 && c.egress == port) + s.switch.staging.countP (fun c => c.dst < 16 && c.egress == port)) ∧
  (∀ (s : State) (port : Nat),
      (s.port port).t1 < (s.port port).t2 ∧ (s.port port).t2 < (s.port port).t3 →
      (s.portLevel port = 0 ↔ s.depth port < (s.port port).t1) ∧
        (s.portLevel port = 1 ↔ (s.port port).t1 ≤ s.depth port ∧ s.depth port ≤ (s.port port).t2 - 1) ∧
        (s.portLevel port = 2 ↔ (s.port port).t2 ≤ s.depth port ∧ s.depth port ≤ (s.port port).t3 - 1) ∧
        (s.portLevel port = 3 ↔ (s.port port).t3 ≤ s.depth port)) ∧
  (∀ (s : State) (sl : Nat),
      s.cohStatus sl / 2 ^ 32 % 2 ^ 11 = (s.slice sl).openEntries % 2 ^ 11) ∧
  (∀ (s : State) (sl : Nat),
      (s.slice sl).t1 < (s.slice sl).t2 ∧ (s.slice sl).t2 < (s.slice sl).t3 →
      (s.sliceLevel sl = 0 ↔ (s.slice sl).openEntries < (s.slice sl).t1) ∧
        (s.sliceLevel sl = 1 ↔ (s.slice sl).t1 ≤ (s.slice sl).openEntries ∧ (s.slice sl).openEntries ≤ (s.slice sl).t2 - 1) ∧
        (s.sliceLevel sl = 2 ↔ (s.slice sl).t2 ≤ (s.slice sl).openEntries ∧ (s.slice sl).openEntries ≤ (s.slice sl).t3 - 1) ∧
        (s.sliceLevel sl = 3 ↔ (s.slice sl).t3 ≤ (s.slice sl).openEntries)) ∧
  (∀ (port sl : Nat),
      port < 128 ∧ sl < 8 →
      ((State.reset.port port).t1 = 8 ∧ (State.reset.port port).t2 = 32 ∧ (State.reset.port port).t3 = 96) ∧
        (State.reset.slice sl).t1 = 256 ∧ (State.reset.slice sl).t2 = 640 ∧ (State.reset.slice sl).t3 = 896)

/-- PORT_SET_LOAD_THRESHOLDS, unguarded, is refused with INVALID_PARAMETER unless 1 ≤ T1 < T2 < T3 ≤ 4,095, and else waits for the next tick boundary,
where it sets the three thresholds of each port of its mask; COH_SET_LOAD_THRESHOLDS does the same with the slices of its mask up to 1,024. At the
boundary the check runs again. -/
def Obligations.LoadThresholdCommands : Prop :=
  (∀ (op : Nat),
      op = 0x040A ∨ op = 0x0503 →
      ∃ o, opInfo op = some o ∧ o.guarded = false ∧ o.ends = .tick) ∧
  (∀ (s u : State) (c : Command) (ring : Nat),
      s.passes 0x040A ring = true →
      s.front ring = c →
      s.taken ring = u →
      exec (.portSetLoadThresholds ring) s =
        if 1 ≤ c.num 18 2 ∧ c.num 18 2 < c.num 20 2 ∧ c.num 20 2 < c.num 22 2 ∧ c.num 22 2 ≤ 4095 then s.waitsForBoundary ring
        else s.becomes (answerStart c stInvalidParam [] u)) ∧
  (∀ (u : State) (c : Command),
      c.opcode.toNat = 0x040A →
      runOp c u =
        if 1 ≤ c.num 18 2 ∧ c.num 18 2 < c.num 20 2 ∧ c.num 20 2 < c.num 22 2 ∧ c.num 22 2 ≤ 4095 then
          (.final stDone [], forEach ((List.range 128).filter (fun p => (c.num 24 16).testBit p))
            (fun p t => t.modPort p (fun x => { x with t1 := c.num 18 2, t2 := c.num 20 2, t3 := c.num 22 2 })) u)
        else (.final stInvalidParam [], u)) ∧
  (∀ (s u : State) (c : Command) (ring : Nat),
      s.passes 0x0503 ring = true →
      s.front ring = c →
      s.taken ring = u →
      exec (.cohSetLoadThresholds ring) s =
        if 1 ≤ c.num 18 2 ∧ c.num 18 2 < c.num 20 2 ∧ c.num 20 2 < c.num 22 2 ∧ c.num 22 2 ≤ 1024 then s.waitsForBoundary ring
        else s.becomes (answerStart c stInvalidParam [] u)) ∧
  (∀ (u : State) (c : Command),
      c.opcode.toNat = 0x0503 →
      runOp c u =
        if 1 ≤ c.num 18 2 ∧ c.num 18 2 < c.num 20 2 ∧ c.num 20 2 < c.num 22 2 ∧ c.num 22 2 ≤ 1024 then
          (.final stDone [], forEach ((List.range 8).filter (fun i => (c.byte 16).testBit i))
            (fun i t => t.modSlice i (fun x => { x with t1 := c.num 18 2, t2 := c.num 20 2, t3 := c.num 22 2 })) u)
        else (.final stInvalidParam [], u))
end

