-- ==== Sys2Proof/Laws/State.lean ====
section
/-! SUPPORT. What each setter of the state does to each component, by rfl: no later proof unfolds a record update. -/

namespace Sys2Proof.Machine

@[simp] theorem State.setTime_time (s : State) (x : Time) : (s.setTime x).time = x := rfl
@[simp] theorem State.setTime_dev (s : State) (x : Time) : (s.setTime x).dev = s.dev := rfl
@[simp] theorem State.setTime_evc (s : State) (x : Time) : (s.setTime x).evc = s.evc := rfl
@[simp] theorem State.setTime_ctr (s : State) (x : Time) : (s.setTime x).ctr = s.ctr := rfl
@[simp] theorem State.setTime_ledger (s : State) (x : Time) : (s.setTime x).ledger = s.ledger := rfl
@[simp] theorem State.setTime_wear (s : State) (x : Time) : (s.setTime x).wear = s.wear := rfl
@[simp] theorem State.setTime_records (s : State) (x : Time) : (s.setTime x).records = s.records := rfl
@[simp] theorem State.setTime_teller (s : State) (x : Time) : (s.setTime x).teller = s.teller := rfl
@[simp] theorem State.setTime_pool (s : State) (x : Time) : (s.setTime x).pool = s.pool := rfl
@[simp] theorem State.setTime_home (s : State) (x : Time) : (s.setTime x).home = s.home := rfl
@[simp] theorem State.setTime_switch (s : State) (x : Time) : (s.setTime x).switch = s.switch := rfl
@[simp] theorem State.setTime_ports (s : State) (x : Time) : (s.setTime x).ports = s.ports := rfl
@[simp] theorem State.setTime_lanes (s : State) (x : Time) : (s.setTime x).lanes = s.lanes := rfl
@[simp] theorem State.setTime_trunks (s : State) (x : Time) : (s.setTime x).trunks = s.trunks := rfl
@[simp] theorem State.setTime_pair (s : State) (x : Time) : (s.setTime x).pair = s.pair := rfl
@[simp] theorem State.setTime_barrow (s : State) (x : Time) : (s.setTime x).barrow = s.barrow := rfl
@[simp] theorem State.setTime_steward (s : State) (x : Time) : (s.setTime x).steward = s.steward := rfl
@[simp] theorem State.setTime_dieLink (s : State) (x : Time) : (s.setTime x).dieLink = s.dieLink := rfl
@[simp] theorem State.setTime_bridge (s : State) (x : Time) : (s.setTime x).bridge = s.bridge := rfl
@[simp] theorem State.setTime_power (s : State) (x : Time) : (s.setTime x).power = s.power := rfl
@[simp] theorem State.setTime_free (s : State) (x : Time) : (s.setTime x).free = s.free := rfl
@[simp] theorem State.setTime_pending (s : State) (x : Time) : (s.setTime x).pending = s.pending := rfl

@[simp] theorem State.setDev_time (s : State) (x : Dev) : (s.setDev x).time = s.time := rfl
@[simp] theorem State.setDev_dev (s : State) (x : Dev) : (s.setDev x).dev = x := rfl
@[simp] theorem State.setDev_evc (s : State) (x : Dev) : (s.setDev x).evc = s.evc := rfl
@[simp] theorem State.setDev_ctr (s : State) (x : Dev) : (s.setDev x).ctr = s.ctr := rfl
@[simp] theorem State.setDev_ledger (s : State) (x : Dev) : (s.setDev x).ledger = s.ledger := rfl
@[simp] theorem State.setDev_wear (s : State) (x : Dev) : (s.setDev x).wear = s.wear := rfl
@[simp] theorem State.setDev_records (s : State) (x : Dev) : (s.setDev x).records = s.records := rfl
@[simp] theorem State.setDev_teller (s : State) (x : Dev) : (s.setDev x).teller = s.teller := rfl
@[simp] theorem State.setDev_pool (s : State) (x : Dev) : (s.setDev x).pool = s.pool := rfl
@[simp] theorem State.setDev_home (s : State) (x : Dev) : (s.setDev x).home = s.home := rfl
@[simp] theorem State.setDev_switch (s : State) (x : Dev) : (s.setDev x).switch = s.switch := rfl
@[simp] theorem State.setDev_ports (s : State) (x : Dev) : (s.setDev x).ports = s.ports := rfl
@[simp] theorem State.setDev_lanes (s : State) (x : Dev) : (s.setDev x).lanes = s.lanes := rfl
@[simp] theorem State.setDev_trunks (s : State) (x : Dev) : (s.setDev x).trunks = s.trunks := rfl
@[simp] theorem State.setDev_pair (s : State) (x : Dev) : (s.setDev x).pair = s.pair := rfl
@[simp] theorem State.setDev_barrow (s : State) (x : Dev) : (s.setDev x).barrow = s.barrow := rfl
@[simp] theorem State.setDev_steward (s : State) (x : Dev) : (s.setDev x).steward = s.steward := rfl
@[simp] theorem State.setDev_dieLink (s : State) (x : Dev) : (s.setDev x).dieLink = s.dieLink := rfl
@[simp] theorem State.setDev_bridge (s : State) (x : Dev) : (s.setDev x).bridge = s.bridge := rfl
@[simp] theorem State.setDev_power (s : State) (x : Dev) : (s.setDev x).power = s.power := rfl
@[simp] theorem State.setDev_free (s : State) (x : Dev) : (s.setDev x).free = s.free := rfl
@[simp] theorem State.setDev_pending (s : State) (x : Dev) : (s.setDev x).pending = s.pending := rfl

@[simp] theorem State.setEvc_time (s : State) (x : Evc) : (s.setEvc x).time = s.time := rfl
@[simp] theorem State.setEvc_dev (s : State) (x : Evc) : (s.setEvc x).dev = s.dev := rfl
@[simp] theorem State.setEvc_evc (s : State) (x : Evc) : (s.setEvc x).evc = x := rfl
@[simp] theorem State.setEvc_ctr (s : State) (x : Evc) : (s.setEvc x).ctr = s.ctr := rfl
@[simp] theorem State.setEvc_ledger (s : State) (x : Evc) : (s.setEvc x).ledger = s.ledger := rfl
@[simp] theorem State.setEvc_wear (s : State) (x : Evc) : (s.setEvc x).wear = s.wear := rfl
@[simp] theorem State.setEvc_records (s : State) (x : Evc) : (s.setEvc x).records = s.records := rfl
@[simp] theorem State.setEvc_teller (s : State) (x : Evc) : (s.setEvc x).teller = s.teller := rfl
@[simp] theorem State.setEvc_pool (s : State) (x : Evc) : (s.setEvc x).pool = s.pool := rfl
@[simp] theorem State.setEvc_home (s : State) (x : Evc) : (s.setEvc x).home = s.home := rfl
@[simp] theorem State.setEvc_switch (s : State) (x : Evc) : (s.setEvc x).switch = s.switch := rfl
@[simp] theorem State.setEvc_ports (s : State) (x : Evc) : (s.setEvc x).ports = s.ports := rfl
@[simp] theorem State.setEvc_lanes (s : State) (x : Evc) : (s.setEvc x).lanes = s.lanes := rfl
@[simp] theorem State.setEvc_trunks (s : State) (x : Evc) : (s.setEvc x).trunks = s.trunks := rfl
@[simp] theorem State.setEvc_pair (s : State) (x : Evc) : (s.setEvc x).pair = s.pair := rfl
@[simp] theorem State.setEvc_barrow (s : State) (x : Evc) : (s.setEvc x).barrow = s.barrow := rfl
@[simp] theorem State.setEvc_steward (s : State) (x : Evc) : (s.setEvc x).steward = s.steward := rfl
@[simp] theorem State.setEvc_dieLink (s : State) (x : Evc) : (s.setEvc x).dieLink = s.dieLink := rfl
@[simp] theorem State.setEvc_bridge (s : State) (x : Evc) : (s.setEvc x).bridge = s.bridge := rfl
@[simp] theorem State.setEvc_power (s : State) (x : Evc) : (s.setEvc x).power = s.power := rfl
@[simp] theorem State.setEvc_free (s : State) (x : Evc) : (s.setEvc x).free = s.free := rfl
@[simp] theorem State.setEvc_pending (s : State) (x : Evc) : (s.setEvc x).pending = s.pending := rfl

@[simp] theorem State.setCtr_time (s : State) (x : Counters) : (s.setCtr x).time = s.time := rfl
@[simp] theorem State.setCtr_dev (s : State) (x : Counters) : (s.setCtr x).dev = s.dev := rfl
@[simp] theorem State.setCtr_evc (s : State) (x : Counters) : (s.setCtr x).evc = s.evc := rfl
@[simp] theorem State.setCtr_ctr (s : State) (x : Counters) : (s.setCtr x).ctr = x := rfl
@[simp] theorem State.setCtr_ledger (s : State) (x : Counters) : (s.setCtr x).ledger = s.ledger := rfl
@[simp] theorem State.setCtr_wear (s : State) (x : Counters) : (s.setCtr x).wear = s.wear := rfl
@[simp] theorem State.setCtr_records (s : State) (x : Counters) : (s.setCtr x).records = s.records := rfl
@[simp] theorem State.setCtr_teller (s : State) (x : Counters) : (s.setCtr x).teller = s.teller := rfl
@[simp] theorem State.setCtr_pool (s : State) (x : Counters) : (s.setCtr x).pool = s.pool := rfl
@[simp] theorem State.setCtr_home (s : State) (x : Counters) : (s.setCtr x).home = s.home := rfl
@[simp] theorem State.setCtr_switch (s : State) (x : Counters) : (s.setCtr x).switch = s.switch := rfl
@[simp] theorem State.setCtr_ports (s : State) (x : Counters) : (s.setCtr x).ports = s.ports := rfl
@[simp] theorem State.setCtr_lanes (s : State) (x : Counters) : (s.setCtr x).lanes = s.lanes := rfl
@[simp] theorem State.setCtr_trunks (s : State) (x : Counters) : (s.setCtr x).trunks = s.trunks := rfl
@[simp] theorem State.setCtr_pair (s : State) (x : Counters) : (s.setCtr x).pair = s.pair := rfl
@[simp] theorem State.setCtr_barrow (s : State) (x : Counters) : (s.setCtr x).barrow = s.barrow := rfl
@[simp] theorem State.setCtr_steward (s : State) (x : Counters) : (s.setCtr x).steward = s.steward := rfl
@[simp] theorem State.setCtr_dieLink (s : State) (x : Counters) : (s.setCtr x).dieLink = s.dieLink := rfl
@[simp] theorem State.setCtr_bridge (s : State) (x : Counters) : (s.setCtr x).bridge = s.bridge := rfl
@[simp] theorem State.setCtr_power (s : State) (x : Counters) : (s.setCtr x).power = s.power := rfl
@[simp] theorem State.setCtr_free (s : State) (x : Counters) : (s.setCtr x).free = s.free := rfl
@[simp] theorem State.setCtr_pending (s : State) (x : Counters) : (s.setCtr x).pending = s.pending := rfl

@[simp] theorem State.setLedger_time (s : State) (x : Ledger) : (s.setLedger x).time = s.time := rfl
@[simp] theorem State.setLedger_dev (s : State) (x : Ledger) : (s.setLedger x).dev = s.dev := rfl
@[simp] theorem State.setLedger_evc (s : State) (x : Ledger) : (s.setLedger x).evc = s.evc := rfl
@[simp] theorem State.setLedger_ctr (s : State) (x : Ledger) : (s.setLedger x).ctr = s.ctr := rfl
@[simp] theorem State.setLedger_ledger (s : State) (x : Ledger) : (s.setLedger x).ledger = x := rfl
@[simp] theorem State.setLedger_wear (s : State) (x : Ledger) : (s.setLedger x).wear = s.wear := rfl
@[simp] theorem State.setLedger_records (s : State) (x : Ledger) : (s.setLedger x).records = s.records := rfl
@[simp] theorem State.setLedger_teller (s : State) (x : Ledger) : (s.setLedger x).teller = s.teller := rfl
@[simp] theorem State.setLedger_pool (s : State) (x : Ledger) : (s.setLedger x).pool = s.pool := rfl
@[simp] theorem State.setLedger_home (s : State) (x : Ledger) : (s.setLedger x).home = s.home := rfl
@[simp] theorem State.setLedger_switch (s : State) (x : Ledger) : (s.setLedger x).switch = s.switch := rfl
@[simp] theorem State.setLedger_ports (s : State) (x : Ledger) : (s.setLedger x).ports = s.ports := rfl
@[simp] theorem State.setLedger_lanes (s : State) (x : Ledger) : (s.setLedger x).lanes = s.lanes := rfl
@[simp] theorem State.setLedger_trunks (s : State) (x : Ledger) : (s.setLedger x).trunks = s.trunks := rfl
@[simp] theorem State.setLedger_pair (s : State) (x : Ledger) : (s.setLedger x).pair = s.pair := rfl
@[simp] theorem State.setLedger_barrow (s : State) (x : Ledger) : (s.setLedger x).barrow = s.barrow := rfl
@[simp] theorem State.setLedger_steward (s : State) (x : Ledger) : (s.setLedger x).steward = s.steward := rfl
@[simp] theorem State.setLedger_dieLink (s : State) (x : Ledger) : (s.setLedger x).dieLink = s.dieLink := rfl
@[simp] theorem State.setLedger_bridge (s : State) (x : Ledger) : (s.setLedger x).bridge = s.bridge := rfl
@[simp] theorem State.setLedger_power (s : State) (x : Ledger) : (s.setLedger x).power = s.power := rfl
@[simp] theorem State.setLedger_free (s : State) (x : Ledger) : (s.setLedger x).free = s.free := rfl
@[simp] theorem State.setLedger_pending (s : State) (x : Ledger) : (s.setLedger x).pending = s.pending := rfl

@[simp] theorem State.setWear_time (s : State) (x : Wear) : (s.setWear x).time = s.time := rfl
@[simp] theorem State.setWear_dev (s : State) (x : Wear) : (s.setWear x).dev = s.dev := rfl
@[simp] theorem State.setWear_evc (s : State) (x : Wear) : (s.setWear x).evc = s.evc := rfl
@[simp] theorem State.setWear_ctr (s : State) (x : Wear) : (s.setWear x).ctr = s.ctr := rfl
@[simp] theorem State.setWear_ledger (s : State) (x : Wear) : (s.setWear x).ledger = s.ledger := rfl
@[simp] theorem State.setWear_wear (s : State) (x : Wear) : (s.setWear x).wear = x := rfl
@[simp] theorem State.setWear_records (s : State) (x : Wear) : (s.setWear x).records = s.records := rfl
@[simp] theorem State.setWear_teller (s : State) (x : Wear) : (s.setWear x).teller = s.teller := rfl
@[simp] theorem State.setWear_pool (s : State) (x : Wear) : (s.setWear x).pool = s.pool := rfl
@[simp] theorem State.setWear_home (s : State) (x : Wear) : (s.setWear x).home = s.home := rfl
@[simp] theorem State.setWear_switch (s : State) (x : Wear) : (s.setWear x).switch = s.switch := rfl
@[simp] theorem State.setWear_ports (s : State) (x : Wear) : (s.setWear x).ports = s.ports := rfl
@[simp] theorem State.setWear_lanes (s : State) (x : Wear) : (s.setWear x).lanes = s.lanes := rfl
@[simp] theorem State.setWear_trunks (s : State) (x : Wear) : (s.setWear x).trunks = s.trunks := rfl
@[simp] theorem State.setWear_pair (s : State) (x : Wear) : (s.setWear x).pair = s.pair := rfl
@[simp] theorem State.setWear_barrow (s : State) (x : Wear) : (s.setWear x).barrow = s.barrow := rfl
@[simp] theorem State.setWear_steward (s : State) (x : Wear) : (s.setWear x).steward = s.steward := rfl
@[simp] theorem State.setWear_dieLink (s : State) (x : Wear) : (s.setWear x).dieLink = s.dieLink := rfl
@[simp] theorem State.setWear_bridge (s : State) (x : Wear) : (s.setWear x).bridge = s.bridge := rfl
@[simp] theorem State.setWear_power (s : State) (x : Wear) : (s.setWear x).power = s.power := rfl
@[simp] theorem State.setWear_free (s : State) (x : Wear) : (s.setWear x).free = s.free := rfl
@[simp] theorem State.setWear_pending (s : State) (x : Wear) : (s.setWear x).pending = s.pending := rfl

@[simp] theorem State.setRecords_time (s : State) (x : Records) : (s.setRecords x).time = s.time := rfl
@[simp] theorem State.setRecords_dev (s : State) (x : Records) : (s.setRecords x).dev = s.dev := rfl
@[simp] theorem State.setRecords_evc (s : State) (x : Records) : (s.setRecords x).evc = s.evc := rfl
@[simp] theorem State.setRecords_ctr (s : State) (x : Records) : (s.setRecords x).ctr = s.ctr := rfl
@[simp] theorem State.setRecords_ledger (s : State) (x : Records) : (s.setRecords x).ledger = s.ledger := rfl
@[simp] theorem State.setRecords_wear (s : State) (x : Records) : (s.setRecords x).wear = s.wear := rfl
@[simp] theorem State.setRecords_records (s : State) (x : Records) : (s.setRecords x).records = x := rfl
@[simp] theorem State.setRecords_teller (s : State) (x : Records) : (s.setRecords x).teller = s.teller := rfl
@[simp] theorem State.setRecords_pool (s : State) (x : Records) : (s.setRecords x).pool = s.pool := rfl
@[simp] theorem State.setRecords_home (s : State) (x : Records) : (s.setRecords x).home = s.home := rfl
@[simp] theorem State.setRecords_switch (s : State) (x : Records) : (s.setRecords x).switch = s.switch := rfl
@[simp] theorem State.setRecords_ports (s : State) (x : Records) : (s.setRecords x).ports = s.ports := rfl
@[simp] theorem State.setRecords_lanes (s : State) (x : Records) : (s.setRecords x).lanes = s.lanes := rfl
@[simp] theorem State.setRecords_trunks (s : State) (x : Records) : (s.setRecords x).trunks = s.trunks := rfl
@[simp] theorem State.setRecords_pair (s : State) (x : Records) : (s.setRecords x).pair = s.pair := rfl
@[simp] theorem State.setRecords_barrow (s : State) (x : Records) : (s.setRecords x).barrow = s.barrow := rfl
@[simp] theorem State.setRecords_steward (s : State) (x : Records) : (s.setRecords x).steward = s.steward := rfl
@[simp] theorem State.setRecords_dieLink (s : State) (x : Records) : (s.setRecords x).dieLink = s.dieLink := rfl
@[simp] theorem State.setRecords_bridge (s : State) (x : Records) : (s.setRecords x).bridge = s.bridge := rfl
@[simp] theorem State.setRecords_power (s : State) (x : Records) : (s.setRecords x).power = s.power := rfl
@[simp] theorem State.setRecords_free (s : State) (x : Records) : (s.setRecords x).free = s.free := rfl
@[simp] theorem State.setRecords_pending (s : State) (x : Records) : (s.setRecords x).pending = s.pending := rfl

@[simp] theorem State.setTeller_time (s : State) (x : Teller) : (s.setTeller x).time = s.time := rfl
@[simp] theorem State.setTeller_dev (s : State) (x : Teller) : (s.setTeller x).dev = s.dev := rfl
@[simp] theorem State.setTeller_evc (s : State) (x : Teller) : (s.setTeller x).evc = s.evc := rfl
@[simp] theorem State.setTeller_ctr (s : State) (x : Teller) : (s.setTeller x).ctr = s.ctr := rfl
@[simp] theorem State.setTeller_ledger (s : State) (x : Teller) : (s.setTeller x).ledger = s.ledger := rfl
@[simp] theorem State.setTeller_wear (s : State) (x : Teller) : (s.setTeller x).wear = s.wear := rfl
@[simp] theorem State.setTeller_records (s : State) (x : Teller) : (s.setTeller x).records = s.records := rfl
@[simp] theorem State.setTeller_teller (s : State) (x : Teller) : (s.setTeller x).teller = x := rfl
@[simp] theorem State.setTeller_pool (s : State) (x : Teller) : (s.setTeller x).pool = s.pool := rfl
@[simp] theorem State.setTeller_home (s : State) (x : Teller) : (s.setTeller x).home = s.home := rfl
@[simp] theorem State.setTeller_switch (s : State) (x : Teller) : (s.setTeller x).switch = s.switch := rfl
@[simp] theorem State.setTeller_ports (s : State) (x : Teller) : (s.setTeller x).ports = s.ports := rfl
@[simp] theorem State.setTeller_lanes (s : State) (x : Teller) : (s.setTeller x).lanes = s.lanes := rfl
@[simp] theorem State.setTeller_trunks (s : State) (x : Teller) : (s.setTeller x).trunks = s.trunks := rfl
@[simp] theorem State.setTeller_pair (s : State) (x : Teller) : (s.setTeller x).pair = s.pair := rfl
@[simp] theorem State.setTeller_barrow (s : State) (x : Teller) : (s.setTeller x).barrow = s.barrow := rfl
@[simp] theorem State.setTeller_steward (s : State) (x : Teller) : (s.setTeller x).steward = s.steward := rfl
@[simp] theorem State.setTeller_dieLink (s : State) (x : Teller) : (s.setTeller x).dieLink = s.dieLink := rfl
@[simp] theorem State.setTeller_bridge (s : State) (x : Teller) : (s.setTeller x).bridge = s.bridge := rfl
@[simp] theorem State.setTeller_power (s : State) (x : Teller) : (s.setTeller x).power = s.power := rfl
@[simp] theorem State.setTeller_free (s : State) (x : Teller) : (s.setTeller x).free = s.free := rfl
@[simp] theorem State.setTeller_pending (s : State) (x : Teller) : (s.setTeller x).pending = s.pending := rfl

@[simp] theorem State.setPool_time (s : State) (x : Pool) : (s.setPool x).time = s.time := rfl
@[simp] theorem State.setPool_dev (s : State) (x : Pool) : (s.setPool x).dev = s.dev := rfl
@[simp] theorem State.setPool_evc (s : State) (x : Pool) : (s.setPool x).evc = s.evc := rfl
@[simp] theorem State.setPool_ctr (s : State) (x : Pool) : (s.setPool x).ctr = s.ctr := rfl
@[simp] theorem State.setPool_ledger (s : State) (x : Pool) : (s.setPool x).ledger = s.ledger := rfl
@[simp] theorem State.setPool_wear (s : State) (x : Pool) : (s.setPool x).wear = s.wear := rfl
@[simp] theorem State.setPool_records (s : State) (x : Pool) : (s.setPool x).records = s.records := rfl
@[simp] theorem State.setPool_teller (s : State) (x : Pool) : (s.setPool x).teller = s.teller := rfl
@[simp] theorem State.setPool_pool (s : State) (x : Pool) : (s.setPool x).pool = x := rfl
@[simp] theorem State.setPool_home (s : State) (x : Pool) : (s.setPool x).home = s.home := rfl
@[simp] theorem State.setPool_switch (s : State) (x : Pool) : (s.setPool x).switch = s.switch := rfl
@[simp] theorem State.setPool_ports (s : State) (x : Pool) : (s.setPool x).ports = s.ports := rfl
@[simp] theorem State.setPool_lanes (s : State) (x : Pool) : (s.setPool x).lanes = s.lanes := rfl
@[simp] theorem State.setPool_trunks (s : State) (x : Pool) : (s.setPool x).trunks = s.trunks := rfl
@[simp] theorem State.setPool_pair (s : State) (x : Pool) : (s.setPool x).pair = s.pair := rfl
@[simp] theorem State.setPool_barrow (s : State) (x : Pool) : (s.setPool x).barrow = s.barrow := rfl
@[simp] theorem State.setPool_steward (s : State) (x : Pool) : (s.setPool x).steward = s.steward := rfl
@[simp] theorem State.setPool_dieLink (s : State) (x : Pool) : (s.setPool x).dieLink = s.dieLink := rfl
@[simp] theorem State.setPool_bridge (s : State) (x : Pool) : (s.setPool x).bridge = s.bridge := rfl
@[simp] theorem State.setPool_power (s : State) (x : Pool) : (s.setPool x).power = s.power := rfl
@[simp] theorem State.setPool_free (s : State) (x : Pool) : (s.setPool x).free = s.free := rfl
@[simp] theorem State.setPool_pending (s : State) (x : Pool) : (s.setPool x).pending = s.pending := rfl

@[simp] theorem State.setHome_time (s : State) (x : Home) : (s.setHome x).time = s.time := rfl
@[simp] theorem State.setHome_dev (s : State) (x : Home) : (s.setHome x).dev = s.dev := rfl
@[simp] theorem State.setHome_evc (s : State) (x : Home) : (s.setHome x).evc = s.evc := rfl
@[simp] theorem State.setHome_ctr (s : State) (x : Home) : (s.setHome x).ctr = s.ctr := rfl
@[simp] theorem State.setHome_ledger (s : State) (x : Home) : (s.setHome x).ledger = s.ledger := rfl
@[simp] theorem State.setHome_wear (s : State) (x : Home) : (s.setHome x).wear = s.wear := rfl
@[simp] theorem State.setHome_records (s : State) (x : Home) : (s.setHome x).records = s.records := rfl
@[simp] theorem State.setHome_teller (s : State) (x : Home) : (s.setHome x).teller = s.teller := rfl
@[simp] theorem State.setHome_pool (s : State) (x : Home) : (s.setHome x).pool = s.pool := rfl
@[simp] theorem State.setHome_home (s : State) (x : Home) : (s.setHome x).home = x := rfl
@[simp] theorem State.setHome_switch (s : State) (x : Home) : (s.setHome x).switch = s.switch := rfl
@[simp] theorem State.setHome_ports (s : State) (x : Home) : (s.setHome x).ports = s.ports := rfl
@[simp] theorem State.setHome_lanes (s : State) (x : Home) : (s.setHome x).lanes = s.lanes := rfl
@[simp] theorem State.setHome_trunks (s : State) (x : Home) : (s.setHome x).trunks = s.trunks := rfl
@[simp] theorem State.setHome_pair (s : State) (x : Home) : (s.setHome x).pair = s.pair := rfl
@[simp] theorem State.setHome_barrow (s : State) (x : Home) : (s.setHome x).barrow = s.barrow := rfl
@[simp] theorem State.setHome_steward (s : State) (x : Home) : (s.setHome x).steward = s.steward := rfl
@[simp] theorem State.setHome_dieLink (s : State) (x : Home) : (s.setHome x).dieLink = s.dieLink := rfl
@[simp] theorem State.setHome_bridge (s : State) (x : Home) : (s.setHome x).bridge = s.bridge := rfl
@[simp] theorem State.setHome_power (s : State) (x : Home) : (s.setHome x).power = s.power := rfl
@[simp] theorem State.setHome_free (s : State) (x : Home) : (s.setHome x).free = s.free := rfl
@[simp] theorem State.setHome_pending (s : State) (x : Home) : (s.setHome x).pending = s.pending := rfl

@[simp] theorem State.setSwitch_time (s : State) (x : Switch) : (s.setSwitch x).time = s.time := rfl
@[simp] theorem State.setSwitch_dev (s : State) (x : Switch) : (s.setSwitch x).dev = s.dev := rfl
@[simp] theorem State.setSwitch_evc (s : State) (x : Switch) : (s.setSwitch x).evc = s.evc := rfl
@[simp] theorem State.setSwitch_ctr (s : State) (x : Switch) : (s.setSwitch x).ctr = s.ctr := rfl
@[simp] theorem State.setSwitch_ledger (s : State) (x : Switch) : (s.setSwitch x).ledger = s.ledger := rfl
@[simp] theorem State.setSwitch_wear (s : State) (x : Switch) : (s.setSwitch x).wear = s.wear := rfl
@[simp] theorem State.setSwitch_records (s : State) (x : Switch) : (s.setSwitch x).records = s.records := rfl
@[simp] theorem State.setSwitch_teller (s : State) (x : Switch) : (s.setSwitch x).teller = s.teller := rfl
@[simp] theorem State.setSwitch_pool (s : State) (x : Switch) : (s.setSwitch x).pool = s.pool := rfl
@[simp] theorem State.setSwitch_home (s : State) (x : Switch) : (s.setSwitch x).home = s.home := rfl
@[simp] theorem State.setSwitch_switch (s : State) (x : Switch) : (s.setSwitch x).switch = x := rfl
@[simp] theorem State.setSwitch_ports (s : State) (x : Switch) : (s.setSwitch x).ports = s.ports := rfl
@[simp] theorem State.setSwitch_lanes (s : State) (x : Switch) : (s.setSwitch x).lanes = s.lanes := rfl
@[simp] theorem State.setSwitch_trunks (s : State) (x : Switch) : (s.setSwitch x).trunks = s.trunks := rfl
@[simp] theorem State.setSwitch_pair (s : State) (x : Switch) : (s.setSwitch x).pair = s.pair := rfl
@[simp] theorem State.setSwitch_barrow (s : State) (x : Switch) : (s.setSwitch x).barrow = s.barrow := rfl
@[simp] theorem State.setSwitch_steward (s : State) (x : Switch) : (s.setSwitch x).steward = s.steward := rfl
@[simp] theorem State.setSwitch_dieLink (s : State) (x : Switch) : (s.setSwitch x).dieLink = s.dieLink := rfl
@[simp] theorem State.setSwitch_bridge (s : State) (x : Switch) : (s.setSwitch x).bridge = s.bridge := rfl
@[simp] theorem State.setSwitch_power (s : State) (x : Switch) : (s.setSwitch x).power = s.power := rfl
@[simp] theorem State.setSwitch_free (s : State) (x : Switch) : (s.setSwitch x).free = s.free := rfl
@[simp] theorem State.setSwitch_pending (s : State) (x : Switch) : (s.setSwitch x).pending = s.pending := rfl

@[simp] theorem State.setPorts_time (s : State) (x : Ports) : (s.setPorts x).time = s.time := rfl
@[simp] theorem State.setPorts_dev (s : State) (x : Ports) : (s.setPorts x).dev = s.dev := rfl
@[simp] theorem State.setPorts_evc (s : State) (x : Ports) : (s.setPorts x).evc = s.evc := rfl
@[simp] theorem State.setPorts_ctr (s : State) (x : Ports) : (s.setPorts x).ctr = s.ctr := rfl
@[simp] theorem State.setPorts_ledger (s : State) (x : Ports) : (s.setPorts x).ledger = s.ledger := rfl
@[simp] theorem State.setPorts_wear (s : State) (x : Ports) : (s.setPorts x).wear = s.wear := rfl
@[simp] theorem State.setPorts_records (s : State) (x : Ports) : (s.setPorts x).records = s.records := rfl
@[simp] theorem State.setPorts_teller (s : State) (x : Ports) : (s.setPorts x).teller = s.teller := rfl
@[simp] theorem State.setPorts_pool (s : State) (x : Ports) : (s.setPorts x).pool = s.pool := rfl
@[simp] theorem State.setPorts_home (s : State) (x : Ports) : (s.setPorts x).home = s.home := rfl
@[simp] theorem State.setPorts_switch (s : State) (x : Ports) : (s.setPorts x).switch = s.switch := rfl
@[simp] theorem State.setPorts_ports (s : State) (x : Ports) : (s.setPorts x).ports = x := rfl
@[simp] theorem State.setPorts_lanes (s : State) (x : Ports) : (s.setPorts x).lanes = s.lanes := rfl
@[simp] theorem State.setPorts_trunks (s : State) (x : Ports) : (s.setPorts x).trunks = s.trunks := rfl
@[simp] theorem State.setPorts_pair (s : State) (x : Ports) : (s.setPorts x).pair = s.pair := rfl
@[simp] theorem State.setPorts_barrow (s : State) (x : Ports) : (s.setPorts x).barrow = s.barrow := rfl
@[simp] theorem State.setPorts_steward (s : State) (x : Ports) : (s.setPorts x).steward = s.steward := rfl
@[simp] theorem State.setPorts_dieLink (s : State) (x : Ports) : (s.setPorts x).dieLink = s.dieLink := rfl
@[simp] theorem State.setPorts_bridge (s : State) (x : Ports) : (s.setPorts x).bridge = s.bridge := rfl
@[simp] theorem State.setPorts_power (s : State) (x : Ports) : (s.setPorts x).power = s.power := rfl
@[simp] theorem State.setPorts_free (s : State) (x : Ports) : (s.setPorts x).free = s.free := rfl
@[simp] theorem State.setPorts_pending (s : State) (x : Ports) : (s.setPorts x).pending = s.pending := rfl

@[simp] theorem State.setLanes_time (s : State) (x : Lanes) : (s.setLanes x).time = s.time := rfl
@[simp] theorem State.setLanes_dev (s : State) (x : Lanes) : (s.setLanes x).dev = s.dev := rfl
@[simp] theorem State.setLanes_evc (s : State) (x : Lanes) : (s.setLanes x).evc = s.evc := rfl
@[simp] theorem State.setLanes_ctr (s : State) (x : Lanes) : (s.setLanes x).ctr = s.ctr := rfl
@[simp] theorem State.setLanes_ledger (s : State) (x : Lanes) : (s.setLanes x).ledger = s.ledger := rfl
@[simp] theorem State.setLanes_wear (s : State) (x : Lanes) : (s.setLanes x).wear = s.wear := rfl
@[simp] theorem State.setLanes_records (s : State) (x : Lanes) : (s.setLanes x).records = s.records := rfl
@[simp] theorem State.setLanes_teller (s : State) (x : Lanes) : (s.setLanes x).teller = s.teller := rfl
@[simp] theorem State.setLanes_pool (s : State) (x : Lanes) : (s.setLanes x).pool = s.pool := rfl
@[simp] theorem State.setLanes_home (s : State) (x : Lanes) : (s.setLanes x).home = s.home := rfl
@[simp] theorem State.setLanes_switch (s : State) (x : Lanes) : (s.setLanes x).switch = s.switch := rfl
@[simp] theorem State.setLanes_ports (s : State) (x : Lanes) : (s.setLanes x).ports = s.ports := rfl
@[simp] theorem State.setLanes_lanes (s : State) (x : Lanes) : (s.setLanes x).lanes = x := rfl
@[simp] theorem State.setLanes_trunks (s : State) (x : Lanes) : (s.setLanes x).trunks = s.trunks := rfl
@[simp] theorem State.setLanes_pair (s : State) (x : Lanes) : (s.setLanes x).pair = s.pair := rfl
@[simp] theorem State.setLanes_barrow (s : State) (x : Lanes) : (s.setLanes x).barrow = s.barrow := rfl
@[simp] theorem State.setLanes_steward (s : State) (x : Lanes) : (s.setLanes x).steward = s.steward := rfl
@[simp] theorem State.setLanes_dieLink (s : State) (x : Lanes) : (s.setLanes x).dieLink = s.dieLink := rfl
@[simp] theorem State.setLanes_bridge (s : State) (x : Lanes) : (s.setLanes x).bridge = s.bridge := rfl
@[simp] theorem State.setLanes_power (s : State) (x : Lanes) : (s.setLanes x).power = s.power := rfl
@[simp] theorem State.setLanes_free (s : State) (x : Lanes) : (s.setLanes x).free = s.free := rfl
@[simp] theorem State.setLanes_pending (s : State) (x : Lanes) : (s.setLanes x).pending = s.pending := rfl

@[simp] theorem State.setTrunks_time (s : State) (x : Trunks) : (s.setTrunks x).time = s.time := rfl
@[simp] theorem State.setTrunks_dev (s : State) (x : Trunks) : (s.setTrunks x).dev = s.dev := rfl
@[simp] theorem State.setTrunks_evc (s : State) (x : Trunks) : (s.setTrunks x).evc = s.evc := rfl
@[simp] theorem State.setTrunks_ctr (s : State) (x : Trunks) : (s.setTrunks x).ctr = s.ctr := rfl
@[simp] theorem State.setTrunks_ledger (s : State) (x : Trunks) : (s.setTrunks x).ledger = s.ledger := rfl
@[simp] theorem State.setTrunks_wear (s : State) (x : Trunks) : (s.setTrunks x).wear = s.wear := rfl
@[simp] theorem State.setTrunks_records (s : State) (x : Trunks) : (s.setTrunks x).records = s.records := rfl
@[simp] theorem State.setTrunks_teller (s : State) (x : Trunks) : (s.setTrunks x).teller = s.teller := rfl
@[simp] theorem State.setTrunks_pool (s : State) (x : Trunks) : (s.setTrunks x).pool = s.pool := rfl
@[simp] theorem State.setTrunks_home (s : State) (x : Trunks) : (s.setTrunks x).home = s.home := rfl
@[simp] theorem State.setTrunks_switch (s : State) (x : Trunks) : (s.setTrunks x).switch = s.switch := rfl
@[simp] theorem State.setTrunks_ports (s : State) (x : Trunks) : (s.setTrunks x).ports = s.ports := rfl
@[simp] theorem State.setTrunks_lanes (s : State) (x : Trunks) : (s.setTrunks x).lanes = s.lanes := rfl
@[simp] theorem State.setTrunks_trunks (s : State) (x : Trunks) : (s.setTrunks x).trunks = x := rfl
@[simp] theorem State.setTrunks_pair (s : State) (x : Trunks) : (s.setTrunks x).pair = s.pair := rfl
@[simp] theorem State.setTrunks_barrow (s : State) (x : Trunks) : (s.setTrunks x).barrow = s.barrow := rfl
@[simp] theorem State.setTrunks_steward (s : State) (x : Trunks) : (s.setTrunks x).steward = s.steward := rfl
@[simp] theorem State.setTrunks_dieLink (s : State) (x : Trunks) : (s.setTrunks x).dieLink = s.dieLink := rfl
@[simp] theorem State.setTrunks_bridge (s : State) (x : Trunks) : (s.setTrunks x).bridge = s.bridge := rfl
@[simp] theorem State.setTrunks_power (s : State) (x : Trunks) : (s.setTrunks x).power = s.power := rfl
@[simp] theorem State.setTrunks_free (s : State) (x : Trunks) : (s.setTrunks x).free = s.free := rfl
@[simp] theorem State.setTrunks_pending (s : State) (x : Trunks) : (s.setTrunks x).pending = s.pending := rfl

@[simp] theorem State.setPair_time (s : State) (x : Pair) : (s.setPair x).time = s.time := rfl
@[simp] theorem State.setPair_dev (s : State) (x : Pair) : (s.setPair x).dev = s.dev := rfl
@[simp] theorem State.setPair_evc (s : State) (x : Pair) : (s.setPair x).evc = s.evc := rfl
@[simp] theorem State.setPair_ctr (s : State) (x : Pair) : (s.setPair x).ctr = s.ctr := rfl
@[simp] theorem State.setPair_ledger (s : State) (x : Pair) : (s.setPair x).ledger = s.ledger := rfl
@[simp] theorem State.setPair_wear (s : State) (x : Pair) : (s.setPair x).wear = s.wear := rfl
@[simp] theorem State.setPair_records (s : State) (x : Pair) : (s.setPair x).records = s.records := rfl
@[simp] theorem State.setPair_teller (s : State) (x : Pair) : (s.setPair x).teller = s.teller := rfl
@[simp] theorem State.setPair_pool (s : State) (x : Pair) : (s.setPair x).pool = s.pool := rfl
@[simp] theorem State.setPair_home (s : State) (x : Pair) : (s.setPair x).home = s.home := rfl
@[simp] theorem State.setPair_switch (s : State) (x : Pair) : (s.setPair x).switch = s.switch := rfl
@[simp] theorem State.setPair_ports (s : State) (x : Pair) : (s.setPair x).ports = s.ports := rfl
@[simp] theorem State.setPair_lanes (s : State) (x : Pair) : (s.setPair x).lanes = s.lanes := rfl
@[simp] theorem State.setPair_trunks (s : State) (x : Pair) : (s.setPair x).trunks = s.trunks := rfl
@[simp] theorem State.setPair_pair (s : State) (x : Pair) : (s.setPair x).pair = x := rfl
@[simp] theorem State.setPair_barrow (s : State) (x : Pair) : (s.setPair x).barrow = s.barrow := rfl
@[simp] theorem State.setPair_steward (s : State) (x : Pair) : (s.setPair x).steward = s.steward := rfl
@[simp] theorem State.setPair_dieLink (s : State) (x : Pair) : (s.setPair x).dieLink = s.dieLink := rfl
@[simp] theorem State.setPair_bridge (s : State) (x : Pair) : (s.setPair x).bridge = s.bridge := rfl
@[simp] theorem State.setPair_power (s : State) (x : Pair) : (s.setPair x).power = s.power := rfl
@[simp] theorem State.setPair_free (s : State) (x : Pair) : (s.setPair x).free = s.free := rfl
@[simp] theorem State.setPair_pending (s : State) (x : Pair) : (s.setPair x).pending = s.pending := rfl

@[simp] theorem State.setBarrow_time (s : State) (x : Barrow) : (s.setBarrow x).time = s.time := rfl
@[simp] theorem State.setBarrow_dev (s : State) (x : Barrow) : (s.setBarrow x).dev = s.dev := rfl
@[simp] theorem State.setBarrow_evc (s : State) (x : Barrow) : (s.setBarrow x).evc = s.evc := rfl
@[simp] theorem State.setBarrow_ctr (s : State) (x : Barrow) : (s.setBarrow x).ctr = s.ctr := rfl
@[simp] theorem State.setBarrow_ledger (s : State) (x : Barrow) : (s.setBarrow x).ledger = s.ledger := rfl
@[simp] theorem State.setBarrow_wear (s : State) (x : Barrow) : (s.setBarrow x).wear = s.wear := rfl
@[simp] theorem State.setBarrow_records (s : State) (x : Barrow) : (s.setBarrow x).records = s.records := rfl
@[simp] theorem State.setBarrow_teller (s : State) (x : Barrow) : (s.setBarrow x).teller = s.teller := rfl
@[simp] theorem State.setBarrow_pool (s : State) (x : Barrow) : (s.setBarrow x).pool = s.pool := rfl
@[simp] theorem State.setBarrow_home (s : State) (x : Barrow) : (s.setBarrow x).home = s.home := rfl
@[simp] theorem State.setBarrow_switch (s : State) (x : Barrow) : (s.setBarrow x).switch = s.switch := rfl
@[simp] theorem State.setBarrow_ports (s : State) (x : Barrow) : (s.setBarrow x).ports = s.ports := rfl
@[simp] theorem State.setBarrow_lanes (s : State) (x : Barrow) : (s.setBarrow x).lanes = s.lanes := rfl
@[simp] theorem State.setBarrow_trunks (s : State) (x : Barrow) : (s.setBarrow x).trunks = s.trunks := rfl
@[simp] theorem State.setBarrow_pair (s : State) (x : Barrow) : (s.setBarrow x).pair = s.pair := rfl
@[simp] theorem State.setBarrow_barrow (s : State) (x : Barrow) : (s.setBarrow x).barrow = x := rfl
@[simp] theorem State.setBarrow_steward (s : State) (x : Barrow) : (s.setBarrow x).steward = s.steward := rfl
@[simp] theorem State.setBarrow_dieLink (s : State) (x : Barrow) : (s.setBarrow x).dieLink = s.dieLink := rfl
@[simp] theorem State.setBarrow_bridge (s : State) (x : Barrow) : (s.setBarrow x).bridge = s.bridge := rfl
@[simp] theorem State.setBarrow_power (s : State) (x : Barrow) : (s.setBarrow x).power = s.power := rfl
@[simp] theorem State.setBarrow_free (s : State) (x : Barrow) : (s.setBarrow x).free = s.free := rfl
@[simp] theorem State.setBarrow_pending (s : State) (x : Barrow) : (s.setBarrow x).pending = s.pending := rfl

@[simp] theorem State.setSteward_time (s : State) (x : Steward) : (s.setSteward x).time = s.time := rfl
@[simp] theorem State.setSteward_dev (s : State) (x : Steward) : (s.setSteward x).dev = s.dev := rfl
@[simp] theorem State.setSteward_evc (s : State) (x : Steward) : (s.setSteward x).evc = s.evc := rfl
@[simp] theorem State.setSteward_ctr (s : State) (x : Steward) : (s.setSteward x).ctr = s.ctr := rfl
@[simp] theorem State.setSteward_ledger (s : State) (x : Steward) : (s.setSteward x).ledger = s.ledger := rfl
@[simp] theorem State.setSteward_wear (s : State) (x : Steward) : (s.setSteward x).wear = s.wear := rfl
@[simp] theorem State.setSteward_records (s : State) (x : Steward) : (s.setSteward x).records = s.records := rfl
@[simp] theorem State.setSteward_teller (s : State) (x : Steward) : (s.setSteward x).teller = s.teller := rfl
@[simp] theorem State.setSteward_pool (s : State) (x : Steward) : (s.setSteward x).pool = s.pool := rfl
@[simp] theorem State.setSteward_home (s : State) (x : Steward) : (s.setSteward x).home = s.home := rfl
@[simp] theorem State.setSteward_switch (s : State) (x : Steward) : (s.setSteward x).switch = s.switch := rfl
@[simp] theorem State.setSteward_ports (s : State) (x : Steward) : (s.setSteward x).ports = s.ports := rfl
@[simp] theorem State.setSteward_lanes (s : State) (x : Steward) : (s.setSteward x).lanes = s.lanes := rfl
@[simp] theorem State.setSteward_trunks (s : State) (x : Steward) : (s.setSteward x).trunks = s.trunks := rfl
@[simp] theorem State.setSteward_pair (s : State) (x : Steward) : (s.setSteward x).pair = s.pair := rfl
@[simp] theorem State.setSteward_barrow (s : State) (x : Steward) : (s.setSteward x).barrow = s.barrow := rfl
@[simp] theorem State.setSteward_steward (s : State) (x : Steward) : (s.setSteward x).steward = x := rfl
@[simp] theorem State.setSteward_dieLink (s : State) (x : Steward) : (s.setSteward x).dieLink = s.dieLink := rfl
@[simp] theorem State.setSteward_bridge (s : State) (x : Steward) : (s.setSteward x).bridge = s.bridge := rfl
@[simp] theorem State.setSteward_power (s : State) (x : Steward) : (s.setSteward x).power = s.power := rfl
@[simp] theorem State.setSteward_free (s : State) (x : Steward) : (s.setSteward x).free = s.free := rfl
@[simp] theorem State.setSteward_pending (s : State) (x : Steward) : (s.setSteward x).pending = s.pending := rfl

@[simp] theorem State.setDieLink_time (s : State) (x : DieLink) : (s.setDieLink x).time = s.time := rfl
@[simp] theorem State.setDieLink_dev (s : State) (x : DieLink) : (s.setDieLink x).dev = s.dev := rfl
@[simp] theorem State.setDieLink_evc (s : State) (x : DieLink) : (s.setDieLink x).evc = s.evc := rfl
@[simp] theorem State.setDieLink_ctr (s : State) (x : DieLink) : (s.setDieLink x).ctr = s.ctr := rfl
@[simp] theorem State.setDieLink_ledger (s : State) (x : DieLink) : (s.setDieLink x).ledger = s.ledger := rfl
@[simp] theorem State.setDieLink_wear (s : State) (x : DieLink) : (s.setDieLink x).wear = s.wear := rfl
@[simp] theorem State.setDieLink_records (s : State) (x : DieLink) : (s.setDieLink x).records = s.records := rfl
@[simp] theorem State.setDieLink_teller (s : State) (x : DieLink) : (s.setDieLink x).teller = s.teller := rfl
@[simp] theorem State.setDieLink_pool (s : State) (x : DieLink) : (s.setDieLink x).pool = s.pool := rfl
@[simp] theorem State.setDieLink_home (s : State) (x : DieLink) : (s.setDieLink x).home = s.home := rfl
@[simp] theorem State.setDieLink_switch (s : State) (x : DieLink) : (s.setDieLink x).switch = s.switch := rfl
@[simp] theorem State.setDieLink_ports (s : State) (x : DieLink) : (s.setDieLink x).ports = s.ports := rfl
@[simp] theorem State.setDieLink_lanes (s : State) (x : DieLink) : (s.setDieLink x).lanes = s.lanes := rfl
@[simp] theorem State.setDieLink_trunks (s : State) (x : DieLink) : (s.setDieLink x).trunks = s.trunks := rfl
@[simp] theorem State.setDieLink_pair (s : State) (x : DieLink) : (s.setDieLink x).pair = s.pair := rfl
@[simp] theorem State.setDieLink_barrow (s : State) (x : DieLink) : (s.setDieLink x).barrow = s.barrow := rfl
@[simp] theorem State.setDieLink_steward (s : State) (x : DieLink) : (s.setDieLink x).steward = s.steward := rfl
@[simp] theorem State.setDieLink_dieLink (s : State) (x : DieLink) : (s.setDieLink x).dieLink = x := rfl
@[simp] theorem State.setDieLink_bridge (s : State) (x : DieLink) : (s.setDieLink x).bridge = s.bridge := rfl
@[simp] theorem State.setDieLink_power (s : State) (x : DieLink) : (s.setDieLink x).power = s.power := rfl
@[simp] theorem State.setDieLink_free (s : State) (x : DieLink) : (s.setDieLink x).free = s.free := rfl
@[simp] theorem State.setDieLink_pending (s : State) (x : DieLink) : (s.setDieLink x).pending = s.pending := rfl

@[simp] theorem State.setBridge_time (s : State) (x : Bridge) : (s.setBridge x).time = s.time := rfl
@[simp] theorem State.setBridge_dev (s : State) (x : Bridge) : (s.setBridge x).dev = s.dev := rfl
@[simp] theorem State.setBridge_evc (s : State) (x : Bridge) : (s.setBridge x).evc = s.evc := rfl
@[simp] theorem State.setBridge_ctr (s : State) (x : Bridge) : (s.setBridge x).ctr = s.ctr := rfl
@[simp] theorem State.setBridge_ledger (s : State) (x : Bridge) : (s.setBridge x).ledger = s.ledger := rfl
@[simp] theorem State.setBridge_wear (s : State) (x : Bridge) : (s.setBridge x).wear = s.wear := rfl
@[simp] theorem State.setBridge_records (s : State) (x : Bridge) : (s.setBridge x).records = s.records := rfl
@[simp] theorem State.setBridge_teller (s : State) (x : Bridge) : (s.setBridge x).teller = s.teller := rfl
@[simp] theorem State.setBridge_pool (s : State) (x : Bridge) : (s.setBridge x).pool = s.pool := rfl
@[simp] theorem State.setBridge_home (s : State) (x : Bridge) : (s.setBridge x).home = s.home := rfl
@[simp] theorem State.setBridge_switch (s : State) (x : Bridge) : (s.setBridge x).switch = s.switch := rfl
@[simp] theorem State.setBridge_ports (s : State) (x : Bridge) : (s.setBridge x).ports = s.ports := rfl
@[simp] theorem State.setBridge_lanes (s : State) (x : Bridge) : (s.setBridge x).lanes = s.lanes := rfl
@[simp] theorem State.setBridge_trunks (s : State) (x : Bridge) : (s.setBridge x).trunks = s.trunks := rfl
@[simp] theorem State.setBridge_pair (s : State) (x : Bridge) : (s.setBridge x).pair = s.pair := rfl
@[simp] theorem State.setBridge_barrow (s : State) (x : Bridge) : (s.setBridge x).barrow = s.barrow := rfl
@[simp] theorem State.setBridge_steward (s : State) (x : Bridge) : (s.setBridge x).steward = s.steward := rfl
@[simp] theorem State.setBridge_dieLink (s : State) (x : Bridge) : (s.setBridge x).dieLink = s.dieLink := rfl
@[simp] theorem State.setBridge_bridge (s : State) (x : Bridge) : (s.setBridge x).bridge = x := rfl
@[simp] theorem State.setBridge_power (s : State) (x : Bridge) : (s.setBridge x).power = s.power := rfl
@[simp] theorem State.setBridge_free (s : State) (x : Bridge) : (s.setBridge x).free = s.free := rfl
@[simp] theorem State.setBridge_pending (s : State) (x : Bridge) : (s.setBridge x).pending = s.pending := rfl

@[simp] theorem State.setPower_time (s : State) (x : Power) : (s.setPower x).time = s.time := rfl
@[simp] theorem State.setPower_dev (s : State) (x : Power) : (s.setPower x).dev = s.dev := rfl
@[simp] theorem State.setPower_evc (s : State) (x : Power) : (s.setPower x).evc = s.evc := rfl
@[simp] theorem State.setPower_ctr (s : State) (x : Power) : (s.setPower x).ctr = s.ctr := rfl
@[simp] theorem State.setPower_ledger (s : State) (x : Power) : (s.setPower x).ledger = s.ledger := rfl
@[simp] theorem State.setPower_wear (s : State) (x : Power) : (s.setPower x).wear = s.wear := rfl
@[simp] theorem State.setPower_records (s : State) (x : Power) : (s.setPower x).records = s.records := rfl
@[simp] theorem State.setPower_teller (s : State) (x : Power) : (s.setPower x).teller = s.teller := rfl
@[simp] theorem State.setPower_pool (s : State) (x : Power) : (s.setPower x).pool = s.pool := rfl
@[simp] theorem State.setPower_home (s : State) (x : Power) : (s.setPower x).home = s.home := rfl
@[simp] theorem State.setPower_switch (s : State) (x : Power) : (s.setPower x).switch = s.switch := rfl
@[simp] theorem State.setPower_ports (s : State) (x : Power) : (s.setPower x).ports = s.ports := rfl
@[simp] theorem State.setPower_lanes (s : State) (x : Power) : (s.setPower x).lanes = s.lanes := rfl
@[simp] theorem State.setPower_trunks (s : State) (x : Power) : (s.setPower x).trunks = s.trunks := rfl
@[simp] theorem State.setPower_pair (s : State) (x : Power) : (s.setPower x).pair = s.pair := rfl
@[simp] theorem State.setPower_barrow (s : State) (x : Power) : (s.setPower x).barrow = s.barrow := rfl
@[simp] theorem State.setPower_steward (s : State) (x : Power) : (s.setPower x).steward = s.steward := rfl
@[simp] theorem State.setPower_dieLink (s : State) (x : Power) : (s.setPower x).dieLink = s.dieLink := rfl
@[simp] theorem State.setPower_bridge (s : State) (x : Power) : (s.setPower x).bridge = s.bridge := rfl
@[simp] theorem State.setPower_power (s : State) (x : Power) : (s.setPower x).power = x := rfl
@[simp] theorem State.setPower_free (s : State) (x : Power) : (s.setPower x).free = s.free := rfl
@[simp] theorem State.setPower_pending (s : State) (x : Power) : (s.setPower x).pending = s.pending := rfl

@[simp] theorem State.setFree_time (s : State) (x : Nat) : (s.setFree x).time = s.time := rfl
@[simp] theorem State.setFree_dev (s : State) (x : Nat) : (s.setFree x).dev = s.dev := rfl
@[simp] theorem State.setFree_evc (s : State) (x : Nat) : (s.setFree x).evc = s.evc := rfl
@[simp] theorem State.setFree_ctr (s : State) (x : Nat) : (s.setFree x).ctr = s.ctr := rfl
@[simp] theorem State.setFree_ledger (s : State) (x : Nat) : (s.setFree x).ledger = s.ledger := rfl
@[simp] theorem State.setFree_wear (s : State) (x : Nat) : (s.setFree x).wear = s.wear := rfl
@[simp] theorem State.setFree_records (s : State) (x : Nat) : (s.setFree x).records = s.records := rfl
@[simp] theorem State.setFree_teller (s : State) (x : Nat) : (s.setFree x).teller = s.teller := rfl
@[simp] theorem State.setFree_pool (s : State) (x : Nat) : (s.setFree x).pool = s.pool := rfl
@[simp] theorem State.setFree_home (s : State) (x : Nat) : (s.setFree x).home = s.home := rfl
@[simp] theorem State.setFree_switch (s : State) (x : Nat) : (s.setFree x).switch = s.switch := rfl
@[simp] theorem State.setFree_ports (s : State) (x : Nat) : (s.setFree x).ports = s.ports := rfl
@[simp] theorem State.setFree_lanes (s : State) (x : Nat) : (s.setFree x).lanes = s.lanes := rfl
@[simp] theorem State.setFree_trunks (s : State) (x : Nat) : (s.setFree x).trunks = s.trunks := rfl
@[simp] theorem State.setFree_pair (s : State) (x : Nat) : (s.setFree x).pair = s.pair := rfl
@[simp] theorem State.setFree_barrow (s : State) (x : Nat) : (s.setFree x).barrow = s.barrow := rfl
@[simp] theorem State.setFree_steward (s : State) (x : Nat) : (s.setFree x).steward = s.steward := rfl
@[simp] theorem State.setFree_dieLink (s : State) (x : Nat) : (s.setFree x).dieLink = s.dieLink := rfl
@[simp] theorem State.setFree_bridge (s : State) (x : Nat) : (s.setFree x).bridge = s.bridge := rfl
@[simp] theorem State.setFree_power (s : State) (x : Nat) : (s.setFree x).power = s.power := rfl
@[simp] theorem State.setFree_free (s : State) (x : Nat) : (s.setFree x).free = x := rfl
@[simp] theorem State.setFree_pending (s : State) (x : Nat) : (s.setFree x).pending = s.pending := rfl

@[simp] theorem State.setPending_time (s : State) (x : List Instr) : (s.setPending x).time = s.time := rfl
@[simp] theorem State.setPending_dev (s : State) (x : List Instr) : (s.setPending x).dev = s.dev := rfl
@[simp] theorem State.setPending_evc (s : State) (x : List Instr) : (s.setPending x).evc = s.evc := rfl
@[simp] theorem State.setPending_ctr (s : State) (x : List Instr) : (s.setPending x).ctr = s.ctr := rfl
@[simp] theorem State.setPending_ledger (s : State) (x : List Instr) : (s.setPending x).ledger = s.ledger := rfl
@[simp] theorem State.setPending_wear (s : State) (x : List Instr) : (s.setPending x).wear = s.wear := rfl
@[simp] theorem State.setPending_records (s : State) (x : List Instr) : (s.setPending x).records = s.records := rfl
@[simp] theorem State.setPending_teller (s : State) (x : List Instr) : (s.setPending x).teller = s.teller := rfl
@[simp] theorem State.setPending_pool (s : State) (x : List Instr) : (s.setPending x).pool = s.pool := rfl
@[simp] theorem State.setPending_home (s : State) (x : List Instr) : (s.setPending x).home = s.home := rfl
@[simp] theorem State.setPending_switch (s : State) (x : List Instr) : (s.setPending x).switch = s.switch := rfl
@[simp] theorem State.setPending_ports (s : State) (x : List Instr) : (s.setPending x).ports = s.ports := rfl
@[simp] theorem State.setPending_lanes (s : State) (x : List Instr) : (s.setPending x).lanes = s.lanes := rfl
@[simp] theorem State.setPending_trunks (s : State) (x : List Instr) : (s.setPending x).trunks = s.trunks := rfl
@[simp] theorem State.setPending_pair (s : State) (x : List Instr) : (s.setPending x).pair = s.pair := rfl
@[simp] theorem State.setPending_barrow (s : State) (x : List Instr) : (s.setPending x).barrow = s.barrow := rfl
@[simp] theorem State.setPending_steward (s : State) (x : List Instr) : (s.setPending x).steward = s.steward := rfl
@[simp] theorem State.setPending_dieLink (s : State) (x : List Instr) : (s.setPending x).dieLink = s.dieLink := rfl
@[simp] theorem State.setPending_bridge (s : State) (x : List Instr) : (s.setPending x).bridge = s.bridge := rfl
@[simp] theorem State.setPending_power (s : State) (x : List Instr) : (s.setPending x).power = s.power := rfl
@[simp] theorem State.setPending_free (s : State) (x : List Instr) : (s.setPending x).free = s.free := rfl
@[simp] theorem State.setPending_pending (s : State) (x : List Instr) : (s.setPending x).pending = x := rfl

@[simp] theorem State.modTime_time (s : State) (f : Time → Time) : (s.modTime f).time = f s.time := rfl
@[simp] theorem State.modTime_dev (s : State) (f : Time → Time) : (s.modTime f).dev = s.dev := rfl
@[simp] theorem State.modTime_evc (s : State) (f : Time → Time) : (s.modTime f).evc = s.evc := rfl
@[simp] theorem State.modTime_ctr (s : State) (f : Time → Time) : (s.modTime f).ctr = s.ctr := rfl
@[simp] theorem State.modTime_ledger (s : State) (f : Time → Time) : (s.modTime f).ledger = s.ledger := rfl
@[simp] theorem State.modTime_wear (s : State) (f : Time → Time) : (s.modTime f).wear = s.wear := rfl
@[simp] theorem State.modTime_records (s : State) (f : Time → Time) : (s.modTime f).records = s.records := rfl
@[simp] theorem State.modTime_teller (s : State) (f : Time → Time) : (s.modTime f).teller = s.teller := rfl
@[simp] theorem State.modTime_pool (s : State) (f : Time → Time) : (s.modTime f).pool = s.pool := rfl
@[simp] theorem State.modTime_home (s : State) (f : Time → Time) : (s.modTime f).home = s.home := rfl
@[simp] theorem State.modTime_switch (s : State) (f : Time → Time) : (s.modTime f).switch = s.switch := rfl
@[simp] theorem State.modTime_ports (s : State) (f : Time → Time) : (s.modTime f).ports = s.ports := rfl
@[simp] theorem State.modTime_lanes (s : State) (f : Time → Time) : (s.modTime f).lanes = s.lanes := rfl
@[simp] theorem State.modTime_trunks (s : State) (f : Time → Time) : (s.modTime f).trunks = s.trunks := rfl
@[simp] theorem State.modTime_pair (s : State) (f : Time → Time) : (s.modTime f).pair = s.pair := rfl
@[simp] theorem State.modTime_barrow (s : State) (f : Time → Time) : (s.modTime f).barrow = s.barrow := rfl
@[simp] theorem State.modTime_steward (s : State) (f : Time → Time) : (s.modTime f).steward = s.steward := rfl
@[simp] theorem State.modTime_dieLink (s : State) (f : Time → Time) : (s.modTime f).dieLink = s.dieLink := rfl
@[simp] theorem State.modTime_bridge (s : State) (f : Time → Time) : (s.modTime f).bridge = s.bridge := rfl
@[simp] theorem State.modTime_power (s : State) (f : Time → Time) : (s.modTime f).power = s.power := rfl
@[simp] theorem State.modTime_free (s : State) (f : Time → Time) : (s.modTime f).free = s.free := rfl
@[simp] theorem State.modTime_pending (s : State) (f : Time → Time) : (s.modTime f).pending = s.pending := rfl

@[simp] theorem State.modDev_dev (s : State) (f : Dev → Dev) : (s.modDev f).dev = f s.dev := rfl
@[simp] theorem State.modDev_time (s : State) (f : Dev → Dev) : (s.modDev f).time = s.time := rfl
@[simp] theorem State.modDev_evc (s : State) (f : Dev → Dev) : (s.modDev f).evc = s.evc := rfl
@[simp] theorem State.modDev_ctr (s : State) (f : Dev → Dev) : (s.modDev f).ctr = s.ctr := rfl
@[simp] theorem State.modDev_ledger (s : State) (f : Dev → Dev) : (s.modDev f).ledger = s.ledger := rfl
@[simp] theorem State.modDev_wear (s : State) (f : Dev → Dev) : (s.modDev f).wear = s.wear := rfl
@[simp] theorem State.modDev_records (s : State) (f : Dev → Dev) : (s.modDev f).records = s.records := rfl
@[simp] theorem State.modDev_teller (s : State) (f : Dev → Dev) : (s.modDev f).teller = s.teller := rfl
@[simp] theorem State.modDev_pool (s : State) (f : Dev → Dev) : (s.modDev f).pool = s.pool := rfl
@[simp] theorem State.modDev_home (s : State) (f : Dev → Dev) : (s.modDev f).home = s.home := rfl
@[simp] theorem State.modDev_switch (s : State) (f : Dev → Dev) : (s.modDev f).switch = s.switch := rfl
@[simp] theorem State.modDev_ports (s : State) (f : Dev → Dev) : (s.modDev f).ports = s.ports := rfl
@[simp] theorem State.modDev_lanes (s : State) (f : Dev → Dev) : (s.modDev f).lanes = s.lanes := rfl
@[simp] theorem State.modDev_trunks (s : State) (f : Dev → Dev) : (s.modDev f).trunks = s.trunks := rfl
@[simp] theorem State.modDev_pair (s : State) (f : Dev → Dev) : (s.modDev f).pair = s.pair := rfl
@[simp] theorem State.modDev_barrow (s : State) (f : Dev → Dev) : (s.modDev f).barrow = s.barrow := rfl
@[simp] theorem State.modDev_steward (s : State) (f : Dev → Dev) : (s.modDev f).steward = s.steward := rfl
@[simp] theorem State.modDev_dieLink (s : State) (f : Dev → Dev) : (s.modDev f).dieLink = s.dieLink := rfl
@[simp] theorem State.modDev_bridge (s : State) (f : Dev → Dev) : (s.modDev f).bridge = s.bridge := rfl
@[simp] theorem State.modDev_power (s : State) (f : Dev → Dev) : (s.modDev f).power = s.power := rfl
@[simp] theorem State.modDev_free (s : State) (f : Dev → Dev) : (s.modDev f).free = s.free := rfl
@[simp] theorem State.modDev_pending (s : State) (f : Dev → Dev) : (s.modDev f).pending = s.pending := rfl

@[simp] theorem State.modEvc_evc (s : State) (f : Evc → Evc) : (s.modEvc f).evc = f s.evc := rfl
@[simp] theorem State.modEvc_time (s : State) (f : Evc → Evc) : (s.modEvc f).time = s.time := rfl
@[simp] theorem State.modEvc_dev (s : State) (f : Evc → Evc) : (s.modEvc f).dev = s.dev := rfl
@[simp] theorem State.modEvc_ctr (s : State) (f : Evc → Evc) : (s.modEvc f).ctr = s.ctr := rfl
@[simp] theorem State.modEvc_ledger (s : State) (f : Evc → Evc) : (s.modEvc f).ledger = s.ledger := rfl
@[simp] theorem State.modEvc_wear (s : State) (f : Evc → Evc) : (s.modEvc f).wear = s.wear := rfl
@[simp] theorem State.modEvc_records (s : State) (f : Evc → Evc) : (s.modEvc f).records = s.records := rfl
@[simp] theorem State.modEvc_teller (s : State) (f : Evc → Evc) : (s.modEvc f).teller = s.teller := rfl
@[simp] theorem State.modEvc_pool (s : State) (f : Evc → Evc) : (s.modEvc f).pool = s.pool := rfl
@[simp] theorem State.modEvc_home (s : State) (f : Evc → Evc) : (s.modEvc f).home = s.home := rfl
@[simp] theorem State.modEvc_switch (s : State) (f : Evc → Evc) : (s.modEvc f).switch = s.switch := rfl
@[simp] theorem State.modEvc_ports (s : State) (f : Evc → Evc) : (s.modEvc f).ports = s.ports := rfl
@[simp] theorem State.modEvc_lanes (s : State) (f : Evc → Evc) : (s.modEvc f).lanes = s.lanes := rfl
@[simp] theorem State.modEvc_trunks (s : State) (f : Evc → Evc) : (s.modEvc f).trunks = s.trunks := rfl
@[simp] theorem State.modEvc_pair (s : State) (f : Evc → Evc) : (s.modEvc f).pair = s.pair := rfl
@[simp] theorem State.modEvc_barrow (s : State) (f : Evc → Evc) : (s.modEvc f).barrow = s.barrow := rfl
@[simp] theorem State.modEvc_steward (s : State) (f : Evc → Evc) : (s.modEvc f).steward = s.steward := rfl
@[simp] theorem State.modEvc_dieLink (s : State) (f : Evc → Evc) : (s.modEvc f).dieLink = s.dieLink := rfl
@[simp] theorem State.modEvc_bridge (s : State) (f : Evc → Evc) : (s.modEvc f).bridge = s.bridge := rfl
@[simp] theorem State.modEvc_power (s : State) (f : Evc → Evc) : (s.modEvc f).power = s.power := rfl
@[simp] theorem State.modEvc_free (s : State) (f : Evc → Evc) : (s.modEvc f).free = s.free := rfl
@[simp] theorem State.modEvc_pending (s : State) (f : Evc → Evc) : (s.modEvc f).pending = s.pending := rfl

@[simp] theorem State.modCtr_ctr (s : State) (f : Counters → Counters) : (s.modCtr f).ctr = f s.ctr := rfl
@[simp] theorem State.modCtr_time (s : State) (f : Counters → Counters) : (s.modCtr f).time = s.time := rfl
@[simp] theorem State.modCtr_dev (s : State) (f : Counters → Counters) : (s.modCtr f).dev = s.dev := rfl
@[simp] theorem State.modCtr_evc (s : State) (f : Counters → Counters) : (s.modCtr f).evc = s.evc := rfl
@[simp] theorem State.modCtr_ledger (s : State) (f : Counters → Counters) : (s.modCtr f).ledger = s.ledger := rfl
@[simp] theorem State.modCtr_wear (s : State) (f : Counters → Counters) : (s.modCtr f).wear = s.wear := rfl
@[simp] theorem State.modCtr_records (s : State) (f : Counters → Counters) : (s.modCtr f).records = s.records := rfl
@[simp] theorem State.modCtr_teller (s : State) (f : Counters → Counters) : (s.modCtr f).teller = s.teller := rfl
@[simp] theorem State.modCtr_pool (s : State) (f : Counters → Counters) : (s.modCtr f).pool = s.pool := rfl
@[simp] theorem State.modCtr_home (s : State) (f : Counters → Counters) : (s.modCtr f).home = s.home := rfl
@[simp] theorem State.modCtr_switch (s : State) (f : Counters → Counters) : (s.modCtr f).switch = s.switch := rfl
@[simp] theorem State.modCtr_ports (s : State) (f : Counters → Counters) : (s.modCtr f).ports = s.ports := rfl
@[simp] theorem State.modCtr_lanes (s : State) (f : Counters → Counters) : (s.modCtr f).lanes = s.lanes := rfl
@[simp] theorem State.modCtr_trunks (s : State) (f : Counters → Counters) : (s.modCtr f).trunks = s.trunks := rfl
@[simp] theorem State.modCtr_pair (s : State) (f : Counters → Counters) : (s.modCtr f).pair = s.pair := rfl
@[simp] theorem State.modCtr_barrow (s : State) (f : Counters → Counters) : (s.modCtr f).barrow = s.barrow := rfl
@[simp] theorem State.modCtr_steward (s : State) (f : Counters → Counters) : (s.modCtr f).steward = s.steward := rfl
@[simp] theorem State.modCtr_dieLink (s : State) (f : Counters → Counters) : (s.modCtr f).dieLink = s.dieLink := rfl
@[simp] theorem State.modCtr_bridge (s : State) (f : Counters → Counters) : (s.modCtr f).bridge = s.bridge := rfl
@[simp] theorem State.modCtr_power (s : State) (f : Counters → Counters) : (s.modCtr f).power = s.power := rfl
@[simp] theorem State.modCtr_free (s : State) (f : Counters → Counters) : (s.modCtr f).free = s.free := rfl
@[simp] theorem State.modCtr_pending (s : State) (f : Counters → Counters) : (s.modCtr f).pending = s.pending := rfl

@[simp] theorem State.modLedger_ledger (s : State) (f : Ledger → Ledger) : (s.modLedger f).ledger = f s.ledger := rfl
@[simp] theorem State.modLedger_time (s : State) (f : Ledger → Ledger) : (s.modLedger f).time = s.time := rfl
@[simp] theorem State.modLedger_dev (s : State) (f : Ledger → Ledger) : (s.modLedger f).dev = s.dev := rfl
@[simp] theorem State.modLedger_evc (s : State) (f : Ledger → Ledger) : (s.modLedger f).evc = s.evc := rfl
@[simp] theorem State.modLedger_ctr (s : State) (f : Ledger → Ledger) : (s.modLedger f).ctr = s.ctr := rfl
@[simp] theorem State.modLedger_wear (s : State) (f : Ledger → Ledger) : (s.modLedger f).wear = s.wear := rfl
@[simp] theorem State.modLedger_records (s : State) (f : Ledger → Ledger) : (s.modLedger f).records = s.records := rfl
@[simp] theorem State.modLedger_teller (s : State) (f : Ledger → Ledger) : (s.modLedger f).teller = s.teller := rfl
@[simp] theorem State.modLedger_pool (s : State) (f : Ledger → Ledger) : (s.modLedger f).pool = s.pool := rfl
@[simp] theorem State.modLedger_home (s : State) (f : Ledger → Ledger) : (s.modLedger f).home = s.home := rfl
@[simp] theorem State.modLedger_switch (s : State) (f : Ledger → Ledger) : (s.modLedger f).switch = s.switch := rfl
@[simp] theorem State.modLedger_ports (s : State) (f : Ledger → Ledger) : (s.modLedger f).ports = s.ports := rfl
@[simp] theorem State.modLedger_lanes (s : State) (f : Ledger → Ledger) : (s.modLedger f).lanes = s.lanes := rfl
@[simp] theorem State.modLedger_trunks (s : State) (f : Ledger → Ledger) : (s.modLedger f).trunks = s.trunks := rfl
@[simp] theorem State.modLedger_pair (s : State) (f : Ledger → Ledger) : (s.modLedger f).pair = s.pair := rfl
@[simp] theorem State.modLedger_barrow (s : State) (f : Ledger → Ledger) : (s.modLedger f).barrow = s.barrow := rfl
@[simp] theorem State.modLedger_steward (s : State) (f : Ledger → Ledger) : (s.modLedger f).steward = s.steward := rfl
@[simp] theorem State.modLedger_dieLink (s : State) (f : Ledger → Ledger) : (s.modLedger f).dieLink = s.dieLink := rfl
@[simp] theorem State.modLedger_bridge (s : State) (f : Ledger → Ledger) : (s.modLedger f).bridge = s.bridge := rfl
@[simp] theorem State.modLedger_power (s : State) (f : Ledger → Ledger) : (s.modLedger f).power = s.power := rfl
@[simp] theorem State.modLedger_free (s : State) (f : Ledger → Ledger) : (s.modLedger f).free = s.free := rfl
@[simp] theorem State.modLedger_pending (s : State) (f : Ledger → Ledger) : (s.modLedger f).pending = s.pending := rfl

@[simp] theorem State.modWear_wear (s : State) (f : Wear → Wear) : (s.modWear f).wear = f s.wear := rfl
@[simp] theorem State.modWear_time (s : State) (f : Wear → Wear) : (s.modWear f).time = s.time := rfl
@[simp] theorem State.modWear_dev (s : State) (f : Wear → Wear) : (s.modWear f).dev = s.dev := rfl
@[simp] theorem State.modWear_evc (s : State) (f : Wear → Wear) : (s.modWear f).evc = s.evc := rfl
@[simp] theorem State.modWear_ctr (s : State) (f : Wear → Wear) : (s.modWear f).ctr = s.ctr := rfl
@[simp] theorem State.modWear_ledger (s : State) (f : Wear → Wear) : (s.modWear f).ledger = s.ledger := rfl
@[simp] theorem State.modWear_records (s : State) (f : Wear → Wear) : (s.modWear f).records = s.records := rfl
@[simp] theorem State.modWear_teller (s : State) (f : Wear → Wear) : (s.modWear f).teller = s.teller := rfl
@[simp] theorem State.modWear_pool (s : State) (f : Wear → Wear) : (s.modWear f).pool = s.pool := rfl
@[simp] theorem State.modWear_home (s : State) (f : Wear → Wear) : (s.modWear f).home = s.home := rfl
@[simp] theorem State.modWear_switch (s : State) (f : Wear → Wear) : (s.modWear f).switch = s.switch := rfl
@[simp] theorem State.modWear_ports (s : State) (f : Wear → Wear) : (s.modWear f).ports = s.ports := rfl
@[simp] theorem State.modWear_lanes (s : State) (f : Wear → Wear) : (s.modWear f).lanes = s.lanes := rfl
@[simp] theorem State.modWear_trunks (s : State) (f : Wear → Wear) : (s.modWear f).trunks = s.trunks := rfl
@[simp] theorem State.modWear_pair (s : State) (f : Wear → Wear) : (s.modWear f).pair = s.pair := rfl
@[simp] theorem State.modWear_barrow (s : State) (f : Wear → Wear) : (s.modWear f).barrow = s.barrow := rfl
@[simp] theorem State.modWear_steward (s : State) (f : Wear → Wear) : (s.modWear f).steward = s.steward := rfl
@[simp] theorem State.modWear_dieLink (s : State) (f : Wear → Wear) : (s.modWear f).dieLink = s.dieLink := rfl
@[simp] theorem State.modWear_bridge (s : State) (f : Wear → Wear) : (s.modWear f).bridge = s.bridge := rfl
@[simp] theorem State.modWear_power (s : State) (f : Wear → Wear) : (s.modWear f).power = s.power := rfl
@[simp] theorem State.modWear_free (s : State) (f : Wear → Wear) : (s.modWear f).free = s.free := rfl
@[simp] theorem State.modWear_pending (s : State) (f : Wear → Wear) : (s.modWear f).pending = s.pending := rfl

@[simp] theorem State.modRecords_records (s : State) (f : Records → Records) : (s.modRecords f).records = f s.records := rfl
@[simp] theorem State.modRecords_time (s : State) (f : Records → Records) : (s.modRecords f).time = s.time := rfl
@[simp] theorem State.modRecords_dev (s : State) (f : Records → Records) : (s.modRecords f).dev = s.dev := rfl
@[simp] theorem State.modRecords_evc (s : State) (f : Records → Records) : (s.modRecords f).evc = s.evc := rfl
@[simp] theorem State.modRecords_ctr (s : State) (f : Records → Records) : (s.modRecords f).ctr = s.ctr := rfl
@[simp] theorem State.modRecords_ledger (s : State) (f : Records → Records) : (s.modRecords f).ledger = s.ledger := rfl
@[simp] theorem State.modRecords_wear (s : State) (f : Records → Records) : (s.modRecords f).wear = s.wear := rfl
@[simp] theorem State.modRecords_teller (s : State) (f : Records → Records) : (s.modRecords f).teller = s.teller := rfl
@[simp] theorem State.modRecords_pool (s : State) (f : Records → Records) : (s.modRecords f).pool = s.pool := rfl
@[simp] theorem State.modRecords_home (s : State) (f : Records → Records) : (s.modRecords f).home = s.home := rfl
@[simp] theorem State.modRecords_switch (s : State) (f : Records → Records) : (s.modRecords f).switch = s.switch := rfl
@[simp] theorem State.modRecords_ports (s : State) (f : Records → Records) : (s.modRecords f).ports = s.ports := rfl
@[simp] theorem State.modRecords_lanes (s : State) (f : Records → Records) : (s.modRecords f).lanes = s.lanes := rfl
@[simp] theorem State.modRecords_trunks (s : State) (f : Records → Records) : (s.modRecords f).trunks = s.trunks := rfl
@[simp] theorem State.modRecords_pair (s : State) (f : Records → Records) : (s.modRecords f).pair = s.pair := rfl
@[simp] theorem State.modRecords_barrow (s : State) (f : Records → Records) : (s.modRecords f).barrow = s.barrow := rfl
@[simp] theorem State.modRecords_steward (s : State) (f : Records → Records) : (s.modRecords f).steward = s.steward := rfl
@[simp] theorem State.modRecords_dieLink (s : State) (f : Records → Records) : (s.modRecords f).dieLink = s.dieLink := rfl
@[simp] theorem State.modRecords_bridge (s : State) (f : Records → Records) : (s.modRecords f).bridge = s.bridge := rfl
@[simp] theorem State.modRecords_power (s : State) (f : Records → Records) : (s.modRecords f).power = s.power := rfl
@[simp] theorem State.modRecords_free (s : State) (f : Records → Records) : (s.modRecords f).free = s.free := rfl
@[simp] theorem State.modRecords_pending (s : State) (f : Records → Records) : (s.modRecords f).pending = s.pending := rfl

@[simp] theorem State.modTeller_teller (s : State) (f : Teller → Teller) : (s.modTeller f).teller = f s.teller := rfl
@[simp] theorem State.modTeller_time (s : State) (f : Teller → Teller) : (s.modTeller f).time = s.time := rfl
@[simp] theorem State.modTeller_dev (s : State) (f : Teller → Teller) : (s.modTeller f).dev = s.dev := rfl
@[simp] theorem State.modTeller_evc (s : State) (f : Teller → Teller) : (s.modTeller f).evc = s.evc := rfl
@[simp] theorem State.modTeller_ctr (s : State) (f : Teller → Teller) : (s.modTeller f).ctr = s.ctr := rfl
@[simp] theorem State.modTeller_ledger (s : State) (f : Teller → Teller) : (s.modTeller f).ledger = s.ledger := rfl
@[simp] theorem State.modTeller_wear (s : State) (f : Teller → Teller) : (s.modTeller f).wear = s.wear := rfl
@[simp] theorem State.modTeller_records (s : State) (f : Teller → Teller) : (s.modTeller f).records = s.records := rfl
@[simp] theorem State.modTeller_pool (s : State) (f : Teller → Teller) : (s.modTeller f).pool = s.pool := rfl
@[simp] theorem State.modTeller_home (s : State) (f : Teller → Teller) : (s.modTeller f).home = s.home := rfl
@[simp] theorem State.modTeller_switch (s : State) (f : Teller → Teller) : (s.modTeller f).switch = s.switch := rfl
@[simp] theorem State.modTeller_ports (s : State) (f : Teller → Teller) : (s.modTeller f).ports = s.ports := rfl
@[simp] theorem State.modTeller_lanes (s : State) (f : Teller → Teller) : (s.modTeller f).lanes = s.lanes := rfl
@[simp] theorem State.modTeller_trunks (s : State) (f : Teller → Teller) : (s.modTeller f).trunks = s.trunks := rfl
@[simp] theorem State.modTeller_pair (s : State) (f : Teller → Teller) : (s.modTeller f).pair = s.pair := rfl
@[simp] theorem State.modTeller_barrow (s : State) (f : Teller → Teller) : (s.modTeller f).barrow = s.barrow := rfl
@[simp] theorem State.modTeller_steward (s : State) (f : Teller → Teller) : (s.modTeller f).steward = s.steward := rfl
@[simp] theorem State.modTeller_dieLink (s : State) (f : Teller → Teller) : (s.modTeller f).dieLink = s.dieLink := rfl
@[simp] theorem State.modTeller_bridge (s : State) (f : Teller → Teller) : (s.modTeller f).bridge = s.bridge := rfl
@[simp] theorem State.modTeller_power (s : State) (f : Teller → Teller) : (s.modTeller f).power = s.power := rfl
@[simp] theorem State.modTeller_free (s : State) (f : Teller → Teller) : (s.modTeller f).free = s.free := rfl
@[simp] theorem State.modTeller_pending (s : State) (f : Teller → Teller) : (s.modTeller f).pending = s.pending := rfl

@[simp] theorem State.modPool_pool (s : State) (f : Pool → Pool) : (s.modPool f).pool = f s.pool := rfl
@[simp] theorem State.modPool_time (s : State) (f : Pool → Pool) : (s.modPool f).time = s.time := rfl
@[simp] theorem State.modPool_dev (s : State) (f : Pool → Pool) : (s.modPool f).dev = s.dev := rfl
@[simp] theorem State.modPool_evc (s : State) (f : Pool → Pool) : (s.modPool f).evc = s.evc := rfl
@[simp] theorem State.modPool_ctr (s : State) (f : Pool → Pool) : (s.modPool f).ctr = s.ctr := rfl
@[simp] theorem State.modPool_ledger (s : State) (f : Pool → Pool) : (s.modPool f).ledger = s.ledger := rfl
@[simp] theorem State.modPool_wear (s : State) (f : Pool → Pool) : (s.modPool f).wear = s.wear := rfl
@[simp] theorem State.modPool_records (s : State) (f : Pool → Pool) : (s.modPool f).records = s.records := rfl
@[simp] theorem State.modPool_teller (s : State) (f : Pool → Pool) : (s.modPool f).teller = s.teller := rfl
@[simp] theorem State.modPool_home (s : State) (f : Pool → Pool) : (s.modPool f).home = s.home := rfl
@[simp] theorem State.modPool_switch (s : State) (f : Pool → Pool) : (s.modPool f).switch = s.switch := rfl
@[simp] theorem State.modPool_ports (s : State) (f : Pool → Pool) : (s.modPool f).ports = s.ports := rfl
@[simp] theorem State.modPool_lanes (s : State) (f : Pool → Pool) : (s.modPool f).lanes = s.lanes := rfl
@[simp] theorem State.modPool_trunks (s : State) (f : Pool → Pool) : (s.modPool f).trunks = s.trunks := rfl
@[simp] theorem State.modPool_pair (s : State) (f : Pool → Pool) : (s.modPool f).pair = s.pair := rfl
@[simp] theorem State.modPool_barrow (s : State) (f : Pool → Pool) : (s.modPool f).barrow = s.barrow := rfl
@[simp] theorem State.modPool_steward (s : State) (f : Pool → Pool) : (s.modPool f).steward = s.steward := rfl
@[simp] theorem State.modPool_dieLink (s : State) (f : Pool → Pool) : (s.modPool f).dieLink = s.dieLink := rfl
@[simp] theorem State.modPool_bridge (s : State) (f : Pool → Pool) : (s.modPool f).bridge = s.bridge := rfl
@[simp] theorem State.modPool_power (s : State) (f : Pool → Pool) : (s.modPool f).power = s.power := rfl
@[simp] theorem State.modPool_free (s : State) (f : Pool → Pool) : (s.modPool f).free = s.free := rfl
@[simp] theorem State.modPool_pending (s : State) (f : Pool → Pool) : (s.modPool f).pending = s.pending := rfl

@[simp] theorem State.modHome_home (s : State) (f : Home → Home) : (s.modHome f).home = f s.home := rfl
@[simp] theorem State.modHome_time (s : State) (f : Home → Home) : (s.modHome f).time = s.time := rfl
@[simp] theorem State.modHome_dev (s : State) (f : Home → Home) : (s.modHome f).dev = s.dev := rfl
@[simp] theorem State.modHome_evc (s : State) (f : Home → Home) : (s.modHome f).evc = s.evc := rfl
@[simp] theorem State.modHome_ctr (s : State) (f : Home → Home) : (s.modHome f).ctr = s.ctr := rfl
@[simp] theorem State.modHome_ledger (s : State) (f : Home → Home) : (s.modHome f).ledger = s.ledger := rfl
@[simp] theorem State.modHome_wear (s : State) (f : Home → Home) : (s.modHome f).wear = s.wear := rfl
@[simp] theorem State.modHome_records (s : State) (f : Home → Home) : (s.modHome f).records = s.records := rfl
@[simp] theorem State.modHome_teller (s : State) (f : Home → Home) : (s.modHome f).teller = s.teller := rfl
@[simp] theorem State.modHome_pool (s : State) (f : Home → Home) : (s.modHome f).pool = s.pool := rfl
@[simp] theorem State.modHome_switch (s : State) (f : Home → Home) : (s.modHome f).switch = s.switch := rfl
@[simp] theorem State.modHome_ports (s : State) (f : Home → Home) : (s.modHome f).ports = s.ports := rfl
@[simp] theorem State.modHome_lanes (s : State) (f : Home → Home) : (s.modHome f).lanes = s.lanes := rfl
@[simp] theorem State.modHome_trunks (s : State) (f : Home → Home) : (s.modHome f).trunks = s.trunks := rfl
@[simp] theorem State.modHome_pair (s : State) (f : Home → Home) : (s.modHome f).pair = s.pair := rfl
@[simp] theorem State.modHome_barrow (s : State) (f : Home → Home) : (s.modHome f).barrow = s.barrow := rfl
@[simp] theorem State.modHome_steward (s : State) (f : Home → Home) : (s.modHome f).steward = s.steward := rfl
@[simp] theorem State.modHome_dieLink (s : State) (f : Home → Home) : (s.modHome f).dieLink = s.dieLink := rfl
@[simp] theorem State.modHome_bridge (s : State) (f : Home → Home) : (s.modHome f).bridge = s.bridge := rfl
@[simp] theorem State.modHome_power (s : State) (f : Home → Home) : (s.modHome f).power = s.power := rfl
@[simp] theorem State.modHome_free (s : State) (f : Home → Home) : (s.modHome f).free = s.free := rfl
@[simp] theorem State.modHome_pending (s : State) (f : Home → Home) : (s.modHome f).pending = s.pending := rfl

@[simp] theorem State.modSwitch_switch (s : State) (f : Switch → Switch) : (s.modSwitch f).switch = f s.switch := rfl
@[simp] theorem State.modSwitch_time (s : State) (f : Switch → Switch) : (s.modSwitch f).time = s.time := rfl
@[simp] theorem State.modSwitch_dev (s : State) (f : Switch → Switch) : (s.modSwitch f).dev = s.dev := rfl
@[simp] theorem State.modSwitch_evc (s : State) (f : Switch → Switch) : (s.modSwitch f).evc = s.evc := rfl
@[simp] theorem State.modSwitch_ctr (s : State) (f : Switch → Switch) : (s.modSwitch f).ctr = s.ctr := rfl
@[simp] theorem State.modSwitch_ledger (s : State) (f : Switch → Switch) : (s.modSwitch f).ledger = s.ledger := rfl
@[simp] theorem State.modSwitch_wear (s : State) (f : Switch → Switch) : (s.modSwitch f).wear = s.wear := rfl
@[simp] theorem State.modSwitch_records (s : State) (f : Switch → Switch) : (s.modSwitch f).records = s.records := rfl
@[simp] theorem State.modSwitch_teller (s : State) (f : Switch → Switch) : (s.modSwitch f).teller = s.teller := rfl
@[simp] theorem State.modSwitch_pool (s : State) (f : Switch → Switch) : (s.modSwitch f).pool = s.pool := rfl
@[simp] theorem State.modSwitch_home (s : State) (f : Switch → Switch) : (s.modSwitch f).home = s.home := rfl
@[simp] theorem State.modSwitch_ports (s : State) (f : Switch → Switch) : (s.modSwitch f).ports = s.ports := rfl
@[simp] theorem State.modSwitch_lanes (s : State) (f : Switch → Switch) : (s.modSwitch f).lanes = s.lanes := rfl
@[simp] theorem State.modSwitch_trunks (s : State) (f : Switch → Switch) : (s.modSwitch f).trunks = s.trunks := rfl
@[simp] theorem State.modSwitch_pair (s : State) (f : Switch → Switch) : (s.modSwitch f).pair = s.pair := rfl
@[simp] theorem State.modSwitch_barrow (s : State) (f : Switch → Switch) : (s.modSwitch f).barrow = s.barrow := rfl
@[simp] theorem State.modSwitch_steward (s : State) (f : Switch → Switch) : (s.modSwitch f).steward = s.steward := rfl
@[simp] theorem State.modSwitch_dieLink (s : State) (f : Switch → Switch) : (s.modSwitch f).dieLink = s.dieLink := rfl
@[simp] theorem State.modSwitch_bridge (s : State) (f : Switch → Switch) : (s.modSwitch f).bridge = s.bridge := rfl
@[simp] theorem State.modSwitch_power (s : State) (f : Switch → Switch) : (s.modSwitch f).power = s.power := rfl
@[simp] theorem State.modSwitch_free (s : State) (f : Switch → Switch) : (s.modSwitch f).free = s.free := rfl
@[simp] theorem State.modSwitch_pending (s : State) (f : Switch → Switch) : (s.modSwitch f).pending = s.pending := rfl

@[simp] theorem State.modPorts_ports (s : State) (f : Ports → Ports) : (s.modPorts f).ports = f s.ports := rfl
@[simp] theorem State.modPorts_time (s : State) (f : Ports → Ports) : (s.modPorts f).time = s.time := rfl
@[simp] theorem State.modPorts_dev (s : State) (f : Ports → Ports) : (s.modPorts f).dev = s.dev := rfl
@[simp] theorem State.modPorts_evc (s : State) (f : Ports → Ports) : (s.modPorts f).evc = s.evc := rfl
@[simp] theorem State.modPorts_ctr (s : State) (f : Ports → Ports) : (s.modPorts f).ctr = s.ctr := rfl
@[simp] theorem State.modPorts_ledger (s : State) (f : Ports → Ports) : (s.modPorts f).ledger = s.ledger := rfl
@[simp] theorem State.modPorts_wear (s : State) (f : Ports → Ports) : (s.modPorts f).wear = s.wear := rfl
@[simp] theorem State.modPorts_records (s : State) (f : Ports → Ports) : (s.modPorts f).records = s.records := rfl
@[simp] theorem State.modPorts_teller (s : State) (f : Ports → Ports) : (s.modPorts f).teller = s.teller := rfl
@[simp] theorem State.modPorts_pool (s : State) (f : Ports → Ports) : (s.modPorts f).pool = s.pool := rfl
@[simp] theorem State.modPorts_home (s : State) (f : Ports → Ports) : (s.modPorts f).home = s.home := rfl
@[simp] theorem State.modPorts_switch (s : State) (f : Ports → Ports) : (s.modPorts f).switch = s.switch := rfl
@[simp] theorem State.modPorts_lanes (s : State) (f : Ports → Ports) : (s.modPorts f).lanes = s.lanes := rfl
@[simp] theorem State.modPorts_trunks (s : State) (f : Ports → Ports) : (s.modPorts f).trunks = s.trunks := rfl
@[simp] theorem State.modPorts_pair (s : State) (f : Ports → Ports) : (s.modPorts f).pair = s.pair := rfl
@[simp] theorem State.modPorts_barrow (s : State) (f : Ports → Ports) : (s.modPorts f).barrow = s.barrow := rfl
@[simp] theorem State.modPorts_steward (s : State) (f : Ports → Ports) : (s.modPorts f).steward = s.steward := rfl
@[simp] theorem State.modPorts_dieLink (s : State) (f : Ports → Ports) : (s.modPorts f).dieLink = s.dieLink := rfl
@[simp] theorem State.modPorts_bridge (s : State) (f : Ports → Ports) : (s.modPorts f).bridge = s.bridge := rfl
@[simp] theorem State.modPorts_power (s : State) (f : Ports → Ports) : (s.modPorts f).power = s.power := rfl
@[simp] theorem State.modPorts_free (s : State) (f : Ports → Ports) : (s.modPorts f).free = s.free := rfl
@[simp] theorem State.modPorts_pending (s : State) (f : Ports → Ports) : (s.modPorts f).pending = s.pending := rfl

@[simp] theorem State.modLanes_lanes (s : State) (f : Lanes → Lanes) : (s.modLanes f).lanes = f s.lanes := rfl
@[simp] theorem State.modLanes_time (s : State) (f : Lanes → Lanes) : (s.modLanes f).time = s.time := rfl
@[simp] theorem State.modLanes_dev (s : State) (f : Lanes → Lanes) : (s.modLanes f).dev = s.dev := rfl
@[simp] theorem State.modLanes_evc (s : State) (f : Lanes → Lanes) : (s.modLanes f).evc = s.evc := rfl
@[simp] theorem State.modLanes_ctr (s : State) (f : Lanes → Lanes) : (s.modLanes f).ctr = s.ctr := rfl
@[simp] theorem State.modLanes_ledger (s : State) (f : Lanes → Lanes) : (s.modLanes f).ledger = s.ledger := rfl
@[simp] theorem State.modLanes_wear (s : State) (f : Lanes → Lanes) : (s.modLanes f).wear = s.wear := rfl
@[simp] theorem State.modLanes_records (s : State) (f : Lanes → Lanes) : (s.modLanes f).records = s.records := rfl
@[simp] theorem State.modLanes_teller (s : State) (f : Lanes → Lanes) : (s.modLanes f).teller = s.teller := rfl
@[simp] theorem State.modLanes_pool (s : State) (f : Lanes → Lanes) : (s.modLanes f).pool = s.pool := rfl
@[simp] theorem State.modLanes_home (s : State) (f : Lanes → Lanes) : (s.modLanes f).home = s.home := rfl
@[simp] theorem State.modLanes_switch (s : State) (f : Lanes → Lanes) : (s.modLanes f).switch = s.switch := rfl
@[simp] theorem State.modLanes_ports (s : State) (f : Lanes → Lanes) : (s.modLanes f).ports = s.ports := rfl
@[simp] theorem State.modLanes_trunks (s : State) (f : Lanes → Lanes) : (s.modLanes f).trunks = s.trunks := rfl
@[simp] theorem State.modLanes_pair (s : State) (f : Lanes → Lanes) : (s.modLanes f).pair = s.pair := rfl
@[simp] theorem State.modLanes_barrow (s : State) (f : Lanes → Lanes) : (s.modLanes f).barrow = s.barrow := rfl
@[simp] theorem State.modLanes_steward (s : State) (f : Lanes → Lanes) : (s.modLanes f).steward = s.steward := rfl
@[simp] theorem State.modLanes_dieLink (s : State) (f : Lanes → Lanes) : (s.modLanes f).dieLink = s.dieLink := rfl
@[simp] theorem State.modLanes_bridge (s : State) (f : Lanes → Lanes) : (s.modLanes f).bridge = s.bridge := rfl
@[simp] theorem State.modLanes_power (s : State) (f : Lanes → Lanes) : (s.modLanes f).power = s.power := rfl
@[simp] theorem State.modLanes_free (s : State) (f : Lanes → Lanes) : (s.modLanes f).free = s.free := rfl
@[simp] theorem State.modLanes_pending (s : State) (f : Lanes → Lanes) : (s.modLanes f).pending = s.pending := rfl

@[simp] theorem State.modTrunks_trunks (s : State) (f : Trunks → Trunks) : (s.modTrunks f).trunks = f s.trunks := rfl
@[simp] theorem State.modTrunks_time (s : State) (f : Trunks → Trunks) : (s.modTrunks f).time = s.time := rfl
@[simp] theorem State.modTrunks_dev (s : State) (f : Trunks → Trunks) : (s.modTrunks f).dev = s.dev := rfl
@[simp] theorem State.modTrunks_evc (s : State) (f : Trunks → Trunks) : (s.modTrunks f).evc = s.evc := rfl
@[simp] theorem State.modTrunks_ctr (s : State) (f : Trunks → Trunks) : (s.modTrunks f).ctr = s.ctr := rfl
@[simp] theorem State.modTrunks_ledger (s : State) (f : Trunks → Trunks) : (s.modTrunks f).ledger = s.ledger := rfl
@[simp] theorem State.modTrunks_wear (s : State) (f : Trunks → Trunks) : (s.modTrunks f).wear = s.wear := rfl
@[simp] theorem State.modTrunks_records (s : State) (f : Trunks → Trunks) : (s.modTrunks f).records = s.records := rfl
@[simp] theorem State.modTrunks_teller (s : State) (f : Trunks → Trunks) : (s.modTrunks f).teller = s.teller := rfl
@[simp] theorem State.modTrunks_pool (s : State) (f : Trunks → Trunks) : (s.modTrunks f).pool = s.pool := rfl
@[simp] theorem State.modTrunks_home (s : State) (f : Trunks → Trunks) : (s.modTrunks f).home = s.home := rfl
@[simp] theorem State.modTrunks_switch (s : State) (f : Trunks → Trunks) : (s.modTrunks f).switch = s.switch := rfl
@[simp] theorem State.modTrunks_ports (s : State) (f : Trunks → Trunks) : (s.modTrunks f).ports = s.ports := rfl
@[simp] theorem State.modTrunks_lanes (s : State) (f : Trunks → Trunks) : (s.modTrunks f).lanes = s.lanes := rfl
@[simp] theorem State.modTrunks_pair (s : State) (f : Trunks → Trunks) : (s.modTrunks f).pair = s.pair := rfl
@[simp] theorem State.modTrunks_barrow (s : State) (f : Trunks → Trunks) : (s.modTrunks f).barrow = s.barrow := rfl
@[simp] theorem State.modTrunks_steward (s : State) (f : Trunks → Trunks) : (s.modTrunks f).steward = s.steward := rfl
@[simp] theorem State.modTrunks_dieLink (s : State) (f : Trunks → Trunks) : (s.modTrunks f).dieLink = s.dieLink := rfl
@[simp] theorem State.modTrunks_bridge (s : State) (f : Trunks → Trunks) : (s.modTrunks f).bridge = s.bridge := rfl
@[simp] theorem State.modTrunks_power (s : State) (f : Trunks → Trunks) : (s.modTrunks f).power = s.power := rfl
@[simp] theorem State.modTrunks_free (s : State) (f : Trunks → Trunks) : (s.modTrunks f).free = s.free := rfl
@[simp] theorem State.modTrunks_pending (s : State) (f : Trunks → Trunks) : (s.modTrunks f).pending = s.pending := rfl

@[simp] theorem State.modPair_pair (s : State) (f : Pair → Pair) : (s.modPair f).pair = f s.pair := rfl
@[simp] theorem State.modPair_time (s : State) (f : Pair → Pair) : (s.modPair f).time = s.time := rfl
@[simp] theorem State.modPair_dev (s : State) (f : Pair → Pair) : (s.modPair f).dev = s.dev := rfl
@[simp] theorem State.modPair_evc (s : State) (f : Pair → Pair) : (s.modPair f).evc = s.evc := rfl
@[simp] theorem State.modPair_ctr (s : State) (f : Pair → Pair) : (s.modPair f).ctr = s.ctr := rfl
@[simp] theorem State.modPair_ledger (s : State) (f : Pair → Pair) : (s.modPair f).ledger = s.ledger := rfl
@[simp] theorem State.modPair_wear (s : State) (f : Pair → Pair) : (s.modPair f).wear = s.wear := rfl
@[simp] theorem State.modPair_records (s : State) (f : Pair → Pair) : (s.modPair f).records = s.records := rfl
@[simp] theorem State.modPair_teller (s : State) (f : Pair → Pair) : (s.modPair f).teller = s.teller := rfl
@[simp] theorem State.modPair_pool (s : State) (f : Pair → Pair) : (s.modPair f).pool = s.pool := rfl
@[simp] theorem State.modPair_home (s : State) (f : Pair → Pair) : (s.modPair f).home = s.home := rfl
@[simp] theorem State.modPair_switch (s : State) (f : Pair → Pair) : (s.modPair f).switch = s.switch := rfl
@[simp] theorem State.modPair_ports (s : State) (f : Pair → Pair) : (s.modPair f).ports = s.ports := rfl
@[simp] theorem State.modPair_lanes (s : State) (f : Pair → Pair) : (s.modPair f).lanes = s.lanes := rfl
@[simp] theorem State.modPair_trunks (s : State) (f : Pair → Pair) : (s.modPair f).trunks = s.trunks := rfl
@[simp] theorem State.modPair_barrow (s : State) (f : Pair → Pair) : (s.modPair f).barrow = s.barrow := rfl
@[simp] theorem State.modPair_steward (s : State) (f : Pair → Pair) : (s.modPair f).steward = s.steward := rfl
@[simp] theorem State.modPair_dieLink (s : State) (f : Pair → Pair) : (s.modPair f).dieLink = s.dieLink := rfl
@[simp] theorem State.modPair_bridge (s : State) (f : Pair → Pair) : (s.modPair f).bridge = s.bridge := rfl
@[simp] theorem State.modPair_power (s : State) (f : Pair → Pair) : (s.modPair f).power = s.power := rfl
@[simp] theorem State.modPair_free (s : State) (f : Pair → Pair) : (s.modPair f).free = s.free := rfl
@[simp] theorem State.modPair_pending (s : State) (f : Pair → Pair) : (s.modPair f).pending = s.pending := rfl

@[simp] theorem State.modBarrow_barrow (s : State) (f : Barrow → Barrow) : (s.modBarrow f).barrow = f s.barrow := rfl
@[simp] theorem State.modBarrow_time (s : State) (f : Barrow → Barrow) : (s.modBarrow f).time = s.time := rfl
@[simp] theorem State.modBarrow_dev (s : State) (f : Barrow → Barrow) : (s.modBarrow f).dev = s.dev := rfl
@[simp] theorem State.modBarrow_evc (s : State) (f : Barrow → Barrow) : (s.modBarrow f).evc = s.evc := rfl
@[simp] theorem State.modBarrow_ctr (s : State) (f : Barrow → Barrow) : (s.modBarrow f).ctr = s.ctr := rfl
@[simp] theorem State.modBarrow_ledger (s : State) (f : Barrow → Barrow) : (s.modBarrow f).ledger = s.ledger := rfl
@[simp] theorem State.modBarrow_wear (s : State) (f : Barrow → Barrow) : (s.modBarrow f).wear = s.wear := rfl
@[simp] theorem State.modBarrow_records (s : State) (f : Barrow → Barrow) : (s.modBarrow f).records = s.records := rfl
@[simp] theorem State.modBarrow_teller (s : State) (f : Barrow → Barrow) : (s.modBarrow f).teller = s.teller := rfl
@[simp] theorem State.modBarrow_pool (s : State) (f : Barrow → Barrow) : (s.modBarrow f).pool = s.pool := rfl
@[simp] theorem State.modBarrow_home (s : State) (f : Barrow → Barrow) : (s.modBarrow f).home = s.home := rfl
@[simp] theorem State.modBarrow_switch (s : State) (f : Barrow → Barrow) : (s.modBarrow f).switch = s.switch := rfl
@[simp] theorem State.modBarrow_ports (s : State) (f : Barrow → Barrow) : (s.modBarrow f).ports = s.ports := rfl
@[simp] theorem State.modBarrow_lanes (s : State) (f : Barrow → Barrow) : (s.modBarrow f).lanes = s.lanes := rfl
@[simp] theorem State.modBarrow_trunks (s : State) (f : Barrow → Barrow) : (s.modBarrow f).trunks = s.trunks := rfl
@[simp] theorem State.modBarrow_pair (s : State) (f : Barrow → Barrow) : (s.modBarrow f).pair = s.pair := rfl
@[simp] theorem State.modBarrow_steward (s : State) (f : Barrow → Barrow) : (s.modBarrow f).steward = s.steward := rfl
@[simp] theorem State.modBarrow_dieLink (s : State) (f : Barrow → Barrow) : (s.modBarrow f).dieLink = s.dieLink := rfl
@[simp] theorem State.modBarrow_bridge (s : State) (f : Barrow → Barrow) : (s.modBarrow f).bridge = s.bridge := rfl
@[simp] theorem State.modBarrow_power (s : State) (f : Barrow → Barrow) : (s.modBarrow f).power = s.power := rfl
@[simp] theorem State.modBarrow_free (s : State) (f : Barrow → Barrow) : (s.modBarrow f).free = s.free := rfl
@[simp] theorem State.modBarrow_pending (s : State) (f : Barrow → Barrow) : (s.modBarrow f).pending = s.pending := rfl

@[simp] theorem State.modSteward_steward (s : State) (f : Steward → Steward) : (s.modSteward f).steward = f s.steward := rfl
@[simp] theorem State.modSteward_time (s : State) (f : Steward → Steward) : (s.modSteward f).time = s.time := rfl
@[simp] theorem State.modSteward_dev (s : State) (f : Steward → Steward) : (s.modSteward f).dev = s.dev := rfl
@[simp] theorem State.modSteward_evc (s : State) (f : Steward → Steward) : (s.modSteward f).evc = s.evc := rfl
@[simp] theorem State.modSteward_ctr (s : State) (f : Steward → Steward) : (s.modSteward f).ctr = s.ctr := rfl
@[simp] theorem State.modSteward_ledger (s : State) (f : Steward → Steward) : (s.modSteward f).ledger = s.ledger := rfl
@[simp] theorem State.modSteward_wear (s : State) (f : Steward → Steward) : (s.modSteward f).wear = s.wear := rfl
@[simp] theorem State.modSteward_records (s : State) (f : Steward → Steward) : (s.modSteward f).records = s.records := rfl
@[simp] theorem State.modSteward_teller (s : State) (f : Steward → Steward) : (s.modSteward f).teller = s.teller := rfl
@[simp] theorem State.modSteward_pool (s : State) (f : Steward → Steward) : (s.modSteward f).pool = s.pool := rfl
@[simp] theorem State.modSteward_home (s : State) (f : Steward → Steward) : (s.modSteward f).home = s.home := rfl
@[simp] theorem State.modSteward_switch (s : State) (f : Steward → Steward) : (s.modSteward f).switch = s.switch := rfl
@[simp] theorem State.modSteward_ports (s : State) (f : Steward → Steward) : (s.modSteward f).ports = s.ports := rfl
@[simp] theorem State.modSteward_lanes (s : State) (f : Steward → Steward) : (s.modSteward f).lanes = s.lanes := rfl
@[simp] theorem State.modSteward_trunks (s : State) (f : Steward → Steward) : (s.modSteward f).trunks = s.trunks := rfl
@[simp] theorem State.modSteward_pair (s : State) (f : Steward → Steward) : (s.modSteward f).pair = s.pair := rfl
@[simp] theorem State.modSteward_barrow (s : State) (f : Steward → Steward) : (s.modSteward f).barrow = s.barrow := rfl
@[simp] theorem State.modSteward_dieLink (s : State) (f : Steward → Steward) : (s.modSteward f).dieLink = s.dieLink := rfl
@[simp] theorem State.modSteward_bridge (s : State) (f : Steward → Steward) : (s.modSteward f).bridge = s.bridge := rfl
@[simp] theorem State.modSteward_power (s : State) (f : Steward → Steward) : (s.modSteward f).power = s.power := rfl
@[simp] theorem State.modSteward_free (s : State) (f : Steward → Steward) : (s.modSteward f).free = s.free := rfl
@[simp] theorem State.modSteward_pending (s : State) (f : Steward → Steward) : (s.modSteward f).pending = s.pending := rfl

@[simp] theorem State.modDieLink_dieLink (s : State) (f : DieLink → DieLink) : (s.modDieLink f).dieLink = f s.dieLink := rfl
@[simp] theorem State.modDieLink_time (s : State) (f : DieLink → DieLink) : (s.modDieLink f).time = s.time := rfl
@[simp] theorem State.modDieLink_dev (s : State) (f : DieLink → DieLink) : (s.modDieLink f).dev = s.dev := rfl
@[simp] theorem State.modDieLink_evc (s : State) (f : DieLink → DieLink) : (s.modDieLink f).evc = s.evc := rfl
@[simp] theorem State.modDieLink_ctr (s : State) (f : DieLink → DieLink) : (s.modDieLink f).ctr = s.ctr := rfl
@[simp] theorem State.modDieLink_ledger (s : State) (f : DieLink → DieLink) : (s.modDieLink f).ledger = s.ledger := rfl
@[simp] theorem State.modDieLink_wear (s : State) (f : DieLink → DieLink) : (s.modDieLink f).wear = s.wear := rfl
@[simp] theorem State.modDieLink_records (s : State) (f : DieLink → DieLink) : (s.modDieLink f).records = s.records := rfl
@[simp] theorem State.modDieLink_teller (s : State) (f : DieLink → DieLink) : (s.modDieLink f).teller = s.teller := rfl
@[simp] theorem State.modDieLink_pool (s : State) (f : DieLink → DieLink) : (s.modDieLink f).pool = s.pool := rfl
@[simp] theorem State.modDieLink_home (s : State) (f : DieLink → DieLink) : (s.modDieLink f).home = s.home := rfl
@[simp] theorem State.modDieLink_switch (s : State) (f : DieLink → DieLink) : (s.modDieLink f).switch = s.switch := rfl
@[simp] theorem State.modDieLink_ports (s : State) (f : DieLink → DieLink) : (s.modDieLink f).ports = s.ports := rfl
@[simp] theorem State.modDieLink_lanes (s : State) (f : DieLink → DieLink) : (s.modDieLink f).lanes = s.lanes := rfl
@[simp] theorem State.modDieLink_trunks (s : State) (f : DieLink → DieLink) : (s.modDieLink f).trunks = s.trunks := rfl
@[simp] theorem State.modDieLink_pair (s : State) (f : DieLink → DieLink) : (s.modDieLink f).pair = s.pair := rfl
@[simp] theorem State.modDieLink_barrow (s : State) (f : DieLink → DieLink) : (s.modDieLink f).barrow = s.barrow := rfl
@[simp] theorem State.modDieLink_steward (s : State) (f : DieLink → DieLink) : (s.modDieLink f).steward = s.steward := rfl
@[simp] theorem State.modDieLink_bridge (s : State) (f : DieLink → DieLink) : (s.modDieLink f).bridge = s.bridge := rfl
@[simp] theorem State.modDieLink_power (s : State) (f : DieLink → DieLink) : (s.modDieLink f).power = s.power := rfl
@[simp] theorem State.modDieLink_free (s : State) (f : DieLink → DieLink) : (s.modDieLink f).free = s.free := rfl
@[simp] theorem State.modDieLink_pending (s : State) (f : DieLink → DieLink) : (s.modDieLink f).pending = s.pending := rfl

@[simp] theorem State.modBridge_bridge (s : State) (f : Bridge → Bridge) : (s.modBridge f).bridge = f s.bridge := rfl
@[simp] theorem State.modBridge_time (s : State) (f : Bridge → Bridge) : (s.modBridge f).time = s.time := rfl
@[simp] theorem State.modBridge_dev (s : State) (f : Bridge → Bridge) : (s.modBridge f).dev = s.dev := rfl
@[simp] theorem State.modBridge_evc (s : State) (f : Bridge → Bridge) : (s.modBridge f).evc = s.evc := rfl
@[simp] theorem State.modBridge_ctr (s : State) (f : Bridge → Bridge) : (s.modBridge f).ctr = s.ctr := rfl
@[simp] theorem State.modBridge_ledger (s : State) (f : Bridge → Bridge) : (s.modBridge f).ledger = s.ledger := rfl
@[simp] theorem State.modBridge_wear (s : State) (f : Bridge → Bridge) : (s.modBridge f).wear = s.wear := rfl
@[simp] theorem State.modBridge_records (s : State) (f : Bridge → Bridge) : (s.modBridge f).records = s.records := rfl
@[simp] theorem State.modBridge_teller (s : State) (f : Bridge → Bridge) : (s.modBridge f).teller = s.teller := rfl
@[simp] theorem State.modBridge_pool (s : State) (f : Bridge → Bridge) : (s.modBridge f).pool = s.pool := rfl
@[simp] theorem State.modBridge_home (s : State) (f : Bridge → Bridge) : (s.modBridge f).home = s.home := rfl
@[simp] theorem State.modBridge_switch (s : State) (f : Bridge → Bridge) : (s.modBridge f).switch = s.switch := rfl
@[simp] theorem State.modBridge_ports (s : State) (f : Bridge → Bridge) : (s.modBridge f).ports = s.ports := rfl
@[simp] theorem State.modBridge_lanes (s : State) (f : Bridge → Bridge) : (s.modBridge f).lanes = s.lanes := rfl
@[simp] theorem State.modBridge_trunks (s : State) (f : Bridge → Bridge) : (s.modBridge f).trunks = s.trunks := rfl
@[simp] theorem State.modBridge_pair (s : State) (f : Bridge → Bridge) : (s.modBridge f).pair = s.pair := rfl
@[simp] theorem State.modBridge_barrow (s : State) (f : Bridge → Bridge) : (s.modBridge f).barrow = s.barrow := rfl
@[simp] theorem State.modBridge_steward (s : State) (f : Bridge → Bridge) : (s.modBridge f).steward = s.steward := rfl
@[simp] theorem State.modBridge_dieLink (s : State) (f : Bridge → Bridge) : (s.modBridge f).dieLink = s.dieLink := rfl
@[simp] theorem State.modBridge_power (s : State) (f : Bridge → Bridge) : (s.modBridge f).power = s.power := rfl
@[simp] theorem State.modBridge_free (s : State) (f : Bridge → Bridge) : (s.modBridge f).free = s.free := rfl
@[simp] theorem State.modBridge_pending (s : State) (f : Bridge → Bridge) : (s.modBridge f).pending = s.pending := rfl

@[simp] theorem State.modPower_power (s : State) (f : Power → Power) : (s.modPower f).power = f s.power := rfl
@[simp] theorem State.modPower_time (s : State) (f : Power → Power) : (s.modPower f).time = s.time := rfl
@[simp] theorem State.modPower_dev (s : State) (f : Power → Power) : (s.modPower f).dev = s.dev := rfl
@[simp] theorem State.modPower_evc (s : State) (f : Power → Power) : (s.modPower f).evc = s.evc := rfl
@[simp] theorem State.modPower_ctr (s : State) (f : Power → Power) : (s.modPower f).ctr = s.ctr := rfl
@[simp] theorem State.modPower_ledger (s : State) (f : Power → Power) : (s.modPower f).ledger = s.ledger := rfl
@[simp] theorem State.modPower_wear (s : State) (f : Power → Power) : (s.modPower f).wear = s.wear := rfl
@[simp] theorem State.modPower_records (s : State) (f : Power → Power) : (s.modPower f).records = s.records := rfl
@[simp] theorem State.modPower_teller (s : State) (f : Power → Power) : (s.modPower f).teller = s.teller := rfl
@[simp] theorem State.modPower_pool (s : State) (f : Power → Power) : (s.modPower f).pool = s.pool := rfl
@[simp] theorem State.modPower_home (s : State) (f : Power → Power) : (s.modPower f).home = s.home := rfl
@[simp] theorem State.modPower_switch (s : State) (f : Power → Power) : (s.modPower f).switch = s.switch := rfl
@[simp] theorem State.modPower_ports (s : State) (f : Power → Power) : (s.modPower f).ports = s.ports := rfl
@[simp] theorem State.modPower_lanes (s : State) (f : Power → Power) : (s.modPower f).lanes = s.lanes := rfl
@[simp] theorem State.modPower_trunks (s : State) (f : Power → Power) : (s.modPower f).trunks = s.trunks := rfl
@[simp] theorem State.modPower_pair (s : State) (f : Power → Power) : (s.modPower f).pair = s.pair := rfl
@[simp] theorem State.modPower_barrow (s : State) (f : Power → Power) : (s.modPower f).barrow = s.barrow := rfl
@[simp] theorem State.modPower_steward (s : State) (f : Power → Power) : (s.modPower f).steward = s.steward := rfl
@[simp] theorem State.modPower_dieLink (s : State) (f : Power → Power) : (s.modPower f).dieLink = s.dieLink := rfl
@[simp] theorem State.modPower_bridge (s : State) (f : Power → Power) : (s.modPower f).bridge = s.bridge := rfl
@[simp] theorem State.modPower_free (s : State) (f : Power → Power) : (s.modPower f).free = s.free := rfl
@[simp] theorem State.modPower_pending (s : State) (f : Power → Power) : (s.modPower f).pending = s.pending := rfl

end Sys2Proof.Machine
end

