-- ==== Sys2Proof/Laws/Shared.lean ====
section
/-! SUPPORT. What each shared operation can do, said once: `<operation>_keeps` says that whatever the setters of certain components
leave alone, the operation leaves alone; the field lemmas follow from it. -/

namespace Sys2Proof.Machine

variable {β : Type}

/-- A projection of the state that a setter of one component leaves alone. -/
def Blind {γ : Type} (set : State → γ → State) (p : State → β) : Prop := ∀ s x, p (set s x) = p s

/-- Doing an operation to each element keeps what one run of it keeps. -/
theorem forEach_keeps {α : Type} (p : State → β) (l : List α) (f : α → State → State) (h : ∀ x s, p (f x s) = p s) (s : State) :
    p (forEach l f s) = p s := by
  unfold forEach
  induction l generalizing s with
  | nil => rfl
  | cons x rest ih => rw [List.foldl_cons, ih, h]

/-- An operation that may not come about keeps what it keeps where it does. -/
theorem onlyIf_keeps (p : State → β) (b : Bool) (f : State → State) (h : ∀ s, p (f s) = p s) (s : State) :
    p (onlyIf b f s) = p s := by
  unfold onlyIf; split
  · exact h s
  · rfl

/-- One assertion of a source. -/
theorem assertBase_keeps (p : State → β) (hevc : Blind State.setEvc p) (hctr : Blind State.setCtr p) (src : Nat) (s : State) :
    p ((assertBase s src).1) = p s := by
  simp only [Blind] at *
  simp only [assertBase, State.modSource, State.modEvc, State.modCtr, hevc, hctr]

/-- What a saturation or a full trace raises. -/
theorem followUps_keeps (p : State → β) (hevc : Blind State.setEvc p) (hctr : Blind State.setCtr p) (a b c : Bool) (s : State) :
    p (followUps s a b c) = p s := by
  simp only [Blind] at *
  unfold followUps
  split <;> split <;> split <;> simp only [State.modEvc, State.modCtr, assertBase_keeps p hevc hctr, hevc, hctr]

/-- Raising an event source changes the event controller and the counters only. -/
theorem raise_keeps (p : State → β) (hevc : Blind State.setEvc p) (hctr : Blind State.setCtr p) (n : Nat) (s : State) :
    p (raise n s) = p s := by
  simp only [Blind] at *
  unfold raise
  split <;> simp only [State.modEvc, State.modCtr, followUps_keeps p hevc hctr, assertBase_keeps p hevc hctr, hevc, hctr]

@[simp] theorem raise_time (n : Nat) (s : State) : (raise n s).time = s.time :=
  raise_keeps State.time (fun _ _ => rfl) (fun _ _ => rfl) n s
@[simp] theorem raise_dev (n : Nat) (s : State) : (raise n s).dev = s.dev :=
  raise_keeps State.dev (fun _ _ => rfl) (fun _ _ => rfl) n s
@[simp] theorem raise_ledger (n : Nat) (s : State) : (raise n s).ledger = s.ledger :=
  raise_keeps State.ledger (fun _ _ => rfl) (fun _ _ => rfl) n s
@[simp] theorem raise_wear (n : Nat) (s : State) : (raise n s).wear = s.wear :=
  raise_keeps State.wear (fun _ _ => rfl) (fun _ _ => rfl) n s
@[simp] theorem raise_records (n : Nat) (s : State) : (raise n s).records = s.records :=
  raise_keeps State.records (fun _ _ => rfl) (fun _ _ => rfl) n s
@[simp] theorem raise_teller (n : Nat) (s : State) : (raise n s).teller = s.teller :=
  raise_keeps State.teller (fun _ _ => rfl) (fun _ _ => rfl) n s
@[simp] theorem raise_pool (n : Nat) (s : State) : (raise n s).pool = s.pool :=
  raise_keeps State.pool (fun _ _ => rfl) (fun _ _ => rfl) n s
@[simp] theorem raise_home (n : Nat) (s : State) : (raise n s).home = s.home :=
  raise_keeps State.home (fun _ _ => rfl) (fun _ _ => rfl) n s
@[simp] theorem raise_switch (n : Nat) (s : State) : (raise n s).switch = s.switch :=
  raise_keeps State.switch (fun _ _ => rfl) (fun _ _ => rfl) n s
@[simp] theorem raise_ports (n : Nat) (s : State) : (raise n s).ports = s.ports :=
  raise_keeps State.ports (fun _ _ => rfl) (fun _ _ => rfl) n s
@[simp] theorem raise_lanes (n : Nat) (s : State) : (raise n s).lanes = s.lanes :=
  raise_keeps State.lanes (fun _ _ => rfl) (fun _ _ => rfl) n s
@[simp] theorem raise_trunks (n : Nat) (s : State) : (raise n s).trunks = s.trunks :=
  raise_keeps State.trunks (fun _ _ => rfl) (fun _ _ => rfl) n s
@[simp] theorem raise_pair (n : Nat) (s : State) : (raise n s).pair = s.pair :=
  raise_keeps State.pair (fun _ _ => rfl) (fun _ _ => rfl) n s
@[simp] theorem raise_barrow (n : Nat) (s : State) : (raise n s).barrow = s.barrow :=
  raise_keeps State.barrow (fun _ _ => rfl) (fun _ _ => rfl) n s
@[simp] theorem raise_steward (n : Nat) (s : State) : (raise n s).steward = s.steward :=
  raise_keeps State.steward (fun _ _ => rfl) (fun _ _ => rfl) n s
@[simp] theorem raise_dieLink (n : Nat) (s : State) : (raise n s).dieLink = s.dieLink :=
  raise_keeps State.dieLink (fun _ _ => rfl) (fun _ _ => rfl) n s
@[simp] theorem raise_bridge (n : Nat) (s : State) : (raise n s).bridge = s.bridge :=
  raise_keeps State.bridge (fun _ _ => rfl) (fun _ _ => rfl) n s
@[simp] theorem raise_power (n : Nat) (s : State) : (raise n s).power = s.power :=
  raise_keeps State.power (fun _ _ => rfl) (fun _ _ => rfl) n s
@[simp] theorem raise_free (n : Nat) (s : State) : (raise n s).free = s.free :=
  raise_keeps State.free (fun _ _ => rfl) (fun _ _ => rfl) n s
@[simp] theorem raise_pending (n : Nat) (s : State) : (raise n s).pending = s.pending :=
  raise_keeps State.pending (fun _ _ => rfl) (fun _ _ => rfl) n s

/-- Driving a source. -/
theorem driveInput_keeps (p : State → β) (hevc : Blind State.setEvc p) (hctr : Blind State.setCtr p) (n : Nat) (b : Bool) (s : State) :
    p (driveInput n b s) = p s := by
  simp only [Blind] at *
  unfold driveInput
  dsimp only
  split <;> simp only [State.modSource, State.modEvc, State.modCtr, raise_keeps p hevc hctr, hevc, hctr]

@[simp] theorem driveInput_time (n : Nat) (b : Bool) (s : State) : (driveInput n b s).time = s.time :=
  driveInput_keeps State.time (fun _ _ => rfl) (fun _ _ => rfl) n b s
@[simp] theorem driveInput_dev (n : Nat) (b : Bool) (s : State) : (driveInput n b s).dev = s.dev :=
  driveInput_keeps State.dev (fun _ _ => rfl) (fun _ _ => rfl) n b s
@[simp] theorem driveInput_ledger (n : Nat) (b : Bool) (s : State) : (driveInput n b s).ledger = s.ledger :=
  driveInput_keeps State.ledger (fun _ _ => rfl) (fun _ _ => rfl) n b s
@[simp] theorem driveInput_wear (n : Nat) (b : Bool) (s : State) : (driveInput n b s).wear = s.wear :=
  driveInput_keeps State.wear (fun _ _ => rfl) (fun _ _ => rfl) n b s
@[simp] theorem driveInput_records (n : Nat) (b : Bool) (s : State) : (driveInput n b s).records = s.records :=
  driveInput_keeps State.records (fun _ _ => rfl) (fun _ _ => rfl) n b s
@[simp] theorem driveInput_teller (n : Nat) (b : Bool) (s : State) : (driveInput n b s).teller = s.teller :=
  driveInput_keeps State.teller (fun _ _ => rfl) (fun _ _ => rfl) n b s
@[simp] theorem driveInput_pool (n : Nat) (b : Bool) (s : State) : (driveInput n b s).pool = s.pool :=
  driveInput_keeps State.pool (fun _ _ => rfl) (fun _ _ => rfl) n b s
@[simp] theorem driveInput_home (n : Nat) (b : Bool) (s : State) : (driveInput n b s).home = s.home :=
  driveInput_keeps State.home (fun _ _ => rfl) (fun _ _ => rfl) n b s
@[simp] theorem driveInput_switch (n : Nat) (b : Bool) (s : State) : (driveInput n b s).switch = s.switch :=
  driveInput_keeps State.switch (fun _ _ => rfl) (fun _ _ => rfl) n b s
@[simp] theorem driveInput_ports (n : Nat) (b : Bool) (s : State) : (driveInput n b s).ports = s.ports :=
  driveInput_keeps State.ports (fun _ _ => rfl) (fun _ _ => rfl) n b s
@[simp] theorem driveInput_lanes (n : Nat) (b : Bool) (s : State) : (driveInput n b s).lanes = s.lanes :=
  driveInput_keeps State.lanes (fun _ _ => rfl) (fun _ _ => rfl) n b s
@[simp] theorem driveInput_trunks (n : Nat) (b : Bool) (s : State) : (driveInput n b s).trunks = s.trunks :=
  driveInput_keeps State.trunks (fun _ _ => rfl) (fun _ _ => rfl) n b s
@[simp] theorem driveInput_pair (n : Nat) (b : Bool) (s : State) : (driveInput n b s).pair = s.pair :=
  driveInput_keeps State.pair (fun _ _ => rfl) (fun _ _ => rfl) n b s
@[simp] theorem driveInput_barrow (n : Nat) (b : Bool) (s : State) : (driveInput n b s).barrow = s.barrow :=
  driveInput_keeps State.barrow (fun _ _ => rfl) (fun _ _ => rfl) n b s
@[simp] theorem driveInput_steward (n : Nat) (b : Bool) (s : State) : (driveInput n b s).steward = s.steward :=
  driveInput_keeps State.steward (fun _ _ => rfl) (fun _ _ => rfl) n b s
@[simp] theorem driveInput_dieLink (n : Nat) (b : Bool) (s : State) : (driveInput n b s).dieLink = s.dieLink :=
  driveInput_keeps State.dieLink (fun _ _ => rfl) (fun _ _ => rfl) n b s
@[simp] theorem driveInput_bridge (n : Nat) (b : Bool) (s : State) : (driveInput n b s).bridge = s.bridge :=
  driveInput_keeps State.bridge (fun _ _ => rfl) (fun _ _ => rfl) n b s
@[simp] theorem driveInput_power (n : Nat) (b : Bool) (s : State) : (driveInput n b s).power = s.power :=
  driveInput_keeps State.power (fun _ _ => rfl) (fun _ _ => rfl) n b s
@[simp] theorem driveInput_free (n : Nat) (b : Bool) (s : State) : (driveInput n b s).free = s.free :=
  driveInput_keeps State.free (fun _ _ => rfl) (fun _ _ => rfl) n b s
@[simp] theorem driveInput_pending (n : Nat) (b : Bool) (s : State) : (driveInput n b s).pending = s.pending :=
  driveInput_keeps State.pending (fun _ _ => rfl) (fun _ _ => rfl) n b s

/-- Counting an event. -/
theorem count_keeps (p : State → β) (hevc : Blind State.setEvc p) (hctr : Blind State.setCtr p) (block ev n : Nat) (s : State) :
    p (count block ev n s) = p s := by
  simp only [Blind] at *
  simp only [count, State.modEvc, State.modCtr, followUps_keeps p hevc hctr, hevc, hctr]

@[simp] theorem count_time (block ev n : Nat) (s : State) : (count block ev n s).time = s.time :=
  count_keeps State.time (fun _ _ => rfl) (fun _ _ => rfl) block ev n s
@[simp] theorem count_dev (block ev n : Nat) (s : State) : (count block ev n s).dev = s.dev :=
  count_keeps State.dev (fun _ _ => rfl) (fun _ _ => rfl) block ev n s
@[simp] theorem count_ledger (block ev n : Nat) (s : State) : (count block ev n s).ledger = s.ledger :=
  count_keeps State.ledger (fun _ _ => rfl) (fun _ _ => rfl) block ev n s
@[simp] theorem count_wear (block ev n : Nat) (s : State) : (count block ev n s).wear = s.wear :=
  count_keeps State.wear (fun _ _ => rfl) (fun _ _ => rfl) block ev n s
@[simp] theorem count_records (block ev n : Nat) (s : State) : (count block ev n s).records = s.records :=
  count_keeps State.records (fun _ _ => rfl) (fun _ _ => rfl) block ev n s
@[simp] theorem count_teller (block ev n : Nat) (s : State) : (count block ev n s).teller = s.teller :=
  count_keeps State.teller (fun _ _ => rfl) (fun _ _ => rfl) block ev n s
@[simp] theorem count_pool (block ev n : Nat) (s : State) : (count block ev n s).pool = s.pool :=
  count_keeps State.pool (fun _ _ => rfl) (fun _ _ => rfl) block ev n s
@[simp] theorem count_home (block ev n : Nat) (s : State) : (count block ev n s).home = s.home :=
  count_keeps State.home (fun _ _ => rfl) (fun _ _ => rfl) block ev n s
@[simp] theorem count_switch (block ev n : Nat) (s : State) : (count block ev n s).switch = s.switch :=
  count_keeps State.switch (fun _ _ => rfl) (fun _ _ => rfl) block ev n s
@[simp] theorem count_ports (block ev n : Nat) (s : State) : (count block ev n s).ports = s.ports :=
  count_keeps State.ports (fun _ _ => rfl) (fun _ _ => rfl) block ev n s
@[simp] theorem count_lanes (block ev n : Nat) (s : State) : (count block ev n s).lanes = s.lanes :=
  count_keeps State.lanes (fun _ _ => rfl) (fun _ _ => rfl) block ev n s
@[simp] theorem count_trunks (block ev n : Nat) (s : State) : (count block ev n s).trunks = s.trunks :=
  count_keeps State.trunks (fun _ _ => rfl) (fun _ _ => rfl) block ev n s
@[simp] theorem count_pair (block ev n : Nat) (s : State) : (count block ev n s).pair = s.pair :=
  count_keeps State.pair (fun _ _ => rfl) (fun _ _ => rfl) block ev n s
@[simp] theorem count_barrow (block ev n : Nat) (s : State) : (count block ev n s).barrow = s.barrow :=
  count_keeps State.barrow (fun _ _ => rfl) (fun _ _ => rfl) block ev n s
@[simp] theorem count_steward (block ev n : Nat) (s : State) : (count block ev n s).steward = s.steward :=
  count_keeps State.steward (fun _ _ => rfl) (fun _ _ => rfl) block ev n s
@[simp] theorem count_dieLink (block ev n : Nat) (s : State) : (count block ev n s).dieLink = s.dieLink :=
  count_keeps State.dieLink (fun _ _ => rfl) (fun _ _ => rfl) block ev n s
@[simp] theorem count_bridge (block ev n : Nat) (s : State) : (count block ev n s).bridge = s.bridge :=
  count_keeps State.bridge (fun _ _ => rfl) (fun _ _ => rfl) block ev n s
@[simp] theorem count_power (block ev n : Nat) (s : State) : (count block ev n s).power = s.power :=
  count_keeps State.power (fun _ _ => rfl) (fun _ _ => rfl) block ev n s
@[simp] theorem count_free (block ev n : Nat) (s : State) : (count block ev n s).free = s.free :=
  count_keeps State.free (fun _ _ => rfl) (fun _ _ => rfl) block ev n s
@[simp] theorem count_pending (block ev n : Nat) (s : State) : (count block ev n s).pending = s.pending :=
  count_keeps State.pending (fun _ _ => rfl) (fun _ _ => rfl) block ev n s

/-- Counting an event of a port. -/
theorem countPort_keeps (p : State → β) (hevc : Blind State.setEvc p) (hctr : Blind State.setCtr p) (port ev n : Nat) (s : State) :
    p (countPort port ev n s) = p s := by
  simp only [Blind] at *
  simp only [countPort, State.modEvc, State.modCtr, followUps_keeps p hevc hctr, hevc, hctr]

@[simp] theorem countPort_time (port ev n : Nat) (s : State) : (countPort port ev n s).time = s.time :=
  countPort_keeps State.time (fun _ _ => rfl) (fun _ _ => rfl) port ev n s
@[simp] theorem countPort_dev (port ev n : Nat) (s : State) : (countPort port ev n s).dev = s.dev :=
  countPort_keeps State.dev (fun _ _ => rfl) (fun _ _ => rfl) port ev n s
@[simp] theorem countPort_ledger (port ev n : Nat) (s : State) : (countPort port ev n s).ledger = s.ledger :=
  countPort_keeps State.ledger (fun _ _ => rfl) (fun _ _ => rfl) port ev n s
@[simp] theorem countPort_wear (port ev n : Nat) (s : State) : (countPort port ev n s).wear = s.wear :=
  countPort_keeps State.wear (fun _ _ => rfl) (fun _ _ => rfl) port ev n s
@[simp] theorem countPort_records (port ev n : Nat) (s : State) : (countPort port ev n s).records = s.records :=
  countPort_keeps State.records (fun _ _ => rfl) (fun _ _ => rfl) port ev n s
@[simp] theorem countPort_teller (port ev n : Nat) (s : State) : (countPort port ev n s).teller = s.teller :=
  countPort_keeps State.teller (fun _ _ => rfl) (fun _ _ => rfl) port ev n s
@[simp] theorem countPort_pool (port ev n : Nat) (s : State) : (countPort port ev n s).pool = s.pool :=
  countPort_keeps State.pool (fun _ _ => rfl) (fun _ _ => rfl) port ev n s
@[simp] theorem countPort_home (port ev n : Nat) (s : State) : (countPort port ev n s).home = s.home :=
  countPort_keeps State.home (fun _ _ => rfl) (fun _ _ => rfl) port ev n s
@[simp] theorem countPort_switch (port ev n : Nat) (s : State) : (countPort port ev n s).switch = s.switch :=
  countPort_keeps State.switch (fun _ _ => rfl) (fun _ _ => rfl) port ev n s
@[simp] theorem countPort_ports (port ev n : Nat) (s : State) : (countPort port ev n s).ports = s.ports :=
  countPort_keeps State.ports (fun _ _ => rfl) (fun _ _ => rfl) port ev n s
@[simp] theorem countPort_lanes (port ev n : Nat) (s : State) : (countPort port ev n s).lanes = s.lanes :=
  countPort_keeps State.lanes (fun _ _ => rfl) (fun _ _ => rfl) port ev n s
@[simp] theorem countPort_trunks (port ev n : Nat) (s : State) : (countPort port ev n s).trunks = s.trunks :=
  countPort_keeps State.trunks (fun _ _ => rfl) (fun _ _ => rfl) port ev n s
@[simp] theorem countPort_pair (port ev n : Nat) (s : State) : (countPort port ev n s).pair = s.pair :=
  countPort_keeps State.pair (fun _ _ => rfl) (fun _ _ => rfl) port ev n s
@[simp] theorem countPort_barrow (port ev n : Nat) (s : State) : (countPort port ev n s).barrow = s.barrow :=
  countPort_keeps State.barrow (fun _ _ => rfl) (fun _ _ => rfl) port ev n s
@[simp] theorem countPort_steward (port ev n : Nat) (s : State) : (countPort port ev n s).steward = s.steward :=
  countPort_keeps State.steward (fun _ _ => rfl) (fun _ _ => rfl) port ev n s
@[simp] theorem countPort_dieLink (port ev n : Nat) (s : State) : (countPort port ev n s).dieLink = s.dieLink :=
  countPort_keeps State.dieLink (fun _ _ => rfl) (fun _ _ => rfl) port ev n s
@[simp] theorem countPort_bridge (port ev n : Nat) (s : State) : (countPort port ev n s).bridge = s.bridge :=
  countPort_keeps State.bridge (fun _ _ => rfl) (fun _ _ => rfl) port ev n s
@[simp] theorem countPort_power (port ev n : Nat) (s : State) : (countPort port ev n s).power = s.power :=
  countPort_keeps State.power (fun _ _ => rfl) (fun _ _ => rfl) port ev n s
@[simp] theorem countPort_free (port ev n : Nat) (s : State) : (countPort port ev n s).free = s.free :=
  countPort_keeps State.free (fun _ _ => rfl) (fun _ _ => rfl) port ev n s
@[simp] theorem countPort_pending (port ev n : Nat) (s : State) : (countPort port ev n s).pending = s.pending :=
  countPort_keeps State.pending (fun _ _ => rfl) (fun _ _ => rfl) port ev n s

/-- Counting an event over several beats. -/
theorem countLong_keeps (p : State → β) (hevc : Blind State.setEvc p) (hctr : Blind State.setCtr p) (block ev n : Nat) (s : State) :
    p (countLong block ev n s) = p s := by
  simp only [Blind] at *
  simp only [countLong, followUps_keeps p hevc hctr, hctr]

/-- Counting an event of a port over several beats. -/
theorem countPortLong_keeps (p : State → β) (hevc : Blind State.setEvc p) (hctr : Blind State.setCtr p) (port ev n : Nat) (s : State) :
    p (countPortLong port ev n s) = p s := by
  simp only [Blind] at *
  simp only [countPortLong, followUps_keeps p hevc hctr, hctr]

/-- Counting an event of every block. -/
theorem countAll_keeps (p : State → β) (hevc : Blind State.setEvc p) (hctr : Blind State.setCtr p) (ev n : Nat) (s : State) :
    p (countAll ev n s) = p s := by
  simp only [Blind] at *
  unfold countAll
  split
  · rfl
  · simp only [State.modEvc, State.modCtr, followUps_keeps p hevc hctr, hevc, hctr]

@[simp] theorem countAll_time (ev n : Nat) (s : State) : (countAll ev n s).time = s.time :=
  countAll_keeps State.time (fun _ _ => rfl) (fun _ _ => rfl) ev n s
@[simp] theorem countAll_dev (ev n : Nat) (s : State) : (countAll ev n s).dev = s.dev :=
  countAll_keeps State.dev (fun _ _ => rfl) (fun _ _ => rfl) ev n s
@[simp] theorem countAll_ledger (ev n : Nat) (s : State) : (countAll ev n s).ledger = s.ledger :=
  countAll_keeps State.ledger (fun _ _ => rfl) (fun _ _ => rfl) ev n s
@[simp] theorem countAll_wear (ev n : Nat) (s : State) : (countAll ev n s).wear = s.wear :=
  countAll_keeps State.wear (fun _ _ => rfl) (fun _ _ => rfl) ev n s
@[simp] theorem countAll_records (ev n : Nat) (s : State) : (countAll ev n s).records = s.records :=
  countAll_keeps State.records (fun _ _ => rfl) (fun _ _ => rfl) ev n s
@[simp] theorem countAll_teller (ev n : Nat) (s : State) : (countAll ev n s).teller = s.teller :=
  countAll_keeps State.teller (fun _ _ => rfl) (fun _ _ => rfl) ev n s
@[simp] theorem countAll_pool (ev n : Nat) (s : State) : (countAll ev n s).pool = s.pool :=
  countAll_keeps State.pool (fun _ _ => rfl) (fun _ _ => rfl) ev n s
@[simp] theorem countAll_home (ev n : Nat) (s : State) : (countAll ev n s).home = s.home :=
  countAll_keeps State.home (fun _ _ => rfl) (fun _ _ => rfl) ev n s
@[simp] theorem countAll_switch (ev n : Nat) (s : State) : (countAll ev n s).switch = s.switch :=
  countAll_keeps State.switch (fun _ _ => rfl) (fun _ _ => rfl) ev n s
@[simp] theorem countAll_ports (ev n : Nat) (s : State) : (countAll ev n s).ports = s.ports :=
  countAll_keeps State.ports (fun _ _ => rfl) (fun _ _ => rfl) ev n s
@[simp] theorem countAll_lanes (ev n : Nat) (s : State) : (countAll ev n s).lanes = s.lanes :=
  countAll_keeps State.lanes (fun _ _ => rfl) (fun _ _ => rfl) ev n s
@[simp] theorem countAll_trunks (ev n : Nat) (s : State) : (countAll ev n s).trunks = s.trunks :=
  countAll_keeps State.trunks (fun _ _ => rfl) (fun _ _ => rfl) ev n s
@[simp] theorem countAll_pair (ev n : Nat) (s : State) : (countAll ev n s).pair = s.pair :=
  countAll_keeps State.pair (fun _ _ => rfl) (fun _ _ => rfl) ev n s
@[simp] theorem countAll_barrow (ev n : Nat) (s : State) : (countAll ev n s).barrow = s.barrow :=
  countAll_keeps State.barrow (fun _ _ => rfl) (fun _ _ => rfl) ev n s
@[simp] theorem countAll_steward (ev n : Nat) (s : State) : (countAll ev n s).steward = s.steward :=
  countAll_keeps State.steward (fun _ _ => rfl) (fun _ _ => rfl) ev n s
@[simp] theorem countAll_dieLink (ev n : Nat) (s : State) : (countAll ev n s).dieLink = s.dieLink :=
  countAll_keeps State.dieLink (fun _ _ => rfl) (fun _ _ => rfl) ev n s
@[simp] theorem countAll_bridge (ev n : Nat) (s : State) : (countAll ev n s).bridge = s.bridge :=
  countAll_keeps State.bridge (fun _ _ => rfl) (fun _ _ => rfl) ev n s
@[simp] theorem countAll_power (ev n : Nat) (s : State) : (countAll ev n s).power = s.power :=
  countAll_keeps State.power (fun _ _ => rfl) (fun _ _ => rfl) ev n s
@[simp] theorem countAll_free (ev n : Nat) (s : State) : (countAll ev n s).free = s.free :=
  countAll_keeps State.free (fun _ _ => rfl) (fun _ _ => rfl) ev n s
@[simp] theorem countAll_pending (ev n : Nat) (s : State) : (countAll ev n s).pending = s.pending :=
  countAll_keeps State.pending (fun _ _ => rfl) (fun _ _ => rfl) ev n s

/-- Adding to a statistic. -/
theorem statAdd_keeps (p : State → β) (hevc : Blind State.setEvc p) (hctr : Blind State.setCtr p) (i n : Nat) (s : State) :
    p (statAdd i n s) = p s := by
  simp only [Blind] at *
  unfold statAdd
  dsimp only
  split <;> simp only [State.modEvc, State.modCtr, raise_keeps p hevc hctr, hevc, hctr]

@[simp] theorem statAdd_time (i n : Nat) (s : State) : (statAdd i n s).time = s.time :=
  statAdd_keeps State.time (fun _ _ => rfl) (fun _ _ => rfl) i n s
@[simp] theorem statAdd_dev (i n : Nat) (s : State) : (statAdd i n s).dev = s.dev :=
  statAdd_keeps State.dev (fun _ _ => rfl) (fun _ _ => rfl) i n s
@[simp] theorem statAdd_ledger (i n : Nat) (s : State) : (statAdd i n s).ledger = s.ledger :=
  statAdd_keeps State.ledger (fun _ _ => rfl) (fun _ _ => rfl) i n s
@[simp] theorem statAdd_wear (i n : Nat) (s : State) : (statAdd i n s).wear = s.wear :=
  statAdd_keeps State.wear (fun _ _ => rfl) (fun _ _ => rfl) i n s
@[simp] theorem statAdd_records (i n : Nat) (s : State) : (statAdd i n s).records = s.records :=
  statAdd_keeps State.records (fun _ _ => rfl) (fun _ _ => rfl) i n s
@[simp] theorem statAdd_teller (i n : Nat) (s : State) : (statAdd i n s).teller = s.teller :=
  statAdd_keeps State.teller (fun _ _ => rfl) (fun _ _ => rfl) i n s
@[simp] theorem statAdd_pool (i n : Nat) (s : State) : (statAdd i n s).pool = s.pool :=
  statAdd_keeps State.pool (fun _ _ => rfl) (fun _ _ => rfl) i n s
@[simp] theorem statAdd_home (i n : Nat) (s : State) : (statAdd i n s).home = s.home :=
  statAdd_keeps State.home (fun _ _ => rfl) (fun _ _ => rfl) i n s
@[simp] theorem statAdd_switch (i n : Nat) (s : State) : (statAdd i n s).switch = s.switch :=
  statAdd_keeps State.switch (fun _ _ => rfl) (fun _ _ => rfl) i n s
@[simp] theorem statAdd_ports (i n : Nat) (s : State) : (statAdd i n s).ports = s.ports :=
  statAdd_keeps State.ports (fun _ _ => rfl) (fun _ _ => rfl) i n s
@[simp] theorem statAdd_lanes (i n : Nat) (s : State) : (statAdd i n s).lanes = s.lanes :=
  statAdd_keeps State.lanes (fun _ _ => rfl) (fun _ _ => rfl) i n s
@[simp] theorem statAdd_trunks (i n : Nat) (s : State) : (statAdd i n s).trunks = s.trunks :=
  statAdd_keeps State.trunks (fun _ _ => rfl) (fun _ _ => rfl) i n s
@[simp] theorem statAdd_pair (i n : Nat) (s : State) : (statAdd i n s).pair = s.pair :=
  statAdd_keeps State.pair (fun _ _ => rfl) (fun _ _ => rfl) i n s
@[simp] theorem statAdd_barrow (i n : Nat) (s : State) : (statAdd i n s).barrow = s.barrow :=
  statAdd_keeps State.barrow (fun _ _ => rfl) (fun _ _ => rfl) i n s
@[simp] theorem statAdd_steward (i n : Nat) (s : State) : (statAdd i n s).steward = s.steward :=
  statAdd_keeps State.steward (fun _ _ => rfl) (fun _ _ => rfl) i n s
@[simp] theorem statAdd_dieLink (i n : Nat) (s : State) : (statAdd i n s).dieLink = s.dieLink :=
  statAdd_keeps State.dieLink (fun _ _ => rfl) (fun _ _ => rfl) i n s
@[simp] theorem statAdd_bridge (i n : Nat) (s : State) : (statAdd i n s).bridge = s.bridge :=
  statAdd_keeps State.bridge (fun _ _ => rfl) (fun _ _ => rfl) i n s
@[simp] theorem statAdd_power (i n : Nat) (s : State) : (statAdd i n s).power = s.power :=
  statAdd_keeps State.power (fun _ _ => rfl) (fun _ _ => rfl) i n s
@[simp] theorem statAdd_free (i n : Nat) (s : State) : (statAdd i n s).free = s.free :=
  statAdd_keeps State.free (fun _ _ => rfl) (fun _ _ => rfl) i n s
@[simp] theorem statAdd_pending (i n : Nat) (s : State) : (statAdd i n s).pending = s.pending :=
  statAdd_keeps State.pending (fun _ _ => rfl) (fun _ _ => rfl) i n s

/-- A maximum statistic. -/
theorem statMax_keeps (p : State → β) (hctr : Blind State.setCtr p) (i n : Nat) (s : State) :
    p (statMax i n s) = p s := by
  simp only [Blind] at *
  simp only [statMax, State.modCtr, hctr]

@[simp] theorem statMax_time (i n : Nat) (s : State) : (statMax i n s).time = s.time :=
  statMax_keeps State.time (fun _ _ => rfl) i n s
@[simp] theorem statMax_dev (i n : Nat) (s : State) : (statMax i n s).dev = s.dev :=
  statMax_keeps State.dev (fun _ _ => rfl) i n s
@[simp] theorem statMax_evc (i n : Nat) (s : State) : (statMax i n s).evc = s.evc :=
  statMax_keeps State.evc (fun _ _ => rfl) i n s
@[simp] theorem statMax_ledger (i n : Nat) (s : State) : (statMax i n s).ledger = s.ledger :=
  statMax_keeps State.ledger (fun _ _ => rfl) i n s
@[simp] theorem statMax_wear (i n : Nat) (s : State) : (statMax i n s).wear = s.wear :=
  statMax_keeps State.wear (fun _ _ => rfl) i n s
@[simp] theorem statMax_records (i n : Nat) (s : State) : (statMax i n s).records = s.records :=
  statMax_keeps State.records (fun _ _ => rfl) i n s
@[simp] theorem statMax_teller (i n : Nat) (s : State) : (statMax i n s).teller = s.teller :=
  statMax_keeps State.teller (fun _ _ => rfl) i n s
@[simp] theorem statMax_pool (i n : Nat) (s : State) : (statMax i n s).pool = s.pool :=
  statMax_keeps State.pool (fun _ _ => rfl) i n s
@[simp] theorem statMax_home (i n : Nat) (s : State) : (statMax i n s).home = s.home :=
  statMax_keeps State.home (fun _ _ => rfl) i n s
@[simp] theorem statMax_switch (i n : Nat) (s : State) : (statMax i n s).switch = s.switch :=
  statMax_keeps State.switch (fun _ _ => rfl) i n s
@[simp] theorem statMax_ports (i n : Nat) (s : State) : (statMax i n s).ports = s.ports :=
  statMax_keeps State.ports (fun _ _ => rfl) i n s
@[simp] theorem statMax_lanes (i n : Nat) (s : State) : (statMax i n s).lanes = s.lanes :=
  statMax_keeps State.lanes (fun _ _ => rfl) i n s
@[simp] theorem statMax_trunks (i n : Nat) (s : State) : (statMax i n s).trunks = s.trunks :=
  statMax_keeps State.trunks (fun _ _ => rfl) i n s
@[simp] theorem statMax_pair (i n : Nat) (s : State) : (statMax i n s).pair = s.pair :=
  statMax_keeps State.pair (fun _ _ => rfl) i n s
@[simp] theorem statMax_barrow (i n : Nat) (s : State) : (statMax i n s).barrow = s.barrow :=
  statMax_keeps State.barrow (fun _ _ => rfl) i n s
@[simp] theorem statMax_steward (i n : Nat) (s : State) : (statMax i n s).steward = s.steward :=
  statMax_keeps State.steward (fun _ _ => rfl) i n s
@[simp] theorem statMax_dieLink (i n : Nat) (s : State) : (statMax i n s).dieLink = s.dieLink :=
  statMax_keeps State.dieLink (fun _ _ => rfl) i n s
@[simp] theorem statMax_bridge (i n : Nat) (s : State) : (statMax i n s).bridge = s.bridge :=
  statMax_keeps State.bridge (fun _ _ => rfl) i n s
@[simp] theorem statMax_power (i n : Nat) (s : State) : (statMax i n s).power = s.power :=
  statMax_keeps State.power (fun _ _ => rfl) i n s
@[simp] theorem statMax_free (i n : Nat) (s : State) : (statMax i n s).free = s.free :=
  statMax_keeps State.free (fun _ _ => rfl) i n s
@[simp] theorem statMax_pending (i n : Nat) (s : State) : (statMax i n s).pending = s.pending :=
  statMax_keeps State.pending (fun _ _ => rfl) i n s

/-- Counting in a plot statistic. -/
theorem plotCount_keeps (p : State → β) (hevc : Blind State.setEvc p) (hctr : Blind State.setCtr p) (plot j n : Nat) (s : State) :
    p (plotCount plot j n s) = p s := by
  simp only [Blind] at *
  unfold plotCount
  split <;> simp only [State.modEvc, State.modCtr, statAdd_keeps p hevc hctr, hevc, hctr]

@[simp] theorem plotCount_time (plot j n : Nat) (s : State) : (plotCount plot j n s).time = s.time :=
  plotCount_keeps State.time (fun _ _ => rfl) (fun _ _ => rfl) plot j n s
@[simp] theorem plotCount_dev (plot j n : Nat) (s : State) : (plotCount plot j n s).dev = s.dev :=
  plotCount_keeps State.dev (fun _ _ => rfl) (fun _ _ => rfl) plot j n s
@[simp] theorem plotCount_ledger (plot j n : Nat) (s : State) : (plotCount plot j n s).ledger = s.ledger :=
  plotCount_keeps State.ledger (fun _ _ => rfl) (fun _ _ => rfl) plot j n s
@[simp] theorem plotCount_wear (plot j n : Nat) (s : State) : (plotCount plot j n s).wear = s.wear :=
  plotCount_keeps State.wear (fun _ _ => rfl) (fun _ _ => rfl) plot j n s
@[simp] theorem plotCount_records (plot j n : Nat) (s : State) : (plotCount plot j n s).records = s.records :=
  plotCount_keeps State.records (fun _ _ => rfl) (fun _ _ => rfl) plot j n s
@[simp] theorem plotCount_teller (plot j n : Nat) (s : State) : (plotCount plot j n s).teller = s.teller :=
  plotCount_keeps State.teller (fun _ _ => rfl) (fun _ _ => rfl) plot j n s
@[simp] theorem plotCount_pool (plot j n : Nat) (s : State) : (plotCount plot j n s).pool = s.pool :=
  plotCount_keeps State.pool (fun _ _ => rfl) (fun _ _ => rfl) plot j n s
@[simp] theorem plotCount_home (plot j n : Nat) (s : State) : (plotCount plot j n s).home = s.home :=
  plotCount_keeps State.home (fun _ _ => rfl) (fun _ _ => rfl) plot j n s
@[simp] theorem plotCount_switch (plot j n : Nat) (s : State) : (plotCount plot j n s).switch = s.switch :=
  plotCount_keeps State.switch (fun _ _ => rfl) (fun _ _ => rfl) plot j n s
@[simp] theorem plotCount_ports (plot j n : Nat) (s : State) : (plotCount plot j n s).ports = s.ports :=
  plotCount_keeps State.ports (fun _ _ => rfl) (fun _ _ => rfl) plot j n s
@[simp] theorem plotCount_lanes (plot j n : Nat) (s : State) : (plotCount plot j n s).lanes = s.lanes :=
  plotCount_keeps State.lanes (fun _ _ => rfl) (fun _ _ => rfl) plot j n s
@[simp] theorem plotCount_trunks (plot j n : Nat) (s : State) : (plotCount plot j n s).trunks = s.trunks :=
  plotCount_keeps State.trunks (fun _ _ => rfl) (fun _ _ => rfl) plot j n s
@[simp] theorem plotCount_pair (plot j n : Nat) (s : State) : (plotCount plot j n s).pair = s.pair :=
  plotCount_keeps State.pair (fun _ _ => rfl) (fun _ _ => rfl) plot j n s
@[simp] theorem plotCount_barrow (plot j n : Nat) (s : State) : (plotCount plot j n s).barrow = s.barrow :=
  plotCount_keeps State.barrow (fun _ _ => rfl) (fun _ _ => rfl) plot j n s
@[simp] theorem plotCount_steward (plot j n : Nat) (s : State) : (plotCount plot j n s).steward = s.steward :=
  plotCount_keeps State.steward (fun _ _ => rfl) (fun _ _ => rfl) plot j n s
@[simp] theorem plotCount_dieLink (plot j n : Nat) (s : State) : (plotCount plot j n s).dieLink = s.dieLink :=
  plotCount_keeps State.dieLink (fun _ _ => rfl) (fun _ _ => rfl) plot j n s
@[simp] theorem plotCount_bridge (plot j n : Nat) (s : State) : (plotCount plot j n s).bridge = s.bridge :=
  plotCount_keeps State.bridge (fun _ _ => rfl) (fun _ _ => rfl) plot j n s
@[simp] theorem plotCount_power (plot j n : Nat) (s : State) : (plotCount plot j n s).power = s.power :=
  plotCount_keeps State.power (fun _ _ => rfl) (fun _ _ => rfl) plot j n s
@[simp] theorem plotCount_free (plot j n : Nat) (s : State) : (plotCount plot j n s).free = s.free :=
  plotCount_keeps State.free (fun _ _ => rfl) (fun _ _ => rfl) plot j n s
@[simp] theorem plotCount_pending (plot j n : Nat) (s : State) : (plotCount plot j n s).pending = s.pending :=
  plotCount_keeps State.pending (fun _ _ => rfl) (fun _ _ => rfl) plot j n s

/-- Counting in a port statistic. -/
theorem portCount_keeps (p : State → β) (hevc : Blind State.setEvc p) (hctr : Blind State.setCtr p) (port j n : Nat) (s : State) :
    p (portCount port j n s) = p s := by
  simp only [Blind] at *
  simp only [portCount, State.modEvc, State.modCtr, statAdd_keeps p hevc hctr, hevc, hctr]

@[simp] theorem portCount_time (port j n : Nat) (s : State) : (portCount port j n s).time = s.time :=
  portCount_keeps State.time (fun _ _ => rfl) (fun _ _ => rfl) port j n s
@[simp] theorem portCount_dev (port j n : Nat) (s : State) : (portCount port j n s).dev = s.dev :=
  portCount_keeps State.dev (fun _ _ => rfl) (fun _ _ => rfl) port j n s
@[simp] theorem portCount_ledger (port j n : Nat) (s : State) : (portCount port j n s).ledger = s.ledger :=
  portCount_keeps State.ledger (fun _ _ => rfl) (fun _ _ => rfl) port j n s
@[simp] theorem portCount_wear (port j n : Nat) (s : State) : (portCount port j n s).wear = s.wear :=
  portCount_keeps State.wear (fun _ _ => rfl) (fun _ _ => rfl) port j n s
@[simp] theorem portCount_records (port j n : Nat) (s : State) : (portCount port j n s).records = s.records :=
  portCount_keeps State.records (fun _ _ => rfl) (fun _ _ => rfl) port j n s
@[simp] theorem portCount_teller (port j n : Nat) (s : State) : (portCount port j n s).teller = s.teller :=
  portCount_keeps State.teller (fun _ _ => rfl) (fun _ _ => rfl) port j n s
@[simp] theorem portCount_pool (port j n : Nat) (s : State) : (portCount port j n s).pool = s.pool :=
  portCount_keeps State.pool (fun _ _ => rfl) (fun _ _ => rfl) port j n s
@[simp] theorem portCount_home (port j n : Nat) (s : State) : (portCount port j n s).home = s.home :=
  portCount_keeps State.home (fun _ _ => rfl) (fun _ _ => rfl) port j n s
@[simp] theorem portCount_switch (port j n : Nat) (s : State) : (portCount port j n s).switch = s.switch :=
  portCount_keeps State.switch (fun _ _ => rfl) (fun _ _ => rfl) port j n s
@[simp] theorem portCount_ports (port j n : Nat) (s : State) : (portCount port j n s).ports = s.ports :=
  portCount_keeps State.ports (fun _ _ => rfl) (fun _ _ => rfl) port j n s
@[simp] theorem portCount_lanes (port j n : Nat) (s : State) : (portCount port j n s).lanes = s.lanes :=
  portCount_keeps State.lanes (fun _ _ => rfl) (fun _ _ => rfl) port j n s
@[simp] theorem portCount_trunks (port j n : Nat) (s : State) : (portCount port j n s).trunks = s.trunks :=
  portCount_keeps State.trunks (fun _ _ => rfl) (fun _ _ => rfl) port j n s
@[simp] theorem portCount_pair (port j n : Nat) (s : State) : (portCount port j n s).pair = s.pair :=
  portCount_keeps State.pair (fun _ _ => rfl) (fun _ _ => rfl) port j n s
@[simp] theorem portCount_barrow (port j n : Nat) (s : State) : (portCount port j n s).barrow = s.barrow :=
  portCount_keeps State.barrow (fun _ _ => rfl) (fun _ _ => rfl) port j n s
@[simp] theorem portCount_steward (port j n : Nat) (s : State) : (portCount port j n s).steward = s.steward :=
  portCount_keeps State.steward (fun _ _ => rfl) (fun _ _ => rfl) port j n s
@[simp] theorem portCount_dieLink (port j n : Nat) (s : State) : (portCount port j n s).dieLink = s.dieLink :=
  portCount_keeps State.dieLink (fun _ _ => rfl) (fun _ _ => rfl) port j n s
@[simp] theorem portCount_bridge (port j n : Nat) (s : State) : (portCount port j n s).bridge = s.bridge :=
  portCount_keeps State.bridge (fun _ _ => rfl) (fun _ _ => rfl) port j n s
@[simp] theorem portCount_power (port j n : Nat) (s : State) : (portCount port j n s).power = s.power :=
  portCount_keeps State.power (fun _ _ => rfl) (fun _ _ => rfl) port j n s
@[simp] theorem portCount_free (port j n : Nat) (s : State) : (portCount port j n s).free = s.free :=
  portCount_keeps State.free (fun _ _ => rfl) (fun _ _ => rfl) port j n s
@[simp] theorem portCount_pending (port j n : Nat) (s : State) : (portCount port j n s).pending = s.pending :=
  portCount_keeps State.pending (fun _ _ => rfl) (fun _ _ => rfl) port j n s

/-- Recording at a trace point. -/
theorem trace_keeps (p : State → β) (hevc : Blind State.setEvc p) (hctr : Blind State.setCtr p) (point record : Nat) (s : State) :
    p (trace point record s) = p s := by
  simp only [Blind] at *
  simp only [trace, State.modEvc, State.modCtr, followUps_keeps p hevc hctr, hevc, hctr]

@[simp] theorem trace_time (point record : Nat) (s : State) : (trace point record s).time = s.time :=
  trace_keeps State.time (fun _ _ => rfl) (fun _ _ => rfl) point record s
@[simp] theorem trace_dev (point record : Nat) (s : State) : (trace point record s).dev = s.dev :=
  trace_keeps State.dev (fun _ _ => rfl) (fun _ _ => rfl) point record s
@[simp] theorem trace_ledger (point record : Nat) (s : State) : (trace point record s).ledger = s.ledger :=
  trace_keeps State.ledger (fun _ _ => rfl) (fun _ _ => rfl) point record s
@[simp] theorem trace_wear (point record : Nat) (s : State) : (trace point record s).wear = s.wear :=
  trace_keeps State.wear (fun _ _ => rfl) (fun _ _ => rfl) point record s
@[simp] theorem trace_records (point record : Nat) (s : State) : (trace point record s).records = s.records :=
  trace_keeps State.records (fun _ _ => rfl) (fun _ _ => rfl) point record s
@[simp] theorem trace_teller (point record : Nat) (s : State) : (trace point record s).teller = s.teller :=
  trace_keeps State.teller (fun _ _ => rfl) (fun _ _ => rfl) point record s
@[simp] theorem trace_pool (point record : Nat) (s : State) : (trace point record s).pool = s.pool :=
  trace_keeps State.pool (fun _ _ => rfl) (fun _ _ => rfl) point record s
@[simp] theorem trace_home (point record : Nat) (s : State) : (trace point record s).home = s.home :=
  trace_keeps State.home (fun _ _ => rfl) (fun _ _ => rfl) point record s
@[simp] theorem trace_switch (point record : Nat) (s : State) : (trace point record s).switch = s.switch :=
  trace_keeps State.switch (fun _ _ => rfl) (fun _ _ => rfl) point record s
@[simp] theorem trace_ports (point record : Nat) (s : State) : (trace point record s).ports = s.ports :=
  trace_keeps State.ports (fun _ _ => rfl) (fun _ _ => rfl) point record s
@[simp] theorem trace_lanes (point record : Nat) (s : State) : (trace point record s).lanes = s.lanes :=
  trace_keeps State.lanes (fun _ _ => rfl) (fun _ _ => rfl) point record s
@[simp] theorem trace_trunks (point record : Nat) (s : State) : (trace point record s).trunks = s.trunks :=
  trace_keeps State.trunks (fun _ _ => rfl) (fun _ _ => rfl) point record s
@[simp] theorem trace_pair (point record : Nat) (s : State) : (trace point record s).pair = s.pair :=
  trace_keeps State.pair (fun _ _ => rfl) (fun _ _ => rfl) point record s
@[simp] theorem trace_barrow (point record : Nat) (s : State) : (trace point record s).barrow = s.barrow :=
  trace_keeps State.barrow (fun _ _ => rfl) (fun _ _ => rfl) point record s
@[simp] theorem trace_steward (point record : Nat) (s : State) : (trace point record s).steward = s.steward :=
  trace_keeps State.steward (fun _ _ => rfl) (fun _ _ => rfl) point record s
@[simp] theorem trace_dieLink (point record : Nat) (s : State) : (trace point record s).dieLink = s.dieLink :=
  trace_keeps State.dieLink (fun _ _ => rfl) (fun _ _ => rfl) point record s
@[simp] theorem trace_bridge (point record : Nat) (s : State) : (trace point record s).bridge = s.bridge :=
  trace_keeps State.bridge (fun _ _ => rfl) (fun _ _ => rfl) point record s
@[simp] theorem trace_power (point record : Nat) (s : State) : (trace point record s).power = s.power :=
  trace_keeps State.power (fun _ _ => rfl) (fun _ _ => rfl) point record s
@[simp] theorem trace_free (point record : Nat) (s : State) : (trace point record s).free = s.free :=
  trace_keeps State.free (fun _ _ => rfl) (fun _ _ => rfl) point record s
@[simp] theorem trace_pending (point record : Nat) (s : State) : (trace point record s).pending = s.pending :=
  trace_keeps State.pending (fun _ _ => rfl) (fun _ _ => rfl) point record s

/-- Recording at the trace point of the event controller. -/
theorem traceEvc_keeps (p : State → β) (hevc : Blind State.setEvc p) (hctr : Blind State.setCtr p) (a b c d : Nat) (s : State) :
    p (traceEvc a b c d s) = p s := by
  simp only [Blind] at *
  simp only [traceEvc, State.modEvc, State.modCtr, trace_keeps p hevc hctr, hevc, hctr]

@[simp] theorem traceEvc_time (a b c d : Nat) (s : State) : (traceEvc a b c d s).time = s.time :=
  traceEvc_keeps State.time (fun _ _ => rfl) (fun _ _ => rfl) a b c d s
@[simp] theorem traceEvc_dev (a b c d : Nat) (s : State) : (traceEvc a b c d s).dev = s.dev :=
  traceEvc_keeps State.dev (fun _ _ => rfl) (fun _ _ => rfl) a b c d s
@[simp] theorem traceEvc_ledger (a b c d : Nat) (s : State) : (traceEvc a b c d s).ledger = s.ledger :=
  traceEvc_keeps State.ledger (fun _ _ => rfl) (fun _ _ => rfl) a b c d s
@[simp] theorem traceEvc_wear (a b c d : Nat) (s : State) : (traceEvc a b c d s).wear = s.wear :=
  traceEvc_keeps State.wear (fun _ _ => rfl) (fun _ _ => rfl) a b c d s
@[simp] theorem traceEvc_records (a b c d : Nat) (s : State) : (traceEvc a b c d s).records = s.records :=
  traceEvc_keeps State.records (fun _ _ => rfl) (fun _ _ => rfl) a b c d s
@[simp] theorem traceEvc_teller (a b c d : Nat) (s : State) : (traceEvc a b c d s).teller = s.teller :=
  traceEvc_keeps State.teller (fun _ _ => rfl) (fun _ _ => rfl) a b c d s
@[simp] theorem traceEvc_pool (a b c d : Nat) (s : State) : (traceEvc a b c d s).pool = s.pool :=
  traceEvc_keeps State.pool (fun _ _ => rfl) (fun _ _ => rfl) a b c d s
@[simp] theorem traceEvc_home (a b c d : Nat) (s : State) : (traceEvc a b c d s).home = s.home :=
  traceEvc_keeps State.home (fun _ _ => rfl) (fun _ _ => rfl) a b c d s
@[simp] theorem traceEvc_switch (a b c d : Nat) (s : State) : (traceEvc a b c d s).switch = s.switch :=
  traceEvc_keeps State.switch (fun _ _ => rfl) (fun _ _ => rfl) a b c d s
@[simp] theorem traceEvc_ports (a b c d : Nat) (s : State) : (traceEvc a b c d s).ports = s.ports :=
  traceEvc_keeps State.ports (fun _ _ => rfl) (fun _ _ => rfl) a b c d s
@[simp] theorem traceEvc_lanes (a b c d : Nat) (s : State) : (traceEvc a b c d s).lanes = s.lanes :=
  traceEvc_keeps State.lanes (fun _ _ => rfl) (fun _ _ => rfl) a b c d s
@[simp] theorem traceEvc_trunks (a b c d : Nat) (s : State) : (traceEvc a b c d s).trunks = s.trunks :=
  traceEvc_keeps State.trunks (fun _ _ => rfl) (fun _ _ => rfl) a b c d s
@[simp] theorem traceEvc_pair (a b c d : Nat) (s : State) : (traceEvc a b c d s).pair = s.pair :=
  traceEvc_keeps State.pair (fun _ _ => rfl) (fun _ _ => rfl) a b c d s
@[simp] theorem traceEvc_barrow (a b c d : Nat) (s : State) : (traceEvc a b c d s).barrow = s.barrow :=
  traceEvc_keeps State.barrow (fun _ _ => rfl) (fun _ _ => rfl) a b c d s
@[simp] theorem traceEvc_steward (a b c d : Nat) (s : State) : (traceEvc a b c d s).steward = s.steward :=
  traceEvc_keeps State.steward (fun _ _ => rfl) (fun _ _ => rfl) a b c d s
@[simp] theorem traceEvc_dieLink (a b c d : Nat) (s : State) : (traceEvc a b c d s).dieLink = s.dieLink :=
  traceEvc_keeps State.dieLink (fun _ _ => rfl) (fun _ _ => rfl) a b c d s
@[simp] theorem traceEvc_bridge (a b c d : Nat) (s : State) : (traceEvc a b c d s).bridge = s.bridge :=
  traceEvc_keeps State.bridge (fun _ _ => rfl) (fun _ _ => rfl) a b c d s
@[simp] theorem traceEvc_power (a b c d : Nat) (s : State) : (traceEvc a b c d s).power = s.power :=
  traceEvc_keeps State.power (fun _ _ => rfl) (fun _ _ => rfl) a b c d s
@[simp] theorem traceEvc_free (a b c d : Nat) (s : State) : (traceEvc a b c d s).free = s.free :=
  traceEvc_keeps State.free (fun _ _ => rfl) (fun _ _ => rfl) a b c d s
@[simp] theorem traceEvc_pending (a b c d : Nat) (s : State) : (traceEvc a b c d s).pending = s.pending :=
  traceEvc_keeps State.pending (fun _ _ => rfl) (fun _ _ => rfl) a b c d s

/-- Queuing a ledger entry. -/
theorem enqueue_keeps (p : State → β) (hledger : Blind State.setLedger p) (e : LedgerEntry) (s : State) :
    p (enqueue e s) = p s := by
  simp only [Blind] at *
  unfold enqueue
  dsimp only
  split
  · simp only [State.modLedger, hledger]
  · split
    · split <;> simp only [State.modLedger, hledger]
    · rfl

@[simp] theorem enqueue_time (e : LedgerEntry) (s : State) : (enqueue e s).time = s.time :=
  enqueue_keeps State.time (fun _ _ => rfl) e s
@[simp] theorem enqueue_dev (e : LedgerEntry) (s : State) : (enqueue e s).dev = s.dev :=
  enqueue_keeps State.dev (fun _ _ => rfl) e s
@[simp] theorem enqueue_evc (e : LedgerEntry) (s : State) : (enqueue e s).evc = s.evc :=
  enqueue_keeps State.evc (fun _ _ => rfl) e s
@[simp] theorem enqueue_ctr (e : LedgerEntry) (s : State) : (enqueue e s).ctr = s.ctr :=
  enqueue_keeps State.ctr (fun _ _ => rfl) e s
@[simp] theorem enqueue_wear (e : LedgerEntry) (s : State) : (enqueue e s).wear = s.wear :=
  enqueue_keeps State.wear (fun _ _ => rfl) e s
@[simp] theorem enqueue_records (e : LedgerEntry) (s : State) : (enqueue e s).records = s.records :=
  enqueue_keeps State.records (fun _ _ => rfl) e s
@[simp] theorem enqueue_teller (e : LedgerEntry) (s : State) : (enqueue e s).teller = s.teller :=
  enqueue_keeps State.teller (fun _ _ => rfl) e s
@[simp] theorem enqueue_pool (e : LedgerEntry) (s : State) : (enqueue e s).pool = s.pool :=
  enqueue_keeps State.pool (fun _ _ => rfl) e s
@[simp] theorem enqueue_home (e : LedgerEntry) (s : State) : (enqueue e s).home = s.home :=
  enqueue_keeps State.home (fun _ _ => rfl) e s
@[simp] theorem enqueue_switch (e : LedgerEntry) (s : State) : (enqueue e s).switch = s.switch :=
  enqueue_keeps State.switch (fun _ _ => rfl) e s
@[simp] theorem enqueue_ports (e : LedgerEntry) (s : State) : (enqueue e s).ports = s.ports :=
  enqueue_keeps State.ports (fun _ _ => rfl) e s
@[simp] theorem enqueue_lanes (e : LedgerEntry) (s : State) : (enqueue e s).lanes = s.lanes :=
  enqueue_keeps State.lanes (fun _ _ => rfl) e s
@[simp] theorem enqueue_trunks (e : LedgerEntry) (s : State) : (enqueue e s).trunks = s.trunks :=
  enqueue_keeps State.trunks (fun _ _ => rfl) e s
@[simp] theorem enqueue_pair (e : LedgerEntry) (s : State) : (enqueue e s).pair = s.pair :=
  enqueue_keeps State.pair (fun _ _ => rfl) e s
@[simp] theorem enqueue_barrow (e : LedgerEntry) (s : State) : (enqueue e s).barrow = s.barrow :=
  enqueue_keeps State.barrow (fun _ _ => rfl) e s
@[simp] theorem enqueue_steward (e : LedgerEntry) (s : State) : (enqueue e s).steward = s.steward :=
  enqueue_keeps State.steward (fun _ _ => rfl) e s
@[simp] theorem enqueue_dieLink (e : LedgerEntry) (s : State) : (enqueue e s).dieLink = s.dieLink :=
  enqueue_keeps State.dieLink (fun _ _ => rfl) e s
@[simp] theorem enqueue_bridge (e : LedgerEntry) (s : State) : (enqueue e s).bridge = s.bridge :=
  enqueue_keeps State.bridge (fun _ _ => rfl) e s
@[simp] theorem enqueue_power (e : LedgerEntry) (s : State) : (enqueue e s).power = s.power :=
  enqueue_keeps State.power (fun _ _ => rfl) e s
@[simp] theorem enqueue_free (e : LedgerEntry) (s : State) : (enqueue e s).free = s.free :=
  enqueue_keeps State.free (fun _ _ => rfl) e s
@[simp] theorem enqueue_pending (e : LedgerEntry) (s : State) : (enqueue e s).pending = s.pending :=
  enqueue_keeps State.pending (fun _ _ => rfl) e s

/-- Logging a fault changes the ledger only. -/
theorem logFault_keeps (p : State → β) (hledger : Blind State.setLedger p) (k b k0 k1 k2 : Nat) (v0 v1 : BitVec 64) (s : State) :
    p (logFault k b k0 k1 k2 v0 v1 s) = p s := by
  simp only [Blind] at *
  simp only [logFault, State.modLedger, enqueue_keeps p hledger, hledger]

@[simp] theorem logFault_time (k b k0 k1 k2 : Nat) (v0 v1 : BitVec 64) (s : State) : (logFault k b k0 k1 k2 v0 v1 s).time = s.time :=
  logFault_keeps State.time (fun _ _ => rfl) k b k0 k1 k2 v0 v1 s
@[simp] theorem logFault_dev (k b k0 k1 k2 : Nat) (v0 v1 : BitVec 64) (s : State) : (logFault k b k0 k1 k2 v0 v1 s).dev = s.dev :=
  logFault_keeps State.dev (fun _ _ => rfl) k b k0 k1 k2 v0 v1 s
@[simp] theorem logFault_evc (k b k0 k1 k2 : Nat) (v0 v1 : BitVec 64) (s : State) : (logFault k b k0 k1 k2 v0 v1 s).evc = s.evc :=
  logFault_keeps State.evc (fun _ _ => rfl) k b k0 k1 k2 v0 v1 s
@[simp] theorem logFault_ctr (k b k0 k1 k2 : Nat) (v0 v1 : BitVec 64) (s : State) : (logFault k b k0 k1 k2 v0 v1 s).ctr = s.ctr :=
  logFault_keeps State.ctr (fun _ _ => rfl) k b k0 k1 k2 v0 v1 s
@[simp] theorem logFault_wear (k b k0 k1 k2 : Nat) (v0 v1 : BitVec 64) (s : State) : (logFault k b k0 k1 k2 v0 v1 s).wear = s.wear :=
  logFault_keeps State.wear (fun _ _ => rfl) k b k0 k1 k2 v0 v1 s
@[simp] theorem logFault_records (k b k0 k1 k2 : Nat) (v0 v1 : BitVec 64) (s : State) : (logFault k b k0 k1 k2 v0 v1 s).records = s.records :=
  logFault_keeps State.records (fun _ _ => rfl) k b k0 k1 k2 v0 v1 s
@[simp] theorem logFault_teller (k b k0 k1 k2 : Nat) (v0 v1 : BitVec 64) (s : State) : (logFault k b k0 k1 k2 v0 v1 s).teller = s.teller :=
  logFault_keeps State.teller (fun _ _ => rfl) k b k0 k1 k2 v0 v1 s
@[simp] theorem logFault_pool (k b k0 k1 k2 : Nat) (v0 v1 : BitVec 64) (s : State) : (logFault k b k0 k1 k2 v0 v1 s).pool = s.pool :=
  logFault_keeps State.pool (fun _ _ => rfl) k b k0 k1 k2 v0 v1 s
@[simp] theorem logFault_home (k b k0 k1 k2 : Nat) (v0 v1 : BitVec 64) (s : State) : (logFault k b k0 k1 k2 v0 v1 s).home = s.home :=
  logFault_keeps State.home (fun _ _ => rfl) k b k0 k1 k2 v0 v1 s
@[simp] theorem logFault_switch (k b k0 k1 k2 : Nat) (v0 v1 : BitVec 64) (s : State) : (logFault k b k0 k1 k2 v0 v1 s).switch = s.switch :=
  logFault_keeps State.switch (fun _ _ => rfl) k b k0 k1 k2 v0 v1 s
@[simp] theorem logFault_ports (k b k0 k1 k2 : Nat) (v0 v1 : BitVec 64) (s : State) : (logFault k b k0 k1 k2 v0 v1 s).ports = s.ports :=
  logFault_keeps State.ports (fun _ _ => rfl) k b k0 k1 k2 v0 v1 s
@[simp] theorem logFault_lanes (k b k0 k1 k2 : Nat) (v0 v1 : BitVec 64) (s : State) : (logFault k b k0 k1 k2 v0 v1 s).lanes = s.lanes :=
  logFault_keeps State.lanes (fun _ _ => rfl) k b k0 k1 k2 v0 v1 s
@[simp] theorem logFault_trunks (k b k0 k1 k2 : Nat) (v0 v1 : BitVec 64) (s : State) : (logFault k b k0 k1 k2 v0 v1 s).trunks = s.trunks :=
  logFault_keeps State.trunks (fun _ _ => rfl) k b k0 k1 k2 v0 v1 s
@[simp] theorem logFault_pair (k b k0 k1 k2 : Nat) (v0 v1 : BitVec 64) (s : State) : (logFault k b k0 k1 k2 v0 v1 s).pair = s.pair :=
  logFault_keeps State.pair (fun _ _ => rfl) k b k0 k1 k2 v0 v1 s
@[simp] theorem logFault_barrow (k b k0 k1 k2 : Nat) (v0 v1 : BitVec 64) (s : State) : (logFault k b k0 k1 k2 v0 v1 s).barrow = s.barrow :=
  logFault_keeps State.barrow (fun _ _ => rfl) k b k0 k1 k2 v0 v1 s
@[simp] theorem logFault_steward (k b k0 k1 k2 : Nat) (v0 v1 : BitVec 64) (s : State) : (logFault k b k0 k1 k2 v0 v1 s).steward = s.steward :=
  logFault_keeps State.steward (fun _ _ => rfl) k b k0 k1 k2 v0 v1 s
@[simp] theorem logFault_dieLink (k b k0 k1 k2 : Nat) (v0 v1 : BitVec 64) (s : State) : (logFault k b k0 k1 k2 v0 v1 s).dieLink = s.dieLink :=
  logFault_keeps State.dieLink (fun _ _ => rfl) k b k0 k1 k2 v0 v1 s
@[simp] theorem logFault_bridge (k b k0 k1 k2 : Nat) (v0 v1 : BitVec 64) (s : State) : (logFault k b k0 k1 k2 v0 v1 s).bridge = s.bridge :=
  logFault_keeps State.bridge (fun _ _ => rfl) k b k0 k1 k2 v0 v1 s
@[simp] theorem logFault_power (k b k0 k1 k2 : Nat) (v0 v1 : BitVec 64) (s : State) : (logFault k b k0 k1 k2 v0 v1 s).power = s.power :=
  logFault_keeps State.power (fun _ _ => rfl) k b k0 k1 k2 v0 v1 s
@[simp] theorem logFault_free (k b k0 k1 k2 : Nat) (v0 v1 : BitVec 64) (s : State) : (logFault k b k0 k1 k2 v0 v1 s).free = s.free :=
  logFault_keeps State.free (fun _ _ => rfl) k b k0 k1 k2 v0 v1 s
@[simp] theorem logFault_pending (k b k0 k1 k2 : Nat) (v0 v1 : BitVec 64) (s : State) : (logFault k b k0 k1 k2 v0 v1 s).pending = s.pending :=
  logFault_keeps State.pending (fun _ _ => rfl) k b k0 k1 k2 v0 v1 s

/-- Logging a fault of a given severity. -/
theorem logFaultSev_keeps (p : State → β) (hledger : Blind State.setLedger p) (v k b k0 k1 k2 : Nat) (v0 v1 : BitVec 64) (s : State) :
    p (logFaultSev v k b k0 k1 k2 v0 v1 s) = p s := by
  simp only [Blind] at *
  simp only [logFaultSev, State.modLedger, enqueue_keeps p hledger, hledger]

@[simp] theorem logFaultSev_time (v k b k0 k1 k2 : Nat) (v0 v1 : BitVec 64) (s : State) : (logFaultSev v k b k0 k1 k2 v0 v1 s).time = s.time :=
  logFaultSev_keeps State.time (fun _ _ => rfl) v k b k0 k1 k2 v0 v1 s
@[simp] theorem logFaultSev_dev (v k b k0 k1 k2 : Nat) (v0 v1 : BitVec 64) (s : State) : (logFaultSev v k b k0 k1 k2 v0 v1 s).dev = s.dev :=
  logFaultSev_keeps State.dev (fun _ _ => rfl) v k b k0 k1 k2 v0 v1 s
@[simp] theorem logFaultSev_evc (v k b k0 k1 k2 : Nat) (v0 v1 : BitVec 64) (s : State) : (logFaultSev v k b k0 k1 k2 v0 v1 s).evc = s.evc :=
  logFaultSev_keeps State.evc (fun _ _ => rfl) v k b k0 k1 k2 v0 v1 s
@[simp] theorem logFaultSev_ctr (v k b k0 k1 k2 : Nat) (v0 v1 : BitVec 64) (s : State) : (logFaultSev v k b k0 k1 k2 v0 v1 s).ctr = s.ctr :=
  logFaultSev_keeps State.ctr (fun _ _ => rfl) v k b k0 k1 k2 v0 v1 s
@[simp] theorem logFaultSev_wear (v k b k0 k1 k2 : Nat) (v0 v1 : BitVec 64) (s : State) : (logFaultSev v k b k0 k1 k2 v0 v1 s).wear = s.wear :=
  logFaultSev_keeps State.wear (fun _ _ => rfl) v k b k0 k1 k2 v0 v1 s
@[simp] theorem logFaultSev_records (v k b k0 k1 k2 : Nat) (v0 v1 : BitVec 64) (s : State) : (logFaultSev v k b k0 k1 k2 v0 v1 s).records = s.records :=
  logFaultSev_keeps State.records (fun _ _ => rfl) v k b k0 k1 k2 v0 v1 s
@[simp] theorem logFaultSev_teller (v k b k0 k1 k2 : Nat) (v0 v1 : BitVec 64) (s : State) : (logFaultSev v k b k0 k1 k2 v0 v1 s).teller = s.teller :=
  logFaultSev_keeps State.teller (fun _ _ => rfl) v k b k0 k1 k2 v0 v1 s
@[simp] theorem logFaultSev_pool (v k b k0 k1 k2 : Nat) (v0 v1 : BitVec 64) (s : State) : (logFaultSev v k b k0 k1 k2 v0 v1 s).pool = s.pool :=
  logFaultSev_keeps State.pool (fun _ _ => rfl) v k b k0 k1 k2 v0 v1 s
@[simp] theorem logFaultSev_home (v k b k0 k1 k2 : Nat) (v0 v1 : BitVec 64) (s : State) : (logFaultSev v k b k0 k1 k2 v0 v1 s).home = s.home :=
  logFaultSev_keeps State.home (fun _ _ => rfl) v k b k0 k1 k2 v0 v1 s
@[simp] theorem logFaultSev_switch (v k b k0 k1 k2 : Nat) (v0 v1 : BitVec 64) (s : State) : (logFaultSev v k b k0 k1 k2 v0 v1 s).switch = s.switch :=
  logFaultSev_keeps State.switch (fun _ _ => rfl) v k b k0 k1 k2 v0 v1 s
@[simp] theorem logFaultSev_ports (v k b k0 k1 k2 : Nat) (v0 v1 : BitVec 64) (s : State) : (logFaultSev v k b k0 k1 k2 v0 v1 s).ports = s.ports :=
  logFaultSev_keeps State.ports (fun _ _ => rfl) v k b k0 k1 k2 v0 v1 s
@[simp] theorem logFaultSev_lanes (v k b k0 k1 k2 : Nat) (v0 v1 : BitVec 64) (s : State) : (logFaultSev v k b k0 k1 k2 v0 v1 s).lanes = s.lanes :=
  logFaultSev_keeps State.lanes (fun _ _ => rfl) v k b k0 k1 k2 v0 v1 s
@[simp] theorem logFaultSev_trunks (v k b k0 k1 k2 : Nat) (v0 v1 : BitVec 64) (s : State) : (logFaultSev v k b k0 k1 k2 v0 v1 s).trunks = s.trunks :=
  logFaultSev_keeps State.trunks (fun _ _ => rfl) v k b k0 k1 k2 v0 v1 s
@[simp] theorem logFaultSev_pair (v k b k0 k1 k2 : Nat) (v0 v1 : BitVec 64) (s : State) : (logFaultSev v k b k0 k1 k2 v0 v1 s).pair = s.pair :=
  logFaultSev_keeps State.pair (fun _ _ => rfl) v k b k0 k1 k2 v0 v1 s
@[simp] theorem logFaultSev_barrow (v k b k0 k1 k2 : Nat) (v0 v1 : BitVec 64) (s : State) : (logFaultSev v k b k0 k1 k2 v0 v1 s).barrow = s.barrow :=
  logFaultSev_keeps State.barrow (fun _ _ => rfl) v k b k0 k1 k2 v0 v1 s
@[simp] theorem logFaultSev_steward (v k b k0 k1 k2 : Nat) (v0 v1 : BitVec 64) (s : State) : (logFaultSev v k b k0 k1 k2 v0 v1 s).steward = s.steward :=
  logFaultSev_keeps State.steward (fun _ _ => rfl) v k b k0 k1 k2 v0 v1 s
@[simp] theorem logFaultSev_dieLink (v k b k0 k1 k2 : Nat) (v0 v1 : BitVec 64) (s : State) : (logFaultSev v k b k0 k1 k2 v0 v1 s).dieLink = s.dieLink :=
  logFaultSev_keeps State.dieLink (fun _ _ => rfl) v k b k0 k1 k2 v0 v1 s
@[simp] theorem logFaultSev_bridge (v k b k0 k1 k2 : Nat) (v0 v1 : BitVec 64) (s : State) : (logFaultSev v k b k0 k1 k2 v0 v1 s).bridge = s.bridge :=
  logFaultSev_keeps State.bridge (fun _ _ => rfl) v k b k0 k1 k2 v0 v1 s
@[simp] theorem logFaultSev_power (v k b k0 k1 k2 : Nat) (v0 v1 : BitVec 64) (s : State) : (logFaultSev v k b k0 k1 k2 v0 v1 s).power = s.power :=
  logFaultSev_keeps State.power (fun _ _ => rfl) v k b k0 k1 k2 v0 v1 s
@[simp] theorem logFaultSev_free (v k b k0 k1 k2 : Nat) (v0 v1 : BitVec 64) (s : State) : (logFaultSev v k b k0 k1 k2 v0 v1 s).free = s.free :=
  logFaultSev_keeps State.free (fun _ _ => rfl) v k b k0 k1 k2 v0 v1 s
@[simp] theorem logFaultSev_pending (v k b k0 k1 k2 : Nat) (v0 v1 : BitVec 64) (s : State) : (logFaultSev v k b k0 k1 k2 v0 v1 s).pending = s.pending :=
  logFaultSev_keeps State.pending (fun _ _ => rfl) v k b k0 k1 k2 v0 v1 s

/-- Logging a BAD_ACCESS. -/
theorem logBadAccess_keeps (p : State → β) (hledger : Blind State.setLedger p) (b k0 o q : Nat) (v : BitVec 64) (s : State) :
    p (logBadAccess b k0 o q v s) = p s := by
  simp only [Blind] at *
  unfold logBadAccess
  split
  · simp only [State.modLedger, logFault_keeps p hledger, hledger]
  · split <;> simp only [State.modLedger, logFault_keeps p hledger, hledger]

@[simp] theorem logBadAccess_time (b k0 o q : Nat) (v : BitVec 64) (s : State) : (logBadAccess b k0 o q v s).time = s.time :=
  logBadAccess_keeps State.time (fun _ _ => rfl) b k0 o q v s
@[simp] theorem logBadAccess_dev (b k0 o q : Nat) (v : BitVec 64) (s : State) : (logBadAccess b k0 o q v s).dev = s.dev :=
  logBadAccess_keeps State.dev (fun _ _ => rfl) b k0 o q v s
@[simp] theorem logBadAccess_evc (b k0 o q : Nat) (v : BitVec 64) (s : State) : (logBadAccess b k0 o q v s).evc = s.evc :=
  logBadAccess_keeps State.evc (fun _ _ => rfl) b k0 o q v s
@[simp] theorem logBadAccess_ctr (b k0 o q : Nat) (v : BitVec 64) (s : State) : (logBadAccess b k0 o q v s).ctr = s.ctr :=
  logBadAccess_keeps State.ctr (fun _ _ => rfl) b k0 o q v s
@[simp] theorem logBadAccess_wear (b k0 o q : Nat) (v : BitVec 64) (s : State) : (logBadAccess b k0 o q v s).wear = s.wear :=
  logBadAccess_keeps State.wear (fun _ _ => rfl) b k0 o q v s
@[simp] theorem logBadAccess_records (b k0 o q : Nat) (v : BitVec 64) (s : State) : (logBadAccess b k0 o q v s).records = s.records :=
  logBadAccess_keeps State.records (fun _ _ => rfl) b k0 o q v s
@[simp] theorem logBadAccess_teller (b k0 o q : Nat) (v : BitVec 64) (s : State) : (logBadAccess b k0 o q v s).teller = s.teller :=
  logBadAccess_keeps State.teller (fun _ _ => rfl) b k0 o q v s
@[simp] theorem logBadAccess_pool (b k0 o q : Nat) (v : BitVec 64) (s : State) : (logBadAccess b k0 o q v s).pool = s.pool :=
  logBadAccess_keeps State.pool (fun _ _ => rfl) b k0 o q v s
@[simp] theorem logBadAccess_home (b k0 o q : Nat) (v : BitVec 64) (s : State) : (logBadAccess b k0 o q v s).home = s.home :=
  logBadAccess_keeps State.home (fun _ _ => rfl) b k0 o q v s
@[simp] theorem logBadAccess_switch (b k0 o q : Nat) (v : BitVec 64) (s : State) : (logBadAccess b k0 o q v s).switch = s.switch :=
  logBadAccess_keeps State.switch (fun _ _ => rfl) b k0 o q v s
@[simp] theorem logBadAccess_ports (b k0 o q : Nat) (v : BitVec 64) (s : State) : (logBadAccess b k0 o q v s).ports = s.ports :=
  logBadAccess_keeps State.ports (fun _ _ => rfl) b k0 o q v s
@[simp] theorem logBadAccess_lanes (b k0 o q : Nat) (v : BitVec 64) (s : State) : (logBadAccess b k0 o q v s).lanes = s.lanes :=
  logBadAccess_keeps State.lanes (fun _ _ => rfl) b k0 o q v s
@[simp] theorem logBadAccess_trunks (b k0 o q : Nat) (v : BitVec 64) (s : State) : (logBadAccess b k0 o q v s).trunks = s.trunks :=
  logBadAccess_keeps State.trunks (fun _ _ => rfl) b k0 o q v s
@[simp] theorem logBadAccess_pair (b k0 o q : Nat) (v : BitVec 64) (s : State) : (logBadAccess b k0 o q v s).pair = s.pair :=
  logBadAccess_keeps State.pair (fun _ _ => rfl) b k0 o q v s
@[simp] theorem logBadAccess_barrow (b k0 o q : Nat) (v : BitVec 64) (s : State) : (logBadAccess b k0 o q v s).barrow = s.barrow :=
  logBadAccess_keeps State.barrow (fun _ _ => rfl) b k0 o q v s
@[simp] theorem logBadAccess_steward (b k0 o q : Nat) (v : BitVec 64) (s : State) : (logBadAccess b k0 o q v s).steward = s.steward :=
  logBadAccess_keeps State.steward (fun _ _ => rfl) b k0 o q v s
@[simp] theorem logBadAccess_dieLink (b k0 o q : Nat) (v : BitVec 64) (s : State) : (logBadAccess b k0 o q v s).dieLink = s.dieLink :=
  logBadAccess_keeps State.dieLink (fun _ _ => rfl) b k0 o q v s
@[simp] theorem logBadAccess_bridge (b k0 o q : Nat) (v : BitVec 64) (s : State) : (logBadAccess b k0 o q v s).bridge = s.bridge :=
  logBadAccess_keeps State.bridge (fun _ _ => rfl) b k0 o q v s
@[simp] theorem logBadAccess_power (b k0 o q : Nat) (v : BitVec 64) (s : State) : (logBadAccess b k0 o q v s).power = s.power :=
  logBadAccess_keeps State.power (fun _ _ => rfl) b k0 o q v s
@[simp] theorem logBadAccess_free (b k0 o q : Nat) (v : BitVec 64) (s : State) : (logBadAccess b k0 o q v s).free = s.free :=
  logBadAccess_keeps State.free (fun _ _ => rfl) b k0 o q v s
@[simp] theorem logBadAccess_pending (b k0 o q : Nat) (v : BitVec 64) (s : State) : (logBadAccess b k0 o q v s).pending = s.pending :=
  logBadAccess_keeps State.pending (fun _ _ => rfl) b k0 o q v s

/-- Raising the event of a plot. -/
theorem plotEvent_keeps (p : State → β) (hevc : Blind State.setEvc p) (hctr : Blind State.setCtr p) (q : Nat) (s : State) :
    p (plotEvent q s) = p s := by
  simp only [Blind] at *
  simp only [plotEvent, State.modEvc, State.modCtr, raise_keeps p hevc hctr, hevc, hctr]

@[simp] theorem plotEvent_time (q : Nat) (s : State) : (plotEvent q s).time = s.time :=
  plotEvent_keeps State.time (fun _ _ => rfl) (fun _ _ => rfl) q s
@[simp] theorem plotEvent_dev (q : Nat) (s : State) : (plotEvent q s).dev = s.dev :=
  plotEvent_keeps State.dev (fun _ _ => rfl) (fun _ _ => rfl) q s
@[simp] theorem plotEvent_ledger (q : Nat) (s : State) : (plotEvent q s).ledger = s.ledger :=
  plotEvent_keeps State.ledger (fun _ _ => rfl) (fun _ _ => rfl) q s
@[simp] theorem plotEvent_wear (q : Nat) (s : State) : (plotEvent q s).wear = s.wear :=
  plotEvent_keeps State.wear (fun _ _ => rfl) (fun _ _ => rfl) q s
@[simp] theorem plotEvent_records (q : Nat) (s : State) : (plotEvent q s).records = s.records :=
  plotEvent_keeps State.records (fun _ _ => rfl) (fun _ _ => rfl) q s
@[simp] theorem plotEvent_teller (q : Nat) (s : State) : (plotEvent q s).teller = s.teller :=
  plotEvent_keeps State.teller (fun _ _ => rfl) (fun _ _ => rfl) q s
@[simp] theorem plotEvent_pool (q : Nat) (s : State) : (plotEvent q s).pool = s.pool :=
  plotEvent_keeps State.pool (fun _ _ => rfl) (fun _ _ => rfl) q s
@[simp] theorem plotEvent_home (q : Nat) (s : State) : (plotEvent q s).home = s.home :=
  plotEvent_keeps State.home (fun _ _ => rfl) (fun _ _ => rfl) q s
@[simp] theorem plotEvent_switch (q : Nat) (s : State) : (plotEvent q s).switch = s.switch :=
  plotEvent_keeps State.switch (fun _ _ => rfl) (fun _ _ => rfl) q s
@[simp] theorem plotEvent_ports (q : Nat) (s : State) : (plotEvent q s).ports = s.ports :=
  plotEvent_keeps State.ports (fun _ _ => rfl) (fun _ _ => rfl) q s
@[simp] theorem plotEvent_lanes (q : Nat) (s : State) : (plotEvent q s).lanes = s.lanes :=
  plotEvent_keeps State.lanes (fun _ _ => rfl) (fun _ _ => rfl) q s
@[simp] theorem plotEvent_trunks (q : Nat) (s : State) : (plotEvent q s).trunks = s.trunks :=
  plotEvent_keeps State.trunks (fun _ _ => rfl) (fun _ _ => rfl) q s
@[simp] theorem plotEvent_pair (q : Nat) (s : State) : (plotEvent q s).pair = s.pair :=
  plotEvent_keeps State.pair (fun _ _ => rfl) (fun _ _ => rfl) q s
@[simp] theorem plotEvent_barrow (q : Nat) (s : State) : (plotEvent q s).barrow = s.barrow :=
  plotEvent_keeps State.barrow (fun _ _ => rfl) (fun _ _ => rfl) q s
@[simp] theorem plotEvent_steward (q : Nat) (s : State) : (plotEvent q s).steward = s.steward :=
  plotEvent_keeps State.steward (fun _ _ => rfl) (fun _ _ => rfl) q s
@[simp] theorem plotEvent_dieLink (q : Nat) (s : State) : (plotEvent q s).dieLink = s.dieLink :=
  plotEvent_keeps State.dieLink (fun _ _ => rfl) (fun _ _ => rfl) q s
@[simp] theorem plotEvent_bridge (q : Nat) (s : State) : (plotEvent q s).bridge = s.bridge :=
  plotEvent_keeps State.bridge (fun _ _ => rfl) (fun _ _ => rfl) q s
@[simp] theorem plotEvent_power (q : Nat) (s : State) : (plotEvent q s).power = s.power :=
  plotEvent_keeps State.power (fun _ _ => rfl) (fun _ _ => rfl) q s
@[simp] theorem plotEvent_free (q : Nat) (s : State) : (plotEvent q s).free = s.free :=
  plotEvent_keeps State.free (fun _ _ => rfl) (fun _ _ => rfl) q s
@[simp] theorem plotEvent_pending (q : Nat) (s : State) : (plotEvent q s).pending = s.pending :=
  plotEvent_keeps State.pending (fun _ _ => rfl) (fun _ _ => rfl) q s

/-- Raising the event of a port. -/
theorem portEvent_keeps (p : State → β) (hevc : Blind State.setEvc p) (hctr : Blind State.setCtr p) (q : Nat) (s : State) :
    p (portEvent q s) = p s := by
  simp only [Blind] at *
  simp only [portEvent, State.modEvc, State.modCtr, raise_keeps p hevc hctr, hevc, hctr]

@[simp] theorem portEvent_time (q : Nat) (s : State) : (portEvent q s).time = s.time :=
  portEvent_keeps State.time (fun _ _ => rfl) (fun _ _ => rfl) q s
@[simp] theorem portEvent_dev (q : Nat) (s : State) : (portEvent q s).dev = s.dev :=
  portEvent_keeps State.dev (fun _ _ => rfl) (fun _ _ => rfl) q s
@[simp] theorem portEvent_ledger (q : Nat) (s : State) : (portEvent q s).ledger = s.ledger :=
  portEvent_keeps State.ledger (fun _ _ => rfl) (fun _ _ => rfl) q s
@[simp] theorem portEvent_wear (q : Nat) (s : State) : (portEvent q s).wear = s.wear :=
  portEvent_keeps State.wear (fun _ _ => rfl) (fun _ _ => rfl) q s
@[simp] theorem portEvent_records (q : Nat) (s : State) : (portEvent q s).records = s.records :=
  portEvent_keeps State.records (fun _ _ => rfl) (fun _ _ => rfl) q s
@[simp] theorem portEvent_teller (q : Nat) (s : State) : (portEvent q s).teller = s.teller :=
  portEvent_keeps State.teller (fun _ _ => rfl) (fun _ _ => rfl) q s
@[simp] theorem portEvent_pool (q : Nat) (s : State) : (portEvent q s).pool = s.pool :=
  portEvent_keeps State.pool (fun _ _ => rfl) (fun _ _ => rfl) q s
@[simp] theorem portEvent_home (q : Nat) (s : State) : (portEvent q s).home = s.home :=
  portEvent_keeps State.home (fun _ _ => rfl) (fun _ _ => rfl) q s
@[simp] theorem portEvent_switch (q : Nat) (s : State) : (portEvent q s).switch = s.switch :=
  portEvent_keeps State.switch (fun _ _ => rfl) (fun _ _ => rfl) q s
@[simp] theorem portEvent_ports (q : Nat) (s : State) : (portEvent q s).ports = s.ports :=
  portEvent_keeps State.ports (fun _ _ => rfl) (fun _ _ => rfl) q s
@[simp] theorem portEvent_lanes (q : Nat) (s : State) : (portEvent q s).lanes = s.lanes :=
  portEvent_keeps State.lanes (fun _ _ => rfl) (fun _ _ => rfl) q s
@[simp] theorem portEvent_trunks (q : Nat) (s : State) : (portEvent q s).trunks = s.trunks :=
  portEvent_keeps State.trunks (fun _ _ => rfl) (fun _ _ => rfl) q s
@[simp] theorem portEvent_pair (q : Nat) (s : State) : (portEvent q s).pair = s.pair :=
  portEvent_keeps State.pair (fun _ _ => rfl) (fun _ _ => rfl) q s
@[simp] theorem portEvent_barrow (q : Nat) (s : State) : (portEvent q s).barrow = s.barrow :=
  portEvent_keeps State.barrow (fun _ _ => rfl) (fun _ _ => rfl) q s
@[simp] theorem portEvent_steward (q : Nat) (s : State) : (portEvent q s).steward = s.steward :=
  portEvent_keeps State.steward (fun _ _ => rfl) (fun _ _ => rfl) q s
@[simp] theorem portEvent_dieLink (q : Nat) (s : State) : (portEvent q s).dieLink = s.dieLink :=
  portEvent_keeps State.dieLink (fun _ _ => rfl) (fun _ _ => rfl) q s
@[simp] theorem portEvent_bridge (q : Nat) (s : State) : (portEvent q s).bridge = s.bridge :=
  portEvent_keeps State.bridge (fun _ _ => rfl) (fun _ _ => rfl) q s
@[simp] theorem portEvent_power (q : Nat) (s : State) : (portEvent q s).power = s.power :=
  portEvent_keeps State.power (fun _ _ => rfl) (fun _ _ => rfl) q s
@[simp] theorem portEvent_free (q : Nat) (s : State) : (portEvent q s).free = s.free :=
  portEvent_keeps State.free (fun _ _ => rfl) (fun _ _ => rfl) q s
@[simp] theorem portEvent_pending (q : Nat) (s : State) : (portEvent q s).pending = s.pending :=
  portEvent_keeps State.pending (fun _ _ => rfl) (fun _ _ => rfl) q s

/-- Recording a BAD_ACCESS. -/
theorem badAccess_keeps (p : State → β) (hledger : Blind State.setLedger p) (hevc : Blind State.setEvc p) (hctr : Blind State.setCtr p) (b : Nat) (q : Option Nat) (x o a : Nat) (s : State) :
    p (badAccess b q x o a s) = p s := by
  simp only [Blind] at *
  unfold badAccess
  cases q <;> simp only [State.modLedger, State.modEvc, State.modCtr, plotCount_keeps p hevc hctr, plotEvent_keeps p hevc hctr, portEvent_keeps p hevc hctr, logBadAccess_keeps p hledger, hledger, hevc, hctr]

@[simp] theorem badAccess_time (b : Nat) (q : Option Nat) (x o a : Nat) (s : State) : (badAccess b q x o a s).time = s.time :=
  badAccess_keeps State.time (fun _ _ => rfl) (fun _ _ => rfl) (fun _ _ => rfl) b q x o a s
@[simp] theorem badAccess_dev (b : Nat) (q : Option Nat) (x o a : Nat) (s : State) : (badAccess b q x o a s).dev = s.dev :=
  badAccess_keeps State.dev (fun _ _ => rfl) (fun _ _ => rfl) (fun _ _ => rfl) b q x o a s
@[simp] theorem badAccess_wear (b : Nat) (q : Option Nat) (x o a : Nat) (s : State) : (badAccess b q x o a s).wear = s.wear :=
  badAccess_keeps State.wear (fun _ _ => rfl) (fun _ _ => rfl) (fun _ _ => rfl) b q x o a s
@[simp] theorem badAccess_records (b : Nat) (q : Option Nat) (x o a : Nat) (s : State) : (badAccess b q x o a s).records = s.records :=
  badAccess_keeps State.records (fun _ _ => rfl) (fun _ _ => rfl) (fun _ _ => rfl) b q x o a s
@[simp] theorem badAccess_teller (b : Nat) (q : Option Nat) (x o a : Nat) (s : State) : (badAccess b q x o a s).teller = s.teller :=
  badAccess_keeps State.teller (fun _ _ => rfl) (fun _ _ => rfl) (fun _ _ => rfl) b q x o a s
@[simp] theorem badAccess_pool (b : Nat) (q : Option Nat) (x o a : Nat) (s : State) : (badAccess b q x o a s).pool = s.pool :=
  badAccess_keeps State.pool (fun _ _ => rfl) (fun _ _ => rfl) (fun _ _ => rfl) b q x o a s
@[simp] theorem badAccess_home (b : Nat) (q : Option Nat) (x o a : Nat) (s : State) : (badAccess b q x o a s).home = s.home :=
  badAccess_keeps State.home (fun _ _ => rfl) (fun _ _ => rfl) (fun _ _ => rfl) b q x o a s
@[simp] theorem badAccess_switch (b : Nat) (q : Option Nat) (x o a : Nat) (s : State) : (badAccess b q x o a s).switch = s.switch :=
  badAccess_keeps State.switch (fun _ _ => rfl) (fun _ _ => rfl) (fun _ _ => rfl) b q x o a s
@[simp] theorem badAccess_ports (b : Nat) (q : Option Nat) (x o a : Nat) (s : State) : (badAccess b q x o a s).ports = s.ports :=
  badAccess_keeps State.ports (fun _ _ => rfl) (fun _ _ => rfl) (fun _ _ => rfl) b q x o a s
@[simp] theorem badAccess_lanes (b : Nat) (q : Option Nat) (x o a : Nat) (s : State) : (badAccess b q x o a s).lanes = s.lanes :=
  badAccess_keeps State.lanes (fun _ _ => rfl) (fun _ _ => rfl) (fun _ _ => rfl) b q x o a s
@[simp] theorem badAccess_trunks (b : Nat) (q : Option Nat) (x o a : Nat) (s : State) : (badAccess b q x o a s).trunks = s.trunks :=
  badAccess_keeps State.trunks (fun _ _ => rfl) (fun _ _ => rfl) (fun _ _ => rfl) b q x o a s
@[simp] theorem badAccess_pair (b : Nat) (q : Option Nat) (x o a : Nat) (s : State) : (badAccess b q x o a s).pair = s.pair :=
  badAccess_keeps State.pair (fun _ _ => rfl) (fun _ _ => rfl) (fun _ _ => rfl) b q x o a s
@[simp] theorem badAccess_barrow (b : Nat) (q : Option Nat) (x o a : Nat) (s : State) : (badAccess b q x o a s).barrow = s.barrow :=
  badAccess_keeps State.barrow (fun _ _ => rfl) (fun _ _ => rfl) (fun _ _ => rfl) b q x o a s
@[simp] theorem badAccess_steward (b : Nat) (q : Option Nat) (x o a : Nat) (s : State) : (badAccess b q x o a s).steward = s.steward :=
  badAccess_keeps State.steward (fun _ _ => rfl) (fun _ _ => rfl) (fun _ _ => rfl) b q x o a s
@[simp] theorem badAccess_dieLink (b : Nat) (q : Option Nat) (x o a : Nat) (s : State) : (badAccess b q x o a s).dieLink = s.dieLink :=
  badAccess_keeps State.dieLink (fun _ _ => rfl) (fun _ _ => rfl) (fun _ _ => rfl) b q x o a s
@[simp] theorem badAccess_bridge (b : Nat) (q : Option Nat) (x o a : Nat) (s : State) : (badAccess b q x o a s).bridge = s.bridge :=
  badAccess_keeps State.bridge (fun _ _ => rfl) (fun _ _ => rfl) (fun _ _ => rfl) b q x o a s
@[simp] theorem badAccess_power (b : Nat) (q : Option Nat) (x o a : Nat) (s : State) : (badAccess b q x o a s).power = s.power :=
  badAccess_keeps State.power (fun _ _ => rfl) (fun _ _ => rfl) (fun _ _ => rfl) b q x o a s
@[simp] theorem badAccess_free (b : Nat) (q : Option Nat) (x o a : Nat) (s : State) : (badAccess b q x o a s).free = s.free :=
  badAccess_keeps State.free (fun _ _ => rfl) (fun _ _ => rfl) (fun _ _ => rfl) b q x o a s
@[simp] theorem badAccess_pending (b : Nat) (q : Option Nat) (x o a : Nat) (s : State) : (badAccess b q x o a s).pending = s.pending :=
  badAccess_keeps State.pending (fun _ _ => rfl) (fun _ _ => rfl) (fun _ _ => rfl) b q x o a s

/-- A cell enters its queue, or waits for room there. -/
theorem enterQueue_keeps (p : State → β) (hswitch : Blind State.setSwitch p) (hevc : Blind State.setEvc p) (hctr : Blind State.setCtr p) (c : SwCell) (s : State) :
    p (enterQueue c s) = p s := by
  simp only [Blind] at *
  unfold enterQueue
  dsimp only
  repeat' split
  all_goals simp only [State.modSwitch, count_keeps p hevc hctr, hswitch]

/-- A cell of a flit joins its queue: only the switch core, the event controller and the counters change. -/
theorem enqueueAs_keeps (p : State → β) (hswitch : Blind State.setSwitch p) (hevc : Blind State.setEvc p) (hctr : Blind State.setCtr p) (tag : BitVec 12) (known : Bool) (c : SwCell) (s : State) :
    p (enqueueAs tag known c s) = p s := by
  simp only [Blind] at *
  unfold enqueueAs enqueueNew
  dsimp only
  repeat' split
  all_goals simp only [State.modSwitch, enterQueue_keeps p hswitch hevc hctr, hswitch]

/-- Putting a cell into its queue changes the switch core, the event controller and the counters only. -/
theorem enqueueCell_keeps (p : State → β) (hswitch : Blind State.setSwitch p) (hevc : Blind State.setEvc p) (hctr : Blind State.setCtr p) (c : SwCell) (s : State) :
    p (enqueueCell c s) = p s := by
  simp only [Blind] at *
  exact enqueueAs_keeps p hswitch hevc hctr _ _ _ _

@[simp] theorem enqueueCell_time (c : SwCell) (s : State) : (enqueueCell c s).time = s.time :=
  enqueueCell_keeps State.time (fun _ _ => rfl) (fun _ _ => rfl) (fun _ _ => rfl) c s
@[simp] theorem enqueueCell_dev (c : SwCell) (s : State) : (enqueueCell c s).dev = s.dev :=
  enqueueCell_keeps State.dev (fun _ _ => rfl) (fun _ _ => rfl) (fun _ _ => rfl) c s
@[simp] theorem enqueueCell_ledger (c : SwCell) (s : State) : (enqueueCell c s).ledger = s.ledger :=
  enqueueCell_keeps State.ledger (fun _ _ => rfl) (fun _ _ => rfl) (fun _ _ => rfl) c s
@[simp] theorem enqueueCell_wear (c : SwCell) (s : State) : (enqueueCell c s).wear = s.wear :=
  enqueueCell_keeps State.wear (fun _ _ => rfl) (fun _ _ => rfl) (fun _ _ => rfl) c s
@[simp] theorem enqueueCell_records (c : SwCell) (s : State) : (enqueueCell c s).records = s.records :=
  enqueueCell_keeps State.records (fun _ _ => rfl) (fun _ _ => rfl) (fun _ _ => rfl) c s
@[simp] theorem enqueueCell_teller (c : SwCell) (s : State) : (enqueueCell c s).teller = s.teller :=
  enqueueCell_keeps State.teller (fun _ _ => rfl) (fun _ _ => rfl) (fun _ _ => rfl) c s
@[simp] theorem enqueueCell_pool (c : SwCell) (s : State) : (enqueueCell c s).pool = s.pool :=
  enqueueCell_keeps State.pool (fun _ _ => rfl) (fun _ _ => rfl) (fun _ _ => rfl) c s
@[simp] theorem enqueueCell_home (c : SwCell) (s : State) : (enqueueCell c s).home = s.home :=
  enqueueCell_keeps State.home (fun _ _ => rfl) (fun _ _ => rfl) (fun _ _ => rfl) c s
@[simp] theorem enqueueCell_ports (c : SwCell) (s : State) : (enqueueCell c s).ports = s.ports :=
  enqueueCell_keeps State.ports (fun _ _ => rfl) (fun _ _ => rfl) (fun _ _ => rfl) c s
@[simp] theorem enqueueCell_lanes (c : SwCell) (s : State) : (enqueueCell c s).lanes = s.lanes :=
  enqueueCell_keeps State.lanes (fun _ _ => rfl) (fun _ _ => rfl) (fun _ _ => rfl) c s
@[simp] theorem enqueueCell_trunks (c : SwCell) (s : State) : (enqueueCell c s).trunks = s.trunks :=
  enqueueCell_keeps State.trunks (fun _ _ => rfl) (fun _ _ => rfl) (fun _ _ => rfl) c s
@[simp] theorem enqueueCell_pair (c : SwCell) (s : State) : (enqueueCell c s).pair = s.pair :=
  enqueueCell_keeps State.pair (fun _ _ => rfl) (fun _ _ => rfl) (fun _ _ => rfl) c s
@[simp] theorem enqueueCell_barrow (c : SwCell) (s : State) : (enqueueCell c s).barrow = s.barrow :=
  enqueueCell_keeps State.barrow (fun _ _ => rfl) (fun _ _ => rfl) (fun _ _ => rfl) c s
@[simp] theorem enqueueCell_steward (c : SwCell) (s : State) : (enqueueCell c s).steward = s.steward :=
  enqueueCell_keeps State.steward (fun _ _ => rfl) (fun _ _ => rfl) (fun _ _ => rfl) c s
@[simp] theorem enqueueCell_dieLink (c : SwCell) (s : State) : (enqueueCell c s).dieLink = s.dieLink :=
  enqueueCell_keeps State.dieLink (fun _ _ => rfl) (fun _ _ => rfl) (fun _ _ => rfl) c s
@[simp] theorem enqueueCell_bridge (c : SwCell) (s : State) : (enqueueCell c s).bridge = s.bridge :=
  enqueueCell_keeps State.bridge (fun _ _ => rfl) (fun _ _ => rfl) (fun _ _ => rfl) c s
@[simp] theorem enqueueCell_power (c : SwCell) (s : State) : (enqueueCell c s).power = s.power :=
  enqueueCell_keeps State.power (fun _ _ => rfl) (fun _ _ => rfl) (fun _ _ => rfl) c s
@[simp] theorem enqueueCell_free (c : SwCell) (s : State) : (enqueueCell c s).free = s.free :=
  enqueueCell_keeps State.free (fun _ _ => rfl) (fun _ _ => rfl) (fun _ _ => rfl) c s
@[simp] theorem enqueueCell_pending (c : SwCell) (s : State) : (enqueueCell c s).pending = s.pending :=
  enqueueCell_keeps State.pending (fun _ _ => rfl) (fun _ _ => rfl) (fun _ _ => rfl) c s

/-- Sending a message of a flit over a trunk. -/
theorem sendTrunkAs_keeps (p : State → β) (hswitch : Blind State.setSwitch p) (hevc : Blind State.setEvc p) (hctr : Blind State.setCtr p) (tag : BitVec 12) (known : Bool) (src : Nat) (cls : BitVec 2) (vc : BitVec 3) (m : TrunkMsg) (s : State) :
    p (sendTrunkAs tag known src cls vc m s) = p s := by
  unfold sendTrunkAs
  split
  · rfl
  · exact enqueueAs_keeps p hswitch hevc hctr _ _ _ _

/-- Sending a message over a trunk. -/
theorem sendTrunk_keeps (p : State → β) (hswitch : Blind State.setSwitch p) (hevc : Blind State.setEvc p) (hctr : Blind State.setCtr p) (src : Nat) (cls : BitVec 2) (vc : BitVec 3) (m : TrunkMsg) (s : State) :
    p (sendTrunk src cls vc m s) = p s := by
  simp only [Blind] at *
  exact sendTrunkAs_keeps p hswitch hevc hctr _ _ _ _ _ _ _

@[simp] theorem sendTrunk_time (src : Nat) (cls : BitVec 2) (vc : BitVec 3) (m : TrunkMsg) (s : State) : (sendTrunk src cls vc m s).time = s.time :=
  sendTrunk_keeps State.time (fun _ _ => rfl) (fun _ _ => rfl) (fun _ _ => rfl) src cls vc m s
@[simp] theorem sendTrunk_dev (src : Nat) (cls : BitVec 2) (vc : BitVec 3) (m : TrunkMsg) (s : State) : (sendTrunk src cls vc m s).dev = s.dev :=
  sendTrunk_keeps State.dev (fun _ _ => rfl) (fun _ _ => rfl) (fun _ _ => rfl) src cls vc m s
@[simp] theorem sendTrunk_ledger (src : Nat) (cls : BitVec 2) (vc : BitVec 3) (m : TrunkMsg) (s : State) : (sendTrunk src cls vc m s).ledger = s.ledger :=
  sendTrunk_keeps State.ledger (fun _ _ => rfl) (fun _ _ => rfl) (fun _ _ => rfl) src cls vc m s
@[simp] theorem sendTrunk_wear (src : Nat) (cls : BitVec 2) (vc : BitVec 3) (m : TrunkMsg) (s : State) : (sendTrunk src cls vc m s).wear = s.wear :=
  sendTrunk_keeps State.wear (fun _ _ => rfl) (fun _ _ => rfl) (fun _ _ => rfl) src cls vc m s
@[simp] theorem sendTrunk_records (src : Nat) (cls : BitVec 2) (vc : BitVec 3) (m : TrunkMsg) (s : State) : (sendTrunk src cls vc m s).records = s.records :=
  sendTrunk_keeps State.records (fun _ _ => rfl) (fun _ _ => rfl) (fun _ _ => rfl) src cls vc m s
@[simp] theorem sendTrunk_teller (src : Nat) (cls : BitVec 2) (vc : BitVec 3) (m : TrunkMsg) (s : State) : (sendTrunk src cls vc m s).teller = s.teller :=
  sendTrunk_keeps State.teller (fun _ _ => rfl) (fun _ _ => rfl) (fun _ _ => rfl) src cls vc m s
@[simp] theorem sendTrunk_pool (src : Nat) (cls : BitVec 2) (vc : BitVec 3) (m : TrunkMsg) (s : State) : (sendTrunk src cls vc m s).pool = s.pool :=
  sendTrunk_keeps State.pool (fun _ _ => rfl) (fun _ _ => rfl) (fun _ _ => rfl) src cls vc m s
@[simp] theorem sendTrunk_home (src : Nat) (cls : BitVec 2) (vc : BitVec 3) (m : TrunkMsg) (s : State) : (sendTrunk src cls vc m s).home = s.home :=
  sendTrunk_keeps State.home (fun _ _ => rfl) (fun _ _ => rfl) (fun _ _ => rfl) src cls vc m s
@[simp] theorem sendTrunk_ports (src : Nat) (cls : BitVec 2) (vc : BitVec 3) (m : TrunkMsg) (s : State) : (sendTrunk src cls vc m s).ports = s.ports :=
  sendTrunk_keeps State.ports (fun _ _ => rfl) (fun _ _ => rfl) (fun _ _ => rfl) src cls vc m s
@[simp] theorem sendTrunk_lanes (src : Nat) (cls : BitVec 2) (vc : BitVec 3) (m : TrunkMsg) (s : State) : (sendTrunk src cls vc m s).lanes = s.lanes :=
  sendTrunk_keeps State.lanes (fun _ _ => rfl) (fun _ _ => rfl) (fun _ _ => rfl) src cls vc m s
@[simp] theorem sendTrunk_trunks (src : Nat) (cls : BitVec 2) (vc : BitVec 3) (m : TrunkMsg) (s : State) : (sendTrunk src cls vc m s).trunks = s.trunks :=
  sendTrunk_keeps State.trunks (fun _ _ => rfl) (fun _ _ => rfl) (fun _ _ => rfl) src cls vc m s
@[simp] theorem sendTrunk_pair (src : Nat) (cls : BitVec 2) (vc : BitVec 3) (m : TrunkMsg) (s : State) : (sendTrunk src cls vc m s).pair = s.pair :=
  sendTrunk_keeps State.pair (fun _ _ => rfl) (fun _ _ => rfl) (fun _ _ => rfl) src cls vc m s
@[simp] theorem sendTrunk_barrow (src : Nat) (cls : BitVec 2) (vc : BitVec 3) (m : TrunkMsg) (s : State) : (sendTrunk src cls vc m s).barrow = s.barrow :=
  sendTrunk_keeps State.barrow (fun _ _ => rfl) (fun _ _ => rfl) (fun _ _ => rfl) src cls vc m s
@[simp] theorem sendTrunk_steward (src : Nat) (cls : BitVec 2) (vc : BitVec 3) (m : TrunkMsg) (s : State) : (sendTrunk src cls vc m s).steward = s.steward :=
  sendTrunk_keeps State.steward (fun _ _ => rfl) (fun _ _ => rfl) (fun _ _ => rfl) src cls vc m s
@[simp] theorem sendTrunk_dieLink (src : Nat) (cls : BitVec 2) (vc : BitVec 3) (m : TrunkMsg) (s : State) : (sendTrunk src cls vc m s).dieLink = s.dieLink :=
  sendTrunk_keeps State.dieLink (fun _ _ => rfl) (fun _ _ => rfl) (fun _ _ => rfl) src cls vc m s
@[simp] theorem sendTrunk_bridge (src : Nat) (cls : BitVec 2) (vc : BitVec 3) (m : TrunkMsg) (s : State) : (sendTrunk src cls vc m s).bridge = s.bridge :=
  sendTrunk_keeps State.bridge (fun _ _ => rfl) (fun _ _ => rfl) (fun _ _ => rfl) src cls vc m s
@[simp] theorem sendTrunk_power (src : Nat) (cls : BitVec 2) (vc : BitVec 3) (m : TrunkMsg) (s : State) : (sendTrunk src cls vc m s).power = s.power :=
  sendTrunk_keeps State.power (fun _ _ => rfl) (fun _ _ => rfl) (fun _ _ => rfl) src cls vc m s
@[simp] theorem sendTrunk_free (src : Nat) (cls : BitVec 2) (vc : BitVec 3) (m : TrunkMsg) (s : State) : (sendTrunk src cls vc m s).free = s.free :=
  sendTrunk_keeps State.free (fun _ _ => rfl) (fun _ _ => rfl) (fun _ _ => rfl) src cls vc m s
@[simp] theorem sendTrunk_pending (src : Nat) (cls : BitVec 2) (vc : BitVec 3) (m : TrunkMsg) (s : State) : (sendTrunk src cls vc m s).pending = s.pending :=
  sendTrunk_keeps State.pending (fun _ _ => rfl) (fun _ _ => rfl) (fun _ _ => rfl) src cls vc m s

/-- A message of the home to an agent. -/
theorem homeToAgent_keeps (p : State → β) (hswitch : Blind State.setSwitch p) (hevc : Blind State.setEvc p) (hctr : Blind State.setCtr p) (sl a bed line plot : Nat) (cls : BitVec 2) (m : Msg) (s : State) :
    p (homeToAgent sl a bed line plot cls m s) = p s := by
  simp only [Blind] at *
  unfold homeToAgent
  dsimp only
  split <;> simp only [State.modSwitch, State.modEvc, State.modCtr, enqueueCell_keeps p hswitch hevc hctr, sendTrunk_keeps p hswitch hevc hctr, hswitch, hevc, hctr]

@[simp] theorem homeToAgent_time (sl a bed line plot : Nat) (cls : BitVec 2) (m : Msg) (s : State) : (homeToAgent sl a bed line plot cls m s).time = s.time :=
  homeToAgent_keeps State.time (fun _ _ => rfl) (fun _ _ => rfl) (fun _ _ => rfl) sl a bed line plot cls m s
@[simp] theorem homeToAgent_dev (sl a bed line plot : Nat) (cls : BitVec 2) (m : Msg) (s : State) : (homeToAgent sl a bed line plot cls m s).dev = s.dev :=
  homeToAgent_keeps State.dev (fun _ _ => rfl) (fun _ _ => rfl) (fun _ _ => rfl) sl a bed line plot cls m s
@[simp] theorem homeToAgent_ledger (sl a bed line plot : Nat) (cls : BitVec 2) (m : Msg) (s : State) : (homeToAgent sl a bed line plot cls m s).ledger = s.ledger :=
  homeToAgent_keeps State.ledger (fun _ _ => rfl) (fun _ _ => rfl) (fun _ _ => rfl) sl a bed line plot cls m s
@[simp] theorem homeToAgent_wear (sl a bed line plot : Nat) (cls : BitVec 2) (m : Msg) (s : State) : (homeToAgent sl a bed line plot cls m s).wear = s.wear :=
  homeToAgent_keeps State.wear (fun _ _ => rfl) (fun _ _ => rfl) (fun _ _ => rfl) sl a bed line plot cls m s
@[simp] theorem homeToAgent_records (sl a bed line plot : Nat) (cls : BitVec 2) (m : Msg) (s : State) : (homeToAgent sl a bed line plot cls m s).records = s.records :=
  homeToAgent_keeps State.records (fun _ _ => rfl) (fun _ _ => rfl) (fun _ _ => rfl) sl a bed line plot cls m s
@[simp] theorem homeToAgent_teller (sl a bed line plot : Nat) (cls : BitVec 2) (m : Msg) (s : State) : (homeToAgent sl a bed line plot cls m s).teller = s.teller :=
  homeToAgent_keeps State.teller (fun _ _ => rfl) (fun _ _ => rfl) (fun _ _ => rfl) sl a bed line plot cls m s
@[simp] theorem homeToAgent_pool (sl a bed line plot : Nat) (cls : BitVec 2) (m : Msg) (s : State) : (homeToAgent sl a bed line plot cls m s).pool = s.pool :=
  homeToAgent_keeps State.pool (fun _ _ => rfl) (fun _ _ => rfl) (fun _ _ => rfl) sl a bed line plot cls m s
@[simp] theorem homeToAgent_home (sl a bed line plot : Nat) (cls : BitVec 2) (m : Msg) (s : State) : (homeToAgent sl a bed line plot cls m s).home = s.home :=
  homeToAgent_keeps State.home (fun _ _ => rfl) (fun _ _ => rfl) (fun _ _ => rfl) sl a bed line plot cls m s
@[simp] theorem homeToAgent_ports (sl a bed line plot : Nat) (cls : BitVec 2) (m : Msg) (s : State) : (homeToAgent sl a bed line plot cls m s).ports = s.ports :=
  homeToAgent_keeps State.ports (fun _ _ => rfl) (fun _ _ => rfl) (fun _ _ => rfl) sl a bed line plot cls m s
@[simp] theorem homeToAgent_lanes (sl a bed line plot : Nat) (cls : BitVec 2) (m : Msg) (s : State) : (homeToAgent sl a bed line plot cls m s).lanes = s.lanes :=
  homeToAgent_keeps State.lanes (fun _ _ => rfl) (fun _ _ => rfl) (fun _ _ => rfl) sl a bed line plot cls m s
@[simp] theorem homeToAgent_trunks (sl a bed line plot : Nat) (cls : BitVec 2) (m : Msg) (s : State) : (homeToAgent sl a bed line plot cls m s).trunks = s.trunks :=
  homeToAgent_keeps State.trunks (fun _ _ => rfl) (fun _ _ => rfl) (fun _ _ => rfl) sl a bed line plot cls m s
@[simp] theorem homeToAgent_pair (sl a bed line plot : Nat) (cls : BitVec 2) (m : Msg) (s : State) : (homeToAgent sl a bed line plot cls m s).pair = s.pair :=
  homeToAgent_keeps State.pair (fun _ _ => rfl) (fun _ _ => rfl) (fun _ _ => rfl) sl a bed line plot cls m s
@[simp] theorem homeToAgent_barrow (sl a bed line plot : Nat) (cls : BitVec 2) (m : Msg) (s : State) : (homeToAgent sl a bed line plot cls m s).barrow = s.barrow :=
  homeToAgent_keeps State.barrow (fun _ _ => rfl) (fun _ _ => rfl) (fun _ _ => rfl) sl a bed line plot cls m s
@[simp] theorem homeToAgent_steward (sl a bed line plot : Nat) (cls : BitVec 2) (m : Msg) (s : State) : (homeToAgent sl a bed line plot cls m s).steward = s.steward :=
  homeToAgent_keeps State.steward (fun _ _ => rfl) (fun _ _ => rfl) (fun _ _ => rfl) sl a bed line plot cls m s
@[simp] theorem homeToAgent_dieLink (sl a bed line plot : Nat) (cls : BitVec 2) (m : Msg) (s : State) : (homeToAgent sl a bed line plot cls m s).dieLink = s.dieLink :=
  homeToAgent_keeps State.dieLink (fun _ _ => rfl) (fun _ _ => rfl) (fun _ _ => rfl) sl a bed line plot cls m s
@[simp] theorem homeToAgent_bridge (sl a bed line plot : Nat) (cls : BitVec 2) (m : Msg) (s : State) : (homeToAgent sl a bed line plot cls m s).bridge = s.bridge :=
  homeToAgent_keeps State.bridge (fun _ _ => rfl) (fun _ _ => rfl) (fun _ _ => rfl) sl a bed line plot cls m s
@[simp] theorem homeToAgent_power (sl a bed line plot : Nat) (cls : BitVec 2) (m : Msg) (s : State) : (homeToAgent sl a bed line plot cls m s).power = s.power :=
  homeToAgent_keeps State.power (fun _ _ => rfl) (fun _ _ => rfl) (fun _ _ => rfl) sl a bed line plot cls m s
@[simp] theorem homeToAgent_free (sl a bed line plot : Nat) (cls : BitVec 2) (m : Msg) (s : State) : (homeToAgent sl a bed line plot cls m s).free = s.free :=
  homeToAgent_keeps State.free (fun _ _ => rfl) (fun _ _ => rfl) (fun _ _ => rfl) sl a bed line plot cls m s
@[simp] theorem homeToAgent_pending (sl a bed line plot : Nat) (cls : BitVec 2) (m : Msg) (s : State) : (homeToAgent sl a bed line plot cls m s).pending = s.pending :=
  homeToAgent_keeps State.pending (fun _ _ => rfl) (fun _ _ => rfl) (fun _ _ => rfl) sl a bed line plot cls m s

/-- A request of the home to a memory device. -/
theorem toMemory_keeps (p : State → β) (hswitch : Blind State.setSwitch p) (hevc : Blind State.setEvc p) (hctr : Blind State.setCtr p) (sl : Nat) (q : Place) (pl : Nat) (m : Msg) (s : State) :
    p (toMemory sl q pl m s) = p s := by
  simp only [Blind] at *
  simp only [toMemory, toMemories, enqueueCell_keeps p hswitch hevc hctr]

@[simp] theorem toMemory_time (sl : Nat) (q : Place) (pl : Nat) (m : Msg) (s : State) : (toMemory sl q pl m s).time = s.time :=
  toMemory_keeps State.time (fun _ _ => rfl) (fun _ _ => rfl) (fun _ _ => rfl) sl q pl m s
@[simp] theorem toMemory_dev (sl : Nat) (q : Place) (pl : Nat) (m : Msg) (s : State) : (toMemory sl q pl m s).dev = s.dev :=
  toMemory_keeps State.dev (fun _ _ => rfl) (fun _ _ => rfl) (fun _ _ => rfl) sl q pl m s
@[simp] theorem toMemory_ledger (sl : Nat) (q : Place) (pl : Nat) (m : Msg) (s : State) : (toMemory sl q pl m s).ledger = s.ledger :=
  toMemory_keeps State.ledger (fun _ _ => rfl) (fun _ _ => rfl) (fun _ _ => rfl) sl q pl m s
@[simp] theorem toMemory_wear (sl : Nat) (q : Place) (pl : Nat) (m : Msg) (s : State) : (toMemory sl q pl m s).wear = s.wear :=
  toMemory_keeps State.wear (fun _ _ => rfl) (fun _ _ => rfl) (fun _ _ => rfl) sl q pl m s
@[simp] theorem toMemory_records (sl : Nat) (q : Place) (pl : Nat) (m : Msg) (s : State) : (toMemory sl q pl m s).records = s.records :=
  toMemory_keeps State.records (fun _ _ => rfl) (fun _ _ => rfl) (fun _ _ => rfl) sl q pl m s
@[simp] theorem toMemory_teller (sl : Nat) (q : Place) (pl : Nat) (m : Msg) (s : State) : (toMemory sl q pl m s).teller = s.teller :=
  toMemory_keeps State.teller (fun _ _ => rfl) (fun _ _ => rfl) (fun _ _ => rfl) sl q pl m s
@[simp] theorem toMemory_pool (sl : Nat) (q : Place) (pl : Nat) (m : Msg) (s : State) : (toMemory sl q pl m s).pool = s.pool :=
  toMemory_keeps State.pool (fun _ _ => rfl) (fun _ _ => rfl) (fun _ _ => rfl) sl q pl m s
@[simp] theorem toMemory_home (sl : Nat) (q : Place) (pl : Nat) (m : Msg) (s : State) : (toMemory sl q pl m s).home = s.home :=
  toMemory_keeps State.home (fun _ _ => rfl) (fun _ _ => rfl) (fun _ _ => rfl) sl q pl m s
@[simp] theorem toMemory_ports (sl : Nat) (q : Place) (pl : Nat) (m : Msg) (s : State) : (toMemory sl q pl m s).ports = s.ports :=
  toMemory_keeps State.ports (fun _ _ => rfl) (fun _ _ => rfl) (fun _ _ => rfl) sl q pl m s
@[simp] theorem toMemory_lanes (sl : Nat) (q : Place) (pl : Nat) (m : Msg) (s : State) : (toMemory sl q pl m s).lanes = s.lanes :=
  toMemory_keeps State.lanes (fun _ _ => rfl) (fun _ _ => rfl) (fun _ _ => rfl) sl q pl m s
@[simp] theorem toMemory_trunks (sl : Nat) (q : Place) (pl : Nat) (m : Msg) (s : State) : (toMemory sl q pl m s).trunks = s.trunks :=
  toMemory_keeps State.trunks (fun _ _ => rfl) (fun _ _ => rfl) (fun _ _ => rfl) sl q pl m s
@[simp] theorem toMemory_pair (sl : Nat) (q : Place) (pl : Nat) (m : Msg) (s : State) : (toMemory sl q pl m s).pair = s.pair :=
  toMemory_keeps State.pair (fun _ _ => rfl) (fun _ _ => rfl) (fun _ _ => rfl) sl q pl m s
@[simp] theorem toMemory_barrow (sl : Nat) (q : Place) (pl : Nat) (m : Msg) (s : State) : (toMemory sl q pl m s).barrow = s.barrow :=
  toMemory_keeps State.barrow (fun _ _ => rfl) (fun _ _ => rfl) (fun _ _ => rfl) sl q pl m s
@[simp] theorem toMemory_steward (sl : Nat) (q : Place) (pl : Nat) (m : Msg) (s : State) : (toMemory sl q pl m s).steward = s.steward :=
  toMemory_keeps State.steward (fun _ _ => rfl) (fun _ _ => rfl) (fun _ _ => rfl) sl q pl m s
@[simp] theorem toMemory_dieLink (sl : Nat) (q : Place) (pl : Nat) (m : Msg) (s : State) : (toMemory sl q pl m s).dieLink = s.dieLink :=
  toMemory_keeps State.dieLink (fun _ _ => rfl) (fun _ _ => rfl) (fun _ _ => rfl) sl q pl m s
@[simp] theorem toMemory_bridge (sl : Nat) (q : Place) (pl : Nat) (m : Msg) (s : State) : (toMemory sl q pl m s).bridge = s.bridge :=
  toMemory_keeps State.bridge (fun _ _ => rfl) (fun _ _ => rfl) (fun _ _ => rfl) sl q pl m s
@[simp] theorem toMemory_power (sl : Nat) (q : Place) (pl : Nat) (m : Msg) (s : State) : (toMemory sl q pl m s).power = s.power :=
  toMemory_keeps State.power (fun _ _ => rfl) (fun _ _ => rfl) (fun _ _ => rfl) sl q pl m s
@[simp] theorem toMemory_free (sl : Nat) (q : Place) (pl : Nat) (m : Msg) (s : State) : (toMemory sl q pl m s).free = s.free :=
  toMemory_keeps State.free (fun _ _ => rfl) (fun _ _ => rfl) (fun _ _ => rfl) sl q pl m s
@[simp] theorem toMemory_pending (sl : Nat) (q : Place) (pl : Nat) (m : Msg) (s : State) : (toMemory sl q pl m s).pending = s.pending :=
  toMemory_keeps State.pending (fun _ _ => rfl) (fun _ _ => rfl) (fun _ _ => rfl) sl q pl m s

/-- Counting a response. -/
theorem countResponse_keeps (p : State → β) (hevc : Blind State.setEvc p) (hctr : Blind State.setCtr p) (plot : Nat) (m : Msg) (s : State) :
    p (countResponse plot m s) = p s := by
  simp only [Blind] at *
  unfold countResponse
  dsimp only
  split <;> split <;> (try split) <;> simp only [State.modEvc, State.modCtr, plotCount_keeps p hevc hctr, hevc, hctr]

@[simp] theorem countResponse_time (plot : Nat) (m : Msg) (s : State) : (countResponse plot m s).time = s.time :=
  countResponse_keeps State.time (fun _ _ => rfl) (fun _ _ => rfl) plot m s
@[simp] theorem countResponse_dev (plot : Nat) (m : Msg) (s : State) : (countResponse plot m s).dev = s.dev :=
  countResponse_keeps State.dev (fun _ _ => rfl) (fun _ _ => rfl) plot m s
@[simp] theorem countResponse_ledger (plot : Nat) (m : Msg) (s : State) : (countResponse plot m s).ledger = s.ledger :=
  countResponse_keeps State.ledger (fun _ _ => rfl) (fun _ _ => rfl) plot m s
@[simp] theorem countResponse_wear (plot : Nat) (m : Msg) (s : State) : (countResponse plot m s).wear = s.wear :=
  countResponse_keeps State.wear (fun _ _ => rfl) (fun _ _ => rfl) plot m s
@[simp] theorem countResponse_records (plot : Nat) (m : Msg) (s : State) : (countResponse plot m s).records = s.records :=
  countResponse_keeps State.records (fun _ _ => rfl) (fun _ _ => rfl) plot m s
@[simp] theorem countResponse_teller (plot : Nat) (m : Msg) (s : State) : (countResponse plot m s).teller = s.teller :=
  countResponse_keeps State.teller (fun _ _ => rfl) (fun _ _ => rfl) plot m s
@[simp] theorem countResponse_pool (plot : Nat) (m : Msg) (s : State) : (countResponse plot m s).pool = s.pool :=
  countResponse_keeps State.pool (fun _ _ => rfl) (fun _ _ => rfl) plot m s
@[simp] theorem countResponse_home (plot : Nat) (m : Msg) (s : State) : (countResponse plot m s).home = s.home :=
  countResponse_keeps State.home (fun _ _ => rfl) (fun _ _ => rfl) plot m s
@[simp] theorem countResponse_switch (plot : Nat) (m : Msg) (s : State) : (countResponse plot m s).switch = s.switch :=
  countResponse_keeps State.switch (fun _ _ => rfl) (fun _ _ => rfl) plot m s
@[simp] theorem countResponse_ports (plot : Nat) (m : Msg) (s : State) : (countResponse plot m s).ports = s.ports :=
  countResponse_keeps State.ports (fun _ _ => rfl) (fun _ _ => rfl) plot m s
@[simp] theorem countResponse_lanes (plot : Nat) (m : Msg) (s : State) : (countResponse plot m s).lanes = s.lanes :=
  countResponse_keeps State.lanes (fun _ _ => rfl) (fun _ _ => rfl) plot m s
@[simp] theorem countResponse_trunks (plot : Nat) (m : Msg) (s : State) : (countResponse plot m s).trunks = s.trunks :=
  countResponse_keeps State.trunks (fun _ _ => rfl) (fun _ _ => rfl) plot m s
@[simp] theorem countResponse_pair (plot : Nat) (m : Msg) (s : State) : (countResponse plot m s).pair = s.pair :=
  countResponse_keeps State.pair (fun _ _ => rfl) (fun _ _ => rfl) plot m s
@[simp] theorem countResponse_barrow (plot : Nat) (m : Msg) (s : State) : (countResponse plot m s).barrow = s.barrow :=
  countResponse_keeps State.barrow (fun _ _ => rfl) (fun _ _ => rfl) plot m s
@[simp] theorem countResponse_steward (plot : Nat) (m : Msg) (s : State) : (countResponse plot m s).steward = s.steward :=
  countResponse_keeps State.steward (fun _ _ => rfl) (fun _ _ => rfl) plot m s
@[simp] theorem countResponse_dieLink (plot : Nat) (m : Msg) (s : State) : (countResponse plot m s).dieLink = s.dieLink :=
  countResponse_keeps State.dieLink (fun _ _ => rfl) (fun _ _ => rfl) plot m s
@[simp] theorem countResponse_bridge (plot : Nat) (m : Msg) (s : State) : (countResponse plot m s).bridge = s.bridge :=
  countResponse_keeps State.bridge (fun _ _ => rfl) (fun _ _ => rfl) plot m s
@[simp] theorem countResponse_power (plot : Nat) (m : Msg) (s : State) : (countResponse plot m s).power = s.power :=
  countResponse_keeps State.power (fun _ _ => rfl) (fun _ _ => rfl) plot m s
@[simp] theorem countResponse_free (plot : Nat) (m : Msg) (s : State) : (countResponse plot m s).free = s.free :=
  countResponse_keeps State.free (fun _ _ => rfl) (fun _ _ => rfl) plot m s
@[simp] theorem countResponse_pending (plot : Nat) (m : Msg) (s : State) : (countResponse plot m s).pending = s.pending :=
  countResponse_keeps State.pending (fun _ _ => rfl) (fun _ _ => rfl) plot m s

/-- Counting a latency. -/
theorem countLatency_keeps (p : State → β) (hevc : Blind State.setEvc p) (hctr : Blind State.setCtr p) (plot n : Nat) (s : State) :
    p (countLatency plot n s) = p s := by
  simp only [Blind] at *
  unfold countLatency
  split <;> simp only [State.modEvc, State.modCtr, plotCount_keeps p hevc hctr, statMax_keeps p hctr, hevc, hctr]

@[simp] theorem countLatency_time (plot n : Nat) (s : State) : (countLatency plot n s).time = s.time :=
  countLatency_keeps State.time (fun _ _ => rfl) (fun _ _ => rfl) plot n s
@[simp] theorem countLatency_dev (plot n : Nat) (s : State) : (countLatency plot n s).dev = s.dev :=
  countLatency_keeps State.dev (fun _ _ => rfl) (fun _ _ => rfl) plot n s
@[simp] theorem countLatency_ledger (plot n : Nat) (s : State) : (countLatency plot n s).ledger = s.ledger :=
  countLatency_keeps State.ledger (fun _ _ => rfl) (fun _ _ => rfl) plot n s
@[simp] theorem countLatency_wear (plot n : Nat) (s : State) : (countLatency plot n s).wear = s.wear :=
  countLatency_keeps State.wear (fun _ _ => rfl) (fun _ _ => rfl) plot n s
@[simp] theorem countLatency_records (plot n : Nat) (s : State) : (countLatency plot n s).records = s.records :=
  countLatency_keeps State.records (fun _ _ => rfl) (fun _ _ => rfl) plot n s
@[simp] theorem countLatency_teller (plot n : Nat) (s : State) : (countLatency plot n s).teller = s.teller :=
  countLatency_keeps State.teller (fun _ _ => rfl) (fun _ _ => rfl) plot n s
@[simp] theorem countLatency_pool (plot n : Nat) (s : State) : (countLatency plot n s).pool = s.pool :=
  countLatency_keeps State.pool (fun _ _ => rfl) (fun _ _ => rfl) plot n s
@[simp] theorem countLatency_home (plot n : Nat) (s : State) : (countLatency plot n s).home = s.home :=
  countLatency_keeps State.home (fun _ _ => rfl) (fun _ _ => rfl) plot n s
@[simp] theorem countLatency_switch (plot n : Nat) (s : State) : (countLatency plot n s).switch = s.switch :=
  countLatency_keeps State.switch (fun _ _ => rfl) (fun _ _ => rfl) plot n s
@[simp] theorem countLatency_ports (plot n : Nat) (s : State) : (countLatency plot n s).ports = s.ports :=
  countLatency_keeps State.ports (fun _ _ => rfl) (fun _ _ => rfl) plot n s
@[simp] theorem countLatency_lanes (plot n : Nat) (s : State) : (countLatency plot n s).lanes = s.lanes :=
  countLatency_keeps State.lanes (fun _ _ => rfl) (fun _ _ => rfl) plot n s
@[simp] theorem countLatency_trunks (plot n : Nat) (s : State) : (countLatency plot n s).trunks = s.trunks :=
  countLatency_keeps State.trunks (fun _ _ => rfl) (fun _ _ => rfl) plot n s
@[simp] theorem countLatency_pair (plot n : Nat) (s : State) : (countLatency plot n s).pair = s.pair :=
  countLatency_keeps State.pair (fun _ _ => rfl) (fun _ _ => rfl) plot n s
@[simp] theorem countLatency_barrow (plot n : Nat) (s : State) : (countLatency plot n s).barrow = s.barrow :=
  countLatency_keeps State.barrow (fun _ _ => rfl) (fun _ _ => rfl) plot n s
@[simp] theorem countLatency_steward (plot n : Nat) (s : State) : (countLatency plot n s).steward = s.steward :=
  countLatency_keeps State.steward (fun _ _ => rfl) (fun _ _ => rfl) plot n s
@[simp] theorem countLatency_dieLink (plot n : Nat) (s : State) : (countLatency plot n s).dieLink = s.dieLink :=
  countLatency_keeps State.dieLink (fun _ _ => rfl) (fun _ _ => rfl) plot n s
@[simp] theorem countLatency_bridge (plot n : Nat) (s : State) : (countLatency plot n s).bridge = s.bridge :=
  countLatency_keeps State.bridge (fun _ _ => rfl) (fun _ _ => rfl) plot n s
@[simp] theorem countLatency_power (plot n : Nat) (s : State) : (countLatency plot n s).power = s.power :=
  countLatency_keeps State.power (fun _ _ => rfl) (fun _ _ => rfl) plot n s
@[simp] theorem countLatency_free (plot n : Nat) (s : State) : (countLatency plot n s).free = s.free :=
  countLatency_keeps State.free (fun _ _ => rfl) (fun _ _ => rfl) plot n s
@[simp] theorem countLatency_pending (plot n : Nat) (s : State) : (countLatency plot n s).pending = s.pending :=
  countLatency_keeps State.pending (fun _ _ => rfl) (fun _ _ => rfl) plot n s

/-- A response made by the ingress to a message of a flit. -/
theorem ingressRespondAs_keeps (p : State → β) (hswitch : Blind State.setSwitch p) (hevc : Blind State.setEvc p) (hctr : Blind State.setCtr p) (tag : BitVec 12) (known : Bool) (port : Nat) (q : Option Nat) (w : Option (Nat × Nat × Nat)) (m : Msg) (s : State) :
    p (ingressRespondAs tag known port q w m s) = p s := by
  unfold ingressRespondAs
  dsimp only
  split <;> simp only [enqueueAs_keeps p hswitch hevc hctr, countResponse_keeps p hevc hctr]

/-- A response made by the ingress. -/
theorem ingressRespond_keeps (p : State → β) (hswitch : Blind State.setSwitch p) (hevc : Blind State.setEvc p) (hctr : Blind State.setCtr p) (port : Nat) (q : Option Nat) (w : Option (Nat × Nat × Nat)) (m : Msg) (s : State) :
    p (ingressRespond port q w m s) = p s := by
  simp only [Blind] at *
  exact ingressRespondAs_keeps p hswitch hevc hctr _ _ _ _ _ _ _

@[simp] theorem ingressRespond_time (port : Nat) (q : Option Nat) (w : Option (Nat × Nat × Nat)) (m : Msg) (s : State) : (ingressRespond port q w m s).time = s.time :=
  ingressRespond_keeps State.time (fun _ _ => rfl) (fun _ _ => rfl) (fun _ _ => rfl) port q w m s
@[simp] theorem ingressRespond_dev (port : Nat) (q : Option Nat) (w : Option (Nat × Nat × Nat)) (m : Msg) (s : State) : (ingressRespond port q w m s).dev = s.dev :=
  ingressRespond_keeps State.dev (fun _ _ => rfl) (fun _ _ => rfl) (fun _ _ => rfl) port q w m s
@[simp] theorem ingressRespond_ledger (port : Nat) (q : Option Nat) (w : Option (Nat × Nat × Nat)) (m : Msg) (s : State) : (ingressRespond port q w m s).ledger = s.ledger :=
  ingressRespond_keeps State.ledger (fun _ _ => rfl) (fun _ _ => rfl) (fun _ _ => rfl) port q w m s
@[simp] theorem ingressRespond_wear (port : Nat) (q : Option Nat) (w : Option (Nat × Nat × Nat)) (m : Msg) (s : State) : (ingressRespond port q w m s).wear = s.wear :=
  ingressRespond_keeps State.wear (fun _ _ => rfl) (fun _ _ => rfl) (fun _ _ => rfl) port q w m s
@[simp] theorem ingressRespond_records (port : Nat) (q : Option Nat) (w : Option (Nat × Nat × Nat)) (m : Msg) (s : State) : (ingressRespond port q w m s).records = s.records :=
  ingressRespond_keeps State.records (fun _ _ => rfl) (fun _ _ => rfl) (fun _ _ => rfl) port q w m s
@[simp] theorem ingressRespond_teller (port : Nat) (q : Option Nat) (w : Option (Nat × Nat × Nat)) (m : Msg) (s : State) : (ingressRespond port q w m s).teller = s.teller :=
  ingressRespond_keeps State.teller (fun _ _ => rfl) (fun _ _ => rfl) (fun _ _ => rfl) port q w m s
@[simp] theorem ingressRespond_pool (port : Nat) (q : Option Nat) (w : Option (Nat × Nat × Nat)) (m : Msg) (s : State) : (ingressRespond port q w m s).pool = s.pool :=
  ingressRespond_keeps State.pool (fun _ _ => rfl) (fun _ _ => rfl) (fun _ _ => rfl) port q w m s
@[simp] theorem ingressRespond_home (port : Nat) (q : Option Nat) (w : Option (Nat × Nat × Nat)) (m : Msg) (s : State) : (ingressRespond port q w m s).home = s.home :=
  ingressRespond_keeps State.home (fun _ _ => rfl) (fun _ _ => rfl) (fun _ _ => rfl) port q w m s
@[simp] theorem ingressRespond_ports (port : Nat) (q : Option Nat) (w : Option (Nat × Nat × Nat)) (m : Msg) (s : State) : (ingressRespond port q w m s).ports = s.ports :=
  ingressRespond_keeps State.ports (fun _ _ => rfl) (fun _ _ => rfl) (fun _ _ => rfl) port q w m s
@[simp] theorem ingressRespond_lanes (port : Nat) (q : Option Nat) (w : Option (Nat × Nat × Nat)) (m : Msg) (s : State) : (ingressRespond port q w m s).lanes = s.lanes :=
  ingressRespond_keeps State.lanes (fun _ _ => rfl) (fun _ _ => rfl) (fun _ _ => rfl) port q w m s
@[simp] theorem ingressRespond_trunks (port : Nat) (q : Option Nat) (w : Option (Nat × Nat × Nat)) (m : Msg) (s : State) : (ingressRespond port q w m s).trunks = s.trunks :=
  ingressRespond_keeps State.trunks (fun _ _ => rfl) (fun _ _ => rfl) (fun _ _ => rfl) port q w m s
@[simp] theorem ingressRespond_pair (port : Nat) (q : Option Nat) (w : Option (Nat × Nat × Nat)) (m : Msg) (s : State) : (ingressRespond port q w m s).pair = s.pair :=
  ingressRespond_keeps State.pair (fun _ _ => rfl) (fun _ _ => rfl) (fun _ _ => rfl) port q w m s
@[simp] theorem ingressRespond_barrow (port : Nat) (q : Option Nat) (w : Option (Nat × Nat × Nat)) (m : Msg) (s : State) : (ingressRespond port q w m s).barrow = s.barrow :=
  ingressRespond_keeps State.barrow (fun _ _ => rfl) (fun _ _ => rfl) (fun _ _ => rfl) port q w m s
@[simp] theorem ingressRespond_steward (port : Nat) (q : Option Nat) (w : Option (Nat × Nat × Nat)) (m : Msg) (s : State) : (ingressRespond port q w m s).steward = s.steward :=
  ingressRespond_keeps State.steward (fun _ _ => rfl) (fun _ _ => rfl) (fun _ _ => rfl) port q w m s
@[simp] theorem ingressRespond_dieLink (port : Nat) (q : Option Nat) (w : Option (Nat × Nat × Nat)) (m : Msg) (s : State) : (ingressRespond port q w m s).dieLink = s.dieLink :=
  ingressRespond_keeps State.dieLink (fun _ _ => rfl) (fun _ _ => rfl) (fun _ _ => rfl) port q w m s
@[simp] theorem ingressRespond_bridge (port : Nat) (q : Option Nat) (w : Option (Nat × Nat × Nat)) (m : Msg) (s : State) : (ingressRespond port q w m s).bridge = s.bridge :=
  ingressRespond_keeps State.bridge (fun _ _ => rfl) (fun _ _ => rfl) (fun _ _ => rfl) port q w m s
@[simp] theorem ingressRespond_power (port : Nat) (q : Option Nat) (w : Option (Nat × Nat × Nat)) (m : Msg) (s : State) : (ingressRespond port q w m s).power = s.power :=
  ingressRespond_keeps State.power (fun _ _ => rfl) (fun _ _ => rfl) (fun _ _ => rfl) port q w m s
@[simp] theorem ingressRespond_free (port : Nat) (q : Option Nat) (w : Option (Nat × Nat × Nat)) (m : Msg) (s : State) : (ingressRespond port q w m s).free = s.free :=
  ingressRespond_keeps State.free (fun _ _ => rfl) (fun _ _ => rfl) (fun _ _ => rfl) port q w m s
@[simp] theorem ingressRespond_pending (port : Nat) (q : Option Nat) (w : Option (Nat × Nat × Nat)) (m : Msg) (s : State) : (ingressRespond port q w m s).pending = s.pending :=
  ingressRespond_keeps State.pending (fun _ _ => rfl) (fun _ _ => rfl) (fun _ _ => rfl) port q w m s

/-- A TLP's cells join their queue. -/
theorem enqueueTlp_keeps (p : State → β) (hswitch : Blind State.setSwitch p) (hevc : Blind State.setEvc p) (hctr : Blind State.setCtr p) (tag : BitVec 12) (known : Bool) (n : Nat) (c : SwCell) (s : State) :
    p (enqueueTlp tag known n c s) = p s := by
  simp only [enqueueTlp, enqueueAs_keeps p hswitch hevc hctr]
  exact forEach_keeps p _ _ (fun _ s => enqueueAs_keeps p hswitch hevc hctr _ _ _ s) s

/-- Sending a TLP of a flit. -/
theorem sendTlpAs_keeps (p : State → β) (hswitch : Blind State.setSwitch p) (hevc : Blind State.setEvc p) (hctr : Blind State.setCtr p) (tag : BitVec 12) (known : Bool) (src port : Nat) (sub : BitVec 2) (t : Tlp) (s : State) :
    p (sendTlpAs tag known src port sub t s) = p s := by
  simp only [sendTlpAs, sendTlpOf, enqueueTlp_keeps p hswitch hevc hctr]

/-- Sending a TLP. -/
theorem sendTlp_keeps (p : State → β) (hswitch : Blind State.setSwitch p) (hevc : Blind State.setEvc p) (hctr : Blind State.setCtr p) (src port : Nat) (sub : BitVec 2) (t : Tlp) (s : State) :
    p (sendTlp src port sub t s) = p s := by
  simp only [Blind] at *
  exact sendTlpAs_keeps p hswitch hevc hctr _ _ _ _ _ _ _

@[simp] theorem sendTlp_time (src port : Nat) (sub : BitVec 2) (t : Tlp) (s : State) : (sendTlp src port sub t s).time = s.time :=
  sendTlp_keeps State.time (fun _ _ => rfl) (fun _ _ => rfl) (fun _ _ => rfl) src port sub t s
@[simp] theorem sendTlp_dev (src port : Nat) (sub : BitVec 2) (t : Tlp) (s : State) : (sendTlp src port sub t s).dev = s.dev :=
  sendTlp_keeps State.dev (fun _ _ => rfl) (fun _ _ => rfl) (fun _ _ => rfl) src port sub t s
@[simp] theorem sendTlp_ledger (src port : Nat) (sub : BitVec 2) (t : Tlp) (s : State) : (sendTlp src port sub t s).ledger = s.ledger :=
  sendTlp_keeps State.ledger (fun _ _ => rfl) (fun _ _ => rfl) (fun _ _ => rfl) src port sub t s
@[simp] theorem sendTlp_wear (src port : Nat) (sub : BitVec 2) (t : Tlp) (s : State) : (sendTlp src port sub t s).wear = s.wear :=
  sendTlp_keeps State.wear (fun _ _ => rfl) (fun _ _ => rfl) (fun _ _ => rfl) src port sub t s
@[simp] theorem sendTlp_records (src port : Nat) (sub : BitVec 2) (t : Tlp) (s : State) : (sendTlp src port sub t s).records = s.records :=
  sendTlp_keeps State.records (fun _ _ => rfl) (fun _ _ => rfl) (fun _ _ => rfl) src port sub t s
@[simp] theorem sendTlp_teller (src port : Nat) (sub : BitVec 2) (t : Tlp) (s : State) : (sendTlp src port sub t s).teller = s.teller :=
  sendTlp_keeps State.teller (fun _ _ => rfl) (fun _ _ => rfl) (fun _ _ => rfl) src port sub t s
@[simp] theorem sendTlp_pool (src port : Nat) (sub : BitVec 2) (t : Tlp) (s : State) : (sendTlp src port sub t s).pool = s.pool :=
  sendTlp_keeps State.pool (fun _ _ => rfl) (fun _ _ => rfl) (fun _ _ => rfl) src port sub t s
@[simp] theorem sendTlp_home (src port : Nat) (sub : BitVec 2) (t : Tlp) (s : State) : (sendTlp src port sub t s).home = s.home :=
  sendTlp_keeps State.home (fun _ _ => rfl) (fun _ _ => rfl) (fun _ _ => rfl) src port sub t s
@[simp] theorem sendTlp_ports (src port : Nat) (sub : BitVec 2) (t : Tlp) (s : State) : (sendTlp src port sub t s).ports = s.ports :=
  sendTlp_keeps State.ports (fun _ _ => rfl) (fun _ _ => rfl) (fun _ _ => rfl) src port sub t s
@[simp] theorem sendTlp_lanes (src port : Nat) (sub : BitVec 2) (t : Tlp) (s : State) : (sendTlp src port sub t s).lanes = s.lanes :=
  sendTlp_keeps State.lanes (fun _ _ => rfl) (fun _ _ => rfl) (fun _ _ => rfl) src port sub t s
@[simp] theorem sendTlp_trunks (src port : Nat) (sub : BitVec 2) (t : Tlp) (s : State) : (sendTlp src port sub t s).trunks = s.trunks :=
  sendTlp_keeps State.trunks (fun _ _ => rfl) (fun _ _ => rfl) (fun _ _ => rfl) src port sub t s
@[simp] theorem sendTlp_pair (src port : Nat) (sub : BitVec 2) (t : Tlp) (s : State) : (sendTlp src port sub t s).pair = s.pair :=
  sendTlp_keeps State.pair (fun _ _ => rfl) (fun _ _ => rfl) (fun _ _ => rfl) src port sub t s
@[simp] theorem sendTlp_barrow (src port : Nat) (sub : BitVec 2) (t : Tlp) (s : State) : (sendTlp src port sub t s).barrow = s.barrow :=
  sendTlp_keeps State.barrow (fun _ _ => rfl) (fun _ _ => rfl) (fun _ _ => rfl) src port sub t s
@[simp] theorem sendTlp_steward (src port : Nat) (sub : BitVec 2) (t : Tlp) (s : State) : (sendTlp src port sub t s).steward = s.steward :=
  sendTlp_keeps State.steward (fun _ _ => rfl) (fun _ _ => rfl) (fun _ _ => rfl) src port sub t s
@[simp] theorem sendTlp_dieLink (src port : Nat) (sub : BitVec 2) (t : Tlp) (s : State) : (sendTlp src port sub t s).dieLink = s.dieLink :=
  sendTlp_keeps State.dieLink (fun _ _ => rfl) (fun _ _ => rfl) (fun _ _ => rfl) src port sub t s
@[simp] theorem sendTlp_bridge (src port : Nat) (sub : BitVec 2) (t : Tlp) (s : State) : (sendTlp src port sub t s).bridge = s.bridge :=
  sendTlp_keeps State.bridge (fun _ _ => rfl) (fun _ _ => rfl) (fun _ _ => rfl) src port sub t s
@[simp] theorem sendTlp_power (src port : Nat) (sub : BitVec 2) (t : Tlp) (s : State) : (sendTlp src port sub t s).power = s.power :=
  sendTlp_keeps State.power (fun _ _ => rfl) (fun _ _ => rfl) (fun _ _ => rfl) src port sub t s
@[simp] theorem sendTlp_free (src port : Nat) (sub : BitVec 2) (t : Tlp) (s : State) : (sendTlp src port sub t s).free = s.free :=
  sendTlp_keeps State.free (fun _ _ => rfl) (fun _ _ => rfl) (fun _ _ => rfl) src port sub t s
@[simp] theorem sendTlp_pending (src port : Nat) (sub : BitVec 2) (t : Tlp) (s : State) : (sendTlp src port sub t s).pending = s.pending :=
  sendTlp_keeps State.pending (fun _ _ => rfl) (fun _ _ => rfl) (fun _ _ => rfl) src port sub t s

/-- Counting a flit that arrives. -/
theorem flitIn_keeps (p : State → β) (hevc : Blind State.setEvc p) (hctr : Blind State.setCtr p) (port n : Nat) (s : State) :
    p (flitIn port n s) = p s := by
  simp only [Blind] at *
  simp only [flitIn, State.modEvc, State.modCtr, portCount_keeps p hevc hctr, countPort_keeps p hevc hctr, hevc, hctr]

@[simp] theorem flitIn_time (port n : Nat) (s : State) : (flitIn port n s).time = s.time :=
  flitIn_keeps State.time (fun _ _ => rfl) (fun _ _ => rfl) port n s
@[simp] theorem flitIn_dev (port n : Nat) (s : State) : (flitIn port n s).dev = s.dev :=
  flitIn_keeps State.dev (fun _ _ => rfl) (fun _ _ => rfl) port n s
@[simp] theorem flitIn_ledger (port n : Nat) (s : State) : (flitIn port n s).ledger = s.ledger :=
  flitIn_keeps State.ledger (fun _ _ => rfl) (fun _ _ => rfl) port n s
@[simp] theorem flitIn_wear (port n : Nat) (s : State) : (flitIn port n s).wear = s.wear :=
  flitIn_keeps State.wear (fun _ _ => rfl) (fun _ _ => rfl) port n s
@[simp] theorem flitIn_records (port n : Nat) (s : State) : (flitIn port n s).records = s.records :=
  flitIn_keeps State.records (fun _ _ => rfl) (fun _ _ => rfl) port n s
@[simp] theorem flitIn_teller (port n : Nat) (s : State) : (flitIn port n s).teller = s.teller :=
  flitIn_keeps State.teller (fun _ _ => rfl) (fun _ _ => rfl) port n s
@[simp] theorem flitIn_pool (port n : Nat) (s : State) : (flitIn port n s).pool = s.pool :=
  flitIn_keeps State.pool (fun _ _ => rfl) (fun _ _ => rfl) port n s
@[simp] theorem flitIn_home (port n : Nat) (s : State) : (flitIn port n s).home = s.home :=
  flitIn_keeps State.home (fun _ _ => rfl) (fun _ _ => rfl) port n s
@[simp] theorem flitIn_switch (port n : Nat) (s : State) : (flitIn port n s).switch = s.switch :=
  flitIn_keeps State.switch (fun _ _ => rfl) (fun _ _ => rfl) port n s
@[simp] theorem flitIn_ports (port n : Nat) (s : State) : (flitIn port n s).ports = s.ports :=
  flitIn_keeps State.ports (fun _ _ => rfl) (fun _ _ => rfl) port n s
@[simp] theorem flitIn_lanes (port n : Nat) (s : State) : (flitIn port n s).lanes = s.lanes :=
  flitIn_keeps State.lanes (fun _ _ => rfl) (fun _ _ => rfl) port n s
@[simp] theorem flitIn_trunks (port n : Nat) (s : State) : (flitIn port n s).trunks = s.trunks :=
  flitIn_keeps State.trunks (fun _ _ => rfl) (fun _ _ => rfl) port n s
@[simp] theorem flitIn_pair (port n : Nat) (s : State) : (flitIn port n s).pair = s.pair :=
  flitIn_keeps State.pair (fun _ _ => rfl) (fun _ _ => rfl) port n s
@[simp] theorem flitIn_barrow (port n : Nat) (s : State) : (flitIn port n s).barrow = s.barrow :=
  flitIn_keeps State.barrow (fun _ _ => rfl) (fun _ _ => rfl) port n s
@[simp] theorem flitIn_steward (port n : Nat) (s : State) : (flitIn port n s).steward = s.steward :=
  flitIn_keeps State.steward (fun _ _ => rfl) (fun _ _ => rfl) port n s
@[simp] theorem flitIn_dieLink (port n : Nat) (s : State) : (flitIn port n s).dieLink = s.dieLink :=
  flitIn_keeps State.dieLink (fun _ _ => rfl) (fun _ _ => rfl) port n s
@[simp] theorem flitIn_bridge (port n : Nat) (s : State) : (flitIn port n s).bridge = s.bridge :=
  flitIn_keeps State.bridge (fun _ _ => rfl) (fun _ _ => rfl) port n s
@[simp] theorem flitIn_power (port n : Nat) (s : State) : (flitIn port n s).power = s.power :=
  flitIn_keeps State.power (fun _ _ => rfl) (fun _ _ => rfl) port n s
@[simp] theorem flitIn_free (port n : Nat) (s : State) : (flitIn port n s).free = s.free :=
  flitIn_keeps State.free (fun _ _ => rfl) (fun _ _ => rfl) port n s
@[simp] theorem flitIn_pending (port n : Nat) (s : State) : (flitIn port n s).pending = s.pending :=
  flitIn_keeps State.pending (fun _ _ => rfl) (fun _ _ => rfl) port n s

/-- Counting a flit that leaves. -/
theorem flitOut_keeps (p : State → β) (hevc : Blind State.setEvc p) (hctr : Blind State.setCtr p) (port n : Nat) (s : State) :
    p (flitOut port n s) = p s := by
  simp only [Blind] at *
  simp only [flitOut, State.modEvc, State.modCtr, portCount_keeps p hevc hctr, countPort_keeps p hevc hctr, hevc, hctr]

@[simp] theorem flitOut_time (port n : Nat) (s : State) : (flitOut port n s).time = s.time :=
  flitOut_keeps State.time (fun _ _ => rfl) (fun _ _ => rfl) port n s
@[simp] theorem flitOut_dev (port n : Nat) (s : State) : (flitOut port n s).dev = s.dev :=
  flitOut_keeps State.dev (fun _ _ => rfl) (fun _ _ => rfl) port n s
@[simp] theorem flitOut_ledger (port n : Nat) (s : State) : (flitOut port n s).ledger = s.ledger :=
  flitOut_keeps State.ledger (fun _ _ => rfl) (fun _ _ => rfl) port n s
@[simp] theorem flitOut_wear (port n : Nat) (s : State) : (flitOut port n s).wear = s.wear :=
  flitOut_keeps State.wear (fun _ _ => rfl) (fun _ _ => rfl) port n s
@[simp] theorem flitOut_records (port n : Nat) (s : State) : (flitOut port n s).records = s.records :=
  flitOut_keeps State.records (fun _ _ => rfl) (fun _ _ => rfl) port n s
@[simp] theorem flitOut_teller (port n : Nat) (s : State) : (flitOut port n s).teller = s.teller :=
  flitOut_keeps State.teller (fun _ _ => rfl) (fun _ _ => rfl) port n s
@[simp] theorem flitOut_pool (port n : Nat) (s : State) : (flitOut port n s).pool = s.pool :=
  flitOut_keeps State.pool (fun _ _ => rfl) (fun _ _ => rfl) port n s
@[simp] theorem flitOut_home (port n : Nat) (s : State) : (flitOut port n s).home = s.home :=
  flitOut_keeps State.home (fun _ _ => rfl) (fun _ _ => rfl) port n s
@[simp] theorem flitOut_switch (port n : Nat) (s : State) : (flitOut port n s).switch = s.switch :=
  flitOut_keeps State.switch (fun _ _ => rfl) (fun _ _ => rfl) port n s
@[simp] theorem flitOut_ports (port n : Nat) (s : State) : (flitOut port n s).ports = s.ports :=
  flitOut_keeps State.ports (fun _ _ => rfl) (fun _ _ => rfl) port n s
@[simp] theorem flitOut_lanes (port n : Nat) (s : State) : (flitOut port n s).lanes = s.lanes :=
  flitOut_keeps State.lanes (fun _ _ => rfl) (fun _ _ => rfl) port n s
@[simp] theorem flitOut_trunks (port n : Nat) (s : State) : (flitOut port n s).trunks = s.trunks :=
  flitOut_keeps State.trunks (fun _ _ => rfl) (fun _ _ => rfl) port n s
@[simp] theorem flitOut_pair (port n : Nat) (s : State) : (flitOut port n s).pair = s.pair :=
  flitOut_keeps State.pair (fun _ _ => rfl) (fun _ _ => rfl) port n s
@[simp] theorem flitOut_barrow (port n : Nat) (s : State) : (flitOut port n s).barrow = s.barrow :=
  flitOut_keeps State.barrow (fun _ _ => rfl) (fun _ _ => rfl) port n s
@[simp] theorem flitOut_steward (port n : Nat) (s : State) : (flitOut port n s).steward = s.steward :=
  flitOut_keeps State.steward (fun _ _ => rfl) (fun _ _ => rfl) port n s
@[simp] theorem flitOut_dieLink (port n : Nat) (s : State) : (flitOut port n s).dieLink = s.dieLink :=
  flitOut_keeps State.dieLink (fun _ _ => rfl) (fun _ _ => rfl) port n s
@[simp] theorem flitOut_bridge (port n : Nat) (s : State) : (flitOut port n s).bridge = s.bridge :=
  flitOut_keeps State.bridge (fun _ _ => rfl) (fun _ _ => rfl) port n s
@[simp] theorem flitOut_power (port n : Nat) (s : State) : (flitOut port n s).power = s.power :=
  flitOut_keeps State.power (fun _ _ => rfl) (fun _ _ => rfl) port n s
@[simp] theorem flitOut_free (port n : Nat) (s : State) : (flitOut port n s).free = s.free :=
  flitOut_keeps State.free (fun _ _ => rfl) (fun _ _ => rfl) port n s
@[simp] theorem flitOut_pending (port n : Nat) (s : State) : (flitOut port n s).pending = s.pending :=
  flitOut_keeps State.pending (fun _ _ => rfl) (fun _ _ => rfl) port n s

/-- Placing a receipt changes the Teller, the event controller and the counters only. -/
theorem placeReceipt_keeps (p : State → β) (hteller : Blind State.setTeller p) (hevc : Blind State.setEvc p) (hctr : Blind State.setCtr p) (ring : Nat) (x : Receipt) (q : Nat) (s : State) :
    p (placeReceipt ring x q s) = p s := by
  simp only [Blind] at *
  unfold placeReceipt
  dsimp only
  split <;> split <;> simp only [State.modRing, State.modTeller, State.modEvc, State.modCtr, count_keeps p hevc hctr, trace_keeps p hevc hctr, raise_keeps p hevc hctr, hteller, hevc, hctr]

@[simp] theorem placeReceipt_time (ring : Nat) (x : Receipt) (q : Nat) (s : State) : (placeReceipt ring x q s).time = s.time :=
  placeReceipt_keeps State.time (fun _ _ => rfl) (fun _ _ => rfl) (fun _ _ => rfl) ring x q s
@[simp] theorem placeReceipt_dev (ring : Nat) (x : Receipt) (q : Nat) (s : State) : (placeReceipt ring x q s).dev = s.dev :=
  placeReceipt_keeps State.dev (fun _ _ => rfl) (fun _ _ => rfl) (fun _ _ => rfl) ring x q s
@[simp] theorem placeReceipt_ledger (ring : Nat) (x : Receipt) (q : Nat) (s : State) : (placeReceipt ring x q s).ledger = s.ledger :=
  placeReceipt_keeps State.ledger (fun _ _ => rfl) (fun _ _ => rfl) (fun _ _ => rfl) ring x q s
@[simp] theorem placeReceipt_wear (ring : Nat) (x : Receipt) (q : Nat) (s : State) : (placeReceipt ring x q s).wear = s.wear :=
  placeReceipt_keeps State.wear (fun _ _ => rfl) (fun _ _ => rfl) (fun _ _ => rfl) ring x q s
@[simp] theorem placeReceipt_records (ring : Nat) (x : Receipt) (q : Nat) (s : State) : (placeReceipt ring x q s).records = s.records :=
  placeReceipt_keeps State.records (fun _ _ => rfl) (fun _ _ => rfl) (fun _ _ => rfl) ring x q s
@[simp] theorem placeReceipt_pool (ring : Nat) (x : Receipt) (q : Nat) (s : State) : (placeReceipt ring x q s).pool = s.pool :=
  placeReceipt_keeps State.pool (fun _ _ => rfl) (fun _ _ => rfl) (fun _ _ => rfl) ring x q s
@[simp] theorem placeReceipt_home (ring : Nat) (x : Receipt) (q : Nat) (s : State) : (placeReceipt ring x q s).home = s.home :=
  placeReceipt_keeps State.home (fun _ _ => rfl) (fun _ _ => rfl) (fun _ _ => rfl) ring x q s
@[simp] theorem placeReceipt_switch (ring : Nat) (x : Receipt) (q : Nat) (s : State) : (placeReceipt ring x q s).switch = s.switch :=
  placeReceipt_keeps State.switch (fun _ _ => rfl) (fun _ _ => rfl) (fun _ _ => rfl) ring x q s
@[simp] theorem placeReceipt_ports (ring : Nat) (x : Receipt) (q : Nat) (s : State) : (placeReceipt ring x q s).ports = s.ports :=
  placeReceipt_keeps State.ports (fun _ _ => rfl) (fun _ _ => rfl) (fun _ _ => rfl) ring x q s
@[simp] theorem placeReceipt_lanes (ring : Nat) (x : Receipt) (q : Nat) (s : State) : (placeReceipt ring x q s).lanes = s.lanes :=
  placeReceipt_keeps State.lanes (fun _ _ => rfl) (fun _ _ => rfl) (fun _ _ => rfl) ring x q s
@[simp] theorem placeReceipt_trunks (ring : Nat) (x : Receipt) (q : Nat) (s : State) : (placeReceipt ring x q s).trunks = s.trunks :=
  placeReceipt_keeps State.trunks (fun _ _ => rfl) (fun _ _ => rfl) (fun _ _ => rfl) ring x q s
@[simp] theorem placeReceipt_pair (ring : Nat) (x : Receipt) (q : Nat) (s : State) : (placeReceipt ring x q s).pair = s.pair :=
  placeReceipt_keeps State.pair (fun _ _ => rfl) (fun _ _ => rfl) (fun _ _ => rfl) ring x q s
@[simp] theorem placeReceipt_barrow (ring : Nat) (x : Receipt) (q : Nat) (s : State) : (placeReceipt ring x q s).barrow = s.barrow :=
  placeReceipt_keeps State.barrow (fun _ _ => rfl) (fun _ _ => rfl) (fun _ _ => rfl) ring x q s
@[simp] theorem placeReceipt_steward (ring : Nat) (x : Receipt) (q : Nat) (s : State) : (placeReceipt ring x q s).steward = s.steward :=
  placeReceipt_keeps State.steward (fun _ _ => rfl) (fun _ _ => rfl) (fun _ _ => rfl) ring x q s
@[simp] theorem placeReceipt_dieLink (ring : Nat) (x : Receipt) (q : Nat) (s : State) : (placeReceipt ring x q s).dieLink = s.dieLink :=
  placeReceipt_keeps State.dieLink (fun _ _ => rfl) (fun _ _ => rfl) (fun _ _ => rfl) ring x q s
@[simp] theorem placeReceipt_bridge (ring : Nat) (x : Receipt) (q : Nat) (s : State) : (placeReceipt ring x q s).bridge = s.bridge :=
  placeReceipt_keeps State.bridge (fun _ _ => rfl) (fun _ _ => rfl) (fun _ _ => rfl) ring x q s
@[simp] theorem placeReceipt_power (ring : Nat) (x : Receipt) (q : Nat) (s : State) : (placeReceipt ring x q s).power = s.power :=
  placeReceipt_keeps State.power (fun _ _ => rfl) (fun _ _ => rfl) (fun _ _ => rfl) ring x q s
@[simp] theorem placeReceipt_free (ring : Nat) (x : Receipt) (q : Nat) (s : State) : (placeReceipt ring x q s).free = s.free :=
  placeReceipt_keeps State.free (fun _ _ => rfl) (fun _ _ => rfl) (fun _ _ => rfl) ring x q s
@[simp] theorem placeReceipt_pending (ring : Nat) (x : Receipt) (q : Nat) (s : State) : (placeReceipt ring x q s).pending = s.pending :=
  placeReceipt_keeps State.pending (fun _ _ => rfl) (fun _ _ => rfl) (fun _ _ => rfl) ring x q s

/-- Issuing a receipt. -/
theorem issueReceipt_keeps (p : State → β) (hteller : Blind State.setTeller p) (hevc : Blind State.setEvc p) (hctr : Blind State.setCtr p) (ring : Nat) (d : Returned) (s : State) :
    p (issueReceipt ring d s) = p s := by
  simp only [Blind] at *
  unfold issueReceipt
  dsimp only
  split <;> simp only [State.modRing, State.modTeller, State.modEvc, State.modCtr, placeReceipt_keeps p hteller hevc hctr, hteller, hevc, hctr]

@[simp] theorem issueReceipt_time (ring : Nat) (d : Returned) (s : State) : (issueReceipt ring d s).time = s.time :=
  issueReceipt_keeps State.time (fun _ _ => rfl) (fun _ _ => rfl) (fun _ _ => rfl) ring d s
@[simp] theorem issueReceipt_dev (ring : Nat) (d : Returned) (s : State) : (issueReceipt ring d s).dev = s.dev :=
  issueReceipt_keeps State.dev (fun _ _ => rfl) (fun _ _ => rfl) (fun _ _ => rfl) ring d s
@[simp] theorem issueReceipt_ledger (ring : Nat) (d : Returned) (s : State) : (issueReceipt ring d s).ledger = s.ledger :=
  issueReceipt_keeps State.ledger (fun _ _ => rfl) (fun _ _ => rfl) (fun _ _ => rfl) ring d s
@[simp] theorem issueReceipt_wear (ring : Nat) (d : Returned) (s : State) : (issueReceipt ring d s).wear = s.wear :=
  issueReceipt_keeps State.wear (fun _ _ => rfl) (fun _ _ => rfl) (fun _ _ => rfl) ring d s
@[simp] theorem issueReceipt_records (ring : Nat) (d : Returned) (s : State) : (issueReceipt ring d s).records = s.records :=
  issueReceipt_keeps State.records (fun _ _ => rfl) (fun _ _ => rfl) (fun _ _ => rfl) ring d s
@[simp] theorem issueReceipt_pool (ring : Nat) (d : Returned) (s : State) : (issueReceipt ring d s).pool = s.pool :=
  issueReceipt_keeps State.pool (fun _ _ => rfl) (fun _ _ => rfl) (fun _ _ => rfl) ring d s
@[simp] theorem issueReceipt_home (ring : Nat) (d : Returned) (s : State) : (issueReceipt ring d s).home = s.home :=
  issueReceipt_keeps State.home (fun _ _ => rfl) (fun _ _ => rfl) (fun _ _ => rfl) ring d s
@[simp] theorem issueReceipt_switch (ring : Nat) (d : Returned) (s : State) : (issueReceipt ring d s).switch = s.switch :=
  issueReceipt_keeps State.switch (fun _ _ => rfl) (fun _ _ => rfl) (fun _ _ => rfl) ring d s
@[simp] theorem issueReceipt_ports (ring : Nat) (d : Returned) (s : State) : (issueReceipt ring d s).ports = s.ports :=
  issueReceipt_keeps State.ports (fun _ _ => rfl) (fun _ _ => rfl) (fun _ _ => rfl) ring d s
@[simp] theorem issueReceipt_lanes (ring : Nat) (d : Returned) (s : State) : (issueReceipt ring d s).lanes = s.lanes :=
  issueReceipt_keeps State.lanes (fun _ _ => rfl) (fun _ _ => rfl) (fun _ _ => rfl) ring d s
@[simp] theorem issueReceipt_trunks (ring : Nat) (d : Returned) (s : State) : (issueReceipt ring d s).trunks = s.trunks :=
  issueReceipt_keeps State.trunks (fun _ _ => rfl) (fun _ _ => rfl) (fun _ _ => rfl) ring d s
@[simp] theorem issueReceipt_pair (ring : Nat) (d : Returned) (s : State) : (issueReceipt ring d s).pair = s.pair :=
  issueReceipt_keeps State.pair (fun _ _ => rfl) (fun _ _ => rfl) (fun _ _ => rfl) ring d s
@[simp] theorem issueReceipt_barrow (ring : Nat) (d : Returned) (s : State) : (issueReceipt ring d s).barrow = s.barrow :=
  issueReceipt_keeps State.barrow (fun _ _ => rfl) (fun _ _ => rfl) (fun _ _ => rfl) ring d s
@[simp] theorem issueReceipt_steward (ring : Nat) (d : Returned) (s : State) : (issueReceipt ring d s).steward = s.steward :=
  issueReceipt_keeps State.steward (fun _ _ => rfl) (fun _ _ => rfl) (fun _ _ => rfl) ring d s
@[simp] theorem issueReceipt_dieLink (ring : Nat) (d : Returned) (s : State) : (issueReceipt ring d s).dieLink = s.dieLink :=
  issueReceipt_keeps State.dieLink (fun _ _ => rfl) (fun _ _ => rfl) (fun _ _ => rfl) ring d s
@[simp] theorem issueReceipt_bridge (ring : Nat) (d : Returned) (s : State) : (issueReceipt ring d s).bridge = s.bridge :=
  issueReceipt_keeps State.bridge (fun _ _ => rfl) (fun _ _ => rfl) (fun _ _ => rfl) ring d s
@[simp] theorem issueReceipt_power (ring : Nat) (d : Returned) (s : State) : (issueReceipt ring d s).power = s.power :=
  issueReceipt_keeps State.power (fun _ _ => rfl) (fun _ _ => rfl) (fun _ _ => rfl) ring d s
@[simp] theorem issueReceipt_free (ring : Nat) (d : Returned) (s : State) : (issueReceipt ring d s).free = s.free :=
  issueReceipt_keeps State.free (fun _ _ => rfl) (fun _ _ => rfl) (fun _ _ => rfl) ring d s
@[simp] theorem issueReceipt_pending (ring : Nat) (d : Returned) (s : State) : (issueReceipt ring d s).pending = s.pending :=
  issueReceipt_keeps State.pending (fun _ _ => rfl) (fun _ _ => rfl) (fun _ _ => rfl) ring d s

/-- Writing a receipt. -/
theorem writeReceipt_keeps (p : State → β) (hteller : Blind State.setTeller p) (hevc : Blind State.setEvc p) (hctr : Blind State.setCtr p) (ring origin : Nat) (tag : BitVec 32) (opcode : BitVec 16) (status : Nat) (result : List Byte) (q : Option Nat) (s : State) :
    p (writeReceipt ring origin tag opcode status result q s) = p s := by
  simp only [Blind] at *
  unfold writeReceipt
  dsimp only
  split <;> simp only [State.modRing, State.modTeller, State.modEvc, State.modCtr, issueReceipt_keeps p hteller hevc hctr, hteller, hevc, hctr]

@[simp] theorem writeReceipt_time (ring origin : Nat) (tag : BitVec 32) (opcode : BitVec 16) (status : Nat) (result : List Byte) (q : Option Nat) (s : State) : (writeReceipt ring origin tag opcode status result q s).time = s.time :=
  writeReceipt_keeps State.time (fun _ _ => rfl) (fun _ _ => rfl) (fun _ _ => rfl) ring origin tag opcode status result q s
@[simp] theorem writeReceipt_dev (ring origin : Nat) (tag : BitVec 32) (opcode : BitVec 16) (status : Nat) (result : List Byte) (q : Option Nat) (s : State) : (writeReceipt ring origin tag opcode status result q s).dev = s.dev :=
  writeReceipt_keeps State.dev (fun _ _ => rfl) (fun _ _ => rfl) (fun _ _ => rfl) ring origin tag opcode status result q s
@[simp] theorem writeReceipt_ledger (ring origin : Nat) (tag : BitVec 32) (opcode : BitVec 16) (status : Nat) (result : List Byte) (q : Option Nat) (s : State) : (writeReceipt ring origin tag opcode status result q s).ledger = s.ledger :=
  writeReceipt_keeps State.ledger (fun _ _ => rfl) (fun _ _ => rfl) (fun _ _ => rfl) ring origin tag opcode status result q s
@[simp] theorem writeReceipt_wear (ring origin : Nat) (tag : BitVec 32) (opcode : BitVec 16) (status : Nat) (result : List Byte) (q : Option Nat) (s : State) : (writeReceipt ring origin tag opcode status result q s).wear = s.wear :=
  writeReceipt_keeps State.wear (fun _ _ => rfl) (fun _ _ => rfl) (fun _ _ => rfl) ring origin tag opcode status result q s
@[simp] theorem writeReceipt_records (ring origin : Nat) (tag : BitVec 32) (opcode : BitVec 16) (status : Nat) (result : List Byte) (q : Option Nat) (s : State) : (writeReceipt ring origin tag opcode status result q s).records = s.records :=
  writeReceipt_keeps State.records (fun _ _ => rfl) (fun _ _ => rfl) (fun _ _ => rfl) ring origin tag opcode status result q s
@[simp] theorem writeReceipt_pool (ring origin : Nat) (tag : BitVec 32) (opcode : BitVec 16) (status : Nat) (result : List Byte) (q : Option Nat) (s : State) : (writeReceipt ring origin tag opcode status result q s).pool = s.pool :=
  writeReceipt_keeps State.pool (fun _ _ => rfl) (fun _ _ => rfl) (fun _ _ => rfl) ring origin tag opcode status result q s
@[simp] theorem writeReceipt_home (ring origin : Nat) (tag : BitVec 32) (opcode : BitVec 16) (status : Nat) (result : List Byte) (q : Option Nat) (s : State) : (writeReceipt ring origin tag opcode status result q s).home = s.home :=
  writeReceipt_keeps State.home (fun _ _ => rfl) (fun _ _ => rfl) (fun _ _ => rfl) ring origin tag opcode status result q s
@[simp] theorem writeReceipt_switch (ring origin : Nat) (tag : BitVec 32) (opcode : BitVec 16) (status : Nat) (result : List Byte) (q : Option Nat) (s : State) : (writeReceipt ring origin tag opcode status result q s).switch = s.switch :=
  writeReceipt_keeps State.switch (fun _ _ => rfl) (fun _ _ => rfl) (fun _ _ => rfl) ring origin tag opcode status result q s
@[simp] theorem writeReceipt_ports (ring origin : Nat) (tag : BitVec 32) (opcode : BitVec 16) (status : Nat) (result : List Byte) (q : Option Nat) (s : State) : (writeReceipt ring origin tag opcode status result q s).ports = s.ports :=
  writeReceipt_keeps State.ports (fun _ _ => rfl) (fun _ _ => rfl) (fun _ _ => rfl) ring origin tag opcode status result q s
@[simp] theorem writeReceipt_lanes (ring origin : Nat) (tag : BitVec 32) (opcode : BitVec 16) (status : Nat) (result : List Byte) (q : Option Nat) (s : State) : (writeReceipt ring origin tag opcode status result q s).lanes = s.lanes :=
  writeReceipt_keeps State.lanes (fun _ _ => rfl) (fun _ _ => rfl) (fun _ _ => rfl) ring origin tag opcode status result q s
@[simp] theorem writeReceipt_trunks (ring origin : Nat) (tag : BitVec 32) (opcode : BitVec 16) (status : Nat) (result : List Byte) (q : Option Nat) (s : State) : (writeReceipt ring origin tag opcode status result q s).trunks = s.trunks :=
  writeReceipt_keeps State.trunks (fun _ _ => rfl) (fun _ _ => rfl) (fun _ _ => rfl) ring origin tag opcode status result q s
@[simp] theorem writeReceipt_pair (ring origin : Nat) (tag : BitVec 32) (opcode : BitVec 16) (status : Nat) (result : List Byte) (q : Option Nat) (s : State) : (writeReceipt ring origin tag opcode status result q s).pair = s.pair :=
  writeReceipt_keeps State.pair (fun _ _ => rfl) (fun _ _ => rfl) (fun _ _ => rfl) ring origin tag opcode status result q s
@[simp] theorem writeReceipt_barrow (ring origin : Nat) (tag : BitVec 32) (opcode : BitVec 16) (status : Nat) (result : List Byte) (q : Option Nat) (s : State) : (writeReceipt ring origin tag opcode status result q s).barrow = s.barrow :=
  writeReceipt_keeps State.barrow (fun _ _ => rfl) (fun _ _ => rfl) (fun _ _ => rfl) ring origin tag opcode status result q s
@[simp] theorem writeReceipt_steward (ring origin : Nat) (tag : BitVec 32) (opcode : BitVec 16) (status : Nat) (result : List Byte) (q : Option Nat) (s : State) : (writeReceipt ring origin tag opcode status result q s).steward = s.steward :=
  writeReceipt_keeps State.steward (fun _ _ => rfl) (fun _ _ => rfl) (fun _ _ => rfl) ring origin tag opcode status result q s
@[simp] theorem writeReceipt_dieLink (ring origin : Nat) (tag : BitVec 32) (opcode : BitVec 16) (status : Nat) (result : List Byte) (q : Option Nat) (s : State) : (writeReceipt ring origin tag opcode status result q s).dieLink = s.dieLink :=
  writeReceipt_keeps State.dieLink (fun _ _ => rfl) (fun _ _ => rfl) (fun _ _ => rfl) ring origin tag opcode status result q s
@[simp] theorem writeReceipt_bridge (ring origin : Nat) (tag : BitVec 32) (opcode : BitVec 16) (status : Nat) (result : List Byte) (q : Option Nat) (s : State) : (writeReceipt ring origin tag opcode status result q s).bridge = s.bridge :=
  writeReceipt_keeps State.bridge (fun _ _ => rfl) (fun _ _ => rfl) (fun _ _ => rfl) ring origin tag opcode status result q s
@[simp] theorem writeReceipt_power (ring origin : Nat) (tag : BitVec 32) (opcode : BitVec 16) (status : Nat) (result : List Byte) (q : Option Nat) (s : State) : (writeReceipt ring origin tag opcode status result q s).power = s.power :=
  writeReceipt_keeps State.power (fun _ _ => rfl) (fun _ _ => rfl) (fun _ _ => rfl) ring origin tag opcode status result q s
@[simp] theorem writeReceipt_free (ring origin : Nat) (tag : BitVec 32) (opcode : BitVec 16) (status : Nat) (result : List Byte) (q : Option Nat) (s : State) : (writeReceipt ring origin tag opcode status result q s).free = s.free :=
  writeReceipt_keeps State.free (fun _ _ => rfl) (fun _ _ => rfl) (fun _ _ => rfl) ring origin tag opcode status result q s
@[simp] theorem writeReceipt_pending (ring origin : Nat) (tag : BitVec 32) (opcode : BitVec 16) (status : Nat) (result : List Byte) (q : Option Nat) (s : State) : (writeReceipt ring origin tag opcode status result q s).pending = s.pending :=
  writeReceipt_keeps State.pending (fun _ _ => rfl) (fun _ _ => rfl) (fun _ _ => rfl) ring origin tag opcode status result q s

/-- Writing a receipt that waits. -/
theorem writeDeferred_keeps (p : State → β) (hteller : Blind State.setTeller p) (hevc : Blind State.setEvc p) (hctr : Blind State.setCtr p) (ring : Nat) (s : State) :
    p (writeDeferred ring s) = p s := by
  simp only [Blind] at *
  unfold writeDeferred
  split
  · rfl
  · split
    · rfl
    · simp only [State.modRing, State.modTeller, State.modEvc, State.modCtr, issueReceipt_keeps p hteller hevc hctr, hteller, hevc, hctr]

@[simp] theorem writeDeferred_time (ring : Nat) (s : State) : (writeDeferred ring s).time = s.time :=
  writeDeferred_keeps State.time (fun _ _ => rfl) (fun _ _ => rfl) (fun _ _ => rfl) ring s
@[simp] theorem writeDeferred_dev (ring : Nat) (s : State) : (writeDeferred ring s).dev = s.dev :=
  writeDeferred_keeps State.dev (fun _ _ => rfl) (fun _ _ => rfl) (fun _ _ => rfl) ring s
@[simp] theorem writeDeferred_ledger (ring : Nat) (s : State) : (writeDeferred ring s).ledger = s.ledger :=
  writeDeferred_keeps State.ledger (fun _ _ => rfl) (fun _ _ => rfl) (fun _ _ => rfl) ring s
@[simp] theorem writeDeferred_wear (ring : Nat) (s : State) : (writeDeferred ring s).wear = s.wear :=
  writeDeferred_keeps State.wear (fun _ _ => rfl) (fun _ _ => rfl) (fun _ _ => rfl) ring s
@[simp] theorem writeDeferred_records (ring : Nat) (s : State) : (writeDeferred ring s).records = s.records :=
  writeDeferred_keeps State.records (fun _ _ => rfl) (fun _ _ => rfl) (fun _ _ => rfl) ring s
@[simp] theorem writeDeferred_pool (ring : Nat) (s : State) : (writeDeferred ring s).pool = s.pool :=
  writeDeferred_keeps State.pool (fun _ _ => rfl) (fun _ _ => rfl) (fun _ _ => rfl) ring s
@[simp] theorem writeDeferred_home (ring : Nat) (s : State) : (writeDeferred ring s).home = s.home :=
  writeDeferred_keeps State.home (fun _ _ => rfl) (fun _ _ => rfl) (fun _ _ => rfl) ring s
@[simp] theorem writeDeferred_switch (ring : Nat) (s : State) : (writeDeferred ring s).switch = s.switch :=
  writeDeferred_keeps State.switch (fun _ _ => rfl) (fun _ _ => rfl) (fun _ _ => rfl) ring s
@[simp] theorem writeDeferred_ports (ring : Nat) (s : State) : (writeDeferred ring s).ports = s.ports :=
  writeDeferred_keeps State.ports (fun _ _ => rfl) (fun _ _ => rfl) (fun _ _ => rfl) ring s
@[simp] theorem writeDeferred_lanes (ring : Nat) (s : State) : (writeDeferred ring s).lanes = s.lanes :=
  writeDeferred_keeps State.lanes (fun _ _ => rfl) (fun _ _ => rfl) (fun _ _ => rfl) ring s
@[simp] theorem writeDeferred_trunks (ring : Nat) (s : State) : (writeDeferred ring s).trunks = s.trunks :=
  writeDeferred_keeps State.trunks (fun _ _ => rfl) (fun _ _ => rfl) (fun _ _ => rfl) ring s
@[simp] theorem writeDeferred_pair (ring : Nat) (s : State) : (writeDeferred ring s).pair = s.pair :=
  writeDeferred_keeps State.pair (fun _ _ => rfl) (fun _ _ => rfl) (fun _ _ => rfl) ring s
@[simp] theorem writeDeferred_barrow (ring : Nat) (s : State) : (writeDeferred ring s).barrow = s.barrow :=
  writeDeferred_keeps State.barrow (fun _ _ => rfl) (fun _ _ => rfl) (fun _ _ => rfl) ring s
@[simp] theorem writeDeferred_steward (ring : Nat) (s : State) : (writeDeferred ring s).steward = s.steward :=
  writeDeferred_keeps State.steward (fun _ _ => rfl) (fun _ _ => rfl) (fun _ _ => rfl) ring s
@[simp] theorem writeDeferred_dieLink (ring : Nat) (s : State) : (writeDeferred ring s).dieLink = s.dieLink :=
  writeDeferred_keeps State.dieLink (fun _ _ => rfl) (fun _ _ => rfl) (fun _ _ => rfl) ring s
@[simp] theorem writeDeferred_bridge (ring : Nat) (s : State) : (writeDeferred ring s).bridge = s.bridge :=
  writeDeferred_keeps State.bridge (fun _ _ => rfl) (fun _ _ => rfl) (fun _ _ => rfl) ring s
@[simp] theorem writeDeferred_power (ring : Nat) (s : State) : (writeDeferred ring s).power = s.power :=
  writeDeferred_keeps State.power (fun _ _ => rfl) (fun _ _ => rfl) (fun _ _ => rfl) ring s
@[simp] theorem writeDeferred_free (ring : Nat) (s : State) : (writeDeferred ring s).free = s.free :=
  writeDeferred_keeps State.free (fun _ _ => rfl) (fun _ _ => rfl) (fun _ _ => rfl) ring s
@[simp] theorem writeDeferred_pending (ring : Nat) (s : State) : (writeDeferred ring s).pending = s.pending :=
  writeDeferred_keeps State.pending (fun _ _ => rfl) (fun _ _ => rfl) (fun _ _ => rfl) ring s

/-- Writing a result block. -/
theorem writeBlock_keeps (p : State → β) (hteller : Blind State.setTeller p) (hsteward : Blind State.setSteward p) (c : Command) (result : List Byte) (s : State) :
    p (writeBlock c result s) = p s := by
  simp only [Blind] at *
  unfold writeBlock
  split
  · rfl
  · split
    · simp only [State.modTeller, State.modSteward, hteller, hsteward]
    · split <;> simp only [State.modTeller, State.modSteward, hteller, hsteward]

@[simp] theorem writeBlock_time (c : Command) (result : List Byte) (s : State) : (writeBlock c result s).time = s.time :=
  writeBlock_keeps State.time (fun _ _ => rfl) (fun _ _ => rfl) c result s
@[simp] theorem writeBlock_dev (c : Command) (result : List Byte) (s : State) : (writeBlock c result s).dev = s.dev :=
  writeBlock_keeps State.dev (fun _ _ => rfl) (fun _ _ => rfl) c result s
@[simp] theorem writeBlock_evc (c : Command) (result : List Byte) (s : State) : (writeBlock c result s).evc = s.evc :=
  writeBlock_keeps State.evc (fun _ _ => rfl) (fun _ _ => rfl) c result s
@[simp] theorem writeBlock_ctr (c : Command) (result : List Byte) (s : State) : (writeBlock c result s).ctr = s.ctr :=
  writeBlock_keeps State.ctr (fun _ _ => rfl) (fun _ _ => rfl) c result s
@[simp] theorem writeBlock_ledger (c : Command) (result : List Byte) (s : State) : (writeBlock c result s).ledger = s.ledger :=
  writeBlock_keeps State.ledger (fun _ _ => rfl) (fun _ _ => rfl) c result s
@[simp] theorem writeBlock_wear (c : Command) (result : List Byte) (s : State) : (writeBlock c result s).wear = s.wear :=
  writeBlock_keeps State.wear (fun _ _ => rfl) (fun _ _ => rfl) c result s
@[simp] theorem writeBlock_records (c : Command) (result : List Byte) (s : State) : (writeBlock c result s).records = s.records :=
  writeBlock_keeps State.records (fun _ _ => rfl) (fun _ _ => rfl) c result s
@[simp] theorem writeBlock_pool (c : Command) (result : List Byte) (s : State) : (writeBlock c result s).pool = s.pool :=
  writeBlock_keeps State.pool (fun _ _ => rfl) (fun _ _ => rfl) c result s
@[simp] theorem writeBlock_home (c : Command) (result : List Byte) (s : State) : (writeBlock c result s).home = s.home :=
  writeBlock_keeps State.home (fun _ _ => rfl) (fun _ _ => rfl) c result s
@[simp] theorem writeBlock_switch (c : Command) (result : List Byte) (s : State) : (writeBlock c result s).switch = s.switch :=
  writeBlock_keeps State.switch (fun _ _ => rfl) (fun _ _ => rfl) c result s
@[simp] theorem writeBlock_ports (c : Command) (result : List Byte) (s : State) : (writeBlock c result s).ports = s.ports :=
  writeBlock_keeps State.ports (fun _ _ => rfl) (fun _ _ => rfl) c result s
@[simp] theorem writeBlock_lanes (c : Command) (result : List Byte) (s : State) : (writeBlock c result s).lanes = s.lanes :=
  writeBlock_keeps State.lanes (fun _ _ => rfl) (fun _ _ => rfl) c result s
@[simp] theorem writeBlock_trunks (c : Command) (result : List Byte) (s : State) : (writeBlock c result s).trunks = s.trunks :=
  writeBlock_keeps State.trunks (fun _ _ => rfl) (fun _ _ => rfl) c result s
@[simp] theorem writeBlock_pair (c : Command) (result : List Byte) (s : State) : (writeBlock c result s).pair = s.pair :=
  writeBlock_keeps State.pair (fun _ _ => rfl) (fun _ _ => rfl) c result s
@[simp] theorem writeBlock_barrow (c : Command) (result : List Byte) (s : State) : (writeBlock c result s).barrow = s.barrow :=
  writeBlock_keeps State.barrow (fun _ _ => rfl) (fun _ _ => rfl) c result s
@[simp] theorem writeBlock_dieLink (c : Command) (result : List Byte) (s : State) : (writeBlock c result s).dieLink = s.dieLink :=
  writeBlock_keeps State.dieLink (fun _ _ => rfl) (fun _ _ => rfl) c result s
@[simp] theorem writeBlock_bridge (c : Command) (result : List Byte) (s : State) : (writeBlock c result s).bridge = s.bridge :=
  writeBlock_keeps State.bridge (fun _ _ => rfl) (fun _ _ => rfl) c result s
@[simp] theorem writeBlock_power (c : Command) (result : List Byte) (s : State) : (writeBlock c result s).power = s.power :=
  writeBlock_keeps State.power (fun _ _ => rfl) (fun _ _ => rfl) c result s
@[simp] theorem writeBlock_free (c : Command) (result : List Byte) (s : State) : (writeBlock c result s).free = s.free :=
  writeBlock_keeps State.free (fun _ _ => rfl) (fun _ _ => rfl) c result s
@[simp] theorem writeBlock_pending (c : Command) (result : List Byte) (s : State) : (writeBlock c result s).pending = s.pending :=
  writeBlock_keeps State.pending (fun _ _ => rfl) (fun _ _ => rfl) c result s

/-- A refused PLOT_RESET of ring 15. -/
theorem noteCxlReset_keeps (p : State → β) (hpool : Blind State.setPool p) (c : Command) (status : Nat) (s : State) :
    p (noteCxlReset c status s) = p s := by
  simp only [Blind] at *
  unfold noteCxlReset
  split <;> simp only [State.modPlot, State.modPool, hpool]

@[simp] theorem noteCxlReset_time (c : Command) (status : Nat) (s : State) : (noteCxlReset c status s).time = s.time :=
  noteCxlReset_keeps State.time (fun _ _ => rfl) c status s
@[simp] theorem noteCxlReset_dev (c : Command) (status : Nat) (s : State) : (noteCxlReset c status s).dev = s.dev :=
  noteCxlReset_keeps State.dev (fun _ _ => rfl) c status s
@[simp] theorem noteCxlReset_evc (c : Command) (status : Nat) (s : State) : (noteCxlReset c status s).evc = s.evc :=
  noteCxlReset_keeps State.evc (fun _ _ => rfl) c status s
@[simp] theorem noteCxlReset_ctr (c : Command) (status : Nat) (s : State) : (noteCxlReset c status s).ctr = s.ctr :=
  noteCxlReset_keeps State.ctr (fun _ _ => rfl) c status s
@[simp] theorem noteCxlReset_ledger (c : Command) (status : Nat) (s : State) : (noteCxlReset c status s).ledger = s.ledger :=
  noteCxlReset_keeps State.ledger (fun _ _ => rfl) c status s
@[simp] theorem noteCxlReset_wear (c : Command) (status : Nat) (s : State) : (noteCxlReset c status s).wear = s.wear :=
  noteCxlReset_keeps State.wear (fun _ _ => rfl) c status s
@[simp] theorem noteCxlReset_records (c : Command) (status : Nat) (s : State) : (noteCxlReset c status s).records = s.records :=
  noteCxlReset_keeps State.records (fun _ _ => rfl) c status s
@[simp] theorem noteCxlReset_teller (c : Command) (status : Nat) (s : State) : (noteCxlReset c status s).teller = s.teller :=
  noteCxlReset_keeps State.teller (fun _ _ => rfl) c status s
@[simp] theorem noteCxlReset_home (c : Command) (status : Nat) (s : State) : (noteCxlReset c status s).home = s.home :=
  noteCxlReset_keeps State.home (fun _ _ => rfl) c status s
@[simp] theorem noteCxlReset_switch (c : Command) (status : Nat) (s : State) : (noteCxlReset c status s).switch = s.switch :=
  noteCxlReset_keeps State.switch (fun _ _ => rfl) c status s
@[simp] theorem noteCxlReset_ports (c : Command) (status : Nat) (s : State) : (noteCxlReset c status s).ports = s.ports :=
  noteCxlReset_keeps State.ports (fun _ _ => rfl) c status s
@[simp] theorem noteCxlReset_lanes (c : Command) (status : Nat) (s : State) : (noteCxlReset c status s).lanes = s.lanes :=
  noteCxlReset_keeps State.lanes (fun _ _ => rfl) c status s
@[simp] theorem noteCxlReset_trunks (c : Command) (status : Nat) (s : State) : (noteCxlReset c status s).trunks = s.trunks :=
  noteCxlReset_keeps State.trunks (fun _ _ => rfl) c status s
@[simp] theorem noteCxlReset_pair (c : Command) (status : Nat) (s : State) : (noteCxlReset c status s).pair = s.pair :=
  noteCxlReset_keeps State.pair (fun _ _ => rfl) c status s
@[simp] theorem noteCxlReset_barrow (c : Command) (status : Nat) (s : State) : (noteCxlReset c status s).barrow = s.barrow :=
  noteCxlReset_keeps State.barrow (fun _ _ => rfl) c status s
@[simp] theorem noteCxlReset_steward (c : Command) (status : Nat) (s : State) : (noteCxlReset c status s).steward = s.steward :=
  noteCxlReset_keeps State.steward (fun _ _ => rfl) c status s
@[simp] theorem noteCxlReset_dieLink (c : Command) (status : Nat) (s : State) : (noteCxlReset c status s).dieLink = s.dieLink :=
  noteCxlReset_keeps State.dieLink (fun _ _ => rfl) c status s
@[simp] theorem noteCxlReset_bridge (c : Command) (status : Nat) (s : State) : (noteCxlReset c status s).bridge = s.bridge :=
  noteCxlReset_keeps State.bridge (fun _ _ => rfl) c status s
@[simp] theorem noteCxlReset_power (c : Command) (status : Nat) (s : State) : (noteCxlReset c status s).power = s.power :=
  noteCxlReset_keeps State.power (fun _ _ => rfl) c status s
@[simp] theorem noteCxlReset_free (c : Command) (status : Nat) (s : State) : (noteCxlReset c status s).free = s.free :=
  noteCxlReset_keeps State.free (fun _ _ => rfl) c status s
@[simp] theorem noteCxlReset_pending (c : Command) (status : Nat) (s : State) : (noteCxlReset c status s).pending = s.pending :=
  noteCxlReset_keeps State.pending (fun _ _ => rfl) c status s

/-- Answering a command. -/
theorem answer_keeps (p : State → β) (hpool : Blind State.setPool p) (hsteward : Blind State.setSteward p) (hteller : Blind State.setTeller p) (hevc : Blind State.setEvc p) (hctr : Blind State.setCtr p) (c : Command) (status : Nat) (result : List Byte) (q : Option Nat) (s : State) :
    p (answer c status result q s) = p s := by
  simp only [Blind] at *
  simp only [answer, State.modPool, State.modSteward, State.modTeller, State.modEvc, State.modCtr, writeReceipt_keeps p hteller hevc hctr, writeBlock_keeps p hteller hsteward, noteCxlReset_keeps p hpool, hpool, hsteward, hteller, hevc, hctr]

@[simp] theorem answer_time (c : Command) (status : Nat) (result : List Byte) (q : Option Nat) (s : State) : (answer c status result q s).time = s.time :=
  answer_keeps State.time (fun _ _ => rfl) (fun _ _ => rfl) (fun _ _ => rfl) (fun _ _ => rfl) (fun _ _ => rfl) c status result q s
@[simp] theorem answer_dev (c : Command) (status : Nat) (result : List Byte) (q : Option Nat) (s : State) : (answer c status result q s).dev = s.dev :=
  answer_keeps State.dev (fun _ _ => rfl) (fun _ _ => rfl) (fun _ _ => rfl) (fun _ _ => rfl) (fun _ _ => rfl) c status result q s
@[simp] theorem answer_ledger (c : Command) (status : Nat) (result : List Byte) (q : Option Nat) (s : State) : (answer c status result q s).ledger = s.ledger :=
  answer_keeps State.ledger (fun _ _ => rfl) (fun _ _ => rfl) (fun _ _ => rfl) (fun _ _ => rfl) (fun _ _ => rfl) c status result q s
@[simp] theorem answer_wear (c : Command) (status : Nat) (result : List Byte) (q : Option Nat) (s : State) : (answer c status result q s).wear = s.wear :=
  answer_keeps State.wear (fun _ _ => rfl) (fun _ _ => rfl) (fun _ _ => rfl) (fun _ _ => rfl) (fun _ _ => rfl) c status result q s
@[simp] theorem answer_records (c : Command) (status : Nat) (result : List Byte) (q : Option Nat) (s : State) : (answer c status result q s).records = s.records :=
  answer_keeps State.records (fun _ _ => rfl) (fun _ _ => rfl) (fun _ _ => rfl) (fun _ _ => rfl) (fun _ _ => rfl) c status result q s
@[simp] theorem answer_home (c : Command) (status : Nat) (result : List Byte) (q : Option Nat) (s : State) : (answer c status result q s).home = s.home :=
  answer_keeps State.home (fun _ _ => rfl) (fun _ _ => rfl) (fun _ _ => rfl) (fun _ _ => rfl) (fun _ _ => rfl) c status result q s
@[simp] theorem answer_switch (c : Command) (status : Nat) (result : List Byte) (q : Option Nat) (s : State) : (answer c status result q s).switch = s.switch :=
  answer_keeps State.switch (fun _ _ => rfl) (fun _ _ => rfl) (fun _ _ => rfl) (fun _ _ => rfl) (fun _ _ => rfl) c status result q s
@[simp] theorem answer_ports (c : Command) (status : Nat) (result : List Byte) (q : Option Nat) (s : State) : (answer c status result q s).ports = s.ports :=
  answer_keeps State.ports (fun _ _ => rfl) (fun _ _ => rfl) (fun _ _ => rfl) (fun _ _ => rfl) (fun _ _ => rfl) c status result q s
@[simp] theorem answer_lanes (c : Command) (status : Nat) (result : List Byte) (q : Option Nat) (s : State) : (answer c status result q s).lanes = s.lanes :=
  answer_keeps State.lanes (fun _ _ => rfl) (fun _ _ => rfl) (fun _ _ => rfl) (fun _ _ => rfl) (fun _ _ => rfl) c status result q s
@[simp] theorem answer_trunks (c : Command) (status : Nat) (result : List Byte) (q : Option Nat) (s : State) : (answer c status result q s).trunks = s.trunks :=
  answer_keeps State.trunks (fun _ _ => rfl) (fun _ _ => rfl) (fun _ _ => rfl) (fun _ _ => rfl) (fun _ _ => rfl) c status result q s
@[simp] theorem answer_pair (c : Command) (status : Nat) (result : List Byte) (q : Option Nat) (s : State) : (answer c status result q s).pair = s.pair :=
  answer_keeps State.pair (fun _ _ => rfl) (fun _ _ => rfl) (fun _ _ => rfl) (fun _ _ => rfl) (fun _ _ => rfl) c status result q s
@[simp] theorem answer_barrow (c : Command) (status : Nat) (result : List Byte) (q : Option Nat) (s : State) : (answer c status result q s).barrow = s.barrow :=
  answer_keeps State.barrow (fun _ _ => rfl) (fun _ _ => rfl) (fun _ _ => rfl) (fun _ _ => rfl) (fun _ _ => rfl) c status result q s
@[simp] theorem answer_dieLink (c : Command) (status : Nat) (result : List Byte) (q : Option Nat) (s : State) : (answer c status result q s).dieLink = s.dieLink :=
  answer_keeps State.dieLink (fun _ _ => rfl) (fun _ _ => rfl) (fun _ _ => rfl) (fun _ _ => rfl) (fun _ _ => rfl) c status result q s
@[simp] theorem answer_bridge (c : Command) (status : Nat) (result : List Byte) (q : Option Nat) (s : State) : (answer c status result q s).bridge = s.bridge :=
  answer_keeps State.bridge (fun _ _ => rfl) (fun _ _ => rfl) (fun _ _ => rfl) (fun _ _ => rfl) (fun _ _ => rfl) c status result q s
@[simp] theorem answer_power (c : Command) (status : Nat) (result : List Byte) (q : Option Nat) (s : State) : (answer c status result q s).power = s.power :=
  answer_keeps State.power (fun _ _ => rfl) (fun _ _ => rfl) (fun _ _ => rfl) (fun _ _ => rfl) (fun _ _ => rfl) c status result q s
@[simp] theorem answer_free (c : Command) (status : Nat) (result : List Byte) (q : Option Nat) (s : State) : (answer c status result q s).free = s.free :=
  answer_keeps State.free (fun _ _ => rfl) (fun _ _ => rfl) (fun _ _ => rfl) (fun _ _ => rfl) (fun _ _ => rfl) c status result q s
@[simp] theorem answer_pending (c : Command) (status : Nat) (result : List Byte) (q : Option Nat) (s : State) : (answer c status result q s).pending = s.pending :=
  answer_keeps State.pending (fun _ _ => rfl) (fun _ _ => rfl) (fun _ _ => rfl) (fun _ _ => rfl) (fun _ _ => rfl) c status result q s

/-- Answering a command that has just started. -/
theorem answerStart_keeps (p : State → β) (hpool : Blind State.setPool p) (hsteward : Blind State.setSteward p) (hteller : Blind State.setTeller p) (hevc : Blind State.setEvc p) (hctr : Blind State.setCtr p) (c : Command) (status : Nat) (result : List Byte) (s : State) :
    p (answerStart c status result s) = p s := by
  simp only [Blind] at *
  simp only [answerStart, State.modPool, State.modSteward, State.modTeller, State.modEvc, State.modCtr, answer_keeps p hpool hsteward hteller hevc hctr, hpool, hsteward, hteller, hevc, hctr]

@[simp] theorem answerStart_time (c : Command) (status : Nat) (result : List Byte) (s : State) : (answerStart c status result s).time = s.time :=
  answerStart_keeps State.time (fun _ _ => rfl) (fun _ _ => rfl) (fun _ _ => rfl) (fun _ _ => rfl) (fun _ _ => rfl) c status result s
@[simp] theorem answerStart_dev (c : Command) (status : Nat) (result : List Byte) (s : State) : (answerStart c status result s).dev = s.dev :=
  answerStart_keeps State.dev (fun _ _ => rfl) (fun _ _ => rfl) (fun _ _ => rfl) (fun _ _ => rfl) (fun _ _ => rfl) c status result s
@[simp] theorem answerStart_ledger (c : Command) (status : Nat) (result : List Byte) (s : State) : (answerStart c status result s).ledger = s.ledger :=
  answerStart_keeps State.ledger (fun _ _ => rfl) (fun _ _ => rfl) (fun _ _ => rfl) (fun _ _ => rfl) (fun _ _ => rfl) c status result s
@[simp] theorem answerStart_wear (c : Command) (status : Nat) (result : List Byte) (s : State) : (answerStart c status result s).wear = s.wear :=
  answerStart_keeps State.wear (fun _ _ => rfl) (fun _ _ => rfl) (fun _ _ => rfl) (fun _ _ => rfl) (fun _ _ => rfl) c status result s
@[simp] theorem answerStart_records (c : Command) (status : Nat) (result : List Byte) (s : State) : (answerStart c status result s).records = s.records :=
  answerStart_keeps State.records (fun _ _ => rfl) (fun _ _ => rfl) (fun _ _ => rfl) (fun _ _ => rfl) (fun _ _ => rfl) c status result s
@[simp] theorem answerStart_home (c : Command) (status : Nat) (result : List Byte) (s : State) : (answerStart c status result s).home = s.home :=
  answerStart_keeps State.home (fun _ _ => rfl) (fun _ _ => rfl) (fun _ _ => rfl) (fun _ _ => rfl) (fun _ _ => rfl) c status result s
@[simp] theorem answerStart_switch (c : Command) (status : Nat) (result : List Byte) (s : State) : (answerStart c status result s).switch = s.switch :=
  answerStart_keeps State.switch (fun _ _ => rfl) (fun _ _ => rfl) (fun _ _ => rfl) (fun _ _ => rfl) (fun _ _ => rfl) c status result s
@[simp] theorem answerStart_ports (c : Command) (status : Nat) (result : List Byte) (s : State) : (answerStart c status result s).ports = s.ports :=
  answerStart_keeps State.ports (fun _ _ => rfl) (fun _ _ => rfl) (fun _ _ => rfl) (fun _ _ => rfl) (fun _ _ => rfl) c status result s
@[simp] theorem answerStart_lanes (c : Command) (status : Nat) (result : List Byte) (s : State) : (answerStart c status result s).lanes = s.lanes :=
  answerStart_keeps State.lanes (fun _ _ => rfl) (fun _ _ => rfl) (fun _ _ => rfl) (fun _ _ => rfl) (fun _ _ => rfl) c status result s
@[simp] theorem answerStart_trunks (c : Command) (status : Nat) (result : List Byte) (s : State) : (answerStart c status result s).trunks = s.trunks :=
  answerStart_keeps State.trunks (fun _ _ => rfl) (fun _ _ => rfl) (fun _ _ => rfl) (fun _ _ => rfl) (fun _ _ => rfl) c status result s
@[simp] theorem answerStart_pair (c : Command) (status : Nat) (result : List Byte) (s : State) : (answerStart c status result s).pair = s.pair :=
  answerStart_keeps State.pair (fun _ _ => rfl) (fun _ _ => rfl) (fun _ _ => rfl) (fun _ _ => rfl) (fun _ _ => rfl) c status result s
@[simp] theorem answerStart_barrow (c : Command) (status : Nat) (result : List Byte) (s : State) : (answerStart c status result s).barrow = s.barrow :=
  answerStart_keeps State.barrow (fun _ _ => rfl) (fun _ _ => rfl) (fun _ _ => rfl) (fun _ _ => rfl) (fun _ _ => rfl) c status result s
@[simp] theorem answerStart_dieLink (c : Command) (status : Nat) (result : List Byte) (s : State) : (answerStart c status result s).dieLink = s.dieLink :=
  answerStart_keeps State.dieLink (fun _ _ => rfl) (fun _ _ => rfl) (fun _ _ => rfl) (fun _ _ => rfl) (fun _ _ => rfl) c status result s
@[simp] theorem answerStart_bridge (c : Command) (status : Nat) (result : List Byte) (s : State) : (answerStart c status result s).bridge = s.bridge :=
  answerStart_keeps State.bridge (fun _ _ => rfl) (fun _ _ => rfl) (fun _ _ => rfl) (fun _ _ => rfl) (fun _ _ => rfl) c status result s
@[simp] theorem answerStart_power (c : Command) (status : Nat) (result : List Byte) (s : State) : (answerStart c status result s).power = s.power :=
  answerStart_keeps State.power (fun _ _ => rfl) (fun _ _ => rfl) (fun _ _ => rfl) (fun _ _ => rfl) (fun _ _ => rfl) c status result s
@[simp] theorem answerStart_free (c : Command) (status : Nat) (result : List Byte) (s : State) : (answerStart c status result s).free = s.free :=
  answerStart_keeps State.free (fun _ _ => rfl) (fun _ _ => rfl) (fun _ _ => rfl) (fun _ _ => rfl) (fun _ _ => rfl) c status result s
@[simp] theorem answerStart_pending (c : Command) (status : Nat) (result : List Byte) (s : State) : (answerStart c status result s).pending = s.pending :=
  answerStart_keeps State.pending (fun _ _ => rfl) (fun _ _ => rfl) (fun _ _ => rfl) (fun _ _ => rfl) (fun _ _ => rfl) c status result s

/-- A new job. -/
theorem addJob_keeps (p : State → β) (hteller : Blind State.setTeller p) (c : Command) (k : JobKind) (b : Bool) (s : State) :
    p (addJob c k b s) = p s := by
  simp only [Blind] at *
  simp only [addJob, State.modTeller, hteller]

@[simp] theorem addJob_time (c : Command) (k : JobKind) (b : Bool) (s : State) : (addJob c k b s).time = s.time :=
  addJob_keeps State.time (fun _ _ => rfl) c k b s
@[simp] theorem addJob_dev (c : Command) (k : JobKind) (b : Bool) (s : State) : (addJob c k b s).dev = s.dev :=
  addJob_keeps State.dev (fun _ _ => rfl) c k b s
@[simp] theorem addJob_evc (c : Command) (k : JobKind) (b : Bool) (s : State) : (addJob c k b s).evc = s.evc :=
  addJob_keeps State.evc (fun _ _ => rfl) c k b s
@[simp] theorem addJob_ctr (c : Command) (k : JobKind) (b : Bool) (s : State) : (addJob c k b s).ctr = s.ctr :=
  addJob_keeps State.ctr (fun _ _ => rfl) c k b s
@[simp] theorem addJob_ledger (c : Command) (k : JobKind) (b : Bool) (s : State) : (addJob c k b s).ledger = s.ledger :=
  addJob_keeps State.ledger (fun _ _ => rfl) c k b s
@[simp] theorem addJob_wear (c : Command) (k : JobKind) (b : Bool) (s : State) : (addJob c k b s).wear = s.wear :=
  addJob_keeps State.wear (fun _ _ => rfl) c k b s
@[simp] theorem addJob_records (c : Command) (k : JobKind) (b : Bool) (s : State) : (addJob c k b s).records = s.records :=
  addJob_keeps State.records (fun _ _ => rfl) c k b s
@[simp] theorem addJob_pool (c : Command) (k : JobKind) (b : Bool) (s : State) : (addJob c k b s).pool = s.pool :=
  addJob_keeps State.pool (fun _ _ => rfl) c k b s
@[simp] theorem addJob_home (c : Command) (k : JobKind) (b : Bool) (s : State) : (addJob c k b s).home = s.home :=
  addJob_keeps State.home (fun _ _ => rfl) c k b s
@[simp] theorem addJob_switch (c : Command) (k : JobKind) (b : Bool) (s : State) : (addJob c k b s).switch = s.switch :=
  addJob_keeps State.switch (fun _ _ => rfl) c k b s
@[simp] theorem addJob_ports (c : Command) (k : JobKind) (b : Bool) (s : State) : (addJob c k b s).ports = s.ports :=
  addJob_keeps State.ports (fun _ _ => rfl) c k b s
@[simp] theorem addJob_lanes (c : Command) (k : JobKind) (b : Bool) (s : State) : (addJob c k b s).lanes = s.lanes :=
  addJob_keeps State.lanes (fun _ _ => rfl) c k b s
@[simp] theorem addJob_trunks (c : Command) (k : JobKind) (b : Bool) (s : State) : (addJob c k b s).trunks = s.trunks :=
  addJob_keeps State.trunks (fun _ _ => rfl) c k b s
@[simp] theorem addJob_pair (c : Command) (k : JobKind) (b : Bool) (s : State) : (addJob c k b s).pair = s.pair :=
  addJob_keeps State.pair (fun _ _ => rfl) c k b s
@[simp] theorem addJob_barrow (c : Command) (k : JobKind) (b : Bool) (s : State) : (addJob c k b s).barrow = s.barrow :=
  addJob_keeps State.barrow (fun _ _ => rfl) c k b s
@[simp] theorem addJob_steward (c : Command) (k : JobKind) (b : Bool) (s : State) : (addJob c k b s).steward = s.steward :=
  addJob_keeps State.steward (fun _ _ => rfl) c k b s
@[simp] theorem addJob_dieLink (c : Command) (k : JobKind) (b : Bool) (s : State) : (addJob c k b s).dieLink = s.dieLink :=
  addJob_keeps State.dieLink (fun _ _ => rfl) c k b s
@[simp] theorem addJob_bridge (c : Command) (k : JobKind) (b : Bool) (s : State) : (addJob c k b s).bridge = s.bridge :=
  addJob_keeps State.bridge (fun _ _ => rfl) c k b s
@[simp] theorem addJob_power (c : Command) (k : JobKind) (b : Bool) (s : State) : (addJob c k b s).power = s.power :=
  addJob_keeps State.power (fun _ _ => rfl) c k b s
@[simp] theorem addJob_free (c : Command) (k : JobKind) (b : Bool) (s : State) : (addJob c k b s).free = s.free :=
  addJob_keeps State.free (fun _ _ => rfl) c k b s
@[simp] theorem addJob_pending (c : Command) (k : JobKind) (b : Bool) (s : State) : (addJob c k b s).pending = s.pending :=
  addJob_keeps State.pending (fun _ _ => rfl) c k b s

/-- Final receipts of jobs. -/
theorem finishJobs_keeps (p : State → β) (hteller : Blind State.setTeller p) (hevc : Blind State.setEvc p) (hctr : Blind State.setCtr p) (q : JobKind → Bool) (status : Nat) (result : List Byte) (s : State) :
    p (finishJobs q status result s) = p s := by
  simp only [Blind] at *
  unfold finishJobs
  dsimp only
  rw [forEach_keeps p _ _ (by intro x t; simp only [State.modTeller, State.modEvc, State.modCtr, writeReceipt_keeps p hteller hevc hctr, hteller, hevc, hctr])]
  simp only [State.modTeller, State.modEvc, State.modCtr, writeReceipt_keeps p hteller hevc hctr, hteller, hevc, hctr]

@[simp] theorem finishJobs_time (q : JobKind → Bool) (status : Nat) (result : List Byte) (s : State) : (finishJobs q status result s).time = s.time :=
  finishJobs_keeps State.time (fun _ _ => rfl) (fun _ _ => rfl) (fun _ _ => rfl) q status result s
@[simp] theorem finishJobs_dev (q : JobKind → Bool) (status : Nat) (result : List Byte) (s : State) : (finishJobs q status result s).dev = s.dev :=
  finishJobs_keeps State.dev (fun _ _ => rfl) (fun _ _ => rfl) (fun _ _ => rfl) q status result s
@[simp] theorem finishJobs_ledger (q : JobKind → Bool) (status : Nat) (result : List Byte) (s : State) : (finishJobs q status result s).ledger = s.ledger :=
  finishJobs_keeps State.ledger (fun _ _ => rfl) (fun _ _ => rfl) (fun _ _ => rfl) q status result s
@[simp] theorem finishJobs_wear (q : JobKind → Bool) (status : Nat) (result : List Byte) (s : State) : (finishJobs q status result s).wear = s.wear :=
  finishJobs_keeps State.wear (fun _ _ => rfl) (fun _ _ => rfl) (fun _ _ => rfl) q status result s
@[simp] theorem finishJobs_records (q : JobKind → Bool) (status : Nat) (result : List Byte) (s : State) : (finishJobs q status result s).records = s.records :=
  finishJobs_keeps State.records (fun _ _ => rfl) (fun _ _ => rfl) (fun _ _ => rfl) q status result s
@[simp] theorem finishJobs_pool (q : JobKind → Bool) (status : Nat) (result : List Byte) (s : State) : (finishJobs q status result s).pool = s.pool :=
  finishJobs_keeps State.pool (fun _ _ => rfl) (fun _ _ => rfl) (fun _ _ => rfl) q status result s
@[simp] theorem finishJobs_home (q : JobKind → Bool) (status : Nat) (result : List Byte) (s : State) : (finishJobs q status result s).home = s.home :=
  finishJobs_keeps State.home (fun _ _ => rfl) (fun _ _ => rfl) (fun _ _ => rfl) q status result s
@[simp] theorem finishJobs_switch (q : JobKind → Bool) (status : Nat) (result : List Byte) (s : State) : (finishJobs q status result s).switch = s.switch :=
  finishJobs_keeps State.switch (fun _ _ => rfl) (fun _ _ => rfl) (fun _ _ => rfl) q status result s
@[simp] theorem finishJobs_ports (q : JobKind → Bool) (status : Nat) (result : List Byte) (s : State) : (finishJobs q status result s).ports = s.ports :=
  finishJobs_keeps State.ports (fun _ _ => rfl) (fun _ _ => rfl) (fun _ _ => rfl) q status result s
@[simp] theorem finishJobs_lanes (q : JobKind → Bool) (status : Nat) (result : List Byte) (s : State) : (finishJobs q status result s).lanes = s.lanes :=
  finishJobs_keeps State.lanes (fun _ _ => rfl) (fun _ _ => rfl) (fun _ _ => rfl) q status result s
@[simp] theorem finishJobs_trunks (q : JobKind → Bool) (status : Nat) (result : List Byte) (s : State) : (finishJobs q status result s).trunks = s.trunks :=
  finishJobs_keeps State.trunks (fun _ _ => rfl) (fun _ _ => rfl) (fun _ _ => rfl) q status result s
@[simp] theorem finishJobs_pair (q : JobKind → Bool) (status : Nat) (result : List Byte) (s : State) : (finishJobs q status result s).pair = s.pair :=
  finishJobs_keeps State.pair (fun _ _ => rfl) (fun _ _ => rfl) (fun _ _ => rfl) q status result s
@[simp] theorem finishJobs_barrow (q : JobKind → Bool) (status : Nat) (result : List Byte) (s : State) : (finishJobs q status result s).barrow = s.barrow :=
  finishJobs_keeps State.barrow (fun _ _ => rfl) (fun _ _ => rfl) (fun _ _ => rfl) q status result s
@[simp] theorem finishJobs_steward (q : JobKind → Bool) (status : Nat) (result : List Byte) (s : State) : (finishJobs q status result s).steward = s.steward :=
  finishJobs_keeps State.steward (fun _ _ => rfl) (fun _ _ => rfl) (fun _ _ => rfl) q status result s
@[simp] theorem finishJobs_dieLink (q : JobKind → Bool) (status : Nat) (result : List Byte) (s : State) : (finishJobs q status result s).dieLink = s.dieLink :=
  finishJobs_keeps State.dieLink (fun _ _ => rfl) (fun _ _ => rfl) (fun _ _ => rfl) q status result s
@[simp] theorem finishJobs_bridge (q : JobKind → Bool) (status : Nat) (result : List Byte) (s : State) : (finishJobs q status result s).bridge = s.bridge :=
  finishJobs_keeps State.bridge (fun _ _ => rfl) (fun _ _ => rfl) (fun _ _ => rfl) q status result s
@[simp] theorem finishJobs_power (q : JobKind → Bool) (status : Nat) (result : List Byte) (s : State) : (finishJobs q status result s).power = s.power :=
  finishJobs_keeps State.power (fun _ _ => rfl) (fun _ _ => rfl) (fun _ _ => rfl) q status result s
@[simp] theorem finishJobs_free (q : JobKind → Bool) (status : Nat) (result : List Byte) (s : State) : (finishJobs q status result s).free = s.free :=
  finishJobs_keeps State.free (fun _ _ => rfl) (fun _ _ => rfl) (fun _ _ => rfl) q status result s
@[simp] theorem finishJobs_pending (q : JobKind → Bool) (status : Nat) (result : List Byte) (s : State) : (finishJobs q status result s).pending = s.pending :=
  finishJobs_keeps State.pending (fun _ _ => rfl) (fun _ _ => rfl) (fun _ _ => rfl) q status result s

/-- The final receipt of a job. -/
theorem finishJob_keeps (p : State → β) (hteller : Blind State.setTeller p) (hevc : Blind State.setEvc p) (hctr : Blind State.setCtr p) (k : JobKind) (status : Nat) (result : List Byte) (s : State) :
    p (finishJob k status result s) = p s := by
  simp only [Blind] at *
  simp only [finishJob, State.modTeller, State.modEvc, State.modCtr, finishJobs_keeps p hteller hevc hctr, hteller, hevc, hctr]

@[simp] theorem finishJob_time (k : JobKind) (status : Nat) (result : List Byte) (s : State) : (finishJob k status result s).time = s.time :=
  finishJob_keeps State.time (fun _ _ => rfl) (fun _ _ => rfl) (fun _ _ => rfl) k status result s
@[simp] theorem finishJob_dev (k : JobKind) (status : Nat) (result : List Byte) (s : State) : (finishJob k status result s).dev = s.dev :=
  finishJob_keeps State.dev (fun _ _ => rfl) (fun _ _ => rfl) (fun _ _ => rfl) k status result s
@[simp] theorem finishJob_ledger (k : JobKind) (status : Nat) (result : List Byte) (s : State) : (finishJob k status result s).ledger = s.ledger :=
  finishJob_keeps State.ledger (fun _ _ => rfl) (fun _ _ => rfl) (fun _ _ => rfl) k status result s
@[simp] theorem finishJob_wear (k : JobKind) (status : Nat) (result : List Byte) (s : State) : (finishJob k status result s).wear = s.wear :=
  finishJob_keeps State.wear (fun _ _ => rfl) (fun _ _ => rfl) (fun _ _ => rfl) k status result s
@[simp] theorem finishJob_records (k : JobKind) (status : Nat) (result : List Byte) (s : State) : (finishJob k status result s).records = s.records :=
  finishJob_keeps State.records (fun _ _ => rfl) (fun _ _ => rfl) (fun _ _ => rfl) k status result s
@[simp] theorem finishJob_pool (k : JobKind) (status : Nat) (result : List Byte) (s : State) : (finishJob k status result s).pool = s.pool :=
  finishJob_keeps State.pool (fun _ _ => rfl) (fun _ _ => rfl) (fun _ _ => rfl) k status result s
@[simp] theorem finishJob_home (k : JobKind) (status : Nat) (result : List Byte) (s : State) : (finishJob k status result s).home = s.home :=
  finishJob_keeps State.home (fun _ _ => rfl) (fun _ _ => rfl) (fun _ _ => rfl) k status result s
@[simp] theorem finishJob_switch (k : JobKind) (status : Nat) (result : List Byte) (s : State) : (finishJob k status result s).switch = s.switch :=
  finishJob_keeps State.switch (fun _ _ => rfl) (fun _ _ => rfl) (fun _ _ => rfl) k status result s
@[simp] theorem finishJob_ports (k : JobKind) (status : Nat) (result : List Byte) (s : State) : (finishJob k status result s).ports = s.ports :=
  finishJob_keeps State.ports (fun _ _ => rfl) (fun _ _ => rfl) (fun _ _ => rfl) k status result s
@[simp] theorem finishJob_lanes (k : JobKind) (status : Nat) (result : List Byte) (s : State) : (finishJob k status result s).lanes = s.lanes :=
  finishJob_keeps State.lanes (fun _ _ => rfl) (fun _ _ => rfl) (fun _ _ => rfl) k status result s
@[simp] theorem finishJob_trunks (k : JobKind) (status : Nat) (result : List Byte) (s : State) : (finishJob k status result s).trunks = s.trunks :=
  finishJob_keeps State.trunks (fun _ _ => rfl) (fun _ _ => rfl) (fun _ _ => rfl) k status result s
@[simp] theorem finishJob_pair (k : JobKind) (status : Nat) (result : List Byte) (s : State) : (finishJob k status result s).pair = s.pair :=
  finishJob_keeps State.pair (fun _ _ => rfl) (fun _ _ => rfl) (fun _ _ => rfl) k status result s
@[simp] theorem finishJob_barrow (k : JobKind) (status : Nat) (result : List Byte) (s : State) : (finishJob k status result s).barrow = s.barrow :=
  finishJob_keeps State.barrow (fun _ _ => rfl) (fun _ _ => rfl) (fun _ _ => rfl) k status result s
@[simp] theorem finishJob_steward (k : JobKind) (status : Nat) (result : List Byte) (s : State) : (finishJob k status result s).steward = s.steward :=
  finishJob_keeps State.steward (fun _ _ => rfl) (fun _ _ => rfl) (fun _ _ => rfl) k status result s
@[simp] theorem finishJob_dieLink (k : JobKind) (status : Nat) (result : List Byte) (s : State) : (finishJob k status result s).dieLink = s.dieLink :=
  finishJob_keeps State.dieLink (fun _ _ => rfl) (fun _ _ => rfl) (fun _ _ => rfl) k status result s
@[simp] theorem finishJob_bridge (k : JobKind) (status : Nat) (result : List Byte) (s : State) : (finishJob k status result s).bridge = s.bridge :=
  finishJob_keeps State.bridge (fun _ _ => rfl) (fun _ _ => rfl) (fun _ _ => rfl) k status result s
@[simp] theorem finishJob_power (k : JobKind) (status : Nat) (result : List Byte) (s : State) : (finishJob k status result s).power = s.power :=
  finishJob_keeps State.power (fun _ _ => rfl) (fun _ _ => rfl) (fun _ _ => rfl) k status result s
@[simp] theorem finishJob_free (k : JobKind) (status : Nat) (result : List Byte) (s : State) : (finishJob k status result s).free = s.free :=
  finishJob_keeps State.free (fun _ _ => rfl) (fun _ _ => rfl) (fun _ _ => rfl) k status result s
@[simp] theorem finishJob_pending (k : JobKind) (status : Nat) (result : List Byte) (s : State) : (finishJob k status result s).pending = s.pending :=
  finishJob_keeps State.pending (fun _ _ => rfl) (fun _ _ => rfl) (fun _ _ => rfl) k status result s

/-- Sending a mirror record, whether or not an action waits for it. -/
theorem mirrorAs_keeps (p : State → β) (hpair : Blind State.setPair p) (hswitch : Blind State.setSwitch p) (hevc : Blind State.setEvc p) (hctr : Blind State.setCtr p) (w : Bool) (u bed line : Nat) (b : MirrorBody) (s : State) :
    p (mirrorAs w u bed line b s) = p s := by
  simp only [Blind] at *
  unfold mirrorAs
  dsimp only
  split <;> simp only [State.modUnit, State.modPair, State.modSwitch, State.modEvc, State.modCtr, enqueueCell_keeps p hswitch hevc hctr, count_keeps p hevc hctr, hpair, hswitch, hevc, hctr]

/-- Sending a mirror record changes the pair, the switch core, the event controller and the counters only. -/
theorem mirrorSend_keeps (p : State → β) (hpair : Blind State.setPair p) (hswitch : Blind State.setSwitch p) (hevc : Blind State.setEvc p) (hctr : Blind State.setCtr p) (u bed line : Nat) (b : MirrorBody) (s : State) :
    p (mirrorSend u bed line b s) = p s := by
  exact mirrorAs_keeps p hpair hswitch hevc hctr true u bed line b s

@[simp] theorem mirrorSend_time (u bed line : Nat) (b : MirrorBody) (s : State) : (mirrorSend u bed line b s).time = s.time :=
  mirrorSend_keeps State.time (fun _ _ => rfl) (fun _ _ => rfl) (fun _ _ => rfl) (fun _ _ => rfl) u bed line b s
@[simp] theorem mirrorSend_dev (u bed line : Nat) (b : MirrorBody) (s : State) : (mirrorSend u bed line b s).dev = s.dev :=
  mirrorSend_keeps State.dev (fun _ _ => rfl) (fun _ _ => rfl) (fun _ _ => rfl) (fun _ _ => rfl) u bed line b s
@[simp] theorem mirrorSend_ledger (u bed line : Nat) (b : MirrorBody) (s : State) : (mirrorSend u bed line b s).ledger = s.ledger :=
  mirrorSend_keeps State.ledger (fun _ _ => rfl) (fun _ _ => rfl) (fun _ _ => rfl) (fun _ _ => rfl) u bed line b s
@[simp] theorem mirrorSend_wear (u bed line : Nat) (b : MirrorBody) (s : State) : (mirrorSend u bed line b s).wear = s.wear :=
  mirrorSend_keeps State.wear (fun _ _ => rfl) (fun _ _ => rfl) (fun _ _ => rfl) (fun _ _ => rfl) u bed line b s
@[simp] theorem mirrorSend_records (u bed line : Nat) (b : MirrorBody) (s : State) : (mirrorSend u bed line b s).records = s.records :=
  mirrorSend_keeps State.records (fun _ _ => rfl) (fun _ _ => rfl) (fun _ _ => rfl) (fun _ _ => rfl) u bed line b s
@[simp] theorem mirrorSend_teller (u bed line : Nat) (b : MirrorBody) (s : State) : (mirrorSend u bed line b s).teller = s.teller :=
  mirrorSend_keeps State.teller (fun _ _ => rfl) (fun _ _ => rfl) (fun _ _ => rfl) (fun _ _ => rfl) u bed line b s
@[simp] theorem mirrorSend_pool (u bed line : Nat) (b : MirrorBody) (s : State) : (mirrorSend u bed line b s).pool = s.pool :=
  mirrorSend_keeps State.pool (fun _ _ => rfl) (fun _ _ => rfl) (fun _ _ => rfl) (fun _ _ => rfl) u bed line b s
@[simp] theorem mirrorSend_home (u bed line : Nat) (b : MirrorBody) (s : State) : (mirrorSend u bed line b s).home = s.home :=
  mirrorSend_keeps State.home (fun _ _ => rfl) (fun _ _ => rfl) (fun _ _ => rfl) (fun _ _ => rfl) u bed line b s
@[simp] theorem mirrorSend_ports (u bed line : Nat) (b : MirrorBody) (s : State) : (mirrorSend u bed line b s).ports = s.ports :=
  mirrorSend_keeps State.ports (fun _ _ => rfl) (fun _ _ => rfl) (fun _ _ => rfl) (fun _ _ => rfl) u bed line b s
@[simp] theorem mirrorSend_lanes (u bed line : Nat) (b : MirrorBody) (s : State) : (mirrorSend u bed line b s).lanes = s.lanes :=
  mirrorSend_keeps State.lanes (fun _ _ => rfl) (fun _ _ => rfl) (fun _ _ => rfl) (fun _ _ => rfl) u bed line b s
@[simp] theorem mirrorSend_trunks (u bed line : Nat) (b : MirrorBody) (s : State) : (mirrorSend u bed line b s).trunks = s.trunks :=
  mirrorSend_keeps State.trunks (fun _ _ => rfl) (fun _ _ => rfl) (fun _ _ => rfl) (fun _ _ => rfl) u bed line b s
@[simp] theorem mirrorSend_barrow (u bed line : Nat) (b : MirrorBody) (s : State) : (mirrorSend u bed line b s).barrow = s.barrow :=
  mirrorSend_keeps State.barrow (fun _ _ => rfl) (fun _ _ => rfl) (fun _ _ => rfl) (fun _ _ => rfl) u bed line b s
@[simp] theorem mirrorSend_steward (u bed line : Nat) (b : MirrorBody) (s : State) : (mirrorSend u bed line b s).steward = s.steward :=
  mirrorSend_keeps State.steward (fun _ _ => rfl) (fun _ _ => rfl) (fun _ _ => rfl) (fun _ _ => rfl) u bed line b s
@[simp] theorem mirrorSend_dieLink (u bed line : Nat) (b : MirrorBody) (s : State) : (mirrorSend u bed line b s).dieLink = s.dieLink :=
  mirrorSend_keeps State.dieLink (fun _ _ => rfl) (fun _ _ => rfl) (fun _ _ => rfl) (fun _ _ => rfl) u bed line b s
@[simp] theorem mirrorSend_bridge (u bed line : Nat) (b : MirrorBody) (s : State) : (mirrorSend u bed line b s).bridge = s.bridge :=
  mirrorSend_keeps State.bridge (fun _ _ => rfl) (fun _ _ => rfl) (fun _ _ => rfl) (fun _ _ => rfl) u bed line b s
@[simp] theorem mirrorSend_power (u bed line : Nat) (b : MirrorBody) (s : State) : (mirrorSend u bed line b s).power = s.power :=
  mirrorSend_keeps State.power (fun _ _ => rfl) (fun _ _ => rfl) (fun _ _ => rfl) (fun _ _ => rfl) u bed line b s
@[simp] theorem mirrorSend_free (u bed line : Nat) (b : MirrorBody) (s : State) : (mirrorSend u bed line b s).free = s.free :=
  mirrorSend_keeps State.free (fun _ _ => rfl) (fun _ _ => rfl) (fun _ _ => rfl) (fun _ _ => rfl) u bed line b s
@[simp] theorem mirrorSend_pending (u bed line : Nat) (b : MirrorBody) (s : State) : (mirrorSend u bed line b s).pending = s.pending :=
  mirrorSend_keeps State.pending (fun _ _ => rfl) (fun _ _ => rfl) (fun _ _ => rfl) (fun _ _ => rfl) u bed line b s

/-- A mirror record where the device mirrors. -/
theorem mirrorIf_keeps (p : State → β) (hpair : Blind State.setPair p) (hswitch : Blind State.setSwitch p) (hevc : Blind State.setEvc p) (hctr : Blind State.setCtr p) (u bed line : Nat) (b : MirrorBody) (s : State) :
    p (mirrorIf u bed line b s) = p s := by
  simp only [Blind] at *
  unfold mirrorIf
  split <;> simp only [State.modPair, State.modSwitch, State.modEvc, State.modCtr, mirrorSend_keeps p hpair hswitch hevc hctr, hpair, hswitch, hevc, hctr]

@[simp] theorem mirrorIf_time (u bed line : Nat) (b : MirrorBody) (s : State) : (mirrorIf u bed line b s).time = s.time :=
  mirrorIf_keeps State.time (fun _ _ => rfl) (fun _ _ => rfl) (fun _ _ => rfl) (fun _ _ => rfl) u bed line b s
@[simp] theorem mirrorIf_dev (u bed line : Nat) (b : MirrorBody) (s : State) : (mirrorIf u bed line b s).dev = s.dev :=
  mirrorIf_keeps State.dev (fun _ _ => rfl) (fun _ _ => rfl) (fun _ _ => rfl) (fun _ _ => rfl) u bed line b s
@[simp] theorem mirrorIf_ledger (u bed line : Nat) (b : MirrorBody) (s : State) : (mirrorIf u bed line b s).ledger = s.ledger :=
  mirrorIf_keeps State.ledger (fun _ _ => rfl) (fun _ _ => rfl) (fun _ _ => rfl) (fun _ _ => rfl) u bed line b s
@[simp] theorem mirrorIf_wear (u bed line : Nat) (b : MirrorBody) (s : State) : (mirrorIf u bed line b s).wear = s.wear :=
  mirrorIf_keeps State.wear (fun _ _ => rfl) (fun _ _ => rfl) (fun _ _ => rfl) (fun _ _ => rfl) u bed line b s
@[simp] theorem mirrorIf_records (u bed line : Nat) (b : MirrorBody) (s : State) : (mirrorIf u bed line b s).records = s.records :=
  mirrorIf_keeps State.records (fun _ _ => rfl) (fun _ _ => rfl) (fun _ _ => rfl) (fun _ _ => rfl) u bed line b s
@[simp] theorem mirrorIf_teller (u bed line : Nat) (b : MirrorBody) (s : State) : (mirrorIf u bed line b s).teller = s.teller :=
  mirrorIf_keeps State.teller (fun _ _ => rfl) (fun _ _ => rfl) (fun _ _ => rfl) (fun _ _ => rfl) u bed line b s
@[simp] theorem mirrorIf_pool (u bed line : Nat) (b : MirrorBody) (s : State) : (mirrorIf u bed line b s).pool = s.pool :=
  mirrorIf_keeps State.pool (fun _ _ => rfl) (fun _ _ => rfl) (fun _ _ => rfl) (fun _ _ => rfl) u bed line b s
@[simp] theorem mirrorIf_home (u bed line : Nat) (b : MirrorBody) (s : State) : (mirrorIf u bed line b s).home = s.home :=
  mirrorIf_keeps State.home (fun _ _ => rfl) (fun _ _ => rfl) (fun _ _ => rfl) (fun _ _ => rfl) u bed line b s
@[simp] theorem mirrorIf_ports (u bed line : Nat) (b : MirrorBody) (s : State) : (mirrorIf u bed line b s).ports = s.ports :=
  mirrorIf_keeps State.ports (fun _ _ => rfl) (fun _ _ => rfl) (fun _ _ => rfl) (fun _ _ => rfl) u bed line b s
@[simp] theorem mirrorIf_lanes (u bed line : Nat) (b : MirrorBody) (s : State) : (mirrorIf u bed line b s).lanes = s.lanes :=
  mirrorIf_keeps State.lanes (fun _ _ => rfl) (fun _ _ => rfl) (fun _ _ => rfl) (fun _ _ => rfl) u bed line b s
@[simp] theorem mirrorIf_trunks (u bed line : Nat) (b : MirrorBody) (s : State) : (mirrorIf u bed line b s).trunks = s.trunks :=
  mirrorIf_keeps State.trunks (fun _ _ => rfl) (fun _ _ => rfl) (fun _ _ => rfl) (fun _ _ => rfl) u bed line b s
@[simp] theorem mirrorIf_barrow (u bed line : Nat) (b : MirrorBody) (s : State) : (mirrorIf u bed line b s).barrow = s.barrow :=
  mirrorIf_keeps State.barrow (fun _ _ => rfl) (fun _ _ => rfl) (fun _ _ => rfl) (fun _ _ => rfl) u bed line b s
@[simp] theorem mirrorIf_steward (u bed line : Nat) (b : MirrorBody) (s : State) : (mirrorIf u bed line b s).steward = s.steward :=
  mirrorIf_keeps State.steward (fun _ _ => rfl) (fun _ _ => rfl) (fun _ _ => rfl) (fun _ _ => rfl) u bed line b s
@[simp] theorem mirrorIf_dieLink (u bed line : Nat) (b : MirrorBody) (s : State) : (mirrorIf u bed line b s).dieLink = s.dieLink :=
  mirrorIf_keeps State.dieLink (fun _ _ => rfl) (fun _ _ => rfl) (fun _ _ => rfl) (fun _ _ => rfl) u bed line b s
@[simp] theorem mirrorIf_bridge (u bed line : Nat) (b : MirrorBody) (s : State) : (mirrorIf u bed line b s).bridge = s.bridge :=
  mirrorIf_keeps State.bridge (fun _ _ => rfl) (fun _ _ => rfl) (fun _ _ => rfl) (fun _ _ => rfl) u bed line b s
@[simp] theorem mirrorIf_power (u bed line : Nat) (b : MirrorBody) (s : State) : (mirrorIf u bed line b s).power = s.power :=
  mirrorIf_keeps State.power (fun _ _ => rfl) (fun _ _ => rfl) (fun _ _ => rfl) (fun _ _ => rfl) u bed line b s
@[simp] theorem mirrorIf_free (u bed line : Nat) (b : MirrorBody) (s : State) : (mirrorIf u bed line b s).free = s.free :=
  mirrorIf_keeps State.free (fun _ _ => rfl) (fun _ _ => rfl) (fun _ _ => rfl) (fun _ _ => rfl) u bed line b s
@[simp] theorem mirrorIf_pending (u bed line : Nat) (b : MirrorBody) (s : State) : (mirrorIf u bed line b s).pending = s.pending :=
  mirrorIf_keeps State.pending (fun _ _ => rfl) (fun _ _ => rfl) (fun _ _ => rfl) (fun _ _ => rfl) u bed line b s

/-- The mirror records of a change. -/
theorem sendChange_keeps (p : State → β) (hpair : Blind State.setPair p) (hswitch : Blind State.setSwitch p) (hevc : Blind State.setEvc p) (hctr : Blind State.setCtr p) (l : List MirrorBody) (q : BitVec 16) (s : State) :
    p ((sendChange l q s).1) = p s := by
  simp only [Blind] at *
  unfold sendChange
  simp only [oneOutput, State.modSwitch, mirrorSend_keeps p hpair hswitch hevc hctr, hswitch]
  rw [forEach_keeps p _ _ (fun x t => mirrorSend_keeps p hpair hswitch hevc hctr _ _ _ _ _)]
  simp only [hswitch]

@[simp] theorem sendChange_time (l : List MirrorBody) (q : BitVec 16) (s : State) : ((sendChange l q s).1).time = s.time :=
  sendChange_keeps State.time (fun _ _ => rfl) (fun _ _ => rfl) (fun _ _ => rfl) (fun _ _ => rfl) l q s
@[simp] theorem sendChange_dev (l : List MirrorBody) (q : BitVec 16) (s : State) : ((sendChange l q s).1).dev = s.dev :=
  sendChange_keeps State.dev (fun _ _ => rfl) (fun _ _ => rfl) (fun _ _ => rfl) (fun _ _ => rfl) l q s
@[simp] theorem sendChange_ledger (l : List MirrorBody) (q : BitVec 16) (s : State) : ((sendChange l q s).1).ledger = s.ledger :=
  sendChange_keeps State.ledger (fun _ _ => rfl) (fun _ _ => rfl) (fun _ _ => rfl) (fun _ _ => rfl) l q s
@[simp] theorem sendChange_wear (l : List MirrorBody) (q : BitVec 16) (s : State) : ((sendChange l q s).1).wear = s.wear :=
  sendChange_keeps State.wear (fun _ _ => rfl) (fun _ _ => rfl) (fun _ _ => rfl) (fun _ _ => rfl) l q s
@[simp] theorem sendChange_records (l : List MirrorBody) (q : BitVec 16) (s : State) : ((sendChange l q s).1).records = s.records :=
  sendChange_keeps State.records (fun _ _ => rfl) (fun _ _ => rfl) (fun _ _ => rfl) (fun _ _ => rfl) l q s
@[simp] theorem sendChange_teller (l : List MirrorBody) (q : BitVec 16) (s : State) : ((sendChange l q s).1).teller = s.teller :=
  sendChange_keeps State.teller (fun _ _ => rfl) (fun _ _ => rfl) (fun _ _ => rfl) (fun _ _ => rfl) l q s
@[simp] theorem sendChange_pool (l : List MirrorBody) (q : BitVec 16) (s : State) : ((sendChange l q s).1).pool = s.pool :=
  sendChange_keeps State.pool (fun _ _ => rfl) (fun _ _ => rfl) (fun _ _ => rfl) (fun _ _ => rfl) l q s
@[simp] theorem sendChange_home (l : List MirrorBody) (q : BitVec 16) (s : State) : ((sendChange l q s).1).home = s.home :=
  sendChange_keeps State.home (fun _ _ => rfl) (fun _ _ => rfl) (fun _ _ => rfl) (fun _ _ => rfl) l q s
@[simp] theorem sendChange_ports (l : List MirrorBody) (q : BitVec 16) (s : State) : ((sendChange l q s).1).ports = s.ports :=
  sendChange_keeps State.ports (fun _ _ => rfl) (fun _ _ => rfl) (fun _ _ => rfl) (fun _ _ => rfl) l q s
@[simp] theorem sendChange_lanes (l : List MirrorBody) (q : BitVec 16) (s : State) : ((sendChange l q s).1).lanes = s.lanes :=
  sendChange_keeps State.lanes (fun _ _ => rfl) (fun _ _ => rfl) (fun _ _ => rfl) (fun _ _ => rfl) l q s
@[simp] theorem sendChange_trunks (l : List MirrorBody) (q : BitVec 16) (s : State) : ((sendChange l q s).1).trunks = s.trunks :=
  sendChange_keeps State.trunks (fun _ _ => rfl) (fun _ _ => rfl) (fun _ _ => rfl) (fun _ _ => rfl) l q s
@[simp] theorem sendChange_barrow (l : List MirrorBody) (q : BitVec 16) (s : State) : ((sendChange l q s).1).barrow = s.barrow :=
  sendChange_keeps State.barrow (fun _ _ => rfl) (fun _ _ => rfl) (fun _ _ => rfl) (fun _ _ => rfl) l q s
@[simp] theorem sendChange_steward (l : List MirrorBody) (q : BitVec 16) (s : State) : ((sendChange l q s).1).steward = s.steward :=
  sendChange_keeps State.steward (fun _ _ => rfl) (fun _ _ => rfl) (fun _ _ => rfl) (fun _ _ => rfl) l q s
@[simp] theorem sendChange_dieLink (l : List MirrorBody) (q : BitVec 16) (s : State) : ((sendChange l q s).1).dieLink = s.dieLink :=
  sendChange_keeps State.dieLink (fun _ _ => rfl) (fun _ _ => rfl) (fun _ _ => rfl) (fun _ _ => rfl) l q s
@[simp] theorem sendChange_bridge (l : List MirrorBody) (q : BitVec 16) (s : State) : ((sendChange l q s).1).bridge = s.bridge :=
  sendChange_keeps State.bridge (fun _ _ => rfl) (fun _ _ => rfl) (fun _ _ => rfl) (fun _ _ => rfl) l q s
@[simp] theorem sendChange_power (l : List MirrorBody) (q : BitVec 16) (s : State) : ((sendChange l q s).1).power = s.power :=
  sendChange_keeps State.power (fun _ _ => rfl) (fun _ _ => rfl) (fun _ _ => rfl) (fun _ _ => rfl) l q s
@[simp] theorem sendChange_free (l : List MirrorBody) (q : BitVec 16) (s : State) : ((sendChange l q s).1).free = s.free :=
  sendChange_keeps State.free (fun _ _ => rfl) (fun _ _ => rfl) (fun _ _ => rfl) (fun _ _ => rfl) l q s
@[simp] theorem sendChange_pending (l : List MirrorBody) (q : BitVec 16) (s : State) : ((sendChange l q s).1).pending = s.pending :=
  sendChange_keeps State.pending (fun _ _ => rfl) (fun _ _ => rfl) (fun _ _ => rfl) (fun _ _ => rfl) l q s

/-- Mirroring a change of the device's own. -/
theorem mirrorChange_keeps (p : State → β) (hpair : Blind State.setPair p) (hswitch : Blind State.setSwitch p) (hevc : Blind State.setEvc p) (hctr : Blind State.setCtr p) (t : State) (s : State) :
    p (mirrorChange t s) = p s := by
  simp only [Blind] at *
  unfold mirrorChange
  split
  · split
    · rfl
    · simp only [State.modPair, State.modSwitch, State.modEvc, State.modCtr, sendChange_keeps p hpair hswitch hevc hctr, hpair, hswitch, hevc, hctr]
  · rfl

@[simp] theorem mirrorChange_time (t : State) (s : State) : (mirrorChange t s).time = s.time :=
  mirrorChange_keeps State.time (fun _ _ => rfl) (fun _ _ => rfl) (fun _ _ => rfl) (fun _ _ => rfl) t s
@[simp] theorem mirrorChange_dev (t : State) (s : State) : (mirrorChange t s).dev = s.dev :=
  mirrorChange_keeps State.dev (fun _ _ => rfl) (fun _ _ => rfl) (fun _ _ => rfl) (fun _ _ => rfl) t s
@[simp] theorem mirrorChange_ledger (t : State) (s : State) : (mirrorChange t s).ledger = s.ledger :=
  mirrorChange_keeps State.ledger (fun _ _ => rfl) (fun _ _ => rfl) (fun _ _ => rfl) (fun _ _ => rfl) t s
@[simp] theorem mirrorChange_wear (t : State) (s : State) : (mirrorChange t s).wear = s.wear :=
  mirrorChange_keeps State.wear (fun _ _ => rfl) (fun _ _ => rfl) (fun _ _ => rfl) (fun _ _ => rfl) t s
@[simp] theorem mirrorChange_records (t : State) (s : State) : (mirrorChange t s).records = s.records :=
  mirrorChange_keeps State.records (fun _ _ => rfl) (fun _ _ => rfl) (fun _ _ => rfl) (fun _ _ => rfl) t s
@[simp] theorem mirrorChange_teller (t : State) (s : State) : (mirrorChange t s).teller = s.teller :=
  mirrorChange_keeps State.teller (fun _ _ => rfl) (fun _ _ => rfl) (fun _ _ => rfl) (fun _ _ => rfl) t s
@[simp] theorem mirrorChange_pool (t : State) (s : State) : (mirrorChange t s).pool = s.pool :=
  mirrorChange_keeps State.pool (fun _ _ => rfl) (fun _ _ => rfl) (fun _ _ => rfl) (fun _ _ => rfl) t s
@[simp] theorem mirrorChange_home (t : State) (s : State) : (mirrorChange t s).home = s.home :=
  mirrorChange_keeps State.home (fun _ _ => rfl) (fun _ _ => rfl) (fun _ _ => rfl) (fun _ _ => rfl) t s
@[simp] theorem mirrorChange_ports (t : State) (s : State) : (mirrorChange t s).ports = s.ports :=
  mirrorChange_keeps State.ports (fun _ _ => rfl) (fun _ _ => rfl) (fun _ _ => rfl) (fun _ _ => rfl) t s
@[simp] theorem mirrorChange_lanes (t : State) (s : State) : (mirrorChange t s).lanes = s.lanes :=
  mirrorChange_keeps State.lanes (fun _ _ => rfl) (fun _ _ => rfl) (fun _ _ => rfl) (fun _ _ => rfl) t s
@[simp] theorem mirrorChange_trunks (t : State) (s : State) : (mirrorChange t s).trunks = s.trunks :=
  mirrorChange_keeps State.trunks (fun _ _ => rfl) (fun _ _ => rfl) (fun _ _ => rfl) (fun _ _ => rfl) t s
@[simp] theorem mirrorChange_barrow (t : State) (s : State) : (mirrorChange t s).barrow = s.barrow :=
  mirrorChange_keeps State.barrow (fun _ _ => rfl) (fun _ _ => rfl) (fun _ _ => rfl) (fun _ _ => rfl) t s
@[simp] theorem mirrorChange_steward (t : State) (s : State) : (mirrorChange t s).steward = s.steward :=
  mirrorChange_keeps State.steward (fun _ _ => rfl) (fun _ _ => rfl) (fun _ _ => rfl) (fun _ _ => rfl) t s
@[simp] theorem mirrorChange_dieLink (t : State) (s : State) : (mirrorChange t s).dieLink = s.dieLink :=
  mirrorChange_keeps State.dieLink (fun _ _ => rfl) (fun _ _ => rfl) (fun _ _ => rfl) (fun _ _ => rfl) t s
@[simp] theorem mirrorChange_bridge (t : State) (s : State) : (mirrorChange t s).bridge = s.bridge :=
  mirrorChange_keeps State.bridge (fun _ _ => rfl) (fun _ _ => rfl) (fun _ _ => rfl) (fun _ _ => rfl) t s
@[simp] theorem mirrorChange_power (t : State) (s : State) : (mirrorChange t s).power = s.power :=
  mirrorChange_keeps State.power (fun _ _ => rfl) (fun _ _ => rfl) (fun _ _ => rfl) (fun _ _ => rfl) t s
@[simp] theorem mirrorChange_free (t : State) (s : State) : (mirrorChange t s).free = s.free :=
  mirrorChange_keeps State.free (fun _ _ => rfl) (fun _ _ => rfl) (fun _ _ => rfl) (fun _ _ => rfl) t s
@[simp] theorem mirrorChange_pending (t : State) (s : State) : (mirrorChange t s).pending = s.pending :=
  mirrorChange_keeps State.pending (fun _ _ => rfl) (fun _ _ => rfl) (fun _ _ => rfl) (fun _ _ => rfl) t s

/-- Mirroring a change that waits for its record. -/
theorem mirrorAhead_keeps (p : State → β) (hpair : Blind State.setPair p) (hswitch : Blind State.setSwitch p) (hevc : Blind State.setEvc p) (hctr : Blind State.setCtr p) (c : Command) (q : BitVec 16) (s : State) :
    p ((mirrorAhead c q s).2) = p s := by
  simp only [Blind] at *
  unfold mirrorAhead
  split
  · rfl
  · split
    · rfl
    · simp only [State.modPair, State.modSwitch, State.modEvc, State.modCtr, sendChange_keeps p hpair hswitch hevc hctr, hpair, hswitch, hevc, hctr]

@[simp] theorem mirrorAhead_time (c : Command) (q : BitVec 16) (s : State) : ((mirrorAhead c q s).2).time = s.time :=
  mirrorAhead_keeps State.time (fun _ _ => rfl) (fun _ _ => rfl) (fun _ _ => rfl) (fun _ _ => rfl) c q s
@[simp] theorem mirrorAhead_dev (c : Command) (q : BitVec 16) (s : State) : ((mirrorAhead c q s).2).dev = s.dev :=
  mirrorAhead_keeps State.dev (fun _ _ => rfl) (fun _ _ => rfl) (fun _ _ => rfl) (fun _ _ => rfl) c q s
@[simp] theorem mirrorAhead_ledger (c : Command) (q : BitVec 16) (s : State) : ((mirrorAhead c q s).2).ledger = s.ledger :=
  mirrorAhead_keeps State.ledger (fun _ _ => rfl) (fun _ _ => rfl) (fun _ _ => rfl) (fun _ _ => rfl) c q s
@[simp] theorem mirrorAhead_wear (c : Command) (q : BitVec 16) (s : State) : ((mirrorAhead c q s).2).wear = s.wear :=
  mirrorAhead_keeps State.wear (fun _ _ => rfl) (fun _ _ => rfl) (fun _ _ => rfl) (fun _ _ => rfl) c q s
@[simp] theorem mirrorAhead_records (c : Command) (q : BitVec 16) (s : State) : ((mirrorAhead c q s).2).records = s.records :=
  mirrorAhead_keeps State.records (fun _ _ => rfl) (fun _ _ => rfl) (fun _ _ => rfl) (fun _ _ => rfl) c q s
@[simp] theorem mirrorAhead_teller (c : Command) (q : BitVec 16) (s : State) : ((mirrorAhead c q s).2).teller = s.teller :=
  mirrorAhead_keeps State.teller (fun _ _ => rfl) (fun _ _ => rfl) (fun _ _ => rfl) (fun _ _ => rfl) c q s
@[simp] theorem mirrorAhead_pool (c : Command) (q : BitVec 16) (s : State) : ((mirrorAhead c q s).2).pool = s.pool :=
  mirrorAhead_keeps State.pool (fun _ _ => rfl) (fun _ _ => rfl) (fun _ _ => rfl) (fun _ _ => rfl) c q s
@[simp] theorem mirrorAhead_home (c : Command) (q : BitVec 16) (s : State) : ((mirrorAhead c q s).2).home = s.home :=
  mirrorAhead_keeps State.home (fun _ _ => rfl) (fun _ _ => rfl) (fun _ _ => rfl) (fun _ _ => rfl) c q s
@[simp] theorem mirrorAhead_ports (c : Command) (q : BitVec 16) (s : State) : ((mirrorAhead c q s).2).ports = s.ports :=
  mirrorAhead_keeps State.ports (fun _ _ => rfl) (fun _ _ => rfl) (fun _ _ => rfl) (fun _ _ => rfl) c q s
@[simp] theorem mirrorAhead_lanes (c : Command) (q : BitVec 16) (s : State) : ((mirrorAhead c q s).2).lanes = s.lanes :=
  mirrorAhead_keeps State.lanes (fun _ _ => rfl) (fun _ _ => rfl) (fun _ _ => rfl) (fun _ _ => rfl) c q s
@[simp] theorem mirrorAhead_trunks (c : Command) (q : BitVec 16) (s : State) : ((mirrorAhead c q s).2).trunks = s.trunks :=
  mirrorAhead_keeps State.trunks (fun _ _ => rfl) (fun _ _ => rfl) (fun _ _ => rfl) (fun _ _ => rfl) c q s
@[simp] theorem mirrorAhead_barrow (c : Command) (q : BitVec 16) (s : State) : ((mirrorAhead c q s).2).barrow = s.barrow :=
  mirrorAhead_keeps State.barrow (fun _ _ => rfl) (fun _ _ => rfl) (fun _ _ => rfl) (fun _ _ => rfl) c q s
@[simp] theorem mirrorAhead_steward (c : Command) (q : BitVec 16) (s : State) : ((mirrorAhead c q s).2).steward = s.steward :=
  mirrorAhead_keeps State.steward (fun _ _ => rfl) (fun _ _ => rfl) (fun _ _ => rfl) (fun _ _ => rfl) c q s
@[simp] theorem mirrorAhead_dieLink (c : Command) (q : BitVec 16) (s : State) : ((mirrorAhead c q s).2).dieLink = s.dieLink :=
  mirrorAhead_keeps State.dieLink (fun _ _ => rfl) (fun _ _ => rfl) (fun _ _ => rfl) (fun _ _ => rfl) c q s
@[simp] theorem mirrorAhead_bridge (c : Command) (q : BitVec 16) (s : State) : ((mirrorAhead c q s).2).bridge = s.bridge :=
  mirrorAhead_keeps State.bridge (fun _ _ => rfl) (fun _ _ => rfl) (fun _ _ => rfl) (fun _ _ => rfl) c q s
@[simp] theorem mirrorAhead_power (c : Command) (q : BitVec 16) (s : State) : ((mirrorAhead c q s).2).power = s.power :=
  mirrorAhead_keeps State.power (fun _ _ => rfl) (fun _ _ => rfl) (fun _ _ => rfl) (fun _ _ => rfl) c q s
@[simp] theorem mirrorAhead_free (c : Command) (q : BitVec 16) (s : State) : ((mirrorAhead c q s).2).free = s.free :=
  mirrorAhead_keeps State.free (fun _ _ => rfl) (fun _ _ => rfl) (fun _ _ => rfl) (fun _ _ => rfl) c q s
@[simp] theorem mirrorAhead_pending (c : Command) (q : BitVec 16) (s : State) : ((mirrorAhead c q s).2).pending = s.pending :=
  mirrorAhead_keeps State.pending (fun _ _ => rfl) (fun _ _ => rfl) (fun _ _ => rfl) (fun _ _ => rfl) c q s

/-- A command that waits for its tick boundary. -/
theorem deferToTick_keeps (p : State → β) (hpair : Blind State.setPair p) (hswitch : Blind State.setSwitch p) (hevc : Blind State.setEvc p) (hctr : Blind State.setCtr p) (hteller : Blind State.setTeller p) (c : Command) (s : State) :
    p (deferToTick c s) = p s := by
  simp only [Blind] at *
  simp only [deferToTick, State.modPair, State.modSwitch, State.modEvc, State.modCtr, State.modTeller, mirrorAhead_keeps p hpair hswitch hevc hctr, hpair, hswitch, hevc, hctr, hteller]

@[simp] theorem deferToTick_time (c : Command) (s : State) : (deferToTick c s).time = s.time :=
  deferToTick_keeps State.time (fun _ _ => rfl) (fun _ _ => rfl) (fun _ _ => rfl) (fun _ _ => rfl) (fun _ _ => rfl) c s
@[simp] theorem deferToTick_dev (c : Command) (s : State) : (deferToTick c s).dev = s.dev :=
  deferToTick_keeps State.dev (fun _ _ => rfl) (fun _ _ => rfl) (fun _ _ => rfl) (fun _ _ => rfl) (fun _ _ => rfl) c s
@[simp] theorem deferToTick_ledger (c : Command) (s : State) : (deferToTick c s).ledger = s.ledger :=
  deferToTick_keeps State.ledger (fun _ _ => rfl) (fun _ _ => rfl) (fun _ _ => rfl) (fun _ _ => rfl) (fun _ _ => rfl) c s
@[simp] theorem deferToTick_wear (c : Command) (s : State) : (deferToTick c s).wear = s.wear :=
  deferToTick_keeps State.wear (fun _ _ => rfl) (fun _ _ => rfl) (fun _ _ => rfl) (fun _ _ => rfl) (fun _ _ => rfl) c s
@[simp] theorem deferToTick_records (c : Command) (s : State) : (deferToTick c s).records = s.records :=
  deferToTick_keeps State.records (fun _ _ => rfl) (fun _ _ => rfl) (fun _ _ => rfl) (fun _ _ => rfl) (fun _ _ => rfl) c s
@[simp] theorem deferToTick_pool (c : Command) (s : State) : (deferToTick c s).pool = s.pool :=
  deferToTick_keeps State.pool (fun _ _ => rfl) (fun _ _ => rfl) (fun _ _ => rfl) (fun _ _ => rfl) (fun _ _ => rfl) c s
@[simp] theorem deferToTick_home (c : Command) (s : State) : (deferToTick c s).home = s.home :=
  deferToTick_keeps State.home (fun _ _ => rfl) (fun _ _ => rfl) (fun _ _ => rfl) (fun _ _ => rfl) (fun _ _ => rfl) c s
@[simp] theorem deferToTick_ports (c : Command) (s : State) : (deferToTick c s).ports = s.ports :=
  deferToTick_keeps State.ports (fun _ _ => rfl) (fun _ _ => rfl) (fun _ _ => rfl) (fun _ _ => rfl) (fun _ _ => rfl) c s
@[simp] theorem deferToTick_lanes (c : Command) (s : State) : (deferToTick c s).lanes = s.lanes :=
  deferToTick_keeps State.lanes (fun _ _ => rfl) (fun _ _ => rfl) (fun _ _ => rfl) (fun _ _ => rfl) (fun _ _ => rfl) c s
@[simp] theorem deferToTick_trunks (c : Command) (s : State) : (deferToTick c s).trunks = s.trunks :=
  deferToTick_keeps State.trunks (fun _ _ => rfl) (fun _ _ => rfl) (fun _ _ => rfl) (fun _ _ => rfl) (fun _ _ => rfl) c s
@[simp] theorem deferToTick_barrow (c : Command) (s : State) : (deferToTick c s).barrow = s.barrow :=
  deferToTick_keeps State.barrow (fun _ _ => rfl) (fun _ _ => rfl) (fun _ _ => rfl) (fun _ _ => rfl) (fun _ _ => rfl) c s
@[simp] theorem deferToTick_steward (c : Command) (s : State) : (deferToTick c s).steward = s.steward :=
  deferToTick_keeps State.steward (fun _ _ => rfl) (fun _ _ => rfl) (fun _ _ => rfl) (fun _ _ => rfl) (fun _ _ => rfl) c s
@[simp] theorem deferToTick_dieLink (c : Command) (s : State) : (deferToTick c s).dieLink = s.dieLink :=
  deferToTick_keeps State.dieLink (fun _ _ => rfl) (fun _ _ => rfl) (fun _ _ => rfl) (fun _ _ => rfl) (fun _ _ => rfl) c s
@[simp] theorem deferToTick_bridge (c : Command) (s : State) : (deferToTick c s).bridge = s.bridge :=
  deferToTick_keeps State.bridge (fun _ _ => rfl) (fun _ _ => rfl) (fun _ _ => rfl) (fun _ _ => rfl) (fun _ _ => rfl) c s
@[simp] theorem deferToTick_power (c : Command) (s : State) : (deferToTick c s).power = s.power :=
  deferToTick_keeps State.power (fun _ _ => rfl) (fun _ _ => rfl) (fun _ _ => rfl) (fun _ _ => rfl) (fun _ _ => rfl) c s
@[simp] theorem deferToTick_free (c : Command) (s : State) : (deferToTick c s).free = s.free :=
  deferToTick_keeps State.free (fun _ _ => rfl) (fun _ _ => rfl) (fun _ _ => rfl) (fun _ _ => rfl) (fun _ _ => rfl) c s
@[simp] theorem deferToTick_pending (c : Command) (s : State) : (deferToTick c s).pending = s.pending :=
  deferToTick_keeps State.pending (fun _ _ => rfl) (fun _ _ => rfl) (fun _ _ => rfl) (fun _ _ => rfl) (fun _ _ => rfl) c s

/-- Copying a command. -/
theorem takeCommand_keeps (p : State → β) (hteller : Blind State.setTeller p) (hevc : Blind State.setEvc p) (hctr : Blind State.setCtr p) (ring : Nat) (c : Command) (s : State) :
    p (takeCommand ring c s) = p s := by
  simp only [Blind] at *
  simp only [takeCommand, State.modRing, State.modTeller, State.modEvc, State.modCtr, count_keeps p hevc hctr, hteller, hevc, hctr]

@[simp] theorem takeCommand_time (ring : Nat) (c : Command) (s : State) : (takeCommand ring c s).time = s.time :=
  takeCommand_keeps State.time (fun _ _ => rfl) (fun _ _ => rfl) (fun _ _ => rfl) ring c s
@[simp] theorem takeCommand_dev (ring : Nat) (c : Command) (s : State) : (takeCommand ring c s).dev = s.dev :=
  takeCommand_keeps State.dev (fun _ _ => rfl) (fun _ _ => rfl) (fun _ _ => rfl) ring c s
@[simp] theorem takeCommand_ledger (ring : Nat) (c : Command) (s : State) : (takeCommand ring c s).ledger = s.ledger :=
  takeCommand_keeps State.ledger (fun _ _ => rfl) (fun _ _ => rfl) (fun _ _ => rfl) ring c s
@[simp] theorem takeCommand_wear (ring : Nat) (c : Command) (s : State) : (takeCommand ring c s).wear = s.wear :=
  takeCommand_keeps State.wear (fun _ _ => rfl) (fun _ _ => rfl) (fun _ _ => rfl) ring c s
@[simp] theorem takeCommand_records (ring : Nat) (c : Command) (s : State) : (takeCommand ring c s).records = s.records :=
  takeCommand_keeps State.records (fun _ _ => rfl) (fun _ _ => rfl) (fun _ _ => rfl) ring c s
@[simp] theorem takeCommand_pool (ring : Nat) (c : Command) (s : State) : (takeCommand ring c s).pool = s.pool :=
  takeCommand_keeps State.pool (fun _ _ => rfl) (fun _ _ => rfl) (fun _ _ => rfl) ring c s
@[simp] theorem takeCommand_home (ring : Nat) (c : Command) (s : State) : (takeCommand ring c s).home = s.home :=
  takeCommand_keeps State.home (fun _ _ => rfl) (fun _ _ => rfl) (fun _ _ => rfl) ring c s
@[simp] theorem takeCommand_switch (ring : Nat) (c : Command) (s : State) : (takeCommand ring c s).switch = s.switch :=
  takeCommand_keeps State.switch (fun _ _ => rfl) (fun _ _ => rfl) (fun _ _ => rfl) ring c s
@[simp] theorem takeCommand_ports (ring : Nat) (c : Command) (s : State) : (takeCommand ring c s).ports = s.ports :=
  takeCommand_keeps State.ports (fun _ _ => rfl) (fun _ _ => rfl) (fun _ _ => rfl) ring c s
@[simp] theorem takeCommand_lanes (ring : Nat) (c : Command) (s : State) : (takeCommand ring c s).lanes = s.lanes :=
  takeCommand_keeps State.lanes (fun _ _ => rfl) (fun _ _ => rfl) (fun _ _ => rfl) ring c s
@[simp] theorem takeCommand_trunks (ring : Nat) (c : Command) (s : State) : (takeCommand ring c s).trunks = s.trunks :=
  takeCommand_keeps State.trunks (fun _ _ => rfl) (fun _ _ => rfl) (fun _ _ => rfl) ring c s
@[simp] theorem takeCommand_pair (ring : Nat) (c : Command) (s : State) : (takeCommand ring c s).pair = s.pair :=
  takeCommand_keeps State.pair (fun _ _ => rfl) (fun _ _ => rfl) (fun _ _ => rfl) ring c s
@[simp] theorem takeCommand_barrow (ring : Nat) (c : Command) (s : State) : (takeCommand ring c s).barrow = s.barrow :=
  takeCommand_keeps State.barrow (fun _ _ => rfl) (fun _ _ => rfl) (fun _ _ => rfl) ring c s
@[simp] theorem takeCommand_steward (ring : Nat) (c : Command) (s : State) : (takeCommand ring c s).steward = s.steward :=
  takeCommand_keeps State.steward (fun _ _ => rfl) (fun _ _ => rfl) (fun _ _ => rfl) ring c s
@[simp] theorem takeCommand_dieLink (ring : Nat) (c : Command) (s : State) : (takeCommand ring c s).dieLink = s.dieLink :=
  takeCommand_keeps State.dieLink (fun _ _ => rfl) (fun _ _ => rfl) (fun _ _ => rfl) ring c s
@[simp] theorem takeCommand_bridge (ring : Nat) (c : Command) (s : State) : (takeCommand ring c s).bridge = s.bridge :=
  takeCommand_keeps State.bridge (fun _ _ => rfl) (fun _ _ => rfl) (fun _ _ => rfl) ring c s
@[simp] theorem takeCommand_power (ring : Nat) (c : Command) (s : State) : (takeCommand ring c s).power = s.power :=
  takeCommand_keeps State.power (fun _ _ => rfl) (fun _ _ => rfl) (fun _ _ => rfl) ring c s
@[simp] theorem takeCommand_free (ring : Nat) (c : Command) (s : State) : (takeCommand ring c s).free = s.free :=
  takeCommand_keeps State.free (fun _ _ => rfl) (fun _ _ => rfl) (fun _ _ => rfl) ring c s
@[simp] theorem takeCommand_pending (ring : Nat) (c : Command) (s : State) : (takeCommand ring c s).pending = s.pending :=
  takeCommand_keeps State.pending (fun _ _ => rfl) (fun _ _ => rfl) (fun _ _ => rfl) ring c s

/-- Staging a proposal. -/
theorem propose_keeps (p : State → β) (hpool : Blind State.setPool p) (hsteward : Blind State.setSteward p) (hteller : Blind State.setTeller p) (hevc : Blind State.setEvc p) (hctr : Blind State.setCtr p) (c : Command) (s : State) :
    p (propose c s) = p s := by
  simp only [Blind] at *
  unfold propose
  split <;> simp only [State.modPool, State.modSteward, State.modTeller, State.modEvc, State.modCtr, answer_keeps p hpool hsteward hteller hevc hctr, count_keeps p hevc hctr, hpool, hsteward, hteller, hevc, hctr]

@[simp] theorem propose_time (c : Command) (s : State) : (propose c s).time = s.time :=
  propose_keeps State.time (fun _ _ => rfl) (fun _ _ => rfl) (fun _ _ => rfl) (fun _ _ => rfl) (fun _ _ => rfl) c s
@[simp] theorem propose_dev (c : Command) (s : State) : (propose c s).dev = s.dev :=
  propose_keeps State.dev (fun _ _ => rfl) (fun _ _ => rfl) (fun _ _ => rfl) (fun _ _ => rfl) (fun _ _ => rfl) c s
@[simp] theorem propose_ledger (c : Command) (s : State) : (propose c s).ledger = s.ledger :=
  propose_keeps State.ledger (fun _ _ => rfl) (fun _ _ => rfl) (fun _ _ => rfl) (fun _ _ => rfl) (fun _ _ => rfl) c s
@[simp] theorem propose_wear (c : Command) (s : State) : (propose c s).wear = s.wear :=
  propose_keeps State.wear (fun _ _ => rfl) (fun _ _ => rfl) (fun _ _ => rfl) (fun _ _ => rfl) (fun _ _ => rfl) c s
@[simp] theorem propose_records (c : Command) (s : State) : (propose c s).records = s.records :=
  propose_keeps State.records (fun _ _ => rfl) (fun _ _ => rfl) (fun _ _ => rfl) (fun _ _ => rfl) (fun _ _ => rfl) c s
@[simp] theorem propose_home (c : Command) (s : State) : (propose c s).home = s.home :=
  propose_keeps State.home (fun _ _ => rfl) (fun _ _ => rfl) (fun _ _ => rfl) (fun _ _ => rfl) (fun _ _ => rfl) c s
@[simp] theorem propose_switch (c : Command) (s : State) : (propose c s).switch = s.switch :=
  propose_keeps State.switch (fun _ _ => rfl) (fun _ _ => rfl) (fun _ _ => rfl) (fun _ _ => rfl) (fun _ _ => rfl) c s
@[simp] theorem propose_ports (c : Command) (s : State) : (propose c s).ports = s.ports :=
  propose_keeps State.ports (fun _ _ => rfl) (fun _ _ => rfl) (fun _ _ => rfl) (fun _ _ => rfl) (fun _ _ => rfl) c s
@[simp] theorem propose_lanes (c : Command) (s : State) : (propose c s).lanes = s.lanes :=
  propose_keeps State.lanes (fun _ _ => rfl) (fun _ _ => rfl) (fun _ _ => rfl) (fun _ _ => rfl) (fun _ _ => rfl) c s
@[simp] theorem propose_trunks (c : Command) (s : State) : (propose c s).trunks = s.trunks :=
  propose_keeps State.trunks (fun _ _ => rfl) (fun _ _ => rfl) (fun _ _ => rfl) (fun _ _ => rfl) (fun _ _ => rfl) c s
@[simp] theorem propose_pair (c : Command) (s : State) : (propose c s).pair = s.pair :=
  propose_keeps State.pair (fun _ _ => rfl) (fun _ _ => rfl) (fun _ _ => rfl) (fun _ _ => rfl) (fun _ _ => rfl) c s
@[simp] theorem propose_barrow (c : Command) (s : State) : (propose c s).barrow = s.barrow :=
  propose_keeps State.barrow (fun _ _ => rfl) (fun _ _ => rfl) (fun _ _ => rfl) (fun _ _ => rfl) (fun _ _ => rfl) c s
@[simp] theorem propose_dieLink (c : Command) (s : State) : (propose c s).dieLink = s.dieLink :=
  propose_keeps State.dieLink (fun _ _ => rfl) (fun _ _ => rfl) (fun _ _ => rfl) (fun _ _ => rfl) (fun _ _ => rfl) c s
@[simp] theorem propose_bridge (c : Command) (s : State) : (propose c s).bridge = s.bridge :=
  propose_keeps State.bridge (fun _ _ => rfl) (fun _ _ => rfl) (fun _ _ => rfl) (fun _ _ => rfl) (fun _ _ => rfl) c s
@[simp] theorem propose_power (c : Command) (s : State) : (propose c s).power = s.power :=
  propose_keeps State.power (fun _ _ => rfl) (fun _ _ => rfl) (fun _ _ => rfl) (fun _ _ => rfl) (fun _ _ => rfl) c s
@[simp] theorem propose_free (c : Command) (s : State) : (propose c s).free = s.free :=
  propose_keeps State.free (fun _ _ => rfl) (fun _ _ => rfl) (fun _ _ => rfl) (fun _ _ => rfl) (fun _ _ => rfl) c s
@[simp] theorem propose_pending (c : Command) (s : State) : (propose c s).pending = s.pending :=
  propose_keeps State.pending (fun _ _ => rfl) (fun _ _ => rfl) (fun _ _ => rfl) (fun _ _ => rfl) (fun _ _ => rfl) c s

end Sys2Proof.Machine
end

