-- ==== Sys2Proof/Laws/Beat.lean ====
section
/-! SUPPORT. Beats that pass in which the block has no work of its own. -/

namespace Sys2Proof.Machine

variable {β : Type}

/-- Counting beats changes the counters, the event controller and the stall counts of the slices only. -/
theorem countBeats_keeps (p : State → β) (hevc : Blind State.setEvc p) (hctr : Blind State.setCtr p) (hhome : Blind State.setHome p) (n : Nat) (s : State) :
    p (countBeats n s) = p s := by
  have ho : ∀ (b : Bool) (f : State → State) (u : State), p (f u) = p u → p (onlyIf b f u) = p u := by
    intro b f u h; unfold onlyIf; split
    · exact h
    · rfl
  unfold countBeats
  dsimp only
  rw [forEach_keeps p, forEach_keeps p, forEach_keeps p, forEach_keeps p, countAll_keeps p hevc hctr, countAll_keeps p hevc hctr]
  · intro x u; exact plotCount_keeps p hevc hctr _ _ _ _
  · intro x u; exact plotCount_keeps p hevc hctr _ _ _ _
  · intro x u
    rw [ho, ho, ho]
    · exact portCount_keeps p hevc hctr _ _ _ _
    · rw [countPortLong_keeps p hevc hctr, portCount_keeps p hevc hctr]
    · exact portCount_keeps p hevc hctr _ _ _ _
  · intro x u
    rw [ho, ho]
    · rw [countLong_keeps p hevc hctr]; exact hhome _ _
    · exact countLong_keeps p hevc hctr _ _ _ _

/-- Forming the header of a flit changes the trunk only. -/
theorem flitHeader_keeps (p : State → β) (htrunks : Blind State.setTrunks p) (st vc : Nat) (seq : BitVec 12) (pause stomp : Bool) (s : State) :
    p (flitHeader st vc seq pause stomp s).2 = p s := by
  simp only [Blind] at *
  unfold flitHeader returnCredits
  dsimp only
  repeat' split
  all_goals simp only [State.modTrunk, State.modTrunks, htrunks]

/-- A NULL flit changes the trunk, the counters and the event controller only. -/
theorem emitNull_keeps (p : State → β) (htrunks : Blind State.setTrunks p) (hevc : Blind State.setEvc p) (hctr : Blind State.setCtr p) (st : Nat) (s : State) :
    p (emitNull st s) = p s := by
  have h := flitHeader_keeps p htrunks
  simp only [Blind] at htrunks
  unfold emitNull
  dsimp only
  split <;> simp only [portCount_keeps p hevc hctr, flitOut_keeps p hevc hctr, State.modTrunk, State.modTrunks, htrunks, h]

/-- The NULL flits of beats. -/
theorem nullBeats_keeps (p : State → β) (htrunks : Blind State.setTrunks p) (hevc : Blind State.setEvc p) (hctr : Blind State.setCtr p) (n : Nat) (s : State) :
    p (nullBeats n s) = p s := by
  unfold nullBeats
  refine forEach_keeps p _ _ (fun e u => ?_) s
  dsimp only
  split
  · rfl
  · simp only [emitNull_keeps p htrunks hevc hctr, portCount_keeps p hevc hctr, countPortLong_keeps p hevc hctr]
    exact htrunks _ _

/-- Passing beats changes the time, the counters, the event controller, the trunks and the stall counts of the slices only. -/
theorem passBeats_keeps (p : State → β) (htime : Blind State.setTime p) (hevc : Blind State.setEvc p) (hctr : Blind State.setCtr p)
    (hhome : Blind State.setHome p) (htrunks : Blind State.setTrunks p) (n : Nat) (s : State) : p (passBeats n s) = p s := by
  unfold passBeats
  simp only [State.modTime]
  rw [htime]
  split
  · rw [countBeats_keeps p hevc hctr hhome, nullBeats_keeps p htrunks hevc hctr]
  · rfl

/-- The time after beats have passed. -/
theorem passBeats_time (n : Nat) (s : State) : (passBeats n s).time = { s.time with
    beats := s.time.beats + n, now := if s.time.running then s.time.now + BitVec.ofNat 64 n else s.time.now,
    dormantUs := if s.dev.mode = .dormant then (s.time.beats + n - s.time.dormantBeat) / 1000 else s.time.dormantUs } := by
  have h : (countBeats n (nullBeats n s)).time = s.time := by
    rw [countBeats_keeps State.time (fun _ _ => rfl) (fun _ _ => rfl) (fun _ _ => rfl),
      nullBeats_keeps State.time (fun _ _ => rfl) (fun _ _ => rfl) (fun _ _ => rfl)]
  unfold passBeats
  dsimp only
  split <;> simp [State.modTime, h]

/-- Where nothing of the device's own comes about, the beats up to the last one of the tick are counted at once, and the scans stand where they
stand in the last of them. -/
theorem passOn_still {s : State} (hs : s.still = true) (hf : s.fabricOn = true) (hr : s.time.running = true) (hn : s.now.toNat % 1024 < 1023) :
    passOn s = passBeats 1 (scanBeat (passBeats (1023 - s.now.toNat % 1024 - 1) s)) := by
  unfold passOn
  simp [hs, hf, hr]
  omega

/-- Time has gone on long enough where the state is one that `stop` names. -/
theorem runUntil_stop {stop : State → Bool} {s : State} (h : stop s = true) (n : Nat) : runUntil stop n s = s := by
  cases n with
  | zero => rfl
  | succ n => simp [runUntil, h]

/-- Else it goes on by one pass. -/
theorem runUntil_pass {stop : State → Bool} {s : State} (h : stop s = false) (n : Nat) : runUntil stop (n + 1) s = runUntil stop n (passOn s) := by
  simp [runUntil, h]

end Sys2Proof.Machine
end

