-- ==== Sys2Proof/Laws/Catalogue.lean ====
section
/-! SUPPORT. The catalogue row by row: which definition runs a command of each opcode. -/

namespace Sys2Proof.Machine

variable {c : Command} {s : State}

theorem runOp_DevIdentify (h : c.opcode.toNat = 0x0101) : runOp c s = runDevIdentify c s := by simp only [runOp, h]; rfl
theorem runOp_DevStatus (h : c.opcode.toNat = 0x0102) : runOp c s = runDevStatus c s := by simp only [runOp, h]; rfl
theorem runOp_DevSetMode (h : c.opcode.toNat = 0x0103) : runOp c s = runDevSetMode c s := by simp only [runOp, h]; rfl
theorem runOp_DevReset (h : c.opcode.toNat = 0x0104) : runOp c s = runDevReset c s := by simp only [runOp, h]; rfl
theorem runOp_DevSetNumber (h : c.opcode.toNat = 0x0105) : runOp c s = runDevSetNumber c s := by simp only [runOp, h]; rfl
theorem runOp_DevSetKeySlot (h : c.opcode.toNat = 0x0106) : runOp c s = runDevSetKeySlot c s := by simp only [runOp, h]; rfl
theorem runOp_DevRevokeKeySlot (h : c.opcode.toNat = 0x0107) : runOp c s = runDevRevokeKeySlot c s := by simp only [runOp, h]; rfl
theorem runOp_PlotConfigure (h : c.opcode.toNat = 0x0201) : runOp c s = runPlotConfigure c s := by simp only [runOp, h]; rfl
theorem runOp_PlotRelease (h : c.opcode.toNat = 0x0202) : runOp c s = runPlotRelease c s := by simp only [runOp, h]; rfl
theorem runOp_PlotMapBed (h : c.opcode.toNat = 0x0203) : runOp c s = runPlotMapBed c s := by simp only [runOp, h]; rfl
theorem runOp_PlotUnmapBed (h : c.opcode.toNat = 0x0204) : runOp c s = runPlotUnmapBed c s := by simp only [runOp, h]; rfl
theorem runOp_PlotEnable (h : c.opcode.toNat = 0x0205) : runOp c s = runPlotEnable c s := by simp only [runOp, h]; rfl
theorem runOp_PlotDisable (h : c.opcode.toNat = 0x0206) : runOp c s = runPlotDisable c s := by simp only [runOp, h]; rfl
theorem runOp_PlotReset (h : c.opcode.toNat = 0x0207) : runOp c s = runPlotReset c s := by simp only [runOp, h]; rfl
theorem runOp_PlotSetSanitize (h : c.opcode.toNat = 0x0208) : runOp c s = runPlotSetSanitize c s := by simp only [runOp, h]; rfl
theorem runOp_PlotSetQos (h : c.opcode.toNat = 0x0209) : runOp c s = runPlotSetQos c s := by simp only [runOp, h]; rfl
theorem runOp_PlotRead (h : c.opcode.toNat = 0x020A) : runOp c s = runPlotRead c s := by simp only [runOp, h]; rfl
theorem runOp_BedDefine (h : c.opcode.toNat = 0x0301) : runOp c s = runBedDefine c s := by simp only [runOp, h]; rfl
theorem runOp_BedUndefine (h : c.opcode.toNat = 0x0302) : runOp c s = runBedUndefine c s := by simp only [runOp, h]; rfl
theorem runOp_BedSetPolicy (h : c.opcode.toNat = 0x0303) : runOp c s = runBedSetPolicy c s := by simp only [runOp, h]; rfl
theorem runOp_BedGrow (h : c.opcode.toNat = 0x0304) : runOp c s = runBedGrow c s := by simp only [runOp, h]; rfl
theorem runOp_BedShrink (h : c.opcode.toNat = 0x0305) : runOp c s = runBedShrink c s := by simp only [runOp, h]; rfl
theorem runOp_BedExport (h : c.opcode.toNat = 0x0306) : runOp c s = runBedExport c s := by simp only [runOp, h]; rfl
theorem runOp_BedRead (h : c.opcode.toNat = 0x0307) : runOp c s = runBedRead c s := by simp only [runOp, h]; rfl
theorem runOp_ExtentDefine (h : c.opcode.toNat = 0x0308) : runOp c s = runExtentDefine c s := by simp only [runOp, h]; rfl
theorem runOp_ExtentUndefine (h : c.opcode.toNat = 0x0309) : runOp c s = runExtentUndefine c s := by simp only [runOp, h]; rfl
theorem runOp_ExtentClearFailed (h : c.opcode.toNat = 0x030A) : runOp c s = runExtentClearFailed c s := by simp only [runOp, h]; rfl
theorem runOp_ExtentRead (h : c.opcode.toNat = 0x030B) : runOp c s = runExtentRead c s := by simp only [runOp, h]; rfl
theorem runOp_PortSetRole (h : c.opcode.toNat = 0x0401) : runOp c s = runPortSetRole c s := by simp only [runOp, h]; rfl
theorem runOp_PortSetLink (h : c.opcode.toNat = 0x0402) : runOp c s = runPortSetLink c s := by simp only [runOp, h]; rfl
theorem runOp_PortRetrain (h : c.opcode.toNat = 0x0403) : runOp c s = runPortRetrain c s := by simp only [runOp, h]; rfl
theorem runOp_PortRead (h : c.opcode.toNat = 0x0404) : runOp c s = runPortRead c s := by simp only [runOp, h]; rfl
theorem runOp_PortStatus (h : c.opcode.toNat = 0x0405) : runOp c s = runPortStatus c s := by simp only [runOp, h]; rfl
theorem runOp_PortPrepareRemoval (h : c.opcode.toNat = 0x0406) : runOp c s = runPortPrepareRemoval c s := by simp only [runOp, h]; rfl
theorem runOp_PortSetIdeKey (h : c.opcode.toNat = 0x0407) : runOp c s = runPortSetIdeKey c s := by simp only [runOp, h]; rfl
theorem runOp_PortBindLd (h : c.opcode.toNat = 0x0408) : runOp c s = runPortBindLd c s := by simp only [runOp, h]; rfl
theorem runOp_PortUnbindLd (h : c.opcode.toNat = 0x0409) : runOp c s = runPortUnbindLd c s := by simp only [runOp, h]; rfl
theorem runOp_PortSetLoadThresholds (h : c.opcode.toNat = 0x040A) : runOp c s = runPortSetLoadThresholds c s := by simp only [runOp, h]; rfl
theorem runOp_LaneSet (h : c.opcode.toNat = 0x0410) : runOp c s = runLaneSet c s := by simp only [runOp, h]; rfl
theorem runOp_LaneRead (h : c.opcode.toNat = 0x0411) : runOp c s = runLaneRead c s := by simp only [runOp, h]; rfl
theorem runOp_LaneStatus (h : c.opcode.toNat = 0x0412) : runOp c s = runLaneStatus c s := by simp only [runOp, h]; rfl
theorem runOp_LaneSetLoop (h : c.opcode.toNat = 0x0413) : runOp c s = runLaneSetLoop c s := by simp only [runOp, h]; rfl
theorem runOp_LanePrbs (h : c.opcode.toNat = 0x0414) : runOp c s = runLanePrbs c s := by simp only [runOp, h]; rfl
theorem runOp_LaneEyeScan (h : c.opcode.toNat = 0x0415) : runOp c s = runLaneEyeScan c s := by simp only [runOp, h]; rfl
theorem runOp_TrunkSet (h : c.opcode.toNat = 0x0420) : runOp c s = runTrunkSet c s := by simp only [runOp, h]; rfl
theorem runOp_TrunkRead (h : c.opcode.toNat = 0x0421) : runOp c s = runTrunkRead c s := by simp only [runOp, h]; rfl
theorem runOp_TrunkStatus (h : c.opcode.toNat = 0x0422) : runOp c s = runTrunkStatus c s := by simp only [runOp, h]; rfl
theorem runOp_TrunkSetLink (h : c.opcode.toNat = 0x0423) : runOp c s = runTrunkSetLink c s := by simp only [runOp, h]; rfl
theorem runOp_TrunkRetrain (h : c.opcode.toNat = 0x0424) : runOp c s = runTrunkRetrain c s := by simp only [runOp, h]; rfl
theorem runOp_TrunkRestart (h : c.opcode.toNat = 0x0425) : runOp c s = runTrunkRestart c s := by simp only [runOp, h]; rfl
theorem runOp_TrunkSetBuffers (h : c.opcode.toNat = 0x0426) : runOp c s = runTrunkSetBuffers c s := by simp only [runOp, h]; rfl
theorem runOp_TrunkSetRoute (h : c.opcode.toNat = 0x0427) : runOp c s = runTrunkSetRoute c s := by simp only [runOp, h]; rfl
theorem runOp_CohSetWeeder (h : c.opcode.toNat = 0x0501) : runOp c s = runCohSetWeeder c s := by simp only [runOp, h]; rfl
theorem runOp_CohSetSnoopTimeout (h : c.opcode.toNat = 0x0502) : runOp c s = runCohSetSnoopTimeout c s := by simp only [runOp, h]; rfl
theorem runOp_CohSetLoadThresholds (h : c.opcode.toNat = 0x0503) : runOp c s = runCohSetLoadThresholds c s := by simp only [runOp, h]; rfl
theorem runOp_CohReadEntry (h : c.opcode.toNat = 0x0504) : runOp c s = runCohReadEntry c s := by simp only [runOp, h]; rfl
theorem runOp_CohLookup (h : c.opcode.toNat = 0x0505) : runOp c s = runCohLookup c s := by simp only [runOp, h]; rfl
theorem runOp_CohStatus (h : c.opcode.toNat = 0x0506) : runOp c s = runCohStatus c s := by simp only [runOp, h]; rfl
theorem runOp_VaultFlush (h : c.opcode.toNat = 0x0601) : runOp c s = runVaultFlush c s := by simp only [runOp, h]; rfl
theorem runOp_VaultSetWriteTimeout (h : c.opcode.toNat = 0x0602) : runOp c s = runVaultSetWriteTimeout c s := by simp only [runOp, h]; rfl
theorem runOp_VaultSetPredictor (h : c.opcode.toNat = 0x0603) : runOp c s = runVaultSetPredictor c s := by simp only [runOp, h]; rfl
theorem runOp_VaultStatus (h : c.opcode.toNat = 0x0604) : runOp c s = runVaultStatus c s := by simp only [runOp, h]; rfl
theorem runOp_VaultReadTag (h : c.opcode.toNat = 0x0605) : runOp c s = runVaultReadTag c s := by simp only [runOp, h]; rfl
theorem runOp_VaultReadPredictor (h : c.opcode.toNat = 0x0606) : runOp c s = runVaultReadPredictor c s := by simp only [runOp, h]; rfl
theorem runOp_SliceBind (h : c.opcode.toNat = 0x0701) : runOp c s = runSliceBind c s := by simp only [runOp, h]; rfl
theorem runOp_SliceUnbind (h : c.opcode.toNat = 0x0702) : runOp c s = runSliceUnbind c s := by simp only [runOp, h]; rfl
theorem runOp_SliceMapPasid (h : c.opcode.toNat = 0x0703) : runOp c s = runSliceMapPasid c s := by simp only [runOp, h]; rfl
theorem runOp_SliceUnmapPasid (h : c.opcode.toNat = 0x0704) : runOp c s = runSliceUnmapPasid c s := by simp only [runOp, h]; rfl
theorem runOp_SliceFreeze (h : c.opcode.toNat = 0x0705) : runOp c s = runSliceFreeze c s := by simp only [runOp, h]; rfl
theorem runOp_SliceThaw (h : c.opcode.toNat = 0x0706) : runOp c s = runSliceThaw c s := by simp only [runOp, h]; rfl
theorem runOp_SliceReset (h : c.opcode.toNat = 0x0707) : runOp c s = runSliceReset c s := by simp only [runOp, h]; rfl
theorem runOp_SliceClearFault (h : c.opcode.toNat = 0x0708) : runOp c s = runSliceClearFault c s := by simp only [runOp, h]; rfl
theorem runOp_SliceSave (h : c.opcode.toNat = 0x0709) : runOp c s = runSliceSave c s := by simp only [runOp, h]; rfl
theorem runOp_SliceRestore (h : c.opcode.toNat = 0x070A) : runOp c s = runSliceRestore c s := by simp only [runOp, h]; rfl
theorem runOp_SliceStatus (h : c.opcode.toNat = 0x070B) : runOp c s = runSliceStatus c s := by simp only [runOp, h]; rfl
theorem runOp_ExtentMigrate (h : c.opcode.toNat = 0x0710) : runOp c s = runExtentMigrate c s := by simp only [runOp, h]; rfl
theorem runOp_ExtentMigrateCancel (h : c.opcode.toNat = 0x0711) : runOp c s = runExtentMigrateCancel c s := by simp only [runOp, h]; rfl
theorem runOp_PairForm (h : c.opcode.toNat = 0x0801) : runOp c s = runPairForm c s := by simp only [runOp, h]; rfl
theorem runOp_PairDissolve (h : c.opcode.toNat = 0x0802) : runOp c s = runPairDissolve c s := by simp only [runOp, h]; rfl
theorem runOp_PairSwitchover (h : c.opcode.toNat = 0x0803) : runOp c s = runPairSwitchover c s := by simp only [runOp, h]; rfl
theorem runOp_PairAssume (h : c.opcode.toNat = 0x0804) : runOp c s = runPairAssume c s := by simp only [runOp, h]; rfl
theorem runOp_PairPromote (h : c.opcode.toNat = 0x0805) : runOp c s = runPairPromote c s := by simp only [runOp, h]; rfl
theorem runOp_PairSetLag (h : c.opcode.toNat = 0x0806) : runOp c s = runPairSetLag c s := by simp only [runOp, h]; rfl
theorem runOp_PairClearRecovery (h : c.opcode.toNat = 0x0807) : runOp c s = runPairClearRecovery c s := by simp only [runOp, h]; rfl
theorem runOp_PairStatus (h : c.opcode.toNat = 0x0808) : runOp c s = runPairStatus c s := by simp only [runOp, h]; rfl
theorem runOp_EvtSetSource (h : c.opcode.toNat = 0x0901) : runOp c s = runEvtSetSource c s := by simp only [runOp, h]; rfl
theorem runOp_EvtReadSource (h : c.opcode.toNat = 0x0902) : runOp c s = runEvtReadSource c s := by simp only [runOp, h]; rfl
theorem runOp_EvtTrigger (h : c.opcode.toNat = 0x0903) : runOp c s = runEvtTrigger c s := by simp only [runOp, h]; rfl
theorem runOp_CtrSetSelect (h : c.opcode.toNat = 0x0A01) : runOp c s = runCtrSetSelect c s := by simp only [runOp, h]; rfl
theorem runOp_CtrSnapshot (h : c.opcode.toNat = 0x0A02) : runOp c s = runCtrSnapshot c s := by simp only [runOp, h]; rfl
theorem runOp_CtrRead (h : c.opcode.toNat = 0x0A03) : runOp c s = runCtrRead c s := by simp only [runOp, h]; rfl
theorem runOp_StatRead (h : c.opcode.toNat = 0x0A04) : runOp c s = runStatRead c s := by simp only [runOp, h]; rfl
theorem runOp_SlotSet (h : c.opcode.toNat = 0x0B01) : runOp c s = runSlotSet c s := by simp only [runOp, h]; rfl
theorem runOp_SlotOn (h : c.opcode.toNat = 0x0B02) : runOp c s = runSlotOn c s := by simp only [runOp, h]; rfl
theorem runOp_SlotOff (h : c.opcode.toNat = 0x0B03) : runOp c s = runSlotOff c s := by simp only [runOp, h]; rfl
theorem runOp_SlotClearLatch (h : c.opcode.toNat = 0x0B04) : runOp c s = runSlotClearLatch c s := by simp only [runOp, h]; rfl
theorem runOp_SlotRead (h : c.opcode.toNat = 0x0B05) : runOp c s = runSlotRead c s := by simp only [runOp, h]; rfl
theorem runOp_SlotStatus (h : c.opcode.toNat = 0x0B06) : runOp c s = runSlotStatus c s := by simp only [runOp, h]; rfl
theorem runOp_FeedSet (h : c.opcode.toNat = 0x0B07) : runOp c s = runFeedSet c s := by simp only [runOp, h]; rfl
theorem runOp_FeedStatus (h : c.opcode.toNat = 0x0B08) : runOp c s = runFeedStatus c s := by simp only [runOp, h]; rfl
theorem runOp_WearRead (h : c.opcode.toNat = 0x0C01) : runOp c s = runWearRead c s := by simp only [runOp, h]; rfl
theorem runOp_WearSummary (h : c.opcode.toNat = 0x0C02) : runOp c s = runWearSummary c s := by simp only [runOp, h]; rfl
theorem runOp_LedgerRead (h : c.opcode.toNat = 0x0C03) : runOp c s = runLedgerRead c s := by simp only [runOp, h]; rfl
theorem runOp_LedgerStatus (h : c.opcode.toNat = 0x0C04) : runOp c s = runLedgerStatus c s := by simp only [runOp, h]; rfl
theorem runOp_HealthBist (h : c.opcode.toNat = 0x0C05) : runOp c s = runHealthBist c s := by simp only [runOp, h]; rfl
theorem runOp_HealthVmin (h : c.opcode.toNat = 0x0C06) : runOp c s = runHealthVmin c s := by simp only [runOp, h]; rfl
theorem runOp_Countersign (h : c.opcode.toNat = 0x0D01) : runOp c s = runCountersign c s := by simp only [runOp, h]; rfl
theorem runOp_CsWithdraw (h : c.opcode.toNat = 0x0D02) : runOp c s = runCsWithdraw c s := by simp only [runOp, h]; rfl
theorem runOp_CsList (h : c.opcode.toNat = 0x0D03) : runOp c s = runCsList c s := by simp only [runOp, h]; rfl
theorem runOp_CsSetWindow (h : c.opcode.toNat = 0x0D04) : runOp c s = runCsSetWindow c s := by simp only [runOp, h]; rfl
theorem runOp_CsSetAuthority (h : c.opcode.toNat = 0x0D05) : runOp c s = runCsSetAuthority c s := by simp only [runOp, h]; rfl
theorem runOp_TimeSetEpoch (h : c.opcode.toNat = 0x0E01) : runOp c s = runTimeSetEpoch c s := by simp only [runOp, h]; rfl
theorem runOp_TimeSetSeason (h : c.opcode.toNat = 0x0E02) : runOp c s = runTimeSetSeason c s := by simp only [runOp, h]; rfl
theorem runOp_TimeSetRoot (h : c.opcode.toNat = 0x0E03) : runOp c s = runTimeSetRoot c s := by simp only [runOp, h]; rfl
theorem runOp_TimeRead (h : c.opcode.toNat = 0x0E04) : runOp c s = runTimeRead c s := by simp only [runOp, h]; rfl
theorem runOp_TraceSetFilter (h : c.opcode.toNat = 0x0E05) : runOp c s = runTraceSetFilter c s := by simp only [runOp, h]; rfl
theorem runOp_TraceStart (h : c.opcode.toNat = 0x0E06) : runOp c s = runTraceStart c s := by simp only [runOp, h]; rfl
theorem runOp_TraceStop (h : c.opcode.toNat = 0x0E07) : runOp c s = runTraceStop c s := by simp only [runOp, h]; rfl
theorem runOp_TraceRead (h : c.opcode.toNat = 0x0E08) : runOp c s = runTraceRead c s := by simp only [runOp, h]; rfl

end Sys2Proof.Machine
end

