-- ==== Sys2Proof/Laws/Exec.lean ====
section
/-! SUPPORT. What every command answers: the one form that all meanings share. -/

namespace Sys2Proof.Machine

/-- Every meaning makes some next state where the command is well formed, and stops by name where it is not. -/
theorem exec_form (c : Instr) (s : State) : ∃ t, exec c s = whenWf s c.wf t := by
  cases c <;> exact ⟨_, rfl⟩

/-- A well-formed command answers a next state, with the same commands waiting. -/
theorem exec_next {c : Instr} {s : State} (h : c.wf = true) : ∃ t, exec c s = .next t ∧ t.pending = s.pending := by
  obtain ⟨t, ht⟩ := exec_form c s
  exact ⟨t.setPending s.pending, by rw [ht, h]; rfl, rfl⟩

/-- A command that names a resource the device does not have stops. -/
theorem exec_fault {c : Instr} {s : State} (h : c.wf = false) : exec c s = .fault .noSuchResource := by
  obtain ⟨t, ht⟩ := exec_form c s
  rw [ht, h]; rfl

/-- A row of the command catalogue makes the Teller take its ring's next command. -/
theorem exec_command {c : Instr} {op ring : Nat} (h : c.command = some (op, ring)) (s : State) :
    exec c s = whenWf s (decide (ring < 16)) (tellerCommand op ring s) := by
  cases c <;> simp only [Instr.command, Option.some.injEq, Prod.mk.injEq, reduceCtorEq] at h <;> (obtain ⟨rfl, rfl⟩ := h; rfl)

end Sys2Proof.Machine
end

