-- ==== Sys2Proof/Laws/Tables.lean ====
section
/-! SUPPORT. Sparse tables and memories: reads after writes, and that every operation keeps the canonical form. -/

namespace Sys2Proof

variable {α : Type}

/-- A table whose indices rise above a bound also rises above a smaller one. -/
theorem Tab.above_mono {t : Tab α} {a b : Nat} (h : Tab.above (some b) t = true) (hab : a ≤ b) :
    Tab.above (some a) t = true := by
  cases t with
  | nil => rfl
  | cons e rest =>
    simp only [Tab.above, Bool.and_eq_true, decide_eq_true_eq] at h ⊢
    exact ⟨by omega, h.2⟩

/-- A table that rises above a bound rises. -/
theorem Tab.above_none {t : Tab α} {b : Nat} (h : Tab.above (some b) t = true) : Tab.above none t = true := by
  cases t with
  | nil => rfl
  | cons e rest =>
    simp only [Tab.above, Bool.and_eq_true] at h ⊢
    exact h.2

/-- An index at or below the bound of a table is not listed. -/
theorem Tab.find_below {t : Tab α} {b i : Nat} (h : Tab.above (some b) t = true) (hi : i ≤ b) : t.find i = none := by
  cases t with
  | nil => rfl
  | cons e rest =>
    obtain ⟨k, v⟩ := e
    simp only [Tab.above, Bool.and_eq_true, decide_eq_true_eq] at h
    simp only [Tab.find]
    rw [if_neg (by omega), if_pos (by omega)]

/-- Listing keeps the order, above a bound below the new index. -/
theorem Tab.above_put {t : Tab α} {b i : Nat} (v : α) (hi : b < i) (h : Tab.above (some b) t = true) :
    Tab.above (some b) (t.put i v) = true := by
  induction t generalizing b with
  | nil => simp [Tab.put, Tab.above, hi]
  | cons e rest ih =>
    obtain ⟨k, w⟩ := e
    simp only [Tab.above, Bool.and_eq_true, decide_eq_true_eq] at h
    simp only [Tab.put]
    split
    · simp only [Tab.above, Bool.and_eq_true, decide_eq_true_eq]; exact ⟨hi, ‹_›, h.2⟩
    · split
      · simp only [Tab.above, Bool.and_eq_true, decide_eq_true_eq]; exact h
      · simp only [Tab.above, Bool.and_eq_true, decide_eq_true_eq]
        exact ⟨h.1, ih (by omega) h.2⟩

/-- Listing keeps the order. -/
theorem Tab.above_none_put {t : Tab α} (i : Nat) (v : α) (h : Tab.above none t = true) : Tab.above none (t.put i v) = true := by
  cases t with
  | nil => simp [Tab.put, Tab.above]
  | cons e rest =>
    obtain ⟨k, w⟩ := e
    simp only [Tab.above] at h
    simp only [Tab.put]
    split
    · simp only [Tab.above, Bool.and_eq_true, decide_eq_true_eq]; exact ⟨‹_›, h⟩
    · split
      · simpa only [Tab.above] using h
      · simp only [Tab.above]; exact Tab.above_put v (by omega) h

/-- Removing keeps the order. -/
theorem Tab.above_drop {t : Tab α} {b : Nat} (i : Nat) (h : Tab.above (some b) t = true) :
    Tab.above (some b) (t.drop i) = true := by
  induction t generalizing b with
  | nil => rfl
  | cons e rest ih =>
    obtain ⟨k, w⟩ := e
    have h' := h
    simp only [Tab.above, Bool.and_eq_true, decide_eq_true_eq] at h'
    simp only [Tab.drop]
    split
    · exact Tab.above_mono h'.2 (by omega)
    · split
      · exact h
      · simp only [Tab.above, Bool.and_eq_true, decide_eq_true_eq]
        exact ⟨h'.1, ih h'.2⟩

/-- Removing keeps the order. -/
theorem Tab.above_none_drop {t : Tab α} (i : Nat) (h : Tab.above none t = true) : Tab.above none (t.drop i) = true := by
  cases t with
  | nil => rfl
  | cons e rest =>
    obtain ⟨k, w⟩ := e
    have h' := h
    simp only [Tab.above] at h'
    simp only [Tab.drop]
    split
    · exact Tab.above_none h'
    · split
      · exact h
      · simp only [Tab.above]; exact Tab.above_drop i h'

/-- Every content listed after a put is the new one or was listed before. -/
theorem Tab.mem_put {t : Tab α} {i : Nat} {v : α} {e : Nat × α} (h : e ∈ t.put i v) : e = (i, v) ∨ e ∈ t := by
  induction t with
  | nil => simpa [Tab.put] using h
  | cons x rest ih =>
    obtain ⟨k, w⟩ := x
    simp only [Tab.put] at h
    split at h
    · simpa using h
    · split at h
      · rcases List.mem_cons.1 h with h1 | h1
        · left; rw [h1, ‹i = k›]
        · right; exact List.mem_cons_of_mem _ h1
      · rcases List.mem_cons.1 h with h1 | h1
        · right; rw [h1]; exact List.mem_cons_self
        · rcases ih h1 with h2 | h2
          · exact Or.inl h2
          · exact Or.inr (List.mem_cons_of_mem _ h2)

/-- Everything listed after a removal was listed before. -/
theorem Tab.mem_drop {t : Tab α} {i : Nat} {e : Nat × α} (h : e ∈ t.drop i) : e ∈ t := by
  induction t with
  | nil => simpa [Tab.drop] using h
  | cons x rest ih =>
    obtain ⟨k, w⟩ := x
    simp only [Tab.drop] at h
    split at h
    · exact List.mem_cons_of_mem _ h
    · split at h
      · exact h
      · rcases List.mem_cons.1 h with h1 | h1
        · rw [h1]; exact List.mem_cons_self
        · exact List.mem_cons_of_mem _ (ih h1)

/-- Setting an index keeps the canonical form. -/
theorem Tab.wf_set [DecidableEq α] {t : Tab α} {d : α} (i : Nat) (v : α) (h : t.wf d = true) : (t.set d i v).wf d = true := by
  simp only [Tab.wf, Bool.and_eq_true, List.all_eq_true, decide_eq_true_eq] at h ⊢
  unfold Tab.set
  split
  · exact ⟨Tab.above_none_drop i h.1, fun e he => h.2 e (Tab.mem_drop he)⟩
  · refine ⟨Tab.above_none_put i v h.1, fun e he => ?_⟩
    rcases Tab.mem_put he with h1 | h1
    · rw [h1]; assumption
    · exact h.2 e h1

/-- Listed after a put: the new content at its index. -/
theorem Tab.find_put_same (t : Tab α) (i : Nat) (v : α) : (t.put i v).find i = some v := by
  induction t with
  | nil => simp [Tab.put, Tab.find]
  | cons x rest ih =>
    obtain ⟨k, w⟩ := x
    simp only [Tab.put]
    split
    · simp [Tab.find]
    · split
      · simp [Tab.find, ‹i = k›]
      · simp only [Tab.find]; rw [if_neg ‹_›, if_neg ‹_›, ih]

/-- A put leaves every other index alone. -/
theorem Tab.find_put_ne (t : Tab α) {i j : Nat} (v : α) (hij : j ≠ i) : (t.put i v).find j = t.find j := by
  induction t with
  | nil => simp [Tab.put, Tab.find, hij]
  | cons x rest ih =>
    obtain ⟨k, w⟩ := x
    simp only [Tab.put]
    split
    · simp only [Tab.find]
      rw [if_neg hij]
      split
      · rw [if_neg (by omega), if_pos (by omega)]
      · rfl
    · split
      · simp only [Tab.find]
        rw [if_neg (show ¬ j = k by omega), if_neg (show ¬ j = k by omega)]
      · simp only [Tab.find, ih]

/-- Not listed after a removal. -/
theorem Tab.find_drop_same {t : Tab α} (i : Nat) (h : Tab.above none t = true) : (t.drop i).find i = none := by
  induction t with
  | nil => rfl
  | cons x rest ih =>
    obtain ⟨k, w⟩ := x
    simp only [Tab.above] at h
    simp only [Tab.drop]
    split
    · exact Tab.find_below h (by omega)
    · split
      · simp only [Tab.find]; rw [if_neg ‹_›, if_pos ‹_›]
      · simp only [Tab.find]; rw [if_neg ‹_›, if_neg ‹_›]; exact ih (Tab.above_none h)

/-- A removal leaves every other index alone. -/
theorem Tab.find_drop_ne {t : Tab α} {i j : Nat} (h : Tab.above none t = true) (hij : j ≠ i) : (t.drop i).find j = t.find j := by
  induction t with
  | nil => rfl
  | cons x rest ih =>
    obtain ⟨k, w⟩ := x
    simp only [Tab.above] at h
    simp only [Tab.drop]
    split
    · simp only [Tab.find]
      rw [if_neg (by omega)]
      split
      · exact Tab.find_below h (by omega)
      · rfl
    · split
      · rfl
      · simp only [Tab.find]; rw [ih (Tab.above_none h)]

/-- Read after write at the same index. -/
theorem Tab.get_set_same [DecidableEq α] {t : Tab α} {d : α} (i : Nat) (v : α) (h : t.wf d = true) : (t.set d i v).get d i = v := by
  simp only [Tab.wf, Bool.and_eq_true] at h
  unfold Tab.set Tab.get
  split
  · rw [Tab.find_drop_same i h.1]; simp_all
  · rw [Tab.find_put_same]; rfl

/-- Read after write at the same index of a table in order. -/
theorem Tab.get_set_self [DecidableEq α] {t : Tab α} {d : α} (i : Nat) (v : α) (h : Tab.above none t = true) :
    (t.set d i v).get d i = v := by
  unfold Tab.set Tab.get
  split
  · rw [Tab.find_drop_same i h]; simp_all
  · rw [Tab.find_put_same]; rfl

/-- A write keeps the order. -/
theorem Tab.above_none_set [DecidableEq α] {t : Tab α} {d : α} (i : Nat) (v : α) (h : Tab.above none t = true) :
    Tab.above none (t.set d i v) = true := by
  unfold Tab.set
  split
  · exact Tab.above_none_drop i h
  · exact Tab.above_none_put i v h

/-- Read after write at another index. -/
theorem Tab.get_set_ne [DecidableEq α] {t : Tab α} {d : α} {i j : Nat} (v : α) (h : t.wf d = true) (hij : j ≠ i) :
    (t.set d i v).get d j = t.get d j := by
  simp only [Tab.wf, Bool.and_eq_true] at h
  unfold Tab.set Tab.get
  split
  · rw [Tab.find_drop_ne h.1 hij]
  · rw [Tab.find_put_ne t v hij]

/-- An updated index reads as the changed content. -/
theorem Tab.get_upd_same [DecidableEq α] {t : Tab α} {d : α} (i : Nat) (f : α → α) (h : t.wf d = true) :
    (t.upd d i f).get d i = f (t.get d i) := Tab.get_set_same i _ h

/-- An update leaves every other index alone. -/
theorem Tab.get_upd_ne [DecidableEq α] {t : Tab α} {d : α} {i j : Nat} (f : α → α) (h : t.wf d = true) (hij : j ≠ i) :
    (t.upd d i f).get d j = t.get d j := Tab.get_set_ne _ h hij

/-- An update keeps the canonical form. -/
theorem Tab.wf_upd [DecidableEq α] {t : Tab α} {d : α} (i : Nat) (f : α → α) (h : t.wf d = true) : (t.upd d i f).wf d = true :=
  Tab.wf_set i _ h

namespace Machine

/-- Writing one byte keeps the canonical form of a memory. -/
theorem Memory.wf_memSet {d : Byte} {m : List (Nat × Byte)} (a : Nat) (b : Byte) (h : Memory.wf d m = true) :
    Memory.wf d (memSet d m a b) = true := Tab.wf_set a b h

/-- Writing bytes keeps the canonical form of a memory. -/
theorem Memory.wf_memWrite {d : Byte} (l : List Byte) {m : List (Nat × Byte)} (a : Nat) (h : Memory.wf d m = true) :
    Memory.wf d (memWrite d m a l) = true := by
  induction l generalizing m a with
  | nil => exact h
  | cons b rest ih => exact ih (a + 1) (Memory.wf_memSet a b h)

/-- A memory with nothing listed is in canonical form. -/
theorem Memory.wf_nil (d : Byte) : Memory.wf d [] = true := rfl

/-- Read after write of one byte at its address. -/
theorem memGet_memSet_same {d : Byte} {m : List (Nat × Byte)} (a : Nat) (b : Byte) (h : Memory.wf d m = true) :
    memGet d (memSet d m a b) a = b := Tab.get_set_same a b h

/-- Read after write of one byte at another address. -/
theorem memGet_memSet_ne {d : Byte} {m : List (Nat × Byte)} {a x : Nat} (b : Byte) (h : Memory.wf d m = true) (hx : x ≠ a) :
    memGet d (memSet d m a b) x = memGet d m x := Tab.get_set_ne b h hx

/-- A write of bytes leaves every address outside them alone. -/
theorem memGet_memWrite_out {d : Byte} (l : List Byte) {m : List (Nat × Byte)} {a x : Nat} (h : Memory.wf d m = true)
    (hx : x < a ∨ a + l.length ≤ x) : memGet d (memWrite d m a l) x = memGet d m x := by
  induction l generalizing m a with
  | nil => rfl
  | cons b rest ih =>
    simp only [List.length_cons] at hx
    rw [memWrite, ih (Memory.wf_memSet a b h) (by omega), memGet_memSet_ne b h (by omega)]

/-- Byte i of bytes written from an address on reads back. -/
theorem memGet_memWrite_in {d : Byte} (l : List Byte) {m : List (Nat × Byte)} {a i : Nat} (h : Memory.wf d m = true)
    (hi : i < l.length) : memGet d (memWrite d m a l) (a + i) = l[i] := by
  induction l generalizing m a i with
  | nil => simp at hi
  | cons b rest ih =>
    cases i with
    | zero =>
      rw [memWrite, memGet_memWrite_out rest (Memory.wf_memSet a b h) (by omega)]
      exact memGet_memSet_same a b h
    | succ n =>
      have := ih (a := a + 1) (i := n) (Memory.wf_memSet a b h) (by simpa using hi)
      rw [show a + (n + 1) = a + 1 + n by omega, memWrite, this]
      simp

/-- Bytes written read back whole. -/
theorem memRead_memWrite {d : Byte} (l : List Byte) {m : List (Nat × Byte)} (a : Nat) (h : Memory.wf d m = true) :
    memRead d (memWrite d m a l) a l.length = l := by
  apply List.ext_getElem
  · simp [memRead]
  · intro i h1 h2
    simp only [memRead, List.getElem_map, List.getElem_range]
    exact memGet_memWrite_in l h h2

end Machine

end Sys2Proof
end

