-- ==== Sys2Proof/Laws/Modify.lean ====
section
/-! SUPPORT. Changing one entry of a table leaves every other component as it was, and the entry reads as changed. -/

namespace Sys2Proof.Machine

variable {s : State} {i j : Nat}

@[simp] theorem State.modRing_time (s : State) (i : Nat) (g : Ring → Ring) : (s.modRing i g).time = s.time := rfl
@[simp] theorem State.modRing_dev (s : State) (i : Nat) (g : Ring → Ring) : (s.modRing i g).dev = s.dev := rfl
@[simp] theorem State.modRing_evc (s : State) (i : Nat) (g : Ring → Ring) : (s.modRing i g).evc = s.evc := rfl
@[simp] theorem State.modRing_ctr (s : State) (i : Nat) (g : Ring → Ring) : (s.modRing i g).ctr = s.ctr := rfl
@[simp] theorem State.modRing_ledger (s : State) (i : Nat) (g : Ring → Ring) : (s.modRing i g).ledger = s.ledger := rfl
@[simp] theorem State.modRing_wear (s : State) (i : Nat) (g : Ring → Ring) : (s.modRing i g).wear = s.wear := rfl
@[simp] theorem State.modRing_records (s : State) (i : Nat) (g : Ring → Ring) : (s.modRing i g).records = s.records := rfl
@[simp] theorem State.modRing_pool (s : State) (i : Nat) (g : Ring → Ring) : (s.modRing i g).pool = s.pool := rfl
@[simp] theorem State.modRing_home (s : State) (i : Nat) (g : Ring → Ring) : (s.modRing i g).home = s.home := rfl
@[simp] theorem State.modRing_switch (s : State) (i : Nat) (g : Ring → Ring) : (s.modRing i g).switch = s.switch := rfl
@[simp] theorem State.modRing_ports (s : State) (i : Nat) (g : Ring → Ring) : (s.modRing i g).ports = s.ports := rfl
@[simp] theorem State.modRing_lanes (s : State) (i : Nat) (g : Ring → Ring) : (s.modRing i g).lanes = s.lanes := rfl
@[simp] theorem State.modRing_trunks (s : State) (i : Nat) (g : Ring → Ring) : (s.modRing i g).trunks = s.trunks := rfl
@[simp] theorem State.modRing_pair (s : State) (i : Nat) (g : Ring → Ring) : (s.modRing i g).pair = s.pair := rfl
@[simp] theorem State.modRing_barrow (s : State) (i : Nat) (g : Ring → Ring) : (s.modRing i g).barrow = s.barrow := rfl
@[simp] theorem State.modRing_steward (s : State) (i : Nat) (g : Ring → Ring) : (s.modRing i g).steward = s.steward := rfl
@[simp] theorem State.modRing_dieLink (s : State) (i : Nat) (g : Ring → Ring) : (s.modRing i g).dieLink = s.dieLink := rfl
@[simp] theorem State.modRing_bridge (s : State) (i : Nat) (g : Ring → Ring) : (s.modRing i g).bridge = s.bridge := rfl
@[simp] theorem State.modRing_power (s : State) (i : Nat) (g : Ring → Ring) : (s.modRing i g).power = s.power := rfl
@[simp] theorem State.modRing_free (s : State) (i : Nat) (g : Ring → Ring) : (s.modRing i g).free = s.free := rfl
@[simp] theorem State.modRing_pending (s : State) (i : Nat) (g : Ring → Ring) : (s.modRing i g).pending = s.pending := rfl

@[simp] theorem State.modPlot_time (s : State) (i : Nat) (g : Plot → Plot) : (s.modPlot i g).time = s.time := rfl
@[simp] theorem State.modPlot_dev (s : State) (i : Nat) (g : Plot → Plot) : (s.modPlot i g).dev = s.dev := rfl
@[simp] theorem State.modPlot_evc (s : State) (i : Nat) (g : Plot → Plot) : (s.modPlot i g).evc = s.evc := rfl
@[simp] theorem State.modPlot_ctr (s : State) (i : Nat) (g : Plot → Plot) : (s.modPlot i g).ctr = s.ctr := rfl
@[simp] theorem State.modPlot_ledger (s : State) (i : Nat) (g : Plot → Plot) : (s.modPlot i g).ledger = s.ledger := rfl
@[simp] theorem State.modPlot_wear (s : State) (i : Nat) (g : Plot → Plot) : (s.modPlot i g).wear = s.wear := rfl
@[simp] theorem State.modPlot_records (s : State) (i : Nat) (g : Plot → Plot) : (s.modPlot i g).records = s.records := rfl
@[simp] theorem State.modPlot_teller (s : State) (i : Nat) (g : Plot → Plot) : (s.modPlot i g).teller = s.teller := rfl
@[simp] theorem State.modPlot_home (s : State) (i : Nat) (g : Plot → Plot) : (s.modPlot i g).home = s.home := rfl
@[simp] theorem State.modPlot_switch (s : State) (i : Nat) (g : Plot → Plot) : (s.modPlot i g).switch = s.switch := rfl
@[simp] theorem State.modPlot_ports (s : State) (i : Nat) (g : Plot → Plot) : (s.modPlot i g).ports = s.ports := rfl
@[simp] theorem State.modPlot_lanes (s : State) (i : Nat) (g : Plot → Plot) : (s.modPlot i g).lanes = s.lanes := rfl
@[simp] theorem State.modPlot_trunks (s : State) (i : Nat) (g : Plot → Plot) : (s.modPlot i g).trunks = s.trunks := rfl
@[simp] theorem State.modPlot_pair (s : State) (i : Nat) (g : Plot → Plot) : (s.modPlot i g).pair = s.pair := rfl
@[simp] theorem State.modPlot_barrow (s : State) (i : Nat) (g : Plot → Plot) : (s.modPlot i g).barrow = s.barrow := rfl
@[simp] theorem State.modPlot_steward (s : State) (i : Nat) (g : Plot → Plot) : (s.modPlot i g).steward = s.steward := rfl
@[simp] theorem State.modPlot_dieLink (s : State) (i : Nat) (g : Plot → Plot) : (s.modPlot i g).dieLink = s.dieLink := rfl
@[simp] theorem State.modPlot_bridge (s : State) (i : Nat) (g : Plot → Plot) : (s.modPlot i g).bridge = s.bridge := rfl
@[simp] theorem State.modPlot_power (s : State) (i : Nat) (g : Plot → Plot) : (s.modPlot i g).power = s.power := rfl
@[simp] theorem State.modPlot_free (s : State) (i : Nat) (g : Plot → Plot) : (s.modPlot i g).free = s.free := rfl
@[simp] theorem State.modPlot_pending (s : State) (i : Nat) (g : Plot → Plot) : (s.modPlot i g).pending = s.pending := rfl

@[simp] theorem State.modBed_time (s : State) (i : Nat) (g : Bed → Bed) : (s.modBed i g).time = s.time := rfl
@[simp] theorem State.modBed_dev (s : State) (i : Nat) (g : Bed → Bed) : (s.modBed i g).dev = s.dev := rfl
@[simp] theorem State.modBed_evc (s : State) (i : Nat) (g : Bed → Bed) : (s.modBed i g).evc = s.evc := rfl
@[simp] theorem State.modBed_ctr (s : State) (i : Nat) (g : Bed → Bed) : (s.modBed i g).ctr = s.ctr := rfl
@[simp] theorem State.modBed_ledger (s : State) (i : Nat) (g : Bed → Bed) : (s.modBed i g).ledger = s.ledger := rfl
@[simp] theorem State.modBed_wear (s : State) (i : Nat) (g : Bed → Bed) : (s.modBed i g).wear = s.wear := rfl
@[simp] theorem State.modBed_records (s : State) (i : Nat) (g : Bed → Bed) : (s.modBed i g).records = s.records := rfl
@[simp] theorem State.modBed_teller (s : State) (i : Nat) (g : Bed → Bed) : (s.modBed i g).teller = s.teller := rfl
@[simp] theorem State.modBed_home (s : State) (i : Nat) (g : Bed → Bed) : (s.modBed i g).home = s.home := rfl
@[simp] theorem State.modBed_switch (s : State) (i : Nat) (g : Bed → Bed) : (s.modBed i g).switch = s.switch := rfl
@[simp] theorem State.modBed_ports (s : State) (i : Nat) (g : Bed → Bed) : (s.modBed i g).ports = s.ports := rfl
@[simp] theorem State.modBed_lanes (s : State) (i : Nat) (g : Bed → Bed) : (s.modBed i g).lanes = s.lanes := rfl
@[simp] theorem State.modBed_trunks (s : State) (i : Nat) (g : Bed → Bed) : (s.modBed i g).trunks = s.trunks := rfl
@[simp] theorem State.modBed_pair (s : State) (i : Nat) (g : Bed → Bed) : (s.modBed i g).pair = s.pair := rfl
@[simp] theorem State.modBed_barrow (s : State) (i : Nat) (g : Bed → Bed) : (s.modBed i g).barrow = s.barrow := rfl
@[simp] theorem State.modBed_steward (s : State) (i : Nat) (g : Bed → Bed) : (s.modBed i g).steward = s.steward := rfl
@[simp] theorem State.modBed_dieLink (s : State) (i : Nat) (g : Bed → Bed) : (s.modBed i g).dieLink = s.dieLink := rfl
@[simp] theorem State.modBed_bridge (s : State) (i : Nat) (g : Bed → Bed) : (s.modBed i g).bridge = s.bridge := rfl
@[simp] theorem State.modBed_power (s : State) (i : Nat) (g : Bed → Bed) : (s.modBed i g).power = s.power := rfl
@[simp] theorem State.modBed_free (s : State) (i : Nat) (g : Bed → Bed) : (s.modBed i g).free = s.free := rfl
@[simp] theorem State.modBed_pending (s : State) (i : Nat) (g : Bed → Bed) : (s.modBed i g).pending = s.pending := rfl

@[simp] theorem State.modExtent_time (s : State) (i : Nat) (g : Extent → Extent) : (s.modExtent i g).time = s.time := rfl
@[simp] theorem State.modExtent_dev (s : State) (i : Nat) (g : Extent → Extent) : (s.modExtent i g).dev = s.dev := rfl
@[simp] theorem State.modExtent_evc (s : State) (i : Nat) (g : Extent → Extent) : (s.modExtent i g).evc = s.evc := rfl
@[simp] theorem State.modExtent_ctr (s : State) (i : Nat) (g : Extent → Extent) : (s.modExtent i g).ctr = s.ctr := rfl
@[simp] theorem State.modExtent_ledger (s : State) (i : Nat) (g : Extent → Extent) : (s.modExtent i g).ledger = s.ledger := rfl
@[simp] theorem State.modExtent_wear (s : State) (i : Nat) (g : Extent → Extent) : (s.modExtent i g).wear = s.wear := rfl
@[simp] theorem State.modExtent_records (s : State) (i : Nat) (g : Extent → Extent) : (s.modExtent i g).records = s.records := rfl
@[simp] theorem State.modExtent_teller (s : State) (i : Nat) (g : Extent → Extent) : (s.modExtent i g).teller = s.teller := rfl
@[simp] theorem State.modExtent_home (s : State) (i : Nat) (g : Extent → Extent) : (s.modExtent i g).home = s.home := rfl
@[simp] theorem State.modExtent_switch (s : State) (i : Nat) (g : Extent → Extent) : (s.modExtent i g).switch = s.switch := rfl
@[simp] theorem State.modExtent_ports (s : State) (i : Nat) (g : Extent → Extent) : (s.modExtent i g).ports = s.ports := rfl
@[simp] theorem State.modExtent_lanes (s : State) (i : Nat) (g : Extent → Extent) : (s.modExtent i g).lanes = s.lanes := rfl
@[simp] theorem State.modExtent_trunks (s : State) (i : Nat) (g : Extent → Extent) : (s.modExtent i g).trunks = s.trunks := rfl
@[simp] theorem State.modExtent_pair (s : State) (i : Nat) (g : Extent → Extent) : (s.modExtent i g).pair = s.pair := rfl
@[simp] theorem State.modExtent_barrow (s : State) (i : Nat) (g : Extent → Extent) : (s.modExtent i g).barrow = s.barrow := rfl
@[simp] theorem State.modExtent_steward (s : State) (i : Nat) (g : Extent → Extent) : (s.modExtent i g).steward = s.steward := rfl
@[simp] theorem State.modExtent_dieLink (s : State) (i : Nat) (g : Extent → Extent) : (s.modExtent i g).dieLink = s.dieLink := rfl
@[simp] theorem State.modExtent_bridge (s : State) (i : Nat) (g : Extent → Extent) : (s.modExtent i g).bridge = s.bridge := rfl
@[simp] theorem State.modExtent_power (s : State) (i : Nat) (g : Extent → Extent) : (s.modExtent i g).power = s.power := rfl
@[simp] theorem State.modExtent_free (s : State) (i : Nat) (g : Extent → Extent) : (s.modExtent i g).free = s.free := rfl
@[simp] theorem State.modExtent_pending (s : State) (i : Nat) (g : Extent → Extent) : (s.modExtent i g).pending = s.pending := rfl

@[simp] theorem State.modAgent_time (s : State) (i : Nat) (g : Agent → Agent) : (s.modAgent i g).time = s.time := rfl
@[simp] theorem State.modAgent_dev (s : State) (i : Nat) (g : Agent → Agent) : (s.modAgent i g).dev = s.dev := rfl
@[simp] theorem State.modAgent_evc (s : State) (i : Nat) (g : Agent → Agent) : (s.modAgent i g).evc = s.evc := rfl
@[simp] theorem State.modAgent_ctr (s : State) (i : Nat) (g : Agent → Agent) : (s.modAgent i g).ctr = s.ctr := rfl
@[simp] theorem State.modAgent_ledger (s : State) (i : Nat) (g : Agent → Agent) : (s.modAgent i g).ledger = s.ledger := rfl
@[simp] theorem State.modAgent_wear (s : State) (i : Nat) (g : Agent → Agent) : (s.modAgent i g).wear = s.wear := rfl
@[simp] theorem State.modAgent_records (s : State) (i : Nat) (g : Agent → Agent) : (s.modAgent i g).records = s.records := rfl
@[simp] theorem State.modAgent_teller (s : State) (i : Nat) (g : Agent → Agent) : (s.modAgent i g).teller = s.teller := rfl
@[simp] theorem State.modAgent_home (s : State) (i : Nat) (g : Agent → Agent) : (s.modAgent i g).home = s.home := rfl
@[simp] theorem State.modAgent_switch (s : State) (i : Nat) (g : Agent → Agent) : (s.modAgent i g).switch = s.switch := rfl
@[simp] theorem State.modAgent_ports (s : State) (i : Nat) (g : Agent → Agent) : (s.modAgent i g).ports = s.ports := rfl
@[simp] theorem State.modAgent_lanes (s : State) (i : Nat) (g : Agent → Agent) : (s.modAgent i g).lanes = s.lanes := rfl
@[simp] theorem State.modAgent_trunks (s : State) (i : Nat) (g : Agent → Agent) : (s.modAgent i g).trunks = s.trunks := rfl
@[simp] theorem State.modAgent_pair (s : State) (i : Nat) (g : Agent → Agent) : (s.modAgent i g).pair = s.pair := rfl
@[simp] theorem State.modAgent_barrow (s : State) (i : Nat) (g : Agent → Agent) : (s.modAgent i g).barrow = s.barrow := rfl
@[simp] theorem State.modAgent_steward (s : State) (i : Nat) (g : Agent → Agent) : (s.modAgent i g).steward = s.steward := rfl
@[simp] theorem State.modAgent_dieLink (s : State) (i : Nat) (g : Agent → Agent) : (s.modAgent i g).dieLink = s.dieLink := rfl
@[simp] theorem State.modAgent_bridge (s : State) (i : Nat) (g : Agent → Agent) : (s.modAgent i g).bridge = s.bridge := rfl
@[simp] theorem State.modAgent_power (s : State) (i : Nat) (g : Agent → Agent) : (s.modAgent i g).power = s.power := rfl
@[simp] theorem State.modAgent_free (s : State) (i : Nat) (g : Agent → Agent) : (s.modAgent i g).free = s.free := rfl
@[simp] theorem State.modAgent_pending (s : State) (i : Nat) (g : Agent → Agent) : (s.modAgent i g).pending = s.pending := rfl

@[simp] theorem State.modSlice_time (s : State) (i : Nat) (g : Slice → Slice) : (s.modSlice i g).time = s.time := rfl
@[simp] theorem State.modSlice_dev (s : State) (i : Nat) (g : Slice → Slice) : (s.modSlice i g).dev = s.dev := rfl
@[simp] theorem State.modSlice_evc (s : State) (i : Nat) (g : Slice → Slice) : (s.modSlice i g).evc = s.evc := rfl
@[simp] theorem State.modSlice_ctr (s : State) (i : Nat) (g : Slice → Slice) : (s.modSlice i g).ctr = s.ctr := rfl
@[simp] theorem State.modSlice_ledger (s : State) (i : Nat) (g : Slice → Slice) : (s.modSlice i g).ledger = s.ledger := rfl
@[simp] theorem State.modSlice_wear (s : State) (i : Nat) (g : Slice → Slice) : (s.modSlice i g).wear = s.wear := rfl
@[simp] theorem State.modSlice_records (s : State) (i : Nat) (g : Slice → Slice) : (s.modSlice i g).records = s.records := rfl
@[simp] theorem State.modSlice_teller (s : State) (i : Nat) (g : Slice → Slice) : (s.modSlice i g).teller = s.teller := rfl
@[simp] theorem State.modSlice_pool (s : State) (i : Nat) (g : Slice → Slice) : (s.modSlice i g).pool = s.pool := rfl
@[simp] theorem State.modSlice_switch (s : State) (i : Nat) (g : Slice → Slice) : (s.modSlice i g).switch = s.switch := rfl
@[simp] theorem State.modSlice_ports (s : State) (i : Nat) (g : Slice → Slice) : (s.modSlice i g).ports = s.ports := rfl
@[simp] theorem State.modSlice_lanes (s : State) (i : Nat) (g : Slice → Slice) : (s.modSlice i g).lanes = s.lanes := rfl
@[simp] theorem State.modSlice_trunks (s : State) (i : Nat) (g : Slice → Slice) : (s.modSlice i g).trunks = s.trunks := rfl
@[simp] theorem State.modSlice_pair (s : State) (i : Nat) (g : Slice → Slice) : (s.modSlice i g).pair = s.pair := rfl
@[simp] theorem State.modSlice_barrow (s : State) (i : Nat) (g : Slice → Slice) : (s.modSlice i g).barrow = s.barrow := rfl
@[simp] theorem State.modSlice_steward (s : State) (i : Nat) (g : Slice → Slice) : (s.modSlice i g).steward = s.steward := rfl
@[simp] theorem State.modSlice_dieLink (s : State) (i : Nat) (g : Slice → Slice) : (s.modSlice i g).dieLink = s.dieLink := rfl
@[simp] theorem State.modSlice_bridge (s : State) (i : Nat) (g : Slice → Slice) : (s.modSlice i g).bridge = s.bridge := rfl
@[simp] theorem State.modSlice_power (s : State) (i : Nat) (g : Slice → Slice) : (s.modSlice i g).power = s.power := rfl
@[simp] theorem State.modSlice_free (s : State) (i : Nat) (g : Slice → Slice) : (s.modSlice i g).free = s.free := rfl
@[simp] theorem State.modSlice_pending (s : State) (i : Nat) (g : Slice → Slice) : (s.modSlice i g).pending = s.pending := rfl

@[simp] theorem State.modPort_time (s : State) (i : Nat) (g : Port → Port) : (s.modPort i g).time = s.time := rfl
@[simp] theorem State.modPort_dev (s : State) (i : Nat) (g : Port → Port) : (s.modPort i g).dev = s.dev := rfl
@[simp] theorem State.modPort_evc (s : State) (i : Nat) (g : Port → Port) : (s.modPort i g).evc = s.evc := rfl
@[simp] theorem State.modPort_ctr (s : State) (i : Nat) (g : Port → Port) : (s.modPort i g).ctr = s.ctr := rfl
@[simp] theorem State.modPort_ledger (s : State) (i : Nat) (g : Port → Port) : (s.modPort i g).ledger = s.ledger := rfl
@[simp] theorem State.modPort_wear (s : State) (i : Nat) (g : Port → Port) : (s.modPort i g).wear = s.wear := rfl
@[simp] theorem State.modPort_records (s : State) (i : Nat) (g : Port → Port) : (s.modPort i g).records = s.records := rfl
@[simp] theorem State.modPort_teller (s : State) (i : Nat) (g : Port → Port) : (s.modPort i g).teller = s.teller := rfl
@[simp] theorem State.modPort_pool (s : State) (i : Nat) (g : Port → Port) : (s.modPort i g).pool = s.pool := rfl
@[simp] theorem State.modPort_home (s : State) (i : Nat) (g : Port → Port) : (s.modPort i g).home = s.home := rfl
@[simp] theorem State.modPort_switch (s : State) (i : Nat) (g : Port → Port) : (s.modPort i g).switch = s.switch := rfl
@[simp] theorem State.modPort_lanes (s : State) (i : Nat) (g : Port → Port) : (s.modPort i g).lanes = s.lanes := rfl
@[simp] theorem State.modPort_trunks (s : State) (i : Nat) (g : Port → Port) : (s.modPort i g).trunks = s.trunks := rfl
@[simp] theorem State.modPort_pair (s : State) (i : Nat) (g : Port → Port) : (s.modPort i g).pair = s.pair := rfl
@[simp] theorem State.modPort_barrow (s : State) (i : Nat) (g : Port → Port) : (s.modPort i g).barrow = s.barrow := rfl
@[simp] theorem State.modPort_steward (s : State) (i : Nat) (g : Port → Port) : (s.modPort i g).steward = s.steward := rfl
@[simp] theorem State.modPort_dieLink (s : State) (i : Nat) (g : Port → Port) : (s.modPort i g).dieLink = s.dieLink := rfl
@[simp] theorem State.modPort_bridge (s : State) (i : Nat) (g : Port → Port) : (s.modPort i g).bridge = s.bridge := rfl
@[simp] theorem State.modPort_power (s : State) (i : Nat) (g : Port → Port) : (s.modPort i g).power = s.power := rfl
@[simp] theorem State.modPort_free (s : State) (i : Nat) (g : Port → Port) : (s.modPort i g).free = s.free := rfl
@[simp] theorem State.modPort_pending (s : State) (i : Nat) (g : Port → Port) : (s.modPort i g).pending = s.pending := rfl

@[simp] theorem State.modLane_time (s : State) (i : Nat) (g : Lane → Lane) : (s.modLane i g).time = s.time := rfl
@[simp] theorem State.modLane_dev (s : State) (i : Nat) (g : Lane → Lane) : (s.modLane i g).dev = s.dev := rfl
@[simp] theorem State.modLane_evc (s : State) (i : Nat) (g : Lane → Lane) : (s.modLane i g).evc = s.evc := rfl
@[simp] theorem State.modLane_ctr (s : State) (i : Nat) (g : Lane → Lane) : (s.modLane i g).ctr = s.ctr := rfl
@[simp] theorem State.modLane_ledger (s : State) (i : Nat) (g : Lane → Lane) : (s.modLane i g).ledger = s.ledger := rfl
@[simp] theorem State.modLane_wear (s : State) (i : Nat) (g : Lane → Lane) : (s.modLane i g).wear = s.wear := rfl
@[simp] theorem State.modLane_records (s : State) (i : Nat) (g : Lane → Lane) : (s.modLane i g).records = s.records := rfl
@[simp] theorem State.modLane_teller (s : State) (i : Nat) (g : Lane → Lane) : (s.modLane i g).teller = s.teller := rfl
@[simp] theorem State.modLane_pool (s : State) (i : Nat) (g : Lane → Lane) : (s.modLane i g).pool = s.pool := rfl
@[simp] theorem State.modLane_home (s : State) (i : Nat) (g : Lane → Lane) : (s.modLane i g).home = s.home := rfl
@[simp] theorem State.modLane_switch (s : State) (i : Nat) (g : Lane → Lane) : (s.modLane i g).switch = s.switch := rfl
@[simp] theorem State.modLane_ports (s : State) (i : Nat) (g : Lane → Lane) : (s.modLane i g).ports = s.ports := rfl
@[simp] theorem State.modLane_trunks (s : State) (i : Nat) (g : Lane → Lane) : (s.modLane i g).trunks = s.trunks := rfl
@[simp] theorem State.modLane_pair (s : State) (i : Nat) (g : Lane → Lane) : (s.modLane i g).pair = s.pair := rfl
@[simp] theorem State.modLane_barrow (s : State) (i : Nat) (g : Lane → Lane) : (s.modLane i g).barrow = s.barrow := rfl
@[simp] theorem State.modLane_steward (s : State) (i : Nat) (g : Lane → Lane) : (s.modLane i g).steward = s.steward := rfl
@[simp] theorem State.modLane_dieLink (s : State) (i : Nat) (g : Lane → Lane) : (s.modLane i g).dieLink = s.dieLink := rfl
@[simp] theorem State.modLane_bridge (s : State) (i : Nat) (g : Lane → Lane) : (s.modLane i g).bridge = s.bridge := rfl
@[simp] theorem State.modLane_power (s : State) (i : Nat) (g : Lane → Lane) : (s.modLane i g).power = s.power := rfl
@[simp] theorem State.modLane_free (s : State) (i : Nat) (g : Lane → Lane) : (s.modLane i g).free = s.free := rfl
@[simp] theorem State.modLane_pending (s : State) (i : Nat) (g : Lane → Lane) : (s.modLane i g).pending = s.pending := rfl

@[simp] theorem State.modTrunk_time (s : State) (i : Nat) (g : Trunk → Trunk) : (s.modTrunk i g).time = s.time := rfl
@[simp] theorem State.modTrunk_dev (s : State) (i : Nat) (g : Trunk → Trunk) : (s.modTrunk i g).dev = s.dev := rfl
@[simp] theorem State.modTrunk_evc (s : State) (i : Nat) (g : Trunk → Trunk) : (s.modTrunk i g).evc = s.evc := rfl
@[simp] theorem State.modTrunk_ctr (s : State) (i : Nat) (g : Trunk → Trunk) : (s.modTrunk i g).ctr = s.ctr := rfl
@[simp] theorem State.modTrunk_ledger (s : State) (i : Nat) (g : Trunk → Trunk) : (s.modTrunk i g).ledger = s.ledger := rfl
@[simp] theorem State.modTrunk_wear (s : State) (i : Nat) (g : Trunk → Trunk) : (s.modTrunk i g).wear = s.wear := rfl
@[simp] theorem State.modTrunk_records (s : State) (i : Nat) (g : Trunk → Trunk) : (s.modTrunk i g).records = s.records := rfl
@[simp] theorem State.modTrunk_teller (s : State) (i : Nat) (g : Trunk → Trunk) : (s.modTrunk i g).teller = s.teller := rfl
@[simp] theorem State.modTrunk_pool (s : State) (i : Nat) (g : Trunk → Trunk) : (s.modTrunk i g).pool = s.pool := rfl
@[simp] theorem State.modTrunk_home (s : State) (i : Nat) (g : Trunk → Trunk) : (s.modTrunk i g).home = s.home := rfl
@[simp] theorem State.modTrunk_switch (s : State) (i : Nat) (g : Trunk → Trunk) : (s.modTrunk i g).switch = s.switch := rfl
@[simp] theorem State.modTrunk_ports (s : State) (i : Nat) (g : Trunk → Trunk) : (s.modTrunk i g).ports = s.ports := rfl
@[simp] theorem State.modTrunk_lanes (s : State) (i : Nat) (g : Trunk → Trunk) : (s.modTrunk i g).lanes = s.lanes := rfl
@[simp] theorem State.modTrunk_pair (s : State) (i : Nat) (g : Trunk → Trunk) : (s.modTrunk i g).pair = s.pair := rfl
@[simp] theorem State.modTrunk_barrow (s : State) (i : Nat) (g : Trunk → Trunk) : (s.modTrunk i g).barrow = s.barrow := rfl
@[simp] theorem State.modTrunk_steward (s : State) (i : Nat) (g : Trunk → Trunk) : (s.modTrunk i g).steward = s.steward := rfl
@[simp] theorem State.modTrunk_dieLink (s : State) (i : Nat) (g : Trunk → Trunk) : (s.modTrunk i g).dieLink = s.dieLink := rfl
@[simp] theorem State.modTrunk_bridge (s : State) (i : Nat) (g : Trunk → Trunk) : (s.modTrunk i g).bridge = s.bridge := rfl
@[simp] theorem State.modTrunk_power (s : State) (i : Nat) (g : Trunk → Trunk) : (s.modTrunk i g).power = s.power := rfl
@[simp] theorem State.modTrunk_free (s : State) (i : Nat) (g : Trunk → Trunk) : (s.modTrunk i g).free = s.free := rfl
@[simp] theorem State.modTrunk_pending (s : State) (i : Nat) (g : Trunk → Trunk) : (s.modTrunk i g).pending = s.pending := rfl

@[simp] theorem State.modBslice_time (s : State) (i : Nat) (g : BSlice → BSlice) : (s.modBslice i g).time = s.time := rfl
@[simp] theorem State.modBslice_dev (s : State) (i : Nat) (g : BSlice → BSlice) : (s.modBslice i g).dev = s.dev := rfl
@[simp] theorem State.modBslice_evc (s : State) (i : Nat) (g : BSlice → BSlice) : (s.modBslice i g).evc = s.evc := rfl
@[simp] theorem State.modBslice_ctr (s : State) (i : Nat) (g : BSlice → BSlice) : (s.modBslice i g).ctr = s.ctr := rfl
@[simp] theorem State.modBslice_ledger (s : State) (i : Nat) (g : BSlice → BSlice) : (s.modBslice i g).ledger = s.ledger := rfl
@[simp] theorem State.modBslice_wear (s : State) (i : Nat) (g : BSlice → BSlice) : (s.modBslice i g).wear = s.wear := rfl
@[simp] theorem State.modBslice_records (s : State) (i : Nat) (g : BSlice → BSlice) : (s.modBslice i g).records = s.records := rfl
@[simp] theorem State.modBslice_teller (s : State) (i : Nat) (g : BSlice → BSlice) : (s.modBslice i g).teller = s.teller := rfl
@[simp] theorem State.modBslice_pool (s : State) (i : Nat) (g : BSlice → BSlice) : (s.modBslice i g).pool = s.pool := rfl
@[simp] theorem State.modBslice_home (s : State) (i : Nat) (g : BSlice → BSlice) : (s.modBslice i g).home = s.home := rfl
@[simp] theorem State.modBslice_switch (s : State) (i : Nat) (g : BSlice → BSlice) : (s.modBslice i g).switch = s.switch := rfl
@[simp] theorem State.modBslice_ports (s : State) (i : Nat) (g : BSlice → BSlice) : (s.modBslice i g).ports = s.ports := rfl
@[simp] theorem State.modBslice_lanes (s : State) (i : Nat) (g : BSlice → BSlice) : (s.modBslice i g).lanes = s.lanes := rfl
@[simp] theorem State.modBslice_trunks (s : State) (i : Nat) (g : BSlice → BSlice) : (s.modBslice i g).trunks = s.trunks := rfl
@[simp] theorem State.modBslice_pair (s : State) (i : Nat) (g : BSlice → BSlice) : (s.modBslice i g).pair = s.pair := rfl
@[simp] theorem State.modBslice_steward (s : State) (i : Nat) (g : BSlice → BSlice) : (s.modBslice i g).steward = s.steward := rfl
@[simp] theorem State.modBslice_dieLink (s : State) (i : Nat) (g : BSlice → BSlice) : (s.modBslice i g).dieLink = s.dieLink := rfl
@[simp] theorem State.modBslice_bridge (s : State) (i : Nat) (g : BSlice → BSlice) : (s.modBslice i g).bridge = s.bridge := rfl
@[simp] theorem State.modBslice_power (s : State) (i : Nat) (g : BSlice → BSlice) : (s.modBslice i g).power = s.power := rfl
@[simp] theorem State.modBslice_free (s : State) (i : Nat) (g : BSlice → BSlice) : (s.modBslice i g).free = s.free := rfl
@[simp] theorem State.modBslice_pending (s : State) (i : Nat) (g : BSlice → BSlice) : (s.modBslice i g).pending = s.pending := rfl

@[simp] theorem State.modQos_time (s : State) (i : Nat) (g : Qos → Qos) : (s.modQos i g).time = s.time := rfl
@[simp] theorem State.modQos_dev (s : State) (i : Nat) (g : Qos → Qos) : (s.modQos i g).dev = s.dev := rfl
@[simp] theorem State.modQos_evc (s : State) (i : Nat) (g : Qos → Qos) : (s.modQos i g).evc = s.evc := rfl
@[simp] theorem State.modQos_ctr (s : State) (i : Nat) (g : Qos → Qos) : (s.modQos i g).ctr = s.ctr := rfl
@[simp] theorem State.modQos_ledger (s : State) (i : Nat) (g : Qos → Qos) : (s.modQos i g).ledger = s.ledger := rfl
@[simp] theorem State.modQos_wear (s : State) (i : Nat) (g : Qos → Qos) : (s.modQos i g).wear = s.wear := rfl
@[simp] theorem State.modQos_records (s : State) (i : Nat) (g : Qos → Qos) : (s.modQos i g).records = s.records := rfl
@[simp] theorem State.modQos_teller (s : State) (i : Nat) (g : Qos → Qos) : (s.modQos i g).teller = s.teller := rfl
@[simp] theorem State.modQos_pool (s : State) (i : Nat) (g : Qos → Qos) : (s.modQos i g).pool = s.pool := rfl
@[simp] theorem State.modQos_home (s : State) (i : Nat) (g : Qos → Qos) : (s.modQos i g).home = s.home := rfl
@[simp] theorem State.modQos_ports (s : State) (i : Nat) (g : Qos → Qos) : (s.modQos i g).ports = s.ports := rfl
@[simp] theorem State.modQos_lanes (s : State) (i : Nat) (g : Qos → Qos) : (s.modQos i g).lanes = s.lanes := rfl
@[simp] theorem State.modQos_trunks (s : State) (i : Nat) (g : Qos → Qos) : (s.modQos i g).trunks = s.trunks := rfl
@[simp] theorem State.modQos_pair (s : State) (i : Nat) (g : Qos → Qos) : (s.modQos i g).pair = s.pair := rfl
@[simp] theorem State.modQos_barrow (s : State) (i : Nat) (g : Qos → Qos) : (s.modQos i g).barrow = s.barrow := rfl
@[simp] theorem State.modQos_steward (s : State) (i : Nat) (g : Qos → Qos) : (s.modQos i g).steward = s.steward := rfl
@[simp] theorem State.modQos_dieLink (s : State) (i : Nat) (g : Qos → Qos) : (s.modQos i g).dieLink = s.dieLink := rfl
@[simp] theorem State.modQos_bridge (s : State) (i : Nat) (g : Qos → Qos) : (s.modQos i g).bridge = s.bridge := rfl
@[simp] theorem State.modQos_power (s : State) (i : Nat) (g : Qos → Qos) : (s.modQos i g).power = s.power := rfl
@[simp] theorem State.modQos_free (s : State) (i : Nat) (g : Qos → Qos) : (s.modQos i g).free = s.free := rfl
@[simp] theorem State.modQos_pending (s : State) (i : Nat) (g : Qos → Qos) : (s.modQos i g).pending = s.pending := rfl

@[simp] theorem State.modChannel_time (s : State) (i : Nat) (g : Channel → Channel) : (s.modChannel i g).time = s.time := rfl
@[simp] theorem State.modChannel_dev (s : State) (i : Nat) (g : Channel → Channel) : (s.modChannel i g).dev = s.dev := rfl
@[simp] theorem State.modChannel_evc (s : State) (i : Nat) (g : Channel → Channel) : (s.modChannel i g).evc = s.evc := rfl
@[simp] theorem State.modChannel_ctr (s : State) (i : Nat) (g : Channel → Channel) : (s.modChannel i g).ctr = s.ctr := rfl
@[simp] theorem State.modChannel_ledger (s : State) (i : Nat) (g : Channel → Channel) : (s.modChannel i g).ledger = s.ledger := rfl
@[simp] theorem State.modChannel_wear (s : State) (i : Nat) (g : Channel → Channel) : (s.modChannel i g).wear = s.wear := rfl
@[simp] theorem State.modChannel_records (s : State) (i : Nat) (g : Channel → Channel) : (s.modChannel i g).records = s.records := rfl
@[simp] theorem State.modChannel_teller (s : State) (i : Nat) (g : Channel → Channel) : (s.modChannel i g).teller = s.teller := rfl
@[simp] theorem State.modChannel_pool (s : State) (i : Nat) (g : Channel → Channel) : (s.modChannel i g).pool = s.pool := rfl
@[simp] theorem State.modChannel_home (s : State) (i : Nat) (g : Channel → Channel) : (s.modChannel i g).home = s.home := rfl
@[simp] theorem State.modChannel_switch (s : State) (i : Nat) (g : Channel → Channel) : (s.modChannel i g).switch = s.switch := rfl
@[simp] theorem State.modChannel_ports (s : State) (i : Nat) (g : Channel → Channel) : (s.modChannel i g).ports = s.ports := rfl
@[simp] theorem State.modChannel_lanes (s : State) (i : Nat) (g : Channel → Channel) : (s.modChannel i g).lanes = s.lanes := rfl
@[simp] theorem State.modChannel_trunks (s : State) (i : Nat) (g : Channel → Channel) : (s.modChannel i g).trunks = s.trunks := rfl
@[simp] theorem State.modChannel_pair (s : State) (i : Nat) (g : Channel → Channel) : (s.modChannel i g).pair = s.pair := rfl
@[simp] theorem State.modChannel_barrow (s : State) (i : Nat) (g : Channel → Channel) : (s.modChannel i g).barrow = s.barrow := rfl
@[simp] theorem State.modChannel_steward (s : State) (i : Nat) (g : Channel → Channel) : (s.modChannel i g).steward = s.steward := rfl
@[simp] theorem State.modChannel_dieLink (s : State) (i : Nat) (g : Channel → Channel) : (s.modChannel i g).dieLink = s.dieLink := rfl
@[simp] theorem State.modChannel_bridge (s : State) (i : Nat) (g : Channel → Channel) : (s.modChannel i g).bridge = s.bridge := rfl
@[simp] theorem State.modChannel_free (s : State) (i : Nat) (g : Channel → Channel) : (s.modChannel i g).free = s.free := rfl
@[simp] theorem State.modChannel_pending (s : State) (i : Nat) (g : Channel → Channel) : (s.modChannel i g).pending = s.pending := rfl

@[simp] theorem State.modCopy_time (s : State) (i : Nat) (g : ChCopy → ChCopy) : (s.modCopy i g).time = s.time := rfl
@[simp] theorem State.modCopy_dev (s : State) (i : Nat) (g : ChCopy → ChCopy) : (s.modCopy i g).dev = s.dev := rfl
@[simp] theorem State.modCopy_evc (s : State) (i : Nat) (g : ChCopy → ChCopy) : (s.modCopy i g).evc = s.evc := rfl
@[simp] theorem State.modCopy_ctr (s : State) (i : Nat) (g : ChCopy → ChCopy) : (s.modCopy i g).ctr = s.ctr := rfl
@[simp] theorem State.modCopy_ledger (s : State) (i : Nat) (g : ChCopy → ChCopy) : (s.modCopy i g).ledger = s.ledger := rfl
@[simp] theorem State.modCopy_wear (s : State) (i : Nat) (g : ChCopy → ChCopy) : (s.modCopy i g).wear = s.wear := rfl
@[simp] theorem State.modCopy_records (s : State) (i : Nat) (g : ChCopy → ChCopy) : (s.modCopy i g).records = s.records := rfl
@[simp] theorem State.modCopy_teller (s : State) (i : Nat) (g : ChCopy → ChCopy) : (s.modCopy i g).teller = s.teller := rfl
@[simp] theorem State.modCopy_pool (s : State) (i : Nat) (g : ChCopy → ChCopy) : (s.modCopy i g).pool = s.pool := rfl
@[simp] theorem State.modCopy_home (s : State) (i : Nat) (g : ChCopy → ChCopy) : (s.modCopy i g).home = s.home := rfl
@[simp] theorem State.modCopy_switch (s : State) (i : Nat) (g : ChCopy → ChCopy) : (s.modCopy i g).switch = s.switch := rfl
@[simp] theorem State.modCopy_ports (s : State) (i : Nat) (g : ChCopy → ChCopy) : (s.modCopy i g).ports = s.ports := rfl
@[simp] theorem State.modCopy_lanes (s : State) (i : Nat) (g : ChCopy → ChCopy) : (s.modCopy i g).lanes = s.lanes := rfl
@[simp] theorem State.modCopy_trunks (s : State) (i : Nat) (g : ChCopy → ChCopy) : (s.modCopy i g).trunks = s.trunks := rfl
@[simp] theorem State.modCopy_pair (s : State) (i : Nat) (g : ChCopy → ChCopy) : (s.modCopy i g).pair = s.pair := rfl
@[simp] theorem State.modCopy_barrow (s : State) (i : Nat) (g : ChCopy → ChCopy) : (s.modCopy i g).barrow = s.barrow := rfl
@[simp] theorem State.modCopy_steward (s : State) (i : Nat) (g : ChCopy → ChCopy) : (s.modCopy i g).steward = s.steward := rfl
@[simp] theorem State.modCopy_dieLink (s : State) (i : Nat) (g : ChCopy → ChCopy) : (s.modCopy i g).dieLink = s.dieLink := rfl
@[simp] theorem State.modCopy_bridge (s : State) (i : Nat) (g : ChCopy → ChCopy) : (s.modCopy i g).bridge = s.bridge := rfl
@[simp] theorem State.modCopy_free (s : State) (i : Nat) (g : ChCopy → ChCopy) : (s.modCopy i g).free = s.free := rfl
@[simp] theorem State.modCopy_pending (s : State) (i : Nat) (g : ChCopy → ChCopy) : (s.modCopy i g).pending = s.pending := rfl

@[simp] theorem State.modHart_time (s : State) (i : Nat) (g : Hart → Hart) : (s.modHart i g).time = s.time := rfl
@[simp] theorem State.modHart_dev (s : State) (i : Nat) (g : Hart → Hart) : (s.modHart i g).dev = s.dev := rfl
@[simp] theorem State.modHart_evc (s : State) (i : Nat) (g : Hart → Hart) : (s.modHart i g).evc = s.evc := rfl
@[simp] theorem State.modHart_ctr (s : State) (i : Nat) (g : Hart → Hart) : (s.modHart i g).ctr = s.ctr := rfl
@[simp] theorem State.modHart_ledger (s : State) (i : Nat) (g : Hart → Hart) : (s.modHart i g).ledger = s.ledger := rfl
@[simp] theorem State.modHart_wear (s : State) (i : Nat) (g : Hart → Hart) : (s.modHart i g).wear = s.wear := rfl
@[simp] theorem State.modHart_records (s : State) (i : Nat) (g : Hart → Hart) : (s.modHart i g).records = s.records := rfl
@[simp] theorem State.modHart_teller (s : State) (i : Nat) (g : Hart → Hart) : (s.modHart i g).teller = s.teller := rfl
@[simp] theorem State.modHart_pool (s : State) (i : Nat) (g : Hart → Hart) : (s.modHart i g).pool = s.pool := rfl
@[simp] theorem State.modHart_home (s : State) (i : Nat) (g : Hart → Hart) : (s.modHart i g).home = s.home := rfl
@[simp] theorem State.modHart_switch (s : State) (i : Nat) (g : Hart → Hart) : (s.modHart i g).switch = s.switch := rfl
@[simp] theorem State.modHart_ports (s : State) (i : Nat) (g : Hart → Hart) : (s.modHart i g).ports = s.ports := rfl
@[simp] theorem State.modHart_lanes (s : State) (i : Nat) (g : Hart → Hart) : (s.modHart i g).lanes = s.lanes := rfl
@[simp] theorem State.modHart_trunks (s : State) (i : Nat) (g : Hart → Hart) : (s.modHart i g).trunks = s.trunks := rfl
@[simp] theorem State.modHart_pair (s : State) (i : Nat) (g : Hart → Hart) : (s.modHart i g).pair = s.pair := rfl
@[simp] theorem State.modHart_barrow (s : State) (i : Nat) (g : Hart → Hart) : (s.modHart i g).barrow = s.barrow := rfl
@[simp] theorem State.modHart_dieLink (s : State) (i : Nat) (g : Hart → Hart) : (s.modHart i g).dieLink = s.dieLink := rfl
@[simp] theorem State.modHart_bridge (s : State) (i : Nat) (g : Hart → Hart) : (s.modHart i g).bridge = s.bridge := rfl
@[simp] theorem State.modHart_power (s : State) (i : Nat) (g : Hart → Hart) : (s.modHart i g).power = s.power := rfl
@[simp] theorem State.modHart_free (s : State) (i : Nat) (g : Hart → Hart) : (s.modHart i g).free = s.free := rfl
@[simp] theorem State.modHart_pending (s : State) (i : Nat) (g : Hart → Hart) : (s.modHart i g).pending = s.pending := rfl

@[simp] theorem State.modSource_time (s : State) (i : Nat) (g : EvcSource → EvcSource) : (s.modSource i g).time = s.time := rfl
@[simp] theorem State.modSource_dev (s : State) (i : Nat) (g : EvcSource → EvcSource) : (s.modSource i g).dev = s.dev := rfl
@[simp] theorem State.modSource_ctr (s : State) (i : Nat) (g : EvcSource → EvcSource) : (s.modSource i g).ctr = s.ctr := rfl
@[simp] theorem State.modSource_ledger (s : State) (i : Nat) (g : EvcSource → EvcSource) : (s.modSource i g).ledger = s.ledger := rfl
@[simp] theorem State.modSource_wear (s : State) (i : Nat) (g : EvcSource → EvcSource) : (s.modSource i g).wear = s.wear := rfl
@[simp] theorem State.modSource_records (s : State) (i : Nat) (g : EvcSource → EvcSource) : (s.modSource i g).records = s.records := rfl
@[simp] theorem State.modSource_teller (s : State) (i : Nat) (g : EvcSource → EvcSource) : (s.modSource i g).teller = s.teller := rfl
@[simp] theorem State.modSource_pool (s : State) (i : Nat) (g : EvcSource → EvcSource) : (s.modSource i g).pool = s.pool := rfl
@[simp] theorem State.modSource_home (s : State) (i : Nat) (g : EvcSource → EvcSource) : (s.modSource i g).home = s.home := rfl
@[simp] theorem State.modSource_switch (s : State) (i : Nat) (g : EvcSource → EvcSource) : (s.modSource i g).switch = s.switch := rfl
@[simp] theorem State.modSource_ports (s : State) (i : Nat) (g : EvcSource → EvcSource) : (s.modSource i g).ports = s.ports := rfl
@[simp] theorem State.modSource_lanes (s : State) (i : Nat) (g : EvcSource → EvcSource) : (s.modSource i g).lanes = s.lanes := rfl
@[simp] theorem State.modSource_trunks (s : State) (i : Nat) (g : EvcSource → EvcSource) : (s.modSource i g).trunks = s.trunks := rfl
@[simp] theorem State.modSource_pair (s : State) (i : Nat) (g : EvcSource → EvcSource) : (s.modSource i g).pair = s.pair := rfl
@[simp] theorem State.modSource_barrow (s : State) (i : Nat) (g : EvcSource → EvcSource) : (s.modSource i g).barrow = s.barrow := rfl
@[simp] theorem State.modSource_steward (s : State) (i : Nat) (g : EvcSource → EvcSource) : (s.modSource i g).steward = s.steward := rfl
@[simp] theorem State.modSource_dieLink (s : State) (i : Nat) (g : EvcSource → EvcSource) : (s.modSource i g).dieLink = s.dieLink := rfl
@[simp] theorem State.modSource_bridge (s : State) (i : Nat) (g : EvcSource → EvcSource) : (s.modSource i g).bridge = s.bridge := rfl
@[simp] theorem State.modSource_power (s : State) (i : Nat) (g : EvcSource → EvcSource) : (s.modSource i g).power = s.power := rfl
@[simp] theorem State.modSource_free (s : State) (i : Nat) (g : EvcSource → EvcSource) : (s.modSource i g).free = s.free := rfl
@[simp] theorem State.modSource_pending (s : State) (i : Nat) (g : EvcSource → EvcSource) : (s.modSource i g).pending = s.pending := rfl

@[simp] theorem State.modTarget_time (s : State) (i : Nat) (g : EvcTarget → EvcTarget) : (s.modTarget i g).time = s.time := rfl
@[simp] theorem State.modTarget_dev (s : State) (i : Nat) (g : EvcTarget → EvcTarget) : (s.modTarget i g).dev = s.dev := rfl
@[simp] theorem State.modTarget_ctr (s : State) (i : Nat) (g : EvcTarget → EvcTarget) : (s.modTarget i g).ctr = s.ctr := rfl
@[simp] theorem State.modTarget_ledger (s : State) (i : Nat) (g : EvcTarget → EvcTarget) : (s.modTarget i g).ledger = s.ledger := rfl
@[simp] theorem State.modTarget_wear (s : State) (i : Nat) (g : EvcTarget → EvcTarget) : (s.modTarget i g).wear = s.wear := rfl
@[simp] theorem State.modTarget_records (s : State) (i : Nat) (g : EvcTarget → EvcTarget) : (s.modTarget i g).records = s.records := rfl
@[simp] theorem State.modTarget_teller (s : State) (i : Nat) (g : EvcTarget → EvcTarget) : (s.modTarget i g).teller = s.teller := rfl
@[simp] theorem State.modTarget_pool (s : State) (i : Nat) (g : EvcTarget → EvcTarget) : (s.modTarget i g).pool = s.pool := rfl
@[simp] theorem State.modTarget_home (s : State) (i : Nat) (g : EvcTarget → EvcTarget) : (s.modTarget i g).home = s.home := rfl
@[simp] theorem State.modTarget_switch (s : State) (i : Nat) (g : EvcTarget → EvcTarget) : (s.modTarget i g).switch = s.switch := rfl
@[simp] theorem State.modTarget_ports (s : State) (i : Nat) (g : EvcTarget → EvcTarget) : (s.modTarget i g).ports = s.ports := rfl
@[simp] theorem State.modTarget_lanes (s : State) (i : Nat) (g : EvcTarget → EvcTarget) : (s.modTarget i g).lanes = s.lanes := rfl
@[simp] theorem State.modTarget_trunks (s : State) (i : Nat) (g : EvcTarget → EvcTarget) : (s.modTarget i g).trunks = s.trunks := rfl
@[simp] theorem State.modTarget_pair (s : State) (i : Nat) (g : EvcTarget → EvcTarget) : (s.modTarget i g).pair = s.pair := rfl
@[simp] theorem State.modTarget_barrow (s : State) (i : Nat) (g : EvcTarget → EvcTarget) : (s.modTarget i g).barrow = s.barrow := rfl
@[simp] theorem State.modTarget_steward (s : State) (i : Nat) (g : EvcTarget → EvcTarget) : (s.modTarget i g).steward = s.steward := rfl
@[simp] theorem State.modTarget_dieLink (s : State) (i : Nat) (g : EvcTarget → EvcTarget) : (s.modTarget i g).dieLink = s.dieLink := rfl
@[simp] theorem State.modTarget_bridge (s : State) (i : Nat) (g : EvcTarget → EvcTarget) : (s.modTarget i g).bridge = s.bridge := rfl
@[simp] theorem State.modTarget_power (s : State) (i : Nat) (g : EvcTarget → EvcTarget) : (s.modTarget i g).power = s.power := rfl
@[simp] theorem State.modTarget_free (s : State) (i : Nat) (g : EvcTarget → EvcTarget) : (s.modTarget i g).free = s.free := rfl
@[simp] theorem State.modTarget_pending (s : State) (i : Nat) (g : EvcTarget → EvcTarget) : (s.modTarget i g).pending = s.pending := rfl

@[simp] theorem State.modUnit_time (s : State) (i : Nat) (g : MirrorUnit → MirrorUnit) : (s.modUnit i g).time = s.time := rfl
@[simp] theorem State.modUnit_dev (s : State) (i : Nat) (g : MirrorUnit → MirrorUnit) : (s.modUnit i g).dev = s.dev := rfl
@[simp] theorem State.modUnit_evc (s : State) (i : Nat) (g : MirrorUnit → MirrorUnit) : (s.modUnit i g).evc = s.evc := rfl
@[simp] theorem State.modUnit_ctr (s : State) (i : Nat) (g : MirrorUnit → MirrorUnit) : (s.modUnit i g).ctr = s.ctr := rfl
@[simp] theorem State.modUnit_ledger (s : State) (i : Nat) (g : MirrorUnit → MirrorUnit) : (s.modUnit i g).ledger = s.ledger := rfl
@[simp] theorem State.modUnit_wear (s : State) (i : Nat) (g : MirrorUnit → MirrorUnit) : (s.modUnit i g).wear = s.wear := rfl
@[simp] theorem State.modUnit_records (s : State) (i : Nat) (g : MirrorUnit → MirrorUnit) : (s.modUnit i g).records = s.records := rfl
@[simp] theorem State.modUnit_teller (s : State) (i : Nat) (g : MirrorUnit → MirrorUnit) : (s.modUnit i g).teller = s.teller := rfl
@[simp] theorem State.modUnit_pool (s : State) (i : Nat) (g : MirrorUnit → MirrorUnit) : (s.modUnit i g).pool = s.pool := rfl
@[simp] theorem State.modUnit_home (s : State) (i : Nat) (g : MirrorUnit → MirrorUnit) : (s.modUnit i g).home = s.home := rfl
@[simp] theorem State.modUnit_switch (s : State) (i : Nat) (g : MirrorUnit → MirrorUnit) : (s.modUnit i g).switch = s.switch := rfl
@[simp] theorem State.modUnit_ports (s : State) (i : Nat) (g : MirrorUnit → MirrorUnit) : (s.modUnit i g).ports = s.ports := rfl
@[simp] theorem State.modUnit_lanes (s : State) (i : Nat) (g : MirrorUnit → MirrorUnit) : (s.modUnit i g).lanes = s.lanes := rfl
@[simp] theorem State.modUnit_trunks (s : State) (i : Nat) (g : MirrorUnit → MirrorUnit) : (s.modUnit i g).trunks = s.trunks := rfl
@[simp] theorem State.modUnit_barrow (s : State) (i : Nat) (g : MirrorUnit → MirrorUnit) : (s.modUnit i g).barrow = s.barrow := rfl
@[simp] theorem State.modUnit_steward (s : State) (i : Nat) (g : MirrorUnit → MirrorUnit) : (s.modUnit i g).steward = s.steward := rfl
@[simp] theorem State.modUnit_dieLink (s : State) (i : Nat) (g : MirrorUnit → MirrorUnit) : (s.modUnit i g).dieLink = s.dieLink := rfl
@[simp] theorem State.modUnit_bridge (s : State) (i : Nat) (g : MirrorUnit → MirrorUnit) : (s.modUnit i g).bridge = s.bridge := rfl
@[simp] theorem State.modUnit_power (s : State) (i : Nat) (g : MirrorUnit → MirrorUnit) : (s.modUnit i g).power = s.power := rfl
@[simp] theorem State.modUnit_free (s : State) (i : Nat) (g : MirrorUnit → MirrorUnit) : (s.modUnit i g).free = s.free := rfl
@[simp] theorem State.modUnit_pending (s : State) (i : Nat) (g : MirrorUnit → MirrorUnit) : (s.modUnit i g).pending = s.pending := rfl

/-- A changed entry reads as changed. -/
theorem State.plot_modPlot (h : Tab.wf s.pool.plots {} = true) (g : Plot → Plot) : (s.modPlot i g).plot i = g (s.plot i) :=
  Tab.get_upd_same i g h

/-- Every other entry reads as before. -/
theorem State.plot_modPlot_ne (h : Tab.wf s.pool.plots {} = true) (g : Plot → Plot) (hij : j ≠ i) :
    (s.modPlot i g).plot j = s.plot j := Tab.get_upd_ne g h hij

/-- A changed entry reads as changed. -/
theorem State.bed_modBed (h : Tab.wf s.pool.beds {} = true) (g : Bed → Bed) : (s.modBed i g).bed i = g (s.bed i) :=
  Tab.get_upd_same i g h

/-- Every other entry reads as before. -/
theorem State.bed_modBed_ne (h : Tab.wf s.pool.beds {} = true) (g : Bed → Bed) (hij : j ≠ i) :
    (s.modBed i g).bed j = s.bed j := Tab.get_upd_ne g h hij

/-- A changed entry reads as changed. -/
theorem State.extent_modExtent (h : Tab.wf s.pool.extents {} = true) (g : Extent → Extent) : (s.modExtent i g).extent i = g (s.extent i) :=
  Tab.get_upd_same i g h

/-- Every other entry reads as before. -/
theorem State.extent_modExtent_ne (h : Tab.wf s.pool.extents {} = true) (g : Extent → Extent) (hij : j ≠ i) :
    (s.modExtent i g).extent j = s.extent j := Tab.get_upd_ne g h hij

/-- A changed entry reads as changed. -/
theorem State.agent_modAgent (h : Tab.wf s.pool.agents {} = true) (g : Agent → Agent) : (s.modAgent i g).agent i = g (s.agent i) :=
  Tab.get_upd_same i g h

/-- Every other entry reads as before. -/
theorem State.agent_modAgent_ne (h : Tab.wf s.pool.agents {} = true) (g : Agent → Agent) (hij : j ≠ i) :
    (s.modAgent i g).agent j = s.agent j := Tab.get_upd_ne g h hij

/-- A changed entry reads as changed. -/
theorem State.slice_modSlice (h : Tab.wf s.home.slices {} = true) (g : Slice → Slice) : (s.modSlice i g).slice i = g (s.slice i) :=
  Tab.get_upd_same i g h

/-- Every other entry reads as before. -/
theorem State.slice_modSlice_ne (h : Tab.wf s.home.slices {} = true) (g : Slice → Slice) (hij : j ≠ i) :
    (s.modSlice i g).slice j = s.slice j := Tab.get_upd_ne g h hij

/-- A changed entry reads as changed. -/
theorem State.port_modPort (h : Tab.wf s.ports.port {} = true) (g : Port → Port) : (s.modPort i g).port i = g (s.port i) :=
  Tab.get_upd_same i g h

/-- Every other entry reads as before. -/
theorem State.port_modPort_ne (h : Tab.wf s.ports.port {} = true) (g : Port → Port) (hij : j ≠ i) :
    (s.modPort i g).port j = s.port j := Tab.get_upd_ne g h hij

/-- A changed entry reads as changed. -/
theorem State.lane_modLane (h : Tab.wf s.lanes.lane {} = true) (g : Lane → Lane) : (s.modLane i g).lane i = g (s.lane i) :=
  Tab.get_upd_same i g h

/-- Every other entry reads as before. -/
theorem State.lane_modLane_ne (h : Tab.wf s.lanes.lane {} = true) (g : Lane → Lane) (hij : j ≠ i) :
    (s.modLane i g).lane j = s.lane j := Tab.get_upd_ne g h hij

/-- A changed entry reads as changed. -/
theorem State.trunk_modTrunk (h : Tab.wf s.trunks.trunk {} = true) (g : Trunk → Trunk) : (s.modTrunk i g).trunk i = g (s.trunk i) :=
  Tab.get_upd_same i g h

/-- Every other entry reads as before. -/
theorem State.trunk_modTrunk_ne (h : Tab.wf s.trunks.trunk {} = true) (g : Trunk → Trunk) (hij : j ≠ i) :
    (s.modTrunk i g).trunk j = s.trunk j := Tab.get_upd_ne g h hij

/-- A changed entry reads as changed. -/
theorem State.bslice_modBslice (h : Tab.wf s.barrow.slices {} = true) (g : BSlice → BSlice) : (s.modBslice i g).bslice i = g (s.bslice i) :=
  Tab.get_upd_same i g h

/-- Every other entry reads as before. -/
theorem State.bslice_modBslice_ne (h : Tab.wf s.barrow.slices {} = true) (g : BSlice → BSlice) (hij : j ≠ i) :
    (s.modBslice i g).bslice j = s.bslice j := Tab.get_upd_ne g h hij

/-- A changed entry reads as changed. -/
theorem State.qos_modQos (h : Tab.wf s.switch.qos {} = true) (g : Qos → Qos) : (s.modQos i g).qos i = g (s.qos i) :=
  Tab.get_upd_same i g h

/-- Every other entry reads as before. -/
theorem State.qos_modQos_ne (h : Tab.wf s.switch.qos {} = true) (g : Qos → Qos) (hij : j ≠ i) :
    (s.modQos i g).qos j = s.qos j := Tab.get_upd_ne g h hij

/-- A changed entry reads as changed. -/
theorem State.channel_modChannel (h : Tab.wf s.power.channels {} = true) (g : Channel → Channel) : (s.modChannel i g).channel i = g (s.channel i) :=
  Tab.get_upd_same i g h

/-- Every other entry reads as before. -/
theorem State.channel_modChannel_ne (h : Tab.wf s.power.channels {} = true) (g : Channel → Channel) (hij : j ≠ i) :
    (s.modChannel i g).channel j = s.channel j := Tab.get_upd_ne g h hij

/-- A changed entry reads as changed. -/
theorem State.chCopy_modCopy (h : Tab.wf s.power.copies {} = true) (g : ChCopy → ChCopy) : (s.modCopy i g).chCopy i = g (s.chCopy i) :=
  Tab.get_upd_same i g h

/-- Every other entry reads as before. -/
theorem State.chCopy_modCopy_ne (h : Tab.wf s.power.copies {} = true) (g : ChCopy → ChCopy) (hij : j ≠ i) :
    (s.modCopy i g).chCopy j = s.chCopy j := Tab.get_upd_ne g h hij

/-- A changed entry reads as changed. -/
theorem State.hart_modHart (h : Tab.wf s.steward.harts {} = true) (g : Hart → Hart) : (s.modHart i g).hart i = g (s.hart i) :=
  Tab.get_upd_same i g h

/-- Every other entry reads as before. -/
theorem State.hart_modHart_ne (h : Tab.wf s.steward.harts {} = true) (g : Hart → Hart) (hij : j ≠ i) :
    (s.modHart i g).hart j = s.hart j := Tab.get_upd_ne g h hij

/-- A changed entry reads as changed. -/
theorem State.source_modSource (h : Tab.wf s.evc.sources {} = true) (g : EvcSource → EvcSource) : (s.modSource i g).source i = g (s.source i) :=
  Tab.get_upd_same i g h

/-- Every other entry reads as before. -/
theorem State.source_modSource_ne (h : Tab.wf s.evc.sources {} = true) (g : EvcSource → EvcSource) (hij : j ≠ i) :
    (s.modSource i g).source j = s.source j := Tab.get_upd_ne g h hij

/-- A changed entry reads as changed. -/
theorem State.target_modTarget (h : Tab.wf s.evc.targets {} = true) (g : EvcTarget → EvcTarget) : (s.modTarget i g).target i = g (s.target i) :=
  Tab.get_upd_same i g h

/-- Every other entry reads as before. -/
theorem State.target_modTarget_ne (h : Tab.wf s.evc.targets {} = true) (g : EvcTarget → EvcTarget) (hij : j ≠ i) :
    (s.modTarget i g).target j = s.target j := Tab.get_upd_ne g h hij

end Sys2Proof.Machine
end

