-- ==== Sys2Proof/Laws/Teller.lean ====
section
/-! SUPPORT. What a row of the command catalogue does when its command passes the checks: one lemma for each way to end. -/

namespace Sys2Proof.Machine

variable {s t : State} {op ring status : Nat} {result : List Byte} {k : JobKind} {o : OpInfo}

/-- Deciding a command starts from a state that differs in the Teller, the event controller and the counters only. -/
@[simp] theorem State.taken_time (s : State) (ring : Nat) : (s.taken ring).time = s.time := by simp [State.taken, State.modRing, State.modTeller]
@[simp] theorem State.taken_dev (s : State) (ring : Nat) : (s.taken ring).dev = s.dev := by simp [State.taken, State.modRing, State.modTeller]
@[simp] theorem State.taken_ledger (s : State) (ring : Nat) : (s.taken ring).ledger = s.ledger := by simp [State.taken, State.modRing, State.modTeller]
@[simp] theorem State.taken_wear (s : State) (ring : Nat) : (s.taken ring).wear = s.wear := by simp [State.taken, State.modRing, State.modTeller]
@[simp] theorem State.taken_records (s : State) (ring : Nat) : (s.taken ring).records = s.records := by simp [State.taken, State.modRing, State.modTeller]
@[simp] theorem State.taken_pool (s : State) (ring : Nat) : (s.taken ring).pool = s.pool := by simp [State.taken, State.modRing, State.modTeller]
@[simp] theorem State.taken_home (s : State) (ring : Nat) : (s.taken ring).home = s.home := by simp [State.taken, State.modRing, State.modTeller]
@[simp] theorem State.taken_switch (s : State) (ring : Nat) : (s.taken ring).switch = s.switch := by simp [State.taken, State.modRing, State.modTeller]
@[simp] theorem State.taken_ports (s : State) (ring : Nat) : (s.taken ring).ports = s.ports := by simp [State.taken, State.modRing, State.modTeller]
@[simp] theorem State.taken_lanes (s : State) (ring : Nat) : (s.taken ring).lanes = s.lanes := by simp [State.taken, State.modRing, State.modTeller]
@[simp] theorem State.taken_trunks (s : State) (ring : Nat) : (s.taken ring).trunks = s.trunks := by simp [State.taken, State.modRing, State.modTeller]
@[simp] theorem State.taken_pair (s : State) (ring : Nat) : (s.taken ring).pair = s.pair := by simp [State.taken, State.modRing, State.modTeller]
@[simp] theorem State.taken_barrow (s : State) (ring : Nat) : (s.taken ring).barrow = s.barrow := by simp [State.taken, State.modRing, State.modTeller]
@[simp] theorem State.taken_steward (s : State) (ring : Nat) : (s.taken ring).steward = s.steward := by simp [State.taken, State.modRing, State.modTeller]
@[simp] theorem State.taken_dieLink (s : State) (ring : Nat) : (s.taken ring).dieLink = s.dieLink := by simp [State.taken, State.modRing, State.modTeller]
@[simp] theorem State.taken_bridge (s : State) (ring : Nat) : (s.taken ring).bridge = s.bridge := by simp [State.taken, State.modRing, State.modTeller]
@[simp] theorem State.taken_power (s : State) (ring : Nat) : (s.taken ring).power = s.power := by simp [State.taken, State.modRing, State.modTeller]
@[simp] theorem State.taken_free (s : State) (ring : Nat) : (s.taken ring).free = s.free := by simp [State.taken, State.modRing, State.modTeller]
@[simp] theorem State.taken_pending (s : State) (ring : Nat) : (s.taken ring).pending = s.pending := by simp [State.taken, State.modRing, State.modTeller]
@[simp] theorem State.taken_teller_mem (s : State) (ring : Nat) : (s.taken ring).teller.mem = s.teller.mem := by
  simp [State.taken, takeCommand, State.modRing, State.modTeller]
@[simp] theorem State.taken_teller_csParam (s : State) (ring : Nat) : (s.taken ring).teller.csParam = s.teller.csParam := by
  simp [State.taken, takeCommand, State.modRing, State.modTeller]
@[simp] theorem State.taken_teller_csResult (s : State) (ring : Nat) : (s.taken ring).teller.csResult = s.teller.csResult := by
  simp [State.taken, takeCommand, State.modRing, State.modTeller]
@[simp] theorem State.taken_teller_proposals (s : State) (ring : Nat) : (s.taken ring).teller.proposals = s.teller.proposals := by
  simp [State.taken, takeCommand, State.modRing, State.modTeller]
@[simp] theorem State.taken_teller_expired (s : State) (ring : Nat) : (s.taken ring).teller.expired = s.teller.expired := by
  simp [State.taken, takeCommand, State.modRing, State.modTeller]
@[simp] theorem State.taken_teller_nextProposal (s : State) (ring : Nat) : (s.taken ring).teller.nextProposal = s.teller.nextProposal := by
  simp [State.taken, takeCommand, State.modRing, State.modTeller]
@[simp] theorem State.taken_teller_window (s : State) (ring : Nat) : (s.taken ring).teller.window = s.teller.window := by
  simp [State.taken, takeCommand, State.modRing, State.modTeller]
@[simp] theorem State.taken_teller_authority (s : State) (ring : Nat) : (s.taken ring).teller.authority = s.teller.authority := by
  simp [State.taken, takeCommand, State.modRing, State.modTeller]
@[simp] theorem State.taken_teller_atTick (s : State) (ring : Nat) : (s.taken ring).teller.atTick = s.teller.atTick := by
  simp [State.taken, takeCommand, State.modRing, State.modTeller]
@[simp] theorem State.taken_teller_jobs (s : State) (ring : Nat) : (s.taken ring).teller.jobs = s.teller.jobs := by
  simp [State.taken, takeCommand, State.modRing, State.modTeller]
@[simp] theorem State.taken_teller_forwards (s : State) (ring : Nat) : (s.taken ring).teller.forwards = s.teller.forwards := by
  simp [State.taken, takeCommand, State.modRing, State.modTeller]
@[simp] theorem State.taken_teller_returns (s : State) (ring : Nat) : (s.taken ring).teller.returns = s.teller.returns := by
  simp [State.taken, takeCommand, State.modRing, State.modTeller]

/-- A command is of the ring it was read from. -/
@[simp] theorem State.front_ring (s : State) (ring : Nat) : (s.front ring).ring = ring := by
  unfold State.front; dsimp only; split <;> simp_all

/-- No check is left. -/
@[simp] theorem checks_nil (s : State) (go : State → Ran) : checks [] s go = go s := rfl

/-- The first check decides, else the rest. -/
@[simp] theorem checks_cons (b : Bool) (n : Nat) (l : List (Bool × Nat)) (s : State) (go : State → Ran) :
    checks ((b, n) :: l) s go = if b then refuse n s else checks l s go := by cases b <;> rfl

/-- An empty result writes no block. -/
@[simp] theorem writeBlock_nil (c : Command) (s : State) : writeBlock c [] s = s := by simp [writeBlock]

/-- Only BUSY and NOT_IN_MODE leave CXL Reset Error. -/
@[simp] theorem noteCxlReset_queued (c : Command) (s : State) : noteCxlReset c stQueued s = s := by
  simp [noteCxlReset, stQueued, stBusy, stNotInMode]

@[simp] theorem State.noted_time (s : State) (ring : Nat) (k : JobKind) : (s.noted ring k).time = s.time := by
  simp [State.noted, answerStart, answer]
@[simp] theorem State.noted_dev (s : State) (ring : Nat) (k : JobKind) : (s.noted ring k).dev = s.dev := by
  simp [State.noted, answerStart, answer]
@[simp] theorem State.noted_ledger (s : State) (ring : Nat) (k : JobKind) : (s.noted ring k).ledger = s.ledger := by
  simp [State.noted, answerStart, answer]
@[simp] theorem State.noted_wear (s : State) (ring : Nat) (k : JobKind) : (s.noted ring k).wear = s.wear := by
  simp [State.noted, answerStart, answer]
@[simp] theorem State.noted_records (s : State) (ring : Nat) (k : JobKind) : (s.noted ring k).records = s.records := by
  simp [State.noted, answerStart, answer]
@[simp] theorem State.noted_pool (s : State) (ring : Nat) (k : JobKind) : (s.noted ring k).pool = s.pool := by
  simp [State.noted, answerStart, answer]
@[simp] theorem State.noted_home (s : State) (ring : Nat) (k : JobKind) : (s.noted ring k).home = s.home := by
  simp [State.noted, answerStart, answer]
@[simp] theorem State.noted_switch (s : State) (ring : Nat) (k : JobKind) : (s.noted ring k).switch = s.switch := by
  simp [State.noted, answerStart, answer]
@[simp] theorem State.noted_ports (s : State) (ring : Nat) (k : JobKind) : (s.noted ring k).ports = s.ports := by
  simp [State.noted, answerStart, answer]
@[simp] theorem State.noted_lanes (s : State) (ring : Nat) (k : JobKind) : (s.noted ring k).lanes = s.lanes := by
  simp [State.noted, answerStart, answer]
@[simp] theorem State.noted_trunks (s : State) (ring : Nat) (k : JobKind) : (s.noted ring k).trunks = s.trunks := by
  simp [State.noted, answerStart, answer]
@[simp] theorem State.noted_pair (s : State) (ring : Nat) (k : JobKind) : (s.noted ring k).pair = s.pair := by
  simp [State.noted, answerStart, answer]
@[simp] theorem State.noted_barrow (s : State) (ring : Nat) (k : JobKind) : (s.noted ring k).barrow = s.barrow := by
  simp [State.noted, answerStart, answer]
@[simp] theorem State.noted_steward (s : State) (ring : Nat) (k : JobKind) : (s.noted ring k).steward = s.steward := by
  simp [State.noted, answerStart, answer]
@[simp] theorem State.noted_dieLink (s : State) (ring : Nat) (k : JobKind) : (s.noted ring k).dieLink = s.dieLink := by
  simp [State.noted, answerStart, answer]
@[simp] theorem State.noted_bridge (s : State) (ring : Nat) (k : JobKind) : (s.noted ring k).bridge = s.bridge := by
  simp [State.noted, answerStart, answer]
@[simp] theorem State.noted_power (s : State) (ring : Nat) (k : JobKind) : (s.noted ring k).power = s.power := by
  simp [State.noted, answerStart, answer]
@[simp] theorem State.noted_free (s : State) (ring : Nat) (k : JobKind) : (s.noted ring k).free = s.free := by
  simp [State.noted, answerStart, answer]
@[simp] theorem State.noted_pending (s : State) (ring : Nat) (k : JobKind) : (s.noted ring k).pending = s.pending := by
  simp [State.noted, answerStart, answer]

/-! The tables of the state stand as they were. -/

@[simp] theorem State.taken_at_plot (s : State) (ring : Nat) (p : Nat) : (s.taken ring).plot p = s.plot p := by simp [State.plot]
@[simp] theorem State.noted_at_plot (s : State) (ring : Nat) (k : JobKind) (p : Nat) : (s.noted ring k).plot p = s.plot p := by simp [State.plot]
@[simp] theorem State.taken_at_bed (s : State) (ring : Nat) (p : Nat) : (s.taken ring).bed p = s.bed p := by simp [State.bed]
@[simp] theorem State.noted_at_bed (s : State) (ring : Nat) (k : JobKind) (p : Nat) : (s.noted ring k).bed p = s.bed p := by simp [State.bed]
@[simp] theorem State.taken_at_extent (s : State) (ring : Nat) (p : Nat) : (s.taken ring).extent p = s.extent p := by simp [State.extent]
@[simp] theorem State.noted_at_extent (s : State) (ring : Nat) (k : JobKind) (p : Nat) : (s.noted ring k).extent p = s.extent p := by simp [State.extent]
@[simp] theorem State.taken_at_agent (s : State) (ring : Nat) (p : Nat) : (s.taken ring).agent p = s.agent p := by simp [State.agent]
@[simp] theorem State.noted_at_agent (s : State) (ring : Nat) (k : JobKind) (p : Nat) : (s.noted ring k).agent p = s.agent p := by simp [State.agent]
@[simp] theorem State.taken_at_slice (s : State) (ring : Nat) (p : Nat) : (s.taken ring).slice p = s.slice p := by simp [State.slice]
@[simp] theorem State.noted_at_slice (s : State) (ring : Nat) (k : JobKind) (p : Nat) : (s.noted ring k).slice p = s.slice p := by simp [State.slice]
@[simp] theorem State.taken_at_port (s : State) (ring : Nat) (p : Nat) : (s.taken ring).port p = s.port p := by simp [State.port]
@[simp] theorem State.noted_at_port (s : State) (ring : Nat) (k : JobKind) (p : Nat) : (s.noted ring k).port p = s.port p := by simp [State.port]
@[simp] theorem State.taken_at_lane (s : State) (ring : Nat) (p : Nat) : (s.taken ring).lane p = s.lane p := by simp [State.lane]
@[simp] theorem State.noted_at_lane (s : State) (ring : Nat) (k : JobKind) (p : Nat) : (s.noted ring k).lane p = s.lane p := by simp [State.lane]
@[simp] theorem State.taken_at_trunk (s : State) (ring : Nat) (p : Nat) : (s.taken ring).trunk p = s.trunk p := by simp [State.trunk]
@[simp] theorem State.noted_at_trunk (s : State) (ring : Nat) (k : JobKind) (p : Nat) : (s.noted ring k).trunk p = s.trunk p := by simp [State.trunk]
@[simp] theorem State.taken_at_bslice (s : State) (ring : Nat) (p : Nat) : (s.taken ring).bslice p = s.bslice p := by simp [State.bslice]
@[simp] theorem State.noted_at_bslice (s : State) (ring : Nat) (k : JobKind) (p : Nat) : (s.noted ring k).bslice p = s.bslice p := by simp [State.bslice]
@[simp] theorem State.taken_at_qos (s : State) (ring : Nat) (p : Nat) : (s.taken ring).qos p = s.qos p := by simp [State.qos]
@[simp] theorem State.noted_at_qos (s : State) (ring : Nat) (k : JobKind) (p : Nat) : (s.noted ring k).qos p = s.qos p := by simp [State.qos]
@[simp] theorem State.taken_at_channel (s : State) (ring : Nat) (p : Nat) : (s.taken ring).channel p = s.channel p := by simp [State.channel]
@[simp] theorem State.noted_at_channel (s : State) (ring : Nat) (k : JobKind) (p : Nat) : (s.noted ring k).channel p = s.channel p := by simp [State.channel]
@[simp] theorem State.taken_at_chCopy (s : State) (ring : Nat) (p : Nat) : (s.taken ring).chCopy p = s.chCopy p := by simp [State.chCopy]
@[simp] theorem State.noted_at_chCopy (s : State) (ring : Nat) (k : JobKind) (p : Nat) : (s.noted ring k).chCopy p = s.chCopy p := by simp [State.chCopy]
@[simp] theorem State.taken_at_hart (s : State) (ring : Nat) (p : Nat) : (s.taken ring).hart p = s.hart p := by simp [State.hart]
@[simp] theorem State.noted_at_hart (s : State) (ring : Nat) (k : JobKind) (p : Nat) : (s.noted ring k).hart p = s.hart p := by simp [State.hart]
@[simp] theorem State.taken_at_self (s : State) (ring : Nat) : (s.taken ring).self = s.self := by simp [State.self]
@[simp] theorem State.noted_at_self (s : State) (ring : Nat) (k : JobKind) : (s.noted ring k).self = s.self := by simp [State.self]
@[simp] theorem State.taken_at_tick (s : State) (ring : Nat) : (s.taken ring).tick = s.tick := by simp [State.tick]
@[simp] theorem State.noted_at_tick (s : State) (ring : Nat) (k : JobKind) : (s.noted ring k).tick = s.tick := by simp [State.tick]
@[simp] theorem State.taken_at_now (s : State) (ring : Nat) : (s.taken ring).now = s.now := by simp [State.now]
@[simp] theorem State.noted_at_now (s : State) (ring : Nat) (k : JobKind) : (s.noted ring k).now = s.now := by simp [State.now]
@[simp] theorem State.taken_at_sample (s : State) (ring : Nat) : (s.taken ring).sample = s.sample := by simp [State.sample]
@[simp] theorem State.noted_at_sample (s : State) (ring : Nat) (k : JobKind) : (s.noted ring k).sample = s.sample := by simp [State.sample]
@[simp] theorem State.taken_at_fabricOn (s : State) (ring : Nat) : (s.taken ring).fabricOn = s.fabricOn := by simp [State.fabricOn]
@[simp] theorem State.noted_at_fabricOn (s : State) (ring : Nat) (k : JobKind) : (s.noted ring k).fabricOn = s.fabricOn := by simp [State.fabricOn]
@[simp] theorem State.taken_at_serving (s : State) (ring : Nat) : (s.taken ring).serving = s.serving := by simp [State.serving, State.fabricOn]
@[simp] theorem State.noted_at_serving (s : State) (ring : Nat) (k : JobKind) : (s.noted ring k).serving = s.serving := by simp [State.serving, State.fabricOn]

/-- Writing a receipt leaves alone what is neither ring memory nor a ring, an interrupt of the countersign port or a receipt on its way
to the partner. -/
theorem issueReceipt_teller {β : Type} (q : Teller → β)
    (h : ∀ t m r i x, q { t with mem := m, rings := r, ibi := i, returns := x } = q t) (ring : Nat) (d : Returned)
    (s : State) : q (issueReceipt ring d s).teller = q s.teller := by
  unfold issueReceipt placeReceipt
  dsimp only
  split <;> split <;> split <;>
    (simp only [State.modRing, State.modTeller, State.setTeller_teller, raise_teller, trace_teller, count_teller]; exact h _ _ _ _ _)

/-- The same, where the receipt may have to wait. -/
theorem writeReceipt_teller {β : Type} (q : Teller → β)
    (h : ∀ t m r i x, q { t with mem := m, rings := r, ibi := i, returns := x } = q t) (ring origin : Nat) (tag : BitVec 32)
    (opcode : BitVec 16) (status : Nat) (result : List Byte) (o : Option Nat) (s : State) :
    q (writeReceipt ring origin tag opcode status result o s).teller = q s.teller := by
  unfold writeReceipt
  dsimp only
  split
  · simp only [State.modRing, State.modTeller, State.setTeller_teller]; exact h _ _ _ _ _
  · rw [issueReceipt_teller q h]; simp only [State.modRing, State.modTeller, State.setTeller_teller]; exact h _ _ _ _ _

@[simp] theorem writeReceipt_teller_proposals (ring origin : Nat) (tag : BitVec 32) (opcode : BitVec 16) (status : Nat) (result : List Byte)
    (o : Option Nat) (s : State) : (writeReceipt ring origin tag opcode status result o s).teller.proposals = s.teller.proposals :=
  writeReceipt_teller Teller.proposals (fun _ _ _ _ _ => rfl) ring origin tag opcode status result o s
@[simp] theorem writeReceipt_teller_window (ring origin : Nat) (tag : BitVec 32) (opcode : BitVec 16) (status : Nat) (result : List Byte)
    (o : Option Nat) (s : State) : (writeReceipt ring origin tag opcode status result o s).teller.window = s.teller.window :=
  writeReceipt_teller Teller.window (fun _ _ _ _ _ => rfl) ring origin tag opcode status result o s
@[simp] theorem writeReceipt_teller_authority (ring origin : Nat) (tag : BitVec 32) (opcode : BitVec 16) (status : Nat) (result : List Byte)
    (o : Option Nat) (s : State) : (writeReceipt ring origin tag opcode status result o s).teller.authority = s.teller.authority :=
  writeReceipt_teller Teller.authority (fun _ _ _ _ _ => rfl) ring origin tag opcode status result o s
@[simp] theorem writeReceipt_teller_expired (ring origin : Nat) (tag : BitVec 32) (opcode : BitVec 16) (status : Nat) (result : List Byte)
    (o : Option Nat) (s : State) : (writeReceipt ring origin tag opcode status result o s).teller.expired = s.teller.expired :=
  writeReceipt_teller Teller.expired (fun _ _ _ _ _ => rfl) ring origin tag opcode status result o s
@[simp] theorem writeReceipt_teller_atTick (ring origin : Nat) (tag : BitVec 32) (opcode : BitVec 16) (status : Nat) (result : List Byte)
    (o : Option Nat) (s : State) : (writeReceipt ring origin tag opcode status result o s).teller.atTick = s.teller.atTick :=
  writeReceipt_teller Teller.atTick (fun _ _ _ _ _ => rfl) ring origin tag opcode status result o s
@[simp] theorem writeReceipt_teller_forwards (ring origin : Nat) (tag : BitVec 32) (opcode : BitVec 16) (status : Nat) (result : List Byte)
    (o : Option Nat) (s : State) : (writeReceipt ring origin tag opcode status result o s).teller.forwards = s.teller.forwards :=
  writeReceipt_teller Teller.forwards (fun _ _ _ _ _ => rfl) ring origin tag opcode status result o s
@[simp] theorem State.noted_teller_proposals (s : State) (ring : Nat) (k : JobKind) : (s.noted ring k).teller.proposals = s.teller.proposals := by
  simp [State.noted, answerStart, answer, addJob, State.modTeller]
@[simp] theorem State.noted_teller_window (s : State) (ring : Nat) (k : JobKind) : (s.noted ring k).teller.window = s.teller.window := by
  simp [State.noted, answerStart, answer, addJob, State.modTeller]
@[simp] theorem State.noted_teller_authority (s : State) (ring : Nat) (k : JobKind) : (s.noted ring k).teller.authority = s.teller.authority := by
  simp [State.noted, answerStart, answer, addJob, State.modTeller]
@[simp] theorem State.noted_teller_expired (s : State) (ring : Nat) (k : JobKind) : (s.noted ring k).teller.expired = s.teller.expired := by
  simp [State.noted, answerStart, answer, addJob, State.modTeller]
@[simp] theorem State.noted_teller_atTick (s : State) (ring : Nat) (k : JobKind) : (s.noted ring k).teller.atTick = s.teller.atTick := by
  simp [State.noted, answerStart, answer, addJob, State.modTeller]
@[simp] theorem State.noted_teller_forwards (s : State) (ring : Nat) (k : JobKind) : (s.noted ring k).teller.forwards = s.teller.forwards := by
  simp [State.noted, answerStart, answer, addJob, State.modTeller]

/-- A ring that has just been changed. -/
theorem State.ring_modRing_same {s : State} {n : Nat} (f : Ring → Ring) (h : Tab.above none s.teller.rings = true) :
    (s.modRing n f).ring n = f (s.ring n) := by
  exact Tab.get_set_self n (f (s.ring n)) h

/-- The rings' table keeps its order. -/
theorem State.above_modRing {s : State} {n : Nat} (f : Ring → Ring) (h : Tab.above none s.teller.rings = true) :
    Tab.above none (s.modRing n f).teller.rings = true := by
  exact Tab.above_none_set n (f (s.ring n)) h

/-- Where a ring's next receipt goes (R350, R351). -/
theorem issueReceipt_mem (ring : Nat) (d : Returned) (s : State) (h : Tab.above none s.teller.rings = true) :
    (issueReceipt ring d s).teller.mem =
      memWrite 0 s.teller.mem (s.receiptSlot ring) ({ d.receipt with stamp := s.now } : Receipt).bytes := by
  have hr : ∀ x : Receipt, ((s.modRing ring (fun r => noteReceipt r d.origin x d.proposal)).ring ring).rcptTail = (s.ring ring).rcptTail := by
    intro x
    rw [State.ring_modRing_same _ h]
    unfold noteReceipt; split <;> rfl
  unfold issueReceipt placeReceipt
  dsimp only
  have e : ∀ (y : State) (g : Teller → Teller), (∀ t, (g t).rings = t.rings) → (y.modTeller g).ring ring = y.ring ring := by
    intro y g hg; simp [State.ring, State.modTeller, hg]
  by_cases h14 : ring = 14
  · simp only [h14, if_true] at *
    split <;> simp [State.modRing, State.modTeller, State.receiptSlot, State.ring] at * <;> simp [*]
  · simp only [h14, if_false]
    split <;> split <;> simp_all [State.modRing, State.modTeller, State.receiptSlot]

/-- Copying a command keeps the rings' table in order. -/
theorem State.above_taken (ring : Nat) (h : Tab.above none s.teller.rings = true) : Tab.above none (s.taken ring).teller.rings = true := by
  unfold State.taken takeCommand
  refine State.above_modRing _ ?_
  simpa [State.modTeller] using State.above_modRing _ h

/-- Copying a command moves no receipt slot. -/
theorem State.receiptSlot_taken (ring : Nat) (h : Tab.above none s.teller.rings = true) : (s.taken ring).receiptSlot ring = s.receiptSlot ring := by
  have e : ∀ (n e c : Nat) (y : State) (g : Teller → Teller), (∀ t, (g t).rings = t.rings) →
      (count n e c (y.modTeller g)).ring ring = y.ring ring := by
    intro n e c y g hg; simp [State.ring, State.modTeller, hg]
  have k : ((s.taken ring).ring ring).rcptTail = (s.ring ring).rcptTail := by
    unfold State.taken takeCommand
    rw [State.ring_modRing_same]
    · dsimp only
      rw [e, State.ring_modRing_same _ h]
      intro t; rfl
    · simpa [State.modTeller] using State.above_modRing _ h
  unfold State.receiptSlot
  rw [k]

/-- A receipt that need not wait goes into ring memory. -/
theorem writeReceipt_mem (ring origin : Nat) (tag : BitVec 32) (opcode : BitVec 16) (status : Nat) (result : List Byte) (q : Option Nat) (s : State)
    (h : Tab.above none s.teller.rings = true) (hw : s.receiptWaits ring = false) :
    (writeReceipt ring origin tag opcode status result q s).teller.mem = memWrite 0 s.teller.mem (s.receiptSlot ring)
      ({ tag := tag, opcode := opcode, status := BitVec.ofNat 16 status, stamp := s.now, result := BitVec.ofNat 128 (natOfBytes (result.take 16)) } :
        Receipt).bytes := by
  unfold writeReceipt
  simp only [hw]
  have e : (s.modRing ring (Ring.answered origin tag)).receiptSlot ring = s.receiptSlot ring := by
    unfold State.receiptSlot; rw [State.ring_modRing_same _ h]; rfl
  rw [if_neg (by decide), issueReceipt_mem ring _ _ (State.above_modRing _ h), e]
  rfl

/-- A receipt has 32 bytes (R361). -/
theorem Receipt.bytes_length (x : Receipt) : x.bytes.length = 32 := by simp [Receipt.bytes, bytesOf]

/-- What `passes` says, part by part. -/
theorem State.passes_parts (h : s.passes op ring = true) :
    ring < 16 ∧ s.waitsFor op ring false = true ∧ s.startFree = true ∧
      (takeCommand ring (s.front ring) s).held (s.front ring) = none ∧ (s.taken ring).firstFailure (s.front ring) = none := by
  simpa [State.passes, and_assoc, Bool.and_eq_true] using h

/-- The opcode and fwd of a command that waits. -/
theorem State.waitsFor_parts (h : s.waitsFor op ring false = true) :
    s.fabricOn = true ∧ s.nextRing = some ring ∧ (s.front ring).opcode.toNat = op ∧ (s.front ring).fwd = false := by
  simpa [State.waitsFor, and_assoc, Bool.and_eq_true] using h

/-- The opcode of a command that waits, whatever its fwd. -/
theorem State.waitsFor_parts' {fwd : Bool} (h : s.waitsFor op ring fwd = true) :
    s.fabricOn = true ∧ s.nextRing = some ring ∧ (s.front ring).opcode.toNat = op ∧ (s.front ring).fwd = fwd := by
  cases fwd <;> simpa [State.waitsFor, and_assoc, Bool.and_eq_true] using h

/-- The opcode of a command that passes. -/
theorem State.passes_opcode (h : s.passes op ring = true) : (s.front ring).opcode.toNat = op :=
  (State.waitsFor_parts (State.passes_parts h).2.1).2.2.1

/-- Where 4 beats have passed since the last start, the Teller waits for none. -/
theorem State.waitBeat_free (h : s.startFree = true) : s.waitBeat = s := by simp [State.waitBeat, h]

/-- A command with a new tag is decided in `taken`. -/
theorem startCommand_new (h : (takeCommand ring (s.front ring) s).held (s.front ring) = none) :
    startCommand ring s = decideCommand (s.front ring) (s.taken ring) := by
  unfold startCommand State.taken
  dsimp only
  rw [h]

/-- A command that passes its checks is decided in `taken`. -/
theorem tellerCommand_passes (h : s.passes op ring = true) :
    tellerCommand op ring s = decideCommand (s.front ring) (s.taken ring) := by
  obtain ⟨_, hw, hf, hh, _⟩ := State.passes_parts h
  simp only [tellerCommand, hw, State.waitBeat_free hf, if_true]
  exact startCommand_new hh

/-- A guarded command that passes its checks is staged. -/
theorem tellerCommand_guarded (h : s.passes op ring = true) (ho : opInfo op = some o) (hg : o.guarded = true) :
    tellerCommand op ring s = propose (s.front ring) (s.taken ring) := by
  obtain ⟨_, hw, _, _, hn⟩ := State.passes_parts h
  obtain ⟨_, _, hop, hfwd⟩ := State.waitsFor_parts hw
  rw [tellerCommand_passes h]
  simp [decideCommand, hn, hfwd, hop, ho, hg]

/-- A command that is not guarded runs. -/
theorem tellerCommand_runs (h : s.passes op ring = true) (ho : opInfo op = some o) (hg : o.guarded = false) :
    tellerCommand op ring s = runStarted o (s.front ring) (s.taken ring) := by
  obtain ⟨_, hw, _, _, hn⟩ := State.passes_parts h
  obtain ⟨_, _, hop, hfwd⟩ := State.waitsFor_parts hw
  rw [tellerCommand_passes h]
  simp [decideCommand, hn, hfwd, hop, ho, hg]

/-- A command that ends at once. -/
theorem tellerCommand_ends (h : s.passes op ring = true) (ho : opInfo op = some o) (hg : o.guarded = false)
    (he : o.ends = .imm ∨ o.ends = .queued) (hc : op ≠ 0x0D01) (hr : runOp (s.front ring) (s.taken ring) = (.final status result, t)) :
    (.next ((tellerCommand op ring s).setPending s.pending) : Out) = s.endsWith ring status result t := by
  obtain ⟨_, hw, _, _, _⟩ := State.passes_parts h
  obtain ⟨_, _, hop, _⟩ := State.waitsFor_parts hw
  rw [tellerCommand_runs h ho hg]
  rcases he with he | he <;> simp [runStarted, hop, hc, he, runNow, hr, State.endsWith]

/-- A command that ends QUEUED from its start. -/
theorem tellerCommand_queued {f : State → State} (h : s.passes op ring = true) (ho : opInfo op = some o) (hg : o.guarded = false)
    (he : o.ends = .queued ∨ (o.ends = .tickQueued ∧ (s.taken ring).recordsPlot (s.front ring) = true)) (hc : op ≠ 0x0D01)
    (hr : (runOp (s.front ring) (s.taken ring)).1 = .queued k)
    (hf : (runOp (s.front ring) (s.noted ring k)).2 = f (s.noted ring k)) :
    (.next ((tellerCommand op ring s).setPending s.pending) : Out) = s.isQueued ring k f := by
  obtain ⟨_, hw, _, _, _⟩ := State.passes_parts h
  obtain ⟨_, _, hop, _⟩ := State.waitsFor_parts hw
  rw [tellerCommand_runs h ho hg]
  have : runOp (s.front ring) (s.taken ring) = (.queued k, (runOp (s.front ring) (s.taken ring)).2) := by rw [← hr]
  rcases he with he | ⟨he, hp⟩
  · simp only [runStarted, hop, hc, he, runNow, if_false]
    rw [this]
    simp only [State.isQueued, ← hf]
    rfl
  · simp only [runStarted, hop, hc, he, hp, if_true, runNow, if_false]
    rw [this]
    simp only [State.isQueued, ← hf]
    rfl

/-- A command whose effect falls at a tick boundary. -/
theorem tellerCommand_tick (h : s.passes op ring = true) (ho : opInfo op = some o) (hg : o.guarded = false)
    (he : o.ends = .tick ∨ (o.ends = .tickQueued ∧ (s.taken ring).recordsPlot (s.front ring) = false)) (hc : op ≠ 0x0D01)
    (hr : (runOp (s.front ring) (s.taken ring)).1 = .final stDone result) :
    (.next ((tellerCommand op ring s).setPending s.pending) : Out) = s.waitsForBoundary ring := by
  obtain ⟨_, hw, _, _, _⟩ := State.passes_parts h
  obtain ⟨_, _, hop, _⟩ := State.waitsFor_parts hw
  rw [tellerCommand_runs h ho hg]
  have : runOp (s.front ring) (s.taken ring) = (.final stDone result, (runOp (s.front ring) (s.taken ring)).2) := by rw [← hr]
  rcases he with he | ⟨he, hp⟩
  · simp only [runStarted, hop, hc, he, runAtBoundary, if_false]
    rw [this]
    simp [State.waitsForBoundary]
  · simp only [runStarted, hop, hc, he, hp, runAtBoundary, if_false]
    rw [this]
    simp [State.waitsForBoundary]

/-- A command that is QUEUED and whose work begins at the tick boundary. -/
theorem tellerCommand_tickQueued (h : s.passes op ring = true) (ho : opInfo op = some o) (hg : o.guarded = false)
    (he : o.ends = .tickQueued) (hp : (s.taken ring).recordsPlot (s.front ring) = false) (hc : op ≠ 0x0D01)
    (hr : (runOp (s.front ring) (s.taken ring)).1 = .queued k) :
    (.next ((tellerCommand op ring s).setPending s.pending) : Out) = s.isQueuedForBoundary ring := by
  obtain ⟨_, hw, _, _, _⟩ := State.passes_parts h
  obtain ⟨_, _, hop, _⟩ := State.waitsFor_parts hw
  rw [tellerCommand_runs h ho hg]
  have : runOp (s.front ring) (s.taken ring) = (.queued k, (runOp (s.front ring) (s.taken ring)).2) := by rw [← hr]
  simp only [runStarted, hop, hc, he, hp, runAtBoundary, if_false]
  rw [this]
  rfl

/-- A command names a ring that the device has, where it passes. -/
theorem whenWf_passes (h : s.passes op ring = true) : whenWf s (decide (ring < 16)) t = .next (t.setPending s.pending) := by
  simp [whenWf, (State.passes_parts h).1]

end Sys2Proof.Machine
end

