-- ==== Sys2Proof/Tests/Slice0.lean ====
section
/-! SUPPORT. Own tests: ill-formed commands stop by name, and every statement's hypotheses are met by a concrete state. -/

set_option Elab.async false
set_option linter.unusedVariables false

namespace Sys2Proof.Tests

open Sys2Proof Sys2Proof.Machine

/-- The fabric die out of reset, in a mode, its clock running. -/
def on (m : Mode) : State := { dev := { mode := m, inReset := false }, time := { running := true } }

/-- The first word of a command (R354): version 1, tag 7, plot 0xFFFF, and its parameters from byte 16 on. -/
def word (op len params : Nat) : Nat := op + 2 ^ 24 + 7 * 2 ^ 32 + 0xFFFF * 2 ^ 64 + len * 2 ^ 80 + params * 2 ^ 128

/-- The same with a plot. -/
def wordP (op plot len params : Nat) : Nat := op + 2 ^ 24 + 7 * 2 ^ 32 + plot * 2 ^ 64 + len * 2 ^ 80 + params * 2 ^ 128

/-- One command waits on a ring. -/
def cmd (s : State) (ring w : Nat) : State :=
  s.modTeller (fun t => { t with
    rings := Tab.set t.rings (ringReset ring) ring { enable := true, cmdTail := 1 },
    mem := ((List.range 64).map (fun i => (ring * 0x8000 + i, (BitVec.ofNat 8 (w / 256 ^ i) : Byte)))).filter (fun e => decide (e.2 ≠ 0)) })

/-- A command of ring 0 by itself. -/
def command (w : Nat) : Command := { word := BitVec.ofNat 512 w }


/-- A device that serves one host: port 0 carries plot 0, which maps bed 0 through one extent. -/
def serving1 : State :=
  { on .grow with
    ports := { port := [(0, { entry := { role := 1, width := 3 }, ltssm := .L0, cxl := true, flit := true })],
               decoder := [(0, { committed := true, size := 0x10000000 })] }
    pool := { plots := [(0, { state := .active, slots := [(0, { valid := true, span := 1, accepted := 1 })] })],
              beds := [(0, { state := .defined, span := 1, count := 1, mapCount := 1, sharers := 1 })],
              extents := [(0, { state := .bound, zeroed := true })], agents := [(0, { valid := true })] } }

/-- The descriptor of a Barrow operation. -/
def running (op : Nat) : BSlice := { state := .running, running := some { desc := BitVec.ofNat 512 op } }

/-- A command with one number just beyond its range, for each range that WellFormed checks. -/
theorem test_ill_formed : ([
    .devIdentify 16,
    .mgmtRecord 16 {},
    .qosReplenish 512,
    .memrd 128 0 .meta0 .I false,
    .deviceMemdata 0 { ld := 16 } 0 0 false,
    .atomicop 0 17 0 .fetchAdd 0 0 0,
    .overflowReadmit 8,
    .snoopTimeout 0 1024 0,
    .snoopTimeout 0 0 64,
    .writeTimeout 0 512,
    .ripenerPass 8,
    .policyScanComplete 4096,
    .deviceErrorReport 0 16 .viral,
    .hdmDecoderCommit 0 0 4 0 0 0 0 0 0,
    .laneMarginingRequest 256 false,
    .addDynamicCapacityResponse 0 8 [],
    .zeroingStart 1048576,
    .descriptorStart 512,
    .dir {} 65536 0 0,
    .dir {} 0 16 0,
    .ack 9 0,
    .controlCreditStall 0 8,
    .sourceAssertion 2048,
    .evcOffer 4,
    .offerTaken 4,
    .evcPendClear 32 0,
    .dieLinkCredit .toSteward 8 0,
    .dieLinkCredit .toSteward 0 64,
    .tellerAccess 0 false 0 9 0,
    .bridgeCompletion 16 .success 0,
    .semaphoreTimeout 16,
    .powerLinkTelemetry 4 0 0 false,
    .chCtrlOn 48] : List Instr).all (fun c => !c.wf) = true := by decide +kernel

theorem witness_PlotBedAndDeviceCommandsComplete_1 : ∃ (s u : State) (c : Command) (ring n b e : Nat), (s.front ring = c) ∧ (s.taken ring = u) ∧ (c.num 16 2 = n) ∧ (c.byte 16 = b) ∧ (c.num 16 4 = e) ∧ (s.passes 0x0101 ring = true) :=
  ⟨cmd (on .grow) 0 (word 0x0101 0 0), _, _, 0, _, _, _, rfl, rfl, rfl, rfl, rfl, by decide +kernel⟩
theorem witness_PlotBedAndDeviceCommandsComplete_2 : ∃ (s u : State) (c : Command) (ring n b e : Nat), (s.front ring = c) ∧ (s.taken ring = u) ∧ (c.num 16 2 = n) ∧ (c.byte 16 = b) ∧ (c.num 16 4 = e) ∧ (s.passes 0x0102 ring = true) :=
  ⟨cmd (on .grow) 0 (word 0x0102 0 0), _, _, 0, _, _, _, rfl, rfl, rfl, rfl, rfl, by decide +kernel⟩
theorem witness_PlotBedAndDeviceCommandsComplete_3 : ∃ (s u : State) (c : Command) (ring n b e : Nat) (m : Mode), (s.front ring = c) ∧ (s.taken ring = u) ∧ (c.num 16 2 = n) ∧ (c.byte 16 = b) ∧ (c.num 16 4 = e) ∧ (ring ≠ 15) ∧ (modeOfCode (b) = some m) ∧ (m ≠ .sprout ∧ m ≠ .shadow ∧ m ≠ s.dev.mode) ∧ (s.dev.transition = none ∧ s.dev.dormantDue = false) ∧ ((modeRefusal m s).all (fun x => !x.1) = true) ∧ (s.passes 0x0103 ring = true) :=
  ⟨cmd (on .grow) 0 (word 0x0103 1 3), _, _, 0, _, _, _, .fallow, rfl, rfl, rfl, rfl, rfl, by decide +kernel⟩
theorem witness_PlotBedAndDeviceCommandsComplete_4 : ∃ (s u : State) (c : Command) (ring n b e : Nat), (s.front ring = c) ∧ (s.taken ring = u) ∧ (c.num 16 2 = n) ∧ (c.byte 16 = b) ∧ (c.num 16 4 = e) ∧ (1 ≤ b ∧ b ≤ 3) ∧ (s.hasJob (fun k => decide (k = .mode ∨ k = .modeRecord)) = false) ∧ (s.passes 0x0104 ring = true) :=
  ⟨cmd (on .grow) 0 (word 0x0104 1 3), _, _, 0, _, _, _, rfl, rfl, rfl, rfl, rfl, by decide +kernel⟩
theorem witness_PlotBedAndDeviceCommandsComplete_5 : ∃ (s u : State) (c : Command) (ring n b e : Nat), (s.front ring = c) ∧ (s.taken ring = u) ∧ (c.num 16 2 = n) ∧ (c.byte 16 = b) ∧ (c.num 16 4 = e) ∧ (b ≤ 15) ∧ (s.pair.state = .unpaired) ∧ (s.trunks.trunk.any (fun e => decide (e.2.state ≠ .down ∧ e.2.state ≠ .broken)) = false) ∧ (s.passes 0x0105 ring = true) :=
  ⟨cmd (on .grow) 0 (word 0x0105 1 15), _, _, 0, _, _, _, rfl, rfl, rfl, rfl, rfl, by decide +kernel⟩
theorem witness_PlotBedAndDeviceCommandsComplete_6 : ∃ (s u : State) (c : Command) (ring n b e : Nat), (s.front ring = c) ∧ (s.taken ring = u) ∧ (c.num 16 2 = n) ∧ (c.byte 16 = b) ∧ (c.num 16 4 = e) ∧ (s.passes 0x0106 ring = true) :=
  ⟨cmd (on .grow) 0 (word 0x0106 40 0x0103), _, _, 0, _, _, _, rfl, rfl, rfl, rfl, rfl, by decide +kernel⟩
theorem witness_PlotBedAndDeviceCommandsComplete_7 : ∃ (s u : State) (c : Command) (ring n b e : Nat), (s.front ring = c) ∧ (s.taken ring = u) ∧ (c.num 16 2 = n) ∧ (c.byte 16 = b) ∧ (c.num 16 4 = e) ∧ (s.passes 0x0107 ring = true) :=
  ⟨cmd (on .grow) 0 (word 0x0107 1 3), _, _, 0, _, _, _, rfl, rfl, rfl, rfl, rfl, by decide +kernel⟩
theorem witness_PlotBedAndDeviceCommandsComplete_8 : ∃ (s u : State) (c : Command) (ring n b e : Nat), (s.front ring = c) ∧ (s.taken ring = u) ∧ (c.num 16 2 = n) ∧ (c.byte 16 = b) ∧ (c.num 16 4 = e) ∧ (s.passes 0x0201 ring = true) :=
  ⟨cmd ({ on .grow with ports := { port := [(127, { entry := { role := 1 } })] } }) 0 (wordP 0x0201 511 2 0x077F), _, _, 0, _, _, _, rfl, rfl, rfl, rfl, rfl, by decide +kernel⟩
theorem witness_PlotBedAndDeviceCommandsComplete_9 : ∃ (s u : State) (c : Command) (ring n b e : Nat), (s.front ring = c) ∧ (s.taken ring = u) ∧ (c.num 16 2 = n) ∧ (c.byte 16 = b) ∧ (c.num 16 4 = e) ∧ (s.passes 0x0202 ring = true) :=
  ⟨cmd ({ on .grow with pool := { plots := [(3, { state := .configured })] } }) 0 (wordP 0x0202 3 0 0), _, _, 0, _, _, _, rfl, rfl, rfl, rfl, rfl, by decide +kernel⟩
theorem witness_PlotBedAndDeviceCommandsComplete_10 : ∃ (s u : State) (c : Command) (ring n b e : Nat), (s.front ring = c) ∧ (s.taken ring = u) ∧ (c.num 16 2 = n) ∧ (c.byte 16 = b) ∧ (c.num 16 4 = e) ∧ (s.passes 0x0203 ring = true) :=
  ⟨cmd ({ on .grow with pool := { plots := [(3, { state := .configured, slots := [(0, { valid := true, bed := 5, span := 1 })] })], beds := [(5, { state := .defined, span := 1 })] } }) 0 (wordP 0x0203 3 8 0x0000000100050007), _, _, 0, _, _, _, rfl, rfl, rfl, rfl, rfl, by decide +kernel⟩
theorem witness_PlotBedAndDeviceCommandsComplete_11 : ∃ (s u : State) (c : Command) (ring n b e : Nat), (s.front ring = c) ∧ (s.taken ring = u) ∧ (c.num 16 2 = n) ∧ (c.byte 16 = b) ∧ (c.num 16 4 = e) ∧ (s.passes 0x0204 ring = true) :=
  ⟨cmd ({ on .grow with pool := { plots := [(3, { state := .active, slots := [(7, { valid := true, bed := 5, span := 1 })] })] } }) 0 (wordP 0x0204 3 1 7), _, _, 0, _, _, _, rfl, rfl, rfl, rfl, rfl, by decide +kernel⟩
theorem witness_PlotBedAndDeviceCommandsComplete_12 : ∃ (s u : State) (c : Command) (ring n b e : Nat), (s.front ring = c) ∧ (s.taken ring = u) ∧ (c.num 16 2 = n) ∧ (c.byte 16 = b) ∧ (c.num 16 4 = e) ∧ ((u.plot c.plotField).state = .configured) ∧ (s.passes 0x0205 ring = true) :=
  ⟨cmd ({ on .grow with pool := { plots := [(3, { state := .configured })] } }) 0 (wordP 0x0205 3 0 0), _, _, 0, _, _, _, rfl, rfl, rfl, rfl, rfl, by decide +kernel⟩
theorem witness_PlotBedAndDeviceCommandsComplete_13 : ∃ (s u : State) (c : Command) (ring n b e : Nat), (s.front ring = c) ∧ (s.taken ring = u) ∧ (c.num 16 2 = n) ∧ (c.byte 16 = b) ∧ (c.num 16 4 = e) ∧ ((u.plot c.plotField).state = .active) ∧ (s.passes 0x0206 ring = true) :=
  ⟨cmd ({ on .grow with pool := { plots := [(3, { state := .active })] } }) 0 (wordP 0x0206 3 0 0), _, _, 0, _, _, _, rfl, rfl, rfl, rfl, rfl, by decide +kernel⟩
theorem witness_PlotBedAndDeviceCommandsComplete_14 : ∃ (s u : State) (c : Command) (ring n b e : Nat), (s.front ring = c) ∧ (s.taken ring = u) ∧ (c.num 16 2 = n) ∧ (c.byte 16 = b) ∧ (c.num 16 4 = e) ∧ ((u.plot c.plotField).state = .configured) ∧ (s.passes 0x0207 ring = true) :=
  ⟨cmd ({ on .grow with pool := { plots := [(3, { state := .configured })] } }) 0 (wordP 0x0207 3 1 1), _, _, 0, _, _, _, rfl, rfl, rfl, rfl, rfl, by decide +kernel⟩
theorem witness_PlotBedAndDeviceCommandsComplete_15 : ∃ (s u : State) (c : Command) (ring n b e : Nat), (s.front ring = c) ∧ (s.taken ring = u) ∧ (c.num 16 2 = n) ∧ (c.byte 16 = b) ∧ (c.num 16 4 = e) ∧ (s.passes 0x0208 ring = true) :=
  ⟨cmd ({ on .grow with pool := { plots := [(3, { state := .configured })] } }) 0 (wordP 0x0208 3 1 1), _, _, 0, _, _, _, rfl, rfl, rfl, rfl, rfl, by decide +kernel⟩
theorem witness_PlotBedAndDeviceCommandsComplete_16 : ∃ (s u : State) (c : Command) (ring n b e : Nat), (s.front ring = c) ∧ (s.taken ring = u) ∧ (c.num 16 2 = n) ∧ (c.byte 16 = b) ∧ (c.num 16 4 = e) ∧ (n = 0 ∨ 4 ≤ n) ∧ (c.num 18 2 = 0 ∨ 4 ≤ c.num 18 2) ∧ (1 ≤ c.byte 20 ∧ c.byte 20 ≤ 15 ∧ c.byte 21 ≠ 0) ∧ ((u.plot c.plotField).moving = false ∧ (u.plot c.plotField).state ≠ .free) ∧ (s.passes 0x0209 ring = true) :=
  ⟨cmd ({ on .grow with pool := { plots := [(3, { state := .configured })] } }) 0 (wordP 0x0209 3 6 0xFF0100040000), _, _, 0, _, _, _, rfl, rfl, rfl, rfl, rfl, by decide +kernel⟩
theorem witness_PlotBedAndDeviceCommandsComplete_17 : ∃ (s u : State) (c : Command) (ring n b e : Nat), (s.front ring = c) ∧ (s.taken ring = u) ∧ (c.num 16 2 = n) ∧ (c.byte 16 = b) ∧ (c.num 16 4 = e) ∧ (s.passes 0x020A ring = true) :=
  ⟨cmd (on .grow) 0 (wordP 0x020A 511 0 0), _, _, 0, _, _, _, rfl, rfl, rfl, rfl, rfl, by decide +kernel⟩
theorem witness_PlotBedAndDeviceCommandsComplete_18 : ∃ (s u : State) (c : Command) (ring n b e : Nat), (s.front ring = c) ∧ (s.taken ring = u) ∧ (c.num 16 2 = n) ∧ (c.byte 16 = b) ∧ (c.num 16 4 = e) ∧ (s.passes 0x0301 ring = true) :=
  ⟨cmd (on .grow) 0 (word 0x0301 14 (4095 + 0x10 * 2^16 + 0xFFFF0 * 2^32 + 5 * 2^64 + 4 * 2^72 + 6 * 2^80 + 953 * 2^96)), _, _, 0, _, _, _, rfl, rfl, rfl, rfl, rfl, by decide +kernel⟩
theorem witness_PlotBedAndDeviceCommandsComplete_19 : ∃ (s u : State) (c : Command) (ring n b e : Nat), (s.front ring = c) ∧ (s.taken ring = u) ∧ (c.num 16 2 = n) ∧ (c.byte 16 = b) ∧ (c.num 16 4 = e) ∧ (n ≤ 4095) ∧ ((s.bed (n)).state = .defined ∧ (s.bed (n)).mapCount = 0 ∧ (s.bed (n)).exports = []) ∧ (s.passes 0x0302 ring = true) :=
  ⟨cmd ({ on .grow with pool := { beds := [(4095, { state := .defined, mosi := true, count := 2, span := 3 })], extents := [(2, { state := .defined })] } }) 0 (word 0x0302 2 4095), _, _, 0, _, _, _, rfl, rfl, rfl, rfl, rfl, by decide +kernel⟩
theorem witness_PlotBedAndDeviceCommandsComplete_20 : ∃ (s u : State) (c : Command) (ring n b e : Nat), (s.front ring = c) ∧ (s.taken ring = u) ∧ (c.num 16 2 = n) ∧ (c.byte 16 = b) ∧ (c.num 16 4 = e) ∧ (n ≤ 4095 ∧ c.byte 18 ≤ 2 ∧ 1 ≤ c.num 20 2 ∧ c.num 20 2 ≤ 953) ∧ ((c.byte 18 = 2 → (u.bed (n)).mosi = true)) ∧ ((u.bed (n)).state = .defined ∧ (u.bed (n)).policyScan = []) ∧ (s.passes 0x0303 ring = true) :=
  ⟨cmd ({ on .grow with pool := { beds := [(4095, { state := .defined, mosi := true, count := 2, span := 3 })], extents := [(2, { state := .defined })] } }) 0 (word 0x0303 6 (4095 + 2 * 2^16 + 953 * 2^32)), _, _, 0, _, _, _, rfl, rfl, rfl, rfl, rfl, by decide +kernel⟩
theorem witness_PlotBedAndDeviceCommandsComplete_21 : ∃ (s u : State) (c : Command) (ring n b e : Nat), (s.front ring = c) ∧ (s.taken ring = u) ∧ (c.num 16 2 = n) ∧ (c.byte 16 = b) ∧ (c.num 16 4 = e) ∧ (s.passes 0x0304 ring = true) :=
  ⟨cmd ({ on .grow with pool := { beds := [(4095, { state := .defined, mosi := true, count := 2, span := 3 })], extents := [(2, { state := .defined })] } }) 0 (word 0x0304 4 (4095 + 1 * 2^16)), _, _, 0, _, _, _, rfl, rfl, rfl, rfl, rfl, by decide +kernel⟩
theorem witness_PlotBedAndDeviceCommandsComplete_22 : ∃ (s u : State) (c : Command) (ring n b e : Nat), (s.front ring = c) ∧ (s.taken ring = u) ∧ (c.num 16 2 = n) ∧ (c.byte 16 = b) ∧ (c.num 16 4 = e) ∧ (n ≤ 4095) ∧ ((s.bed (n)).state = .defined ∧ (s.bed (n)).resize = none) ∧ (c.num 18 2 ≤ (s.bed (n)).count.toNat / 2 ^ (s.bed (n)).ways.toNat) ∧ (((s.bed (n)).leaving (c.num 18 2)).all (fun i => decide ((s.extent i).state ≠ .migrating)) = true) ∧ (s.passes 0x0305 ring = true) :=
  ⟨cmd ({ on .grow with pool := { beds := [(4095, { state := .defined, mosi := true, count := 2, span := 3 })], extents := [(2, { state := .defined })] } }) 0 (word 0x0305 12 (4095 + 2 * 2^16)), _, _, 0, _, _, _, rfl, rfl, rfl, rfl, rfl, by decide +kernel⟩
theorem witness_PlotBedAndDeviceCommandsComplete_23 : ∃ (s u : State) (c : Command) (ring n b e : Nat), (s.front ring = c) ∧ (s.taken ring = u) ∧ (c.num 16 2 = n) ∧ (c.byte 16 = b) ∧ (c.num 16 4 = e) ∧ (s.passes 0x0306 ring = true) :=
  ⟨cmd ({ on .grow with pool := { beds := [(4095, { state := .defined, mosi := true, count := 2, span := 3, exports := [1], mapCount := 0 })] } }) 0 (word 0x0306 4 (4095 + 1 * 2^16 + 1 * 2^24)), _, _, 0, _, _, _, rfl, rfl, rfl, rfl, rfl, by decide +kernel⟩
theorem witness_PlotBedAndDeviceCommandsComplete_24 : ∃ (s u : State) (c : Command) (ring n b e : Nat), (s.front ring = c) ∧ (s.taken ring = u) ∧ (c.num 16 2 = n) ∧ (c.byte 16 = b) ∧ (c.num 16 4 = e) ∧ (n ≤ 4095) ∧ (s.passes 0x0307 ring = true) :=
  ⟨cmd (on .grow) 0 (word 0x0307 2 4095), _, _, 0, _, _, _, rfl, rfl, rfl, rfl, rfl, by decide +kernel⟩
theorem witness_PlotBedAndDeviceCommandsComplete_25 : ∃ (s u : State) (c : Command) (ring n b e : Nat), (s.front ring = c) ∧ (s.taken ring = u) ∧ (c.num 16 2 = n) ∧ (c.byte 16 = b) ∧ (c.num 16 4 = e) ∧ (e < 2 ^ 20 ∧ c.byte 20 ≤ 127 ∧ c.byte 21 ≤ 15 ∧ c.num 24 4 < 2 ^ 20) ∧ ((s.port (c.byte 20)).downstream = true) ∧ (s.ldBound (c.byte 20) (c.byte 21) = false) ∧ ((s.extent (e)).state = .free ∧ Tab.find s.pool.defining (e) = none) ∧ (s.capacityHas { port := BitVec.ofNat 7 (c.byte 20), ld := BitVec.ofNat 4 (c.byte 21), dpaBase := BitVec.ofNat 20 (c.num 24 4) } = true ∧ (Tab.find (s.port (c.byte 20)).decoder0 (c.byte 21)).isSome = true) ∧ (s.passes 0x0308 ring = true) :=
  ⟨cmd ({ on .grow with ports := { port := [(127, { entry := { role := 2 }, decoder0 := [(15, {})] })] } }) 0 (word 0x0308 12 (0xFFFFF + 127 * 2^32 + 15 * 2^40 + 0xFFFFF * 2^64)), _, _, 0, _, _, _, rfl, rfl, rfl, rfl, rfl, by decide +kernel⟩
theorem witness_PlotBedAndDeviceCommandsComplete_26 : ∃ (s u : State) (c : Command) (ring n b e : Nat), (s.front ring = c) ∧ (s.taken ring = u) ∧ (c.num 16 2 = n) ∧ (c.byte 16 = b) ∧ (c.num 16 4 = e) ∧ (e < 2 ^ 20) ∧ ((u.extent (e)).state = .defined ∧ u.migTarget (e) = false ∧ u.growing (e) = false) ∧ (s.passes 0x0309 ring = true) :=
  ⟨cmd ({ on .grow with pool := { extents := [(1048575, { state := .defined, zeroed := true })] } }) 0 (word 0x0309 4 1048575), _, _, 0, _, _, _, rfl, rfl, rfl, rfl, rfl, by decide +kernel⟩
theorem witness_PlotBedAndDeviceCommandsComplete_27 : ∃ (s u : State) (c : Command) (ring n b e : Nat), (s.front ring = c) ∧ (s.taken ring = u) ∧ (c.num 16 2 = n) ∧ (c.byte 16 = b) ∧ (c.num 16 4 = e) ∧ (e < 2 ^ 20) ∧ ((s.extent (e)).state = .failed) ∧ (s.passes 0x030A ring = true) :=
  ⟨cmd ({ on .grow with pool := { extents := [(1048575, { state := .failed, zeroed := true })] } }) 0 (word 0x030A 4 1048575), _, _, 0, _, _, _, rfl, rfl, rfl, rfl, rfl, by decide +kernel⟩
theorem witness_PlotBedAndDeviceCommandsComplete_28 : ∃ (s u : State) (c : Command) (ring n b e : Nat), (s.front ring = c) ∧ (s.taken ring = u) ∧ (c.num 16 2 = n) ∧ (c.byte 16 = b) ∧ (c.num 16 4 = e) ∧ (e < 2 ^ 20) ∧ (s.passes 0x030B ring = true) :=
  ⟨cmd (on .grow) 0 (word 0x030B 4 1048575), _, _, 0, _, _, _, rfl, rfl, rfl, rfl, rfl, by decide +kernel⟩
theorem witness_PortLaneAndTrunkCommandsComplete_1 : ∃ (s u : State) (c : Command) (ring n b e : Nat), (s.front ring = c) ∧ (s.taken ring = u) ∧ (c.num 16 2 = n) ∧ (c.byte 16 = b) ∧ (c.num 16 4 = e) ∧ (s.passes 0x0401 ring = true) :=
  ⟨cmd (on .grow) 0 (word 0x0401 72 0x08000000 + 2 ^ 16), _, _, 0, _, _, _, rfl, rfl, rfl, rfl, rfl, by decide +kernel⟩
theorem witness_PortLaneAndTrunkCommandsComplete_2 : ∃ (s u : State) (c : Command) (ring n b e : Nat), (s.front ring = c) ∧ (s.taken ring = u) ∧ (c.num 16 2 = n) ∧ (c.byte 16 = b) ∧ (c.num 16 4 = e) ∧ (b ≤ 127 ∧ c.byte 17 ≤ 6) ∧ (s.passes 0x0402 ring = true) :=
  ⟨cmd (on .fallow) 0 (word 0x0402 3 0x03067F), _, _, 0, _, _, _, rfl, rfl, rfl, rfl, rfl, by decide +kernel⟩
theorem witness_PortLaneAndTrunkCommandsComplete_3 : ∃ (s u : State) (c : Command) (ring n b e : Nat), (s.front ring = c) ∧ (s.taken ring = u) ∧ (c.num 16 2 = n) ∧ (c.byte 16 = b) ∧ (c.num 16 4 = e) ∧ (b ≤ 127) ∧ (s.passes 0x0403 ring = true) :=
  ⟨cmd (on .grow) 0 (word 0x0403 1 127), _, _, 0, _, _, _, rfl, rfl, rfl, rfl, rfl, by decide +kernel⟩
theorem witness_PortLaneAndTrunkCommandsComplete_4 : ∃ (s u : State) (c : Command) (ring n b e : Nat), (s.front ring = c) ∧ (s.taken ring = u) ∧ (c.num 16 2 = n) ∧ (c.byte 16 = b) ∧ (c.num 16 4 = e) ∧ (b ≤ 127) ∧ (s.passes 0x0404 ring = true) :=
  ⟨cmd (on .grow) 0 (word 0x0404 1 127), _, _, 0, _, _, _, rfl, rfl, rfl, rfl, rfl, by decide +kernel⟩
theorem witness_PortLaneAndTrunkCommandsComplete_5 : ∃ (s u : State) (c : Command) (ring n b e : Nat), (s.front ring = c) ∧ (s.taken ring = u) ∧ (c.num 16 2 = n) ∧ (c.byte 16 = b) ∧ (c.num 16 4 = e) ∧ (b ≤ 127) ∧ (s.passes 0x0405 ring = true) :=
  ⟨cmd (on .grow) 0 (word 0x0405 1 127), _, _, 0, _, _, _, rfl, rfl, rfl, rfl, rfl, by decide +kernel⟩
theorem witness_PortLaneAndTrunkCommandsComplete_6 : ∃ (s u : State) (c : Command) (ring n b e : Nat), (s.front ring = c) ∧ (s.taken ring = u) ∧ (c.num 16 2 = n) ∧ (c.byte 16 = b) ∧ (c.num 16 4 = e) ∧ (b ≤ 127 ∧ (s.port (b)).downstream = true) ∧ (s.removalBusy (b) = false) ∧ (s.passes 0x0406 ring = true) :=
  ⟨cmd ({ on .grow with ports := { port := [(0, { entry := { role := 1 } }), (127, { entry := { role := 2 } })] } }) 0 (word 0x0406 1 127), _, _, 0, _, _, _, rfl, rfl, rfl, rfl, rfl, by decide +kernel⟩
theorem witness_PortLaneAndTrunkCommandsComplete_7 : ∃ (s u : State) (c : Command) (ring n b e : Nat), (s.front ring = c) ∧ (s.taken ring = u) ∧ (c.num 16 2 = n) ∧ (c.byte 16 = b) ∧ (c.num 16 4 = e) ∧ (c.blk 0 1 ≤ 127 ∧ c.blk 1 1 ≤ 1 ∧ c.blk 2 1 ≤ 1 ∧ c.blk 3 1 ≤ 1) ∧ ((u.port (c.blk 0 1)).upstream = true) ∧ (s.passes 0x0407 ring = true) :=
  ⟨cmd ({ on .grow with ports := { port := [(127, { entry := { role := 1 } })] }, steward := { sram := [(0, 127), (1, 1), (3, 1)] } }) 0 (word 0x0407 52 0x08000000 + 2 ^ 16), _, _, 0, _, _, _, rfl, rfl, rfl, rfl, rfl, by decide +kernel⟩
theorem witness_PortLaneAndTrunkCommandsComplete_8 : ∃ (s u : State) (c : Command) (ring n b e : Nat), (s.front ring = c) ∧ (s.taken ring = u) ∧ (c.num 16 2 = n) ∧ (c.byte 16 = b) ∧ (c.num 16 4 = e) ∧ (s.passes 0x0408 ring = true) :=
  ⟨cmd ({ on .grow with ports := { port := [(0, { entry := { role := 1 } }), (127, { entry := { role := 2 } })] } }) 0 (word 0x0408 4 0x0F00FF7F), _, _, 0, _, _, _, rfl, rfl, rfl, rfl, rfl, by decide +kernel⟩
theorem witness_PortLaneAndTrunkCommandsComplete_9 : ∃ (s u : State) (c : Command) (ring n b e : Nat), (s.front ring = c) ∧ (s.taken ring = u) ∧ (c.num 16 2 = n) ∧ (c.byte 16 = b) ∧ (c.num 16 4 = e) ∧ (s.passes 0x0409 ring = true) :=
  ⟨cmd ({ on .grow with ports := { port := [(0, { entry := { role := 1 } })], vppb := [(15, { bound := some (127, 0xFF) })] } }) 0 (word 0x0409 2 0x0F00), _, _, 0, _, _, _, rfl, rfl, rfl, rfl, rfl, by decide +kernel⟩
theorem witness_PortLaneAndTrunkCommandsComplete_10 : ∃ (s u : State) (c : Command) (ring n b e : Nat), (s.front ring = c) ∧ (s.taken ring = u) ∧ (c.num 16 2 = n) ∧ (c.byte 16 = b) ∧ (c.num 16 4 = e) ∧ (1 ≤ c.num 18 2 ∧ c.num 18 2 < c.num 20 2 ∧ c.num 20 2 < c.num 22 2 ∧ c.num 22 2 ≤ 4095) ∧ (s.passes 0x040A ring = true) :=
  ⟨cmd (on .grow) 0 (word 0x040A 24 (1 * 2^16 + 2 * 2^32 + 4095 * 2^48 + 1 * 2^191)), _, _, 0, _, _, _, rfl, rfl, rfl, rfl, rfl, by decide +kernel⟩
theorem witness_PortLaneAndTrunkCommandsComplete_11 : ∃ (s u : State) (c : Command) (ring n b e : Nat), (s.front ring = c) ∧ (s.taken ring = u) ∧ (c.num 16 2 = n) ∧ (c.byte 16 = b) ∧ (c.num 16 4 = e) ∧ (bitsOf (BitVec.ofNat 64 (c.num 16 8)) 43 40 ≤ 10 ∨ bitsOf (BitVec.ofNat 64 (c.num 16 8)) 43 40 = 15) ∧ (bitsOf (BitVec.ofNat 64 (c.num 16 8)) 36 35 ≠ 3) ∧ (bitsOf (BitVec.ofNat 64 (c.num 16 8)) 34 32 ≤ 4 ∨ bitsOf (BitVec.ofNat 64 (c.num 16 8)) 34 32 = 7) ∧ (bitsOf (BitVec.ofNat 64 (c.num 16 8)) 31 24 ≠ 0 ∧ bitsOf (BitVec.ofNat 64 (c.num 16 8)) 19 16 ≠ 0 ∧ bitsOf (BitVec.ofNat 64 (c.num 16 8)) 14 0 = 0) ∧ (s.passes 0x0410 ring = true) :=
  ⟨cmd (on .grow) 0 (word 0x0410 40 (0x00FF0F0701010000 + 2^319)), _, _, 0, _, _, _, rfl, rfl, rfl, rfl, rfl, by decide +kernel⟩
theorem witness_PortLaneAndTrunkCommandsComplete_12 : ∃ (s u : State) (c : Command) (ring n b e : Nat), (s.front ring = c) ∧ (s.taken ring = u) ∧ (c.num 16 2 = n) ∧ (c.byte 16 = b) ∧ (c.num 16 4 = e) ∧ (s.passes 0x0411 ring = true) :=
  ⟨cmd (on .grow) 0 (word 0x0411 1 255), _, _, 0, _, _, _, rfl, rfl, rfl, rfl, rfl, by decide +kernel⟩
theorem witness_PortLaneAndTrunkCommandsComplete_13 : ∃ (s u : State) (c : Command) (ring n b e : Nat), (s.front ring = c) ∧ (s.taken ring = u) ∧ (c.num 16 2 = n) ∧ (c.byte 16 = b) ∧ (c.num 16 4 = e) ∧ (c.byte 17 % 2 = 0) ∧ (s.passes 0x0412 ring = true) :=
  ⟨cmd (on .grow) 0 (word 0x0412 2 255), _, _, 0, _, _, _, rfl, rfl, rfl, rfl, rfl, by decide +kernel⟩
theorem witness_PortLaneAndTrunkCommandsComplete_14 : ∃ (s u : State) (c : Command) (ring n b e : Nat), (s.front ring = c) ∧ (s.taken ring = u) ∧ (c.num 16 2 = n) ∧ (c.byte 16 = b) ∧ (c.num 16 4 = e) ∧ (b ≤ 3) ∧ (s.passes 0x0413 ring = true) :=
  ⟨cmd (on .probe) 0 (word 0x0413 40 (3 + 2^319)), _, _, 0, _, _, _, rfl, rfl, rfl, rfl, rfl, by decide +kernel⟩
theorem witness_PortLaneAndTrunkCommandsComplete_15 : ∃ (s u : State) (c : Command) (ring n b e : Nat), (s.front ring = c) ∧ (s.taken ring = u) ∧ (c.num 16 2 = n) ∧ (c.byte 16 = b) ∧ (c.num 16 4 = e) ∧ (c.byte 17 ≤ 4 ∧ c.byte 18 ≤ 4) ∧ (s.passes 0x0414 ring = true) :=
  ⟨cmd (on .probe) 0 (word 0x0414 3 0x0404FF), _, _, 0, _, _, _, rfl, rfl, rfl, rfl, rfl, by decide +kernel⟩
theorem witness_PortLaneAndTrunkCommandsComplete_16 : ∃ (s u : State) (c : Command) (ring n b e : Nat), (s.front ring = c) ∧ (s.taken ring = u) ∧ (c.num 16 2 = n) ∧ (c.byte 16 = b) ∧ (c.num 16 4 = e) ∧ (16 ≤ c.byte 17 ∧ c.byte 17 ≤ 30) ∧ (s.laneInL0 (b) = true) ∧ ((s.lane (b)).marginStatus ≠ 3 ∧ (s.lane (b)).scanWaits = none ∧ (s.lane (b)).margining = false) ∧ (s.passes 0x0415 ring = true) :=
  ⟨cmd ({ on .grow with ports := { port := [(127, { entry := { role := 1 }, ltssm := .L0 })] } }) 0 (word 0x0415 2 0x10FF), _, _, 0, _, _, _, rfl, rfl, rfl, rfl, rfl, by decide +kernel⟩
theorem witness_PortLaneAndTrunkCommandsComplete_17 : ∃ (s u : State) (c : Command) (ring n b e : Nat), (s.front ring = c) ∧ (s.taken ring = u) ∧ (c.num 16 2 = n) ∧ (c.byte 16 = b) ∧ (c.num 16 4 = e) ∧ (b ≤ 127 ∧ (u.port (b)).isTrunk = true) ∧ (10 ≤ (trunkEntryOf (c.num 24 8)).leakPct.toNat ∧ (trunkEntryOf (c.num 24 8)).leakPct.toNat ≤ 90 ∧ 4 ≤ (trunkEntryOf (c.num 24 8)).holdoff.toNat ∧ (trunkEntryOf (c.num 24 8)).maxRate ≠ 3) ∧ (s.passes 0x0420 ring = true) :=
  ⟨cmd ({ on .grow with ports := { port := [(120, { entry := { role := 3, width := 3 } })] } }) 0 (word 0x0420 16 (120 + (90 * 2 ^ 48 + 4 * 2 ^ 40 + 2 * 2 ^ 28) * 2 ^ 64)), _, _, 0, _, _, _, rfl, rfl, rfl, rfl, rfl, by decide +kernel⟩
theorem witness_PortLaneAndTrunkCommandsComplete_18 : ∃ (s u : State) (c : Command) (ring n b e : Nat), (s.front ring = c) ∧ (s.taken ring = u) ∧ (c.num 16 2 = n) ∧ (c.byte 16 = b) ∧ (c.num 16 4 = e) ∧ (b ≤ 127 ∧ (u.port (b)).isTrunk = true) ∧ (s.passes 0x0421 ring = true) :=
  ⟨cmd ({ on .grow with ports := { port := [(120, { entry := { role := 3, width := 3 } })] } }) 0 (word 0x0421 1 120), _, _, 0, _, _, _, rfl, rfl, rfl, rfl, rfl, by decide +kernel⟩
theorem witness_PortLaneAndTrunkCommandsComplete_19 : ∃ (s u : State) (c : Command) (ring n b e : Nat), (s.front ring = c) ∧ (s.taken ring = u) ∧ (c.num 16 2 = n) ∧ (c.byte 16 = b) ∧ (c.num 16 4 = e) ∧ (b ≤ 127 ∧ (u.port (b)).isTrunk = true) ∧ (s.passes 0x0422 ring = true) :=
  ⟨cmd ({ on .grow with ports := { port := [(120, { entry := { role := 3, width := 3 } })] } }) 0 (word 0x0422 1 120), _, _, 0, _, _, _, rfl, rfl, rfl, rfl, rfl, by decide +kernel⟩
theorem witness_PortLaneAndTrunkCommandsComplete_20 : ∃ (s u : State) (c : Command) (ring n b e : Nat), (s.front ring = c) ∧ (s.taken ring = u) ∧ (c.num 16 2 = n) ∧ (c.byte 16 = b) ∧ (c.num 16 4 = e) ∧ (b ≤ 127 ∧ (s.port (b)).isTrunk = true) ∧ (1 ≤ c.byte 17 ∧ c.byte 17 ≤ (s.port (b)).entry.width.toNat ∧ c.byte 18 ≤ (s.trunk (b / 8)).entry.maxRate.toNat) ∧ ((s.trunk (b / 8)).state = .up) ∧ (s.passes 0x0423 ring = true) :=
  ⟨cmd ({ on .grow with ports := { port := [(120, { entry := { role := 3, width := 3 } })] }, trunks := { trunk := [(15, { state := .up })] } }) 0 (word 0x0423 3 0x000378), _, _, 0, _, _, _, rfl, rfl, rfl, rfl, rfl, by decide +kernel⟩
theorem witness_PortLaneAndTrunkCommandsComplete_21 : ∃ (s u : State) (c : Command) (ring n b e : Nat), (s.front ring = c) ∧ (s.taken ring = u) ∧ (c.num 16 2 = n) ∧ (c.byte 16 = b) ∧ (c.num 16 4 = e) ∧ (b ≤ 127 ∧ (s.port (b)).isTrunk = true) ∧ ((s.trunk (b / 8)).state = .up) ∧ (s.passes 0x0424 ring = true) :=
  ⟨cmd ({ on .grow with ports := { port := [(120, { entry := { role := 3, width := 3 } })] }, trunks := { trunk := [(15, { state := .up })] } }) 0 (word 0x0424 1 120), _, _, 0, _, _, _, rfl, rfl, rfl, rfl, rfl, by decide +kernel⟩
theorem witness_PortLaneAndTrunkCommandsComplete_22 : ∃ (s u : State) (c : Command) (ring n b e : Nat), (s.front ring = c) ∧ (s.taken ring = u) ∧ (c.num 16 2 = n) ∧ (c.byte 16 = b) ∧ (c.num 16 4 = e) ∧ (b ≤ 127 ∧ (u.port (b)).isTrunk = true) ∧ ((u.trunk (b / 8)).state = .broken ∨ (u.trunk (b / 8)).state = .down) ∧ (s.passes 0x0425 ring = true) :=
  ⟨cmd ({ on .grow with ports := { port := [(120, { entry := { role := 3, width := 3 } })] } }) 0 (word 0x0425 1 120), _, _, 0, _, _, _, rfl, rfl, rfl, rfl, rfl, by decide +kernel⟩
theorem witness_PortLaneAndTrunkCommandsComplete_23 : ∃ (s u : State) (c : Command) (ring n b e : Nat), (s.front ring = c) ∧ (s.taken ring = u) ∧ (c.num 16 2 = n) ∧ (c.byte 16 = b) ∧ (c.num 16 4 = e) ∧ (b ≤ 127 ∧ (u.port (b)).isTrunk = true) ∧ (((List.range 8).map (fun n => c.num (24 + 2 * n) 2)).sum ≤ 3584 ∧ c.num 26 2 = 0) ∧ (16 ≤ c.num 24 2 ∧ 16 ≤ c.num 28 2 ∧ 16 ≤ c.num 30 2 ∧ 16 ≤ c.num 32 2) ∧ (64 ≤ c.num 34 2 ∧ 64 ≤ c.num 36 2 ∧ 64 ≤ c.num 38 2) ∧ (s.passes 0x0426 ring = true) :=
  ⟨cmd ({ on .grow with ports := { port := [(120, { entry := { role := 3, width := 3 } })] } }) 0 (word 0x0426 24 (120 + 16 * 2^64 + 16 * 2^96 + 16 * 2^112 + 16 * 2^128 + 64 * 2^144 + 64 * 2^160 + 3328 * 2^176)), _, _, 0, _, _, _, rfl, rfl, rfl, rfl, rfl, by decide +kernel⟩
theorem witness_PortLaneAndTrunkCommandsComplete_24 : ∃ (s u : State) (c : Command) (ring n b e : Nat), (s.front ring = c) ∧ (s.taken ring = u) ∧ (c.num 16 2 = n) ∧ (c.byte 16 = b) ∧ (c.num 16 4 = e) ∧ (s.passes 0x0427 ring = true) :=
  ⟨cmd (on .grow) 0 (word 0x0427 24 (0x8001 + 0xCF * 2^184)), _, _, 0, _, _, _, rfl, rfl, rfl, rfl, rfl, by decide +kernel⟩
theorem witness_HomeVaultAndSliceCommandsComplete_1 : ∃ (s u : State) (c : Command) (ring n b e : Nat), (s.front ring = c) ∧ (s.taken ring = u) ∧ (c.num 16 2 = n) ∧ (c.byte 16 = b) ∧ (c.num 16 4 = e) ∧ (c.byte 17 ≤ 64) ∧ (s.passes 0x0501 ring = true) :=
  ⟨cmd (on .grow) 0 (word 0x0501 2 0x40FF), _, _, 0, _, _, _, rfl, rfl, rfl, rfl, rfl, by decide +kernel⟩
theorem witness_HomeVaultAndSliceCommandsComplete_2 : ∃ (s u : State) (c : Command) (ring n b e : Nat), (s.front ring = c) ∧ (s.taken ring = u) ∧ (c.num 16 2 = n) ∧ (c.byte 16 = b) ∧ (c.num 16 4 = e) ∧ (16 ≤ n ∧ n ≤ 4096) ∧ (s.passes 0x0502 ring = true) :=
  ⟨cmd (on .grow) 0 (word 0x0502 2 4096), _, _, 0, _, _, _, rfl, rfl, rfl, rfl, rfl, by decide +kernel⟩
theorem witness_HomeVaultAndSliceCommandsComplete_3 : ∃ (s u : State) (c : Command) (ring n b e : Nat), (s.front ring = c) ∧ (s.taken ring = u) ∧ (c.num 16 2 = n) ∧ (c.byte 16 = b) ∧ (c.num 16 4 = e) ∧ (1 ≤ c.num 18 2 ∧ c.num 18 2 < c.num 20 2 ∧ c.num 20 2 < c.num 22 2 ∧ c.num 22 2 ≤ 1024) ∧ (s.passes 0x0503 ring = true) :=
  ⟨cmd (on .grow) 0 (word 0x0503 8 (0xFF + 1 * 2^16 + 2 * 2^32 + 1024 * 2^48)), _, _, 0, _, _, _, rfl, rfl, rfl, rfl, rfl, by decide +kernel⟩
theorem witness_HomeVaultAndSliceCommandsComplete_4 : ∃ (s u : State) (c : Command) (ring n b e : Nat), (s.front ring = c) ∧ (s.taken ring = u) ∧ (c.num 16 2 = n) ∧ (c.byte 16 = b) ∧ (c.num 16 4 = e) ∧ (b ≤ 7 ∧ c.byte 20 ≤ 15) ∧ (s.passes 0x0504 ring = true) :=
  ⟨cmd (on .grow) 0 (word 0x0504 5 0x0FFFFF0007), _, _, 0, _, _, _, rfl, rfl, rfl, rfl, rfl, by decide +kernel⟩
theorem witness_HomeVaultAndSliceCommandsComplete_5 : ∃ (s u : State) (c : Command) (ring n b e : Nat), (s.front ring = c) ∧ (s.taken ring = u) ∧ (c.num 16 2 = n) ∧ (c.byte 16 = b) ∧ (c.num 16 4 = e) ∧ (n ≤ 4095 ∧ (u.bed (n)).state = .defined ∧ c.num 24 8 < (u.bed (n)).span.toNat * 2 ^ 28) ∧ ((u.slice (sliceOf (n) (c.num 24 8 / 64))).hit ((u.bed (n)).pl (c.num 24 8 / 64)) = none) ∧ (s.passes 0x0505 ring = true) :=
  ⟨cmd ({ on .grow with pool := { beds := [(4095, { state := .defined, span := 1 })] } }) 0 (word 0x0505 16 (4095 + (2^28 - 64) * 2^64)), _, _, 0, _, _, _, rfl, rfl, rfl, rfl, rfl, by decide +kernel⟩
theorem witness_HomeVaultAndSliceCommandsComplete_6 : ∃ (s u : State) (c : Command) (ring n b e : Nat), (s.front ring = c) ∧ (s.taken ring = u) ∧ (c.num 16 2 = n) ∧ (c.byte 16 = b) ∧ (c.num 16 4 = e) ∧ (b ≤ 7) ∧ (s.passes 0x0506 ring = true) :=
  ⟨cmd (on .grow) 0 (word 0x0506 1 7), _, _, 0, _, _, _, rfl, rfl, rfl, rfl, rfl, by decide +kernel⟩
theorem witness_HomeVaultAndSliceCommandsComplete_7 : ∃ (s u : State) (c : Command) (ring n b e : Nat), (s.front ring = c) ∧ (s.taken ring = u) ∧ (c.num 16 2 = n) ∧ (c.byte 16 = b) ∧ (c.num 16 4 = e) ∧ (n ≤ 4095 ∨ n = 0xFFFF) ∧ (s.passes 0x0601 ring = true) :=
  ⟨cmd (on .grow) 0 (word 0x0601 3 0x01FFFF), _, _, 0, _, _, _, rfl, rfl, rfl, rfl, rfl, by decide +kernel⟩
theorem witness_HomeVaultAndSliceCommandsComplete_8 : ∃ (s u : State) (c : Command) (ring n b e : Nat), (s.front ring = c) ∧ (s.taken ring = u) ∧ (c.num 16 2 = n) ∧ (c.byte 16 = b) ∧ (c.num 16 4 = e) ∧ (4 ≤ n ∧ n ≤ 256) ∧ (s.passes 0x0602 ring = true) :=
  ⟨cmd (on .grow) 0 (word 0x0602 2 256), _, _, 0, _, _, _, rfl, rfl, rfl, rfl, rfl, by decide +kernel⟩
theorem witness_HomeVaultAndSliceCommandsComplete_9 : ∃ (s u : State) (c : Command) (ring n b e : Nat), (s.front ring = c) ∧ (s.taken ring = u) ∧ (c.num 16 2 = n) ∧ (c.byte 16 = b) ∧ (c.num 16 4 = e) ∧ (1 ≤ c.byte 17 ∧ c.byte 17 ≤ 15 ∧ c.byte 18 < c.byte 17) ∧ (s.passes 0x0603 ring = true) :=
  ⟨cmd (on .grow) 0 (word 0x0603 3 0x0E0FFF), _, _, 0, _, _, _, rfl, rfl, rfl, rfl, rfl, by decide +kernel⟩
theorem witness_HomeVaultAndSliceCommandsComplete_10 : ∃ (s u : State) (c : Command) (ring n b e : Nat), (s.front ring = c) ∧ (s.taken ring = u) ∧ (c.num 16 2 = n) ∧ (c.byte 16 = b) ∧ (c.num 16 4 = e) ∧ (b ≤ 7) ∧ (s.passes 0x0604 ring = true) :=
  ⟨cmd (on .grow) 0 (word 0x0604 1 7), _, _, 0, _, _, _, rfl, rfl, rfl, rfl, rfl, by decide +kernel⟩
theorem witness_HomeVaultAndSliceCommandsComplete_11 : ∃ (s u : State) (c : Command) (ring n b e : Nat) (t : State), (s.front ring = c) ∧ (s.taken ring = u) ∧ (c.num 16 2 = n) ∧ (c.byte 16 = b) ∧ (c.num 16 4 = e) ∧ (b ≤ 7 ∧ c.num 18 2 ≤ 4095 ∧ c.byte 20 ≤ 15) ∧ (checkVaultSet (b) (c.num 18 2) u = t) ∧ (s.passes 0x0605 ring = true) :=
  ⟨(cmd (on .grow) 0 (word 0x0605 5 0x0F0FFF0007)), _, _, 0, _, _, _, checkVaultSet 7 4095 ((cmd (on .grow) 0 (word 0x0605 5 0x0F0FFF0007)).taken 0), rfl, rfl, rfl, rfl, rfl, by decide +kernel⟩
theorem witness_HomeVaultAndSliceCommandsComplete_12 : ∃ (s u : State) (c : Command) (ring n b e : Nat), (s.front ring = c) ∧ (s.taken ring = u) ∧ (c.num 16 2 = n) ∧ (c.byte 16 = b) ∧ (c.num 16 4 = e) ∧ (b ≤ 7 ∧ c.num 18 2 ≤ 4095) ∧ (s.passes 0x0606 ring = true) :=
  ⟨cmd (on .grow) 0 (word 0x0606 4 0x0FFF0007), _, _, 0, _, _, _, rfl, rfl, rfl, rfl, rfl, by decide +kernel⟩
theorem witness_HomeVaultAndSliceCommandsComplete_13 : ∃ (s u : State) (c : Command) (ring n b e : Nat), (s.front ring = c) ∧ (s.taken ring = u) ∧ (c.num 16 2 = n) ∧ (c.byte 16 = b) ∧ (c.num 16 4 = e) ∧ (n ≤ 511 ∧ c.byte 18 ≤ 63 ∧ c.num 20 4 < 2 ^ 20) ∧ ((u.plot c.plotField).state ≠ .free) ∧ ((u.bslice (n)).state = .unbound) ∧ (s.passes 0x0701 ring = true) :=
  ⟨cmd ({ on .grow with pool := { plots := [(511, { state := .configured })] } }) 0 (wordP 0x0701 511 8 (511 + 63 * 2^16 + 3 * 2^24 + 0xFFFFF * 2^32)), _, _, 0, _, _, _, rfl, rfl, rfl, rfl, rfl, by decide +kernel⟩
theorem witness_HomeVaultAndSliceCommandsComplete_14 : ∃ (s u : State) (c : Command) (ring n b e : Nat), (s.front ring = c) ∧ (s.taken ring = u) ∧ (c.num 16 2 = n) ∧ (c.byte 16 = b) ∧ (c.num 16 4 = e) ∧ (n ≤ 511) ∧ ((u.bslice (n)).state ≠ .unbound) ∧ (s.passes 0x0702 ring = true) :=
  ⟨cmd ({ on .grow with pool := { plots := [(0, { state := .active })] }, barrow := { slices := [(511, { state := .running })] } }) 0 (word 0x0702 2 511), _, _, 0, _, _, _, rfl, rfl, rfl, rfl, rfl, by decide +kernel⟩
theorem witness_HomeVaultAndSliceCommandsComplete_15 : ∃ (s u : State) (c : Command) (ring n b e : Nat), (s.front ring = c) ∧ (s.taken ring = u) ∧ (c.num 16 2 = n) ∧ (c.byte 16 = b) ∧ (c.num 16 4 = e) ∧ (n ≤ 511 ∧ c.badKey = false) ∧ ((u.bslice (n)).state ≠ .unbound ∧ (u.plot (u.bslice (n)).plot.toNat).port.toNat = c.byte 18) ∧ (u.pasidKey (c.byte 18) (decide (c.byte 19 % 2 = 1)) (c.num 20 4) = none) ∧ (u.barrow.pasids = []) ∧ (s.passes 0x0703 ring = true) :=
  ⟨cmd ({ on .grow with pool := { plots := [(0, { state := .active, port := 127 })] }, barrow := { slices := [(511, { state := .running })] } }) 0 (word 0x0703 8 (511 + 127 * 2^16 + 0xFFFFF * 2^32)), _, _, 0, _, _, _, rfl, rfl, rfl, rfl, rfl, by decide +kernel⟩
theorem witness_HomeVaultAndSliceCommandsComplete_16 : ∃ (s u : State) (c : Command) (ring n b e : Nat), (s.front ring = c) ∧ (s.taken ring = u) ∧ (c.num 16 2 = n) ∧ (c.byte 16 = b) ∧ (c.num 16 4 = e) ∧ (c.badKey = false) ∧ (u.pasidKey (c.byte 18) (decide (c.byte 19 % 2 = 1)) (c.num 20 4) = some 4095) ∧ (s.passes 0x0704 ring = true) :=
  ⟨cmd ({ on .grow with barrow := { pasids := [(4095, { valid := true, port := 127 })] } }) 0 (word 0x0704 8 (127 * 2^16)), _, _, 0, _, _, _, rfl, rfl, rfl, rfl, rfl, by decide +kernel⟩
theorem witness_HomeVaultAndSliceCommandsComplete_17 : ∃ (s u : State) (c : Command) (ring n b e : Nat), (s.front ring = c) ∧ (s.taken ring = u) ∧ (c.num 16 2 = n) ∧ (c.byte 16 = b) ∧ (c.num 16 4 = e) ∧ (n ≤ 511 ∧ c.byte 18 ≤ 1) ∧ ((u.bslice (n)).state = .running) ∧ (s.passes 0x0705 ring = true) :=
  ⟨cmd ({ on .grow with pool := { plots := [(0, { state := .active })] }, barrow := { slices := [(511, { state := .running })] } }) 0 (word 0x0705 3 (511 + 1 * 2^16)), _, _, 0, _, _, _, rfl, rfl, rfl, rfl, rfl, by decide +kernel⟩
theorem witness_HomeVaultAndSliceCommandsComplete_18 : ∃ (s u : State) (c : Command) (ring n b e : Nat), (s.front ring = c) ∧ (s.taken ring = u) ∧ (c.num 16 2 = n) ∧ (c.byte 16 = b) ∧ (c.num 16 4 = e) ∧ (n ≤ 511) ∧ ((u.bslice (n)).state = .frozen) ∧ (s.passes 0x0706 ring = true) :=
  ⟨cmd ({ on .grow with pool := { plots := [(0, { state := .active })] }, barrow := { slices := [(511, { state := .frozen })] } }) 0 (word 0x0706 2 511), _, _, 0, _, _, _, rfl, rfl, rfl, rfl, rfl, by decide +kernel⟩
theorem witness_HomeVaultAndSliceCommandsComplete_19 : ∃ (s u : State) (c : Command) (ring n b e : Nat), (s.front ring = c) ∧ (s.taken ring = u) ∧ (c.num 16 2 = n) ∧ (c.byte 16 = b) ∧ (c.num 16 4 = e) ∧ (n ≤ 511) ∧ ((u.bslice (n)).state ≠ .unbound) ∧ (s.passes 0x0707 ring = true) :=
  ⟨cmd ({ on .grow with pool := { plots := [(0, { state := .active })] }, barrow := { slices := [(511, { state := .freezing })] } }) 0 (word 0x0707 2 511), _, _, 0, _, _, _, rfl, rfl, rfl, rfl, rfl, by decide +kernel⟩
theorem witness_HomeVaultAndSliceCommandsComplete_20 : ∃ (s u : State) (c : Command) (ring n b e : Nat), (s.front ring = c) ∧ (s.taken ring = u) ∧ (c.num 16 2 = n) ∧ (c.byte 16 = b) ∧ (c.num 16 4 = e) ∧ (n ≤ 511) ∧ ((u.bslice (n)).state ≠ .unbound) ∧ (s.passes 0x0708 ring = true) :=
  ⟨cmd ({ on .grow with pool := { plots := [(0, { state := .active })] }, barrow := { slices := [(511, { state := .freezing, fault := true })] } }) 0 (word 0x0708 2 511), _, _, 0, _, _, _, rfl, rfl, rfl, rfl, rfl, by decide +kernel⟩
theorem witness_HomeVaultAndSliceCommandsComplete_21 : ∃ (s u : State) (c : Command) (ring n b e : Nat), (s.front ring = c) ∧ (s.taken ring = u) ∧ (c.num 16 2 = n) ∧ (c.byte 16 = b) ∧ (c.num 16 4 = e) ∧ (n ≤ 511 ∧ c.num 24 8 % 4096 = 0) ∧ ((u.bslice (n)).state = .frozen) ∧ ((u.bslice (n)).job = none) ∧ (s.passes 0x0709 ring = true) :=
  ⟨cmd ({ on .grow with pool := { plots := [(0, { state := .active })] }, barrow := { slices := [(511, { state := .frozen })] } }) 0 (word 0x0709 16 (511 + 1 * 2^16 + 4096 * 2^64)), _, _, 0, _, _, _, rfl, rfl, rfl, rfl, rfl, by decide +kernel⟩
theorem witness_HomeVaultAndSliceCommandsComplete_22 : ∃ (s u : State) (c : Command) (ring n b e : Nat), (s.front ring = c) ∧ (s.taken ring = u) ∧ (c.num 16 2 = n) ∧ (c.byte 16 = b) ∧ (c.num 16 4 = e) ∧ (n ≤ 511 ∧ c.num 24 8 % 4096 = 0) ∧ ((u.bslice (n)).state = .frozen) ∧ ((u.bslice (n)).job = none ∧ (u.bslice (n)).queue = []) ∧ (s.passes 0x070A ring = true) :=
  ⟨cmd ({ on .grow with pool := { plots := [(0, { state := .active })] }, barrow := { slices := [(511, { state := .frozen })] } }) 0 (word 0x070A 16 (511 + 4096 * 2^64)), _, _, 0, _, _, _, rfl, rfl, rfl, rfl, rfl, by decide +kernel⟩
theorem witness_HomeVaultAndSliceCommandsComplete_23 : ∃ (s u : State) (c : Command) (ring n b e : Nat), (s.front ring = c) ∧ (s.taken ring = u) ∧ (c.num 16 2 = n) ∧ (c.byte 16 = b) ∧ (c.num 16 4 = e) ∧ (n ≤ 511 ∧ (u.bslice (n)).state ≠ .unbound) ∧ (s.passes 0x070B ring = true) :=
  ⟨cmd ({ on .grow with pool := { plots := [(0, { state := .active })] }, barrow := { slices := [(511, { state := .frozen })] } }) 0 (word 0x070B 2 511), _, _, 0, _, _, _, rfl, rfl, rfl, rfl, rfl, by decide +kernel⟩
theorem witness_HomeVaultAndSliceCommandsComplete_24 : ∃ (s u : State) (c : Command) (ring n b e : Nat), (s.front ring = c) ∧ (s.taken ring = u) ∧ (c.num 16 2 = n) ∧ (c.byte 16 = b) ∧ (c.num 16 4 = e) ∧ (e < 2 ^ 20 ∧ c.num 20 4 < 2 ^ 20 ∧ (c.num 24 2 = 0 ∨ 64 ≤ c.num 24 2) ∧ c.num 24 2 ≤ 16384) ∧ (u.pool.migrations = []) ∧ ((u.extent (e)).state = .bound ∧ (u.extent (c.num 20 4)).state = .defined) ∧ (u.pool.beds.any (fun e => decide (e.2.state ≠ .free ∧ e.2.base.toNat ≤ c.num 20 4 ∧ c.num 20 4 < e.2.base.toNat + e.2.span.toNat)) = false) ∧ (s.passes 0x0710 ring = true) :=
  ⟨cmd ({ on .grow with pool := { extents := [(0, { state := .bound }), (1048575, { state := .defined })] } }) 0 (word 0x0710 10 (1048575 * 2^32 + 16384 * 2^64)), _, _, 0, _, _, _, rfl, rfl, rfl, rfl, rfl, by decide +kernel⟩
theorem witness_HomeVaultAndSliceCommandsComplete_25 : ∃ (s u : State) (c : Command) (ring n b e : Nat), (s.front ring = c) ∧ (s.taken ring = u) ∧ (c.num 16 2 = n) ∧ (c.byte 16 = b) ∧ (c.num 16 4 = e) ∧ (e < 2 ^ 20 ∧ (u.extent (e)).state = .migrating) ∧ (s.passes 0x0711 ring = true) :=
  ⟨cmd ({ on .grow with pool := { extents := [(1048575, { state := .migrating })] } }) 0 (word 0x0711 4 1048575), _, _, 0, _, _, _, rfl, rfl, rfl, rfl, rfl, by decide +kernel⟩
theorem witness_PairEventAndCounterCommandsComplete_1 : ∃ (s u : State) (c : Command) (ring n b e : Nat), (s.front ring = c) ∧ (s.taken ring = u) ∧ (c.num 16 2 = n) ∧ (c.byte 16 = b) ∧ (c.num 16 4 = e) ∧ (s.passes 0x0801 ring = true) :=
  ⟨cmd ({ on .grow with ports := { port := [(127, { entry := { role := 3, width := 1 } })] }, trunks := { trunk := [(15, { state := .up, peerSerial := 9, entry := { pair := true } })] } }) 0 (word 0x0801 8 (15 + 9 * 2^16)), _, _, 0, _, _, _, rfl, rfl, rfl, rfl, rfl, by decide +kernel⟩
theorem witness_PairEventAndCounterCommandsComplete_2 : ∃ (s u : State) (c : Command) (ring n b e : Nat), (s.front ring = c) ∧ (s.taken ring = u) ∧ (c.num 16 2 = n) ∧ (c.byte 16 = b) ∧ (c.num 16 4 = e) ∧ (s.passes 0x0802 ring = true) :=
  ⟨cmd ({ on .shadow with pair := { state := .waiting } }) 0 (word 0x0802 0 0), _, _, 0, _, _, _, rfl, rfl, rfl, rfl, rfl, by decide +kernel⟩
theorem witness_PairEventAndCounterCommandsComplete_3 : ∃ (s u : State) (c : Command) (ring n b e : Nat), (s.front ring = c) ∧ (s.taken ring = u) ∧ (c.num 16 2 = n) ∧ (c.byte 16 = b) ∧ (c.num 16 4 = e) ∧ (s.passes 0x0803 ring = true) :=
  ⟨cmd ({ on .grow with pair := { state := .active } }) 0 (word 0x0803 0 0), _, _, 0, _, _, _, rfl, rfl, rfl, rfl, rfl, by decide +kernel⟩
theorem witness_PairEventAndCounterCommandsComplete_4 : ∃ (s u : State) (c : Command) (ring n b e : Nat), (s.front ring = c) ∧ (s.taken ring = u) ∧ (c.num 16 2 = n) ∧ (c.byte 16 = b) ∧ (c.num 16 4 = e) ∧ (s.passes 0x0804 ring = true) :=
  ⟨cmd ({ on .shadow with pair := { state := .waiting } }) 0 (word 0x0804 0 0), _, _, 0, _, _, _, rfl, rfl, rfl, rfl, rfl, by decide +kernel⟩
theorem witness_PairEventAndCounterCommandsComplete_5 : ∃ (s u : State) (c : Command) (ring n b e : Nat), (s.front ring = c) ∧ (s.taken ring = u) ∧ (c.num 16 2 = n) ∧ (c.byte 16 = b) ∧ (c.num 16 4 = e) ∧ (u.pair.state = .shadow) ∧ (s.passes 0x0805 ring = true) :=
  ⟨cmd ({ on .shadow with pair := { state := .shadow } }) 13 (word 0x0805 0 0), _, _, 13, _, _, _, rfl, rfl, rfl, rfl, rfl, by decide +kernel⟩
theorem witness_PairEventAndCounterCommandsComplete_6 : ∃ (s u : State) (c : Command) (ring n b e : Nat), (s.front ring = c) ∧ (s.taken ring = u) ∧ (c.num 16 2 = n) ∧ (c.byte 16 = b) ∧ (c.num 16 4 = e) ∧ (b ≠ 0) ∧ (s.passes 0x0806 ring = true) :=
  ⟨cmd (on .grow) 0 (word 0x0806 1 255), _, _, 0, _, _, _, rfl, rfl, rfl, rfl, rfl, by decide +kernel⟩
theorem witness_PairEventAndCounterCommandsComplete_7 : ∃ (s u : State) (c : Command) (ring n b e : Nat), (s.front ring = c) ∧ (s.taken ring = u) ∧ (c.num 16 2 = n) ∧ (c.byte 16 = b) ∧ (c.num 16 4 = e) ∧ (s.passes 0x0807 ring = true) :=
  ⟨cmd ({ on .grow with pair := { state := .alone, recovery := true } }) 0 (word 0x0807 0 0), _, _, 0, _, _, _, rfl, rfl, rfl, rfl, rfl, by decide +kernel⟩
theorem witness_PairEventAndCounterCommandsComplete_8 : ∃ (s u : State) (c : Command) (ring n b e : Nat), (s.front ring = c) ∧ (s.taken ring = u) ∧ (c.num 16 2 = n) ∧ (c.byte 16 = b) ∧ (c.num 16 4 = e) ∧ (s.passes 0x0808 ring = true) :=
  ⟨cmd (on .grow) 0 (word 0x0808 0 0), _, _, 0, _, _, _, rfl, rfl, rfl, rfl, rfl, by decide +kernel⟩
theorem witness_PairEventAndCounterCommandsComplete_9 : ∃ (s u : State) (c : Command) (ring n b e : Nat), (s.front ring = c) ∧ (s.taken ring = u) ∧ (c.num 16 2 = n) ∧ (c.byte 16 = b) ∧ (c.num 16 4 = e) ∧ (1 ≤ n ∧ n ≤ 2047) ∧ (s.passes 0x0901 ring = true) :=
  ⟨cmd (on .grow) 0 (word 0x0901 16 (2047 + 0x0F33 * 2^32 + 4 * 2^64)), _, _, 0, _, _, _, rfl, rfl, rfl, rfl, rfl, by decide +kernel⟩
theorem witness_PairEventAndCounterCommandsComplete_10 : ∃ (s u : State) (c : Command) (ring n b e : Nat), (s.front ring = c) ∧ (s.taken ring = u) ∧ (c.num 16 2 = n) ∧ (c.byte 16 = b) ∧ (c.num 16 4 = e) ∧ (n ≤ 2047) ∧ (s.passes 0x0902 ring = true) :=
  ⟨cmd (on .grow) 0 (word 0x0902 2 2047), _, _, 0, _, _, _, rfl, rfl, rfl, rfl, rfl, by decide +kernel⟩
theorem witness_PairEventAndCounterCommandsComplete_11 : ∃ (s u : State) (c : Command) (ring n b e : Nat), (s.front ring = c) ∧ (s.taken ring = u) ∧ (c.num 16 2 = n) ∧ (c.byte 16 = b) ∧ (c.num 16 4 = e) ∧ (n ≤ 511) ∧ (s.passes 0x0903 ring = true) :=
  ⟨cmd (on .grow) 0 (word 0x0903 2 511), _, _, 0, _, _, _, rfl, rfl, rfl, rfl, rfl, by decide +kernel⟩
theorem witness_PairEventAndCounterCommandsComplete_12 : ∃ (s u : State) (c : Command) (ring n b e : Nat), (s.front ring = c) ∧ (s.taken ring = u) ∧ (c.num 16 2 = n) ∧ (c.byte 16 = b) ∧ (c.num 16 4 = e) ∧ (b ≤ 26 ∧ c.byte 17 ≤ 7) ∧ (selectValid (b) (BitVec.ofNat 16 (c.num 18 2)) = true) ∧ (s.passes 0x0A01 ring = true) :=
  ⟨cmd (on .grow) 0 (word 0x0A01 4 0xF7FF071A), _, _, 0, _, _, _, rfl, rfl, rfl, rfl, rfl, by decide +kernel⟩
theorem witness_PairEventAndCounterCommandsComplete_13 : ∃ (s u : State) (c : Command) (ring n b e : Nat), (s.front ring = c) ∧ (s.taken ring = u) ∧ (c.num 16 2 = n) ∧ (c.byte 16 = b) ∧ (c.num 16 4 = e) ∧ (s.passes 0x0A02 ring = true) :=
  ⟨cmd (on .grow) 0 (word 0x0A02 0 0), _, _, 0, _, _, _, rfl, rfl, rfl, rfl, rfl, by decide +kernel⟩
theorem witness_PairEventAndCounterCommandsComplete_14 : ∃ (s u : State) (c : Command) (ring n b e : Nat), (s.front ring = c) ∧ (s.taken ring = u) ∧ (c.num 16 2 = n) ∧ (c.byte 16 = b) ∧ (c.num 16 4 = e) ∧ (b ≤ 26) ∧ (s.passes 0x0A03 ring = true) :=
  ⟨cmd (on .grow) 0 (word 0x0A03 2 0x011A), _, _, 0, _, _, _, rfl, rfl, rfl, rfl, rfl, by decide +kernel⟩
theorem witness_PairEventAndCounterCommandsComplete_15 : ∃ (s u : State) (c : Command) (ring n b e : Nat), (s.front ring = c) ∧ (s.taken ring = u) ∧ (c.num 16 2 = n) ∧ (c.byte 16 = b) ∧ (c.num 16 4 = e) ∧ (b = 1 ∧ c.byte 17 = 1 ∧ c.num 18 2 ≤ 127) ∧ (s.passes 0x0A04 ring = true) :=
  ⟨cmd (on .grow) 0 (word 0x0A04 4 0x007F0101), _, _, 0, _, _, _, rfl, rfl, rfl, rfl, rfl, by decide +kernel⟩
theorem witness_SlotWearProposalAndTimeCommandsComplete_1 : ∃ (s u : State) (c : Command) (ring n b e : Nat), (s.front ring = c) ∧ (s.taken ring = u) ∧ (c.num 16 2 = n) ∧ (c.byte 16 = b) ∧ (c.num 16 4 = e) ∧ (u.power.link = true ∧ b ≤ 47) ∧ (c.byte 17 ≤ 7 ∧ 1 ≤ c.byte 18 ∧ c.byte 18 ≤ 16 ∧ 10 ≤ c.num 20 2 ∧ c.num 20 2 ≤ 500) ∧ (1 ≤ c.byte 22 ∧ c.byte 22 ≤ 128 ∧ 1 ≤ c.byte 23 ∧ c.byte 23 ≤ 100 ∧ 1 ≤ c.num 24 2 ∧ c.num 24 2 ≤ 100) ∧ ((u.chCopy (b)).powered = false) ∧ (s.passes 0x0B01 ring = true) :=
  ⟨cmd ({ on .grow with power := { link := true } }) 0 (word 0x0B01 10 (47 + 7 * 2^8 + 16 * 2^16 + 500 * 2^32 + 128 * 2^48 + 100 * 2^56 + 100 * 2^64)), _, _, 0, _, _, _, rfl, rfl, rfl, rfl, rfl, by decide +kernel⟩
theorem witness_SlotWearProposalAndTimeCommandsComplete_2 : ∃ (s u : State) (c : Command) (ring n b e : Nat), (s.front ring = c) ∧ (s.taken ring = u) ∧ (c.num 16 2 = n) ∧ (c.byte 16 = b) ∧ (c.num 16 4 = e) ∧ (s.power.link = true ∧ b ≤ 47) ∧ ((s.channel (b)).prsnt = true ∧ (s.chCopy (b)).code = 8) ∧ (s.passes 0x0B02 ring = true) :=
  ⟨cmd ({ on .grow with power := { link := true, channels := [(47, { prsnt := true })], copies := [(47, { stateReg := 0x800000 })] } }) 0 (word 0x0B02 1 47), _, _, 0, _, _, _, rfl, rfl, rfl, rfl, rfl, by decide +kernel⟩
theorem witness_SlotWearProposalAndTimeCommandsComplete_3 : ∃ (s u : State) (c : Command) (ring n b e : Nat), (s.front ring = c) ∧ (s.taken ring = u) ∧ (c.num 16 2 = n) ∧ (c.byte 16 = b) ∧ (c.num 16 4 = e) ∧ (u.power.link = true ∧ b ≤ 47) ∧ (u.slotBusy (b) = false ∧ u.hasJob (fun k => decide (k = .slotOn (b))) = false) ∧ (s.passes 0x0B03 ring = true) :=
  ⟨cmd ({ on .grow with power := { link := true } }) 0 (word 0x0B03 1 47), _, _, 0, _, _, _, rfl, rfl, rfl, rfl, rfl, by decide +kernel⟩
theorem witness_SlotWearProposalAndTimeCommandsComplete_4 : ∃ (s u : State) (c : Command) (ring n b e : Nat), (s.front ring = c) ∧ (s.taken ring = u) ∧ (c.num 16 2 = n) ∧ (c.byte 16 = b) ∧ (c.num 16 4 = e) ∧ (u.power.link = true ∧ b ≤ 47) ∧ (s.passes 0x0B04 ring = true) :=
  ⟨cmd ({ on .grow with power := { link := true } }) 0 (word 0x0B04 1 47), _, _, 0, _, _, _, rfl, rfl, rfl, rfl, rfl, by decide +kernel⟩
theorem witness_SlotWearProposalAndTimeCommandsComplete_5 : ∃ (s u : State) (c : Command) (ring n b e : Nat), (s.front ring = c) ∧ (s.taken ring = u) ∧ (c.num 16 2 = n) ∧ (c.byte 16 = b) ∧ (c.num 16 4 = e) ∧ (u.power.link = true ∧ b ≤ 47) ∧ (s.passes 0x0B05 ring = true) :=
  ⟨cmd ({ on .grow with power := { link := true } }) 0 (word 0x0B05 1 47), _, _, 0, _, _, _, rfl, rfl, rfl, rfl, rfl, by decide +kernel⟩
theorem witness_SlotWearProposalAndTimeCommandsComplete_6 : ∃ (s u : State) (c : Command) (ring n b e : Nat), (s.front ring = c) ∧ (s.taken ring = u) ∧ (c.num 16 2 = n) ∧ (c.byte 16 = b) ∧ (c.num 16 4 = e) ∧ (b ≤ 47) ∧ (s.passes 0x0B06 ring = true) :=
  ⟨cmd (on .grow) 0 (word 0x0B06 1 47), _, _, 0, _, _, _, rfl, rfl, rfl, rfl, rfl, by decide +kernel⟩
theorem witness_SlotWearProposalAndTimeCommandsComplete_7 : ∃ (s u : State) (c : Command) (ring n b e : Nat), (s.front ring = c) ∧ (s.taken ring = u) ∧ (c.num 16 2 = n) ∧ (c.byte 16 = b) ∧ (c.num 16 4 = e) ∧ (u.power.link = true ∧ b ≤ 1) ∧ (900 ≤ c.num 18 2 ∧ c.num 18 2 ≤ 1400) ∧ ((b = 0 → 2 ≤ c.byte 20 ∧ c.byte 20 ≤ 50)) ∧ ((b = 1 → c.byte 20 = 0)) ∧ (s.passes 0x0B07 ring = true) :=
  ⟨cmd ({ on .grow with power := { link := true } }) 0 (word 0x0B07 5 (1400 * 2^16 + 50 * 2^32)), _, _, 0, _, _, _, rfl, rfl, rfl, rfl, rfl, by decide +kernel⟩
theorem witness_SlotWearProposalAndTimeCommandsComplete_8 : ∃ (s u : State) (c : Command) (ring n b e : Nat), (s.front ring = c) ∧ (s.taken ring = u) ∧ (c.num 16 2 = n) ∧ (c.byte 16 = b) ∧ (c.num 16 4 = e) ∧ (s.passes 0x0B08 ring = true) :=
  ⟨cmd (on .grow) 0 (word 0x0B08 0 0), _, _, 0, _, _, _, rfl, rfl, rfl, rfl, rfl, by decide +kernel⟩
theorem witness_SlotWearProposalAndTimeCommandsComplete_9 : ∃ (s u : State) (c : Command) (ring n b e : Nat), (s.front ring = c) ∧ (s.taken ring = u) ∧ (c.num 16 2 = n) ∧ (c.byte 16 = b) ∧ (c.num 16 4 = e) ∧ (b ≠ 0x0A ∧ c.num 18 2 < monitorInstances (b)) ∧ (s.passes 0x0C01 ring = true) :=
  ⟨cmd (on .grow) 0 (word 0x0C01 4 0x00FF0001), _, _, 0, _, _, _, rfl, rfl, rfl, rfl, rfl, by decide +kernel⟩
theorem witness_SlotWearProposalAndTimeCommandsComplete_10 : ∃ (s u : State) (c : Command) (ring n b e : Nat), (s.front ring = c) ∧ (s.taken ring = u) ∧ (c.num 16 2 = n) ∧ (c.byte 16 = b) ∧ (c.num 16 4 = e) ∧ (s.passes 0x0C02 ring = true) :=
  ⟨cmd (on .grow) 0 (word 0x0C02 0 0), _, _, 0, _, _, _, rfl, rfl, rfl, rfl, rfl, by decide +kernel⟩
theorem witness_SlotWearProposalAndTimeCommandsComplete_11 : ∃ (s u : State) (c : Command) (ring n b e : Nat), (s.front ring = c) ∧ (s.taken ring = u) ∧ (c.num 16 2 = n) ∧ (c.byte 16 = b) ∧ (c.num 16 4 = e) ∧ (n ≤ 4095 ∧ 1 ≤ c.num 18 2 ∧ c.num 18 2 ≤ 64) ∧ (s.passes 0x0C03 ring = true) :=
  ⟨cmd (on .grow) 0 (word 0x0C03 4 0x00400FFF), _, _, 0, _, _, _, rfl, rfl, rfl, rfl, rfl, by decide +kernel⟩
theorem witness_SlotWearProposalAndTimeCommandsComplete_12 : ∃ (s u : State) (c : Command) (ring n b e : Nat), (s.front ring = c) ∧ (s.taken ring = u) ∧ (c.num 16 2 = n) ∧ (c.byte 16 = b) ∧ (c.num 16 4 = e) ∧ (s.passes 0x0C04 ring = true) :=
  ⟨cmd (on .grow) 0 (word 0x0C04 0 0), _, _, 0, _, _, _, rfl, rfl, rfl, rfl, rfl, by decide +kernel⟩
theorem witness_SlotWearProposalAndTimeCommandsComplete_13 : ∃ (s u : State) (c : Command) (ring n b e : Nat), (s.front ring = c) ∧ (s.taken ring = u) ∧ (c.num 16 2 = n) ∧ (c.byte 16 = b) ∧ (c.num 16 4 = e) ∧ (s.passes 0x0C05 ring = true) :=
  ⟨cmd (on .probe) 0 (word 0x0C05 1 7), _, _, 0, _, _, _, rfl, rfl, rfl, rfl, rfl, by decide +kernel⟩
theorem witness_SlotWearProposalAndTimeCommandsComplete_14 : ∃ (s u : State) (c : Command) (ring n b e : Nat), (s.front ring = c) ∧ (s.taken ring = u) ∧ (c.num 16 2 = n) ∧ (c.byte 16 = b) ∧ (c.num 16 4 = e) ∧ (b ≤ 1) ∧ (s.passes 0x0C06 ring = true) :=
  ⟨cmd (on .probe) 0 (word 0x0C06 1 1), _, _, 0, _, _, _, rfl, rfl, rfl, rfl, rfl, by decide +kernel⟩
theorem witness_SlotWearProposalAndTimeCommandsComplete_15 : ∃ (s u : State) (c : Command) (ring n b e : Nat) (p : Proposal), (s.front ring = c) ∧ (s.taken ring = u) ∧ (c.num 16 2 = n) ∧ (c.byte 16 = b) ∧ (c.num 16 4 = e) ∧ (s.proposal (BitVec.ofNat 16 (n)) = some p) ∧ (p.signer = none) ∧ (authorityOf ring ≠ p.authority.toNat ∧ authorityOf ring ≠ 3) ∧ (c.num 24 32 = p.digest.toNat) ∧ (s.passes 0x0D01 ring = true) :=
  ⟨cmd ({ on .grow with teller := { proposals := [{ number := 0xFFFE, digest := 5, authority := 1 }] } }) 0 (word 0x0D01 40 (0xFFFE + 5 * 2^64)), _, _, 0, _, _, _, { number := 0xFFFE, digest := 5, authority := 1 }, rfl, rfl, rfl, rfl, rfl, by decide +kernel⟩
theorem witness_SlotWearProposalAndTimeCommandsComplete_16 : ∃ (s u : State) (c : Command) (ring n b e : Nat) (p : Proposal), (s.front ring = c) ∧ (s.taken ring = u) ∧ (c.num 16 2 = n) ∧ (c.byte 16 = b) ∧ (c.num 16 4 = e) ∧ (u.proposal (BitVec.ofNat 16 (n)) = some p) ∧ (p.signer = none) ∧ (s.passes 0x0D02 ring = true) :=
  ⟨cmd ({ on .grow with teller := { proposals := [{ number := 0xFFFE, digest := 5, authority := 1 }] } }) 0 (word 0x0D02 2 0xFFFE), _, _, 0, _, _, _, { number := 0xFFFE, digest := 5, authority := 1 }, rfl, rfl, rfl, rfl, rfl, by decide +kernel⟩
theorem witness_SlotWearProposalAndTimeCommandsComplete_17 : ∃ (s u : State) (c : Command) (ring n b e : Nat), (s.front ring = c) ∧ (s.taken ring = u) ∧ (c.num 16 2 = n) ∧ (c.byte 16 = b) ∧ (c.num 16 4 = e) ∧ (s.passes 0x0D03 ring = true) :=
  ⟨cmd (on .grow) 0 (word 0x0D03 0 0), _, _, 0, _, _, _, rfl, rfl, rfl, rfl, rfl, by decide +kernel⟩
theorem witness_SlotWearProposalAndTimeCommandsComplete_18 : ∃ (s u : State) (c : Command) (ring n b e : Nat), (s.front ring = c) ∧ (s.taken ring = u) ∧ (c.num 16 2 = n) ∧ (c.byte 16 = b) ∧ (c.num 16 4 = e) ∧ (s.passes 0x0D04 ring = true) :=
  ⟨cmd (on .grow) 0 (word 0x0D04 4 58593750), _, _, 0, _, _, _, rfl, rfl, rfl, rfl, rfl, by decide +kernel⟩
theorem witness_SlotWearProposalAndTimeCommandsComplete_19 : ∃ (s u : State) (c : Command) (ring n b e : Nat), (s.front ring = c) ∧ (s.taken ring = u) ∧ (c.num 16 2 = n) ∧ (c.byte 16 = b) ∧ (c.num 16 4 = e) ∧ (s.passes 0x0D05 ring = true) :=
  ⟨cmd (on .grow) 0 (word 0x0D05 14 (7 + 3 * 2^96)), _, _, 0, _, _, _, rfl, rfl, rfl, rfl, rfl, by decide +kernel⟩
theorem witness_SlotWearProposalAndTimeCommandsComplete_20 : ∃ (s u : State) (c : Command) (ring n b e : Nat), (s.front ring = c) ∧ (s.taken ring = u) ∧ (c.num 16 2 = n) ∧ (c.byte 16 = b) ∧ (c.num 16 4 = e) ∧ (u.dev.mode ≠ .shadow ∧ u.time.sync = .free) ∧ (c.num 16 8 % 1024 = 0 ∧ u.epochBase.toNat ≤ c.num 16 8 ∧ c.num 16 8 < 2 ^ 64) ∧ (s.passes 0x0E01 ring = true) :=
  ⟨cmd (on .fallow) 0 (word 0x0E01 8 0xFFFFFFFFFFFFFC00), _, _, 0, _, _, _, rfl, rfl, rfl, rfl, rfl, by decide +kernel⟩
theorem witness_SlotWearProposalAndTimeCommandsComplete_21 : ∃ (s u : State) (c : Command) (ring n b e : Nat), (s.front ring = c) ∧ (s.taken ring = u) ∧ (c.num 16 2 = n) ∧ (c.byte 16 = b) ∧ (c.num 16 4 = e) ∧ (10 ≤ b ∧ b ≤ 24) ∧ (s.time.newK = none) ∧ (s.passes 0x0E02 ring = true) :=
  ⟨cmd (on .grow) 0 (word 0x0E02 1 24), _, _, 0, _, _, _, rfl, rfl, rfl, rfl, rfl, by decide +kernel⟩
theorem witness_SlotWearProposalAndTimeCommandsComplete_22 : ∃ (s u : State) (c : Command) (ring n b e : Nat), (s.front ring = c) ∧ (s.taken ring = u) ∧ (c.num 16 2 = n) ∧ (c.byte 16 = b) ∧ (c.num 16 4 = e) ∧ (b ≤ 15) ∧ (s.passes 0x0E03 ring = true) :=
  ⟨cmd (on .grow) 0 (word 0x0E03 1 15), _, _, 0, _, _, _, rfl, rfl, rfl, rfl, rfl, by decide +kernel⟩
theorem witness_SlotWearProposalAndTimeCommandsComplete_23 : ∃ (s u : State) (c : Command) (ring n b e : Nat), (s.front ring = c) ∧ (s.taken ring = u) ∧ (c.num 16 2 = n) ∧ (c.byte 16 = b) ∧ (c.num 16 4 = e) ∧ (s.passes 0x0E04 ring = true) :=
  ⟨cmd (on .grow) 0 (word 0x0E04 0 0), _, _, 0, _, _, _, rfl, rfl, rfl, rfl, rfl, by decide +kernel⟩
theorem witness_SlotWearProposalAndTimeCommandsComplete_24 : ∃ (s u : State) (c : Command) (ring n b e : Nat), (s.front ring = c) ∧ (s.taken ring = u) ∧ (c.num 16 2 = n) ∧ (c.byte 16 = b) ∧ (c.num 16 4 = e) ∧ (b ≤ 15) ∧ (pointValid (c.byte 17) = true) ∧ (s.passes 0x0E05 ring = true) :=
  ⟨cmd (on .grow) 0 (word 0x0E05 48 0x01310F), _, _, 0, _, _, _, rfl, rfl, rfl, rfl, rfl, by decide +kernel⟩
theorem witness_SlotWearProposalAndTimeCommandsComplete_25 : ∃ (s u : State) (c : Command) (ring n b e : Nat), (s.front ring = c) ∧ (s.taken ring = u) ∧ (c.num 16 2 = n) ∧ (c.byte 16 = b) ∧ (c.num 16 4 = e) ∧ (u.ctr.capturing = false) ∧ (s.passes 0x0E06 ring = true) :=
  ⟨cmd (on .grow) 0 (word 0x0E06 1 1), _, _, 0, _, _, _, rfl, rfl, rfl, rfl, rfl, by decide +kernel⟩
theorem witness_SlotWearProposalAndTimeCommandsComplete_26 : ∃ (s u : State) (c : Command) (ring n b e : Nat), (s.front ring = c) ∧ (s.taken ring = u) ∧ (c.num 16 2 = n) ∧ (c.byte 16 = b) ∧ (c.num 16 4 = e) ∧ (s.passes 0x0E07 ring = true) :=
  ⟨cmd ({ on .grow with ctr := { capturing := true } }) 0 (word 0x0E07 0 0), _, _, 0, _, _, _, rfl, rfl, rfl, rfl, rfl, by decide +kernel⟩
theorem witness_SlotWearProposalAndTimeCommandsComplete_27 : ∃ (s u : State) (c : Command) (ring n b e : Nat), (s.front ring = c) ∧ (s.taken ring = u) ∧ (c.num 16 2 = n) ∧ (c.byte 16 = b) ∧ (c.num 16 4 = e) ∧ (e ≤ 262143 ∧ 1 ≤ c.num 20 2 ∧ c.num 20 2 ≤ 128) ∧ (u.ctr.traceOpen = false) ∧ (s.passes 0x0E08 ring = true) :=
  ⟨cmd (on .grow) 0 (word 0x0E08 6 (262143 + 128 * 2^32)), _, _, 0, _, _, _, rfl, rfl, rfl, rfl, rfl, by decide +kernel⟩
theorem witness_BoundaryRowsComplete_1 : ∃ (s : State) (agent : Nat), (s.fabricOn = true) ∧ (s.time.running = true) ∧ (agent < 64) ∧ ((s.nextTick.agent agent).lossDue = true) :=
  ⟨{ on .grow with pool := { agents := [(63, { valid := true, lost := true, lossDue := true })] } }, 63, by decide +kernel⟩
theorem witness_BoundaryRowsComplete_2 : ∃ (s : State) , (s.fabricOn = true) ∧ (s.time.running = true) ∧ (s.nextTick.pool.retireDue = true ∧ s.nextTick.pool.retireScan = false ∧ s.nextTick.passIds.isEmpty = false) :=
  ⟨{ on .grow with pool := { retireDue := true, agents := [(63, { valid := true, retiring := true })] } }, by decide +kernel⟩
theorem witness_BoundaryRowsComplete_3 : ∃ (s : State) , (s.fabricOn = true) ∧ (s.time.running = true) ∧ (s.nextTick.pool.retireScan = true ∧ s.nextTick.pool.retireStart + 512 ≤ s.nextTick.tick) :=
  ⟨{ on .grow with pool := { retireScan := true }, time := { running := true, ticks := 511 } }, by decide +kernel⟩
theorem witness_BoundaryRowsComplete_4 : ∃ (s : State) (slice pos : Nat), (s.fabricOn = true) ∧ (s.time.running = true) ∧ (slice < 8 ∧ pos < 512) ∧ (((s.nextTick.slice slice).wbLine pos).state = .failed ∧ ((s.nextTick.slice slice).wbLine pos).attempts < 4 ∧ ((s.nextTick.slice slice).wbLine pos).since < s.nextTick.tick) :=
  ⟨{ on .grow with home := { slices := [(7, { wb := [(511, { state := .failed, attempts := 3 })] })] } }, 7, 511, by decide +kernel⟩
theorem witness_BoundaryRowsComplete_5 : ∃ (s : State) (slice pos : Nat), (s.fabricOn = true) ∧ (s.time.running = true) ∧ (slice < 8 ∧ pos < 512) ∧ (((s.nextTick.slice slice).wbLine pos).state = .failed ∧ 4 ≤ ((s.nextTick.slice slice).wbLine pos).attempts ∧ ((s.nextTick.slice slice).wbLine pos).since < s.nextTick.tick) :=
  ⟨{ on .grow with home := { slices := [(7, { wb := [(511, { state := .failed, attempts := 4 })] })] } }, 7, 511, by decide +kernel⟩
theorem witness_BoundaryRowsComplete_6 : ∃ (s : State) (port : Nat), (s.fabricOn = true) ∧ (s.time.running = true) ∧ (port < 128) ∧ ((s.nextTick.port port).scanDue = true) :=
  ⟨{ on .grow with ports := { port := [(127, { scanDue := true })] } }, 127, by decide +kernel⟩
theorem witness_BoundaryRowsComplete_7 : ∃ (s : State) (bed : Nat), (s.fabricOn = true) ∧ (s.time.running = true) ∧ (bed < 4096) ∧ (s.nextTick.serving = true ∧ s.nextTick.shrinkLate bed = true) :=
  ⟨{ on .grow with pool := { beds := [(4095, { state := .defined, resize := some { grow := false, sets := 1, deadline := 1, waiting := [0] } })] } }, 4095, by decide +kernel⟩
theorem witness_BoundaryRowsComplete_8 : ∃ (s : State) (bed : Nat), (s.fabricOn = true) ∧ (s.time.running = true) ∧ (bed < 4096) ∧ (s.nextTick.serving = true ∧ s.nextTick.resizeReady bed = true) :=
  ⟨{ on .grow with pool := { beds := [(4095, { state := .defined, span := 4, resize := some { grow := true, sets := 2 } })] } }, 4095, by decide +kernel⟩
theorem witness_BoundaryRowsComplete_9 : ∃ (s : State) (plot : Nat), (s.fabricOn = true) ∧ (s.time.running = true) ∧ (plot < 512) ∧ (s.nextTick.serving = true ∧ (s.nextTick.drained plot || s.nextTick.drainDue plot) = true) :=
  ⟨{ on .grow with pool := { plots := [(511, { state := .draining, drain := some { step := 3 } })] } }, 511, by decide +kernel⟩
theorem witness_BoundaryRowsComplete_10 : ∃ (s : State) (plot : Nat), (s.fabricOn = true) ∧ (s.time.running = true) ∧ (plot < 512) ∧ (s.nextTick.serving = true ∧ s.nextTick.drainLate plot = true) :=
  ⟨{ on .grow with pool := { plots := [(511, { state := .draining, drain := some { step := 1 } })] }, time := { running := true, ticks := 4095 } }, 511, by decide +kernel⟩
theorem witness_BoundaryRowsComplete_11 : ∃ (s : State) (plot : Nat), (s.fabricOn = true) ∧ (s.time.running = true) ∧ (plot < 512) ∧ (s.nextTick.serving = true ∧ (s.nextTick.plot plot).state = .sanitizing ∧ s.nextTick.sanitizing plot = false) :=
  ⟨{ on .grow with pool := { plots := [(511, { state := .sanitizing })] } }, 511, by decide +kernel⟩
theorem witness_BoundaryRowsComplete_12 : ∃ (s : State) (plot : Nat), (s.fabricOn = true) ∧ (s.time.running = true) ∧ (plot < 512) ∧ (s.nextTick.serving = true ∧ s.nextTick.queuedReady plot = true) :=
  ⟨{ on .grow with pool := { plots := [(511, { state := .configured, queued := .enable })] } }, 511, by decide +kernel⟩
theorem witness_BoundaryRowsComplete_13 : ∃ (s : State) (extent : Nat), (s.fabricOn = true) ∧ (s.time.running = true) ∧ (extent < 1048576) ∧ (s.nextTick.serving = true ∧ s.nextTick.flipReady extent = true) :=
  ⟨{ on .grow with pool := { migrations := [(1048575, { flipDue := true })] } }, 1048575, by decide +kernel⟩
theorem witness_BoundaryRowsComplete_14 : ∃ (s : State) (slice : Nat), (s.fabricOn = true) ∧ (s.time.running = true) ∧ (slice < 512) ∧ ((s.nextTick.bslice slice).frozenNow = true) :=
  ⟨{ on .grow with barrow := { slices := [(511, { state := .freezing })] } }, 511, by decide +kernel⟩
theorem witness_BoundaryRowsComplete_15 : ∃ (s : State) , (s.fabricOn = true) ∧ (s.time.running = true) ∧ (s.nextTick.pair.state = .shadow ∧ s.nextTick.promotionDue = true) :=
  ⟨{ on .shadow with pair := { state := .shadow, promoteLatch := true }, trunks := { trunk := [(0, { state := .broken })] } }, by decide +kernel⟩
theorem witness_BoundaryRowsComplete_16 : ∃ (s : State) , (s.fabricOn = true) ∧ (s.time.running = true) ∧ (s.nextTick.pair.switching.isSome = true ∧ s.nextTick.pair.state = .active ∧ s.nextTick.quiesced = true) :=
  ⟨{ on .grow with pair := { state := .active, switching := some 0 } }, by decide +kernel⟩
theorem witness_BoundaryRowsComplete_17 : ∃ (s : State) , (s.fabricOn = true) ∧ (s.time.running = true) ∧ (s.nextTick.pair.switching.any (fun b => decide (b + 4096 ≤ s.nextTick.tick)) = true) :=
  ⟨{ on .grow with pair := { state := .active, switching := some 0 }, time := { running := true, ticks := 4095 } }, by decide +kernel⟩
theorem witness_BoundaryRowsComplete_18 : ∃ (s : State) , (s.fabricOn = true) ∧ (s.time.running = true) ∧ (s.nextTick.pair.forming.any (fun b => decide (b + 64 ≤ s.nextTick.tick)) = true) :=
  ⟨{ on .grow with pair := { forming := some 0 }, time := { running := true, ticks := 63 } }, by decide +kernel⟩
theorem witness_BoundaryRowsComplete_19 : ∃ (s : State) (station : Nat), (s.fabricOn = true) ∧ (s.time.running = true) ∧ (station < 16) ∧ (s.nextTick.pauseDue station = true) :=
  ⟨{ on .grow with trunks := { trunk := [(15, { state := .up, pauseTick := some 1 })] } }, 15, by decide +kernel⟩
theorem witness_BoundaryRowsComplete_20 : ∃ (s : State) , (s.fabricOn = true) ∧ (s.time.running = true) ∧ (s.nextTick.dev.mode = .sprout ∧ s.nextTick.dev.deadlineDone = false ∧ s.nextTick.deadlinePassed = true) :=
  ⟨{ on .sprout with time := { running := true, ticks := 976562 } }, by decide +kernel⟩
theorem witness_BoundaryRowsComplete_21 : ∃ (s : State) , (s.fabricOn = true) ∧ (s.time.running = true) ∧ (State.fallowOver s.nextTick = true) :=
  ⟨{ on .grow with dev := { mode := .grow, inReset := false, fallow := [{ step := 2, job := 1 }] }, home := { flushes := [(1, { scanned := 4096 })] } }, by decide +kernel⟩
theorem witness_BoundaryRowsComplete_22 : ∃ (s : State) , (s.fabricOn = true) ∧ (s.time.running = true) ∧ (State.fallowLate s.nextTick = true) :=
  ⟨{ on .grow with dev := { mode := .grow, inReset := false, transition := some { target := .fallow, entered := true } }, time := { running := true, ticks := 65535 } }, by decide +kernel⟩
theorem witness_BoundaryRowsComplete_23 : ∃ (s : State) , (s.fabricOn = true) ∧ (s.time.running = true) ∧ ((s.nextTick.dev.dormantDue = true ∨ (s.nextTick.dormantWaits = true ∧ s.nextTick.evcQuiet = true))) :=
  ⟨{ on .grow with dev := { mode := .grow, inReset := false, dormantDue := true } }, by decide +kernel⟩
theorem witness_BoundaryRowsComplete_24 : ∃ (s : State) , (s.fabricOn = true) ∧ (s.time.running = true) ∧ ((s.nextTick.dev.resetDue = some .warm ∨ s.nextTick.dev.resetDue = some .fabric)) :=
  ⟨{ on .grow with dev := { mode := .grow, inReset := false, resetDue := some .fabric } }, by decide +kernel⟩
theorem witness_BoundaryRowsComplete_25 : ∃ (s : State) , (s.fabricOn = true) ∧ (s.time.running = true) ∧ (s.nextTick.dev.resetDue = some .steward) :=
  ⟨{ on .grow with dev := { mode := .grow, inReset := false, resetDue := some .steward } }, by decide +kernel⟩
theorem witness_BoundaryRowsComplete_26 : ∃ (s : State) (n : Nat), (s.fabricOn = true) ∧ (s.time.running = true) ∧ ((s.nextTick.proposal (BitVec.ofNat 16 n)).any (fun p => p.ready s.nextTick) = true) :=
  ⟨{ on .grow with teller := { proposals := [{ number := 0xFFFF, remaining := 5, signer := some {}, due := true }] } }, 0xFFFF, by decide +kernel⟩
theorem witness_BoundaryRowsComplete_27 : ∃ (s : State) (n : Nat), (s.fabricOn = true) ∧ (s.time.running = true) ∧ ((s.nextTick.proposal (BitVec.ofNat 16 n)).any (fun p => p.expires) = true) :=
  ⟨{ on .grow with teller := { proposals := [{ number := 0xFFFF, remaining := 1, signer := none, due := false }] } }, 0xFFFF, by decide +kernel⟩
theorem witness_BoundaryRowsComplete_28 : ∃ (s : State) , (s.fabricOn = true) ∧ (s.time.running = true) ∧ (counterSwitchDue s.nextTick = true) :=
  ⟨on .grow, by decide +kernel⟩
theorem witness_BoundaryRowsComplete_29 : ∃ (s : State) , (s.fabricOn = true) ∧ (s.time.running = true) :=
  ⟨on .grow, by decide +kernel⟩
theorem witness_HomeAndPoolEventsComplete_1 : ∃ (s : State) (port : Nat) (head : RspHead) (dpa : BitVec 64) (data : Line) (poison : Bool), (port < 128 ∧ head.ld < 16) ∧ (s.answerReaches port = true) :=
  ⟨{ on .grow with ports := { port := [(127, { entry := { role := 2, width := 3 }, ltssm := .L0, cxl := true, flit := true })] } }, 127, {}, 0, 0, false, by decide +kernel⟩
theorem witness_HomeAndPoolEventsComplete_2 : ∃ (s : State) (port : Nat) (head : RspHead) (dpa : BitVec 64), (port < 128 ∧ head.ld < 16) ∧ (s.answerReaches port = true) :=
  ⟨{ on .grow with ports := { port := [(127, { entry := { role := 2, width := 3 }, ltssm := .L0, cxl := true, flit := true })] } }, 127, {}, 0, by decide +kernel⟩
theorem witness_HomeAndPoolEventsComplete_3 : ∃ (s : State) (slice : Nat), (s.fabricOn = true) ∧ (slice < 8) :=
  ⟨on .grow, 7, by decide +kernel⟩
theorem witness_HomeAndPoolEventsComplete_4 : ∃ (s : State) (slice txn agent : Nat), (s.fabricOn = true) ∧ (slice < 8 ∧ txn < 1024 ∧ agent < 64) ∧ (agent ∈ ((s.slice slice).txn txn).waiting ∧ ((s.slice slice).txn txn).snooped + s.dev.snoopTimeout.toNat ≤ s.tick) :=
  ⟨{ on .grow with home := { slices := [(7, { txns := [(1023, { phase := .snooping, waiting := [63] })] })] }, time := { running := true, ticks := 256 } }, 7, 1023, 63, by decide +kernel⟩
theorem witness_HomeAndPoolEventsComplete_5 : ∃ (s : State) (slice agent : Nat), (s.fabricOn = true) ∧ (slice < 8 ∧ agent < 64) ∧ (slice ∈ (s.agent agent).lossScan ∧ (s.agent agent).lossStart + 512 ≤ s.tick ∧ s.scanRuns (fun k => decide (k = .loss agent)) = false ∧ (s.slice slice).scanClear agent = true) :=
  ⟨{ on .grow with pool := { agents := [(63, { valid := true, lost := true, lossScan := [7] })] }, time := { running := true, ticks := 512 } }, 7, 63, by decide +kernel⟩
theorem witness_HomeAndPoolEventsComplete_6 : ∃ (s : State) (slice pos : Nat), (s.fabricOn = true) ∧ (slice < 8 ∧ pos < 512) ∧ (((s.slice slice).wbLine pos).state = .sent ∧ ((s.slice slice).wbLine pos).since + s.home.writeTimeout ≤ s.tick) :=
  ⟨{ on .grow with home := { slices := [(7, { wb := [(511, { state := .sent })] })] }, time := { running := true, ticks := 16 } }, 7, 511, by decide +kernel⟩
theorem witness_HomeAndPoolEventsComplete_7 : ∃ (s : State) (slice pos : Nat) (i : Nat), (s.fabricOn = true) ∧ (slice < 8 ∧ pos < 512 ∧ s.releaseHead slice pos = some i) :=
  ⟨{ on .grow with home := { slices := [(7, { wb := [(511, { state := .releasing })], txns := [(3, { cls := .release, phase := .ready })] })] } }, 7, 511, 3, by decide +kernel⟩
theorem witness_HomeAndPoolEventsComplete_8 : ∃ (s : State) (bank : Nat), (bank < 8) ∧ (s.serving = true ∧ s.time.running = true) :=
  ⟨on .grow, 7, by decide +kernel⟩
theorem witness_HomeAndPoolEventsComplete_9 : ∃ (s : State) (job : Nat), (s.fabricOn = true) ∧ (s.flushEnded job = true ∧ s.hasJob (fun k => decide (k = .flush job)) = true) :=
  ⟨{ on .grow with home := { flushes := [(1, { scanned := 4096 })] }, teller := { jobs := [{ kind := .flush 1 }] } }, 1, by decide +kernel⟩
theorem witness_HomeAndPoolEventsComplete_10 : ∃ (s : State) (bed : Nat), (s.fabricOn = true) ∧ (bed < 4096) ∧ (s.policyScanned bed = true) :=
  ⟨{ on .grow with pool := { beds := [(4095, { state := .defined, policyScan := [0], policySets := 4096 })] } }, 4095, by decide +kernel⟩
theorem witness_HomeAndPoolEventsComplete_11 : ∃ (s : State) (extent : Nat), (extent < 1048576) ∧ (s.memServing = true ∧ s.nextZero = some extent) :=
  ⟨{ on .grow with pool := { extents := [(1048575, { state := .zeroing })] } }, 1048575, by decide +kernel⟩
theorem witness_HomeAndPoolEventsComplete_12 : ∃ (s : State) (extent : Nat) (ok : Bool), (extent < 1048576) ∧ (s.memServing = true ∧ (Tab.find s.pool.zeroing extent).isSome = true ∧ (!ok || s.zeroWritten extent) = true) :=
  ⟨{ on .grow with pool := { extents := [(1048575, { state := .zeroing })], zeroing := [(1048575, 0)] } }, 1048575, false, by decide +kernel⟩
theorem witness_HomeAndPoolEventsComplete_13 : ∃ (s : State) (extent : Nat), (extent < 1048576) ∧ (s.memServing = true ∧ s.internalTurns = true ∧ s.migCopies extent = true) :=
  ⟨{ on .grow with pool := { migrations := [(1048575, { rate := 64, rateTick := 1 })] } }, 1048575, by decide +kernel⟩
theorem witness_HomeAndPoolEventsComplete_14 : ∃ (s : State) (extent : Nat), (extent < 1048576) ∧ (s.serving = true ∧ (Tab.find s.pool.defining extent).any (fun d => decide (d.2 + 32 ≤ s.tick)) = true) :=
  ⟨{ on .grow with pool := { defining := [(1048575, ({}, 0))] }, time := { running := true, ticks := 32 } }, 1048575, by decide +kernel⟩
theorem witness_HomeAndPoolEventsComplete_15 : ∃ (s : State) (plot slot : Nat), (plot < 512 ∧ slot < 8) ∧ (s.serving = true ∧ s.pool.remoteMaps.any (fun r => decide (r.plot = plot ∧ r.slot = slot) && s.mapLate r) = true) :=
  ⟨{ on .grow with pool := { remoteMaps := [{ plot := 511, slot := 7 }] }, time := { running := true, ticks := 64 } }, 511, 7, by decide +kernel⟩
theorem witness_HomeAndPoolEventsComplete_16 : ∃ (s : State) (station : Nat) (rec : MgmtRec), (station < 16) ∧ (s.hears station = true) :=
  ⟨{ on .grow with trunks := { trunk := [(15, { state := .up })] } }, 15, {}, by decide +kernel⟩
theorem witness_PortAndLaneEventsComplete_1 : ∃ (s : State) (port : Nat), (s.fabricOn = true) ∧ (port < 128) ∧ ((s.port port).upstream = true ∧ (s.port port).inL0 = true) :=
  ⟨{ on .grow with dev := { mode := .grow, inReset := false, retryStatus := false }, ports := { port := [(127, { entry := { role := 1, width := 3, maxRate := 6, cxl128 := true, l0p := true }, ltssm := .L0, cxl := true, flit := true })] } }, 127, by decide +kernel⟩
theorem witness_PortAndLaneEventsComplete_2 : ∃ (s : State) (port : Nat), (s.fabricOn = true) ∧ (port < 128) ∧ ((s.port port).upstream = true ∧ s.mayReturn port = true) :=
  ⟨{ on .grow with ports := { port := [(127, { entry := { role := 1 }, held := true })] }, time := { running := true, ticks := 1 } }, 127, by decide +kernel⟩
theorem witness_PortAndLaneEventsComplete_3 : ∃ (s : State) (port : Nat), (s.fabricOn = true) ∧ (port < 128) ∧ ((s.port port).downstream = true ∧ (s.port port).inL0 = true) :=
  ⟨{ on .grow with ports := { port := [(127, { entry := { role := 2, width := 3 }, ltssm := .L0, cxl := true, flit := true })] } }, 127, by decide +kernel⟩
theorem witness_PortAndLaneEventsComplete_4 : ∃ (s : State) (port : Nat), (s.fabricOn = true) ∧ (port < 128) ∧ (s.scanOver port = true) :=
  ⟨{ on .grow with ports := { port := [(127, { scanning := true })] }, time := { running := true, ticks := 32 } }, 127, by decide +kernel⟩
theorem witness_PortAndLaneEventsComplete_5 : ∃ (s : State) (port ld : Nat) (report : DeviceReport), (port < 128 ∧ ld < 16) ∧ (s.deviceReaches port = true) :=
  ⟨{ on .grow with ports := { port := [(127, { entry := { role := 2, width := 3 }, ltssm := .L0, cxl := true, flit := true })] } }, 127, 15, .viral, by decide +kernel⟩
theorem witness_PortAndLaneEventsComplete_6 : ∃ (s : State) (port ld : Nat), (port < 128 ∧ ld < 16) ∧ (s.deviceReaches port = true) :=
  ⟨{ on .grow with ports := { port := [(127, { entry := { role := 2, width := 3 }, ltssm := .L0, cxl := true, flit := true })] } }, 127, 15, by decide +kernel⟩
theorem witness_PortAndLaneEventsComplete_7 : ∃ (s : State) (port : Nat), (s.fabricOn = true) ∧ (port < 128) ∧ ((s.port port).upstream = true ∧ (s.port port).inL0 = true) :=
  ⟨{ on .grow with dev := { mode := .grow, inReset := false, retryStatus := false }, ports := { port := [(127, { entry := { role := 1, width := 3, maxRate := 6, cxl128 := true, l0p := true }, ltssm := .L0, cxl := true, flit := true })] } }, 127, by decide +kernel⟩
theorem witness_PortAndLaneEventsComplete_8 : ∃ (s : State) (port : Nat) (found : Discovery), (port < 128) ∧ (s.deviceReaches port = true ∧ (s.port port).advRead = false) :=
  ⟨{ on .grow with ports := { port := [(127, { entry := { role := 2, width := 3 }, ltssm := .L0, cxl := true, flit := true })] } }, 127, {}, by decide +kernel⟩
theorem witness_PortAndLaneEventsComplete_9 : ∃ (s : State) (port : Nat), (s.fabricOn = true) ∧ (port < 128) ∧ ((s.port port).may128 = true) :=
  ⟨{ on .grow with dev := { mode := .grow, inReset := false, retryStatus := false }, ports := { port := [(127, { entry := { role := 1, width := 3, maxRate := 6, cxl128 := true, l0p := true }, ltssm := .L0, cxl := true, flit := true, partner128 := true, rate := 5 })] } }, 127, by decide +kernel⟩
theorem witness_PortAndLaneEventsComplete_10 : ∃ (s : State) (port : Nat) (rate : BitVec 3), (s.fabricOn = true) ∧ (port < 128) ∧ ((s.port port).pending128 = true ∧ rate.toNat < 6) :=
  ⟨{ on .grow with dev := { mode := .grow, inReset := false, retryStatus := false }, ports := { port := [(127, { entry := { role := 1, width := 3, maxRate := 6, cxl128 := true, l0p := true }, ltssm := .L0, cxl := true, flit := true, pending128 := true })] } }, 127, 5, by decide +kernel⟩
theorem witness_PortAndLaneEventsComplete_11 : ∃ (s : State) (port : Nat) (value : BitVec 32), (port < 128) ∧ (s.configReaches port = true) :=
  ⟨{ on .grow with dev := { mode := .grow, inReset := false, retryStatus := false }, ports := { port := [(127, { entry := { role := 1, width := 3, maxRate := 6, cxl128 := true, l0p := true }, ltssm := .L0, cxl := true, flit := true })] } }, 127, 0x10000, by decide +kernel⟩
theorem witness_PortAndLaneEventsComplete_12 : ∃ (s : State) (port vppb index : Nat) (base size : BitVec 64) (ways gran : Nat) (dpaBase : BitVec 64) (position : Nat), (port < 128 ∧ vppb < 17 ∧ index < 4) ∧ (s.configReaches port = true) :=
  ⟨{ on .grow with dev := { mode := .grow, inReset := false, retryStatus := false }, ports := { port := [(127, { entry := { role := 1, width := 3, maxRate := 6, cxl128 := true, l0p := true }, ltssm := .L0, cxl := true, flit := true })] } }, 127, 16, 3, 0, 0x10000000, 0, 0, 0, 0, by decide +kernel⟩
theorem witness_PortAndLaneEventsComplete_13 : ∃ (s : State) (port : Nat), (s.fabricOn = true) ∧ (port < 128) ∧ ((s.port port).upstream = true ∧ (s.port port).inL0 = true ∧ s.dev.retryStatus = true) :=
  ⟨{ on .grow with dev := { mode := .grow, inReset := false, retryStatus := true }, ports := { port := [(127, { entry := { role := 1, width := 3, maxRate := 6, cxl128 := true, l0p := true }, ltssm := .L0, cxl := true, flit := true })] } }, 127, by decide +kernel⟩
theorem witness_PortAndLaneEventsComplete_14 : ∃ (s : State) (port plot : Nat) (clear : Bool), (port < 128 ∧ plot < 512) ∧ (s.ioReaches port = true ∧ (s.plot plot).state ≠ .free ∧ (s.plot plot).port.toNat = port ∧ (s.ring 15).waiting < 256) :=
  ⟨{ on .grow with dev := { mode := .grow, inReset := false, retryStatus := false }, ports := { port := [(127, { entry := { role := 1, width := 3, maxRate := 6, cxl128 := true, l0p := true }, ltssm := .L0, cxl := true, flit := true })] }, pool := { plots := [(511, { state := .active, port := 127 })] } }, 127, 511, true, by decide +kernel⟩
theorem witness_PortAndLaneEventsComplete_15 : ∃ (s : State) (port : Nat), (s.fabricOn = true) ∧ (port < 128 ∧ (s.port port).upstream = true ∧ (s.port port).inL0 = true) ∧ (((s.port port).ide = 1 ∨ (s.port port).ide = 2)) :=
  ⟨{ on .grow with dev := { mode := .grow, inReset := false, retryStatus := false }, ports := { port := [(127, { entry := { role := 1, width := 3, maxRate := 6, cxl128 := true, l0p := true }, ltssm := .L0, cxl := true, flit := true, ide := 1 })] } }, 127, by decide +kernel⟩
theorem witness_PortAndLaneEventsComplete_16 : ∃ (s : State) (port : Nat), (s.fabricOn = true) ∧ (port < 128) ∧ (((s.port port).upstream = true ∨ (s.port port).downstream = true)) ∧ ((s.port port).inL0 = false ∧ (s.port port).held = false ∧ (s.port port).ltssm ≠ .detect ∧ (s.port port).ltssm ≠ .disabled) :=
  ⟨{ on .grow with dev := { mode := .grow, inReset := false, retryStatus := false }, ports := { port := [(127, { entry := { role := 2, width := 3 }, ltssm := .polling })] } }, 127, by decide +kernel⟩
theorem witness_PortAndLaneEventsComplete_17 : ∃ (s : State) (port : Nat), (s.fabricOn = true) ∧ (port < 128) ∧ ((s.port port).upstream = true) ∧ ((s.port port).inL0 = true ∧ (s.port port).held = false ∧ (s.port port).ltssm ≠ .detect ∧ (s.port port).ltssm ≠ .disabled) :=
  ⟨{ on .grow with dev := { mode := .grow, inReset := false, retryStatus := false }, ports := { port := [(127, { entry := { role := 1, width := 3, maxRate := 6, cxl128 := true, l0p := true }, ltssm := .L0, cxl := true, flit := true })] } }, 127, by decide +kernel⟩
theorem witness_PortAndLaneEventsComplete_18 : ∃ (s : State) (port : Nat), (s.fabricOn = true) ∧ (port < 128) ∧ ((s.port port).upstream = false ∧ (s.port port).downstream = true) ∧ ((s.port port).inL0 = true ∧ (s.port port).held = false ∧ (s.port port).ltssm ≠ .detect ∧ (s.port port).ltssm ≠ .disabled) :=
  ⟨{ on .grow with ports := { port := [(127, { entry := { role := 2, width := 3 }, ltssm := .L0, cxl := true, flit := true })] } }, 127, by decide +kernel⟩
theorem witness_PortAndLaneEventsComplete_19 : ∃ (s : State) (port ld block count : Nat), (port < 128 ∧ ld < 16) ∧ (s.deviceReaches port = true ∧ (s.port port).dcd = true) :=
  ⟨{ on .grow with ports := { port := [(127, { entry := { role := 2, width := 3 }, ltssm := .L0, cxl := true, flit := true, dcd := true })] } }, 127, 15, 0, 1, by decide +kernel⟩
theorem witness_PortAndLaneEventsComplete_20 : ∃ (s : State) (port ld block count : Nat), (port < 128 ∧ ld < 16) ∧ (s.deviceReaches port = true ∧ (s.port port).dcd = true) :=
  ⟨{ on .grow with ports := { port := [(127, { entry := { role := 2, width := 3 }, ltssm := .L0, cxl := true, flit := true, dcd := true })] } }, 127, 15, 0, 1, by decide +kernel⟩
theorem witness_PortAndLaneEventsComplete_21 : ∃ (s : State) (port ld block count : Nat), (port < 128 ∧ ld < 16) ∧ (s.deviceReaches port = true ∧ (s.port port).dcd = true) :=
  ⟨{ on .grow with ports := { port := [(127, { entry := { role := 2, width := 3 }, ltssm := .L0, cxl := true, flit := true, dcd := true })] } }, 127, 15, 0, 1, by decide +kernel⟩
theorem witness_PortAndLaneEventsComplete_22 : ∃ (s : State) (port : Nat) (tlp : Tlp), (port < 128) ∧ ((s.deviceReaches port = true ∨ s.configReaches port = true)) ∧ (s.queueRoom (port / 8) clsIo = true) :=
  ⟨{ on .grow with ports := { port := [(127, { entry := { role := 2, width := 3 }, ltssm := .L0, cxl := true, flit := true })] } }, 127, {}, by decide +kernel⟩
theorem witness_PortAndLaneEventsComplete_23 : ∃ (s : State) (port : Nat) (rate : BitVec 3) (width : BitVec 4) (cxl flit : Bool), (s.fabricOn = true) ∧ (port < 128 ∧ (s.port port).mayL0p rate width cxl flit = true) :=
  ⟨{ on .grow with dev := { mode := .grow, inReset := false, retryStatus := false }, ports := { port := [(127, { entry := { role := 1, width := 3, maxRate := 6, cxl128 := true, l0p := true }, ltssm := .L0, cxl := true, flit := true, rate := 6, width := 5 })] } }, 127, 6, 4, true, true, by decide +kernel⟩
theorem witness_PortAndLaneEventsComplete_24 : ∃ (s : State) (port : Nat) (rate : BitVec 3) (width : BitVec 4) (cxl flit : Bool), (s.fabricOn = true) ∧ (port < 128 ∧ s.mayTrain port = true ∧ (s.port port).ltssm ≠ .L0 ∧ (s.port port).ltssm ≠ .L0s) ∧ ((s.port port).mayRun s.dev.retryStatus rate width cxl flit = true) :=
  ⟨{ on .grow with dev := { mode := .grow, inReset := false, stage := 6, slotHold := false, retryStatus := false }, ports := { port := [(127, { entry := { role := 1, width := 3, maxRate := 6 }, ltssm := .configuration })] } }, 127, 5, 5, true, true, by decide +kernel⟩
theorem witness_PortAndLaneEventsComplete_25 : ∃ (s : State) (port : Nat), (s.fabricOn = true) ∧ (port < 128) ∧ ((s.port port).l0sLink = true ∧ (s.port port).ltssm = .L0 ∧ s.depth port = 0 ∧ (s.port port).lastTx + 6 ≤ s.tick) :=
  ⟨{ on .grow with ports := { port := [(127, { entry := { role := 2, width := 3 }, ltssm := .L0, cxl := false, l0sLatency := some 4000 })] }, time := { running := true, ticks := 6 } }, 127, by decide +kernel⟩
theorem witness_PortAndLaneEventsComplete_26 : ∃ (s : State) (port : Nat), (s.fabricOn = true) ∧ (port < 128) ∧ ((s.port port).l0sTx = true) :=
  ⟨{ on .grow with ports := { port := [(127, { entry := { role := 2, width := 3 }, ltssm := .L0s, cxl := false, l0sTx := true })] }, time := { running := true, ticks := 6 } }, 127, by decide +kernel⟩
theorem witness_LaneEventsComplete_1 : ∃ (s : State) (lane : Nat) (active : Bool) (p : Nat), (s.fabricOn = true) ∧ (lane < 256) ∧ (s.portOfLane lane = some p ∧ (s.port p).upstream = true ∧ (s.port p).inL0 = true) :=
  ⟨{ on .grow with ports := { port := [(0, { entry := { role := 1, width := 3 }, ltssm := .L0 })] } }, 0, true, 0, by decide +kernel⟩
theorem witness_LaneEventsComplete_2 : ∃ (s : State) (lane : Nat), (s.fabricOn = true) ∧ (lane < 256) ∧ ((s.lane lane).los = false) :=
  ⟨on .grow, 255, by decide +kernel⟩
theorem witness_LaneEventsComplete_3 : ∃ (s : State) (lane : Nat), (s.fabricOn = true) ∧ (lane < 256) ∧ ((s.lane lane).lol = false) :=
  ⟨on .grow, 255, by decide +kernel⟩
theorem witness_LaneEventsComplete_4 : ∃ (s : State) (lane : Nat) (left right : BitVec 6) (top bottom : BitVec 7), (s.fabricOn = true) ∧ (lane < 256) ∧ ((s.lane lane).marginStatus = 3 ∧ left.toNat ≤ 32 ∧ right.toNat ≤ 32 ∧ top.toNat ≤ 64 ∧ bottom.toNat ≤ 64) :=
  ⟨{ on .grow with lanes := { lane := [(255, { marginStatus := 3 })] } }, 255, 32, 32, 64, 64, by decide +kernel⟩
theorem witness_LaneEventsComplete_5 : ∃ (s : State) (lane : Nat), (s.fabricOn = true) ∧ (lane < 256) ∧ ((s.lane lane).los = true) :=
  ⟨{ on .grow with lanes := { lane := [(255, { los := true })] } }, 255, by decide +kernel⟩
theorem witness_LaneEventsComplete_6 : ∃ (s : State) (lane : Nat), (s.fabricOn = true) ∧ (lane < 256) ∧ ((s.lane lane).lol = true) :=
  ⟨{ on .grow with lanes := { lane := [(255, { lol := true })] } }, 255, by decide +kernel⟩
theorem witness_LaneEventsComplete_7 : ∃ (s : State) (lane : Nat), (lane < 256) ∧ (s.checking lane = true ∧ (s.lane lane).prbsLock = false) :=
  ⟨{ on .probe with lanes := { lane := [(255, { prbsChk := 1 })] } }, 255, by decide +kernel⟩
theorem witness_LaneEventsComplete_8 : ∃ (s : State) (lane errors : Nat), (lane < 256) ∧ (s.checking lane = true ∧ (s.lane lane).prbsLock = true) :=
  ⟨{ on .probe with lanes := { lane := [(255, { prbsChk := 1, prbsLock := true })] } }, 255, 9, by decide +kernel⟩
theorem witness_MailboxCommandsComplete_1 : ∃ (s : State) (plot : Nat), (plot < 512) ∧ (s.mailReaches plot = true) :=
  ⟨{ serving1 with dev := { mode := .grow, inReset := false, retryStatus := false } }, 0, by decide +kernel⟩
theorem witness_MailboxCommandsComplete_2 : ∃ (s : State) (plot : Nat), (plot < 512) ∧ (s.mailReaches plot = true) :=
  ⟨{ serving1 with dev := { mode := .grow, inReset := false, retryStatus := false } }, 0, by decide +kernel⟩
theorem witness_MailboxCommandsComplete_3 : ∃ (s : State) (plot : Nat), (plot < 512) ∧ (s.mailReaches plot = true) :=
  ⟨{ serving1 with dev := { mode := .grow, inReset := false, retryStatus := false } }, 0, by decide +kernel⟩
theorem witness_MailboxCommandsComplete_4 : ∃ (s : State) (plot slot : Nat) (sets : List Nat), (plot < 512 ∧ slot < 8) ∧ (s.mailReaches plot = true ∧ (s.plot plot).state = .active ∧ ((s.plot plot).slot slot).valid = true) :=
  ⟨{ serving1 with dev := { mode := .grow, inReset := false, retryStatus := false } }, 0, 0, [0], by decide +kernel⟩
theorem witness_MailboxCommandsComplete_5 : ∃ (s : State) (plot slot : Nat) (sets : List Nat), (plot < 512 ∧ slot < 8) ∧ (s.mailReaches plot = true ∧ ((s.plot plot).slot slot).valid = true) :=
  ⟨{ serving1 with dev := { mode := .grow, inReset := false, retryStatus := false } }, 0, 0, [0], by decide +kernel⟩
theorem witness_MailboxCommandsComplete_6 : ∃ (s : State) (plot log : Nat), (plot < 512) ∧ (s.mailReaches plot = true) :=
  ⟨{ serving1 with dev := { mode := .grow, inReset := false, retryStatus := false } }, 0, 4, by decide +kernel⟩
theorem witness_MailboxCommandsComplete_7 : ∃ (s : State) (plot log : Nat) (handles : List Nat), (plot < 512) ∧ (s.mailReaches plot = true) :=
  ⟨{ serving1 with dev := { mode := .grow, inReset := false, retryStatus := false } }, 0, 4, [1], by decide +kernel⟩
theorem witness_MailboxCommandsComplete_8 : ∃ (s : State) (plot : Nat), (plot < 512) ∧ (s.mailReaches plot = true) :=
  ⟨{ serving1 with dev := { mode := .grow, inReset := false, retryStatus := false } }, 0, by decide +kernel⟩
theorem witness_MailboxCommandsComplete_9 : ∃ (s : State) (plot log : Nat), (plot < 512) ∧ (s.mailReaches plot = true) :=
  ⟨{ serving1 with dev := { mode := .grow, inReset := false, retryStatus := false } }, 0, 0, by decide +kernel⟩
theorem witness_MailboxCommandsComplete_10 : ∃ (s : State) (plot : Nat), (plot < 512) ∧ (s.mailReaches plot = true) :=
  ⟨{ serving1 with dev := { mode := .grow, inReset := false, retryStatus := false } }, 0, by decide +kernel⟩
theorem witness_MailboxCommandsComplete_11 : ∃ (s : State) (plot : Nat) (opcode : BitVec 16), (plot < 512) ∧ (s.mailReaches plot = true) :=
  ⟨{ serving1 with dev := { mode := .grow, inReset := false, retryStatus := false } }, 0, 0xFFFF, by decide +kernel⟩
theorem witness_BarrowEventsComplete_1 : ∃ (s : State) (port offset length : Nat) (deferrable : Bool) (pasid : Option Nat) (data : BitVec 512), (port < 128) ∧ (s.ioReaches port = true) :=
  ⟨{ on .grow with dev := { mode := .grow, inReset := false, retryStatus := false }, ports := { port := [(127, { entry := { role := 1, width := 3, maxRate := 6, cxl128 := true, l0p := true }, ltssm := .L0, cxl := true, flit := true })] } }, 127, 0, 64, true, none, 0, by decide +kernel⟩
theorem witness_BarrowEventsComplete_2 : ∃ (s : State) (slice : Nat), (s.fabricOn = true) ∧ (slice < 512) ∧ ((s.bslice slice).mayStart = true) :=
  ⟨{ on .grow with barrow := { slices := [(511, { state := .running, queue := [1] })] } }, 511, by decide +kernel⟩
theorem witness_BarrowEventsComplete_3 : ∃ (s : State) (slice : Nat), (slice < 512) ∧ (s.turnOf slice 1 = true) :=
  ⟨{ on .grow with barrow := { slices := [(511, { state := .running, running := some { desc := 1 } })] } }, 511, by decide +kernel⟩
theorem witness_BarrowEventsComplete_4 : ∃ (s : State) (slice : Nat), (slice < 512) ∧ (s.turnOf slice 2 = true) :=
  ⟨{ on .grow with barrow := { slices := [(511, { state := .running, running := some { desc := 2 } })] } }, 511, by decide +kernel⟩
theorem witness_BarrowEventsComplete_5 : ∃ (s : State) (slice : Nat), (slice < 512) ∧ (s.turnOf slice 3 = true) :=
  ⟨{ on .grow with barrow := { slices := [(511, { state := .running, running := some { desc := 3 } })] } }, 511, by decide +kernel⟩
theorem witness_BarrowEventsComplete_6 : ∃ (s : State) (slice : Nat), (slice < 512) ∧ (s.turnOf slice 4 = true) :=
  ⟨{ on .grow with barrow := { slices := [(511, { state := .running, running := some { desc := 4 } })] } }, 511, by decide +kernel⟩
theorem witness_BarrowEventsComplete_7 : ∃ (s : State) (slice : Nat), (slice < 512) ∧ (s.turnOf slice 5 = true) :=
  ⟨{ on .grow with barrow := { slices := [(511, { state := .running, running := some { desc := 5 } })] } }, 511, by decide +kernel⟩
theorem witness_BarrowEventsComplete_8 : ∃ (s : State) (slice : Nat), (s.fabricOn = true) ∧ (slice < 512) ∧ ((s.bslice slice).runOver = true) :=
  ⟨{ on .grow with barrow := { slices := [(511, { state := .running, running := some { desc := 1, ended := true } })] } }, 511, by decide +kernel⟩
theorem witness_BarrowEventsComplete_9 : ∃ (s : State) (slice : Nat), (s.fabricOn = true) ∧ (slice < 512) ∧ ((s.bslice slice).readSince.any (fun n => decide (n + 16 ≤ s.tick)) = true) :=
  ⟨{ on .grow with barrow := { slices := [(511, { state := .running, job := some { save := false } })] }, time := { running := true, ticks := 16 } }, 511, by decide +kernel⟩
theorem witness_BarrowEventsComplete_10 : ∃ (s : State) (slice : Nat) (ok : Bool), (s.fabricOn = true) ∧ (slice < 512) ∧ ((s.bslice slice).images true = true ∧ s.tlpWaits slice = false) :=
  ⟨{ on .grow with barrow := { slices := [(511, { state := .running, job := some { save := true } })] } }, 511, false, by decide +kernel⟩
theorem witness_BarrowEventsComplete_11 : ∃ (s : State) (slice : Nat) (ok : Bool), (s.fabricOn = true) ∧ (slice < 512) ∧ ((s.bslice slice).images false = true) ∧ ((ok = true → (s.bslice slice).job.any (fun j => decide (j.image.length = 4096)) = true)) :=
  ⟨{ on .grow with barrow := { slices := [(511, { state := .running, job := some { save := false } })] } }, 511, false, by decide +kernel⟩
theorem witness_BarrowEventsComplete_12 : ∃ (s : State) (port slice : Nat), (port < 128 ∧ slice < 512) ∧ (s.barReaches port slice = true) :=
  ⟨{ on .grow with dev := { mode := .grow, inReset := false, retryStatus := false }, ports := { port := [(127, { entry := { role := 1, width := 3, maxRate := 6, cxl128 := true, l0p := true }, ltssm := .L0, cxl := true, flit := true })] }, pool := { plots := [(1, { state := .active, port := 127 })] }, barrow := { slices := [(511, { state := .running, plot := 1 })] } }, 127, 511, by decide +kernel⟩
theorem witness_BarrowEventsComplete_13 : ∃ (s : State) (port slice : Nat), (port < 128 ∧ slice < 512) ∧ (s.barReaches port slice = true) :=
  ⟨{ on .grow with dev := { mode := .grow, inReset := false, retryStatus := false }, ports := { port := [(127, { entry := { role := 1, width := 3, maxRate := 6, cxl128 := true, l0p := true }, ltssm := .L0, cxl := true, flit := true })] }, pool := { plots := [(1, { state := .active, port := 127 })] }, barrow := { slices := [(511, { state := .running, plot := 1 })] } }, 127, 511, by decide +kernel⟩
theorem witness_BarrowEventsComplete_14 : ∃ (s : State) (port slice : Nat), (port < 128 ∧ slice < 512) ∧ (s.barReaches port slice = true) :=
  ⟨{ on .grow with dev := { mode := .grow, inReset := false, retryStatus := false }, ports := { port := [(127, { entry := { role := 1, width := 3, maxRate := 6, cxl128 := true, l0p := true }, ltssm := .L0, cxl := true, flit := true })] }, pool := { plots := [(1, { state := .active, port := 127 })] }, barrow := { slices := [(511, { state := .running, plot := 1 })] } }, 127, 511, by decide +kernel⟩
theorem witness_BarrowEventsComplete_15 : ∃ (s : State) (port slice : Nat), (port < 128 ∧ slice < 512) ∧ (s.barReaches port slice = true) :=
  ⟨{ on .grow with dev := { mode := .grow, inReset := false, retryStatus := false }, ports := { port := [(127, { entry := { role := 1, width := 3, maxRate := 6, cxl128 := true, l0p := true }, ltssm := .L0, cxl := true, flit := true })] }, pool := { plots := [(1, { state := .active, port := 127 })] }, barrow := { slices := [(511, { state := .running, plot := 1 })] } }, 127, 511, by decide +kernel⟩
theorem witness_BarrowEventsComplete_16 : ∃ (s : State) (port slice : Nat), (port < 128 ∧ slice < 512) ∧ (s.barReaches port slice = true) :=
  ⟨{ on .grow with dev := { mode := .grow, inReset := false, retryStatus := false }, ports := { port := [(127, { entry := { role := 1, width := 3, maxRate := 6, cxl128 := true, l0p := true }, ltssm := .L0, cxl := true, flit := true })] }, pool := { plots := [(1, { state := .active, port := 127 })] }, barrow := { slices := [(511, { state := .running, plot := 1 })] } }, 127, 511, by decide +kernel⟩
theorem witness_BarrowEventsComplete_17 : ∃ (s : State) (port slice : Nat), (port < 128 ∧ slice < 512) ∧ (s.barReaches port slice = true) :=
  ⟨{ on .grow with dev := { mode := .grow, inReset := false, retryStatus := false }, ports := { port := [(127, { entry := { role := 1, width := 3, maxRate := 6, cxl128 := true, l0p := true }, ltssm := .L0, cxl := true, flit := true })] }, pool := { plots := [(1, { state := .active, port := 127 })] }, barrow := { slices := [(511, { state := .running, plot := 1 })] } }, 127, 511, by decide +kernel⟩
theorem witness_BarrowEventsComplete_18 : ∃ (s : State) (port slice : Nat), (port < 128 ∧ slice < 512) ∧ (s.barReaches port slice = true) :=
  ⟨{ on .grow with dev := { mode := .grow, inReset := false, retryStatus := false }, ports := { port := [(127, { entry := { role := 1, width := 3, maxRate := 6, cxl128 := true, l0p := true }, ltssm := .L0, cxl := true, flit := true })] }, pool := { plots := [(1, { state := .active, port := 127 })] }, barrow := { slices := [(511, { state := .running, plot := 1 })] } }, 127, 511, by decide +kernel⟩
theorem witness_BarrowEventsComplete_19 : ∃ (s : State) (port slice : Nat) (value : BitVec 64), (port < 128 ∧ slice < 512) ∧ (s.barReaches port slice = true ∧ (slcActs value).length ≠ 1) :=
  ⟨{ on .grow with dev := { mode := .grow, inReset := false, retryStatus := false }, ports := { port := [(127, { entry := { role := 1, width := 3, maxRate := 6, cxl128 := true, l0p := true }, ltssm := .L0, cxl := true, flit := true })] }, pool := { plots := [(1, { state := .active, port := 127 })] }, barrow := { slices := [(511, { state := .running, plot := 1 })] } }, 127, 511, 6, by decide +kernel⟩
theorem witness_BarrowEventsComplete_20 : ∃ (s : State) (slice : Nat) (status : CplStatus) (data : List Byte), (s.fabricOn = true) ∧ (slice < 512 ∧ s.queueRoom (s.answerPort slice / 8) clsIo = true) ∧ (((s.bslice slice).hostWaits.isSome = true ∨ (s.bslice slice).restoreWaits = true)) :=
  ⟨{ on .grow with barrow := { slices := [(511, { state := .running, job := some { save := false } })] }, time := { running := true, ticks := 16 } }, 511, .success, [], by decide +kernel⟩
theorem witness_PairEventsComplete_1 : ∃ (s : State) (station : Nat) (serial : BitVec 48) (device : BitVec 4) (generation : BitVec 32) (pinPromote : Bool), (s.fabricOn = true) ∧ (station < 16) ∧ ((s.trunk station).state = .up) :=
  ⟨{ on .grow with trunks := { trunk := [(15, { state := .up })] } }, 15, 5, 1, 1, true, by decide +kernel⟩
theorem witness_PairEventsComplete_2 : ∃ (s : State) (head : MirrorHead) (table index : Nat) (image : BitVec 1024), (s.fabricOn = true) :=
  ⟨on .shadow, {}, 0, 0, 0, by decide +kernel⟩
theorem witness_PairEventsComplete_3 : ∃ (s : State) (head : MirrorHead) (proposal : BitVec 16) (records : Nat), (s.fabricOn = true) :=
  ⟨on .shadow, {}, 1, 0, by decide +kernel⟩
theorem witness_PairEventsComplete_4 : ∃ (s : State) (head : MirrorHead) (set way : Nat) (entry : BitVec 64), (s.fabricOn = true) ∧ (set < 65536 ∧ way < 16) :=
  ⟨on .shadow, {}, 65535, 15, 0, by decide +kernel⟩
theorem witness_PairEventsComplete_5 : ∃ (s : State) (head : MirrorHead) (set way : Nat) (tag : BitVec 48) (data : Line), (s.fabricOn = true) ∧ (set < 65536 ∧ way < 16) :=
  ⟨on .shadow, {}, 65535, 15, 0, 0, by decide +kernel⟩
theorem witness_PairEventsComplete_6 : ∃ (s : State) (head : MirrorHead) (set way : Nat), (s.fabricOn = true) ∧ (set < 65536 ∧ way < 16) :=
  ⟨on .shadow, {}, 65535, 15, by decide +kernel⟩
theorem witness_PairEventsComplete_7 : ∃ (s : State) (head : MirrorHead) (pos pl : Nat) (poison : Bool) (data : Line), (s.fabricOn = true) ∧ (pos < 512) :=
  ⟨on .shadow, {}, 511, 0, false, 0, by decide +kernel⟩
theorem witness_PairEventsComplete_8 : ∃ (s : State) (head : MirrorHead) (pos : Nat), (s.fabricOn = true) ∧ (pos < 512) :=
  ⟨on .shadow, {}, 511, by decide +kernel⟩
theorem witness_PairEventsComplete_9 : ∃ (s : State) (unit : Nat) (mseq : BitVec 32), (s.fabricOn = true) ∧ (unit < 9) :=
  ⟨on .grow, 8, 0, by decide +kernel⟩
theorem witness_PairEventsComplete_10 : ∃ (s : State) , (s.fabricOn = true) ∧ ((s.resyncOver = true ∨ (s.pair.state = .syncing ∧ (List.range 9).all (fun u => (s.munit u).rxWait.isEmpty) = true))) :=
  ⟨{ on .shadow with pair := { state := .syncing } }, by decide +kernel⟩
theorem witness_PairEventsComplete_11 : ∃ (s : State) (unit : Nat), (s.fabricOn = true) ∧ (unit < 9) :=
  ⟨on .grow, 8, by decide +kernel⟩
theorem witness_PairEventsComplete_12 : ∃ (s : State) (slice bed : Nat), (s.fabricOn = true) ∧ (slice < 8 ∧ bed < 4096) ∧ (s.sweepOver slice bed = true) :=
  ⟨{ on .grow with home := { slices := [(7, { sweeping := [4095], sweepLine := 1 })] }, pool := { beds := [(4095, { state := .defined })] } }, 7, 4095, by decide +kernel⟩
theorem witness_PairEventsComplete_13 : ∃ (s : State) (generation : BitVec 32), (s.fabricOn = true) ∧ (s.pair.state = .shadow) :=
  ⟨{ on .shadow with pair := { state := .shadow } }, 5, by decide +kernel⟩
theorem witness_PairEventsComplete_14 : ∃ (s : State) , (s.fabricOn = true) :=
  ⟨on .grow, by decide +kernel⟩
theorem witness_PairEventsComplete_15 : ∃ (s : State) , (s.fabricOn = true) ∧ (s.pair.pinAlive = true ∧ s.pair.pinEdge + 32 ≤ s.tick) :=
  ⟨{ on .grow with pair := { pinAlive := true }, time := { running := true, ticks := 32 } }, by decide +kernel⟩
theorem witness_TrunkEventsComplete_1 : ∃ (s : State) (station : Nat), (s.fabricOn = true) ∧ (station < 16) ∧ ((s.trunk station).state = .hello ∧ (s.trunk station).since + 4096 ≤ s.tick ∧ (s.trunk station).waitFrom.isNone = true ∧ (s.trunk station).helloDone = false) :=
  ⟨{ on .grow with ports := { port := [(0, { entry := { role := 3, width := 3 } })] }, trunks := { trunk := [(0, { state := .hello })] }, time := { running := true, ticks := 5000, beats := 5120000 } }, 0, by decide +kernel⟩
theorem witness_TrunkEventsComplete_2 : ∃ (s : State) (station : Nat), (s.fabricOn = true) ∧ (station < 16) ∧ ((s.trunk station).state = .step ∧ (s.trunk station).stepTick + 256 ≤ s.tick) :=
  ⟨{ on .grow with ports := { port := [(0, { entry := { role := 3, width := 3 } })] }, trunks := { trunk := [(0, { state := .step })] }, time := { running := true, ticks := 5000, beats := 5120000 } }, 0, by decide +kernel⟩
theorem witness_TrunkEventsComplete_3 : ∃ (s : State) (station : Nat), (s.fabricOn = true) ∧ (station < 16) ∧ ((s.trunk station).state = .up ∧ (s.trunk station).holes.any (fun h => decide (h.2 + 512 ≤ s.time.beats)) = true) :=
  ⟨{ on .grow with ports := { port := [(0, { entry := { role := 3, width := 3 } })] }, trunks := { trunk := [(0, { state := .up, holes := [(0, 0)] })] }, time := { running := true, ticks := 5000, beats := 5120000 } }, 0, by decide +kernel⟩
theorem witness_TrunkEventsComplete_4 : ∃ (s : State) (station : Nat), (s.fabricOn = true) ∧ (station < 16) ∧ ((s.trunk station).state = .up ∧ (s.trunk station).ackBeat + 2048 ≤ s.time.beats ∧ (s.trunk station).replay.isEmpty = false) :=
  ⟨{ on .grow with ports := { port := [(0, { entry := { role := 3, width := 3 } })] }, trunks := { trunk := [(0, { state := .up, replay := [{}] })] }, time := { running := true, ticks := 5000, beats := 5120000 } }, 0, by decide +kernel⟩
theorem witness_TrunkEventsComplete_5 : ∃ (s : State) (station : Nat), (s.fabricOn = true) ∧ (station < 16 ∧ (s.trunk station).acked = false) ∧ (((s.trunk station).state = .up ∨ (s.trunk station).state = .retrain)) ∧ ((s.trunk station).request.any (fun q => decide (q.2.2.2 + (s.trunk station).requestSent ≤ s.tick)) = true) :=
  ⟨{ on .grow with ports := { port := [(0, { entry := { role := 3, width := 3 } })] }, trunks := { trunk := [(0, { state := .up, request := some (0, 0, 0, 0) })] }, time := { running := true, ticks := 5000, beats := 5120000 } }, 0, by decide +kernel⟩
theorem witness_TrunkEventsComplete_6 : ∃ (s : State) (station : Nat), (s.fabricOn = true) ∧ (station < 16) ∧ ((s.trunk station).state = .retrain ∧ (s.trunk station).since + 31 < s.tick) :=
  ⟨{ on .grow with ports := { port := [(0, { entry := { role := 3, width := 3 } })] }, trunks := { trunk := [(0, { state := .retrain })] }, time := { running := true, ticks := 5000, beats := 5120000 } }, 0, by decide +kernel⟩
theorem witness_TrunkEventsComplete_7 : ∃ (s : State) (station : Nat), (s.fabricOn = true) ∧ (station < 16) ∧ ((s.trunk station).state = .up ∧ (s.trunk station).lastGood + 16 ≤ s.tick) :=
  ⟨{ on .grow with ports := { port := [(0, { entry := { role := 3, width := 3 } })] }, trunks := { trunk := [(0, { state := .up })] }, time := { running := true, ticks := 5000, beats := 5120000 } }, 0, by decide +kernel⟩
theorem witness_TrunkEventsComplete_8 : ∃ (s : State) (station vc : Nat), (s.fabricOn = true) ∧ (station < 16 ∧ vc < 8) ∧ (controlVc vc = true ∧ s.flitWaits station vc = true ∧ (s.trunk station).state = .up ∧ Tab.get (s.trunk station).avail 0 vc = 0 ∧ 0 < (Tab.get (s.trunk station).stallTick 0 vc) ∧ (Tab.get (s.trunk station).stallTick 0 vc) + 3 ≤ s.tick) :=
  ⟨{ on .grow with ports := { port := [(0, { entry := { role := 3, width := 3 } })] }, trunks := { trunk := [(0, { state := .up, mgmtOut := [{}], stallTick := [(0, 1)] })] }, time := { running := true, ticks := 5000, beats := 5120000 } }, 0, 0, by decide +kernel⟩
theorem witness_TrunkEventsComplete_9 : ∃ (s : State) (station : Nat), (s.fabricOn = true) ∧ (station < 16) ∧ ((s.trunk station).entry.autoRestart = true ∧ (s.trunk station).state = .broken ∧ (s.trunk station).since + 1024 ≤ s.tick) :=
  ⟨{ on .grow with ports := { port := [(0, { entry := { role := 3, width := 3 } })] }, trunks := { trunk := [(0, { state := .broken, entry := { autoRestart := true } })] }, time := { running := true, ticks := 5000, beats := 5120000 } }, 0, by decide +kernel⟩
theorem witness_TrunkEventsComplete_10 : ∃ (s : State) (station : Nat), (s.fabricOn = true) ∧ (station < 16 ∧ (s.trunk station).state = .up ∧ (s.trunk station).idle = false ∧ s.trunkQuiet station = true) ∧ ((s.idleCount station).any (fun n => decide ((s.trunk station).lastTx + n ≤ s.time.beats)) = true) :=
  ⟨{ on .grow with ports := { port := [(0, { entry := { role := 3, width := 3 } })] }, trunks := { trunk := [(0, { state := .up })] }, time := { running := true, ticks := 5000, beats := 5120000 }, lanes := { lane := [(0, { tidle := 4 })] } }, 0, by decide +kernel⟩
theorem witness_TrunkEventsComplete_11 : ∃ (s : State) (station : Nat), (s.fabricOn = true) ∧ (station < 16) ∧ (s.wakeDue station = true) :=
  ⟨{ on .grow with ports := { port := [(0, { entry := { role := 3, width := 3 } })] }, trunks := { trunk := [(0, { state := .up, idle := true, mgmtOut := [{}] })] }, time := { running := true, ticks := 5000, beats := 5120000 } }, 0, by decide +kernel⟩
theorem witness_TrunkEventsComplete_12 : ∃ (s : State) (station : Nat), (s.fabricOn = true) ∧ (station < 16 ∧ (s.trunk station).state = .hello) ∧ ((s.trunk station).waitFrom.any (fun w => decide (w + 1024 ≤ s.tick)) = true) :=
  ⟨{ on .grow with ports := { port := [(0, { entry := { role := 3, width := 3 } })] }, trunks := { trunk := [(0, { state := .hello, waitFrom := some 0 })] }, time := { running := true, ticks := 5000, beats := 5120000 } }, 0, by decide +kernel⟩
theorem witness_TrunkEventsComplete_13 : ∃ (s : State) (station : Nat), (s.fabricOn = true) ∧ (station < 16) ∧ ((s.trunk station).state = .hello ∧ (s.trunk station).helloTick + 64 ≤ s.tick ∧ (s.trunk station).helloDone = true) :=
  ⟨{ on .grow with ports := { port := [(0, { entry := { role := 3, width := 3 } })] }, trunks := { trunk := [(0, { state := .hello, helloDone := true })] }, time := { running := true, ticks := 5000, beats := 5120000 } }, 0, by decide +kernel⟩
theorem witness_TrunkEventsComplete_14 : ∃ (s : State) (station locked : Nat), (s.fabricOn = true) ∧ (station < 16) ∧ ((s.trunk station).state = .retrain ∧ (s.trunk station).lanesDone = false) :=
  ⟨{ on .grow with ports := { port := [(0, { entry := { role := 3, width := 3 } })] }, trunks := { trunk := [(0, { state := .retrain })] }, time := { running := true, ticks := 5000, beats := 5120000 } }, 0, 16, by decide +kernel⟩
theorem witness_TrunkFlitsComplete_1 : ∃ (s : State) (station lane : Nat) (hello : List (BitVec 10)), (s.fabricOn = true) ∧ (station < 16 ∧ lane < 256) ∧ ((s.trunk station).state = .hello ∧ (s.trunk station).waitFrom.isNone = true ∧ (s.lane lane).loop = 0 ∧ ((s.port (s.trunkPort station)).lanes (s.trunkPort station)).contains lane = true) :=
  ⟨{ on .grow with ports := { port := [(0, { entry := { role := 3, width := 3 } })] }, trunks := { trunk := [(0, { state := .hello })] }, time := { running := true, ticks := 5000, beats := 5120000 } }, 0, 0, [], by decide +kernel⟩
theorem witness_TrunkFlitsComplete_2 : ∃ (s : State) (station lane : Nat) (good : Bool), (s.fabricOn = true) ∧ (station < 16 ∧ lane < 256) ∧ ((s.trunk station).state = .step ∧ (s.lane lane).loop = 0 ∧ ((s.port (s.trunkPort station)).lanes (s.trunkPort station)).contains lane = true) :=
  ⟨{ on .grow with ports := { port := [(0, { entry := { role := 3, width := 3 } })] }, trunks := { trunk := [(0, { state := .step })] }, time := { running := true, ticks := 5000, beats := 5120000 } }, 0, 0, true, by decide +kernel⟩
theorem witness_TrunkFlitsComplete_3 : ∃ (s : State) (station : Nat) (hdr : LinkHeader) (device : BitVec 4) (serial : BitVec 48) (expLess1 : BitVec 12) (free : List Nat), (s.fabricOn = true) ∧ (station < 16) ∧ (s.lolSeen station = false ∧ ((s.trunk station).state = .init ∨ ((s.trunk station).state = .retrain ∧ (s.trunk station).lanesDone = true))) :=
  ⟨{ on .grow with ports := { port := [(0, { entry := { role := 3, width := 3 } })] }, trunks := { trunk := [(0, { state := .init })] }, time := { running := true, ticks := 5000, beats := 5120000 } }, 0, {}, 1, 5, 0xFFF, [], by decide +kernel⟩
theorem witness_TrunkFlitsComplete_4 : ∃ (s : State) (station : Nat) (hdr : LinkHeader) (check : FlitCheck) (msgs : List TrunkMsg), (station < 16) ∧ (s.linked station = true) :=
  ⟨{ on .grow with ports := { port := [(0, { entry := { role := 3, width := 3 } })] }, trunks := { trunk := [(0, { state := .up })] }, time := { running := true, ticks := 5000, beats := 5120000 } }, 0, {}, .good, [], by decide +kernel⟩
theorem witness_TrunkFlitsComplete_5 : ∃ (s : State) (station : Nat) (hdr : LinkHeader) (flitType : BitVec 4) (check : FlitCheck), (station < 16) ∧ (s.linked station = true) :=
  ⟨{ on .grow with ports := { port := [(0, { entry := { role := 3, width := 3 } })] }, trunks := { trunk := [(0, { state := .up })] }, time := { running := true, ticks := 5000, beats := 5120000 } }, 0, {}, 0, .good, by decide +kernel⟩
theorem witness_TrunkFlitsComplete_6 : ∃ (s : State) (station : Nat) (hdr : LinkHeader) (count : Nat) (records : List NakRecord), (station < 16 ∧ s.hears station = true) ∧ (1 ≤ count ∧ count ≤ 16 ∧ ((otherFlit station hdr s).trunk station).state = .up) :=
  ⟨{ on .grow with ports := { port := [(0, { entry := { role := 3, width := 3 } })] }, trunks := { trunk := [(0, { state := .up })] }, time := { running := true, ticks := 5000, beats := 5120000 } }, 0, {}, 1, [], by decide +kernel⟩
theorem witness_TrunkFlitsComplete_7 : ∃ (s : State) (station : Nat) (hdr : LinkHeader) (returned : List (BitVec 16)), (station < 16 ∧ s.hears station = true) :=
  ⟨{ on .grow with ports := { port := [(0, { entry := { role := 3, width := 3 } })] }, trunks := { trunk := [(0, { state := .up })] }, time := { running := true, ticks := 5000, beats := 5120000 } }, 0, {}, [], by decide +kernel⟩
theorem witness_TrunkFlitsComplete_8 : ∃ (s : State) (station : Nat) (hdr : LinkHeader) (kind : BitVec 8) (t1 t2 t3 : BitVec 64), (station < 16) ∧ (s.hears station = true) :=
  ⟨{ on .grow with ports := { port := [(0, { entry := { role := 3, width := 3 } })] }, trunks := { trunk := [(0, { state := .up })] }, time := { running := true, ticks := 5000, beats := 5120000 } }, 0, {}, 0, 0, 0, 0, by decide +kernel⟩
theorem witness_TrunkFlitsComplete_9 : ∃ (s : State) (station : Nat) (hdr : LinkHeader) (device : BitVec 4) (mode : BitVec 8) (serial : BitVec 48) (stamp flags : BitVec 64), (station < 16) ∧ (s.hears station = true) :=
  ⟨{ on .grow with ports := { port := [(0, { entry := { role := 3, width := 3 } })] }, trunks := { trunk := [(0, { state := .up })] }, time := { running := true, ticks := 5000, beats := 5120000 } }, 0, {}, 1, 0, 5, 0, 0, by decide +kernel⟩
theorem witness_TrunkFlitsComplete_10 : ∃ (s : State) (station : Nat) (hdr : LinkHeader) (isAck : Bool) (width rate : BitVec 8) (reason : BitVec 3), (station < 16) ∧ (s.hears station = true) :=
  ⟨{ on .grow with ports := { port := [(0, { entry := { role := 3, width := 3 } })] }, trunks := { trunk := [(0, { state := .up })] }, time := { running := true, ticks := 5000, beats := 5120000 } }, 0, {}, true, 0, 0, 0, by decide +kernel⟩
theorem witness_BridgeAndStewardEventsComplete_1 : ∃ (s : State) (hart : Nat) (store : Bool) (address : BitVec 64) (size : Nat) (data : BitVec 64), (hart < 4 ∧ size < 9) ∧ (s.steward.inReset = false ∧ inRings address = true ∧ ringAligned address size = true) :=
  ⟨{ on .grow with steward := { inReset := false }, dieLink := { state := 2 } }, 3, true, 0x20000000, 4, 0, by decide +kernel⟩
theorem witness_BridgeAndStewardEventsComplete_2 : ∃ (s : State) (hart : Nat) (address : BitVec 64) (size : Nat), (hart < 4 ∧ size < 9) :=
  ⟨{ on .grow with steward := { inReset := false }, dieLink := { state := 2 } }, 3, 0x200A0000, 8, by decide +kernel⟩
theorem witness_BridgeAndStewardEventsComplete_3 : ∃ (s : State) (hart : Nat) (address : BitVec 64) (size : Nat) (data : BitVec 64), (hart < 4 ∧ size < 9) :=
  ⟨{ on .grow with steward := { inReset := false }, dieLink := { state := 2 } }, 3, 0x40000000, 8, 0, by decide +kernel⟩
theorem witness_BridgeAndStewardEventsComplete_4 : ∃ (s : State) (hart : Nat) (address : BitVec 64) (size : Nat) (data : BitVec 64), (hart < 4 ∧ size < 9) :=
  ⟨{ on .grow with steward := { inReset := false }, dieLink := { state := 2 } }, 3, 0x40000000, 8, 0, by decide +kernel⟩
theorem witness_BridgeAndStewardEventsComplete_5 : ∃ (s : State) (hart : Nat) (address : BitVec 64) (size : Nat), (hart < 4 ∧ size < 9) :=
  ⟨{ on .grow with steward := { inReset := false }, dieLink := { state := 2 } }, 3, 0x40000000, 8, by decide +kernel⟩
theorem witness_BridgeAndStewardEventsComplete_6 : ∃ (s : State) (hart : Nat) (address : BitVec 64) (size : Nat) (data : BitVec 64), (hart < 4 ∧ size < 9) :=
  ⟨{ on .grow with steward := { inReset := false }, dieLink := { state := 2 } }, 3, 0x40000000, 8, 0, by decide +kernel⟩
theorem witness_BridgeAndStewardEventsComplete_7 : ∃ (s : State) (hart : Nat) (address : BitVec 64) (size : Nat) (funct : BitVec 5) (data : BitVec 64), (hart < 4 ∧ size < 9) :=
  ⟨{ on .grow with steward := { inReset := false }, dieLink := { state := 2 } }, 3, 0x40000000, 8, 0, 0, by decide +kernel⟩
theorem witness_BridgeAndStewardEventsComplete_8 : ∃ (s : State) (slot : Nat) (status : CplStatus) (data : BitVec 64), (s.fabricOn = true) ∧ (slot < 16) ∧ ((Tab.find s.bridge.slots slot).isSome = true ∧ (s.port ((Tab.get s.bridge.slots {} slot).port)).inL0 = true ∧ s.queueRoom (((Tab.get s.bridge.slots {} slot).port) / 8) clsIo = true) :=
  ⟨{ on .grow with bridge := { slots := [(15, {})] }, time := { running := true, ticks := 100 }, ports := { port := [(0, { entry := { role := 2 }, ltssm := .L0 })] } }, 15, .success, 0, by decide +kernel⟩
theorem witness_BridgeAndStewardEventsComplete_9 : ∃ (s : State) (slot : Nat), (s.fabricOn = true) ∧ (slot < 16) ∧ ((Tab.get s.bridge.slots {} slot).result.isSome = true ∧ (Tab.get s.bridge.slots {} slot).arrived + s.bridge.discard.toNat ≤ s.tick) :=
  ⟨{ on .grow with bridge := { slots := [(15, { result := some (.success, 0) })] }, time := { running := true, ticks := 100 } }, 15, by decide +kernel⟩
theorem witness_BridgeAndStewardEventsComplete_10 : ∃ (s : State) (slot : Nat), (s.fabricOn = true) ∧ (slot < 16) ∧ ((Tab.find s.bridge.slots slot).isSome = true ∧ (Tab.get s.bridge.slots {} slot).result.isNone = true ∧ (Tab.get s.bridge.slots {} slot).sent + s.bridge.cplTimeout.toNat ≤ s.tick) :=
  ⟨{ on .grow with bridge := { slots := [(15, {})] }, time := { running := true, ticks := 100 } }, 15, by decide +kernel⟩
theorem witness_BridgeAndStewardEventsComplete_11 : ∃ (s : State) (semaphore : Nat), (s.fabricOn = true) ∧ (semaphore < 16) ∧ ((Tab.find s.bridge.semaphores semaphore).any (fun x => decide (x.since + 63 ≤ s.tick)) = true) :=
  ⟨{ on .grow with bridge := { semaphores := [(15, {})] }, time := { running := true, ticks := 100 } }, 15, by decide +kernel⟩
theorem witness_BridgeAndStewardEventsComplete_12 : ∃ (s : State) (hart : Nat), (s.fabricOn = true) ∧ (hart < 4) ∧ (0 < (Tab.get s.bridge.semWaits 0 hart) ∧ (Tab.get s.bridge.semWaits 0 hart) - 1 + 8 ≤ s.tick) :=
  ⟨{ on .grow with bridge := { semWaits := [(3, 1)] }, time := { running := true, ticks := 100 } }, 3, by decide +kernel⟩
theorem witness_BridgeAndStewardEventsComplete_13 : ∃ (s : State) (port : Nat) (requester : BitVec 16) (address : BitVec 64) (data : List Byte), (s.fabricOn = true) ∧ (port < 128) ∧ ((s.port port).downstream = true ∧ (s.port port).inL0 = true ∧ s.queueRoom (port / 8) clsIo = true) :=
  ⟨{ on .grow with ports := { port := [(127, { entry := { role := 2, width := 3 }, ltssm := .L0, cxl := true, flit := true })] } }, 127, 0, 0, [], by decide +kernel⟩
theorem witness_BridgeAndStewardEventsComplete_14 : ∃ (s : State) (port : Nat) (kind : Bool) (vendor : BitVec 16) (id : Byte) (requester : BitVec 16) (header : BitVec 128) (payload : List Byte), (s.fabricOn = true) ∧ (port < 128 ∧ (s.port port).inL0 = true) ∧ (((s.port port).upstream = false ∨ s.dev.retryStatus = false)) ∧ (s.queueRoom (port / 8) clsIo = true) :=
  ⟨{ on .grow with ports := { port := [(127, { entry := { role := 2, width := 3 }, ltssm := .L0, cxl := true, flit := true })] } }, 127, true, 0, 0, 0, 0, [], by decide +kernel⟩
theorem witness_BridgeAndStewardEventsComplete_15 : ∃ (s : State) (value : BitVec 32), (s.steward.inReset = false) :=
  ⟨{ on .grow with steward := { inReset := false }, dieLink := { state := 2 } }, 0, by decide +kernel⟩
theorem witness_BridgeAndStewardEventsComplete_16 : ∃ (s : State) (data : List Byte), (s.steward.inReset = false ∧ s.steward.qspiCmd.getLsbD 0 = true) :=
  ⟨{ on .grow with steward := { inReset := false, qspiCmd := 1 }, dieLink := { state := 2 } }, [], by decide +kernel⟩
theorem witness_BridgeAndStewardEventsComplete_17 : ∃ (s : State) , (s.steward.inReset = false) :=
  ⟨{ on .grow with steward := { inReset := false }, dieLink := { state := 2 } }, by decide +kernel⟩
theorem witness_BridgeAndStewardEventsComplete_18 : ∃ (s : State) , (s.steward.inReset = false) :=
  ⟨{ on .grow with steward := { inReset := false }, dieLink := { state := 2 } }, by decide +kernel⟩
theorem witness_BridgeAndStewardEventsComplete_19 : ∃ (s : State) , (s.fabricOn = true) ∧ (s.steward.wdtEnable = true ∧ s.steward.wdtStart + 1024 * s.steward.wdtTimeout.toNat ≤ s.tick) :=
  ⟨{ on .grow with steward := { inReset := false, wdtEnable := true, wdtTimeout := 1 }, time := { running := true, ticks := 1024 } }, by decide +kernel⟩
theorem witness_BridgeAndStewardEventsComplete_20 : ∃ (s : State) (imageA imageB : Option BootImage), (s.fabricOn = true) ∧ (s.steward.inReset = true ∧ 4 ≤ s.dev.stage.toNat) :=
  ⟨{ on .grow with dev := { mode := .grow, inReset := false, stage := 4 } }, none, none, by decide +kernel⟩
theorem witness_BridgeAndStewardEventsComplete_21 : ∃ (s : State) (writer : RegWriter) (address : BitVec 64) (size : Nat) (value : BitVec 64) (hart : Nat), (writer = .hart hart ∧ hart < 4 ∧ size < 9) :=
  ⟨{ on .grow with steward := { inReset := false }, dieLink := { state := 2 } }, .hart 3, 0x20090000, 8, 0, 3, by decide +kernel⟩
theorem witness_BridgeAndStewardEventsComplete_22 : ∃ (s : State) (writer : RegWriter) (address : BitVec 64) (size : Nat) (value : BitVec 64) (port : Nat), (writer = .host port ∧ port < 128 ∧ size < 9) :=
  ⟨{ on .grow with steward := { inReset := false }, dieLink := { state := 2 } }, .host 127, 0x20090000, 8, 0, 127, by decide +kernel⟩
theorem witness_BridgeAndStewardEventsComplete_23 : ∃ (s : State) (writer : RegWriter) (address : BitVec 64) (size : Nat) (value : BitVec 64), ((writer = .jtag ∨ writer = .countersign)) ∧ (size < 9) :=
  ⟨{ on .grow with steward := { inReset := false }, dieLink := { state := 2 } }, .jtag, 0x20090000, 8, 0, by decide +kernel⟩
theorem witness_ResetAndModeEventsComplete_1 : ∃ (s : State) (present : List Nat) (goodA goodB : Bool), (s.dev.vaux = false) :=
  ⟨State.reset, [0], true, true, by decide +kernel⟩
theorem witness_ResetAndModeEventsComplete_2 : ∃ (s : State) , (s.dev.vaux = true) :=
  ⟨{ on .grow with dev := { vaux := true } }, by decide +kernel⟩
theorem witness_ResetAndModeEventsComplete_3 : ∃ (s : State) (present : List Nat), (s.dev.vaux = true ∧ s.dev.pkgReset = false) :=
  ⟨{ State.reset with dev := { vaux := true, pkgReset := false } }, [0], by decide +kernel⟩
theorem witness_ResetAndModeEventsComplete_4 : ∃ (s : State) , (s.dev.vaux = true ∧ s.power.ready = true ∧ s.dev.inReset = true) :=
  ⟨{ State.reset with dev := { vaux := true, inReset := true }, power := { ready := true } }, by decide +kernel⟩
theorem witness_ResetAndModeEventsComplete_5 : ∃ (s : State) (bad : BitVec 5), (s.fabricOn = true) ∧ (s.dev.recordsDue = true) :=
  ⟨{ on .sprout with dev := { inReset := false, recordsDue := true } }, 0, by decide +kernel⟩
theorem witness_ResetAndModeEventsComplete_6 : ∃ (s : State) (failures : List (Nat × Nat)), (s.fabricOn = true) ∧ (s.dev.stage = 4 ∧ s.dev.bistDone = false ∧ s.dev.bistFail = false) :=
  ⟨{ on .sprout with dev := { inReset := false, stage := 4 } }, [], by decide +kernel⟩
theorem witness_ResetAndModeEventsComplete_7 : ∃ (s : State) , (s.fabricOn = true) ∧ (s.dormantWaits = true ∧ s.evcQuiet = false) ∧ (s.dev.transition.any (fun t => decide (t.started + 64 ≤ s.tick)) = true) :=
  ⟨{ on .grow with dev := { mode := .grow, inReset := false, transition := some { target := .dormant } }, evc := { targets := [(0, { faultSlot := true })] }, time := { running := true, ticks := 64 } }, by decide +kernel⟩
theorem witness_ResetAndModeEventsComplete_8 : ∃ (s : State) (source : WakeSource), (s.dev.mode = .dormant ∧ s.dev.inReset = false) :=
  ⟨{ State.reset with dev := { mode := .dormant, inReset := false } }, .wakePin, by decide +kernel⟩
theorem witness_PowerEventsComplete_1 : ∃ (s : State) (index address : Byte) (value : BitVec 24) (crcGood : Bool), (s.fabricOn = true) ∧ (s.registerFree 1 index.toNat address.toNat value = true) :=
  ⟨{ on .grow with power := { ready := true }, time := { running := true, ticks := 1024, beats := 100000000000 } }, 47, 3, 1, true, by decide +kernel⟩
theorem witness_PowerEventsComplete_2 : ∃ (s : State) (index address : Byte) (crcGood : Bool), (s.fabricOn = true) ∧ (s.registerFree 2 index.toNat address.toNat 0 = true) :=
  ⟨{ on .grow with power := { ready := true }, time := { running := true, ticks := 1024, beats := 100000000000 } }, 47, 3, true, by decide +kernel⟩
theorem witness_PowerEventsComplete_3 : ∃ (s : State) (index address : Byte) (value : BitVec 24) (crcGood : Bool), (s.powerOn = true ∧ s.answerFree = true) :=
  ⟨{ on .grow with power := { ready := true }, time := { running := true, ticks := 1024, beats := 100000000000 } }, 47, 3, 1, true, by decide +kernel⟩
theorem witness_PowerEventsComplete_4 : ∃ (s : State) (slot : Nat) (sampleA sampleB : BitVec 12) (crcGood : Bool), (slot < 4) ∧ (s.powerOn = true ∧ s.itemFree slot = true) :=
  ⟨{ on .grow with power := { ready := true }, time := { running := true, ticks := 1024, beats := 100000000000 } }, 3, 5, 5, true, by decide +kernel⟩
theorem witness_PowerEventsComplete_5 : ∃ (s : State) (crcGood : Bool), (s.powerOn = true ∧ s.answerFree = true ∧ s.power.responses.isEmpty = true) :=
  ⟨{ on .grow with power := { ready := true }, time := { running := true, ticks := 1024, beats := 100000000000 } }, true, by decide +kernel⟩
theorem witness_PowerEventsComplete_6 : ∃ (s : State) (address : BitVec 16) (crcGood : Bool), (s.fabricOn = true) ∧ (s.wearFree 6 address.toNat [] = true) :=
  ⟨{ on .grow with power := { ready := true }, time := { running := true, ticks := 1024, beats := 100000000000 } }, 0, true, by decide +kernel⟩
theorem witness_PowerEventsComplete_7 : ∃ (s : State) (address : BitVec 16) (data : List Byte) (crcGood : Bool), (s.fabricOn = true) ∧ (s.wearFree 7 address.toNat (data.take 4) = true) :=
  ⟨{ on .grow with power := { ready := true }, time := { running := true, ticks := 1024, beats := 100000000000 } }, 0, [], true, by decide +kernel⟩
theorem witness_PowerEventsComplete_8 : ∃ (s : State) , (s.fabricOn = true) ∧ (s.power.link = true) :=
  ⟨{ on .grow with power := { ready := true }, time := { running := true, ticks := 1024, beats := 100000000000 } }, by decide +kernel⟩
theorem witness_PowerEventsComplete_9 : ∃ (s : State) , (s.fabricOn = true) ∧ (s.power.link = false ∧ s.power.probeTick + 1024 ≤ s.tick) :=
  ⟨{ on .grow with power := { ready := true, link := false }, time := { running := true, ticks := 1024, beats := 100000000000 } }, by decide +kernel⟩
theorem witness_PowerEventsComplete_10 : ∃ (s : State) (channel : Nat), (channel < 48) ∧ (s.powerOn = true) :=
  ⟨{ on .grow with power := { ready := true }, time := { running := true, ticks := 1024, beats := 100000000000 } }, 47, by decide +kernel⟩
theorem witness_PowerEventsComplete_11 : ∃ (s : State) (channel : Nat), (channel < 48) ∧ (s.powerOn = true) :=
  ⟨{ on .grow with power := { ready := true }, time := { running := true, ticks := 1024, beats := 100000000000 } }, 47, by decide +kernel⟩
theorem witness_PowerEventsComplete_12 : ∃ (s : State) (channel : Nat), (channel < 48) ∧ (s.powerOn = true) :=
  ⟨{ on .grow with power := { ready := true }, time := { running := true, ticks := 1024, beats := 100000000000 } }, 47, by decide +kernel⟩
theorem witness_PowerEventsComplete_13 : ∃ (s : State) (channel : Nat), (channel < 48) ∧ (s.powerOn = true ∧ (s.channel channel).prsnt = false) :=
  ⟨{ on .grow with power := { ready := true }, time := { running := true, ticks := 1024, beats := 100000000000 } }, 47, by decide +kernel⟩
theorem witness_PowerEventsComplete_14 : ∃ (s : State) (channel : Nat), (channel < 48) ∧ (s.powerOn = true ∧ (s.channel channel).state = .debounce ∧ (s.channel channel).since + 100000 ≤ s.sample) :=
  ⟨{ on .grow with power := { ready := true, channels := [(47, { prsnt := true, state := .debounce })], selected := 0, feedA := { closed := true, good := true } }, time := { running := true, ticks := 1024, beats := 100000000000 } }, 47, by decide +kernel⟩
theorem witness_PowerEventsComplete_15 : ∃ (s : State) (channel : Nat), (channel < 48) ∧ (s.powerOn = true ∧ (s.channel channel).prsnt = true ∧ (s.channel channel).retryDue s.sample = true) :=
  ⟨{ on .grow with power := { ready := true, channels := [(47, { prsnt := true, state := .retryWait })], selected := 0, feedA := { closed := true, good := true } }, time := { running := true, ticks := 1024, beats := 100000000000 } }, 47, by decide +kernel⟩
theorem witness_PowerEventsComplete_16 : ∃ (s : State) (channel : Nat), (channel < 48) ∧ (s.powerOn = true ∧ (s.channel channel).prsnt = true) :=
  ⟨{ on .grow with power := { ready := true, channels := [(47, { prsnt := true, state := .on })], selected := 0, feedA := { closed := true, good := true } }, time := { running := true, ticks := 1024, beats := 100000000000 } }, 47, by decide +kernel⟩
theorem witness_PowerEventsComplete_17 : ∃ (s : State) (channel : Nat), (channel < 48) ∧ (s.powerOn = true ∧ (s.channel channel).state = .delay ∧ (s.channel channel).delayOver = false ∧ (s.channel channel).since + 1000000 ≤ s.sample) :=
  ⟨{ on .grow with power := { ready := true, channels := [(47, { prsnt := true, state := .delay })], selected := 0, feedA := { closed := true, good := true } }, time := { running := true, ticks := 1024, beats := 100000000000 } }, 47, by decide +kernel⟩
theorem witness_PowerEventsComplete_18 : ∃ (s : State) (channel : Nat) (vout : BitVec 12), (channel < 48) ∧ (s.powerOn = true ∧ (s.channel channel).state = .ramp ∧ s.voutReached vout.toNat = true) :=
  ⟨{ on .grow with power := { ready := true, channels := [(47, { prsnt := true, state := .ramp })], selected := 0, feedA := { closed := true, good := true } }, time := { running := true, ticks := 1024, beats := 100000000000 } }, 47, 4095, by decide +kernel⟩
theorem witness_PowerEventsComplete_19 : ∃ (s : State) (channel : Nat), (channel < 48) ∧ (s.powerOn = true ∧ s.qualified (s.channel channel) = true) :=
  ⟨{ on .grow with power := { ready := true, channels := [(47, { prsnt := true, state := .qualify })], selected := 0, feedA := { closed := true, good := true } }, time := { running := true, ticks := 1024, beats := 100000000000 } }, 47, by decide +kernel⟩
theorem witness_PowerEventsComplete_20 : ∃ (s : State) (channel : Nat), (channel < 48) ∧ (s.powerOn = true ∧ (s.channel channel).timerOver s.sample = true) :=
  ⟨{ on .grow with power := { ready := true, channels := [(47, { prsnt := true, state := .on, inLimit := true, limitSince := some 0 })], selected := 0, feedA := { closed := true, good := true } }, time := { running := true, ticks := 1024, beats := 100000000000 } }, 47, by decide +kernel⟩
theorem witness_PowerEventsComplete_21 : ∃ (s : State) (channel shunt : Nat), (channel < 48) ∧ (s.powerOn = true ∧ (s.channel channel).driven = true ∧ 2 * (s.channel channel).limit.toNat < shunt) :=
  ⟨{ on .grow with power := { ready := true, channels := [(47, { prsnt := true, state := .on })], selected := 0, feedA := { closed := true, good := true } }, time := { running := true, ticks := 1024, beats := 100000000000 } }, 47, 4095, by decide +kernel⟩
theorem witness_PowerEventsComplete_22 : ∃ (s : State) (channel : Nat), (channel < 48) ∧ (s.powerOn = true ∧ (s.channel channel).state = .ramp ∧ (s.channel channel).since + s.rampLimit (s.channel channel) ≤ s.sample) :=
  ⟨{ on .grow with power := { ready := true, channels := [(47, { prsnt := true, state := .ramp })], selected := 0, feedA := { closed := true, good := true } }, time := { running := true, ticks := 1024, beats := 100000000000 } }, 47, by decide +kernel⟩
theorem witness_PowerEventsComplete_23 : ∃ (s : State) (channel : Nat), (channel < 48) ∧ (s.powerOn = true ∧ (s.channel channel).state = .ramp ∧ (s.channel channel).since + (s.channel channel).grise.toNat * 1000 ≤ s.sample) :=
  ⟨{ on .grow with power := { ready := true, channels := [(47, { prsnt := true, state := .ramp })], selected := 0, feedA := { closed := true, good := true } }, time := { running := true, ticks := 1024, beats := 100000000000 } }, 47, by decide +kernel⟩
theorem witness_PowerEventsComplete_24 : ∃ (s : State) (channel : Nat), (channel < 48) ∧ (s.powerOn = true ∧ (s.channel channel).retryDue s.sample = true) :=
  ⟨{ on .grow with power := { ready := true, channels := [(47, { prsnt := true, state := .retryWait })], selected := 0, feedA := { closed := true, good := true } }, time := { running := true, ticks := 1024, beats := 100000000000 } }, 47, by decide +kernel⟩
theorem witness_PowerEventsComplete_25 : ∃ (s : State) (channel : Nat), (channel < 48) ∧ (s.powerOn = true ∧ (s.channel channel).state = .on ∧ ((s.channel channel).pgSince.any (fun t => decide (t + 60000000 ≤ s.sample))) = true) :=
  ⟨{ on .grow with power := { ready := true, channels := [(47, { prsnt := true, state := .on, pg := true, pgSince := some 0 })], selected := 0, feedA := { closed := true, good := true } }, time := { running := true, ticks := 1024, beats := 100000000000 } }, 47, by decide +kernel⟩
theorem witness_PowerEventsComplete_26 : ∃ (s : State) (channel : Nat), (channel < 48) ∧ (s.powerOn = true ∧ (s.channel channel).canStick = true) :=
  ⟨{ on .grow with power := { ready := true, channels := [(47, { state := .off })], selected := 0, feedA := { closed := true, good := true } }, time := { running := true, ticks := 1024, beats := 100000000000 } }, 47, by decide +kernel⟩
theorem witness_PowerEventsComplete_27 : ∃ (s : State) (feed : Feed), (s.powerOn = true ∧ (s.power.feed feed).bad = false) :=
  ⟨{ on .grow with power := { ready := true }, time := { running := true, ticks := 1024, beats := 100000000000 } }, .B, by decide +kernel⟩
theorem witness_PowerEventsComplete_28 : ∃ (s : State) (feed : Feed), (s.powerOn = true ∧ (s.power.feed feed).good = false) :=
  ⟨{ on .grow with power := { ready := true }, time := { running := true, ticks := 1024, beats := 100000000000 } }, .B, by decide +kernel⟩
theorem witness_PowerEventsComplete_29 : ∃ (s : State) , (s.powerOn = true ∧ s.power.switchingTo.isNone = true ∧ s.power.selected = 1 ∧ s.power.feedA.good = true ∧ s.power.feedA.goodSince + 1000000 ≤ s.sample) :=
  ⟨{ on .grow with power := { ready := true, selected := 1, feedA := { good := true } }, time := { running := true, ticks := 1024, beats := 100000000000 } }, by decide +kernel⟩
theorem witness_PowerEventsComplete_30 : ∃ (s : State) (fd : Feed), (s.powerOn = true ∧ s.power.switchingTo = some fd) ∧ (s.power.switchSince + s.power.feedA.dead.toNat ≤ s.sample) :=
  ⟨{ on .grow with power := { ready := true, switchingTo := some .B }, time := { running := true, ticks := 1024, beats := 100000000000 } }, .B, by decide +kernel⟩
theorem witness_PowerEventsComplete_31 : ∃ (s : State) (channel : Nat), (s.fabricOn = true) ∧ (channel < 48) ∧ ((s.chCopy channel).pg = true ∧ (s.chCopy channel).perst = true ∧ (s.chCopy channel).pgTick + 97657 ≤ s.tick) :=
  ⟨{ on .grow with power := { ready := true, copies := [(47, { pg := true })] }, time := { running := true, ticks := 97657 } }, 47, by decide +kernel⟩
theorem witness_PowerEventsComplete_32 : ∃ (s : State) (channel : Nat), (s.fabricOn = true) ∧ (channel < 48) ∧ ((s.chCopy channel).pg = true ∧ (s.channel channel).pg = false) :=
  ⟨{ on .grow with power := { ready := true, copies := [(47, { pg := true })] } }, 47, by decide +kernel⟩
theorem witness_HostRequestsComplete_1 : ∃ (s : State) (port : Nat) (hpa : BitVec 64) (mf : MetaField) (mv : MetaValue) (snpNoOp : Bool), (port < 128) ∧ (s.requestReaches port false = true) :=
  ⟨serving1, 0, 64, .meta0, .S, false, by decide +kernel⟩
theorem witness_HostRequestsComplete_2 : ∃ (s : State) (port : Nat) (hpa : BitVec 64) (snpNoOp : Bool), (port < 128) ∧ (s.requestReaches port false = true) :=
  ⟨serving1, 0, 64, false, by decide +kernel⟩
theorem witness_HostRequestsComplete_3 : ∃ (s : State) (port : Nat) (hpa : BitVec 64) (mf : MetaField) (mv : MetaValue) (snpNoOp nt : Bool), (port < 128) ∧ (s.requestReaches port false = true) :=
  ⟨serving1, 0, 64, .meta0, .A, false, false, by decide +kernel⟩
theorem witness_HostRequestsComplete_4 : ∃ (s : State) (port : Nat) (hpa : BitVec 64) (mf : MetaField) (mv : MetaValue) (snpNoOp : Bool) (data : Line) (poison : Bool), (port < 128) ∧ (s.requestReaches port true = true) :=
  ⟨serving1, 0, 64, .meta0, .I, false, 5, false, by decide +kernel⟩
theorem witness_HostRequestsComplete_5 : ∃ (s : State) (port : Nat) (hpa : BitVec 64) (mf : MetaField) (mv : MetaValue) (snpNoOp : Bool) (data : Line) (mask : BitVec 64) (poison : Bool), (port < 128) ∧ (s.requestReaches port true = true) :=
  ⟨serving1, 0, 64, .meta0, .I, false, 5, 1, false, by decide +kernel⟩
theorem witness_HostRequestsComplete_6 : ∃ (s : State) (port : Nat) (hpa : BitVec 64), (port < 128 ∧ s.requestReaches port false = true) :=
  ⟨serving1, 0, 64, by decide +kernel⟩
theorem witness_HostRequestsComplete_7 : ∃ (s : State) (port : Nat) (hpa : BitVec 64), (port < 128) ∧ (s.memReaches port clsResponse = true) :=
  ⟨serving1, 0, 64, by decide +kernel⟩
theorem witness_HostRequestsComplete_8 : ∃ (s : State) (port : Nat) (hpa : BitVec 64), (port < 128) ∧ (s.memReaches port clsResponse = true) :=
  ⟨serving1, 0, 64, by decide +kernel⟩
theorem witness_HostRequestsComplete_9 : ∃ (s : State) (port : Nat) (hpa : BitVec 64), (port < 128) ∧ (s.memReaches port clsResponse = true) :=
  ⟨serving1, 0, 64, by decide +kernel⟩
theorem witness_HostRequestsComplete_10 : ∃ (s : State) (port : Nat) (hpa : BitVec 64), (port < 128) ∧ (s.memReaches port clsResponse = true) :=
  ⟨serving1, 0, 64, by decide +kernel⟩
theorem witness_HostRequestsComplete_11 : ∃ (s : State) (port vppb : Nat) (offset : BitVec 64) (op : AtomOp) (size : Nat) (a b : BitVec 128), (port < 128 ∧ vppb < 17) ∧ (s.apertureReaches port = true ∧ inAperture offset = true) :=
  ⟨serving1, 0, 0, 64, .fetchAdd, 8, 1, 0, by decide +kernel⟩
theorem witness_HostRequestsComplete_12 : ∃ (s : State) (port vppb : Nat) (offset : BitVec 64), (port < 128 ∧ vppb < 17) ∧ (s.apertureReaches port = true ∧ inAperture offset = true) :=
  ⟨serving1, 0, 0, 64, by decide +kernel⟩
theorem witness_HostRequestsComplete_13 : ∃ (s : State) (port vppb : Nat) (offset : BitVec 64) (data : Line) (mask : BitVec 64), (port < 128 ∧ vppb < 17) ∧ (s.apertureReaches port = true ∧ inAperture offset = true) :=
  ⟨serving1, 0, 0, 64, 5, 1, by decide +kernel⟩
theorem witness_HostRequestsComplete_14 : ∃ (s : State) (station : Nat) (flitTag : BitVec 12) (good : Bool), (s.fabricOn = true) ∧ (station < 16) :=
  ⟨on .grow, 15, 0xFFF, false, by decide +kernel⟩
theorem witness_HostRequestsComplete_15 : ∃ (s : State) , (s.fabricOn = true) ∧ (s.switch.matched ≠ 1 + s.time.beats) :=
  ⟨on .grow, by decide +kernel⟩
theorem witness_HostRequestsComplete_16 : ∃ (s : State) (plot : Nat), (s.fabricOn = true) ∧ (plot < 512) ∧ ((s.qos plot).replenished ≠ s.tick + 1 ∧ s.now.toNat % 1024 = plot % 64) :=
  ⟨{ on .grow with time := { running := true, now := 63 } }, 511, by decide +kernel⟩
theorem witness_TellerEventsComplete_1 : ∃ (s : State) (ring : Nat) (value : BitVec 32), (ring < 16) :=
  ⟨on .grow, 13, 1, by decide +kernel⟩
theorem witness_TellerEventsComplete_2 : ∃ (s : State) (ring : Nat) (value : BitVec 32), (ring < 16) :=
  ⟨on .grow, 13, 0, by decide +kernel⟩
theorem witness_TellerEventsComplete_3 : ∃ (s : State) (ring : Nat), (s.fabricOn = true) ∧ (ring < 16) :=
  ⟨on .grow, 15, by decide +kernel⟩
theorem witness_TellerEventsComplete_4 : ∃ (s : State) (ring : Nat), (ring < 16) :=
  ⟨on .grow, 15, by decide +kernel⟩
theorem witness_TellerEventsComplete_5 : ∃ (s : State) (ring : Nat) (tag : BitVec 32) (f : Forward), (s.fabricOn = true) ∧ (ring < 16 ∧ s.teller.forwards.find? (fun x => decide (x.ring = ring ∧ x.tag = tag)) = some f ∧ f.late s.tick = true) :=
  ⟨{ on .grow with teller := { forwards := [{ ring := 15, tag := 7 }] }, time := { running := true, ticks := 64 } }, 15, 7, { ring := 15, tag := 7 }, by decide +kernel⟩
theorem witness_TellerEventsComplete_6 : ∃ (s : State) (offset : BitVec 16) (data : List Byte), (s.portLive = true) :=
  ⟨on .grow, 0, [], by decide +kernel⟩
theorem witness_TellerEventsComplete_7 : ∃ (s : State) (address : BitVec 7) (byEntdaa : Bool), (s.portLive = true) :=
  ⟨on .grow, 5, true, by decide +kernel⟩
theorem witness_TellerEventsComplete_8 : ∃ (s : State) , (s.fabricOn = true) ∧ (s.time.running = true) :=
  ⟨{ on .grow with time := { running := true, seasonK := 10, now := 1048570 } }, by decide +kernel⟩
theorem witness_TellerEventsComplete_9 : ∃ (s : State) , (s.fabricOn = true) ∧ (s.time.running = true ∧ s.time.corrDue = true) :=
  ⟨{ on .grow with time := { running := true, corrDue := true } }, by decide +kernel⟩
theorem witness_TellerEventsComplete_10 : ∃ (s : State) , (s.fabricOn = true) ∧ (s.time.sync = .inSync ∧ s.time.lastExchange + 4 ≤ s.tick) :=
  ⟨{ on .grow with time := { running := true, sync := .inSync, ticks := 4 } }, by decide +kernel⟩
theorem witness_TellerEventsComplete_11 : ∃ (s : State) , (s.fabricOn = true) ∧ (s.time.sync = .holdover ∧ s.time.lastExchange + 64 ≤ s.tick) :=
  ⟨{ on .grow with time := { running := true, sync := .holdover, ticks := 64 } }, by decide +kernel⟩
theorem witness_TellerEventsComplete_12 : ∃ (s : State) , (s.fabricOn = true) ∧ (s.dieUp = true) :=
  ⟨{ on .grow with steward := { inReset := false }, dieLink := { state := 2 } }, by decide +kernel⟩
theorem witness_TellerEventsComplete_13 : ∃ (s : State) , (s.fabricOn = true) ∧ (s.ctr.trigBeat.isSome = true) :=
  ⟨{ on .grow with ctr := { trigBeat := some 0 } }, by decide +kernel⟩
theorem witness_TellerEventsComplete_14 : ∃ (s : State) , (s.fabricOn = true) ∧ (s.ledger.drained ≠ 1 + s.time.beats) :=
  ⟨on .grow, by decide +kernel⟩
theorem witness_TellerEventsComplete_15 : ∃ (s : State) , (s.fabricOn = true) :=
  ⟨on .grow, by decide +kernel⟩
theorem witness_TellerEventsComplete_16 : ∃ (s : State) , (s.dev.vaux = true) :=
  ⟨{ State.reset with dev := { vaux := true } }, by decide +kernel⟩
theorem witness_TellerEventsComplete_17 : ∃ (s : State) (celsius : Int), (s.fabricOn = true) ∧ (s.thermalDue = true) :=
  ⟨on .grow, 95, by decide +kernel⟩
theorem witness_TellerEventsComplete_18 : ∃ (s : State) , (s.dev.vaux = true ∧ s.dev.thermalTripped = false) :=
  ⟨{ State.reset with dev := { vaux := true } }, by decide +kernel⟩
theorem witness_TellerEventsComplete_19 : ∃ (s : State) (up : Bool), (s.vidMay up = true) :=
  ⟨{ on .grow with time := { running := true, ticks := 1024 } }, true, by decide +kernel⟩
theorem witness_TellerEventsComplete_20 : ∃ (s : State) (repairs failing : Nat) (mask : Nat) (rest : List Nat), (s.fabricOn = true) ∧ (s.dev.healthBist = mask :: rest) :=
  ⟨{ on .grow with dev := { mode := .grow, inReset := false, healthBist := [5] } }, 0, 0, 5, [], by decide +kernel⟩
theorem witness_TellerEventsComplete_21 : ∃ (s : State) (vmin : Nat) (supply : Nat) (rest : List Nat), (s.fabricOn = true) ∧ (s.dev.healthVmin = supply :: rest) :=
  ⟨{ on .grow with dev := { mode := .grow, inReset := false, healthVmin := [1] } }, 700, 1, [], by decide +kernel⟩
theorem witness_EventAndDieLinkEventsComplete_1 : ∃ (s : State) (source : Nat), (s.fabricOn = true) ∧ (source < 2048) :=
  ⟨on .grow, 2047, by decide +kernel⟩
theorem witness_EventAndDieLinkEventsComplete_2 : ∃ (s : State) (target : Nat), (s.fabricOn = true) ∧ (target < 4) :=
  ⟨on .grow, 3, by decide +kernel⟩
theorem witness_EventAndDieLinkEventsComplete_3 : ∃ (s : State) (target : Nat), (s.fabricOn = true) ∧ (target < 4) :=
  ⟨on .grow, 3, by decide +kernel⟩
theorem witness_EventAndDieLinkEventsComplete_4 : ∃ (s : State) (target source priority : Nat), (target < 4 ∧ source < 2048) :=
  ⟨on .grow, 3, 2047, 5, by decide +kernel⟩
theorem witness_EventAndDieLinkEventsComplete_5 : ∃ (s : State) (hart : Nat), (hart < 4) :=
  ⟨on .grow, 3, by decide +kernel⟩
theorem witness_EventAndDieLinkEventsComplete_6 : ∃ (s : State) (hart source : Nat), (hart < 4 ∧ source < 2048) :=
  ⟨on .grow, 3, 2047, by decide +kernel⟩
theorem witness_EventAndDieLinkEventsComplete_7 : ∃ (s : State) (hart : Nat) (value : BitVec 32), (hart < 4) :=
  ⟨{ on .grow with steward := { inReset := false }, dieLink := { state := 2 } }, 3, 5, by decide +kernel⟩
theorem witness_EventAndDieLinkEventsComplete_8 : ∃ (s : State) (word : Nat) (value : BitVec 64), (word < 32) :=
  ⟨{ on .grow with steward := { inReset := false }, dieLink := { state := 2 } }, 31, 1, by decide +kernel⟩
theorem witness_EventAndDieLinkEventsComplete_9 : ∃ (s : State) , (s.fabricOn = true) ∧ (s.dieUp = true) :=
  ⟨{ on .grow with steward := { inReset := false }, dieLink := { state := 2 } }, by decide +kernel⟩
theorem witness_EventAndDieLinkEventsComplete_10 : ∃ (s : State) (free : List Nat), (s.fabricOn = true) ∧ (4 ≤ s.dev.stage.toNat ∧ s.dieUp = false) :=
  ⟨{ on .grow with dev := { mode := .grow, inReset := false, stage := 4 } }, [64, 16, 64, 0, 64, 4], by decide +kernel⟩
theorem witness_EventAndDieLinkEventsComplete_11 : ∃ (s : State) (dir : LinkDir) (expected : BitVec 10), (s.fabricOn = true) ∧ (s.dieUp = true ∧ s.nakFits dir expected = true) :=
  ⟨{ on .grow with steward := { inReset := false }, dieLink := { state := 2 } }, .toFabric, 0, by decide +kernel⟩
theorem witness_EventAndDieLinkEventsComplete_12 : ∃ (s : State) (dir : LinkDir) (channel count : Nat), (s.fabricOn = true) ∧ (channel < 8 ∧ count < 64) ∧ (s.dieUp = true) :=
  ⟨{ on .grow with steward := { inReset := false }, dieLink := { state := 2 } }, .toFabric, 7, 63, by decide +kernel⟩
theorem witness_EventAndDieLinkEventsComplete_13 : ∃ (s : State) (dir : LinkDir), (s.fabricOn = true) ∧ (s.dieUp = true ∧ (s.dieLink.dir dir).replay.isEmpty = false ∧ (s.dieLink.dir dir).ackBeat + 256 ≤ s.time.beats) :=
  ⟨{ on .grow with dieLink := { state := 2, toFabric := { replay := [{}] } }, time := { running := true, beats := 256 } }, .toFabric, by decide +kernel⟩
theorem witness_EventAndDieLinkEventsComplete_14 : ∃ (s : State) (hart : Nat), (s.fabricOn = true) ∧ (hart < 4) ∧ (s.dieUp = false ∧ (s.hart hart).waits.isSome = true ∧ s.dieLink.downTick + 1024 ≤ s.tick) :=
  ⟨{ on .grow with steward := { harts := [(3, { waits := some 0 })] }, time := { running := true, ticks := 1024 } }, 3, by decide +kernel⟩
theorem witness_EventAndDieLinkEventsComplete_15 : ∃ (s : State) (dir : LinkDir), (s.fabricOn = true) ∧ (s.dieUp = true) :=
  ⟨{ on .grow with steward := { inReset := false }, dieLink := { state := 2 } }, .toFabric, by decide +kernel⟩
theorem witness_EventAndDieLinkEventsComplete_16 : ∃ (s : State) (dir : LinkDir) (hdr : DieHeader), (s.malformedArrives dir hdr = true) :=
  ⟨{ on .grow with steward := { inReset := false }, dieLink := { state := 2 } }, .toFabric, { channel := 6, typ := 0xF }, by decide +kernel⟩
theorem witness_EventAndDieLinkEventsComplete_17 : ∃ (s : State) , (s.fabricOn = true) ∧ (s.dieUp = true ∧ s.time.broadcastDue = true) :=
  ⟨{ on .grow with dieLink := { state := 2 }, time := { running := true, broadcastDue := true } }, by decide +kernel⟩
theorem witness_EventAndDieLinkEventsComplete_18 : ∃ (s : State) , (s.fabricOn = true) :=
  ⟨on .grow, by decide +kernel⟩
theorem witness_StepRunsFrontCommand_1 : ∃ (s : State) (c : Instr) (rest : List Instr), (s.pending = c :: rest) :=
  ⟨{ pending := [.watchdogKick, .almNowLowLoad] }, .watchdogKick, [.almNowLowLoad], by decide +kernel⟩
theorem witness_StepRunsFrontCommand_2 : ∃ (s : State), (s.pending = []) :=
  ⟨State.reset, by decide +kernel⟩
theorem witness_IllFormedCommandsStop_1 : ∃ (c : Instr) (s : State), (c.wf = false) :=
  ⟨.devIdentify 16, State.reset, by decide +kernel⟩
theorem witness_IllFormedCommandsStop_2 : ∃ (c : Instr) (s : State), (c.wf = true) :=
  ⟨.devIdentify 15, State.reset, by decide +kernel⟩
theorem witness_WellFormedQueueIsKept_1 : ∃ (s : State), (s.queueWf) :=
  ⟨{ pending := [.watchdogKick, .devIdentify 15] }, by simp [State.queueWf, Instr.wf]⟩
theorem witness_ResetHolds_3 : ∃ (n : Nat), (n < 16) :=
  ⟨15, by decide +kernel⟩
theorem witness_RefusedCommandOnlyAnswers_1 : ∃ (i : Instr) (s : State) (op ring status : Nat), (i.command = some (op, ring) ∧ ring < 16) ∧ (s.waitsFor op ring false = true ∧ s.startFree = true) ∧ ((takeCommand ring (s.front ring) s).held (s.front ring) = none) ∧ ((s.taken ring).firstFailure (s.front ring) = some status) :=
  ⟨.devIdentify 0, cmd (on .grow) 0 (word 0x0101 0 0 + 2^19), 0x0101, 0, stReserved, by decide +kernel⟩
theorem witness_RefusedCommandOnlyAnswers_2 : ∃ (i : Instr) (s : State) (op ring status : Nat), (i.command = some (op, ring) ∧ ring < 16) ∧ (s.waitsFor op ring false = true ∧ s.startFree = true) ∧ ((takeCommand ring (s.front ring) s).held (s.front ring) = none) ∧ ((s.taken ring).firstFailure (s.front ring) = some status) ∧ (s.memoriesWf ∧ Tab.above none s.teller.rings = true ∧ ¬ (ring = 15 ∧ op = 0x0207)) ∧ ((s.taken ring).receiptWaits ring = false) :=
  ⟨.devIdentify 0, cmd (on .grow) 0 (word 0x0101 0 0 + 2^19), 0x0101, 0, stReserved, by simp only [State.memoriesWf]; decide +kernel⟩
theorem witness_RefusedCommandOnlyAnswers_3 : ∃ (i : Instr) (s : State) (op ring : Nat) (e : HistEntry), (i.command = some (op, ring) ∧ ring < 16) ∧ (s.waitsFor op ring false = true ∧ s.startFree = true) ∧ ((takeCommand ring (s.front ring) s).held (s.front ring) = some e) :=
  ⟨.devIdentify 0, (cmd (on .grow) 0 (word 0x0101 0 0)).modRing 0 (fun r => { r with history := [{ tag := 7, opcode := 0x0101 }] }), 0x0101, 0, { tag := 7, opcode := 0x0101 }, by decide +kernel⟩
theorem witness_RingRegisterWrites_1 : ∃ (ring : Nat) (value : BitVec 32) (s u : State), (ring < 13 ∧ s.fabricOn = true ∧ s.stewardCanReach chTeller = true) ∧ (fromSteward chTeller 0 (.access true (BitVec.ofNat 64 (0x20006000 + 0x8000 * ring)) 4 (value.setWidth 64)) ((deliverNext (fun f => f.channel == chCompletion && f.hart == 0) s).modHart 0 (fun h => { h with access := some (true, (BitVec.ofNat 64 (0x20006000 + 0x8000 * ring))) })) = u) ∧ ((value.truncate 16 - (u.ring ring).cmdHead).toNat ≤ 256) :=
  ⟨12, 256, { on .grow with teller := { rings := Tab.set [] (ringReset 12) 12 { enable := true } }, dieLink := { state := 2 } }, fromSteward chTeller 0 (.access true (BitVec.ofNat 64 (0x20006000 + 0x8000 * 12)) 4 (BitVec.setWidth 64 256#32)) ((deliverNext (fun f => f.channel == chCompletion && f.hart == 0) ({ on .grow with teller := { rings := Tab.set [] (ringReset 12) 12 { enable := true } }, dieLink := { state := 2 } })).modHart 0 (fun h => { h with access := some (true, (BitVec.ofNat 64 (0x20006000 + 0x8000 * 12))) })), by decide +kernel⟩
theorem witness_RingRegisterWrites_2 : ∃ (value : BitVec 32) (s : State), (s.dev.inReset = false ∧ s.dev.mode ≠ .dormant) ∧ ((value.truncate 16 - (s.ring 13).cmdHead).toNat ≤ 256) :=
  ⟨256, on .grow, by decide +kernel⟩
theorem witness_RingRegisterWrites_3 : ∃ (ring : Nat) (value : BitVec 32) (s u : State), (ring < 13 ∧ s.fabricOn = true ∧ s.stewardCanReach chTeller = true) ∧ (fromSteward chTeller 0 (.access true (BitVec.ofNat 64 (0x20006000 + 0x8000 * ring)) 4 (value.setWidth 64)) ((deliverNext (fun f => f.channel == chCompletion && f.hart == 0) s).modHart 0 (fun h => { h with access := some (true, (BitVec.ofNat 64 (0x20006000 + 0x8000 * ring))) })) = u) ∧ (256 < (value.truncate 16 - (u.ring ring).cmdHead).toNat) :=
  ⟨12, 257, { on .grow with teller := { rings := Tab.set [] (ringReset 12) 12 { enable := true } }, dieLink := { state := 2 } }, fromSteward chTeller 0 (.access true (BitVec.ofNat 64 (0x20006000 + 0x8000 * 12)) 4 (BitVec.setWidth 64 257#32)) ((deliverNext (fun f => f.channel == chCompletion && f.hart == 0) ({ on .grow with teller := { rings := Tab.set [] (ringReset 12) 12 { enable := true } }, dieLink := { state := 2 } })).modHart 0 (fun h => { h with access := some (true, (BitVec.ofNat 64 (0x20006000 + 0x8000 * 12))) })), by decide +kernel⟩
theorem witness_RingRegisterWrites_4 : ∃ (value : BitVec 32) (s : State), (s.dev.inReset = false ∧ s.dev.mode ≠ .dormant) ∧ (256 < (value.truncate 16 - (s.ring 13).cmdHead).toNat) :=
  ⟨257, on .grow, by decide +kernel⟩
theorem witness_RingRegisterWrites_5 : ∃ (value : BitVec 32) (s : State), (s.dev.inReset = false ∧ s.dev.mode = .dormant) ∧ ((value.truncate 16 - (s.ring 13).cmdHead).toNat ≤ 256) :=
  ⟨1, on .dormant, by decide +kernel⟩
theorem witness_RingRegisterWrites_6 : ∃ (ring : Nat) (value : BitVec 32) (s u : State), (ring < 13 ∧ s.fabricOn = true ∧ s.stewardCanReach chTeller = true) ∧ (fromSteward chTeller 0 (.access true (BitVec.ofNat 64 (0x2000600C + 0x8000 * ring)) 4 (value.setWidth 64)) ((deliverNext (fun f => f.channel == chCompletion && f.hart == 0) s).modHart 0 (fun h => { h with access := some (true, (BitVec.ofNat 64 (0x2000600C + 0x8000 * ring))) })) = u) ∧ (((u.ring ring).rcptTail - value.truncate 16).toNat ≤ 256) :=
  ⟨12, 3, { on .grow with teller := { rings := Tab.set [] (ringReset 12) 12 { enable := true, rcptTail := 3 } }, dieLink := { state := 2 } }, fromSteward chTeller 0 (.access true (BitVec.ofNat 64 (0x2000600C + 0x8000 * 12)) 4 (BitVec.setWidth 64 3#32)) ((deliverNext (fun f => f.channel == chCompletion && f.hart == 0) ({ on .grow with teller := { rings := Tab.set [] (ringReset 12) 12 { enable := true, rcptTail := 3 } }, dieLink := { state := 2 } })).modHart 0 (fun h => { h with access := some (true, (BitVec.ofNat 64 (0x2000600C + 0x8000 * 12))) })), by decide +kernel⟩
theorem witness_RingRegisterWrites_7 : ∃ (value : BitVec 32) (s : State), (s.dev.inReset = false) ∧ (((s.ring 13).rcptTail - value.truncate 16).toNat ≤ 256) :=
  ⟨3, { on .grow with teller := { rings := Tab.set [] (ringReset 13) 13 { enable := true, rcptTail := 3 } } }, by decide +kernel⟩
theorem witness_RingRegisterWrites_8 : ∃ (ring : Nat) (value : BitVec 32) (s u : State), (ring < 13 ∧ s.fabricOn = true ∧ s.stewardCanReach chTeller = true) ∧ (fromSteward chTeller 0 (.access true (BitVec.ofNat 64 (0x2000600C + 0x8000 * ring)) 4 (value.setWidth 64)) ((deliverNext (fun f => f.channel == chCompletion && f.hart == 0) s).modHart 0 (fun h => { h with access := some (true, (BitVec.ofNat 64 (0x2000600C + 0x8000 * ring))) })) = u) ∧ (256 < ((u.ring ring).rcptTail - value.truncate 16).toNat) :=
  ⟨12, 4, { on .grow with teller := { rings := Tab.set [] (ringReset 12) 12 { enable := true, rcptTail := 3 } }, dieLink := { state := 2 } }, fromSteward chTeller 0 (.access true (BitVec.ofNat 64 (0x2000600C + 0x8000 * 12)) 4 (BitVec.setWidth 64 4#32)) ((deliverNext (fun f => f.channel == chCompletion && f.hart == 0) ({ on .grow with teller := { rings := Tab.set [] (ringReset 12) 12 { enable := true, rcptTail := 3 } }, dieLink := { state := 2 } })).modHart 0 (fun h => { h with access := some (true, (BitVec.ofNat 64 (0x2000600C + 0x8000 * 12))) })), by decide +kernel⟩
theorem witness_RingRegisterWrites_9 : ∃ (value : BitVec 32) (s : State), (s.dev.inReset = false) ∧ (256 < ((s.ring 13).rcptTail - value.truncate 16).toNat) :=
  ⟨4, { on .grow with teller := { rings := Tab.set [] (ringReset 13) 13 { enable := true, rcptTail := 3 } } }, by decide +kernel⟩
theorem witness_RingRegisterWrites_10 : ∃ (ring : Nat) (d : Returned) (rest : List Returned) (s : State), (ring < 16 ∧ s.fabricOn = true) ∧ ((s.ring ring).deferred = d :: rest ∧ (s.ring ring).unread < 256) :=
  ⟨0, { receipt := { tag := 9 } }, [], { on .grow with teller := { rings := Tab.set [] (ringReset 0) 0 { enable := true, deferred := [{ receipt := { tag := 9 } }] } } , dieLink := { state := 2 } }, by decide +kernel⟩
theorem witness_RingRegisterWrites_11 : ∃ (offset : BitVec 16) (data : List Byte) (s : State), (s.dev.inReset = false ∧ offset.toNat + data.length ≤ 0x4000) :=
  ⟨0x3FFE, [1, 2], on .dormant, by decide +kernel⟩
theorem witness_RingRegisterWrites_12 : ∃ (offset : BitVec 16) (data : List Byte) (s : State), (s.fabricOn = true) ∧ (0x7000 ≤ offset.toNat ∧ offset.toNat + data.length ≤ 0x8000) :=
  ⟨0x7FFE, [1, 2], on .grow, by decide +kernel⟩
theorem witness_RingRegisterWrites_13 : ∃ (offset : BitVec 16) (data : List Byte) (s : State), (s.dev.inReset = false) ∧ (0x4000 ≤ offset.toNat ∧ offset.toNat + data.length ≤ 0x6000) :=
  ⟨0x4000, [1, 2], on .grow, by decide +kernel⟩
theorem witness_RingRegisterWrites_14 : ∃ (address : BitVec 7) (byEntdaa : Bool) (s : State), (s.dev.inReset = false) :=
  ⟨0x11, true, on .grow, by decide +kernel⟩
theorem witness_RingRegisterWrites_15 : ∃ (s : State), (s.fabricOn = true) :=
  ⟨on .grow, by decide +kernel⟩
theorem witness_ForwardsAndProposalsEnd_1 : ∃ (ring : Nat) (s : State), (ring < 16 ∧ s.waitsFor (s.front ring).opcode.toNat ring true = true ∧ s.startFree = true) ∧ ((takeCommand ring (s.front ring) s).held (s.front ring) = none) ∧ ((s.taken ring).firstFailure (s.front ring) = none) :=
  ⟨0, cmd { on .grow with pair := { state := .active, station := 15 }, trunks := { trunk := [(15, { state := .up })] } } 0 (word 0x0101 0 0 + 2 ^ 18), by decide +kernel⟩
theorem witness_ForwardsAndProposalsEnd_2 : ∃ (ring : Nat) (tag : BitVec 32) (f : Forward) (s : State), (ring < 16 ∧ s.fabricOn = true) ∧ (s.teller.forwards.find? (fun x => decide (x.ring = ring ∧ x.tag = tag)) = some f ∧ f.sent + 64 ≤ s.tick) :=
  ⟨3, 7, { ring := 3, tag := 7, opcode := 0x0101 }, { on .grow with time := { running := true, ticks := 64 }, teller := { forwards := [{ ring := 3, tag := 7, opcode := 0x0101 }] } }, by decide +kernel⟩
theorem witness_ForwardsAndProposalsEnd_3 : ∃ (n : Nat) (p : Proposal) (s : State), (s.fabricOn = true ∧ s.time.running = true) ∧ (s.nextTick.proposal (BitVec.ofNat 16 n) = some p ∧ p.ready s.nextTick = true) :=
  ⟨2, { number := 2, due := true }, { on .grow with teller := { proposals := [{ number := 2, due := true }] } }, by decide +kernel⟩
theorem witness_ForwardsAndProposalsEnd_4 : ∃ (p : Proposal) (status : Nat) (result : List Byte) (s u t : State), (s.modTeller (fun x => { x with proposals := x.proposals.filter (fun y => y.number ≠ p.number) }) = u) ∧ (runDue p.cmd u = (.final status result, t)) :=
  ⟨{ number := 2, due := true, cmd := command (word 0x0D04 4 58593750) }, stDone, [], { on .grow with teller := { proposals := [{ number := 2, due := true, cmd := command (word 0x0D04 4 58593750) }] } }, on .grow, { on .grow with teller := { window := 58593750 } }, by decide +kernel⟩
theorem witness_ForwardsAndProposalsEnd_5 : ∃ (n : Nat) (p : Proposal) (s : State), (s.fabricOn = true ∧ s.time.running = true) ∧ (s.nextTick.proposal (BitVec.ofNat 16 n) = some p ∧ p.expires = true) :=
  ⟨2, { number := 2, remaining := 1 }, { on .grow with teller := { proposals := [{ number := 2, remaining := 1 }] } }, by decide +kernel⟩
theorem witness_ForwardsAndProposalsEnd_7 : ∃ (p : Proposal), (p.signer = none ∧ p.remaining ≤ 1) :=
  ⟨{ number := 2, remaining := 1 }, by decide +kernel⟩
theorem witness_EventControllerTakesAndDone_1 : ∃ (source : Nat) (s : State), (source < 2048 ∧ s.fabricOn = true) :=
  ⟨2047, on .grow, by decide +kernel⟩
theorem witness_EventControllerTakesAndDone_2 : ∃ (target : Nat) (s : State), (target < 4 ∧ s.fabricOn = true) :=
  ⟨1, { on .grow with evc := { sources := [(3, { priority := 5, target := 1, enable := true, pending := true })], targets := [(1, {})] }, dieLink := { state := 2 } }, by decide +kernel⟩
theorem witness_EventControllerTakesAndDone_3 : ∃ (target : Nat) (c : Nat × Nat) (s u : State), (evcReview target (evcResolve target s) = u) ∧ ((u.target target).offer = none ∧ u.canOffer = true ∧ bestCandidate u target = some c) ∧ (0 < (u.target target).selBeat ∧ (u.target target).selBeat + 3 ≤ u.time.beats) :=
  ⟨1, (3, 5), { on .grow with evc := { sources := [(3, { priority := 5, target := 1, enable := true, pending := true })], targets := [(1, { selBeat := 1 })] }, time := { running := true, beats := 4 }, dieLink := { state := 2 } }, evcReview 1 (evcResolve 1 ({ on .grow with evc := { sources := [(3, { priority := 5, target := 1, enable := true, pending := true })], targets := [(1, { selBeat := 1 })] }, time := { running := true, beats := 4 }, dieLink := { state := 2 } })), by decide +kernel⟩
theorem witness_EventControllerTakesAndDone_5 : ∃ (target source priority : Nat) (f : DieFlit) (rest : List DieFlit) (s u : State), (target < 4 ∧ source < 2048 ∧ s.fabricOn = true ∧ s.dieUp = true ∧ s.dieLink.toFabric.naking = false) ∧ (s.dieLink.toFabric.inFlight = f :: rest ∧ f.channel = chEvent ∧ f.hart = target ∧ f.msg = .take source priority) ∧ (takeFromSteward f s = u) :=
  ⟨1, 3, 5, { channel := 1, hart := 1, msg := .take 3 5 }, [], { on .grow with dieLink := { state := 2, toFabric := { replay := [{ channel := 1, hart := 1, msg := .take 3 5 }] } } }, takeFromSteward { channel := 1, hart := 1, msg := .take 3 5 } { on .grow with dieLink := { state := 2, toFabric := { replay := [{ channel := 1, hart := 1, msg := .take 3 5 }] } } }, by decide +kernel⟩
theorem witness_EventControllerTakesAndDone_6 : ∃ (s : State) (t src prio : Nat) (o : EvcOffer), ((s.target t).offer = some o ∧ o.source = src ∧ src ≠ 0) ∧ ((s.target t).level < o.priority) :=
  ⟨{ on .grow with evc := { sources := [(3, { priority := 5, target := 1, enable := true, pending := true })], targets := [(1, { offer := some { source := 3, priority := 5 } })] }, dieLink := { state := 2 } }, 1, 3, 5, { source := 3, priority := 5 }, by decide +kernel⟩
theorem witness_EventControllerTakesAndDone_7 : ∃ (s : State) (t src prio : Nat), ((∀ o, (s.target t).offer = some o → o.source ≠ src)) :=
  ⟨{ on .grow with evc := { sources := [(3, { priority := 5, target := 1, enable := true, pending := true })], targets := [(1, {})] }, dieLink := { state := 2 } }, 1, 3, 5, by intro o h; cases h⟩
theorem witness_EventControllerTakesAndDone_8 : ∃ (hart : Nat) (value : BitVec 32) (s u : State), (hart < 4 ∧ s.fabricOn = true ∧ s.stewardCanReach chRequest = true) ∧ (fromSteward chRequest hart (.access true 0x2008F000 4 (value.setWidth 64)) ((deliverNext (fun f => f.channel == chCompletion && f.hart == hart) s).modHart hart (fun h => { h with access := some (true, 0x2008F000) })) = u) :=
  ⟨1, 3, { on .grow with evc := { sources := [(3, { priority := 5, target := 1, enable := true, pending := true })], targets := [(1, { stack := [(5, 3)] })] }, dieLink := { state := 2 } }, fromSteward chRequest 1 (.access true 0x2008F000 4 3) ((deliverNext (fun f => f.channel == chCompletion && f.hart == 1) ({ on .grow with evc := { sources := [(3, { priority := 5, target := 1, enable := true, pending := true })], targets := [(1, { stack := [(5, 3)] })] }, dieLink := { state := 2 } })).modHart 1 (fun h => { h with access := some (true, 0x2008F000) })), by decide +kernel⟩
theorem witness_EventControllerTakesAndDone_9 : ∃ (s : State) (t src : Nat), ((s.target t).top = some src) :=
  ⟨{ on .grow with evc := { sources := [(3, { priority := 5, target := 1, enable := true, pending := true })], targets := [(1, { stack := [(5, 3)] })] }, dieLink := { state := 2 } }, 1, 3, by decide +kernel⟩
theorem witness_EventControllerTakesAndDone_10 : ∃ (s : State) (t src : Nat), ((s.target t).top ≠ some src ∧ ((s.target t).quietDone = false ∨ (s.target t).top ≠ none)) :=
  ⟨{ on .grow with evc := { sources := [(3, { priority := 5, target := 1, enable := true, pending := true })], targets := [(1, { stack := [(5, 3)] })] }, dieLink := { state := 2 } }, 1, 4, by decide +kernel⟩
theorem witness_EventControllerTakesAndDone_11 : ∃ (s : State) (t src : Nat), ((s.target t).top = none ∧ (s.target t).quietDone = true) :=
  ⟨{ on .grow with evc := { sources := [(3, { priority := 5, target := 1, enable := true, pending := true })], targets := [(1, { quietDone := true })] }, dieLink := { state := 2 } }, 1, 4, by decide +kernel⟩
theorem witness_EventControllerTakesAndDone_12 : ∃ (value : BitVec 32) (s u : State), (s.fabricOn = true ∧ s.stewardCanReach chRequest = true) ∧ (fromSteward chRequest 0 (.access true 0x2008F010 4 (value.setWidth 64)) ((deliverNext (fun f => f.channel == chCompletion && f.hart == 0) s).modHart 0 (fun h => { h with access := some (true, 0x2008F010) })) = u) :=
  ⟨0xF, { on .grow with evc := { sources := [(3, { priority := 5, target := 1, enable := true, pending := true })], targets := [(1, {})] }, dieLink := { state := 2 } }, fromSteward chRequest 0 (.access true 0x2008F010 4 (BitVec.setWidth 64 0xF#32)) ((deliverNext (fun f => f.channel == chCompletion && f.hart == 0) ({ on .grow with evc := { sources := [(3, { priority := 5, target := 1, enable := true, pending := true })], targets := [(1, {})] }, dieLink := { state := 2 } })).modHart 0 (fun h => { h with access := some (true, 0x2008F010) })), by decide +kernel⟩
theorem witness_EventControllerTakesAndDone_13 : ∃ (value : BitVec 32) (s u : State), (s.fabricOn = true ∧ s.stewardCanReach chRequest = true) ∧ (fromSteward chRequest 0 (.access true 0x2008F018 4 (value.setWidth 64)) ((deliverNext (fun f => f.channel == chCompletion && f.hart == 0) s).modHart 0 (fun h => { h with access := some (true, 0x2008F018) })) = u) :=
  ⟨0x1FF, { on .grow with evc := { sources := [(3, { priority := 5, target := 1, enable := true, pending := true })], targets := [(1, {})] }, dieLink := { state := 2 } }, fromSteward chRequest 0 (.access true 0x2008F018 4 (BitVec.setWidth 64 0x1FF#32)) ((deliverNext (fun f => f.channel == chCompletion && f.hart == 0) ({ on .grow with evc := { sources := [(3, { priority := 5, target := 1, enable := true, pending := true })], targets := [(1, {})] }, dieLink := { state := 2 } })).modHart 0 (fun h => { h with access := some (true, 0x2008F018) })), by decide +kernel⟩
theorem witness_EventControllerTakesAndDone_14 : ∃ (word : Nat) (value : BitVec 64) (s u : State), (word < 32 ∧ s.fabricOn = true ∧ s.stewardCanReach chRequest = true) ∧ (fromSteward chRequest 0 (.access true (BitVec.ofNat 64 (0x2008A000 + 8 * word)) 8 value) ((deliverNext (fun f => f.channel == chCompletion && f.hart == 0) s).modHart 0 (fun h => { h with access := some (true, (BitVec.ofNat 64 (0x2008A000 + 8 * word))) })) = u) :=
  ⟨31, 1, { on .grow with evc := { sources := [(3, { priority := 5, target := 1, enable := true, pending := true })], targets := [(1, {})] }, dieLink := { state := 2 } }, fromSteward chRequest 0 (.access true 0x2008A0F8 8 1) ((deliverNext (fun f => f.channel == chCompletion && f.hart == 0) ({ on .grow with evc := { sources := [(3, { priority := 5, target := 1, enable := true, pending := true })], targets := [(1, {})] }, dieLink := { state := 2 } })).modHart 0 (fun h => { h with access := some (true, 0x2008A0F8) })), by decide +kernel⟩
theorem witness_EventControllerTakesAndDone_15 : ∃ (src : Nat) (s : State), ((s.source src).edge = true ∧ src ≠ 0 ∧ (s.source src).setBeat ≠ 1 + s.time.beats) :=
  ⟨3, { on .grow with evc := { sources := [(3, { pending := true, setBeat := 0 })] } }, by decide +kernel⟩
theorem witness_EventControllerTakesAndDone_16 : ∃ (src : Nat) (s : State), ((s.source src).setBeat = 1 + s.time.beats) :=
  ⟨3, { on .grow with evc := { sources := [(3, { pending := true, setBeat := 1 })] } }, by decide +kernel⟩
theorem witness_EventControllerTakesAndDone_17 : ∃ (s : State), ((s.source 0).edge = true ∧ (s.source 0).setBeat ≠ 1 + s.time.beats) :=
  ⟨on .grow, by decide +kernel⟩
theorem witness_HartsTakeOffers_1 : ∃ (hart src prio : Nat) (vec : BitVec 64) (s : State), (hart < 4 ∧ s.steward.inReset = false ∧ (s.hart hart).offer = some (src, prio, vec)) ∧ ((s.hart hart).canTake = true) :=
  ⟨2, 3, 9, 0x1000, { on .grow with steward := { inReset := false, harts := [(2, { offer := some (3, 9, 0x1000), mevthr := 4, mie := true, pc := 0x8000 })] }, dieLink := { state := 2 } }, by decide +kernel⟩
theorem witness_HartsTakeOffers_2 : ∃ (hart : Nat) (s : State), (hart < 4 ∧ (s.hart hart).canTake = false) ∧ ((s.hart hart).offer ≠ none) :=
  ⟨1, { on .grow with steward := { inReset := false, harts := [(1, { offer := some (3, 9, 0x1000), mevthr := 9, mie := true })] } }, by decide +kernel⟩
theorem witness_HartsTakeOffers_3 : ∃ (hart source : Nat) (f : DieFlit) (rest : List DieFlit) (prio : Nat) (s : State), (hart < 4 ∧ source < 2048 ∧ s.dieUp = true ∧ s.dieLink.toSteward.naking = false) ∧ (s.dieLink.toSteward.inFlight = f :: rest ∧ f.hart = hart ∧ f.msg = .withdraw source prio) :=
  ⟨2, 3, { channel := 1, hart := 2, msg := .withdraw 3 9 }, [], 9, { on .grow with dieLink := { state := 2, toSteward := { replay := [{ channel := 1, hart := 2, msg := .withdraw 3 9 }] } } }, by decide +kernel⟩
theorem witness_HartsTakeOffers_4 : ∃ (target : Nat) (o : EvcOffer) (f : DieFlit) (s : State), (target < 4 ∧ s.fabricOn = true ∧ s.dieUp = true ∧ s.dieLink.toSteward.naking = false) ∧ ((s.target target).offer = some o ∧ o.isOpen = false) ∧ (s.dieLink.toFabric.inFlight = [] ∧ s.dieLink.toSteward.replay.find? (·.withdraws target) = some f) :=
  ⟨1, { source := 3, priority := 5, isOpen := false }, { channel := 1, hart := 1, msg := .withdraw 3 5 }, { on .grow with evc := { sources := [(3, { priority := 5, target := 1, enable := true, pending := true })], targets := [(1, { offer := some { source := 3, priority := 5, isOpen := false } })] }, dieLink := { state := 2, toSteward := { replay := [{ channel := 1, hart := 1, msg := .withdraw 3 5 }] } } }, by decide +kernel⟩
theorem witness_HartsTakeOffers_5 : ∃ (s : State) (t : Nat) (o : EvcOffer), ((s.target t).offer = some o ∧ o.isOpen = false) ∧ ((s.dieLink.toSteward.waiting ++ s.dieLink.toSteward.replay).any (·.withdraws t) = false) :=
  ⟨{ on .grow with evc := { sources := [(3, { priority := 5, target := 1, enable := true, pending := true })], targets := [(1, { offer := some { source := 3, priority := 5, isOpen := false } })] }, dieLink := { state := 2, toSteward := {} } }, 1, { source := 3, priority := 5, isOpen := false }, by decide +kernel⟩
theorem witness_HartsTakeOffers_6 : ∃ (s : State) (t : Nat), ((s.dieLink.toSteward.waiting ++ s.dieLink.toSteward.replay).any (·.withdraws t) = true) :=
  ⟨{ on .grow with evc := { sources := [(3, { priority := 5, target := 1, enable := true, pending := true })], targets := [(1, { offer := some { source := 3, priority := 5, isOpen := false } })] }, dieLink := { state := 2, toSteward := { replay := [{ channel := 1, hart := 1, msg := .withdraw 3 5 }] } } }, 1, by decide +kernel⟩
theorem witness_DieLinkEvents_1 : ∃ (s : State), (s.fabricOn = true ∧ s.dieUp = true) :=
  ⟨{ on .grow with dieLink := { state := 2 }, dev := { mode := .grow, inReset := false, stage := 4 } }, by decide +kernel⟩
theorem witness_DieLinkEvents_2 : ∃ (free : List Nat) (s : State), (s.fabricOn = true ∧ 4 ≤ s.dev.stage.toNat ∧ s.dieUp = false) :=
  ⟨[64, 16, 64, 0, 64, 4], { on .grow with dev := { mode := .grow, inReset := false, stage := 4 } }, by decide +kernel⟩
theorem witness_DieLinkEvents_3 : ∃ (dir : LinkDir) (expected : BitVec 10) (s : State), (s.fabricOn = true ∧ s.dieUp = true ∧ s.nakFits dir expected = true) :=
  ⟨.toFabric, 0, { on .grow with dieLink := { state := 2 }, dev := { mode := .grow, inReset := false, stage := 4 } }, by decide +kernel⟩
theorem witness_DieLinkEvents_4 : ∃ (s : State) (dir : LinkDir), ((∀ f ∈ (s.dieLink.dir dir).replay, f.replays < 7)) :=
  ⟨{ on .grow with dieLink := { state := 2 }, dev := { mode := .grow, inReset := false, stage := 4 } }, .toFabric, by intro f h; cases h⟩
theorem witness_DieLinkEvents_5 : ∃ (dir : LinkDir) (channel count : Nat) (s : State), (s.fabricOn = true ∧ s.dieUp = true ∧ channel < 8 ∧ count < 64) :=
  ⟨.toSteward, 4, 63, { on .grow with dieLink := { state := 2 }, dev := { mode := .grow, inReset := false, stage := 4 } }, by decide +kernel⟩
theorem witness_DieLinkEvents_6 : ∃ (dir : LinkDir) (s : State), (s.fabricOn = true ∧ s.dieUp = true ∧ (s.dieLink.dir dir).replay ≠ []) ∧ ((s.dieLink.dir dir).ackBeat + 256 ≤ s.time.beats) :=
  ⟨.toFabric, { on .grow with time := { running := true, beats := 256 }, dieLink := { state := 2, toFabric := { replay := [{ channel := 1, hart := 1, msg := .take 3 5 }] } } }, by decide +kernel⟩
theorem witness_DieLinkEvents_7 : ∃ (hart : Nat) (s : State), (hart < 4 ∧ s.fabricOn = true ∧ s.dieUp = false) ∧ ((s.hart hart).waits.isSome = true ∧ s.dieLink.downTick + 1024 ≤ s.tick) :=
  ⟨3, { on .grow with time := { running := true, ticks := 1024 }, steward := { harts := [(3, { waits := some 0 })] } }, by decide +kernel⟩
theorem witness_DieLinkEvents_8 : ∃ (s : State), (s.fabricOn = true ∧ s.dieUp = true ∧ s.time.broadcastDue = true ∧ s.now.toNat % 1024 ≤ 8) :=
  ⟨{ on .grow with time := { running := true, broadcastDue := true }, dieLink := { state := 2 } }, by decide +kernel⟩
theorem witness_DieLinkEvents_9 : ∃ (f : DieFlit) (rest : List DieFlit) (address : Nat) (data : List Byte) (s : State), (s.fabricOn = true ∧ s.dieUp = true ∧ s.dieLink.toSteward.naking = false) ∧ (s.dieLink.toSteward.inFlight = f :: rest ∧ f.channel = chPosted ∧ f.msg = .posted address data) ∧ (0x08000000 ≤ address ∧ address + data.length ≤ 0x0A000000) :=
  ⟨{ channel := 2, msg := .posted 0x08000000 [1, 2] }, [], 0x08000000, [1, 2], { on .grow with dieLink := { state := 2, toSteward := { replay := [{ channel := 2, msg := .posted 0x08000000 [1, 2] }] } } }, by decide +kernel⟩
theorem witness_DieLinkEvents_10 : ∃ (dir : LinkDir) (s : State), (s.fabricOn = true ∧ s.dieUp = true) :=
  ⟨.toFabric, { on .grow with dieLink := { state := 2 }, dev := { mode := .grow, inReset := false, stage := 4 } }, by decide +kernel⟩
theorem witness_DieLinkEvents_11 : ∃ (dir : LinkDir) (hdr : DieHeader) (s : State), (s.malformedArrives dir hdr = true) :=
  ⟨.toFabric, { channel := 7 }, { on .grow with dieLink := { state := 2 }, dev := { mode := .grow, inReset := false, stage := 4 } }, by decide +kernel⟩
theorem witness_DieLinkEvents_12 : ∃ (s : State) (h : DieHeader), (h.channel = 3 ∧ h.first = true) :=
  ⟨{ on .grow with dieLink := { state := 2 }, dev := { mode := .grow, inReset := false, stage := 4 } }, { channel := 3, first := true, typ := 9 }, by decide +kernel⟩
theorem witness_TimePasses_1 : ∃ (s : State), (s.fabricOn = true ∧ s.time.running = true) :=
  ⟨on .grow, by decide +kernel⟩
theorem witness_TimePasses_2 : ∃ (s : State), (s.fabricOn = true ∧ s.time.running = true ∧ s.still = true ∧ s.now.toNat % 1024 < 1023) :=
  ⟨{ on .grow with time := { running := true, now := 70, ticks := 5, corrDue := false } }, by decide +kernel⟩
theorem witness_TimePasses_4 : ∃ (s m b : State), (s.fabricOn = true ∧ s.time.running = true) ∧ (passOn s = m) ∧ (m.tick = s.tick ∧ m.time.running = true) ∧ (passOn m = b) ∧ (b.tick ≠ s.tick) :=
  ⟨{ on .grow with time := { running := true, now := 70, ticks := 5, corrDue := false } }, passOn { on .grow with time := { running := true, now := 70, ticks := 5, corrDue := false } }, passOn (passOn { on .grow with time := { running := true, now := 70, ticks := 5, corrDue := false } }), by decide +kernel, rfl, by decide +kernel, rfl, by decide +kernel⟩
theorem witness_TimePasses_5 : ∃ (s u v b : State), (s.fabricOn = true ∧ s.now.toNat % 1024 = 1023) ∧ (countBeats 1 (beatWork (dormantReceipt s)) = u) ∧ (almanacBeat (u.modTime (fun t => { t with beats := t.beats + 1 })) = v) ∧ ((if v.ctr.trigBeat.isSome then snapshot v else v) = b) ∧ (b.now ≠ u.now ∧ b.now.toNat % 1024 = 0) :=
  ⟨{ on .grow with time := { running := true, now := 1023, corrDue := false } }, countBeats 1 (beatWork (dormantReceipt ({ on .grow with time := { running := true, now := 1023, corrDue := false } }))), almanacBeat ((countBeats 1 (beatWork (dormantReceipt ({ on .grow with time := { running := true, now := 1023, corrDue := false } })))).modTime (fun t => { t with beats := t.beats + 1 })), (if (almanacBeat ((countBeats 1 (beatWork (dormantReceipt ({ on .grow with time := { running := true, now := 1023, corrDue := false } })))).modTime (fun t => { t with beats := t.beats + 1 }))).ctr.trigBeat.isSome then snapshot (almanacBeat ((countBeats 1 (beatWork (dormantReceipt ({ on .grow with time := { running := true, now := 1023, corrDue := false } })))).modTime (fun t => { t with beats := t.beats + 1 }))) else (almanacBeat ((countBeats 1 (beatWork (dormantReceipt ({ on .grow with time := { running := true, now := 1023, corrDue := false } })))).modTime (fun t => { t with beats := t.beats + 1 })))), by decide +kernel⟩
theorem witness_TimePasses_6 : ∃ (s : State), (s.fabricOn = true ∧ s.time.running = true) :=
  ⟨{ on .grow with time := { running := true, seasonK := 10, now := 1048570 } }, by decide +kernel⟩
theorem witness_TimePasses_7 : ∃ (s t : State), (s.time.running = true ∧ passOn s = t) ∧ (t.time.seasonNum ≠ s.time.seasonNum) :=
  ⟨{ on .grow with time := { running := true, now := 1023, seasonDue := true } }, _, ⟨rfl, rfl⟩, by decide +kernel⟩
theorem witness_TimePasses_9 : ∃ (s : State), (s.fabricOn = true ∧ s.time.running = true ∧ s.time.corrDue = true) :=
  ⟨{ on .grow with time := { running := true, corrDue := true } }, by decide +kernel⟩
theorem witness_TimePasses_10 : ∃ (s : State) (off : Int), (s.time.measured = some off ∧ s.time.corrects = true) :=
  ⟨{ on .grow with time := { sync := .inSync, corrDue := true, measured := some 64, now := 1025, catchUp := false } }, 64, by decide +kernel⟩
theorem witness_TimePasses_11 : ∃ (s : State), (s.fabricOn = true ∧ s.dieUp = true) :=
  ⟨{ on .grow with dieLink := { state := 2 } }, by decide +kernel⟩
theorem witness_TimePasses_12 : ∃ (s : State), (s.fabricOn = true ∧ s.time.sync = .inSync ∧ s.time.lastExchange + 4 ≤ s.tick) :=
  ⟨{ on .grow with time := { running := true, sync := .inSync, ticks := 4 } }, by decide +kernel⟩
theorem witness_TimePasses_13 : ∃ (s : State), (s.fabricOn = true ∧ s.time.sync = .holdover ∧ s.time.lastExchange + 64 ≤ s.tick) :=
  ⟨{ on .grow with time := { running := true, sync := .holdover, ticks := 64 } }, by decide +kernel⟩
theorem witness_TimePasses_14 : ∃ (s : State), (s.fabricOn = true ∧ s.time.running = true) ∧ (counterSwitchDue s.nextTick = true) :=
  ⟨on .grow, by decide +kernel⟩
theorem witness_TimePasses_16 : ∃ (s : State), (s.fabricOn = true ∧ s.ctr.trigBeat.isSome = true) :=
  ⟨{ on .grow with ctr := { trigBeat := some 0 } }, by decide +kernel⟩
theorem witness_TimePasses_17 : ∃ (s v : State), (s.fabricOn = true ∧ s.now.toNat % 1024 ≠ 1023) ∧ (almanacBeat ((countBeats 1 (beatWork s)).modTime (fun t => { t with beats := t.beats + 1 })) = v) ∧ (v.ctr.trigBeat.isSome = true ∧ v.now.toNat % 1024 ≠ 0) :=
  ⟨{ on .grow with ctr := { trigBeat := some 0 }, time := { running := true, now := 5 } }, almanacBeat ((countBeats 1 (beatWork ({ on .grow with ctr := { trigBeat := some 0 }, time := { running := true, now := 5 } }))).modTime (fun t => { t with beats := t.beats + 1 })), by decide +kernel⟩
theorem witness_TimePasses_18 : ∃ (s : State), (s.ctr.snapBeat ≠ some s.time.beats) :=
  ⟨on .grow, by decide +kernel⟩
theorem witness_LedgerWearHealthEvents_1 : ∃ (b : Nat) (e : LedgerEntry) (rest : List LedgerEntry) (s : State), (s.fabricOn = true ∧ nextLogBlock s.ledger = some b ∧ Tab.get s.ledger.queues [] b = e :: rest ∧ s.ledger.drained ≠ 1 + s.time.beats) :=
  ⟨26, { kind := 0x12 }, [], { on .grow with ledger := { queues := [(26, [{ kind := 0x12 }])] } }, by decide +kernel⟩
theorem witness_LedgerWearHealthEvents_2 : ∃ (e : LedgerEntry) (rest : List LedgerEntry) (s : State), (s.fabricOn = true ∧ s.ledger.persist = e :: rest) :=
  ⟨{ kind := 0x12, index := 4095 }, [], { on .grow with ledger := { persist := [{ kind := 0x12, index := 4095 }], nextSlot := 255 } }, by decide +kernel⟩
theorem witness_LedgerWearHealthEvents_3 : ∃ (s : State), (s.dev.vaux = true ∧ Memory.wf 0xFF s.wear.book = true) :=
  ⟨{ dev := { vaux := true } }, by decide +kernel⟩
theorem witness_LedgerWearHealthEvents_4 : ∃ (celsius : Int) (s : State), (s.fabricOn = true ∧ s.thermalDue = true ∧ s.wear.thermalTick ≠ 0) :=
  ⟨-40, { on .grow with wear := { thermalTick := 1 }, time := { running := true, ticks := 1024 } }, by decide +kernel⟩
theorem witness_LedgerWearHealthEvents_5 : ∃ (celsius : Int) (s : State), (s.fabricOn = true ∧ s.wear.thermalTick = 0) :=
  ⟨-40, on .grow, by decide +kernel⟩
theorem witness_LedgerWearHealthEvents_6 : ∃ (s : State), (s.dev.vaux = true ∧ s.dev.thermalTripped = false) :=
  ⟨{ dev := { vaux := true } }, by decide +kernel⟩
theorem witness_LedgerWearHealthEvents_7 : ∃ (up : Bool) (s : State), (s.fabricOn = true ∧ s.dev.vidTicks + 1024 ≤ s.tick) ∧ ((up = true → s.dev.vid < 10)) ∧ ((up = false → 0 < s.dev.vid)) :=
  ⟨true, { dev := { mode := .grow, inReset := false, vid := 9 }, time := { running := true, ticks := 1024 } }, by decide +kernel⟩
theorem witness_LedgerWearHealthEvents_8 : ∃ (up : Bool) (s : State), ((if up then 10 else s.dev.vid) ≤ (if up then s.dev.vid else 0)) :=
  ⟨true, { dev := { mode := .grow, inReset := false, vid := 10 }, time := { running := true, ticks := 1024 } }, by decide +kernel⟩
theorem witness_LedgerWearHealthEvents_9 : ∃ (repairs failing mask : Nat) (rest : List Nat) (s : State), (s.fabricOn = true ∧ s.dev.healthBist = mask :: rest ∧ failing = 0) :=
  ⟨7, 0, 3, [], { dev := { mode := .probe, inReset := false, healthBist := [3] } }, by decide +kernel⟩
theorem witness_LedgerWearHealthEvents_10 : ∃ (repairs failing mask : Nat) (rest : List Nat) (s : State), (s.fabricOn = true ∧ s.dev.healthBist = mask :: rest ∧ failing ≠ 0) :=
  ⟨7, 1, 3, [], { dev := { mode := .probe, inReset := false, healthBist := [3] } }, by decide +kernel⟩
theorem witness_LedgerWearHealthEvents_11 : ∃ (vmin supply : Nat) (rest : List Nat) (s : State), (s.fabricOn = true ∧ s.dev.healthVmin = supply :: rest ∧ vmin ≤ s.nominal supply) :=
  ⟨750, 0, [], { dev := { mode := .probe, inReset := false, healthVmin := [0] } }, by decide +kernel⟩
theorem witness_LedgerWearHealthEvents_12 : ∃ (vmin supply : Nat) (rest : List Nat) (s : State), (s.fabricOn = true ∧ s.dev.healthVmin = supply :: rest ∧ s.nominal supply < vmin) :=
  ⟨751, 0, [], { dev := { mode := .probe, inReset := false, healthVmin := [0] } }, by decide +kernel⟩
theorem witness_SwitchEvents_1 : ∃ (s : State), (s.fabricOn = true ∧ s.switch.matched ≠ 1 + s.time.beats) :=
  ⟨on .grow, by decide +kernel⟩
theorem witness_SwitchEvents_2 : ∃ (s u v : State), (s.teller.returns = []) ∧ (s.modSwitch (fun w => { w with matched := 1 + s.time.beats }) = u) ∧ (countBlocked u.eligible (matchBeat u.switch u.eligible).1 (u.setSwitch (matchBeat u.switch u.eligible).2) = v) :=
  ⟨on .grow, (on .grow).modSwitch (fun w => { w with matched := 1 }), countBlocked ((on .grow).modSwitch (fun w => { w with matched := 1 })).eligible (matchBeat ((on .grow).modSwitch (fun w => { w with matched := 1 })).switch ((on .grow).modSwitch (fun w => { w with matched := 1 })).eligible).1 (((on .grow).modSwitch (fun w => { w with matched := 1 })).setSwitch (matchBeat ((on .grow).modSwitch (fun w => { w with matched := 1 })).switch ((on .grow).modSwitch (fun w => { w with matched := 1 })).eligible).2), by decide +kernel⟩
theorem witness_SwitchEvents_3 : ∃ (station : Nat) (flitTag : BitVec 12) (s : State), (station < 16 ∧ s.fabricOn = true) :=
  ⟨15, 0, on .grow, by decide +kernel⟩
theorem witness_SwitchEvents_4 : ∃ (station : Nat) (flitTag : BitVec 12) (s : State), (station < 16 ∧ s.fabricOn = true) :=
  ⟨15, 0, on .grow, by decide +kernel⟩
theorem witness_SwitchEvents_6 : ∃ (plot : Nat) (s : State), (plot < 512 ∧ s.fabricOn = true ∧ (s.qos plot).replenished ≠ s.tick + 1 ∧ s.now.toNat % 1024 = plot % 64) :=
  ⟨511, { on .grow with time := { running := true, now := 63 }, switch := { qos := [(511, { readCap := 4, writeCap := 2, burst := 3, readBal := 10, writeBal := 1 })] } }, by decide +kernel⟩
theorem witness_SwitchEvents_7 : ∃ (plot : Nat) (s : State), ((s.qos plot).pending = none ∧ Tab.wf s.switch.qos {} = true) :=
  ⟨511, { on .grow with time := { running := true, now := 63 }, switch := { qos := [(511, { readCap := 4, writeCap := 2, burst := 3, readBal := 10, writeBal := 1 })] } }, by decide +kernel⟩
theorem witness_SwitchEvents_8 : ∃ (s : State), (s.heldPorts = []) :=
  ⟨{ on .grow with time := { running := true, now := 63 }, switch := { qos := [(511, { readCap := 4, writeCap := 2, burst := 3, readBal := 10, writeBal := 1 })] } }, by decide +kernel⟩
theorem witness_SwitchEvents_9 : ∃ (plot : Nat) (s : State), (plot < 512 ∧ s.now.toNat % 1024 = plot % 64) ∧ ((Tab.find s.switch.qos plot).isSome = true ∧ (s.qos plot).replenished ≠ s.tick + 1) :=
  ⟨511, { on .grow with time := { running := true, now := 63 }, switch := { qos := [(511, { readCap := 4, writeCap := 2, burst := 3, readBal := 10, writeBal := 1 })] } }, by decide +kernel⟩
theorem witness_PoolLineNumbers_2 : ∃ (idx inx : Nat), (idx < 2 ^ 20) ∧ (inx < 2 ^ 28) :=
  ⟨1048575, 268435455, by decide +kernel⟩
theorem witness_HostRequestsAreRouted_1 : ∃ (port : Nat) (hpa : BitVec 64) (mf : MetaField) (mv : MetaValue) (snp : Bool) (p h bd off : Nat) (s u : State), (port < 128 ∧ s.requestReaches port false = true ∧ newFlit port (flitIn port 64 s) = u) ∧ (u.boundAt port hpa = none) ∧ (u.reach port hpa = .backed p h bd off ∧ readable mf mv snp = true) ∧ (u.stepOne port p false (if h = u.self then some bd else none) = false ∧ u.reachable h = true) :=
  ⟨0, 0x40, .meta0, .A, true, 0, 0, 0, 64, serving1, newFlit 0 (flitIn 0 64 serving1), by decide +kernel⟩
theorem witness_HostRequestsAreRouted_2 : ∃ (port : Nat) (hpa : BitVec 64) (mf : MetaField) (mv : MetaValue) (snp : Bool) (s u : State), (port < 128 ∧ s.requestReaches port false = true ∧ newFlit port (flitIn port 64 s) = u) ∧ (u.boundAt port hpa = none) ∧ (u.reach port hpa = .noDecoder ∧ readable mf mv snp = true) :=
  ⟨0, 0x20000000, .meta0, .A, true, serving1, newFlit 0 (flitIn 0 64 serving1), by decide +kernel⟩
theorem witness_HostRequestsAreRouted_3 : ∃ (port : Nat) (hpa : BitVec 64) (p h bd off : Nat) (s u : State), (port < 128 ∧ s.requestReaches port false = true ∧ newFlit port (flitIn port 64 s) = u) ∧ (u.boundAt port hpa = none) ∧ (u.reach port hpa = .backed p h bd off ∧ port < 128) ∧ (u.stepOne port p false (if h = u.self then some bd else none) = false ∧ u.reachable h = true) :=
  ⟨0, 0x40, 0, 0, 0, 64, serving1, newFlit 0 (flitIn 0 64 serving1), by decide +kernel⟩
theorem witness_HostRequestsAreRouted_4 : ∃ (port : Nat) (hpa : BitVec 64) (s u : State), (port < 128 ∧ s.requestReaches port false = true ∧ newFlit port (flitIn port 64 s) = u) ∧ (u.boundAt port hpa = none) ∧ (u.reach port hpa = .noDecoder ∧ port < 128) :=
  ⟨0, 0x20000000, serving1, newFlit 0 (flitIn 0 64 serving1), by decide +kernel⟩
theorem witness_HostRequestsAreRouted_5 : ∃ (port : Nat) (hpa : BitVec 64) (mf : MetaField) (mv : MetaValue) (snp nt : Bool) (p h bd off : Nat) (s u : State), (port < 128 ∧ s.requestReaches port false = true ∧ newFlit port (flitIn port 64 s) = u) ∧ (u.boundAt port hpa = none) ∧ (u.reach port hpa = .backed p h bd off ∧ cleanable mf mv snp = true) ∧ (u.stepOne port p false (if h = u.self then some bd else none) = false ∧ u.reachable h = true) :=
  ⟨0, 0x40, .meta0, .I, true, true, 0, 0, 0, 64, serving1, newFlit 0 (flitIn 0 64 serving1), by decide +kernel⟩
theorem witness_HostRequestsAreRouted_6 : ∃ (port : Nat) (hpa : BitVec 64) (mf : MetaField) (mv : MetaValue) (snp nt : Bool) (s u : State), (port < 128 ∧ s.requestReaches port false = true ∧ newFlit port (flitIn port 64 s) = u) ∧ (u.boundAt port hpa = none) ∧ (u.reach port hpa = .noDecoder ∧ cleanable mf mv snp = true) :=
  ⟨0, 0x20000000, .meta0, .I, true, true, serving1, newFlit 0 (flitIn 0 64 serving1), by decide +kernel⟩
theorem witness_HostRequestsAreRouted_7 : ∃ (port : Nat) (hpa : BitVec 64) (mf : MetaField) (mv : MetaValue) (snp : Bool) (data : Line) (poison : Bool) (p h bd off : Nat) (s u : State), (port < 128 ∧ s.requestReaches port true = true ∧ newFlit port (flitIn port 64 s) = u) ∧ (u.boundAt port hpa = none) ∧ (u.reach port hpa = .backed p h bd off ∧ writable mf mv snp = true) ∧ ((u.port port).viral = false ∧ u.stepOne port p false (if h = u.self then some bd else none) = false ∧ u.reachable h = true) :=
  ⟨0, 0x40, .meta0, .I, true, 7, false, 0, 0, 0, 64, serving1, newFlit 0 (flitIn 0 64 serving1), by decide +kernel⟩
theorem witness_HostRequestsAreRouted_8 : ∃ (port : Nat) (hpa : BitVec 64) (mf : MetaField) (mv : MetaValue) (snp : Bool) (data : Line) (poison : Bool) (s u : State), (port < 128 ∧ s.requestReaches port true = true ∧ newFlit port (flitIn port 64 s) = u) ∧ (u.boundAt port hpa = none) ∧ (u.reach port hpa = .noDecoder ∧ writable mf mv snp = true) :=
  ⟨0, 0x20000000, .meta0, .I, true, 7, false, serving1, newFlit 0 (flitIn 0 64 serving1), by decide +kernel⟩
theorem witness_HostRequestsAreRouted_9 : ∃ (port : Nat) (hpa : BitVec 64) (mf : MetaField) (mv : MetaValue) (snp : Bool) (data : Line) (mask : BitVec 64) (poison : Bool) (p h bd off : Nat) (s u : State), (port < 128 ∧ s.requestReaches port true = true ∧ newFlit port (flitIn port 64 s) = u) ∧ (u.boundAt port hpa = none) ∧ (u.reach port hpa = .backed p h bd off ∧ writable mf mv snp = true) ∧ ((u.port port).viral = false ∧ u.stepOne port p false (if h = u.self then some bd else none) = false ∧ u.reachable h = true) :=
  ⟨0, 0x40, .meta0, .I, true, 7, 1, false, 0, 0, 0, 64, serving1, newFlit 0 (flitIn 0 64 serving1), by decide +kernel⟩
theorem witness_HostRequestsAreRouted_10 : ∃ (port : Nat) (hpa : BitVec 64) (mf : MetaField) (mv : MetaValue) (snp : Bool) (data : Line) (mask : BitVec 64) (poison : Bool) (s u : State), (port < 128 ∧ s.requestReaches port true = true ∧ newFlit port (flitIn port 64 s) = u) ∧ (u.boundAt port hpa = none) ∧ (u.reach port hpa = .noDecoder ∧ writable mf mv snp = true) :=
  ⟨0, 0x20000000, .meta0, .I, true, 7, 1, false, serving1, newFlit 0 (flitIn 0 64 serving1), by decide +kernel⟩
theorem witness_HostRequestsAreRouted_11 : ∃ (port : Nat) (hpa : BitVec 64) (s u : State), (port < 128 ∧ s.requestReaches port false = true) ∧ (newFlit port (flitIn port 64 s) = u ∧ u.boundAt port hpa = none) :=
  ⟨0, 0x40, serving1, newFlit 0 (flitIn 0 64 serving1), by decide +kernel⟩
theorem witness_HostRequestsAreRouted_12 : ∃ (r : HeldReq) (u : State), (r.charge ≠ (0, 0) ∧ (u.qos r.plot).covers r.charge = true) ∧ ((u.qos r.plot).readHeld = [] ∧ (u.qos r.plot).writeHeld = []) :=
  ⟨{ port := 0, hpa := 0x40, op := .memRd, off := 0x40 }, serving1, by decide +kernel⟩
theorem witness_HostRequestsAreRouted_13 : ∃ (r : HeldReq) (u : State), (r.charge ≠ (0, 0) ∧ (u.qos r.plot).covers r.charge = false) ∧ (r.write = false) :=
  ⟨{ port := 0, hpa := 0x40, op := .memRd, off := 0x40 }, { serving1 with switch := { qos := [(0, { readCap := 1 })] } }, by decide +kernel⟩
theorem witness_HostRequestsAreRouted_14 : ∃ (r : HeldReq) (u : State), (r.charge ≠ (0, 0) ∧ (u.qos r.plot).covers r.charge = false) ∧ (r.write = true) :=
  ⟨{ port := 0, hpa := 0x40, op := .memWr, off := 0x40 }, { serving1 with switch := { qos := [(0, { writeCap := 1 })] } }, by decide +kernel⟩
theorem witness_HostRequestsAreRouted_15 : ∃ (r : HeldReq) (u : State) (a : Nat), (r.home = u.self ∧ u.agentOf u.self r.port = some a) :=
  ⟨{ port := 0, hpa := 0x40, op := .memRd, off := 0x40 }, serving1, 0, by decide +kernel⟩
theorem witness_HostRequestsAreRouted_16 : ∃ (r : HeldReq) (u : State) (a : Nat), (r.op = .memRd ∧ r.metaField = .meta0 ∧ r.metaValue = .A) :=
  ⟨{ port := 0, hpa := 0x40, op := .memRd, metaField := .meta0, metaValue := .A, off := 0x40 }, serving1, 0, by decide +kernel⟩
theorem witness_AtomicAperture_1 : ∃ (port vppb : Nat) (offset : BitVec 64) (op : AtomOp) (size : Nat) (a b : BitVec 128) (p : Nat) (s u : State), (port < 128 ∧ vppb < 17 ∧ s.apertureReaches port = true ∧ inAperture offset = true ∧ newFlit port (portCount port 14 1 s) = u) ∧ (atomicAccepted op size = true ∧ offset.toNat % size = 0 ∧ u.plotAt port vppb = some p) :=
  ⟨0, 0, 16, .cas, 16, 1, 2, 0, serving1, newFlit 0 (portCount 0 14 1 serving1), by decide +kernel⟩
theorem witness_AtomicAperture_2 : ∃ (port vppb : Nat) (offset : BitVec 64) (op : AtomOp) (size : Nat) (a b : BitVec 128) (s u : State), (port < 128 ∧ vppb < 17 ∧ s.apertureReaches port = true ∧ inAperture offset = true ∧ newFlit port (portCount port 14 1 s) = u) ∧ (atomicAccepted op size = false) :=
  ⟨0, 0, 8, .swap, 16, 1, 2, serving1, newFlit 0 (portCount 0 14 1 serving1), by decide +kernel⟩
theorem witness_AtomicAperture_3 : ∃ (port vppb : Nat) (offset : BitVec 64) (op : AtomOp) (size : Nat) (a b : BitVec 128) (s u : State), (port < 128 ∧ vppb < 17 ∧ s.apertureReaches port = true ∧ inAperture offset = true ∧ newFlit port (portCount port 14 1 s) = u) ∧ (atomicAccepted op size = true ∧ offset.toNat % size ≠ 0) :=
  ⟨0, 0, 4, .swap, 8, 1, 2, serving1, newFlit 0 (portCount 0 14 1 serving1), by decide +kernel⟩
theorem witness_AtomicAperture_4 : ∃ (port vppb : Nat) (offset : BitVec 64) (p : Nat) (s u : State), (port < 128 ∧ vppb < 17 ∧ s.apertureReaches port = true ∧ inAperture offset = true ∧ newFlit port (portCount port 14 1 s) = u) ∧ (u.plotAt port vppb = some p) :=
  ⟨0, 0, 64, 0, serving1, newFlit 0 (portCount 0 14 1 serving1), by decide +kernel⟩
theorem witness_AtomicAperture_5 : ∃ (port vppb : Nat) (offset : BitVec 64) (data : Line) (mask : BitVec 64) (p : Nat) (s u : State), (port < 128 ∧ vppb < 17 ∧ s.apertureReaches port = true ∧ inAperture offset = true ∧ newFlit port (portCount port 14 1 s) = u) ∧ (u.plotAt port vppb = some p) :=
  ⟨0, 0, 64, 7, 1, 0, serving1, newFlit 0 (portCount 0 14 1 serving1), by decide +kernel⟩
theorem witness_SnoopAnswersOfHosts_1 : ∃ (port : Nat) (hpa : BitVec 64) (bd line a plot : Nat) (d : Nat × Nat) (s u : State), (port < 128 ∧ s.memReaches port clsResponse = true ∧ newFlit port (flitIn port 64 s) = u) ∧ (u.boundAt port hpa = none ∧ u.lineAt port hpa = some (u.self, bd, line) ∧ u.agentOf u.self port = some a) ∧ (u.decode port hpa = some d ∧ u.plotAt port d.1 = some plot) :=
  ⟨0, 0x40, 0, 1, 0, 0, (0, 64), serving1, newFlit 0 (flitIn 0 64 serving1), by decide +kernel⟩
theorem witness_SnoopAnswersOfHosts_2 : ∃ (port : Nat) (hpa : BitVec 64) (bd line a plot : Nat) (d : Nat × Nat) (s u : State), (port < 128 ∧ s.memReaches port clsResponse = true ∧ newFlit port (flitIn port 64 s) = u) ∧ (u.boundAt port hpa = none ∧ u.lineAt port hpa = some (u.self, bd, line) ∧ u.agentOf u.self port = some a) ∧ (u.decode port hpa = some d ∧ u.plotAt port d.1 = some plot) :=
  ⟨0, 0x40, 0, 1, 0, 0, (0, 64), serving1, newFlit 0 (flitIn 0 64 serving1), by decide +kernel⟩
theorem witness_SnoopAnswersOfHosts_3 : ∃ (port : Nat) (hpa : BitVec 64) (bd line a plot : Nat) (d : Nat × Nat) (s u : State), (port < 128 ∧ s.memReaches port clsResponse = true ∧ newFlit port (flitIn port 64 s) = u) ∧ (u.boundAt port hpa = none ∧ u.lineAt port hpa = some (u.self, bd, line) ∧ u.agentOf u.self port = some a) ∧ (u.decode port hpa = some d ∧ u.plotAt port d.1 = some plot) :=
  ⟨0, 0x40, 0, 1, 0, 0, (0, 64), serving1, newFlit 0 (flitIn 0 64 serving1), by decide +kernel⟩
theorem witness_SnoopAnswersOfHosts_4 : ∃ (sl a pl : Nat) (op : MsgOp) (s : State), ((s.slice sl).awaits a pl = none) :=
  ⟨0, 0, 1, .rspI, serving1, by decide +kernel⟩
theorem witness_SnoopAnswersOfHosts_5 : ∃ (port : Nat) (hpa : BitVec 64) (s u : State), (port < 128 ∧ s.memReaches port clsResponse = true ∧ newFlit port (flitIn port 64 s) = u) ∧ (u.boundAt port hpa = none ∧ u.lineAt port hpa = none) :=
  ⟨0, 0x20000000, serving1, newFlit 0 (flitIn 0 64 serving1), by decide +kernel⟩
theorem witness_SnoopAnswersOfHosts_6 : ∃ (port : Nat) (hpa : BitVec 64) (s u : State), (port < 128 ∧ s.memReaches port clsResponse = true ∧ newFlit port (flitIn port 64 s) = u) ∧ (u.boundAt port hpa = none ∧ u.lineAt port hpa = none) :=
  ⟨0, 0x20000000, serving1, newFlit 0 (flitIn 0 64 serving1), by decide +kernel⟩
theorem witness_SnoopAnswersOfHosts_7 : ∃ (port : Nat) (hpa : BitVec 64) (bd line a plot : Nat) (d : Nat × Nat) (s u : State), (port < 128 ∧ s.memReaches port clsResponse = true ∧ newFlit port (flitIn port 64 s) = u) ∧ (u.boundAt port hpa = none ∧ u.lineAt port hpa = some (u.self, bd, line) ∧ u.agentOf u.self port = some a) ∧ (u.decode port hpa = some d ∧ u.plotAt port d.1 = some plot) :=
  ⟨0, 0x40, 0, 1, 0, 0, (0, 64), serving1, newFlit 0 (flitIn 0 64 serving1), by decide +kernel⟩
theorem witness_DeviceCommandsRun_1 : ∃ (s : State) (ring : Nat), (s.passes 0x0101 ring = true) :=
  ⟨cmd (on .grow) 0 (word 0x0101 0 0), 0, by decide +kernel⟩
theorem witness_DeviceCommandsRun_2 : ∃ (s : State) (ring : Nat), (s.passes 0x0102 ring = true) :=
  ⟨cmd (on .grow) 0 (word 0x0102 0 0), 0, by decide +kernel⟩
theorem witness_DeviceCommandsRun_3 : ∃ (s : State) (ring : Nat) (m : Mode), (s.passes 0x0103 ring = true) ∧ (ring ≠ 15) ∧ (modeOfCode ((s.front ring).byte 16) = some m) ∧ (m ≠ .sprout ∧ m ≠ .shadow ∧ m ≠ s.dev.mode) ∧ (s.dev.transition = none ∧ s.dev.dormantDue = false) ∧ ((modeRefusal m s).all (fun x => !x.1) = true) :=
  ⟨cmd (on .grow) 0 (word 0x0103 1 3), 0, .fallow, by decide +kernel⟩
theorem witness_DeviceCommandsRun_4 : ∃ (s : State) (ring : Nat), (s.passes 0x0103 ring = true) ∧ (modeOfCode ((s.front ring).byte 16) = some s.dev.mode) ∧ (s.dev.mode ≠ .sprout ∧ s.dev.mode ≠ .shadow) ∧ (s.dev.transition = none ∧ s.dev.dormantDue = false) :=
  ⟨cmd (on .grow) 0 (word 0x0103 1 1), 0, by decide +kernel⟩
theorem witness_DeviceCommandsRun_5 : ∃ (s : State) (ring : Nat), (s.passes 0x0104 ring = true) ∧ (1 ≤ (s.front ring).byte 16 ∧ (s.front ring).byte 16 ≤ 3) ∧ (s.hasJob (fun k => decide (k = .mode ∨ k = .modeRecord)) = false) :=
  ⟨cmd (on .grow) 0 (word 0x0104 1 3), 0, by decide +kernel⟩
theorem witness_DeviceCommandsRun_6 : ∃ (s : State) (ring : Nat), (s.passes 0x0105 ring = true) ∧ ((s.front ring).byte 16 ≤ 15) ∧ (s.pair.state = .unpaired) ∧ (s.trunks.trunk.any (fun e => decide (e.2.state ≠ .down ∧ e.2.state ≠ .broken)) = false) :=
  ⟨cmd (on .grow) 0 (word 0x0105 1 15), 0, by decide +kernel⟩
theorem witness_DeviceCommandsRun_7 : ∃ (s : State) (ring : Nat), (s.passes 0x0106 ring = true) :=
  ⟨cmd (on .grow) 0 (word 0x0106 40 0x0103), 0, by decide +kernel⟩
theorem witness_DeviceCommandsRun_8 : ∃ (u : State) (c : Command), (c.opcode.toNat = 0x0106) ∧ (c.byte 16 ≤ 3) ∧ (c.byte 17 = 1) :=
  ⟨on .grow, command (word 0x0106 40 0x0103), by decide +kernel⟩
theorem witness_DeviceCommandsRun_9 : ∃ (s : State) (ring : Nat), (s.passes 0x0107 ring = true) :=
  ⟨cmd (on .grow) 0 (word 0x0107 1 3), 0, by decide +kernel⟩
theorem witness_DeviceCommandsRun_10 : ∃ (u : State) (c : Command), (c.opcode.toNat = 0x0107) ∧ (c.byte 16 ≤ 3) ∧ (u.steward.keys.any (fun e => decide (e.1 ≠ c.byte 16) && e.2.valid) = true) :=
  ⟨{ on .grow with steward := { keys := [(2, { valid := true })] } }, command (word 0x0107 1 3), by decide +kernel⟩
theorem witness_DeviceCommandsRun_11 : ∃ (u : State) (c : Command), (c.opcode.toNat = 0x0107) ∧ (u.steward.keys.any (fun e => decide (e.1 ≠ c.byte 16) && e.2.valid) = false) :=
  ⟨on .grow, command (word 0x0107 1 3), by decide +kernel⟩
theorem witness_PlotCommandsRun_1 : ∃ (s : State) (ring : Nat), (s.passes 0x0201 ring = true) :=
  ⟨cmd ({ on .grow with ports := { port := [(127, { entry := { role := 1 } })] } }) 0 (wordP 0x0201 511 2 0x077F), 0, by decide +kernel⟩
theorem witness_PlotCommandsRun_2 : ∃ (u : State) (c : Command), (c.opcode.toNat = 0x0201) ∧ ((u.plot c.plotField).state = .free) ∧ (c.byte 17 ≤ 7 ∧ c.byte 16 ≤ 127 ∧ (u.port (c.byte 16)).upstream = true) ∧ (u.plotAt (c.byte 16) (c.byte 17) = none) :=
  ⟨{ on .grow with ports := { port := [(127, { entry := { role := 1 } })] } }, command (wordP 0x0201 511 2 0x077F), by decide +kernel⟩
theorem witness_PlotCommandsRun_3 : ∃ (s : State) (ring : Nat), (s.passes 0x0202 ring = true) :=
  ⟨cmd ({ on .grow with pool := { plots := [(3, { state := .configured })] } }) 0 (wordP 0x0202 3 0 0), 0, by decide +kernel⟩
theorem witness_PlotCommandsRun_4 : ∃ (u : State) (c : Command), (c.opcode.toNat = 0x0202) ∧ ((u.plot c.plotField).state = .configured) :=
  ⟨{ on .grow with pool := { plots := [(3, { state := .configured })] } }, command (wordP 0x0202 3 0 0), by decide +kernel⟩
theorem witness_PlotCommandsRun_5 : ∃ (s : State) (ring : Nat), (s.passes 0x0203 ring = true) :=
  ⟨cmd ({ on .grow with pool := { plots := [(3, { state := .configured, slots := [(0, { valid := true, bed := 5, span := 1 })] })], beds := [(5, { state := .defined, span := 1 })] } }) 0 (wordP 0x0203 3 8 0x0000000100050007), 0, by decide +kernel⟩
theorem witness_PlotCommandsRun_6 : ∃ (u : State) (c : Command), (c.opcode.toNat = 0x0203) ∧ ((u.plot c.plotField).moving = false ∧ (u.plot c.plotField).state ≠ .free) ∧ (c.byte 16 ≤ 7 ∧ c.byte 17 = u.self ∧ c.num 18 2 ≤ 4095 ∧ c.num 20 4 < 2 ^ 17) ∧ (((u.plot c.plotField).slot (c.byte 16)).valid = false ∧ u.pool.remoteMaps = []) ∧ ((u.bed (c.num 18 2)).state = .defined) ∧ ((u.plot c.plotField).windowFree (c.byte 16) (c.num 20 4) (u.bed (c.num 18 2)).span.toNat (u.bed (c.num 18 2)).ways.toNat = true) ∧ (u.portMaps c.plotField u.self (c.num 18 2) = false) ∧ ((u.plot c.plotField).maps u.self (c.num 18 2) = true) :=
  ⟨{ on .grow with pool := { plots := [(3, { state := .configured, slots := [(0, { valid := true, bed := 5, span := 1 })] })], beds := [(5, { state := .defined, span := 1 })] } }, command (wordP 0x0203 3 8 0x0000000100050007), by decide +kernel⟩
theorem witness_PlotCommandsRun_7 : ∃ (s : State) (ring : Nat), (s.passes 0x0204 ring = true) :=
  ⟨cmd ({ on .grow with pool := { plots := [(3, { state := .active, slots := [(7, { valid := true, bed := 5, span := 1 })] })] } }) 0 (wordP 0x0204 3 1 7), 0, by decide +kernel⟩
theorem witness_PlotCommandsRun_8 : ∃ (u : State) (c : Command), (c.opcode.toNat = 0x0204) ∧ ((u.plot c.plotField).moving = false ∧ (u.plot c.plotField).state ≠ .free) ∧ (c.byte 16 ≤ 7 ∧ ((u.plot c.plotField).slot (c.byte 16)).valid = true) ∧ ((u.plot c.plotField).state ≠ .active ∨ ((u.plot c.plotField).slot (c.byte 16)).accepted = 0) :=
  ⟨{ on .grow with pool := { plots := [(3, { state := .active, slots := [(7, { valid := true, bed := 5, span := 1 })] })] } }, command (wordP 0x0204 3 1 7), by decide +kernel⟩
theorem witness_PlotCommandsRun_9 : ∃ (s u : State) (c : Command) (ring : Nat), (s.passes 0x0205 ring = true) ∧ (s.front ring = c) ∧ (s.taken ring = u) ∧ ((u.plot c.plotField).state = .configured) :=
  ⟨cmd ({ on .grow with pool := { plots := [(3, { state := .configured })] } }) 0 (wordP 0x0205 3 0 0), (cmd ({ on .grow with pool := { plots := [(3, { state := .configured })] } }) 0 (wordP 0x0205 3 0 0)).taken 0, (cmd ({ on .grow with pool := { plots := [(3, { state := .configured })] } }) 0 (wordP 0x0205 3 0 0)).front 0, 0, by decide +kernel⟩
theorem witness_PlotCommandsRun_10 : ∃ (u : State) (c : Command), (c.opcode.toNat = 0x0205) ∧ ((u.plot c.plotField).state = .configured) :=
  ⟨(cmd ({ on .grow with pool := { plots := [(3, { state := .configured })] } }) 0 (wordP 0x0205 3 0 0)).taken 0, (cmd ({ on .grow with pool := { plots := [(3, { state := .configured })] } }) 0 (wordP 0x0205 3 0 0)).front 0, by decide +kernel⟩
theorem witness_PlotCommandsRun_11 : ∃ (s : State) (c : Command) (ring : Nat), (s.passes 0x0205 ring = true) ∧ (s.front ring = c) ∧ ((s.plot c.plotField).moving = true ∧ (s.plot c.plotField).queued = .none) :=
  ⟨cmd ({ on .grow with pool := { plots := [(3, { state := .draining })] } }) 0 (wordP 0x0205 3 0 0), (cmd ({ on .grow with pool := { plots := [(3, { state := .draining })] } }) 0 (wordP 0x0205 3 0 0)).front 0, 0, by decide +kernel⟩
theorem witness_PlotCommandsRun_12 : ∃ (s u : State) (c : Command) (ring : Nat), (s.passes 0x0206 ring = true) ∧ (s.front ring = c) ∧ (s.taken ring = u) ∧ ((u.plot c.plotField).state = .active) :=
  ⟨cmd ({ on .grow with pool := { plots := [(3, { state := .active })] } }) 0 (wordP 0x0206 3 0 0), (cmd ({ on .grow with pool := { plots := [(3, { state := .active })] } }) 0 (wordP 0x0206 3 0 0)).taken 0, (cmd ({ on .grow with pool := { plots := [(3, { state := .active })] } }) 0 (wordP 0x0206 3 0 0)).front 0, 0, by decide +kernel⟩
theorem witness_PlotCommandsRun_13 : ∃ (u : State) (c : Command), (c.opcode.toNat = 0x0206) ∧ ((u.plot c.plotField).state = .active) :=
  ⟨(cmd ({ on .grow with pool := { plots := [(3, { state := .active })] } }) 0 (wordP 0x0206 3 0 0)).taken 0, (cmd ({ on .grow with pool := { plots := [(3, { state := .active })] } }) 0 (wordP 0x0206 3 0 0)).front 0, by decide +kernel⟩
theorem witness_PlotCommandsRun_14 : ∃ (s u : State) (c : Command) (ring : Nat), (s.passes 0x0207 ring = true) ∧ (s.front ring = c) ∧ (s.taken ring = u) ∧ ((u.plot c.plotField).state = .configured) :=
  ⟨cmd ({ on .grow with pool := { plots := [(3, { state := .configured })] } }) 0 (wordP 0x0207 3 1 1), (cmd ({ on .grow with pool := { plots := [(3, { state := .configured })] } }) 0 (wordP 0x0207 3 1 1)).taken 0, (cmd ({ on .grow with pool := { plots := [(3, { state := .configured })] } }) 0 (wordP 0x0207 3 1 1)).front 0, 0, by decide +kernel⟩
theorem witness_PlotCommandsRun_15 : ∃ (u : State) (c : Command), (c.opcode.toNat = 0x0207) ∧ ((u.plot c.plotField).state = .configured) :=
  ⟨(cmd ({ on .grow with pool := { plots := [(3, { state := .configured })] } }) 0 (wordP 0x0207 3 1 1)).taken 0, (cmd ({ on .grow with pool := { plots := [(3, { state := .configured })] } }) 0 (wordP 0x0207 3 1 1)).front 0, by decide +kernel⟩
theorem witness_PlotCommandsRun_16 : ∃ (s u : State) (c : Command) (ring : Nat), (s.passes 0x0207 ring = true) ∧ (s.front ring = c) ∧ (s.taken ring = u) ∧ ((u.plot c.plotField).state = .active) :=
  ⟨cmd ({ on .grow with pool := { plots := [(3, { state := .active })] } }) 0 (wordP 0x0207 3 1 1), (cmd ({ on .grow with pool := { plots := [(3, { state := .active })] } }) 0 (wordP 0x0207 3 1 1)).taken 0, (cmd ({ on .grow with pool := { plots := [(3, { state := .active })] } }) 0 (wordP 0x0207 3 1 1)).front 0, 0, by decide +kernel⟩
theorem witness_PlotCommandsRun_17 : ∃ (u : State) (c : Command), (c.opcode.toNat = 0x0207) ∧ ((u.plot c.plotField).state = .active) :=
  ⟨(cmd ({ on .grow with pool := { plots := [(3, { state := .active })] } }) 0 (wordP 0x0207 3 1 1)).taken 0, (cmd ({ on .grow with pool := { plots := [(3, { state := .active })] } }) 0 (wordP 0x0207 3 1 1)).front 0, by decide +kernel⟩
theorem witness_PlotCommandsRun_18 : ∃ (s : State) (ring : Nat), (s.passes 0x0208 ring = true) :=
  ⟨cmd ({ on .grow with pool := { plots := [(3, { state := .configured })] } }) 0 (wordP 0x0208 3 1 1), 0, by decide +kernel⟩
theorem witness_PlotCommandsRun_19 : ∃ (u : State) (c : Command), (c.opcode.toNat = 0x0208) ∧ ((u.plot c.plotField).state = .configured) :=
  ⟨{ on .grow with pool := { plots := [(3, { state := .configured })] } }, command (wordP 0x0208 3 1 1), by decide +kernel⟩
theorem witness_PlotCommandsRun_20 : ∃ (s u : State) (c : Command) (ring : Nat), (s.passes 0x0209 ring = true) ∧ (s.front ring = c) ∧ (s.taken ring = u) ∧ (c.num 16 2 = 0 ∨ 4 ≤ c.num 16 2) ∧ (c.num 18 2 = 0 ∨ 4 ≤ c.num 18 2) ∧ (1 ≤ c.byte 20 ∧ c.byte 20 ≤ 15 ∧ c.byte 21 ≠ 0) ∧ ((u.plot c.plotField).moving = false ∧ (u.plot c.plotField).state ≠ .free) :=
  ⟨cmd ({ on .grow with pool := { plots := [(3, { state := .configured })] } }) 0 (wordP 0x0209 3 6 0xFF0100040000), (cmd ({ on .grow with pool := { plots := [(3, { state := .configured })] } }) 0 (wordP 0x0209 3 6 0xFF0100040000)).taken 0, (cmd ({ on .grow with pool := { plots := [(3, { state := .configured })] } }) 0 (wordP 0x0209 3 6 0xFF0100040000)).front 0, 0, by decide +kernel⟩
theorem witness_PlotCommandsRun_21 : ∃ (s u : State) (c : Command) (ring : Nat), (s.passes 0x020A ring = true) ∧ (s.front ring = c) ∧ (s.taken ring = u) :=
  ⟨cmd (on .grow) 0 (wordP 0x020A 511 0 0), (cmd (on .grow) 0 (wordP 0x020A 511 0 0)).taken 0, (cmd (on .grow) 0 (wordP 0x020A 511 0 0)).front 0, 0, by decide +kernel⟩
theorem witness_BedAndExtentCommandsRun_1 : ∃ (s : State) (ring : Nat), (s.passes 0x0301 ring = true) :=
  ⟨cmd (on .grow) 0 (word 0x0301 14 (4095 + 0x10 * 2^16 + 0xFFFF0 * 2^32 + 5 * 2^64 + 4 * 2^72 + 6 * 2^80 + 953 * 2^96)), 0, by decide +kernel⟩
theorem witness_BedAndExtentCommandsRun_2 : ∃ (u : State) (c : Command), (c.opcode.toNat = 0x0301) ∧ (c.num 16 2 ≤ 4095) ∧ (1 ≤ c.num 18 2 ∧ c.num 18 2 ≤ 16384 ∧ c.num 20 4 + c.num 18 2 ≤ 2 ^ 20) ∧ (c.byte 25 ≤ 4 ∧ c.byte 26 ≤ 6 ∧ c.num 18 2 % 2 ^ c.byte 25 = 0) ∧ (1 ≤ c.num 28 2 ∧ c.num 28 2 ≤ 953) ∧ (c.byte 24 / 2 % 4 ≤ 1 ∨ (c.byte 24 / 2 % 4 = 2 ∧ c.byte 24 % 2 = 1)) ∧ (u.spanTaken (c.num 16 2) (c.num 20 4) (c.num 18 2) = false) ∧ ((u.bed (c.num 16 2)).state = .free) :=
  ⟨on .grow, command (word 0x0301 14 (4095 + 0x10 * 2^16 + 0xFFFF0 * 2^32 + 5 * 2^64 + 4 * 2^72 + 6 * 2^80 + 953 * 2^96)), by decide +kernel⟩
theorem witness_BedAndExtentCommandsRun_3 : ∃ (s : State) (c : Command) (ring : Nat), (s.passes 0x0302 ring = true) ∧ (s.front ring = c) ∧ (c.num 16 2 ≤ 4095) ∧ ((s.bed (c.num 16 2)).state = .defined ∧ (s.bed (c.num 16 2)).mapCount = 0 ∧ (s.bed (c.num 16 2)).exports = []) :=
  ⟨cmd ({ on .grow with pool := { beds := [(4095, { state := .defined, mosi := true, count := 2, span := 3 })], extents := [(2, { state := .defined })] } }) 0 (word 0x0302 2 4095), (cmd ({ on .grow with pool := { beds := [(4095, { state := .defined, mosi := true, count := 2, span := 3 })], extents := [(2, { state := .defined })] } }) 0 (word 0x0302 2 4095)).front 0, 0, by decide +kernel⟩
theorem witness_BedAndExtentCommandsRun_4 : ∃ (s u : State) (c : Command) (ring : Nat), (s.passes 0x0303 ring = true) ∧ (s.front ring = c) ∧ (s.taken ring = u) ∧ (c.num 16 2 ≤ 4095 ∧ c.byte 18 ≤ 2 ∧ 1 ≤ c.num 20 2 ∧ c.num 20 2 ≤ 953) ∧ ((c.byte 18 = 2 → (u.bed (c.num 16 2)).mosi = true)) ∧ ((u.bed (c.num 16 2)).state = .defined ∧ (u.bed (c.num 16 2)).policyScan = []) :=
  ⟨cmd ({ on .grow with pool := { beds := [(4095, { state := .defined, mosi := true, count := 2, span := 3 })], extents := [(2, { state := .defined })] } }) 0 (word 0x0303 6 (4095 + 2 * 2^16 + 953 * 2^32)), (cmd ({ on .grow with pool := { beds := [(4095, { state := .defined, mosi := true, count := 2, span := 3 })], extents := [(2, { state := .defined })] } }) 0 (word 0x0303 6 (4095 + 2 * 2^16 + 953 * 2^32))).taken 0, (cmd ({ on .grow with pool := { beds := [(4095, { state := .defined, mosi := true, count := 2, span := 3 })], extents := [(2, { state := .defined })] } }) 0 (word 0x0303 6 (4095 + 2 * 2^16 + 953 * 2^32))).front 0, 0, by decide +kernel⟩
theorem witness_BedAndExtentCommandsRun_5 : ∃ (u : State) (c : Command), (c.opcode.toNat = 0x0303) ∧ (c.num 16 2 ≤ 4095 ∧ c.byte 18 ≤ 2 ∧ 1 ≤ c.num 20 2 ∧ c.num 20 2 ≤ 953) ∧ ((c.byte 18 = 2 → (u.bed (c.num 16 2)).mosi = true)) ∧ ((u.bed (c.num 16 2)).state = .defined ∧ (u.bed (c.num 16 2)).policyScan = []) :=
  ⟨(cmd ({ on .grow with pool := { beds := [(4095, { state := .defined, mosi := true, count := 2, span := 3 })], extents := [(2, { state := .defined })] } }) 0 (word 0x0303 6 (4095 + 2 * 2^16 + 953 * 2^32))).taken 0, (cmd ({ on .grow with pool := { beds := [(4095, { state := .defined, mosi := true, count := 2, span := 3 })], extents := [(2, { state := .defined })] } }) 0 (word 0x0303 6 (4095 + 2 * 2^16 + 953 * 2^32))).front 0, by decide +kernel⟩
theorem witness_BedAndExtentCommandsRun_6 : ∃ (s : State) (ring : Nat), (s.passes 0x0304 ring = true) :=
  ⟨cmd ({ on .grow with pool := { beds := [(4095, { state := .defined, mosi := true, count := 2, span := 3 })], extents := [(2, { state := .defined })] } }) 0 (word 0x0304 4 (4095 + 1 * 2^16)), 0, by decide +kernel⟩
theorem witness_BedAndExtentCommandsRun_7 : ∃ (u : State) (c : Command), (c.opcode.toNat = 0x0304) ∧ (c.num 16 2 ≤ 4095) ∧ ((u.bed (c.num 16 2)).state = .defined ∧ (u.bed (c.num 16 2)).resize = none) ∧ ((u.bed (c.num 16 2)).count.toNat + c.num 18 2 * 2 ^ (u.bed (c.num 16 2)).ways.toNat ≤ (u.bed (c.num 16 2)).span.toNat) ∧ (((u.bed (c.num 16 2)).joining (c.num 18 2)).all (fun i => decide ((u.extent i).state = .defined)) = true) :=
  ⟨{ on .grow with pool := { beds := [(4095, { state := .defined, mosi := true, count := 2, span := 3 })], extents := [(2, { state := .defined })] } }, command (word 0x0304 4 (4095 + 1 * 2^16)), by decide +kernel⟩
theorem witness_BedAndExtentCommandsRun_8 : ∃ (s : State) (c : Command) (ring : Nat), (s.passes 0x0305 ring = true) ∧ (s.front ring = c) ∧ (c.num 16 2 ≤ 4095) ∧ ((s.bed (c.num 16 2)).state = .defined ∧ (s.bed (c.num 16 2)).resize = none) ∧ (c.num 18 2 ≤ (s.bed (c.num 16 2)).count.toNat / 2 ^ (s.bed (c.num 16 2)).ways.toNat) ∧ (((s.bed (c.num 16 2)).leaving (c.num 18 2)).all (fun i => decide ((s.extent i).state ≠ .migrating)) = true) :=
  ⟨cmd ({ on .grow with pool := { beds := [(4095, { state := .defined, mosi := true, count := 2, span := 3 })], extents := [(2, { state := .defined })] } }) 0 (word 0x0305 12 (4095 + 2 * 2^16)), (cmd ({ on .grow with pool := { beds := [(4095, { state := .defined, mosi := true, count := 2, span := 3 })], extents := [(2, { state := .defined })] } }) 0 (word 0x0305 12 (4095 + 2 * 2^16))).front 0, 0, by decide +kernel⟩
theorem witness_BedAndExtentCommandsRun_9 : ∃ (s : State) (ring : Nat), (s.passes 0x0306 ring = true) :=
  ⟨cmd ({ on .grow with pool := { beds := [(4095, { state := .defined, mosi := true, count := 2, span := 3, exports := [1], mapCount := 0 })] } }) 0 (word 0x0306 4 (4095 + 1 * 2^16 + 1 * 2^24)), 0, by decide +kernel⟩
theorem witness_BedAndExtentCommandsRun_10 : ∃ (u : State) (c : Command), (c.opcode.toNat = 0x0306) ∧ (c.num 16 2 ≤ 4095 ∧ c.byte 18 ≤ 15) ∧ ((u.bed (c.num 16 2)).state = .defined) ∧ (c.byte 19 % 2 = 1) ∧ ((u.bed (c.num 16 2)).remote.any (fun r => decide (r.1 = c.byte 18)) = false) :=
  ⟨{ on .grow with pool := { beds := [(4095, { state := .defined, mosi := true, count := 2, span := 3, exports := [1], mapCount := 0 })] } }, command (word 0x0306 4 (4095 + 1 * 2^16 + 1 * 2^24)), by decide +kernel⟩
theorem witness_BedAndExtentCommandsRun_11 : ∃ (u : State) (c : Command), (c.opcode.toNat = 0x0306) ∧ (c.num 16 2 ≤ 4095 ∧ c.byte 18 ≤ 15) ∧ ((u.bed (c.num 16 2)).state = .defined) ∧ (c.byte 19 % 2 = 0) ∧ ((u.bed (c.num 16 2)).exports.contains (BitVec.ofNat 4 (c.byte 18)) = false) :=
  ⟨{ on .grow with pool := { beds := [(4095, { state := .defined, mosi := true, count := 2, span := 3, exports := [1], mapCount := 0 })] } }, command (word 0x0306 4 (4095 + 15 * 2^16)), by decide +kernel⟩
theorem witness_BedAndExtentCommandsRun_12 : ∃ (s u : State) (c : Command) (ring : Nat), (s.passes 0x0307 ring = true) ∧ (s.front ring = c) ∧ (s.taken ring = u) ∧ (c.num 16 2 ≤ 4095) :=
  ⟨cmd (on .grow) 0 (word 0x0307 2 4095), (cmd (on .grow) 0 (word 0x0307 2 4095)).taken 0, (cmd (on .grow) 0 (word 0x0307 2 4095)).front 0, 0, by decide +kernel⟩
theorem witness_BedAndExtentCommandsRun_13 : ∃ (s : State) (c : Command) (ring : Nat), (s.passes 0x0308 ring = true) ∧ (s.front ring = c) ∧ (c.num 16 4 < 2 ^ 20 ∧ c.byte 20 ≤ 127 ∧ c.byte 21 ≤ 15 ∧ c.num 24 4 < 2 ^ 20) ∧ ((s.port (c.byte 20)).downstream = true) ∧ (s.ldBound (c.byte 20) (c.byte 21) = false) ∧ ((s.extent (c.num 16 4)).state = .free ∧ Tab.find s.pool.defining (c.num 16 4) = none) ∧ (s.capacityHas { port := BitVec.ofNat 7 (c.byte 20), ld := BitVec.ofNat 4 (c.byte 21), dpaBase := BitVec.ofNat 20 (c.num 24 4) } = true ∧ (Tab.find (s.port (c.byte 20)).decoder0 (c.byte 21)).isSome = true) :=
  ⟨cmd ({ on .grow with ports := { port := [(127, { entry := { role := 2 }, decoder0 := [(15, {})] })] } }) 0 (word 0x0308 12 (0xFFFFF + 127 * 2^32 + 15 * 2^40 + 0xFFFFF * 2^64)), (cmd ({ on .grow with ports := { port := [(127, { entry := { role := 2 }, decoder0 := [(15, {})] })] } }) 0 (word 0x0308 12 (0xFFFFF + 127 * 2^32 + 15 * 2^40 + 0xFFFFF * 2^64))).front 0, 0, by decide +kernel⟩
theorem witness_BedAndExtentCommandsRun_14 : ∃ (s u : State) (c : Command) (ring : Nat), (s.passes 0x0309 ring = true) ∧ (s.front ring = c) ∧ (s.taken ring = u) ∧ (c.num 16 4 < 2 ^ 20) ∧ ((u.extent (c.num 16 4)).state = .defined ∧ u.migTarget (c.num 16 4) = false ∧ u.growing (c.num 16 4) = false) :=
  ⟨cmd ({ on .grow with pool := { extents := [(1048575, { state := .defined, zeroed := true })] } }) 0 (word 0x0309 4 1048575), (cmd ({ on .grow with pool := { extents := [(1048575, { state := .defined, zeroed := true })] } }) 0 (word 0x0309 4 1048575)).taken 0, (cmd ({ on .grow with pool := { extents := [(1048575, { state := .defined, zeroed := true })] } }) 0 (word 0x0309 4 1048575)).front 0, 0, by decide +kernel⟩
theorem witness_BedAndExtentCommandsRun_15 : ∃ (u : State) (c : Command), (c.opcode.toNat = 0x0309) ∧ (c.num 16 4 < 2 ^ 20) ∧ ((u.extent (c.num 16 4)).state = .defined ∧ u.migTarget (c.num 16 4) = false ∧ u.growing (c.num 16 4) = false) :=
  ⟨(cmd ({ on .grow with pool := { extents := [(1048575, { state := .defined, zeroed := true })] } }) 0 (word 0x0309 4 1048575)).taken 0, (cmd ({ on .grow with pool := { extents := [(1048575, { state := .defined, zeroed := true })] } }) 0 (word 0x0309 4 1048575)).front 0, by decide +kernel⟩
theorem witness_BedAndExtentCommandsRun_16 : ∃ (s : State) (c : Command) (ring : Nat), (s.passes 0x030A ring = true) ∧ (s.front ring = c) ∧ (c.num 16 4 < 2 ^ 20) ∧ ((s.extent (c.num 16 4)).state = .failed) :=
  ⟨cmd ({ on .grow with pool := { extents := [(1048575, { state := .failed, zeroed := true })] } }) 0 (word 0x030A 4 1048575), (cmd ({ on .grow with pool := { extents := [(1048575, { state := .failed, zeroed := true })] } }) 0 (word 0x030A 4 1048575)).front 0, 0, by decide +kernel⟩
theorem witness_BedAndExtentCommandsRun_17 : ∃ (s u : State) (c : Command) (ring : Nat), (s.passes 0x030B ring = true) ∧ (s.front ring = c) ∧ (s.taken ring = u) ∧ (c.num 16 4 < 2 ^ 20) :=
  ⟨cmd (on .grow) 0 (word 0x030B 4 1048575), (cmd (on .grow) 0 (word 0x030B 4 1048575)).taken 0, (cmd (on .grow) 0 (word 0x030B 4 1048575)).front 0, 0, by decide +kernel⟩
theorem witness_BedAndExtentCommandsRun_18 : ∃ (s u : State) (c : Command) (ring : Nat), (s.passes 0x030B ring = true) ∧ (s.front ring = c) ∧ (s.taken ring = u) ∧ (2 ^ 20 ≤ c.num 16 4) :=
  ⟨cmd (on .grow) 0 (word 0x030B 4 1048576), (cmd (on .grow) 0 (word 0x030B 4 1048576)).taken 0, (cmd (on .grow) 0 (word 0x030B 4 1048576)).front 0, 0, by decide +kernel⟩
theorem witness_PortCommandsRun_1 : ∃ (s : State) (ring : Nat), (s.passes 0x0401 ring = true) :=
  ⟨cmd (on .grow) 0 (word 0x0401 72 0x08000000 + 2 ^ 16), 0, by decide +kernel⟩
theorem witness_PortCommandsRun_2 : ∃ (u : State) (c : Command), (c.opcode.toNat = 0x0401) ∧ (c.blk 0 1 ≤ 15) ∧ (layoutGood (layoutOf c u) (fun i => c.blk (8 + 8 * i) 8 == 0) = true) ∧ (u.roleCount (c.blk 0 1) (layoutOf c u) 1 ≤ 64 ∧ u.roleCount (c.blk 0 1) (layoutOf c u) 2 ≤ 96) ∧ ((∀ i < 8, u.portInUse (8 * c.blk 0 1 + i) = false)) :=
  ⟨on .grow, command (word 0x0401 72 0x08000000 + 2 ^ 16), by decide +kernel⟩
theorem witness_PortCommandsRun_3 : ∃ (s u : State) (c : Command) (ring : Nat), (s.passes 0x0402 ring = true) ∧ (s.front ring = c) ∧ (s.taken ring = u) ∧ (c.byte 16 ≤ 127 ∧ c.byte 17 ≤ 6) :=
  ⟨cmd (on .fallow) 0 (word 0x0402 3 0x03067F), (cmd (on .fallow) 0 (word 0x0402 3 0x03067F)).taken 0, (cmd (on .fallow) 0 (word 0x0402 3 0x03067F)).front 0, 0, by decide +kernel⟩
theorem witness_PortCommandsRun_4 : ∃ (u : State) (c : Command), (c.opcode.toNat = 0x0402) ∧ (c.byte 16 ≤ 127 ∧ c.byte 17 ≤ 6) :=
  ⟨(cmd (on .fallow) 0 (word 0x0402 3 0x03067F)).taken 0, (cmd (on .fallow) 0 (word 0x0402 3 0x03067F)).front 0, by decide +kernel⟩
theorem witness_PortCommandsRun_5 : ∃ (s u : State) (c : Command) (ring : Nat), (s.passes 0x0403 ring = true) ∧ (s.front ring = c) ∧ (s.taken ring = u) ∧ (c.byte 16 ≤ 127) :=
  ⟨cmd (on .grow) 0 (word 0x0403 1 127), (cmd (on .grow) 0 (word 0x0403 1 127)).taken 0, (cmd (on .grow) 0 (word 0x0403 1 127)).front 0, 0, by decide +kernel⟩
theorem witness_PortCommandsRun_6 : ∃ (u : State) (c : Command), (c.opcode.toNat = 0x0403) ∧ (c.byte 16 ≤ 127) :=
  ⟨(cmd (on .grow) 0 (word 0x0403 1 127)).taken 0, (cmd (on .grow) 0 (word 0x0403 1 127)).front 0, by decide +kernel⟩
theorem witness_PortCommandsRun_7 : ∃ (s u : State) (c : Command) (ring : Nat), (s.passes 0x0404 ring = true) ∧ (s.front ring = c) ∧ (s.taken ring = u) ∧ (c.byte 16 ≤ 127) :=
  ⟨cmd (on .grow) 0 (word 0x0404 1 127), (cmd (on .grow) 0 (word 0x0404 1 127)).taken 0, (cmd (on .grow) 0 (word 0x0404 1 127)).front 0, 0, by decide +kernel⟩
theorem witness_PortCommandsRun_8 : ∃ (s u : State) (c : Command) (ring : Nat), (s.passes 0x0404 ring = true) ∧ (s.front ring = c) ∧ (s.taken ring = u) ∧ (127 < c.byte 16) :=
  ⟨cmd (on .grow) 0 (word 0x0404 1 128), (cmd (on .grow) 0 (word 0x0404 1 128)).taken 0, (cmd (on .grow) 0 (word 0x0404 1 128)).front 0, 0, by decide +kernel⟩
theorem witness_PortCommandsRun_9 : ∃ (s u : State) (c : Command) (ring : Nat), (s.passes 0x0405 ring = true) ∧ (s.front ring = c) ∧ (s.taken ring = u) ∧ (c.byte 16 ≤ 127) :=
  ⟨cmd (on .grow) 0 (word 0x0405 1 127), (cmd (on .grow) 0 (word 0x0405 1 127)).taken 0, (cmd (on .grow) 0 (word 0x0405 1 127)).front 0, 0, by decide +kernel⟩
theorem witness_PortCommandsRun_10 : ∃ (s : State) (c : Command) (ring : Nat), (s.passes 0x0406 ring = true) ∧ (s.front ring = c) ∧ (c.byte 16 ≤ 127 ∧ (s.port (c.byte 16)).downstream = true) ∧ (s.removalBusy (c.byte 16) = false) :=
  ⟨cmd ({ on .grow with ports := { port := [(0, { entry := { role := 1 } }), (127, { entry := { role := 2 } })] } }) 0 (word 0x0406 1 127), (cmd ({ on .grow with ports := { port := [(0, { entry := { role := 1 } }), (127, { entry := { role := 2 } })] } }) 0 (word 0x0406 1 127)).front 0, 0, by decide +kernel⟩
theorem witness_PortCommandsRun_11 : ∃ (s u : State) (c : Command) (ring : Nat), (s.passes 0x0407 ring = true) ∧ (s.front ring = c) ∧ (s.taken ring = u) ∧ (c.blk 0 1 ≤ 127 ∧ c.blk 1 1 ≤ 1 ∧ c.blk 2 1 ≤ 1 ∧ c.blk 3 1 ≤ 1) ∧ ((u.port (c.blk 0 1)).upstream = true) :=
  ⟨cmd ({ on .grow with ports := { port := [(127, { entry := { role := 1 } })] }, steward := { sram := [(0, 127), (1, 1), (3, 1)] } }) 0 (word 0x0407 52 0x08000000 + 2 ^ 16), (cmd ({ on .grow with ports := { port := [(127, { entry := { role := 1 } })] }, steward := { sram := [(0, 127), (1, 1), (3, 1)] } }) 0 (word 0x0407 52 0x08000000 + 2 ^ 16)).taken 0, (cmd ({ on .grow with ports := { port := [(127, { entry := { role := 1 } })] }, steward := { sram := [(0, 127), (1, 1), (3, 1)] } }) 0 (word 0x0407 52 0x08000000 + 2 ^ 16)).front 0, 0, by decide +kernel⟩
theorem witness_PortCommandsRun_12 : ∃ (u : State) (c : Command), (c.opcode.toNat = 0x0407) ∧ (c.blk 0 1 ≤ 127 ∧ c.blk 1 1 ≤ 1 ∧ c.blk 2 1 ≤ 1 ∧ c.blk 3 1 ≤ 1) ∧ ((u.port (c.blk 0 1)).upstream = true) :=
  ⟨(cmd ({ on .grow with ports := { port := [(127, { entry := { role := 1 } })] }, steward := { sram := [(0, 127), (1, 1), (3, 1)] } }) 0 (word 0x0407 52 0x08000000 + 2 ^ 16)).taken 0, (cmd ({ on .grow with ports := { port := [(127, { entry := { role := 1 } })] }, steward := { sram := [(0, 127), (1, 1), (3, 1)] } }) 0 (word 0x0407 52 0x08000000 + 2 ^ 16)).front 0, by decide +kernel⟩
theorem witness_PortCommandsRun_13 : ∃ (s : State) (ring : Nat), (s.passes 0x0408 ring = true) :=
  ⟨cmd ({ on .grow with ports := { port := [(0, { entry := { role := 1 } }), (127, { entry := { role := 2 } })] } }) 0 (word 0x0408 4 0x0F00FF7F), 0, by decide +kernel⟩
theorem witness_PortCommandsRun_14 : ∃ (u t : State) (c : Command), (c.opcode.toNat = 0x0408) ∧ (c.byte 16 ≤ 127 ∧ c.byte 18 ≤ 127 ∧ (c.byte 17 ≤ 15 ∨ c.byte 17 = 0xFF) ∧ 8 ≤ c.byte 19 ∧ c.byte 19 ≤ 15) ∧ ((u.port (c.byte 16)).downstream = true ∧ (u.port (c.byte 18)).upstream = true) ∧ (u.pool.extents.any (fun e => decide (e.2.state ≠ .free ∧ e.2.place.port.toNat = c.byte 16 ∧ (c.byte 17 = 0xFF ∨ e.2.place.ld.toNat = c.byte 17))) = false) ∧ ((u.vppb (c.byte 18) (c.byte 19)).bound = none) ∧ ((u.modVppb (c.byte 18) (c.byte 19) (fun x => { x with bound := some (c.byte 16, c.byte 17) })).modPort (c.byte 16) (fun p => { p with decoder0 := if c.byte 17 = 0xFF then [] else Tab.drop p.decoder0 (c.byte 17) }) = t) :=
  ⟨{ on .grow with ports := { port := [(0, { entry := { role := 1 } }), (127, { entry := { role := 2 } })] } }, (({ on .grow with ports := { port := [(0, { entry := { role := 1 } }), (127, { entry := { role := 2 } })] } }).modVppb 0 15 (fun x => { x with bound := some (127, 0xFF) })).modPort 127 (fun p => { p with decoder0 := [] }), command (word 0x0408 4 0x0F00FF7F), by decide +kernel⟩
theorem witness_PortCommandsRun_15 : ∃ (s : State) (ring : Nat), (s.passes 0x0409 ring = true) :=
  ⟨cmd ({ on .grow with ports := { port := [(0, { entry := { role := 1 } })], vppb := [(15, { bound := some (127, 0xFF) })] } }) 0 (word 0x0409 2 0x0F00), 0, by decide +kernel⟩
theorem witness_PortCommandsRun_16 : ∃ (u t : State) (c : Command), (c.opcode.toNat = 0x0409) ∧ (c.byte 16 ≤ 127 ∧ 8 ≤ c.byte 17 ∧ c.byte 17 ≤ 15) ∧ ((u.port (c.byte 16)).upstream = true ∧ (u.vppb (c.byte 16) (c.byte 17)).bound.isSome = true) ∧ (giveDecoders (u.vppb (c.byte 16) (c.byte 17)).bound (u.modVppb (c.byte 16) (c.byte 17) (fun x => { x with bound := none })) = t) :=
  ⟨{ on .grow with ports := { port := [(0, { entry := { role := 1 } })], vppb := [(15, { bound := some (127, 0xFF) })] } }, giveDecoders (some (127, 0xFF)) (({ on .grow with ports := { port := [(0, { entry := { role := 1 } })], vppb := [(15, { bound := some (127, 0xFF) })] } }).modVppb 0 15 (fun x => { x with bound := none })), command (word 0x0409 2 0x0F00), by decide +kernel⟩
theorem witness_PortCommandsRun_17 : ∃ (s u : State) (c : Command) (ring : Nat), (s.passes 0x040A ring = true) ∧ (s.front ring = c) ∧ (s.taken ring = u) ∧ (1 ≤ c.num 18 2 ∧ c.num 18 2 < c.num 20 2 ∧ c.num 20 2 < c.num 22 2 ∧ c.num 22 2 ≤ 4095) :=
  ⟨cmd (on .grow) 0 (word 0x040A 24 (1 * 2^16 + 2 * 2^32 + 4095 * 2^48 + 1 * 2^191)), (cmd (on .grow) 0 (word 0x040A 24 (1 * 2^16 + 2 * 2^32 + 4095 * 2^48 + 1 * 2^191))).taken 0, (cmd (on .grow) 0 (word 0x040A 24 (1 * 2^16 + 2 * 2^32 + 4095 * 2^48 + 1 * 2^191))).front 0, 0, by decide +kernel⟩
theorem witness_PortCommandsRun_18 : ∃ (u : State) (c : Command), (c.opcode.toNat = 0x040A) ∧ (1 ≤ c.num 18 2 ∧ c.num 18 2 < c.num 20 2 ∧ c.num 20 2 < c.num 22 2 ∧ c.num 22 2 ≤ 4095) :=
  ⟨(cmd (on .grow) 0 (word 0x040A 24 (1 * 2^16 + 2 * 2^32 + 4095 * 2^48 + 1 * 2^191))).taken 0, (cmd (on .grow) 0 (word 0x040A 24 (1 * 2^16 + 2 * 2^32 + 4095 * 2^48 + 1 * 2^191))).front 0, by decide +kernel⟩
theorem witness_LaneAndTrunkCommandsRun_1 : ∃ (s u : State) (c : Command) (ring : Nat), (s.passes 0x0410 ring = true) ∧ (s.front ring = c) ∧ (s.taken ring = u) ∧ (bitsOf (BitVec.ofNat 64 (c.num 16 8)) 43 40 ≤ 10 ∨ bitsOf (BitVec.ofNat 64 (c.num 16 8)) 43 40 = 15) ∧ (bitsOf (BitVec.ofNat 64 (c.num 16 8)) 36 35 ≠ 3) ∧ (bitsOf (BitVec.ofNat 64 (c.num 16 8)) 34 32 ≤ 4 ∨ bitsOf (BitVec.ofNat 64 (c.num 16 8)) 34 32 = 7) ∧ (bitsOf (BitVec.ofNat 64 (c.num 16 8)) 31 24 ≠ 0 ∧ bitsOf (BitVec.ofNat 64 (c.num 16 8)) 19 16 ≠ 0 ∧ bitsOf (BitVec.ofNat 64 (c.num 16 8)) 14 0 = 0) :=
  ⟨cmd (on .grow) 0 (word 0x0410 40 (0x00FF0F0701010000 + 2^319)), (cmd (on .grow) 0 (word 0x0410 40 (0x00FF0F0701010000 + 2^319))).taken 0, (cmd (on .grow) 0 (word 0x0410 40 (0x00FF0F0701010000 + 2^319))).front 0, 0, by decide +kernel⟩
theorem witness_LaneAndTrunkCommandsRun_2 : ∃ (u : State) (c : Command), (c.opcode.toNat = 0x0410) ∧ (bitsOf (BitVec.ofNat 64 (c.num 16 8)) 43 40 ≤ 10 ∨ bitsOf (BitVec.ofNat 64 (c.num 16 8)) 43 40 = 15) ∧ (bitsOf (BitVec.ofNat 64 (c.num 16 8)) 36 35 ≠ 3) ∧ (bitsOf (BitVec.ofNat 64 (c.num 16 8)) 34 32 ≤ 4 ∨ bitsOf (BitVec.ofNat 64 (c.num 16 8)) 34 32 = 7) ∧ (bitsOf (BitVec.ofNat 64 (c.num 16 8)) 31 24 ≠ 0 ∧ bitsOf (BitVec.ofNat 64 (c.num 16 8)) 19 16 ≠ 0 ∧ bitsOf (BitVec.ofNat 64 (c.num 16 8)) 14 0 = 0) :=
  ⟨(cmd (on .grow) 0 (word 0x0410 40 (0x00FF0F0701010000 + 2^319))).taken 0, (cmd (on .grow) 0 (word 0x0410 40 (0x00FF0F0701010000 + 2^319))).front 0, by decide +kernel⟩
theorem witness_LaneAndTrunkCommandsRun_3 : ∃ (s u : State) (c : Command) (ring : Nat), (s.passes 0x0411 ring = true) ∧ (s.front ring = c) ∧ (s.taken ring = u) :=
  ⟨cmd (on .grow) 0 (word 0x0411 1 255), (cmd (on .grow) 0 (word 0x0411 1 255)).taken 0, (cmd (on .grow) 0 (word 0x0411 1 255)).front 0, 0, by decide +kernel⟩
theorem witness_LaneAndTrunkCommandsRun_4 : ∃ (s u : State) (c : Command) (ring : Nat), (s.passes 0x0412 ring = true) ∧ (s.front ring = c) ∧ (s.taken ring = u) ∧ (c.byte 17 % 2 = 0) :=
  ⟨cmd (on .grow) 0 (word 0x0412 2 255), (cmd (on .grow) 0 (word 0x0412 2 255)).taken 0, (cmd (on .grow) 0 (word 0x0412 2 255)).front 0, 0, by decide +kernel⟩
theorem witness_LaneAndTrunkCommandsRun_5 : ∃ (s u : State) (c : Command) (ring : Nat), (s.passes 0x0412 ring = true) ∧ (s.front ring = c) ∧ (s.taken ring = u) ∧ (c.byte 17 % 2 = 1) :=
  ⟨cmd (on .grow) 0 (word 0x0412 2 0x01FF), (cmd (on .grow) 0 (word 0x0412 2 0x01FF)).taken 0, (cmd (on .grow) 0 (word 0x0412 2 0x01FF)).front 0, 0, by decide +kernel⟩
theorem witness_LaneAndTrunkCommandsRun_6 : ∃ (s u : State) (c : Command) (ring : Nat), (s.passes 0x0413 ring = true) ∧ (s.front ring = c) ∧ (s.taken ring = u) ∧ (c.byte 16 ≤ 3) :=
  ⟨cmd (on .probe) 0 (word 0x0413 40 (3 + 2^319)), (cmd (on .probe) 0 (word 0x0413 40 (3 + 2^319))).taken 0, (cmd (on .probe) 0 (word 0x0413 40 (3 + 2^319))).front 0, 0, by decide +kernel⟩
theorem witness_LaneAndTrunkCommandsRun_7 : ∃ (u : State) (c : Command), (c.opcode.toNat = 0x0413) ∧ (c.byte 16 ≤ 3) :=
  ⟨(cmd (on .probe) 0 (word 0x0413 40 (3 + 2^319))).taken 0, (cmd (on .probe) 0 (word 0x0413 40 (3 + 2^319))).front 0, by decide +kernel⟩
theorem witness_LaneAndTrunkCommandsRun_8 : ∃ (s u : State) (c : Command) (ring : Nat), (s.passes 0x0414 ring = true) ∧ (s.front ring = c) ∧ (s.taken ring = u) ∧ (c.byte 17 ≤ 4 ∧ c.byte 18 ≤ 4) :=
  ⟨cmd (on .probe) 0 (word 0x0414 3 0x0404FF), (cmd (on .probe) 0 (word 0x0414 3 0x0404FF)).taken 0, (cmd (on .probe) 0 (word 0x0414 3 0x0404FF)).front 0, 0, by decide +kernel⟩
theorem witness_LaneAndTrunkCommandsRun_9 : ∃ (u : State) (c : Command), (c.opcode.toNat = 0x0414) ∧ (c.byte 17 ≤ 4 ∧ c.byte 18 ≤ 4) :=
  ⟨(cmd (on .probe) 0 (word 0x0414 3 0x0404FF)).taken 0, (cmd (on .probe) 0 (word 0x0414 3 0x0404FF)).front 0, by decide +kernel⟩
theorem witness_LaneAndTrunkCommandsRun_10 : ∃ (s : State) (c : Command) (ring : Nat), (s.passes 0x0415 ring = true) ∧ (s.front ring = c) ∧ (16 ≤ c.byte 17 ∧ c.byte 17 ≤ 30) ∧ (s.laneInL0 (c.byte 16) = true) ∧ ((s.lane (c.byte 16)).marginStatus ≠ 3 ∧ (s.lane (c.byte 16)).scanWaits = none ∧ (s.lane (c.byte 16)).margining = false) :=
  ⟨cmd ({ on .grow with ports := { port := [(127, { entry := { role := 1 }, ltssm := .L0 })] } }) 0 (word 0x0415 2 0x10FF), (cmd ({ on .grow with ports := { port := [(127, { entry := { role := 1 }, ltssm := .L0 })] } }) 0 (word 0x0415 2 0x10FF)).front 0, 0, by decide +kernel⟩
theorem witness_LaneAndTrunkCommandsRun_11 : ∃ (s u : State) (c : Command) (ring : Nat), (s.passes 0x0420 ring = true) ∧ (s.front ring = c) ∧ (s.taken ring = u) ∧ (c.byte 16 ≤ 127 ∧ (u.port (c.byte 16)).isTrunk = true) ∧ (10 ≤ (trunkEntryOf (c.num 24 8)).leakPct.toNat ∧ (trunkEntryOf (c.num 24 8)).leakPct.toNat ≤ 90 ∧ 4 ≤ (trunkEntryOf (c.num 24 8)).holdoff.toNat ∧ (trunkEntryOf (c.num 24 8)).maxRate ≠ 3) :=
  ⟨cmd ({ on .grow with ports := { port := [(120, { entry := { role := 3, width := 3 } })] } }) 0 (word 0x0420 16 (120 + (90 * 2 ^ 48 + 4 * 2 ^ 40 + 2 * 2 ^ 28) * 2 ^ 64)), (cmd ({ on .grow with ports := { port := [(120, { entry := { role := 3, width := 3 } })] } }) 0 (word 0x0420 16 (120 + (90 * 2 ^ 48 + 4 * 2 ^ 40 + 2 * 2 ^ 28) * 2 ^ 64))).taken 0, (cmd ({ on .grow with ports := { port := [(120, { entry := { role := 3, width := 3 } })] } }) 0 (word 0x0420 16 (120 + (90 * 2 ^ 48 + 4 * 2 ^ 40 + 2 * 2 ^ 28) * 2 ^ 64))).front 0, 0, by decide +kernel⟩
theorem witness_LaneAndTrunkCommandsRun_12 : ∃ (u : State) (c : Command), (c.opcode.toNat = 0x0420) ∧ (c.byte 16 ≤ 127 ∧ (u.port (c.byte 16)).isTrunk = true) ∧ (10 ≤ (trunkEntryOf (c.num 24 8)).leakPct.toNat ∧ (trunkEntryOf (c.num 24 8)).leakPct.toNat ≤ 90 ∧ 4 ≤ (trunkEntryOf (c.num 24 8)).holdoff.toNat ∧ (trunkEntryOf (c.num 24 8)).maxRate ≠ 3) :=
  ⟨(cmd ({ on .grow with ports := { port := [(120, { entry := { role := 3, width := 3 } })] } }) 0 (word 0x0420 16 (120 + (90 * 2 ^ 48 + 4 * 2 ^ 40 + 2 * 2 ^ 28) * 2 ^ 64))).taken 0, (cmd ({ on .grow with ports := { port := [(120, { entry := { role := 3, width := 3 } })] } }) 0 (word 0x0420 16 (120 + (90 * 2 ^ 48 + 4 * 2 ^ 40 + 2 * 2 ^ 28) * 2 ^ 64))).front 0, by decide +kernel⟩
theorem witness_LaneAndTrunkCommandsRun_13 : ∃ (s u : State) (c : Command) (ring : Nat), (s.passes 0x0421 ring = true) ∧ (s.front ring = c) ∧ (s.taken ring = u) ∧ (c.byte 16 ≤ 127 ∧ (u.port (c.byte 16)).isTrunk = true) :=
  ⟨cmd ({ on .grow with ports := { port := [(120, { entry := { role := 3, width := 3 } })] } }) 0 (word 0x0421 1 120), (cmd ({ on .grow with ports := { port := [(120, { entry := { role := 3, width := 3 } })] } }) 0 (word 0x0421 1 120)).taken 0, (cmd ({ on .grow with ports := { port := [(120, { entry := { role := 3, width := 3 } })] } }) 0 (word 0x0421 1 120)).front 0, 0, by decide +kernel⟩
theorem witness_LaneAndTrunkCommandsRun_14 : ∃ (s u : State) (c : Command) (ring : Nat), (s.passes 0x0422 ring = true) ∧ (s.front ring = c) ∧ (s.taken ring = u) ∧ (c.byte 16 ≤ 127 ∧ (u.port (c.byte 16)).isTrunk = true) :=
  ⟨cmd ({ on .grow with ports := { port := [(120, { entry := { role := 3, width := 3 } })] } }) 0 (word 0x0422 1 120), (cmd ({ on .grow with ports := { port := [(120, { entry := { role := 3, width := 3 } })] } }) 0 (word 0x0422 1 120)).taken 0, (cmd ({ on .grow with ports := { port := [(120, { entry := { role := 3, width := 3 } })] } }) 0 (word 0x0422 1 120)).front 0, 0, by decide +kernel⟩
theorem witness_LaneAndTrunkCommandsRun_15 : ∃ (s : State) (c : Command) (ring : Nat), (s.passes 0x0423 ring = true) ∧ (s.front ring = c) ∧ (c.byte 16 ≤ 127 ∧ (s.port (c.byte 16)).isTrunk = true) ∧ (1 ≤ c.byte 17 ∧ c.byte 17 ≤ (s.port (c.byte 16)).entry.width.toNat ∧ c.byte 18 ≤ (s.trunk (c.byte 16 / 8)).entry.maxRate.toNat) ∧ ((s.trunk (c.byte 16 / 8)).state = .up) :=
  ⟨cmd ({ on .grow with ports := { port := [(120, { entry := { role := 3, width := 3 } })] }, trunks := { trunk := [(15, { state := .up })] } }) 0 (word 0x0423 3 0x000378), (cmd ({ on .grow with ports := { port := [(120, { entry := { role := 3, width := 3 } })] }, trunks := { trunk := [(15, { state := .up })] } }) 0 (word 0x0423 3 0x000378)).front 0, 0, by decide +kernel⟩
theorem witness_LaneAndTrunkCommandsRun_16 : ∃ (s : State) (c : Command) (ring : Nat), (s.passes 0x0424 ring = true) ∧ (s.front ring = c) ∧ (c.byte 16 ≤ 127 ∧ (s.port (c.byte 16)).isTrunk = true) ∧ ((s.trunk (c.byte 16 / 8)).state = .up) :=
  ⟨cmd ({ on .grow with ports := { port := [(120, { entry := { role := 3, width := 3 } })] }, trunks := { trunk := [(15, { state := .up })] } }) 0 (word 0x0424 1 120), (cmd ({ on .grow with ports := { port := [(120, { entry := { role := 3, width := 3 } })] }, trunks := { trunk := [(15, { state := .up })] } }) 0 (word 0x0424 1 120)).front 0, 0, by decide +kernel⟩
theorem witness_LaneAndTrunkCommandsRun_17 : ∃ (s u : State) (c : Command) (ring : Nat), (s.passes 0x0425 ring = true) ∧ (s.front ring = c) ∧ (s.taken ring = u) ∧ (c.byte 16 ≤ 127 ∧ (u.port (c.byte 16)).isTrunk = true) ∧ ((u.trunk (c.byte 16 / 8)).state = .broken ∨ (u.trunk (c.byte 16 / 8)).state = .down) :=
  ⟨cmd ({ on .grow with ports := { port := [(120, { entry := { role := 3, width := 3 } })] } }) 0 (word 0x0425 1 120), (cmd ({ on .grow with ports := { port := [(120, { entry := { role := 3, width := 3 } })] } }) 0 (word 0x0425 1 120)).taken 0, (cmd ({ on .grow with ports := { port := [(120, { entry := { role := 3, width := 3 } })] } }) 0 (word 0x0425 1 120)).front 0, 0, by decide +kernel⟩
theorem witness_LaneAndTrunkCommandsRun_18 : ∃ (s u : State) (c : Command) (ring : Nat), (s.passes 0x0426 ring = true) ∧ (s.front ring = c) ∧ (s.taken ring = u) ∧ (c.byte 16 ≤ 127 ∧ (u.port (c.byte 16)).isTrunk = true) ∧ (((List.range 8).map (fun n => c.num (24 + 2 * n) 2)).sum ≤ 3584 ∧ c.num 26 2 = 0) ∧ (16 ≤ c.num 24 2 ∧ 16 ≤ c.num 28 2 ∧ 16 ≤ c.num 30 2 ∧ 16 ≤ c.num 32 2) ∧ (64 ≤ c.num 34 2 ∧ 64 ≤ c.num 36 2 ∧ 64 ≤ c.num 38 2) :=
  ⟨cmd ({ on .grow with ports := { port := [(120, { entry := { role := 3, width := 3 } })] } }) 0 (word 0x0426 24 (120 + 16 * 2^64 + 16 * 2^96 + 16 * 2^112 + 16 * 2^128 + 64 * 2^144 + 64 * 2^160 + 3328 * 2^176)), (cmd ({ on .grow with ports := { port := [(120, { entry := { role := 3, width := 3 } })] } }) 0 (word 0x0426 24 (120 + 16 * 2^64 + 16 * 2^96 + 16 * 2^112 + 16 * 2^128 + 64 * 2^144 + 64 * 2^160 + 3328 * 2^176))).taken 0, (cmd ({ on .grow with ports := { port := [(120, { entry := { role := 3, width := 3 } })] } }) 0 (word 0x0426 24 (120 + 16 * 2^64 + 16 * 2^96 + 16 * 2^112 + 16 * 2^128 + 64 * 2^144 + 64 * 2^160 + 3328 * 2^176))).front 0, 0, by decide +kernel⟩
theorem witness_LaneAndTrunkCommandsRun_19 : ∃ (s u : State) (c : Command) (ring : Nat), (s.passes 0x0427 ring = true) ∧ (s.front ring = c) ∧ (s.taken ring = u) :=
  ⟨cmd (on .grow) 0 (word 0x0427 24 (0x8001 + 0xCF * 2^184)), (cmd (on .grow) 0 (word 0x0427 24 (0x8001 + 0xCF * 2^184))).taken 0, (cmd (on .grow) 0 (word 0x0427 24 (0x8001 + 0xCF * 2^184))).front 0, 0, by decide +kernel⟩
theorem witness_LaneAndTrunkCommandsRun_20 : ∃ (u : State) (c : Command), (c.opcode.toNat = 0x0427) :=
  ⟨(cmd (on .grow) 0 (word 0x0427 24 (0x8001 + 0xCF * 2^184))).taken 0, (cmd (on .grow) 0 (word 0x0427 24 (0x8001 + 0xCF * 2^184))).front 0, by decide +kernel⟩
theorem witness_HomeCommandsRun_1 : ∃ (s u : State) (c : Command) (ring : Nat), (s.passes 0x0501 ring = true) ∧ (s.front ring = c) ∧ (s.taken ring = u) ∧ (c.byte 17 ≤ 64) :=
  ⟨cmd (on .grow) 0 (word 0x0501 2 0x40FF), (cmd (on .grow) 0 (word 0x0501 2 0x40FF)).taken 0, (cmd (on .grow) 0 (word 0x0501 2 0x40FF)).front 0, 0, by decide +kernel⟩
theorem witness_HomeCommandsRun_2 : ∃ (u : State) (c : Command), (c.opcode.toNat = 0x0501) ∧ (c.byte 17 ≤ 64) :=
  ⟨(cmd (on .grow) 0 (word 0x0501 2 0x40FF)).taken 0, (cmd (on .grow) 0 (word 0x0501 2 0x40FF)).front 0, by decide +kernel⟩
theorem witness_HomeCommandsRun_3 : ∃ (s u : State) (c : Command) (ring : Nat), (s.passes 0x0502 ring = true) ∧ (s.front ring = c) ∧ (s.taken ring = u) ∧ (16 ≤ c.num 16 2 ∧ c.num 16 2 ≤ 4096) :=
  ⟨cmd (on .grow) 0 (word 0x0502 2 4096), (cmd (on .grow) 0 (word 0x0502 2 4096)).taken 0, (cmd (on .grow) 0 (word 0x0502 2 4096)).front 0, 0, by decide +kernel⟩
theorem witness_HomeCommandsRun_4 : ∃ (u : State) (c : Command), (c.opcode.toNat = 0x0502) ∧ (16 ≤ c.num 16 2 ∧ c.num 16 2 ≤ 4096) :=
  ⟨(cmd (on .grow) 0 (word 0x0502 2 4096)).taken 0, (cmd (on .grow) 0 (word 0x0502 2 4096)).front 0, by decide +kernel⟩
theorem witness_HomeCommandsRun_5 : ∃ (s u : State) (c : Command) (ring : Nat), (s.passes 0x0503 ring = true) ∧ (s.front ring = c) ∧ (s.taken ring = u) ∧ (1 ≤ c.num 18 2 ∧ c.num 18 2 < c.num 20 2 ∧ c.num 20 2 < c.num 22 2 ∧ c.num 22 2 ≤ 1024) :=
  ⟨cmd (on .grow) 0 (word 0x0503 8 (0xFF + 1 * 2^16 + 2 * 2^32 + 1024 * 2^48)), (cmd (on .grow) 0 (word 0x0503 8 (0xFF + 1 * 2^16 + 2 * 2^32 + 1024 * 2^48))).taken 0, (cmd (on .grow) 0 (word 0x0503 8 (0xFF + 1 * 2^16 + 2 * 2^32 + 1024 * 2^48))).front 0, 0, by decide +kernel⟩
theorem witness_HomeCommandsRun_6 : ∃ (u : State) (c : Command), (c.opcode.toNat = 0x0503) ∧ (1 ≤ c.num 18 2 ∧ c.num 18 2 < c.num 20 2 ∧ c.num 20 2 < c.num 22 2 ∧ c.num 22 2 ≤ 1024) :=
  ⟨(cmd (on .grow) 0 (word 0x0503 8 (0xFF + 1 * 2^16 + 2 * 2^32 + 1024 * 2^48))).taken 0, (cmd (on .grow) 0 (word 0x0503 8 (0xFF + 1 * 2^16 + 2 * 2^32 + 1024 * 2^48))).front 0, by decide +kernel⟩
theorem witness_HomeCommandsRun_7 : ∃ (s u : State) (c : Command) (ring : Nat), (s.passes 0x0504 ring = true) ∧ (s.front ring = c) ∧ (s.taken ring = u) ∧ (c.byte 16 ≤ 7 ∧ c.byte 20 ≤ 15) :=
  ⟨cmd (on .grow) 0 (word 0x0504 5 0x0FFFFF0007), (cmd (on .grow) 0 (word 0x0504 5 0x0FFFFF0007)).taken 0, (cmd (on .grow) 0 (word 0x0504 5 0x0FFFFF0007)).front 0, 0, by decide +kernel⟩
theorem witness_HomeCommandsRun_8 : ∃ (s u : State) (c : Command) (ring : Nat), (s.passes 0x0505 ring = true) ∧ (s.front ring = c) ∧ (s.taken ring = u) ∧ (c.num 16 2 ≤ 4095 ∧ (u.bed (c.num 16 2)).state = .defined ∧ c.num 24 8 < (u.bed (c.num 16 2)).span.toNat * 2 ^ 28) ∧ ((u.slice (sliceOf (c.num 16 2) (c.num 24 8 / 64))).hit ((u.bed (c.num 16 2)).pl (c.num 24 8 / 64)) = none) :=
  ⟨cmd ({ on .grow with pool := { beds := [(4095, { state := .defined, span := 1 })] } }) 0 (word 0x0505 16 (4095 + (2^28 - 64) * 2^64)), (cmd ({ on .grow with pool := { beds := [(4095, { state := .defined, span := 1 })] } }) 0 (word 0x0505 16 (4095 + (2^28 - 64) * 2^64))).taken 0, (cmd ({ on .grow with pool := { beds := [(4095, { state := .defined, span := 1 })] } }) 0 (word 0x0505 16 (4095 + (2^28 - 64) * 2^64))).front 0, 0, by decide +kernel⟩
theorem witness_HomeCommandsRun_9 : ∃ (s u : State) (c : Command) (ring : Nat), (s.passes 0x0506 ring = true) ∧ (s.front ring = c) ∧ (s.taken ring = u) ∧ (c.byte 16 ≤ 7) :=
  ⟨cmd (on .grow) 0 (word 0x0506 1 7), (cmd (on .grow) 0 (word 0x0506 1 7)).taken 0, (cmd (on .grow) 0 (word 0x0506 1 7)).front 0, 0, by decide +kernel⟩
theorem witness_HomeCommandsRun_10 : ∃ (s u : State) (c : Command) (ring : Nat), (s.passes 0x0506 ring = true) ∧ (s.front ring = c) ∧ (s.taken ring = u) ∧ (8 ≤ c.byte 16) :=
  ⟨cmd (on .grow) 0 (word 0x0506 1 8), (cmd (on .grow) 0 (word 0x0506 1 8)).taken 0, (cmd (on .grow) 0 (word 0x0506 1 8)).front 0, 0, by decide +kernel⟩
theorem witness_HomeCommandsRun_11 : ∃ (s u : State) (c : Command) (ring : Nat), (s.passes 0x0601 ring = true) ∧ (s.front ring = c) ∧ (s.taken ring = u) ∧ (c.num 16 2 ≤ 4095 ∨ c.num 16 2 = 0xFFFF) :=
  ⟨cmd (on .grow) 0 (word 0x0601 3 0x01FFFF), (cmd (on .grow) 0 (word 0x0601 3 0x01FFFF)).taken 0, (cmd (on .grow) 0 (word 0x0601 3 0x01FFFF)).front 0, 0, by decide +kernel⟩
theorem witness_HomeCommandsRun_12 : ∃ (u : State) (c : Command), (c.opcode.toNat = 0x0601) ∧ (c.num 16 2 ≤ 4095 ∨ c.num 16 2 = 0xFFFF) :=
  ⟨(cmd (on .grow) 0 (word 0x0601 3 0x01FFFF)).taken 0, (cmd (on .grow) 0 (word 0x0601 3 0x01FFFF)).front 0, by decide +kernel⟩
theorem witness_HomeCommandsRun_13 : ∃ (s u : State) (c : Command) (ring : Nat), (s.passes 0x0602 ring = true) ∧ (s.front ring = c) ∧ (s.taken ring = u) ∧ (4 ≤ c.num 16 2 ∧ c.num 16 2 ≤ 256) :=
  ⟨cmd (on .grow) 0 (word 0x0602 2 256), (cmd (on .grow) 0 (word 0x0602 2 256)).taken 0, (cmd (on .grow) 0 (word 0x0602 2 256)).front 0, 0, by decide +kernel⟩
theorem witness_HomeCommandsRun_14 : ∃ (u : State) (c : Command), (c.opcode.toNat = 0x0602) ∧ (4 ≤ c.num 16 2 ∧ c.num 16 2 ≤ 256) :=
  ⟨(cmd (on .grow) 0 (word 0x0602 2 256)).taken 0, (cmd (on .grow) 0 (word 0x0602 2 256)).front 0, by decide +kernel⟩
theorem witness_HomeCommandsRun_15 : ∃ (s u : State) (c : Command) (ring : Nat), (s.passes 0x0603 ring = true) ∧ (s.front ring = c) ∧ (s.taken ring = u) ∧ (1 ≤ c.byte 17 ∧ c.byte 17 ≤ 15 ∧ c.byte 18 < c.byte 17) :=
  ⟨cmd (on .grow) 0 (word 0x0603 3 0x0E0FFF), (cmd (on .grow) 0 (word 0x0603 3 0x0E0FFF)).taken 0, (cmd (on .grow) 0 (word 0x0603 3 0x0E0FFF)).front 0, 0, by decide +kernel⟩
theorem witness_HomeCommandsRun_16 : ∃ (u : State) (c : Command), (c.opcode.toNat = 0x0603) ∧ (1 ≤ c.byte 17 ∧ c.byte 17 ≤ 15 ∧ c.byte 18 < c.byte 17) :=
  ⟨(cmd (on .grow) 0 (word 0x0603 3 0x0E0FFF)).taken 0, (cmd (on .grow) 0 (word 0x0603 3 0x0E0FFF)).front 0, by decide +kernel⟩
theorem witness_HomeCommandsRun_17 : ∃ (s u : State) (c : Command) (ring : Nat), (s.passes 0x0604 ring = true) ∧ (s.front ring = c) ∧ (s.taken ring = u) ∧ (c.byte 16 ≤ 7) :=
  ⟨cmd (on .grow) 0 (word 0x0604 1 7), (cmd (on .grow) 0 (word 0x0604 1 7)).taken 0, (cmd (on .grow) 0 (word 0x0604 1 7)).front 0, 0, by decide +kernel⟩
theorem witness_HomeCommandsRun_18 : ∃ (s u t : State) (c : Command) (ring : Nat), (s.passes 0x0605 ring = true) ∧ (s.front ring = c) ∧ (s.taken ring = u) ∧ (c.byte 16 ≤ 7 ∧ c.num 18 2 ≤ 4095 ∧ c.byte 20 ≤ 15) ∧ (checkVaultSet (c.byte 16) (c.num 18 2) u = t) :=
  ⟨(cmd (on .grow) 0 (word 0x0605 5 0x0F0FFF0007)), (cmd (on .grow) 0 (word 0x0605 5 0x0F0FFF0007)).taken 0, checkVaultSet 7 4095 ((cmd (on .grow) 0 (word 0x0605 5 0x0F0FFF0007)).taken 0), (cmd (on .grow) 0 (word 0x0605 5 0x0F0FFF0007)).front 0, 0, by decide +kernel⟩
theorem witness_HomeCommandsRun_19 : ∃ (s u : State) (c : Command) (ring : Nat), (s.passes 0x0606 ring = true) ∧ (s.front ring = c) ∧ (s.taken ring = u) ∧ (c.byte 16 ≤ 7 ∧ c.num 18 2 ≤ 4095) :=
  ⟨cmd (on .grow) 0 (word 0x0606 4 0x0FFF0007), (cmd (on .grow) 0 (word 0x0606 4 0x0FFF0007)).taken 0, (cmd (on .grow) 0 (word 0x0606 4 0x0FFF0007)).front 0, 0, by decide +kernel⟩
theorem witness_SliceCommandsRun_1 : ∃ (s u : State) (c : Command) (ring : Nat), (s.passes 0x0701 ring = true) ∧ (s.front ring = c) ∧ (s.taken ring = u) ∧ (c.num 16 2 ≤ 511 ∧ c.byte 18 ≤ 63 ∧ c.num 20 4 < 2 ^ 20) ∧ ((u.plot c.plotField).state ≠ .free) ∧ ((u.bslice (c.num 16 2)).state = .unbound) :=
  ⟨cmd ({ on .grow with pool := { plots := [(511, { state := .configured })] } }) 0 (wordP 0x0701 511 8 (511 + 63 * 2^16 + 3 * 2^24 + 0xFFFFF * 2^32)), (cmd ({ on .grow with pool := { plots := [(511, { state := .configured })] } }) 0 (wordP 0x0701 511 8 (511 + 63 * 2^16 + 3 * 2^24 + 0xFFFFF * 2^32))).taken 0, (cmd ({ on .grow with pool := { plots := [(511, { state := .configured })] } }) 0 (wordP 0x0701 511 8 (511 + 63 * 2^16 + 3 * 2^24 + 0xFFFFF * 2^32))).front 0, 0, by decide +kernel⟩
theorem witness_SliceCommandsRun_2 : ∃ (u : State) (c : Command), (c.opcode.toNat = 0x0701) ∧ (c.num 16 2 ≤ 511 ∧ c.byte 18 ≤ 63 ∧ c.num 20 4 < 2 ^ 20) ∧ ((u.plot c.plotField).state ≠ .free) ∧ ((u.bslice (c.num 16 2)).state = .unbound) :=
  ⟨(cmd ({ on .grow with pool := { plots := [(511, { state := .configured })] } }) 0 (wordP 0x0701 511 8 (511 + 63 * 2^16 + 3 * 2^24 + 0xFFFFF * 2^32))).taken 0, (cmd ({ on .grow with pool := { plots := [(511, { state := .configured })] } }) 0 (wordP 0x0701 511 8 (511 + 63 * 2^16 + 3 * 2^24 + 0xFFFFF * 2^32))).front 0, by decide +kernel⟩
theorem witness_SliceCommandsRun_3 : ∃ (s u : State) (c : Command) (ring : Nat), (s.passes 0x0702 ring = true) ∧ (s.front ring = c) ∧ (s.taken ring = u) ∧ (c.num 16 2 ≤ 511) ∧ ((u.bslice (c.num 16 2)).state ≠ .unbound) :=
  ⟨cmd ({ on .grow with pool := { plots := [(0, { state := .active })] }, barrow := { slices := [(511, { state := .running })] } }) 0 (word 0x0702 2 511), (cmd ({ on .grow with pool := { plots := [(0, { state := .active })] }, barrow := { slices := [(511, { state := .running })] } }) 0 (word 0x0702 2 511)).taken 0, (cmd ({ on .grow with pool := { plots := [(0, { state := .active })] }, barrow := { slices := [(511, { state := .running })] } }) 0 (word 0x0702 2 511)).front 0, 0, by decide +kernel⟩
theorem witness_SliceCommandsRun_4 : ∃ (u : State) (c : Command), (c.opcode.toNat = 0x0702) ∧ (c.num 16 2 ≤ 511) ∧ ((u.bslice (c.num 16 2)).state ≠ .unbound) :=
  ⟨(cmd ({ on .grow with pool := { plots := [(0, { state := .active })] }, barrow := { slices := [(511, { state := .running })] } }) 0 (word 0x0702 2 511)).taken 0, (cmd ({ on .grow with pool := { plots := [(0, { state := .active })] }, barrow := { slices := [(511, { state := .running })] } }) 0 (word 0x0702 2 511)).front 0, by decide +kernel⟩
theorem witness_SliceCommandsRun_5 : ∃ (s u : State) (c : Command) (ring : Nat), (s.passes 0x0703 ring = true) ∧ (s.front ring = c) ∧ (s.taken ring = u) ∧ (c.num 16 2 ≤ 511 ∧ c.badKey = false) ∧ ((u.bslice (c.num 16 2)).state ≠ .unbound ∧ (u.plot (u.bslice (c.num 16 2)).plot.toNat).port.toNat = c.byte 18) ∧ (u.pasidKey (c.byte 18) (decide (c.byte 19 % 2 = 1)) (c.num 20 4) = none) ∧ (u.barrow.pasids = []) :=
  ⟨cmd ({ on .grow with pool := { plots := [(0, { state := .active, port := 127 })] }, barrow := { slices := [(511, { state := .running })] } }) 0 (word 0x0703 8 (511 + 127 * 2^16 + 0xFFFFF * 2^32)), (cmd ({ on .grow with pool := { plots := [(0, { state := .active, port := 127 })] }, barrow := { slices := [(511, { state := .running })] } }) 0 (word 0x0703 8 (511 + 127 * 2^16 + 0xFFFFF * 2^32))).taken 0, (cmd ({ on .grow with pool := { plots := [(0, { state := .active, port := 127 })] }, barrow := { slices := [(511, { state := .running })] } }) 0 (word 0x0703 8 (511 + 127 * 2^16 + 0xFFFFF * 2^32))).front 0, 0, by decide +kernel⟩
theorem witness_SliceCommandsRun_6 : ∃ (u : State) (c : Command), (c.opcode.toNat = 0x0703) ∧ (c.num 16 2 ≤ 511 ∧ c.badKey = false) ∧ ((u.bslice (c.num 16 2)).state ≠ .unbound ∧ (u.plot (u.bslice (c.num 16 2)).plot.toNat).port.toNat = c.byte 18) ∧ (u.pasidKey (c.byte 18) (decide (c.byte 19 % 2 = 1)) (c.num 20 4) = none) ∧ (u.barrow.pasids = []) :=
  ⟨(cmd ({ on .grow with pool := { plots := [(0, { state := .active, port := 127 })] }, barrow := { slices := [(511, { state := .running })] } }) 0 (word 0x0703 8 (511 + 127 * 2^16 + 0xFFFFF * 2^32))).taken 0, (cmd ({ on .grow with pool := { plots := [(0, { state := .active, port := 127 })] }, barrow := { slices := [(511, { state := .running })] } }) 0 (word 0x0703 8 (511 + 127 * 2^16 + 0xFFFFF * 2^32))).front 0, by decide +kernel⟩
theorem witness_SliceCommandsRun_7 : ∃ (s u : State) (c : Command) (ring : Nat), (s.passes 0x0704 ring = true) ∧ (s.front ring = c) ∧ (s.taken ring = u) ∧ (c.badKey = false) ∧ (u.pasidKey (c.byte 18) (decide (c.byte 19 % 2 = 1)) (c.num 20 4) = some 4095) :=
  ⟨cmd ({ on .grow with barrow := { pasids := [(4095, { valid := true, port := 127 })] } }) 0 (word 0x0704 8 (127 * 2^16)), (cmd ({ on .grow with barrow := { pasids := [(4095, { valid := true, port := 127 })] } }) 0 (word 0x0704 8 (127 * 2^16))).taken 0, (cmd ({ on .grow with barrow := { pasids := [(4095, { valid := true, port := 127 })] } }) 0 (word 0x0704 8 (127 * 2^16))).front 0, 0, by decide +kernel⟩
theorem witness_SliceCommandsRun_8 : ∃ (u : State) (c : Command), (c.opcode.toNat = 0x0704) ∧ (c.badKey = false) ∧ (u.pasidKey (c.byte 18) (decide (c.byte 19 % 2 = 1)) (c.num 20 4) = some 4095) :=
  ⟨(cmd ({ on .grow with barrow := { pasids := [(4095, { valid := true, port := 127 })] } }) 0 (word 0x0704 8 (127 * 2^16))).taken 0, (cmd ({ on .grow with barrow := { pasids := [(4095, { valid := true, port := 127 })] } }) 0 (word 0x0704 8 (127 * 2^16))).front 0, by decide +kernel⟩
theorem witness_SliceCommandsRun_9 : ∃ (s u : State) (c : Command) (ring : Nat), (s.passes 0x0705 ring = true) ∧ (s.front ring = c) ∧ (s.taken ring = u) ∧ (c.num 16 2 ≤ 511 ∧ c.byte 18 ≤ 1) ∧ ((u.bslice (c.num 16 2)).state = .running) :=
  ⟨cmd ({ on .grow with pool := { plots := [(0, { state := .active })] }, barrow := { slices := [(511, { state := .running })] } }) 0 (word 0x0705 3 (511 + 1 * 2^16)), (cmd ({ on .grow with pool := { plots := [(0, { state := .active })] }, barrow := { slices := [(511, { state := .running })] } }) 0 (word 0x0705 3 (511 + 1 * 2^16))).taken 0, (cmd ({ on .grow with pool := { plots := [(0, { state := .active })] }, barrow := { slices := [(511, { state := .running })] } }) 0 (word 0x0705 3 (511 + 1 * 2^16))).front 0, 0, by decide +kernel⟩
theorem witness_SliceCommandsRun_10 : ∃ (u : State) (c : Command), (c.opcode.toNat = 0x0705) ∧ (c.num 16 2 ≤ 511 ∧ c.byte 18 ≤ 1) ∧ ((u.bslice (c.num 16 2)).state = .running) :=
  ⟨(cmd ({ on .grow with pool := { plots := [(0, { state := .active })] }, barrow := { slices := [(511, { state := .running })] } }) 0 (word 0x0705 3 (511 + 1 * 2^16))).taken 0, (cmd ({ on .grow with pool := { plots := [(0, { state := .active })] }, barrow := { slices := [(511, { state := .running })] } }) 0 (word 0x0705 3 (511 + 1 * 2^16))).front 0, by decide +kernel⟩
theorem witness_SliceCommandsRun_11 : ∃ (s u : State) (c : Command) (ring : Nat), (s.passes 0x0705 ring = true) ∧ (s.front ring = c) ∧ (s.taken ring = u) ∧ (c.num 16 2 ≤ 511 ∧ c.byte 18 ≤ 1) ∧ ((u.bslice (c.num 16 2)).state = .frozen) :=
  ⟨cmd ({ on .grow with pool := { plots := [(0, { state := .active })] }, barrow := { slices := [(511, { state := .frozen })] } }) 0 (word 0x0705 3 511), (cmd ({ on .grow with pool := { plots := [(0, { state := .active })] }, barrow := { slices := [(511, { state := .frozen })] } }) 0 (word 0x0705 3 511)).taken 0, (cmd ({ on .grow with pool := { plots := [(0, { state := .active })] }, barrow := { slices := [(511, { state := .frozen })] } }) 0 (word 0x0705 3 511)).front 0, 0, by decide +kernel⟩
theorem witness_SliceCommandsRun_12 : ∃ (u : State) (c : Command), (c.opcode.toNat = 0x0705) ∧ (c.num 16 2 ≤ 511 ∧ c.byte 18 ≤ 1) ∧ ((u.bslice (c.num 16 2)).state = .frozen) :=
  ⟨(cmd ({ on .grow with pool := { plots := [(0, { state := .active })] }, barrow := { slices := [(511, { state := .frozen })] } }) 0 (word 0x0705 3 511)).taken 0, (cmd ({ on .grow with pool := { plots := [(0, { state := .active })] }, barrow := { slices := [(511, { state := .frozen })] } }) 0 (word 0x0705 3 511)).front 0, by decide +kernel⟩
theorem witness_SliceCommandsRun_13 : ∃ (s u : State) (c : Command) (ring : Nat), (s.passes 0x0706 ring = true) ∧ (s.front ring = c) ∧ (s.taken ring = u) ∧ (c.num 16 2 ≤ 511) ∧ ((u.bslice (c.num 16 2)).state = .frozen) :=
  ⟨cmd ({ on .grow with pool := { plots := [(0, { state := .active })] }, barrow := { slices := [(511, { state := .frozen })] } }) 0 (word 0x0706 2 511), (cmd ({ on .grow with pool := { plots := [(0, { state := .active })] }, barrow := { slices := [(511, { state := .frozen })] } }) 0 (word 0x0706 2 511)).taken 0, (cmd ({ on .grow with pool := { plots := [(0, { state := .active })] }, barrow := { slices := [(511, { state := .frozen })] } }) 0 (word 0x0706 2 511)).front 0, 0, by decide +kernel⟩
theorem witness_SliceCommandsRun_14 : ∃ (u : State) (c : Command), (c.opcode.toNat = 0x0706) ∧ (c.num 16 2 ≤ 511) ∧ ((u.bslice (c.num 16 2)).state = .frozen) :=
  ⟨(cmd ({ on .grow with pool := { plots := [(0, { state := .active })] }, barrow := { slices := [(511, { state := .frozen })] } }) 0 (word 0x0706 2 511)).taken 0, (cmd ({ on .grow with pool := { plots := [(0, { state := .active })] }, barrow := { slices := [(511, { state := .frozen })] } }) 0 (word 0x0706 2 511)).front 0, by decide +kernel⟩
theorem witness_SliceCommandsRun_15 : ∃ (s u : State) (c : Command) (ring : Nat), (s.passes 0x0707 ring = true) ∧ (s.front ring = c) ∧ (s.taken ring = u) ∧ (c.num 16 2 ≤ 511) ∧ ((u.bslice (c.num 16 2)).state ≠ .unbound) :=
  ⟨cmd ({ on .grow with pool := { plots := [(0, { state := .active })] }, barrow := { slices := [(511, { state := .freezing })] } }) 0 (word 0x0707 2 511), (cmd ({ on .grow with pool := { plots := [(0, { state := .active })] }, barrow := { slices := [(511, { state := .freezing })] } }) 0 (word 0x0707 2 511)).taken 0, (cmd ({ on .grow with pool := { plots := [(0, { state := .active })] }, barrow := { slices := [(511, { state := .freezing })] } }) 0 (word 0x0707 2 511)).front 0, 0, by decide +kernel⟩
theorem witness_SliceCommandsRun_16 : ∃ (u : State) (c : Command), (c.opcode.toNat = 0x0707) ∧ (c.num 16 2 ≤ 511) ∧ ((u.bslice (c.num 16 2)).state ≠ .unbound) :=
  ⟨(cmd ({ on .grow with pool := { plots := [(0, { state := .active })] }, barrow := { slices := [(511, { state := .freezing })] } }) 0 (word 0x0707 2 511)).taken 0, (cmd ({ on .grow with pool := { plots := [(0, { state := .active })] }, barrow := { slices := [(511, { state := .freezing })] } }) 0 (word 0x0707 2 511)).front 0, by decide +kernel⟩
theorem witness_SliceCommandsRun_17 : ∃ (s u : State) (c : Command) (ring : Nat), (s.passes 0x0708 ring = true) ∧ (s.front ring = c) ∧ (s.taken ring = u) ∧ (c.num 16 2 ≤ 511) ∧ ((u.bslice (c.num 16 2)).state ≠ .unbound) :=
  ⟨cmd ({ on .grow with pool := { plots := [(0, { state := .active })] }, barrow := { slices := [(511, { state := .freezing, fault := true })] } }) 0 (word 0x0708 2 511), (cmd ({ on .grow with pool := { plots := [(0, { state := .active })] }, barrow := { slices := [(511, { state := .freezing, fault := true })] } }) 0 (word 0x0708 2 511)).taken 0, (cmd ({ on .grow with pool := { plots := [(0, { state := .active })] }, barrow := { slices := [(511, { state := .freezing, fault := true })] } }) 0 (word 0x0708 2 511)).front 0, 0, by decide +kernel⟩
theorem witness_SliceCommandsRun_18 : ∃ (u : State) (c : Command), (c.opcode.toNat = 0x0708) ∧ (c.num 16 2 ≤ 511) ∧ ((u.bslice (c.num 16 2)).state ≠ .unbound) :=
  ⟨(cmd ({ on .grow with pool := { plots := [(0, { state := .active })] }, barrow := { slices := [(511, { state := .freezing, fault := true })] } }) 0 (word 0x0708 2 511)).taken 0, (cmd ({ on .grow with pool := { plots := [(0, { state := .active })] }, barrow := { slices := [(511, { state := .freezing, fault := true })] } }) 0 (word 0x0708 2 511)).front 0, by decide +kernel⟩
theorem witness_SliceCommandsRun_19 : ∃ (s u : State) (c : Command) (ring : Nat), (s.passes 0x0709 ring = true) ∧ (s.front ring = c) ∧ (s.taken ring = u) ∧ (c.num 16 2 ≤ 511 ∧ c.num 24 8 % 4096 = 0) ∧ ((u.bslice (c.num 16 2)).state = .frozen) ∧ ((u.bslice (c.num 16 2)).job = none) :=
  ⟨cmd ({ on .grow with pool := { plots := [(0, { state := .active })] }, barrow := { slices := [(511, { state := .frozen })] } }) 0 (word 0x0709 16 (511 + 1 * 2^16 + 4096 * 2^64)), (cmd ({ on .grow with pool := { plots := [(0, { state := .active })] }, barrow := { slices := [(511, { state := .frozen })] } }) 0 (word 0x0709 16 (511 + 1 * 2^16 + 4096 * 2^64))).taken 0, (cmd ({ on .grow with pool := { plots := [(0, { state := .active })] }, barrow := { slices := [(511, { state := .frozen })] } }) 0 (word 0x0709 16 (511 + 1 * 2^16 + 4096 * 2^64))).front 0, 0, by decide +kernel⟩
theorem witness_SliceCommandsRun_20 : ∃ (u : State) (c : Command), (c.opcode.toNat = 0x0709) ∧ (c.num 16 2 ≤ 511 ∧ c.num 24 8 % 4096 = 0) ∧ ((u.bslice (c.num 16 2)).state = .frozen) ∧ ((u.bslice (c.num 16 2)).job = none) :=
  ⟨(cmd ({ on .grow with pool := { plots := [(0, { state := .active })] }, barrow := { slices := [(511, { state := .frozen })] } }) 0 (word 0x0709 16 (511 + 1 * 2^16 + 4096 * 2^64))).taken 0, (cmd ({ on .grow with pool := { plots := [(0, { state := .active })] }, barrow := { slices := [(511, { state := .frozen })] } }) 0 (word 0x0709 16 (511 + 1 * 2^16 + 4096 * 2^64))).front 0, by decide +kernel⟩
theorem witness_SliceCommandsRun_21 : ∃ (s u : State) (c : Command) (ring : Nat), (s.passes 0x070A ring = true) ∧ (s.front ring = c) ∧ (s.taken ring = u) ∧ (c.num 16 2 ≤ 511 ∧ c.num 24 8 % 4096 = 0) ∧ ((u.bslice (c.num 16 2)).state = .frozen) ∧ ((u.bslice (c.num 16 2)).job = none ∧ (u.bslice (c.num 16 2)).queue = []) :=
  ⟨cmd ({ on .grow with pool := { plots := [(0, { state := .active })] }, barrow := { slices := [(511, { state := .frozen })] } }) 0 (word 0x070A 16 (511 + 4096 * 2^64)), (cmd ({ on .grow with pool := { plots := [(0, { state := .active })] }, barrow := { slices := [(511, { state := .frozen })] } }) 0 (word 0x070A 16 (511 + 4096 * 2^64))).taken 0, (cmd ({ on .grow with pool := { plots := [(0, { state := .active })] }, barrow := { slices := [(511, { state := .frozen })] } }) 0 (word 0x070A 16 (511 + 4096 * 2^64))).front 0, 0, by decide +kernel⟩
theorem witness_SliceCommandsRun_22 : ∃ (u : State) (c : Command), (c.opcode.toNat = 0x070A) ∧ (c.num 16 2 ≤ 511 ∧ c.num 24 8 % 4096 = 0) ∧ ((u.bslice (c.num 16 2)).state = .frozen) ∧ ((u.bslice (c.num 16 2)).job = none ∧ (u.bslice (c.num 16 2)).queue = []) :=
  ⟨(cmd ({ on .grow with pool := { plots := [(0, { state := .active })] }, barrow := { slices := [(511, { state := .frozen })] } }) 0 (word 0x070A 16 (511 + 4096 * 2^64))).taken 0, (cmd ({ on .grow with pool := { plots := [(0, { state := .active })] }, barrow := { slices := [(511, { state := .frozen })] } }) 0 (word 0x070A 16 (511 + 4096 * 2^64))).front 0, by decide +kernel⟩
theorem witness_SliceCommandsRun_23 : ∃ (s u : State) (c : Command) (ring : Nat), (s.passes 0x070B ring = true) ∧ (s.front ring = c) ∧ (s.taken ring = u) ∧ (c.num 16 2 ≤ 511 ∧ (u.bslice (c.num 16 2)).state ≠ .unbound) :=
  ⟨cmd ({ on .grow with pool := { plots := [(0, { state := .active })] }, barrow := { slices := [(511, { state := .frozen })] } }) 0 (word 0x070B 2 511), (cmd ({ on .grow with pool := { plots := [(0, { state := .active })] }, barrow := { slices := [(511, { state := .frozen })] } }) 0 (word 0x070B 2 511)).taken 0, (cmd ({ on .grow with pool := { plots := [(0, { state := .active })] }, barrow := { slices := [(511, { state := .frozen })] } }) 0 (word 0x070B 2 511)).front 0, 0, by decide +kernel⟩
theorem witness_SliceCommandsRun_24 : ∃ (s u : State) (c : Command) (ring : Nat), (s.passes 0x0710 ring = true) ∧ (s.front ring = c) ∧ (s.taken ring = u) ∧ (c.num 16 4 < 2 ^ 20 ∧ c.num 20 4 < 2 ^ 20 ∧ (c.num 24 2 = 0 ∨ 64 ≤ c.num 24 2) ∧ c.num 24 2 ≤ 16384) ∧ (u.pool.migrations = []) ∧ ((u.extent (c.num 16 4)).state = .bound ∧ (u.extent (c.num 20 4)).state = .defined) ∧ (u.pool.beds.any (fun e => decide (e.2.state ≠ .free ∧ e.2.base.toNat ≤ c.num 20 4 ∧ c.num 20 4 < e.2.base.toNat + e.2.span.toNat)) = false) :=
  ⟨cmd ({ on .grow with pool := { extents := [(0, { state := .bound }), (1048575, { state := .defined })] } }) 0 (word 0x0710 10 (1048575 * 2^32 + 16384 * 2^64)), (cmd ({ on .grow with pool := { extents := [(0, { state := .bound }), (1048575, { state := .defined })] } }) 0 (word 0x0710 10 (1048575 * 2^32 + 16384 * 2^64))).taken 0, (cmd ({ on .grow with pool := { extents := [(0, { state := .bound }), (1048575, { state := .defined })] } }) 0 (word 0x0710 10 (1048575 * 2^32 + 16384 * 2^64))).front 0, 0, by decide +kernel⟩
theorem witness_SliceCommandsRun_25 : ∃ (u : State) (c : Command), (c.opcode.toNat = 0x0710) ∧ (c.num 16 4 < 2 ^ 20 ∧ c.num 20 4 < 2 ^ 20 ∧ (c.num 24 2 = 0 ∨ 64 ≤ c.num 24 2) ∧ c.num 24 2 ≤ 16384) ∧ (u.pool.migrations = []) ∧ ((u.extent (c.num 16 4)).state = .bound ∧ (u.extent (c.num 20 4)).state = .defined) ∧ (u.pool.beds.any (fun e => decide (e.2.state ≠ .free ∧ e.2.base.toNat ≤ c.num 20 4 ∧ c.num 20 4 < e.2.base.toNat + e.2.span.toNat)) = false) :=
  ⟨(cmd ({ on .grow with pool := { extents := [(0, { state := .bound }), (1048575, { state := .defined })] } }) 0 (word 0x0710 10 (1048575 * 2^32 + 16384 * 2^64))).taken 0, (cmd ({ on .grow with pool := { extents := [(0, { state := .bound }), (1048575, { state := .defined })] } }) 0 (word 0x0710 10 (1048575 * 2^32 + 16384 * 2^64))).front 0, by decide +kernel⟩
theorem witness_SliceCommandsRun_26 : ∃ (s u : State) (c : Command) (ring : Nat), (s.passes 0x0711 ring = true) ∧ (s.front ring = c) ∧ (s.taken ring = u) ∧ (c.num 16 4 < 2 ^ 20 ∧ (u.extent (c.num 16 4)).state = .migrating) :=
  ⟨cmd ({ on .grow with pool := { extents := [(1048575, { state := .migrating })] } }) 0 (word 0x0711 4 1048575), (cmd ({ on .grow with pool := { extents := [(1048575, { state := .migrating })] } }) 0 (word 0x0711 4 1048575)).taken 0, (cmd ({ on .grow with pool := { extents := [(1048575, { state := .migrating })] } }) 0 (word 0x0711 4 1048575)).front 0, 0, by decide +kernel⟩
theorem witness_PairCommandsRun_1 : ∃ (s : State) (ring : Nat), (s.passes 0x0801 ring = true) :=
  ⟨cmd ({ on .grow with ports := { port := [(127, { entry := { role := 3, width := 1 } })] }, trunks := { trunk := [(15, { state := .up, peerSerial := 9, entry := { pair := true } })] } }) 0 (word 0x0801 8 (15 + 9 * 2^16)), 0, by decide +kernel⟩
theorem witness_PairCommandsRun_2 : ∃ (u : State) (c : Command), (c.opcode.toNat = 0x0801) ∧ (u.pair.state = .unpaired ∧ u.pair.forming = none) ∧ (c.byte 16 ≤ 15 ∧ (u.port (u.trunkPort (c.byte 16))).isTrunk = true) ∧ ((u.trunk (c.byte 16)).entry.pair = true ∧ (u.trunk (c.byte 16)).peerSerial.toNat = c.num 18 6) :=
  ⟨{ on .grow with ports := { port := [(127, { entry := { role := 3, width := 1 } })] }, trunks := { trunk := [(15, { state := .up, peerSerial := 9, entry := { pair := true } })] } }, command (word 0x0801 8 (15 + 9 * 2^16)), by decide +kernel⟩
theorem witness_PairCommandsRun_3 : ∃ (s : State) (ring : Nat), (s.passes 0x0802 ring = true) :=
  ⟨cmd ({ on .shadow with pair := { state := .waiting } }) 0 (word 0x0802 0 0), 0, by decide +kernel⟩
theorem witness_PairCommandsRun_4 : ∃ (u : State) (c : Command), (c.opcode.toNat = 0x0802) ∧ (u.pair.state = .waiting) :=
  ⟨{ on .shadow with pair := { state := .waiting } }, command (word 0x0802 0 0), by decide +kernel⟩
theorem witness_PairCommandsRun_5 : ∃ (s : State) (ring : Nat), (s.passes 0x0803 ring = true) :=
  ⟨cmd ({ on .grow with pair := { state := .active } }) 0 (word 0x0803 0 0), 0, by decide +kernel⟩
theorem witness_PairCommandsRun_6 : ∃ (u : State) (c : Command), (c.opcode.toNat = 0x0803) ∧ (u.pair.state = .active ∧ u.pair.resyncing = 0 ∧ u.pair.switching = none) :=
  ⟨{ on .grow with pair := { state := .active } }, command (word 0x0803 0 0), by decide +kernel⟩
theorem witness_PairCommandsRun_7 : ∃ (s : State) (ring : Nat), (s.passes 0x0804 ring = true) :=
  ⟨cmd ({ on .shadow with pair := { state := .waiting } }) 0 (word 0x0804 0 0), 0, by decide +kernel⟩
theorem witness_PairCommandsRun_8 : ∃ (u : State) (c : Command), (c.opcode.toNat = 0x0804) ∧ (u.pair.state = .waiting) :=
  ⟨{ on .shadow with pair := { state := .waiting } }, command (word 0x0804 0 0), by decide +kernel⟩
theorem witness_PairCommandsRun_9 : ∃ (s u : State) (c : Command) (ring : Nat), (s.passes 0x0805 ring = true) ∧ (s.front ring = c) ∧ (s.taken ring = u) ∧ (u.pair.state = .shadow) :=
  ⟨cmd ({ on .shadow with pair := { state := .shadow } }) 13 (word 0x0805 0 0), (cmd ({ on .shadow with pair := { state := .shadow } }) 13 (word 0x0805 0 0)).taken 13, (cmd ({ on .shadow with pair := { state := .shadow } }) 13 (word 0x0805 0 0)).front 13, 13, by decide +kernel⟩
theorem witness_PairCommandsRun_10 : ∃ (s u : State) (c : Command) (ring : Nat), (s.passes 0x0806 ring = true) ∧ (s.front ring = c) ∧ (s.taken ring = u) ∧ (c.byte 16 ≠ 0) :=
  ⟨cmd (on .grow) 0 (word 0x0806 1 255), (cmd (on .grow) 0 (word 0x0806 1 255)).taken 0, (cmd (on .grow) 0 (word 0x0806 1 255)).front 0, 0, by decide +kernel⟩
theorem witness_PairCommandsRun_11 : ∃ (u : State) (c : Command), (c.opcode.toNat = 0x0806) ∧ (c.byte 16 ≠ 0) :=
  ⟨(cmd (on .grow) 0 (word 0x0806 1 255)).taken 0, (cmd (on .grow) 0 (word 0x0806 1 255)).front 0, by decide +kernel⟩
theorem witness_PairCommandsRun_12 : ∃ (s u : State) (c : Command) (ring : Nat), (s.passes 0x0807 ring = true) ∧ (s.front ring = c) ∧ (s.taken ring = u) :=
  ⟨cmd ({ on .grow with pair := { state := .alone, recovery := true } }) 0 (word 0x0807 0 0), (cmd ({ on .grow with pair := { state := .alone, recovery := true } }) 0 (word 0x0807 0 0)).taken 0, (cmd ({ on .grow with pair := { state := .alone, recovery := true } }) 0 (word 0x0807 0 0)).front 0, 0, by decide +kernel⟩
theorem witness_PairCommandsRun_13 : ∃ (s u : State) (c : Command) (ring : Nat), (s.passes 0x0808 ring = true) ∧ (s.front ring = c) ∧ (s.taken ring = u) :=
  ⟨cmd (on .grow) 0 (word 0x0808 0 0), (cmd (on .grow) 0 (word 0x0808 0 0)).taken 0, (cmd (on .grow) 0 (word 0x0808 0 0)).front 0, 0, by decide +kernel⟩
theorem witness_EventCounterTraceCommandsRun_1 : ∃ (s u : State) (c : Command) (ring : Nat), (s.passes 0x0901 ring = true) ∧ (s.front ring = c) ∧ (s.taken ring = u) ∧ (1 ≤ c.num 16 2 ∧ c.num 16 2 ≤ 2047) :=
  ⟨cmd (on .grow) 0 (word 0x0901 16 (2047 + 0x0F33 * 2^32 + 4 * 2^64)), (cmd (on .grow) 0 (word 0x0901 16 (2047 + 0x0F33 * 2^32 + 4 * 2^64))).taken 0, (cmd (on .grow) 0 (word 0x0901 16 (2047 + 0x0F33 * 2^32 + 4 * 2^64))).front 0, 0, by decide +kernel⟩
theorem witness_EventCounterTraceCommandsRun_2 : ∃ (u : State) (c : Command), (c.opcode.toNat = 0x0901) ∧ (1 ≤ c.num 16 2 ∧ c.num 16 2 ≤ 2047) :=
  ⟨(cmd (on .grow) 0 (word 0x0901 16 (2047 + 0x0F33 * 2^32 + 4 * 2^64))).taken 0, (cmd (on .grow) 0 (word 0x0901 16 (2047 + 0x0F33 * 2^32 + 4 * 2^64))).front 0, by decide +kernel⟩
theorem witness_EventCounterTraceCommandsRun_3 : ∃ (s u : State) (c : Command) (ring : Nat), (s.passes 0x0902 ring = true) ∧ (s.front ring = c) ∧ (s.taken ring = u) ∧ (c.num 16 2 ≤ 2047) :=
  ⟨cmd (on .grow) 0 (word 0x0902 2 2047), (cmd (on .grow) 0 (word 0x0902 2 2047)).taken 0, (cmd (on .grow) 0 (word 0x0902 2 2047)).front 0, 0, by decide +kernel⟩
theorem witness_EventCounterTraceCommandsRun_4 : ∃ (s u : State) (c : Command) (ring : Nat), (s.passes 0x0903 ring = true) ∧ (s.front ring = c) ∧ (s.taken ring = u) ∧ (c.num 16 2 ≤ 511) :=
  ⟨cmd (on .grow) 0 (word 0x0903 2 511), (cmd (on .grow) 0 (word 0x0903 2 511)).taken 0, (cmd (on .grow) 0 (word 0x0903 2 511)).front 0, 0, by decide +kernel⟩
theorem witness_EventCounterTraceCommandsRun_5 : ∃ (s u : State) (c : Command) (ring : Nat), (s.passes 0x0A01 ring = true) ∧ (s.front ring = c) ∧ (s.taken ring = u) ∧ (c.byte 16 ≤ 26 ∧ c.byte 17 ≤ 7) ∧ (selectValid (c.byte 16) (BitVec.ofNat 16 (c.num 18 2)) = true) :=
  ⟨cmd (on .grow) 0 (word 0x0A01 4 0xF7FF071A), (cmd (on .grow) 0 (word 0x0A01 4 0xF7FF071A)).taken 0, (cmd (on .grow) 0 (word 0x0A01 4 0xF7FF071A)).front 0, 0, by decide +kernel⟩
theorem witness_EventCounterTraceCommandsRun_6 : ∃ (u : State) (c : Command), (c.opcode.toNat = 0x0A01) ∧ (c.byte 16 ≤ 26 ∧ c.byte 17 ≤ 7) ∧ (selectValid (c.byte 16) (BitVec.ofNat 16 (c.num 18 2)) = true) :=
  ⟨(cmd (on .grow) 0 (word 0x0A01 4 0xF7FF071A)).taken 0, (cmd (on .grow) 0 (word 0x0A01 4 0xF7FF071A)).front 0, by decide +kernel⟩
theorem witness_EventCounterTraceCommandsRun_7 : ∃ (s u : State) (c : Command) (ring : Nat), (s.passes 0x0A02 ring = true) ∧ (s.front ring = c) ∧ (s.taken ring = u) :=
  ⟨cmd (on .grow) 0 (word 0x0A02 0 0), (cmd (on .grow) 0 (word 0x0A02 0 0)).taken 0, (cmd (on .grow) 0 (word 0x0A02 0 0)).front 0, 0, by decide +kernel⟩
theorem witness_EventCounterTraceCommandsRun_8 : ∃ (u : State) (c : Command), (c.opcode.toNat = 0x0A02) :=
  ⟨(cmd (on .grow) 0 (word 0x0A02 0 0)).taken 0, (cmd (on .grow) 0 (word 0x0A02 0 0)).front 0, by decide +kernel⟩
theorem witness_EventCounterTraceCommandsRun_9 : ∃ (s u : State) (c : Command) (ring : Nat), (s.passes 0x0A03 ring = true) ∧ (s.front ring = c) ∧ (s.taken ring = u) ∧ (c.byte 16 ≤ 26) :=
  ⟨cmd (on .grow) 0 (word 0x0A03 2 0x011A), (cmd (on .grow) 0 (word 0x0A03 2 0x011A)).taken 0, (cmd (on .grow) 0 (word 0x0A03 2 0x011A)).front 0, 0, by decide +kernel⟩
theorem witness_EventCounterTraceCommandsRun_10 : ∃ (s u : State) (c : Command) (ring : Nat), (s.passes 0x0A04 ring = true) ∧ (s.front ring = c) ∧ (s.taken ring = u) ∧ (c.byte 16 = 1 ∧ c.byte 17 = 1 ∧ c.num 18 2 ≤ 127) :=
  ⟨cmd (on .grow) 0 (word 0x0A04 4 0x007F0101), (cmd (on .grow) 0 (word 0x0A04 4 0x007F0101)).taken 0, (cmd (on .grow) 0 (word 0x0A04 4 0x007F0101)).front 0, 0, by decide +kernel⟩
theorem witness_EventCounterTraceCommandsRun_11 : ∃ (s u : State) (c : Command) (ring : Nat), (s.passes 0x0E05 ring = true) ∧ (s.front ring = c) ∧ (s.taken ring = u) ∧ (c.byte 16 ≤ 15) ∧ (pointValid (c.byte 17) = true) :=
  ⟨cmd (on .grow) 0 (word 0x0E05 48 0x01310F), (cmd (on .grow) 0 (word 0x0E05 48 0x01310F)).taken 0, (cmd (on .grow) 0 (word 0x0E05 48 0x01310F)).front 0, 0, by decide +kernel⟩
theorem witness_EventCounterTraceCommandsRun_12 : ∃ (u : State) (c : Command), (c.opcode.toNat = 0x0E05) ∧ (c.byte 16 ≤ 15) ∧ (pointValid (c.byte 17) = true) :=
  ⟨(cmd (on .grow) 0 (word 0x0E05 48 0x01310F)).taken 0, (cmd (on .grow) 0 (word 0x0E05 48 0x01310F)).front 0, by decide +kernel⟩
theorem witness_EventCounterTraceCommandsRun_13 : ∃ (s u : State) (c : Command) (ring : Nat), (s.passes 0x0E06 ring = true) ∧ (s.front ring = c) ∧ (s.taken ring = u) ∧ (u.ctr.capturing = false) :=
  ⟨cmd (on .grow) 0 (word 0x0E06 1 1), (cmd (on .grow) 0 (word 0x0E06 1 1)).taken 0, (cmd (on .grow) 0 (word 0x0E06 1 1)).front 0, 0, by decide +kernel⟩
theorem witness_EventCounterTraceCommandsRun_14 : ∃ (u : State) (c : Command), (c.opcode.toNat = 0x0E06) ∧ (u.ctr.capturing = false) :=
  ⟨(cmd (on .grow) 0 (word 0x0E06 1 1)).taken 0, (cmd (on .grow) 0 (word 0x0E06 1 1)).front 0, by decide +kernel⟩
theorem witness_EventCounterTraceCommandsRun_15 : ∃ (s u : State) (c : Command) (ring : Nat), (s.passes 0x0E07 ring = true) ∧ (s.front ring = c) ∧ (s.taken ring = u) :=
  ⟨cmd ({ on .grow with ctr := { capturing := true } }) 0 (word 0x0E07 0 0), (cmd ({ on .grow with ctr := { capturing := true } }) 0 (word 0x0E07 0 0)).taken 0, (cmd ({ on .grow with ctr := { capturing := true } }) 0 (word 0x0E07 0 0)).front 0, 0, by decide +kernel⟩
theorem witness_EventCounterTraceCommandsRun_16 : ∃ (u : State) (c : Command), (c.opcode.toNat = 0x0E07) :=
  ⟨(cmd ({ on .grow with ctr := { capturing := true } }) 0 (word 0x0E07 0 0)).taken 0, (cmd ({ on .grow with ctr := { capturing := true } }) 0 (word 0x0E07 0 0)).front 0, by decide +kernel⟩
theorem witness_EventCounterTraceCommandsRun_17 : ∃ (s u : State) (c : Command) (ring : Nat), (s.passes 0x0E08 ring = true) ∧ (s.front ring = c) ∧ (s.taken ring = u) ∧ (c.num 16 4 ≤ 262143 ∧ 1 ≤ c.num 20 2 ∧ c.num 20 2 ≤ 128) ∧ (u.ctr.traceOpen = false) :=
  ⟨cmd (on .grow) 0 (word 0x0E08 6 (262143 + 128 * 2^32)), (cmd (on .grow) 0 (word 0x0E08 6 (262143 + 128 * 2^32))).taken 0, (cmd (on .grow) 0 (word 0x0E08 6 (262143 + 128 * 2^32))).front 0, 0, by decide +kernel⟩
theorem witness_EventCounterTraceCommandsRun_18 : ∃ (s u : State) (c : Command) (ring : Nat), (s.passes 0x0E08 ring = true) ∧ (s.front ring = c) ∧ (s.taken ring = u) ∧ (c.num 16 4 ≤ 262143 ∧ 1 ≤ c.num 20 2 ∧ c.num 20 2 ≤ 128) ∧ (u.ctr.traceOpen = true) :=
  ⟨cmd ({ on .grow with ctr := { traceOpen := true } }) 0 (word 0x0E08 6 (1 * 2^32)), (cmd ({ on .grow with ctr := { traceOpen := true } }) 0 (word 0x0E08 6 (1 * 2^32))).taken 0, (cmd ({ on .grow with ctr := { traceOpen := true } }) 0 (word 0x0E08 6 (1 * 2^32))).front 0, 0, by decide +kernel⟩
theorem witness_SlotCommandsRun_1 : ∃ (s u : State) (c : Command) (ring : Nat), (s.passes 0x0B01 ring = true) ∧ (s.front ring = c) ∧ (s.taken ring = u) ∧ (u.power.link = true ∧ c.byte 16 ≤ 47) ∧ (c.byte 17 ≤ 7 ∧ 1 ≤ c.byte 18 ∧ c.byte 18 ≤ 16 ∧ 10 ≤ c.num 20 2 ∧ c.num 20 2 ≤ 500) ∧ (1 ≤ c.byte 22 ∧ c.byte 22 ≤ 128 ∧ 1 ≤ c.byte 23 ∧ c.byte 23 ≤ 100 ∧ 1 ≤ c.num 24 2 ∧ c.num 24 2 ≤ 100) ∧ ((u.chCopy (c.byte 16)).powered = false) :=
  ⟨cmd ({ on .grow with power := { link := true } }) 0 (word 0x0B01 10 (47 + 7 * 2^8 + 16 * 2^16 + 500 * 2^32 + 128 * 2^48 + 100 * 2^56 + 100 * 2^64)), (cmd ({ on .grow with power := { link := true } }) 0 (word 0x0B01 10 (47 + 7 * 2^8 + 16 * 2^16 + 500 * 2^32 + 128 * 2^48 + 100 * 2^56 + 100 * 2^64))).taken 0, (cmd ({ on .grow with power := { link := true } }) 0 (word 0x0B01 10 (47 + 7 * 2^8 + 16 * 2^16 + 500 * 2^32 + 128 * 2^48 + 100 * 2^56 + 100 * 2^64))).front 0, 0, by decide +kernel⟩
theorem witness_SlotCommandsRun_2 : ∃ (u : State) (c : Command), (c.opcode.toNat = 0x0B01) ∧ (u.power.link = true ∧ c.byte 16 ≤ 47) ∧ (c.byte 17 ≤ 7 ∧ 1 ≤ c.byte 18 ∧ c.byte 18 ≤ 16 ∧ 10 ≤ c.num 20 2 ∧ c.num 20 2 ≤ 500) ∧ (1 ≤ c.byte 22 ∧ c.byte 22 ≤ 128 ∧ 1 ≤ c.byte 23 ∧ c.byte 23 ≤ 100 ∧ 1 ≤ c.num 24 2 ∧ c.num 24 2 ≤ 100) ∧ ((u.chCopy (c.byte 16)).powered = false) :=
  ⟨(cmd ({ on .grow with power := { link := true } }) 0 (word 0x0B01 10 (47 + 7 * 2^8 + 16 * 2^16 + 500 * 2^32 + 128 * 2^48 + 100 * 2^56 + 100 * 2^64))).taken 0, (cmd ({ on .grow with power := { link := true } }) 0 (word 0x0B01 10 (47 + 7 * 2^8 + 16 * 2^16 + 500 * 2^32 + 128 * 2^48 + 100 * 2^56 + 100 * 2^64))).front 0, by decide +kernel⟩
theorem witness_SlotCommandsRun_3 : ∃ (s : State) (c : Command) (ring : Nat), (s.passes 0x0B02 ring = true) ∧ (s.front ring = c) ∧ (s.power.link = true ∧ c.byte 16 ≤ 47) ∧ ((s.channel (c.byte 16)).prsnt = true ∧ (s.chCopy (c.byte 16)).code = 8) :=
  ⟨cmd ({ on .grow with power := { link := true, channels := [(47, { prsnt := true })], copies := [(47, { stateReg := 0x800000 })] } }) 0 (word 0x0B02 1 47), (cmd ({ on .grow with power := { link := true, channels := [(47, { prsnt := true })], copies := [(47, { stateReg := 0x800000 })] } }) 0 (word 0x0B02 1 47)).front 0, 0, by decide +kernel⟩
theorem witness_SlotCommandsRun_4 : ∃ (s u : State) (c : Command) (ring : Nat), (s.passes 0x0B03 ring = true) ∧ (s.front ring = c) ∧ (s.taken ring = u) ∧ (u.power.link = true ∧ c.byte 16 ≤ 47) ∧ (u.slotBusy (c.byte 16) = false ∧ u.hasJob (fun k => decide (k = .slotOn (c.byte 16))) = false) :=
  ⟨cmd ({ on .grow with power := { link := true } }) 0 (word 0x0B03 1 47), (cmd ({ on .grow with power := { link := true } }) 0 (word 0x0B03 1 47)).taken 0, (cmd ({ on .grow with power := { link := true } }) 0 (word 0x0B03 1 47)).front 0, 0, by decide +kernel⟩
theorem witness_SlotCommandsRun_5 : ∃ (u : State) (c : Command), (c.opcode.toNat = 0x0B03) ∧ (u.power.link = true ∧ c.byte 16 ≤ 47) ∧ (u.slotBusy (c.byte 16) = false ∧ u.hasJob (fun k => decide (k = .slotOn (c.byte 16))) = false) :=
  ⟨(cmd ({ on .grow with power := { link := true } }) 0 (word 0x0B03 1 47)).taken 0, (cmd ({ on .grow with power := { link := true } }) 0 (word 0x0B03 1 47)).front 0, by decide +kernel⟩
theorem witness_SlotCommandsRun_6 : ∃ (s u : State) (c : Command) (ring : Nat), (s.passes 0x0B04 ring = true) ∧ (s.front ring = c) ∧ (s.taken ring = u) ∧ (u.power.link = true ∧ c.byte 16 ≤ 47) :=
  ⟨cmd ({ on .grow with power := { link := true } }) 0 (word 0x0B04 1 47), (cmd ({ on .grow with power := { link := true } }) 0 (word 0x0B04 1 47)).taken 0, (cmd ({ on .grow with power := { link := true } }) 0 (word 0x0B04 1 47)).front 0, 0, by decide +kernel⟩
theorem witness_SlotCommandsRun_7 : ∃ (u : State) (c : Command), (c.opcode.toNat = 0x0B04) ∧ (u.power.link = true ∧ c.byte 16 ≤ 47) :=
  ⟨(cmd ({ on .grow with power := { link := true } }) 0 (word 0x0B04 1 47)).taken 0, (cmd ({ on .grow with power := { link := true } }) 0 (word 0x0B04 1 47)).front 0, by decide +kernel⟩
theorem witness_SlotCommandsRun_8 : ∃ (s u : State) (c : Command) (ring : Nat), (s.passes 0x0B05 ring = true) ∧ (s.front ring = c) ∧ (s.taken ring = u) ∧ (u.power.link = true ∧ c.byte 16 ≤ 47) :=
  ⟨cmd ({ on .grow with power := { link := true } }) 0 (word 0x0B05 1 47), (cmd ({ on .grow with power := { link := true } }) 0 (word 0x0B05 1 47)).taken 0, (cmd ({ on .grow with power := { link := true } }) 0 (word 0x0B05 1 47)).front 0, 0, by decide +kernel⟩
theorem witness_SlotCommandsRun_9 : ∃ (s u : State) (c : Command) (ring : Nat), (s.passes 0x0B05 ring = true) ∧ (s.front ring = c) ∧ (s.taken ring = u) ∧ (u.power.link = false) :=
  ⟨cmd ({ on .grow with power := { link := false } }) 0 (word 0x0B05 1 47), (cmd ({ on .grow with power := { link := false } }) 0 (word 0x0B05 1 47)).taken 0, (cmd ({ on .grow with power := { link := false } }) 0 (word 0x0B05 1 47)).front 0, 0, by decide +kernel⟩
theorem witness_SlotCommandsRun_10 : ∃ (s u : State) (c : Command) (ring : Nat), (s.passes 0x0B06 ring = true) ∧ (s.front ring = c) ∧ (s.taken ring = u) ∧ (c.byte 16 ≤ 47) :=
  ⟨cmd (on .grow) 0 (word 0x0B06 1 47), (cmd (on .grow) 0 (word 0x0B06 1 47)).taken 0, (cmd (on .grow) 0 (word 0x0B06 1 47)).front 0, 0, by decide +kernel⟩
theorem witness_SlotCommandsRun_11 : ∃ (s u : State) (c : Command) (ring : Nat), (s.passes 0x0B07 ring = true) ∧ (s.front ring = c) ∧ (s.taken ring = u) ∧ (u.power.link = true ∧ c.byte 16 ≤ 1) ∧ (900 ≤ c.num 18 2 ∧ c.num 18 2 ≤ 1400) ∧ ((c.byte 16 = 0 → 2 ≤ c.byte 20 ∧ c.byte 20 ≤ 50)) ∧ ((c.byte 16 = 1 → c.byte 20 = 0)) :=
  ⟨cmd ({ on .grow with power := { link := true } }) 0 (word 0x0B07 5 (1400 * 2^16 + 50 * 2^32)), (cmd ({ on .grow with power := { link := true } }) 0 (word 0x0B07 5 (1400 * 2^16 + 50 * 2^32))).taken 0, (cmd ({ on .grow with power := { link := true } }) 0 (word 0x0B07 5 (1400 * 2^16 + 50 * 2^32))).front 0, 0, by decide +kernel⟩
theorem witness_SlotCommandsRun_12 : ∃ (u : State) (c : Command), (c.opcode.toNat = 0x0B07) ∧ (u.power.link = true ∧ c.byte 16 ≤ 1) ∧ (900 ≤ c.num 18 2 ∧ c.num 18 2 ≤ 1400) ∧ ((c.byte 16 = 0 → 2 ≤ c.byte 20 ∧ c.byte 20 ≤ 50)) ∧ ((c.byte 16 = 1 → c.byte 20 = 0)) :=
  ⟨(cmd ({ on .grow with power := { link := true } }) 0 (word 0x0B07 5 (1400 * 2^16 + 50 * 2^32))).taken 0, (cmd ({ on .grow with power := { link := true } }) 0 (word 0x0B07 5 (1400 * 2^16 + 50 * 2^32))).front 0, by decide +kernel⟩
theorem witness_SlotCommandsRun_13 : ∃ (s u : State) (c : Command) (ring : Nat), (s.passes 0x0B08 ring = true) ∧ (s.front ring = c) ∧ (s.taken ring = u) :=
  ⟨cmd (on .grow) 0 (word 0x0B08 0 0), (cmd (on .grow) 0 (word 0x0B08 0 0)).taken 0, (cmd (on .grow) 0 (word 0x0B08 0 0)).front 0, 0, by decide +kernel⟩
theorem witness_WearCommandsRun_1 : ∃ (s u : State) (c : Command) (ring : Nat), (s.passes 0x0C01 ring = true) ∧ (s.front ring = c) ∧ (s.taken ring = u) ∧ (c.byte 16 ≠ 0x0A ∧ c.num 18 2 < monitorInstances (c.byte 16)) :=
  ⟨cmd (on .grow) 0 (word 0x0C01 4 0x00FF0001), (cmd (on .grow) 0 (word 0x0C01 4 0x00FF0001)).taken 0, (cmd (on .grow) 0 (word 0x0C01 4 0x00FF0001)).front 0, 0, by decide +kernel⟩
theorem witness_WearCommandsRun_2 : ∃ (s u : State) (c : Command) (ring : Nat), (s.passes 0x0C01 ring = true) ∧ (s.front ring = c) ∧ (s.taken ring = u) ∧ (c.byte 16 = 0x0A ∧ c.num 18 2 < 256) :=
  ⟨cmd (on .grow) 0 (word 0x0C01 4 0x00FF000A), (cmd (on .grow) 0 (word 0x0C01 4 0x00FF000A)).taken 0, (cmd (on .grow) 0 (word 0x0C01 4 0x00FF000A)).front 0, 0, by decide +kernel⟩
theorem witness_WearCommandsRun_3 : ∃ (s u : State) (c : Command) (ring : Nat), (s.passes 0x0C02 ring = true) ∧ (s.front ring = c) ∧ (s.taken ring = u) :=
  ⟨cmd (on .grow) 0 (word 0x0C02 0 0), (cmd (on .grow) 0 (word 0x0C02 0 0)).taken 0, (cmd (on .grow) 0 (word 0x0C02 0 0)).front 0, 0, by decide +kernel⟩
theorem witness_WearCommandsRun_4 : ∃ (s u : State) (c : Command) (ring : Nat), (s.passes 0x0C03 ring = true) ∧ (s.front ring = c) ∧ (s.taken ring = u) ∧ (c.num 16 2 ≤ 4095 ∧ 1 ≤ c.num 18 2 ∧ c.num 18 2 ≤ 64) :=
  ⟨cmd (on .grow) 0 (word 0x0C03 4 0x00400FFF), (cmd (on .grow) 0 (word 0x0C03 4 0x00400FFF)).taken 0, (cmd (on .grow) 0 (word 0x0C03 4 0x00400FFF)).front 0, 0, by decide +kernel⟩
theorem witness_WearCommandsRun_5 : ∃ (s u : State) (c : Command) (ring : Nat), (s.passes 0x0C04 ring = true) ∧ (s.front ring = c) ∧ (s.taken ring = u) :=
  ⟨cmd (on .grow) 0 (word 0x0C04 0 0), (cmd (on .grow) 0 (word 0x0C04 0 0)).taken 0, (cmd (on .grow) 0 (word 0x0C04 0 0)).front 0, 0, by decide +kernel⟩
theorem witness_WearCommandsRun_6 : ∃ (s : State) (c : Command) (ring : Nat), (s.passes 0x0C05 ring = true) ∧ (s.front ring = c) :=
  ⟨cmd (on .probe) 0 (word 0x0C05 1 7), (cmd (on .probe) 0 (word 0x0C05 1 7)).front 0, 0, by decide +kernel⟩
theorem witness_WearCommandsRun_7 : ∃ (s : State) (c : Command) (ring : Nat), (s.passes 0x0C06 ring = true) ∧ (s.front ring = c) ∧ (c.byte 16 ≤ 1) :=
  ⟨cmd (on .probe) 0 (word 0x0C06 1 1), (cmd (on .probe) 0 (word 0x0C06 1 1)).front 0, 0, by decide +kernel⟩
theorem witness_CountersignCommandsRun_1 : ∃ (s : State) (c : Command) (p : Proposal) (ring : Nat), (s.passes 0x0D01 ring = true) ∧ (s.front ring = c) ∧ (s.proposal (BitVec.ofNat 16 (c.num 16 2)) = some p) ∧ (p.signer = none) ∧ (authorityOf ring ≠ p.authority.toNat ∧ authorityOf ring ≠ 3) ∧ (c.num 24 32 = p.digest.toNat) :=
  ⟨cmd ({ on .grow with teller := { proposals := [{ number := 0xFFFE, digest := 5, authority := 1 }] } }) 0 (word 0x0D01 40 (0xFFFE + 5 * 2^64)), (cmd ({ on .grow with teller := { proposals := [{ number := 0xFFFE, digest := 5, authority := 1 }] } }) 0 (word 0x0D01 40 (0xFFFE + 5 * 2^64))).front 0, { number := 0xFFFE, digest := 5, authority := 1 }, 0, by decide +kernel⟩
theorem witness_CountersignCommandsRun_2 : ∃ (s u : State) (c : Command) (ring : Nat), (s.passes 0x0D02 ring = true) ∧ (s.front ring = c) ∧ (s.taken ring = u) ∧ (u.proposal (BitVec.ofNat 16 (c.num 16 2)) = none) :=
  ⟨cmd (on .grow) 0 (word 0x0D02 2 0xFFFE), (cmd (on .grow) 0 (word 0x0D02 2 0xFFFE)).taken 0, (cmd (on .grow) 0 (word 0x0D02 2 0xFFFE)).front 0, 0, by decide +kernel⟩
theorem witness_CountersignCommandsRun_3 : ∃ (s u : State) (c : Command) (p : Proposal) (ring : Nat), (s.passes 0x0D02 ring = true) ∧ (s.front ring = c) ∧ (s.taken ring = u) ∧ (u.proposal (BitVec.ofNat 16 (c.num 16 2)) = some p) ∧ (p.signer = none) :=
  ⟨cmd ({ on .grow with teller := { proposals := [{ number := 0xFFFE, digest := 5, authority := 1 }] } }) 0 (word 0x0D02 2 0xFFFE), (cmd ({ on .grow with teller := { proposals := [{ number := 0xFFFE, digest := 5, authority := 1 }] } }) 0 (word 0x0D02 2 0xFFFE)).taken 0, (cmd ({ on .grow with teller := { proposals := [{ number := 0xFFFE, digest := 5, authority := 1 }] } }) 0 (word 0x0D02 2 0xFFFE)).front 0, { number := 0xFFFE, digest := 5, authority := 1 }, 0, by decide +kernel⟩
theorem witness_CountersignCommandsRun_4 : ∃ (s u : State) (c : Command) (ring : Nat), (s.passes 0x0D03 ring = true) ∧ (s.front ring = c) ∧ (s.taken ring = u) :=
  ⟨cmd (on .grow) 0 (word 0x0D03 0 0), (cmd (on .grow) 0 (word 0x0D03 0 0)).taken 0, (cmd (on .grow) 0 (word 0x0D03 0 0)).front 0, 0, by decide +kernel⟩
theorem witness_CountersignCommandsRun_5 : ∃ (s : State) (ring : Nat), (s.passes 0x0D04 ring = true) :=
  ⟨cmd (on .grow) 0 (word 0x0D04 4 58593750), 0, by decide +kernel⟩
theorem witness_CountersignCommandsRun_6 : ∃ (u : State) (c : Command), (c.opcode.toNat = 0x0D04) ∧ (1024 ≤ c.num 16 4 ∧ c.num 16 4 ≤ 58593750) :=
  ⟨on .grow, command (word 0x0D04 4 58593750), by decide +kernel⟩
theorem witness_CountersignCommandsRun_7 : ∃ (s : State) (ring : Nat), (s.passes 0x0D05 ring = true) :=
  ⟨cmd (on .grow) 0 (word 0x0D05 14 (7 + 3 * 2^96)), 0, by decide +kernel⟩
theorem witness_CountersignCommandsRun_8 : ∃ (u : State) (c : Command), (c.opcode.toNat = 0x0D05) ∧ (2 ≤ bit ((c.byte 28).testBit 0) + bit ((c.byte 28).testBit 1) + bit ((c.byte 28).testBit 2)) :=
  ⟨on .grow, command (word 0x0D05 14 (7 + 3 * 2^96)), by decide +kernel⟩
theorem witness_TimeCommandsRun_1 : ∃ (s u : State) (c : Command) (ring : Nat), (s.passes 0x0E01 ring = true) ∧ (s.front ring = c) ∧ (s.taken ring = u) ∧ (u.dev.mode ≠ .shadow ∧ u.time.sync = .free) ∧ (c.num 16 8 % 1024 = 0 ∧ u.epochBase.toNat ≤ c.num 16 8 ∧ c.num 16 8 < 2 ^ 64) :=
  ⟨cmd (on .fallow) 0 (word 0x0E01 8 0xFFFFFFFFFFFFFC00), (cmd (on .fallow) 0 (word 0x0E01 8 0xFFFFFFFFFFFFFC00)).taken 0, (cmd (on .fallow) 0 (word 0x0E01 8 0xFFFFFFFFFFFFFC00)).front 0, 0, by decide +kernel⟩
theorem witness_TimeCommandsRun_2 : ∃ (u : State) (c : Command), (c.opcode.toNat = 0x0E01) ∧ (u.dev.mode ≠ .shadow ∧ u.time.sync = .free) ∧ (c.num 16 8 % 1024 = 0 ∧ u.epochBase.toNat ≤ c.num 16 8 ∧ c.num 16 8 < 2 ^ 64) :=
  ⟨(cmd (on .fallow) 0 (word 0x0E01 8 0xFFFFFFFFFFFFFC00)).taken 0, (cmd (on .fallow) 0 (word 0x0E01 8 0xFFFFFFFFFFFFFC00)).front 0, by decide +kernel⟩
theorem witness_TimeCommandsRun_3 : ∃ (s : State) (c : Command) (ring : Nat), (s.passes 0x0E02 ring = true) ∧ (s.front ring = c) ∧ (10 ≤ c.byte 16 ∧ c.byte 16 ≤ 24) ∧ (s.time.newK = none) :=
  ⟨cmd (on .grow) 0 (word 0x0E02 1 24), (cmd (on .grow) 0 (word 0x0E02 1 24)).front 0, 0, by decide +kernel⟩
theorem witness_TimeCommandsRun_4 : ∃ (s u : State) (c : Command) (ring : Nat), (s.passes 0x0E03 ring = true) ∧ (s.front ring = c) ∧ (s.taken ring = u) ∧ (c.byte 16 ≤ 15) :=
  ⟨cmd (on .grow) 0 (word 0x0E03 1 15), (cmd (on .grow) 0 (word 0x0E03 1 15)).taken 0, (cmd (on .grow) 0 (word 0x0E03 1 15)).front 0, 0, by decide +kernel⟩
theorem witness_TimeCommandsRun_5 : ∃ (u : State) (c : Command), (c.opcode.toNat = 0x0E03) ∧ (c.byte 16 ≤ 15) :=
  ⟨(cmd (on .grow) 0 (word 0x0E03 1 15)).taken 0, (cmd (on .grow) 0 (word 0x0E03 1 15)).front 0, by decide +kernel⟩
theorem witness_TimeCommandsRun_6 : ∃ (s u : State) (c : Command) (ring : Nat), (s.passes 0x0E04 ring = true) ∧ (s.front ring = c) ∧ (s.taken ring = u) :=
  ⟨cmd (on .grow) 0 (word 0x0E04 0 0), (cmd (on .grow) 0 (word 0x0E04 0 0)).taken 0, (cmd (on .grow) 0 (word 0x0E04 0 0)).front 0, 0, by decide +kernel⟩
theorem witness_CanonicalBodies_1 : ∃ (c : Command) (i : Nat), (i < 64) ∧ (56 ≤ i ∧ c.extResult = true) :=
  ⟨command (2 ^ 17 + 255 * 2 ^ 504), 63, by decide +kernel⟩
theorem witness_CanonicalBodies_2 : ∃ (c d : Command), (c.extResult = d.extResult) ∧ (c.extParam = true → c.block = d.block) ∧ (∀ i, i < 512 → ¬ (32 ≤ i ∧ i < 64) → i ≠ 17 → i ≠ 18 → ¬ (448 ≤ i ∧ c.extResult = true) → ¬ (128 ≤ i ∧ i < 192 ∧ c.extParam = true) → c.word.getLsbD i = d.word.getLsbD i) ∧ c ≠ d :=
  ⟨{ command (3 * 2 ^ 16 + 2 ^ 32 + 2 ^ 128 + 2 ^ 448) with block := [1] }, { command (7 * 2 ^ 16 + 2 ^ 63 + 2 ^ 191 + 2 ^ 511) with ring := 13, block := [1] },
    by decide +kernel, fun _ => rfl, fun i hi h1 h2 h3 h4 h5 => by
      have key : ∀ i : Fin 512, (decide (32 ≤ i.val ∧ i.val < 64) || decide (i.val = 17) || decide (i.val = 18) || decide (448 ≤ i.val) || decide (128 ≤ i.val ∧ i.val < 192) ||
        (command (3 * 2 ^ 16 + 2 ^ 32 + 2 ^ 128 + 2 ^ 448)).word.getLsbD i.val == (command (7 * 2 ^ 16 + 2 ^ 63 + 2 ^ 191 + 2 ^ 511)).word.getLsbD i.val) = true := by decide +kernel
      have e : (command (3 * 2 ^ 16 + 2 ^ 32 + 2 ^ 128 + 2 ^ 448)).extResult = true ∧ (command (3 * 2 ^ 16 + 2 ^ 32 + 2 ^ 128 + 2 ^ 448)).extParam = true := by decide +kernel
      have k := key ⟨i, hi⟩
      simp only [Bool.or_eq_true, decide_eq_true_eq, beq_iff_eq] at k
      rcases k with ((((k | k) | k) | k) | k) | k
      · exact absurd k h1
      · exact absurd k h2
      · exact absurd k h3
      · exact absurd ⟨k, e.1⟩ h4
      · exact absurd ⟨k.1, k.2, e.2⟩ h5
      · exact k, by decide +kernel⟩
theorem witness_CountersignListEntries_1 : ∃ (p : Proposal) (i : Nat), (i < 64) ∧ (32 ≤ i) ∧ (p.digest ≠ 0) :=
  ⟨{ digest := 1 }, 63, by decide +kernel⟩
theorem witness_CountersignListEntries_2 : ∃ (c : Command) (s : State) (p : Proposal), (p ∈ (propose c s).teller.proposals) ∧ (p ∉ s.teller.proposals) :=
  ⟨{ command (word 0x0D04 4 1024) with ring := 13 }, on .grow, { number := 1, cmd := { command (word 0x0D04 4 1024) with ring := 13 }, digest := Command.digest { command (word 0x0D04 4 1024) with ring := 13 }, authority := 1, remaining := 976563 },
    by decide +kernel⟩
theorem witness_CountersignListEntries_3 : ∃ (s u : State) (c : Command) (ring i : Nat) (p : Proposal), (s.passes 0x0D03 ring = true) ∧ (s.front ring = c) ∧ (s.taken ring = u) ∧ (u.teller.proposals[i]? = some p) :=
  ⟨(cmd (on .grow) 0 (word 0x0D03 0 0)).modTeller (fun t => { t with proposals := [{ number := 1 }, { number := 2 }] }), ((cmd (on .grow) 0 (word 0x0D03 0 0)).modTeller (fun t => { t with proposals := [{ number := 1 }, { number := 2 }] })).taken 0, ((cmd (on .grow) 0 (word 0x0D03 0 0)).modTeller (fun t => { t with proposals := [{ number := 1 }, { number := 2 }] })).front 0, 0, 1, { number := 2 }, by decide +kernel⟩
/-- A device with some cells that wait for port 5. -/
def loaded (n : Nat) : State := { on .grow with switch := { voq := List.replicate n { dst := 0, egress := 5 } } }
theorem witness_LoadLevels_1 : ∀ n ∈ [7, 8, 31, 32, 95, 96], ∃ (s : State) (port : Nat), ((s.port port).t1 < (s.port port).t2 ∧ (s.port port).t2 < (s.port port).t3) ∧ (s.depth port = n) :=
  fun n hn => ⟨loaded n, 5, by simp only [List.mem_cons, List.not_mem_nil, or_false] at hn; rcases hn with rfl | rfl | rfl | rfl | rfl | rfl <;> decide +kernel⟩
/-- A device whose slice 7 grades its occupancy by 1, 2 and 3 transactions and holds some. -/
def busy (n : Nat) : State := { on .grow with home := { slices := [(7, { t1 := 1, t2 := 2, t3 := 3, txns := (List.range n).map (fun i => (i, {})) })] } }
theorem witness_LoadLevels_2 : ∀ n ∈ [0, 1, 2, 3], ∃ (s : State) (sl : Nat), ((s.slice sl).t1 < (s.slice sl).t2 ∧ (s.slice sl).t2 < (s.slice sl).t3) ∧ ((s.slice sl).openEntries = n) :=
  fun n hn => ⟨busy n, 7, by simp only [List.mem_cons, List.not_mem_nil, or_false] at hn; rcases hn with rfl | rfl | rfl | rfl <;> decide +kernel⟩
theorem witness_LoadLevels_3 : ∃ (port sl : Nat), (port < 128 ∧ sl < 8) :=
  ⟨127, 7, by decide +kernel⟩
theorem witness_LoadThresholdCommands_1 : ∃ (op : Nat), (op = 0x040A ∨ op = 0x0503) :=
  ⟨0x0503, by decide +kernel⟩
/-- PORT_SET_LOAD_THRESHOLDS waits on ring 0, with thresholds 1, 2 and n. -/
def portT (n : Nat) : State := cmd (on .grow) 0 (word 0x040A 24 (1 * 2^16 + 2 * 2^32 + n * 2^48 + 1 * 2^191))
theorem witness_LoadThresholdCommands_2 : ∀ t3 ∈ [4095, 4096], ∃ (s u : State) (c : Command) (ring : Nat), (s.passes 0x040A ring = true) ∧ (s.front ring = c) ∧ (s.taken ring = u) ∧ (c.opcode.toNat = 0x040A) ∧ (c.num 22 2 = t3) :=
  fun n hn => ⟨portT n, (portT n).taken 0, (portT n).front 0, 0, by
    simp only [List.mem_cons, List.not_mem_nil, or_false] at hn; rcases hn with rfl | rfl <;> decide +kernel⟩
/-- COH_SET_LOAD_THRESHOLDS waits on ring 0, with thresholds 1, 2 and n. -/
def cohT (n : Nat) : State := cmd (on .grow) 0 (word 0x0503 8 (0xFF + 1 * 2^16 + 2 * 2^32 + n * 2^48))
theorem witness_LoadThresholdCommands_3 : ∀ t3 ∈ [1024, 1025], ∃ (s u : State) (c : Command) (ring : Nat), (s.passes 0x0503 ring = true) ∧ (s.front ring = c) ∧ (s.taken ring = u) ∧ (c.opcode.toNat = 0x0503) ∧ (c.num 22 2 = t3) :=
  fun n hn => ⟨cohT n, (cohT n).taken 0, (cohT n).front 0, 0, by
    simp only [List.mem_cons, List.not_mem_nil, or_false] at hn; rcases hn with rfl | rfl <;> decide +kernel⟩

end Sys2Proof.Tests
end

section
/-! The scope family: which commands stop, what a well-formed queue keeps, and the rows of the steward die and its bridge. -/

namespace Sys2Proof.Machine

/-- With nothing waiting, a step is a beat. -/
theorem step_of_pending_nil {s : State} (h : s.pending = []) : step s = .next ((idleBeat s).setPending []) := by
  simp only [step, h]

/-- With a command waiting, a step runs the front one with the rest of the queue. -/
theorem step_of_pending_cons {s : State} {c : Instr} {rest : List Instr} (h : s.pending = c :: rest) :
    step s = exec c (s.setPending rest) := by
  simp only [step, h]

/-- Well-formedness of a queue speaks of the waiting commands only, so a part of the queue inherits it. -/
theorem State.queueWf_of_subset {s t : State} (hs : s.queueWf) (h : t.pending ⊆ s.pending) : t.queueWf :=
  fun c hc => hs c (h hc)

/-- A step from a well-formed queue answers a next state with the front command gone. -/
theorem step_pending_tail {s : State} (hs : s.queueWf) : ∃ t, step s = .next t ∧ t.pending = s.pending.tail := by
  cases hp : s.pending with
  | nil => exact ⟨_, step_of_pending_nil hp, rfl⟩
  | cons c rest =>
    have hc : c.wf = true := hs c (by simp [hp])
    obtain ⟨t, ht, hrest⟩ := exec_next (s := s.setPending rest) hc
    exact ⟨t, (step_of_pending_cons hp).trans ht, hrest⟩

/-- Settles O23: `exec` never stops on a well-formed command and leaves the queue alone, and the rest of a
well-formed queue is well formed. -/
theorem wellFormedQueueIsKept : Obligations.WellFormedQueueIsKept := by
  intro s hs
  obtain ⟨t, hstep, htail⟩ := step_pending_tail hs
  have hsub : t.pending ⊆ s.pending := htail ▸ List.tail_subset s.pending
  exact ⟨t, hstep, htail, State.queueWf_of_subset hs hsub⟩

/-- Settles O22, by the one form that every command's meaning has (`exec_form`). -/
theorem illFormedCommandsStop : Obligations.IllFormedCommandsStop :=
  ⟨fun _ _ hwf => exec_fault hwf, fun _ _ hwf => exec_next hwf⟩

/-! A table of rows is settled row by row. -/

/-- Each row of a table completes where its head does and those of its tail do. -/
theorem rows_cons {s : State} {p : Prop} {c : Instr} {u : State} {rows : List (Prop × Instr × State)} :
    (∀ h i t, (h, i, t) ∈ (p, c, u) :: rows → h → exec i s = s.becomes t) ↔
      (p → exec c s = s.becomes u) ∧ ∀ h i t, (h, i, t) ∈ rows → h → exec i s = s.becomes t := by
  constructor
  · intro hall
    exact ⟨hall p c u List.mem_cons_self, fun h i t hmem => hall h i t (List.mem_cons_of_mem _ hmem)⟩
  · rintro ⟨hhead, htail⟩ h i t hmem
    rcases List.mem_cons.mp hmem with heq | hmem
    · cases heq; exact hhead
    · exact htail h i t hmem

/-- A table without rows asks for nothing. -/
theorem rows_nil {s : State} : (∀ h i t, (h, i, t) ∈ ([] : List (Prop × Instr × State)) → h → exec i s = s.becomes t) ↔ True := by
  simp

/-- A well-formed command makes its next state. -/
theorem whenWf_becomes {s t : State} {ok : Bool} (hok : ok = true) : whenWf s ok t = s.becomes t := by
  subst hok; rfl

/-- A well-formed command whose condition holds makes its effect. -/
theorem whenWf_onlyIf_becomes {s : State} {ok b : Bool} {f : State → State} (hok : ok = true) (hb : b = true) :
    whenWf s ok (onlyIf b f s) = s.becomes (f s) := by
  subst hok hb; rfl

/-! Accesses of the harts (R424, R435 to R438): a hart below 4 and a size of at most 8 bytes. -/

section HartAccess

variable {s : State} {hart size : Nat} {address data : BitVec 64}

theorem exec_tellerAccess (store : Bool) (hhart : hart < 4) (hsize : size < 9) (hon : s.steward.inReset = false)
    (hin : inRings address = true) (hal : ringAligned address size = true) :
    exec (.tellerAccess hart store address size data) s = s.becomes (tellerAccess hart store address size data s) :=
  whenWf_onlyIf_becomes (by simp [hhart, hsize]) (by simp [hon, hin, hal])

theorem exec_bridgeLoad (hhart : hart < 4) (hsize : size < 9) :
    exec (.bridgeLoad hart address size) s = s.becomes (hartLoad hart address size s) :=
  whenWf_becomes (by simp [hhart, hsize])

theorem exec_bridgeStore (hhart : hart < 4) (hsize : size < 9) :
    exec (.bridgeStore hart address size data) s = s.becomes (hartWrite hart address size data s) :=
  whenWf_becomes (by simp [hhart, hsize])

theorem exec_bridgeConfigWrite (hhart : hart < 4) (hsize : size < 9) :
    exec (.bridgeConfigWrite hart address size data) s =
      s.becomes (hartMemory hart address size true (fun a => storeAt address hart a size data) s) :=
  whenWf_becomes (by simp [hhart, hsize])

theorem exec_bridgeLr (hhart : hart < 4) (hsize : size < 9) :
    exec (.bridgeLr hart address size) s = s.becomes (hartMemory hart address size false (fun a => lrAt address hart a size) s) :=
  whenWf_becomes (by simp [hhart, hsize])

theorem exec_bridgeSc (hhart : hart < 4) (hsize : size < 9) :
    exec (.bridgeSc hart address size data) s =
      s.becomes (hartMemory hart address size true (fun a => scAt address hart a size data) s) :=
  whenWf_becomes (by simp [hhart, hsize])

theorem exec_bridgeAmo (funct : BitVec 5) (hhart : hart < 4) (hsize : size < 9) :
    exec (.bridgeAmo hart address size funct data) s =
      s.becomes (hartMemory hart address size true (fun a => amoAt address hart a size funct data) s) :=
  whenWf_becomes (by simp [hhart, hsize])

end HartAccess

/-- REGISTER_WRITE completes for every writer and size that the device has (R9). -/
theorem exec_registerWrite {s : State} {writer : RegWriter} {address value : BitVec 64} {size : Nat}
    (hwf : (Instr.registerWrite writer address size value).wf = true) :
    exec (.registerWrite writer address size value) s = s.becomes (registerWrite writer address size value s) :=
  whenWf_becomes hwf

/-! The bridge's slots, semaphores and inbound traffic (R438 to R445). -/

section Bridge

variable {s : State} {slot port : Nat}

theorem exec_bridgeCompletion (status : CplStatus) (data : BitVec 64) (hon : s.fabricOn = true) (hslot : slot < 16)
    (hopen : (Tab.find s.bridge.slots slot).isSome = true) (hl0 : (s.port (Tab.get s.bridge.slots {} slot).port).inL0 = true)
    (hroom : s.queueRoom ((Tab.get s.bridge.slots {} slot).port / 8) clsIo = true) :
    exec (.bridgeCompletion slot status data) s =
      s.becomes (tlpInside (Tab.get s.bridge.slots {} slot).port xbarBridge (.completion slot status data) s) :=
  whenWf_onlyIf_becomes (by simp [hslot]) (by simp only [hon, hopen, hl0, hroom, Bool.and_self])

theorem exec_delayedReadDiscard (hon : s.fabricOn = true) (hslot : slot < 16)
    (hheld : (Tab.get s.bridge.slots {} slot).result.isSome = true)
    (hold : (Tab.get s.bridge.slots {} slot).arrived + s.bridge.discard.toNat ≤ s.tick) :
    exec (.delayedReadDiscard slot) s = s.becomes (discardOp slot s) :=
  whenWf_onlyIf_becomes (by simp [hslot]) (by simp only [hon, hheld, hold, decide_true, Bool.and_self])

theorem exec_bridgeCplTimeout (hon : s.fabricOn = true) (hslot : slot < 16)
    (hopen : (Tab.find s.bridge.slots slot).isSome = true) (hnone : (Tab.get s.bridge.slots {} slot).result.isNone = true)
    (hold : (Tab.get s.bridge.slots {} slot).sent + s.bridge.cplTimeout.toNat ≤ s.tick) :
    exec (.bridgeCplTimeout slot) s = s.becomes (resultArrives slot .timeout 0 s) :=
  whenWf_onlyIf_becomes (by simp [hslot]) (by simp only [hon, hopen, hnone, hold, decide_true, Bool.and_self])

theorem exec_semaphoreTimeout {semaphore : Nat} (hon : s.fabricOn = true) (hsem : semaphore < 16)
    (hheld : (Tab.find s.bridge.semaphores semaphore).any (fun x => decide (x.since + 63 ≤ s.tick)) = true) :
    exec (.semaphoreTimeout semaphore) s = s.becomes (raise 300 (s.modBridge (fun b =>
      { b with semaphores := Tab.drop b.semaphores semaphore, semReleases := satAdd b.semReleases 1 }))) := by
  refine whenWf_onlyIf_becomes (by simp [hsem]) ?_
  cases hfind : Tab.find s.bridge.semaphores semaphore with
  | none => simp [hfind] at hheld
  | some x =>
    have hold : x.since + 63 ≤ s.tick := by simpa [hfind] using hheld
    simp [hon, hold]

theorem exec_semaphoreWaitTimeout {hart : Nat} (hon : s.fabricOn = true) (hhart : hart < 4)
    (hwaits : 0 < Tab.get s.bridge.semWaits 0 hart) (hold : Tab.get s.bridge.semWaits 0 hart - 1 + 8 ≤ s.tick) :
    exec (.semaphoreWaitTimeout hart) s = s.becomes (completeToHart hart cplError 0x02 (semClear hart s)) :=
  whenWf_onlyIf_becomes (f := fun t => completeToHart hart cplError 0x02 (semClear hart t)) (by simp [hhart])
    (by simp [hon, hwaits, hold])

theorem exec_inboundWrite (requester : BitVec 16) (address : BitVec 64) (data : List Byte) (hon : s.fabricOn = true)
    (hport : port < 128) (hdown : (s.port port).downstream = true) (hl0 : (s.port port).inL0 = true)
    (hroom : s.queueRoom (port / 8) clsIo = true) :
    exec (.inboundWrite port requester address data) s = s.becomes (inboundWriteOp port requester address data s) :=
  whenWf_onlyIf_becomes (by simp [hport]) (by simp [hon, hdown, hl0, hroom])

theorem exec_inboundMessage (kind : Bool) (vendor : BitVec 16) (id : Byte) (requester : BitVec 16) (header : BitVec 128)
    (payload : List Byte) (hon : s.fabricOn = true) (hport : port < 128) (hl0 : (s.port port).inL0 = true)
    (htaken : (s.port port).upstream = false ∨ s.dev.retryStatus = false) (hroom : s.queueRoom (port / 8) clsIo = true) :
    exec (.inboundMessage port kind vendor id requester header payload) s =
      s.becomes (tlpInside port xbarBridge (.message kind vendor id requester header payload) s) := by
  have hretry : ((s.port port).upstream && s.dev.retryStatus) = false := Bool.and_eq_false_iff.mpr htaken
  exact whenWf_onlyIf_becomes (by simp [hport]) (by simp only [hon, hl0, hretry, hroom, Bool.not_false, Bool.and_self])

theorem exec_brgTxSend (value : BitVec 64) : exec (.brgTxSend value) s =
    s.becomes (hartAccess chRequest 0 true 0x20093000 8 value (fun t => completeToHart 0 cplDone 0 (sendMessage value t)) s) :=
  whenWf_becomes rfl

end Bridge

/-! QSPI, watchdog and boot of the steward die (R419, R424, R425). -/

section Steward

variable {s : State}

theorem exec_qspiTransfer (value : BitVec 32) (hon : s.steward.inReset = false) :
    exec (.qspiTransfer value) s = s.becomes (qspiWrite (value ||| 1) s) :=
  whenWf_onlyIf_becomes rfl (by simp [hon])

theorem exec_qspiTransferDone (data : List Byte) (hon : s.steward.inReset = false) (hgo : s.steward.qspiCmd.getLsbD 0 = true) :
    exec (.qspiTransferDone data) s = s.becomes (qspiDone data s) :=
  whenWf_onlyIf_becomes rfl (by simp only [hon, hgo, Bool.not_false, Bool.and_self])

theorem exec_watchdogKick (hon : s.steward.inReset = false) : exec .watchdogKick s = s.becomes (wdtKick s) :=
  whenWf_onlyIf_becomes rfl (by simp [hon])

theorem exec_watchdogEnable (hon : s.steward.inReset = false) : exec .watchdogEnable s = s.becomes (wdtEnable s) :=
  whenWf_onlyIf_becomes rfl (by simp [hon])

theorem exec_watchdogExpiry (hon : s.fabricOn = true) (hen : s.steward.wdtEnable = true)
    (hold : s.steward.wdtStart + 1024 * s.steward.wdtTimeout.toNat ≤ s.tick) :
    exec .watchdogExpiry s = s.becomes (raise 304 (stewardReset s)) :=
  whenWf_onlyIf_becomes (f := fun t => raise 304 (stewardReset t)) rfl (by simp [hon, hen, hold])

theorem exec_stewardBoot (imageA imageB : Option BootImage) (hon : s.fabricOn = true) (hreset : s.steward.inReset = true)
    (hstage : 4 ≤ s.dev.stage.toNat) : exec (.stewardBoot imageA imageB) s = s.becomes (stewardBootOp imageA imageB s) :=
  whenWf_onlyIf_becomes rfl (by simp [hon, hreset, hstage])

end Steward

/-- Settles O15: each row by its own `exec` lemma, the rows of the harts, of a fabric die that runs, and of the rest. -/
theorem bridgeAndStewardEventsComplete : Obligations.BridgeAndStewardEventsComplete := by
  intro s hart size slot sm port store kind ad data v fn sts rq vn data2 pl id hd v2 ia ib wr
  simp only [rows_cons, rows_nil, and_true]
  refine ⟨fun hhart => ⟨?teller, exec_bridgeLoad hhart, exec_bridgeStore hhart, exec_bridgeConfigWrite hhart, exec_bridgeLr hhart,
      exec_bridgeSc hhart, exec_bridgeAmo fn hhart, ?hartWrites⟩,
    fun hon => ⟨?completion, ?discard, ?cplTimeout, ?semTimeout, ?semWait, ?write, ?message, ?expiry, ?boot⟩,
    fun _ => exec_brgTxSend v, exec_qspiTransfer v2, ?qspiDone, exec_watchdogKick, exec_watchdogEnable, ?hostWrites, ?portWrites⟩
  case teller => exact fun ⟨hsize, hout, hin, hal⟩ => exec_tellerAccess store hhart hsize hout hin hal
  case hartWrites => rintro ⟨rfl, hsize⟩; exact exec_registerWrite (by simp [Instr.wf, hhart, hsize])
  case completion => exact fun ⟨hslot, hopen, hl0, hroom⟩ => exec_bridgeCompletion sts data hon hslot hopen hl0 hroom
  case discard => exact fun ⟨hslot, hheld, hold⟩ => exec_delayedReadDiscard hon hslot hheld hold
  case cplTimeout => exact fun ⟨hslot, hopen, hnone, hold⟩ => exec_bridgeCplTimeout hon hslot hopen hnone hold
  case semTimeout => exact fun ⟨hsem, hheld⟩ => exec_semaphoreTimeout hon hsem hheld
  case semWait => exact fun ⟨hlt, hwaits, hold⟩ => exec_semaphoreWaitTimeout hon hlt hwaits hold
  case write => exact fun ⟨hport, hdown, hl0, hroom⟩ => exec_inboundWrite rq ad data2 hon hport hdown hl0 hroom
  case message => exact fun ⟨hport, hl0, htaken, hroom⟩ => exec_inboundMessage kind vn id rq hd pl hon hport hl0 htaken hroom
  case expiry => exact fun ⟨hen, hold⟩ => exec_watchdogExpiry hon hen hold
  case boot => exact fun ⟨hreset, hstage⟩ => exec_stewardBoot ia ib hon hreset hstage
  case qspiDone => exact fun ⟨hout, hgo⟩ => exec_qspiTransferDone data2 hout hgo
  case hostWrites => rintro ⟨rfl, hport, hsize⟩; exact exec_registerWrite (by simp [Instr.wf, hport, hsize])
  case portWrites => rintro ⟨rfl | rfl, hsize⟩ <;> exact exec_registerWrite (by simp [Instr.wf, hsize])

end Sys2Proof.Machine
end

section
/-! The architecture family: requests of hosts on their way to their home, and the events of the power die and its link. -/

namespace Sys2Proof.Machine

/-! What a request message does once it reaches its port (R106, R190). -/

section HostMessages

variable {s : State} {port : Nat} {hpa : BitVec 64} {mf : MetaField} {mv : MetaValue} {snp : Bool}

theorem exec_memrd (hport : port < 128) (hreaches : s.requestReaches port false = true) :
    exec (.memrd port hpa mf mv snp) s = s.becomes (hostRequest
      { port := port, hpa := hpa, op := .memRd, metaField := mf, metaValue := mv } (readable mf mv snp) s) :=
  whenWf_onlyIf_becomes (decide_eq_true hport) hreaches

theorem exec_memrddata (hport : port < 128) (hreaches : s.requestReaches port false = true) :
    exec (.memrddata port hpa snp) s = s.becomes (hostRequest
      { port := port, hpa := hpa, op := .memRdData, metaValue := .S } snp s) :=
  whenWf_onlyIf_becomes (decide_eq_true hport) hreaches

theorem exec_meminv {nt : Bool} (hport : port < 128) (hreaches : s.requestReaches port false = true) :
    exec (.meminv port hpa mf mv snp nt) s = s.becomes (hostRequest
      { port := port, hpa := hpa, op := .memInv, metaField := mf, metaValue := mv } (cleanable mf mv snp) s) :=
  whenWf_onlyIf_becomes (decide_eq_true hport) hreaches

theorem exec_memwr {data : Line} {poison : Bool} (hport : port < 128) (hreaches : s.requestReaches port true = true) :
    exec (.memwr port hpa mf mv snp data poison) s = s.becomes (hostRequest
      { port := port, hpa := hpa, op := .memWr, metaField := mf, metaValue := mv, data := data, mask := fullMask,
        poison := poison } (writable mf mv snp) s) :=
  whenWf_onlyIf_becomes (decide_eq_true hport) hreaches

theorem exec_memwrptl {data : Line} {mask : BitVec 64} {poison : Bool} (hport : port < 128)
    (hreaches : s.requestReaches port true = true) :
    exec (.memwrptl port hpa mf mv snp data mask poison) s = s.becomes (hostRequest
      { port := port, hpa := hpa, op := .memWrPtl, metaField := mf, metaValue := mv, data := data, mask := mask,
        poison := poison } (writable mf mv snp) s) :=
  whenWf_onlyIf_becomes (decide_eq_true hport) hreaches

/-- A MemSpecRd whose address is bound to no logical device counts as a flit and ends there. -/
theorem exec_memspecrd_unbound {u : State} (hport : port < 128) (hreaches : s.requestReaches port false = true)
    (hflit : newFlit port (flitIn port 64 s) = u) (hbound : u.boundAt port hpa = none) :
    exec (.memspecrd port hpa) s = s.becomes u := by
  have hexec : exec (.memspecrd port hpa) s = execMemspecrd port hpa s := rfl
  rw [hexec, execMemspecrd, whenWf_onlyIf_becomes (decide_eq_true hport) hreaches]
  simp only [hflit, hbound]

end HostMessages

/-! Where an accepted request goes (R72, R79, R80, R82), by the slot that its address reaches. -/

section HostRoutes

variable {r : HeldReq} {s u : State} {p h bd off : Nat}

/-- A request whose address is bound to no logical device is routed by its address alone, with the flit that brought it. -/
theorem hostRequest_unbound {ok : Bool} (hflit : newFlit r.port (flitIn r.port 64 s) = u)
    (hbound : u.boundAt r.port r.hpa = none) :
    hostRequest r ok s = routeRequest { r with flit := u.flitNow (r.port / 8) } ok (u.reach r.port r.hpa) u := by
  subst hflit
  unfold hostRequest
  dsimp only
  rw [hbound]

theorem routeRequest_backed (hviral : (u.port r.port).viral = false ∨ r.write = false)
    (hserves : u.stepOne r.port p r.io (if h = u.self then some bd else none) = false) (hroute : u.reachable h = true) :
    routeRequest r true (.backed p h bd off) u =
      chargeAndSubmit { r with plot := p, home := h, bed := bd, off := off, placed := true } u := by
  have hkept : ((u.port r.port).viral && r.write) = false := Bool.and_eq_false_iff.mpr hviral
  simp only [routeRequest, hkept, hserves, hroute, Bool.not_true, Bool.false_eq_true, if_false]

theorem routeRequest_noDecoder :
    routeRequest r true .noDecoder u = badAccess (r.port / 8) none r.port 3 r.hpa.toNat (refuseHost r none u) := rfl

/-- An accepted request in the window of a mapped bed is charged and goes to its home. -/
theorem hostRequest_backed {ok : Bool} (hok : ok = true) (hflit : newFlit r.port (flitIn r.port 64 s) = u)
    (hbound : u.boundAt r.port r.hpa = none) (hreach : u.reach r.port r.hpa = .backed p h bd off)
    (hviral : (u.port r.port).viral = false ∨ r.write = false)
    (hserves : u.stepOne r.port p r.io (if h = u.self then some bd else none) = false) (hroute : u.reachable h = true) :
    hostRequest r ok s = chargeAndSubmit { r with
      flit := u.flitNow (r.port / 8), plot := p, home := h, bed := bd, off := off, placed := true } u := by
  rw [hostRequest_unbound hflit hbound, hreach, hok]
  exact routeRequest_backed hviral hserves hroute

/-- An accepted request that no decoder contains is refused and recorded with outcome 3. -/
theorem hostRequest_noDecoder {ok : Bool} (hok : ok = true) (hflit : newFlit r.port (flitIn r.port 64 s) = u)
    (hbound : u.boundAt r.port r.hpa = none) (hreach : u.reach r.port r.hpa = .noDecoder) :
    hostRequest r ok s = badAccess (r.port / 8) none r.port 3 r.hpa.toNat
      (refuseHost { r with flit := u.flitNow (r.port / 8) } none u) := by
  rw [hostRequest_unbound hflit hbound, hreach, hok]
  exact routeRequest_noDecoder

end HostRoutes

/-! The charge of a request, its hold queues, and its arrival at a home here (R101, R106, R190). -/

section HostCharges

variable {r : HeldReq} {u : State}

theorem chargeAndSubmit_covered (hcharge : r.charge ≠ (0, 0)) (hcovers : (u.qos r.plot).covers r.charge = true)
    (hread : (u.qos r.plot).readHeld = []) (hwrite : (u.qos r.plot).writeHeld = []) :
    chargeAndSubmit r u = submit r false (u.modQos r.plot (fun q => q.draw r.charge)) := by
  simp [chargeAndSubmit, hcharge, hcovers, hread, hwrite]

theorem chargeAndSubmit_uncovered_read (hcharge : r.charge ≠ (0, 0)) (hcovers : (u.qos r.plot).covers r.charge = false)
    (hwrite : r.write = false) :
    chargeAndSubmit r u = plotCount r.plot 14 1
      ((countPort r.port 0x0B 1 u).modQos r.plot (fun q => { q with readHeld := q.readHeld ++ [r] })) := by
  simp [chargeAndSubmit, hcharge, hcovers, hwrite]

theorem chargeAndSubmit_uncovered_write (hcharge : r.charge ≠ (0, 0)) (hcovers : (u.qos r.plot).covers r.charge = false)
    (hwrite : r.write = true) :
    chargeAndSubmit r u = plotCount r.plot 15 1
      ((countPort r.port 0x0B 1 u).modQos r.plot (fun q => { q with writeHeld := q.writeHeld ++ [r] })) := by
  simp [chargeAndSubmit, hcharge, hcovers, hwrite]

/-- The statistics of a request change the counters and the event controller only. -/
theorem countRequest_keeps {β : Type} (p : State → β) (hevc : Blind State.setEvc p) (hctr : Blind State.setCtr p) (r : HeldReq)
    (s : State) : p (countRequest r s) = p s := by
  unfold countRequest
  dsimp only
  repeat' split
  all_goals simp only [plotCount_keeps p hevc hctr]

@[simp] theorem countRequest_dev (r : HeldReq) (s : State) : (countRequest r s).dev = s.dev :=
  countRequest_keeps State.dev (fun _ _ => rfl) (fun _ _ => rfl) r s

@[simp] theorem countRequest_pool (r : HeldReq) (s : State) : (countRequest r s).pool = s.pool :=
  countRequest_keeps State.pool (fun _ _ => rfl) (fun _ _ => rfl) r s

@[simp] theorem countRequest_self (r : HeldReq) (s : State) : (countRequest r s).self = s.self := by
  simp only [State.self, countRequest_dev]

@[simp] theorem countRequest_agentOf (r : HeldReq) (s : State) (device port : Nat) :
    (countRequest r s).agentOf device port = s.agentOf device port := by
  simp only [State.agentOf, countRequest_pool]

/-- A request whose home is here becomes a transaction of its slice, from the agent of its port. -/
theorem submit_home {a : Nat} (hhome : r.home = u.self) (hagent : u.agentOf u.self r.port = some a) :
    submit r false u = arriveAtHome (sliceOf r.bed (r.off / 64)) (r.txn (countRequest r u) a false) (countRequest r u) := by
  simp [submit, hhome, hagent]

end HostCharges

/-- Settles O35: each message by its `exec` lemma and by the slot that its address reaches; then what the charge and the
arrival at a home do. -/
theorem hostRequestsAreRouted : Obligations.HostRequestsAreRouted := by
  refine ⟨?rdBacked, ?rdNone, ?dataBacked, ?dataNone, ?invBacked, ?invNone, ?wrBacked, ?wrNone, ?ptlBacked, ?ptlNone, ?spec,
    fun r u ⟨hcharge, hcovers⟩ ⟨hread, hwrite⟩ => chargeAndSubmit_covered hcharge hcovers hread hwrite,
    fun r u ⟨hcharge, hcovers⟩ hwrite => chargeAndSubmit_uncovered_read hcharge hcovers hwrite,
    fun r u ⟨hcharge, hcovers⟩ hwrite => chargeAndSubmit_uncovered_write hcharge hcovers hwrite,
    fun r u a ⟨hhome, hagent⟩ => submit_home hhome hagent, ?txn⟩
  case rdBacked =>
    intro port hpa mf mv snp p h bd off s u ⟨hport, hin, hflit⟩ hbound ⟨hreach, hok⟩ ⟨hserves, hroute⟩
    rw [exec_memrd hport hin]
    exact congrArg s.becomes (hostRequest_backed hok hflit hbound hreach (.inr rfl) hserves hroute)
  case rdNone =>
    intro port hpa mf mv snp s u ⟨hport, hin, hflit⟩ hbound ⟨hreach, hok⟩
    rw [exec_memrd hport hin]
    exact congrArg s.becomes (hostRequest_noDecoder hok hflit hbound hreach)
  case dataBacked =>
    intro port hpa p h bd off s u ⟨hport, hin, hflit⟩ hbound ⟨hreach, _⟩ ⟨hserves, hroute⟩
    rw [exec_memrddata hport hin]
    exact congrArg s.becomes (hostRequest_backed rfl hflit hbound hreach (.inr rfl) hserves hroute)
  case dataNone =>
    intro port hpa s u ⟨hport, hin, hflit⟩ hbound ⟨hreach, _⟩
    rw [exec_memrddata hport hin]
    exact congrArg s.becomes (hostRequest_noDecoder rfl hflit hbound hreach)
  case invBacked =>
    intro port hpa mf mv snp nt p h bd off s u ⟨hport, hin, hflit⟩ hbound ⟨hreach, hok⟩ ⟨hserves, hroute⟩
    rw [exec_meminv hport hin]
    exact congrArg s.becomes (hostRequest_backed hok hflit hbound hreach (.inr rfl) hserves hroute)
  case invNone =>
    intro port hpa mf mv snp nt s u ⟨hport, hin, hflit⟩ hbound ⟨hreach, hok⟩
    rw [exec_meminv hport hin]
    exact congrArg s.becomes (hostRequest_noDecoder hok hflit hbound hreach)
  case wrBacked =>
    intro port hpa mf mv snp data poison p h bd off s u ⟨hport, hin, hflit⟩ hbound
      ⟨hreach, hok⟩ ⟨hviral, hserves, hroute⟩
    rw [exec_memwr hport hin]
    exact congrArg s.becomes (hostRequest_backed hok hflit hbound hreach (.inl hviral) hserves hroute)
  case wrNone =>
    intro port hpa mf mv snp data poison s u ⟨hport, hin, hflit⟩ hbound ⟨hreach, hok⟩
    rw [exec_memwr hport hin]
    exact congrArg s.becomes (hostRequest_noDecoder hok hflit hbound hreach)
  case ptlBacked =>
    intro port hpa mf mv snp data mask poison p h bd off s u ⟨hport, hin, hflit⟩ hbound
      ⟨hreach, hok⟩ ⟨hviral, hserves, hroute⟩
    rw [exec_memwrptl hport hin]
    exact congrArg s.becomes (hostRequest_backed hok hflit hbound hreach (.inl hviral) hserves hroute)
  case ptlNone =>
    intro port hpa mf mv snp data mask poison s u ⟨hport, hin, hflit⟩ hbound ⟨hreach, hok⟩
    rw [exec_memwrptl hport hin]
    exact congrArg s.becomes (hostRequest_noDecoder hok hflit hbound hreach)
  case spec => exact fun port hpa s u ⟨hport, hin⟩ ⟨hflit, hbound⟩ => exec_memspecrd_unbound hport hin hflit hbound
  case txn =>
    intro r u a ⟨hop, hfield, hvalue⟩
    have hcls : classOf r.op r.metaField r.metaValue = .rdA := by rw [hop, hfield, hvalue]; rfl
    exact ⟨hcls, rfl, rfl, rfl, rfl⟩

/-- An event of a slot channel completes where the channel is one of the 48 and the event can come about (R497). -/
theorem channelEvent_becomes {s : State} {ch : Nat} {b : Bool} {f : State → State} (hch : ch < 48) (hb : b = true) :
    whenWf s (decide (ch < 48)) (onlyIf b f s) = s.becomes (f s) :=
  whenWf_onlyIf_becomes (decide_eq_true hch) hb

/-- The end of the dead time selects the feed that the switch-over goes to (R508). -/
theorem exec_feedDeadTimeEnd {s : State} {fd : Feed} (hon : s.powerOn = true) (hto : s.power.switchingTo = some fd)
    (hold : s.power.switchSince + s.power.feedA.dead.toNat ≤ s.sample) :
    exec .feedDeadTimeEnd s = s.becomes (deadTimeEnds fd s) := by
  have hexec : exec .feedDeadTimeEnd s = execFeedDeadTimeEnd s := rfl
  rw [hexec, execFeedDeadTimeEnd, hto]
  exact whenWf_onlyIf_becomes rfl (by simp [hon, hold])

/-- Settles O17: each row by its meaning, whose guard the row's condition meets; the rows of a fabric die that runs, of the
power link and the feeds, and of one slot channel. -/
theorem powerEventsComplete : Obligations.PowerEventsComplete := by
  intro s ix ad v ok slot ch sh a b vout ad2 data feed fd
  simp only [rows_cons, rows_nil, and_true]
  refine ⟨fun hon => ⟨?regWrite, ?regRead, ?wearRead, ?wearWrite, ?resend, ?probe, ?perst, ?pgFall⟩,
    fun hon => ⟨?response, ?telemetry, ?alarm, ?bad, ?good, ?returnToA, ?deadTime⟩,
    fun hch hon => ⟨?on, ?off, ?clear, ?detect, ?debounce, ?bounce, ?lost, ?delay, ?ramp, ?qualify, ?timer, ?fast, ?rampTimeout,
      ?gate, ?retry, ?held, ?stuck⟩⟩
  case regWrite => exact fun hfree => whenWf_onlyIf_becomes rfl (by simp [hon, hfree])
  case regRead => exact fun hfree => whenWf_onlyIf_becomes rfl (by simp only [hon, hfree, Bool.and_self])
  case wearRead => exact fun hfree => whenWf_onlyIf_becomes rfl (by simp [hon, hfree])
  case wearWrite => exact fun hfree => whenWf_onlyIf_becomes rfl (by simp [hon, hfree])
  case resend => exact fun hlink => whenWf_onlyIf_becomes rfl (by simp [hon, hlink])
  case probe => exact fun ⟨hlink, hold⟩ => whenWf_onlyIf_becomes rfl (by simp [hon, hlink, hold])
  case perst => exact fun ⟨hch, hpg, hperst, hold⟩ => channelEvent_becomes hch (by simp [hon, hpg, hperst, hold])
  case pgFall => exact fun ⟨hch, hpg, hfallen⟩ => channelEvent_becomes hch (by simp [hon, hpg, hfallen])
  case response =>
    exact fun hfree => whenWf_onlyIf_becomes (f := fun t => responseOp ix.toNat ad.toNat v ok (useAnswer t)) rfl
      (by simp [hon, hfree])
  case telemetry => exact fun ⟨hslot, hfree⟩ => whenWf_onlyIf_becomes (decide_eq_true hslot) (by simp [hon, hfree])
  case alarm =>
    exact fun ⟨hfree, hnone⟩ => whenWf_onlyIf_becomes (f := fun t => alarmOp ok (useAnswer t)) rfl
      (by simp only [hon, hfree, hnone, Bool.and_self])
  case bad => exact fun hgood => whenWf_onlyIf_becomes rfl (by simp [hon, hgood])
  case good => exact fun hbad => whenWf_onlyIf_becomes rfl (by simp [hon, hbad])
  case returnToA =>
    exact fun ⟨hidle, hsel, hgood, hold⟩ => whenWf_onlyIf_becomes rfl (by simp only [hon, hidle, hsel, hgood, hold]; rfl)
  case deadTime => exact fun ⟨hto, hold⟩ => exec_feedDeadTimeEnd hon hto hold
  case on => exact fun _ => channelEvent_becomes hch hon
  case off => exact fun _ => channelEvent_becomes hch hon
  case clear => exact fun _ => channelEvent_becomes hch hon
  case detect => exact fun hnone => channelEvent_becomes hch (by simp [hon, hnone])
  case debounce => exact fun ⟨hstate, hold⟩ => channelEvent_becomes hch (by simp [hon, hstate, hold])
  case bounce => exact fun ⟨hprsnt, hdue⟩ => channelEvent_becomes hch (by simp [hon, hprsnt, hdue])
  case lost => exact fun hprsnt => channelEvent_becomes hch (by simp [hon, hprsnt])
  case delay => exact fun ⟨hstate, hover, hold⟩ => channelEvent_becomes hch (by simp [hon, hstate, hover, hold])
  case ramp => exact fun ⟨hstate, hvout⟩ => channelEvent_becomes hch (by simp [hon, hstate, hvout])
  case qualify => exact fun hqual => channelEvent_becomes hch (by simp [hon, hqual])
  case timer => exact fun hover => channelEvent_becomes hch (by simp [hon, hover])
  case fast => exact fun ⟨hdriven, hover⟩ => channelEvent_becomes hch (by simp [hon, hdriven, hover])
  case rampTimeout => exact fun ⟨hstate, hold⟩ => channelEvent_becomes hch (by simp [hon, hstate, hold])
  case gate => exact fun ⟨hstate, hold⟩ => channelEvent_becomes hch (by simp [hon, hstate, hold])
  case retry => exact fun hdue => channelEvent_becomes hch (by simp [hon, hdue])
  case held => exact fun ⟨hstate, hheld⟩ => channelEvent_becomes hch (by simp only [hon, hstate, hheld]; rfl)
  case stuck => exact fun hstick => channelEvent_becomes hch (by simp [hon, hstick])

end Sys2Proof.Machine
end

section
/-! The time family: the commands of time, slots, wear, countersigning and trace, and the events of the Teller, of the event
controller and of the die link. -/

namespace Sys2Proof.Machine

/-! Commands of the Teller that pass their checks (R357, R359, R378): how `exec` answers, by the way that
the catalogue says a command ends. -/

section CommandEnds

variable {s : State} {i : Instr} {op ring : Nat}

/-- A command that takes effect at a tick boundary waits for it, where its own checks find nothing. -/
theorem exec_waitsForBoundary {r : List Byte} {t : State} (hcmd : i.command = some (op, ring)) (hpass : s.passes op ring = true)
    (hrow : (opInfo op).map (fun o => (o.guarded, o.ends)) = some (false, .tick))
    (hrun : runOp (s.front ring) (s.taken ring) = (.final stDone r, t)) : exec i s = s.waitsForBoundary ring := by
  obtain ⟨o, hinfo, hends⟩ := Option.map_eq_some_iff.mp hrow
  obtain ⟨hguard, htick⟩ := Prod.mk.inj hends
  have hother : op ≠ 0x0D01 := by rintro rfl; cases hrow
  rw [exec_command hcmd, whenWf_passes hpass]
  exact tellerCommand_tick hpass hinfo hguard (.inl htick) hother (congrArg Prod.fst hrun)

/-- A command that takes effect at once ends DONE with its result, where its own checks find nothing. -/
theorem exec_endsDone {r : List Byte} {t : State} (hcmd : i.command = some (op, ring)) (hpass : s.passes op ring = true)
    (hrow : (opInfo op).map (fun o => (o.guarded, o.ends)) = some (false, .imm))
    (hrun : runOp (s.front ring) (s.taken ring) = (.final stDone r, t)) : exec i s = s.endsWith ring stDone r t := by
  obtain ⟨o, hinfo, hends⟩ := Option.map_eq_some_iff.mp hrow
  obtain ⟨hguard, himm⟩ := Prod.mk.inj hends
  have hother : op ≠ 0x0D01 := by rintro rfl; cases hrow
  rw [exec_command hcmd, whenWf_passes hpass]
  exact tellerCommand_ends hpass hinfo hguard (.inl himm) hother hrun

/-- A command that ends later is QUEUED and its work begins, where its own checks find nothing. -/
theorem exec_isQueued {k : JobKind} {f : State → State} (hcmd : i.command = some (op, ring)) (hpass : s.passes op ring = true)
    (hrow : (opInfo op).map (fun o => (o.guarded, o.ends)) = some (false, .queued)) (hother : op ≠ 0x0D01)
    (hrun : (runOp (s.front ring) (s.taken ring)).1 = .queued k)
    (hwork : (runOp (s.front ring) (s.noted ring k)).2 = f (s.noted ring k)) : exec i s = s.isQueued ring k f := by
  obtain ⟨o, hinfo, hends⟩ := Option.map_eq_some_iff.mp hrow
  obtain ⟨hguard, hqueued⟩ := Prod.mk.inj hends
  rw [exec_command hcmd, whenWf_passes hpass]
  exact tellerCommand_queued hpass hinfo hguard (.inl hqueued) hother hrun hwork

/-- The same, where the work is what the command's own run makes of the state in which it is QUEUED. -/
theorem exec_isQueued_run {k : JobKind} {t : State} (hcmd : i.command = some (op, ring)) (hpass : s.passes op ring = true)
    (hrow : (opInfo op).map (fun o => (o.guarded, o.ends)) = some (false, .queued)) (hother : op ≠ 0x0D01)
    (hrun : runOp (s.front ring) (s.taken ring) = (.queued k, t)) :
    exec i s = s.isQueued ring k (fun t => (runOp (s.front ring) t).2) :=
  exec_isQueued hcmd hpass hrow hother (congrArg Prod.fst hrun) rfl

end CommandEnds

/-! The time commands (R38, R44, R59, R410, R411): what each does once its operands are in range. -/

section TimeCommands

variable {s : State} {c : Command}

/-- The epoch is loaded, and the ledger entry carries the value that it replaces. -/
theorem runTimeSetEpoch_done (hmode : s.dev.mode ≠ .shadow) (hfree : s.time.sync = .free) (hmul : c.num 16 8 % 1024 = 0)
    (hlow : s.epochBase.toNat ≤ c.num 16 8) (hhigh : c.num 16 8 < 2 ^ 64) :
    let v := BitVec.ofNat 64 (c.num 16 8)
    let t := s.modTime (fun x => { x with epochGen := x.epochGen + 1, coarse := false, epochOld := some v })
    runTimeSetEpoch c s = done (enqueue { ledgerEntry t 0x01 0x1D (s.time.epochGen + 1).toNat 0 0 s.epochBase v with stamp := v } t) := by
  have hval : (BitVec.ofNat 64 (c.num 16 8)).toNat = c.num 16 8 := by rw [BitVec.toNat_ofNat, Nat.mod_eq_of_lt hhigh]
  have hback : ¬ c.num 16 8 < s.epochBase.toNat := Nat.not_lt.mpr hlow
  simp only [runTimeSetEpoch, checks_cons, checks_nil, hval, hmode, hfree, hmul, hback]
  rfl

theorem runTimeSetSeason_queued (hlow : 10 ≤ c.byte 16) (hhigh : c.byte 16 ≤ 24) (hnone : s.time.newK = none) :
    runTimeSetSeason c s = queuedFor .season (s.modTime (fun t => { t with newK := some (BitVec.ofNat 5 (c.byte 16)) })) := by
  have hrange : ¬ (c.byte 16 < 10 ∨ 24 < c.byte 16) := by omega
  simp [runTimeSetSeason, hrange, hnone]

theorem runTimeSetRoot_done (hroot : c.byte 16 ≤ 15) :
    runTimeSetRoot c s = done (s.modTime (fun t =>
      { t with root := some (BitVec.ofNat 4 (c.byte 16)), hops := if c.byte 16 = s.self then 0 else t.hops })) := by
  simp [runTimeSetRoot, Nat.not_lt.mpr hroot]

/-- TIME_SET_SEASON waits for no boundary of its own: the exponent does. -/
theorem exec_timeSetSeason {ring : Nat} (hpass : s.passes 0x0E02 ring = true) (hlow : 10 ≤ (s.front ring).byte 16)
    (hhigh : (s.front ring).byte 16 ≤ 24) (hnone : s.time.newK = none) :
    exec (.timeSetSeason ring) s = s.isQueued ring .season
      (fun t => t.modTime (fun t => { t with newK := some (BitVec.ofNat 5 ((s.front ring).byte 16)) })) := by
  have hrun (t : State) (ht : t.time = s.time) : runOp (s.front ring) t = queuedFor .season (t.modTime
      (fun t => { t with newK := some (BitVec.ofNat 5 ((s.front ring).byte 16)) })) :=
    (runOp_TimeSetSeason (State.passes_opcode hpass)).trans (runTimeSetSeason_queued hlow hhigh (ht ▸ hnone))
  exact exec_isQueued rfl hpass rfl (by decide) (congrArg Prod.fst (hrun _ (State.taken_time s ring)))
    (congrArg Prod.snd (hrun _ (State.noted_time s ring .season)))

end TimeCommands

/-- Settles O50: each command by the end that the catalogue names for it and by what its run does. -/
theorem timeCommandsRun : Obligations.TimeCommandsRun := by
  refine ⟨?epoch, ?epochEffect, ?season, ?root, ?rootEffect, ?read⟩
  case epoch =>
    rintro s u c ring hpass rfl rfl ⟨hmode, hfree⟩ ⟨hmul, hlow, hhigh⟩
    exact exec_waitsForBoundary rfl hpass rfl
      ((runOp_TimeSetEpoch (State.passes_opcode hpass)).trans (runTimeSetEpoch_done hmode hfree hmul hlow hhigh))
  case epochEffect =>
    intro u c hop ⟨hmode, hfree⟩ ⟨hmul, hlow, hhigh⟩
    exact (runOp_TimeSetEpoch hop).trans (runTimeSetEpoch_done hmode hfree hmul hlow hhigh)
  case season =>
    rintro s c ring hpass rfl ⟨hlow, hhigh⟩ hnone
    exact exec_timeSetSeason hpass hlow hhigh hnone
  case root =>
    rintro s u c ring hpass rfl rfl hroot
    exact exec_waitsForBoundary rfl hpass rfl
      ((runOp_TimeSetRoot (State.passes_opcode hpass)).trans (runTimeSetRoot_done hroot))
  case rootEffect => exact fun u c hop hroot => (runOp_TimeSetRoot hop).trans (runTimeSetRoot_done hroot)
  case read =>
    rintro s u c ring hpass rfl rfl
    exact exec_endsDone rfl hpass rfl (runOp_TimeRead (State.passes_opcode hpass))

/-! The slot, wear, ledger, health, countersign and trace commands (R373, R404 to R411): each goes through its checks. -/

section SlotCommands

variable {s : State} {c : Command}

/-- The checks that the commands of a slot share find nothing while the power link is up. -/
theorem checks_slotChecks {l : List (Bool × Nat)} {go : State → Ran} (hlink : s.power.link = true) (hch : c.byte 16 ≤ 47) :
    checks (slotChecks c s ++ l) s go = checks l s go := by
  simp [slotChecks, hlink, Nat.not_lt.mpr hch]

/-- A value within its limits is not out of them. -/
theorem outOfRange_eq_false {v lo hi : Nat} (hin : lo ≤ v ∧ v ≤ hi) : decide (v < lo ∨ hi < v) = false :=
  decide_eq_false (by omega)

theorem runSlotSet_done (hlink : s.power.link = true) (hch : c.byte 16 ≤ 47) (hseq : c.byte 17 ≤ 7)
    (hshare : 1 ≤ c.byte 18 ∧ c.byte 18 ≤ 16) (hlimit : 10 ≤ c.num 20 2 ∧ c.num 20 2 ≤ 500)
    (hfast : 1 ≤ c.byte 22 ∧ c.byte 22 ≤ 128) (hramp : 1 ≤ c.byte 23 ∧ c.byte 23 ≤ 100)
    (hdelay : 1 ≤ c.num 24 2 ∧ c.num 24 2 ≤ 100) (hoff : (s.chCopy (c.byte 16)).powered = false) :
    runSlotSet c s = done (pushFrames [writeFrame (c.byte 16) 1 (fieldAt (c.byte 22) 16 + c.num 20 2),
      writeFrame (c.byte 16) 2 (fieldAt (c.num 24 2) 17 + fieldAt (c.byte 23) 10 + fieldAt (c.byte 18 - 1) 6 +
        fieldAt (c.byte 17) 3)] s) := by
  simp only [runSlotSet, checks_slotChecks hlink hch, checks_cons, checks_nil, outOfRange_eq_false ⟨Nat.zero_le _, hseq⟩,
    outOfRange_eq_false hshare, outOfRange_eq_false hlimit, outOfRange_eq_false hfast,
    outOfRange_eq_false hramp, outOfRange_eq_false hdelay, hoff, Bool.or_self, Bool.false_eq_true, if_false]

theorem runSlotOn_queued (hlink : s.power.link = true) (hch : c.byte 16 ≤ 47) (hprsnt : (s.channel (c.byte 16)).prsnt = true)
    (hready : (s.chCopy (c.byte 16)).code = 8) :
    runSlotOn c s = queuedFor (.slotOn (c.byte 16)) (pushFrames [writeFrame (c.byte 16) 3 1] s) := by
  simp [runSlotOn, checks_slotChecks hlink hch, hprsnt, hready]

theorem runSlotOff_done (hlink : s.power.link = true) (hch : c.byte 16 ≤ 47) (hidle : s.slotBusy (c.byte 16) = false)
    (hnone : s.hasJob (fun k => decide (k = .slotOn (c.byte 16))) = false) :
    runSlotOff c s = done (pushFrames [writeFrame (c.byte 16) 3 2] (drivePerst (c.byte 16) s)) := by
  simp only [runSlotOff, checks_slotChecks hlink hch, checks_cons, checks_nil, hidle, hnone, Bool.or_self,
    Bool.false_eq_true, if_false]

theorem runSlotClearLatch_done (hlink : s.power.link = true) (hch : c.byte 16 ≤ 47) :
    runSlotClearLatch c s = done (pushFrames [writeFrame (c.byte 16) 3 4] s) :=
  checks_slotChecks (l := []) hlink hch

theorem runSlotRead_done (hlink : s.power.link = true) (hch : c.byte 16 ≤ 47) : ∃ r, runSlotRead c s = doneWith r s :=
  ⟨_, checks_slotChecks (l := []) hlink hch⟩

theorem runSlotStatus_done (hch : c.byte 16 ≤ 47) : runSlotStatus c s = doneWith (s.chCopy (c.byte 16)).status s := by
  simp [runSlotStatus, Nat.not_lt.mpr hch]

/-- FEED_SET: only feed A has a dead time (R509). -/
theorem runFeedSet_done (hlink : s.power.link = true) (hfeed : c.byte 16 ≤ 1) (hlow : 900 ≤ c.num 18 2)
    (hhigh : c.num 18 2 ≤ 1400) (hdeadA : c.byte 16 = 0 → 2 ≤ c.byte 20 ∧ c.byte 20 ≤ 50) (hdeadB : c.byte 16 = 1 → c.byte 20 = 0) :
    runFeedSet c s = done (pushFrames [writeFrame (0x40 + c.byte 16) 1 (fieldAt (c.byte 20) 11 + c.num 18 2)] s) := by
  have hin : ¬ (1 < c.byte 16 ∨ c.num 18 2 < 900 ∨ 1400 < c.num 18 2 ∨
      (c.byte 16 = 0 ∧ (c.byte 20 < 2 ∨ 50 < c.byte 20)) ∨ (c.byte 16 = 1 ∧ c.byte 20 ≠ 0)) := by omega
  simp only [runFeedSet, checks_cons, checks_nil, hlink, hin]
  rfl

end SlotCommands

section WearCommands

variable {s : State} {c : Command}

/-- WEAR_READ of a monitor: any class but 0x0A, which numbers the lanes. -/
theorem runWearRead_done (hcls : c.byte 16 ≠ 0x0A) (hinst : c.num 18 2 < monitorInstances (c.byte 16)) :
    ∃ r, runWearRead c s = doneWith r s := by
  simp only [runWearRead, checks_cons, checks_nil, hcls, if_false, Nat.not_le.mpr hinst, decide_false, Bool.false_eq_true]
  exact ⟨_, rfl⟩

theorem runLedgerRead_done (hfirst : c.num 16 2 ≤ 4095) (hlow : 1 ≤ c.num 18 2) (hhigh : c.num 18 2 ≤ 64) :
    runLedgerRead c s =
      doneWith ((List.range (c.num 18 2)).flatMap (fun i => s.ledgerBytes ((c.num 16 2 + i) % 4096))) s := by
  have hin : ¬ (4095 < c.num 16 2 ∨ c.num 18 2 < 1 ∨ 64 < c.num 18 2) := by omega
  simp only [runLedgerRead, checks_cons, checks_nil, hin, decide_false, Bool.false_eq_true, if_false]

theorem runHealthVmin_queued (hsupply : c.byte 16 ≤ 1) :
    runHealthVmin c s = queuedFor .vmin (s.modDev (fun d => { d with healthVmin := d.healthVmin ++ [c.byte 16] })) := by
  simp [runHealthVmin, Nat.not_lt.mpr hsupply]

end WearCommands

section CountersignCommands

variable {s : State} {ring : Nat}

theorem runCsWithdraw_done {c : Command} {p : Proposal} (hfind : s.proposal (BitVec.ofNat 16 (c.num 16 2)) = some p)
    (hopen : p.signer = none) : runCsWithdraw c s = done (endProposal p stAborted s) := by
  simp [runCsWithdraw, hfind, hopen]

/-- COUNTERSIGN runs at once, and then the proposal that it names is mirrored where it is now due (R302, R371). -/
theorem exec_countersign (hpass : s.passes 0x0D01 ring = true) :
    exec (.countersign ring) s = .next ((mirrorProposal (BitVec.ofNat 16 ((s.front ring).num 16 2))
      (runNow (s.front ring) (s.taken ring))).setPending s.pending) := by
  rw [exec_command rfl, whenWf_passes hpass, tellerCommand_runs hpass rfl rfl, runStarted, if_pos (State.passes_opcode hpass)]

/-- A guarded command becomes a proposal, whatever its operands (R368). -/
theorem exec_isStaged {i : Instr} {op : Nat} (hcmd : i.command = some (op, ring)) (hpass : s.passes op ring = true)
    (hrow : (opInfo op).map (fun o => o.guarded) = some true) : exec i s = s.isStaged ring := by
  obtain ⟨o, hinfo, hguard⟩ := Option.map_eq_some_iff.mp hrow
  rw [exec_command hcmd, whenWf_passes hpass, tellerCommand_guarded hpass hinfo hguard]
  rfl

end CountersignCommands

section TraceCommands

variable {s : State} {c : Command}

theorem runTraceSetFilter_done (hfilter : c.byte 16 ≤ 15) (hpoint : pointValid (c.byte 17) = true) :
    runTraceSetFilter c s = done (s.modCtr (fun x => { x with
      filters := Tab.set x.filters {} (c.byte 16)
        { point := BitVec.ofNat 8 (c.byte 17), enable := decide (c.byte 18 % 2 = 1), match' := BitVec.ofNat 160 (c.num 24 20),
          mask := BitVec.ofNat 160 (c.num 44 20) } })) := by
  simp only [runTraceSetFilter, checks_cons, checks_nil, Nat.not_lt.mpr hfilter, hpoint, decide_false, Bool.not_true, Bool.or_self,
    Bool.false_eq_true, if_false]

theorem runTraceStart_done (hidle : s.ctr.capturing = false) :
    runTraceStart c s = done (s.modCtr (fun x => { x with
      traceIndex := 0, captured := 0, capturing := true, traceOpen := true, traceDropped := false,
      stopWhenFull := decide (c.byte 16 % 2 = 1) })) := by
  simp only [runTraceStart, checks_cons, checks_nil, hidle, Bool.false_eq_true, if_false]

theorem runTraceRead_done (hfirst : c.num 16 4 ≤ 262143) (hlow : 1 ≤ c.num 20 2) (hhigh : c.num 20 2 ≤ 128)
    (hclosed : s.ctr.traceOpen = false) : runTraceRead c s = doneWith ((List.range (c.num 20 2)).flatMap (fun i =>
      bytesOf 32 256 (Tab.get s.ctr.trace 0 ((c.num 16 4 + i) % 262144)))) s := by
  have hin : ¬ (262143 < c.num 16 4 ∨ c.num 20 2 < 1 ∨ 128 < c.num 20 2) := by omega
  simp only [runTraceRead, checks_cons, checks_nil, hin, hclosed, decide_false, Bool.false_eq_true, if_false]

end TraceCommands

/-- Each row of a table of commands holds where its head does and those of its tail do. -/
theorem commandRows_cons {Q : Nat → (Nat → Instr) → Prop} {op : Nat} {i : Nat → Instr} {p : Prop}
    {rows : List (Nat × (Nat → Instr) × Prop)} :
    (∀ o j h, (o, j, h) ∈ (op, i, p) :: rows → h → Q o j) ↔ (p → Q op i) ∧ ∀ o j h, (o, j, h) ∈ rows → h → Q o j := by
  simpa only [Prod.forall] using List.forall_mem_cons (p := fun x : Nat × (Nat → Instr) × Prop => x.2.2 → Q x.1 x.2.1)

/-- A table without rows asks for nothing. -/
theorem commandRows_nil {Q : Nat → (Nat → Instr) → Prop} :
    (∀ o j h, (o, j, h) ∈ ([] : List (Nat × (Nat → Instr) × Prop)) → h → Q o j) ↔ True := by
  simp

/-- Settles O5: each row by the end that the catalogue names for it and by what its run finds; COUNTERSIGN by its own lemma. -/
theorem slotWearProposalAndTimeCommandsComplete : Obligations.SlotWearProposalAndTimeCommandsComplete := by
  rintro s u c ring n b e p rfl rfl rfl rfl rfl
  have hop {op : Nat} : s.passes op ring = true → (s.front ring).opcode.toNat = op := State.passes_opcode
  simp only [commandRows_cons, commandRows_nil, and_true]
  refine ⟨?staged,
    ⟨?slotSet, ?slotOff, ?clearLatch, ?feedSet, ?epoch, ?root, ?filter, ?start, ?stop⟩,
    ⟨?slotRead, ?slotStatus, ?feedStatus, ?wearRead, ?wearSummary, ?ledgerRead, ?ledgerStatus, ?withdraw, ?list, ?timeRead,
      ?traceRead⟩,
    ⟨?slotOn, ?bist, ?vmin, ?season⟩, fun _ _ _ _ hpass => ⟨_, _, exec_countersign hpass⟩⟩
  case staged =>
    intro o i hmem hpass
    simp only [List.mem_cons, List.not_mem_nil, or_false, Prod.mk.injEq] at hmem
    obtain ⟨rfl, rfl⟩ | ⟨rfl, rfl⟩ := hmem
    · exact exec_isStaged rfl hpass rfl
    · exact exec_isStaged rfl hpass rfl
  case slotSet =>
    rintro ⟨hlink, hch, hseq, hshare, hshare', hlimit, hlimit', hfast, hfast', hramp, hramp', hdelay, hdelay', hoff⟩ hpass
    have hrun := runSlotSet_done hlink hch hseq ⟨hshare, hshare'⟩ ⟨hlimit, hlimit'⟩ ⟨hfast, hfast'⟩ ⟨hramp, hramp'⟩
      ⟨hdelay, hdelay'⟩ hoff
    exact exec_waitsForBoundary rfl hpass rfl ((runOp_SlotSet (hop hpass)).trans hrun)
  case slotOff =>
    exact fun ⟨hlink, hch, hidle, hnone⟩ hpass => exec_waitsForBoundary rfl hpass rfl
      ((runOp_SlotOff (hop hpass)).trans (runSlotOff_done hlink hch hidle hnone))
  case clearLatch =>
    exact fun ⟨hlink, hch⟩ hpass => exec_waitsForBoundary rfl hpass rfl
      ((runOp_SlotClearLatch (hop hpass)).trans (runSlotClearLatch_done hlink hch))
  case feedSet =>
    exact fun ⟨hlink, hfeed, hlow, hhigh, hdeadA, hdeadB⟩ hpass => exec_waitsForBoundary rfl hpass rfl
      ((runOp_FeedSet (hop hpass)).trans (runFeedSet_done hlink hfeed hlow hhigh hdeadA hdeadB))
  case epoch =>
    exact fun ⟨hmode, hfree, hmul, hlow, hhigh⟩ hpass => exec_waitsForBoundary rfl hpass rfl
      ((runOp_TimeSetEpoch (hop hpass)).trans (runTimeSetEpoch_done hmode hfree hmul hlow hhigh))
  case root =>
    exact fun hroot hpass => exec_waitsForBoundary rfl hpass rfl
      ((runOp_TimeSetRoot (hop hpass)).trans (runTimeSetRoot_done hroot))
  case filter =>
    exact fun ⟨hfilter, hpoint⟩ hpass => exec_waitsForBoundary rfl hpass rfl
      ((runOp_TraceSetFilter (hop hpass)).trans (runTraceSetFilter_done hfilter hpoint))
  case start =>
    exact fun hidle hpass => exec_waitsForBoundary rfl hpass rfl
      ((runOp_TraceStart (hop hpass)).trans (runTraceStart_done hidle))
  case stop => exact fun _ hpass => exec_waitsForBoundary rfl hpass rfl (runOp_TraceStop (hop hpass))
  case slotRead =>
    rintro ⟨hlink, hch⟩ hpass
    obtain ⟨r, hr⟩ := runSlotRead_done hlink hch
    exact ⟨_, _, exec_endsDone rfl hpass rfl ((runOp_SlotRead (hop hpass)).trans hr)⟩
  case slotStatus =>
    exact fun hch hpass => ⟨_, _, exec_endsDone rfl hpass rfl ((runOp_SlotStatus (hop hpass)).trans (runSlotStatus_done hch))⟩
  case feedStatus => exact fun _ hpass => ⟨_, _, exec_endsDone rfl hpass rfl (runOp_FeedStatus (hop hpass))⟩
  case wearRead =>
    rintro ⟨hcls, hinst⟩ hpass
    obtain ⟨r, hr⟩ := runWearRead_done hcls hinst
    exact ⟨_, _, exec_endsDone rfl hpass rfl ((runOp_WearRead (hop hpass)).trans hr)⟩
  case wearSummary => exact fun _ hpass => ⟨_, _, exec_endsDone rfl hpass rfl (runOp_WearSummary (hop hpass))⟩
  case ledgerRead =>
    exact fun ⟨hfirst, hlow, hhigh⟩ hpass =>
      ⟨_, _, exec_endsDone rfl hpass rfl ((runOp_LedgerRead (hop hpass)).trans (runLedgerRead_done hfirst hlow hhigh))⟩
  case ledgerStatus => exact fun _ hpass => ⟨_, _, exec_endsDone rfl hpass rfl (runOp_LedgerStatus (hop hpass))⟩
  case withdraw =>
    exact fun ⟨hfind, hopen⟩ hpass =>
      ⟨_, _, exec_endsDone rfl hpass rfl ((runOp_CsWithdraw (hop hpass)).trans (runCsWithdraw_done hfind hopen))⟩
  case list => exact fun _ hpass => ⟨_, _, exec_endsDone rfl hpass rfl (runOp_CsList (hop hpass))⟩
  case timeRead => exact fun _ hpass => ⟨_, _, exec_endsDone rfl hpass rfl (runOp_TimeRead (hop hpass))⟩
  case traceRead =>
    exact fun ⟨hfirst, hlow, hhigh, hclosed⟩ hpass =>
      ⟨_, _, exec_endsDone rfl hpass rfl ((runOp_TraceRead (hop hpass)).trans (runTraceRead_done hfirst hlow hhigh hclosed))⟩
  case slotOn =>
    rintro ⟨hlink, hch, hprsnt, hready⟩ hpass
    have hrun := runSlotOn_queued (s := s.taken ring) (by simpa using hlink) hch (by simpa using hprsnt) (by simpa using hready)
    exact ⟨_, _, exec_isQueued_run rfl hpass rfl (by decide) ((runOp_SlotOn (hop hpass)).trans hrun)⟩
  case bist => exact fun _ hpass => ⟨_, _, exec_isQueued_run rfl hpass rfl (by decide) (runOp_HealthBist (hop hpass))⟩
  case vmin =>
    exact fun hsupply hpass => ⟨_, _, exec_isQueued_run rfl hpass rfl (by decide)
      ((runOp_HealthVmin (hop hpass)).trans (runHealthVmin_queued hsupply))⟩
  case season => exact fun ⟨hlow, hhigh, hnone⟩ hpass => ⟨_, _, exec_timeSetSeason hpass hlow hhigh hnone⟩

/-- Settles O20: each row by its meaning, whose guard the row's condition meets. -/
theorem eventAndDieLinkEventsComplete : Obligations.EventAndDieLinkEventsComplete := by
  intro s src tg pri hart word ch n v v2 free dir ex hdr
  simp only [rows_cons, rows_nil, and_true]
  refine ⟨fun hon => ⟨?assertion, ?offer, ?withdrawAck, ?up, ?accessTimeout, ?posted⟩,
    ⟨?take, ?tgtReset, ?swtrig, ?pendClear, ?malformed⟩,
    fun hhart => ⟨?offerTaken, ?withdrawReceived, ?done⟩,
    fun hon hup => ⟨?down, ?nak, ?replayTimeout, ?crcError, ?broadcast⟩, ?credit⟩
  case assertion =>
    exact fun hsrc => whenWf_onlyIf_becomes (f := fun t => evcReviewAll (raise src t)) (decide_eq_true hsrc) hon
  case offer => exact fun htg => whenWf_onlyIf_becomes (decide_eq_true htg) hon
  case withdrawAck => exact fun htg => whenWf_onlyIf_becomes (decide_eq_true htg) hon
  case up => exact fun ⟨hstage, hdown⟩ => whenWf_onlyIf_becomes rfl (by simp [hon, hstage, hdown])
  case accessTimeout =>
    exact fun ⟨hhart, hdown, hwaits, hold⟩ => whenWf_onlyIf_becomes (decide_eq_true hhart) (by simp [hon, hdown, hwaits, hold])
  case posted => exact fun _ => whenWf_onlyIf_becomes rfl hon
  case take => exact fun ⟨htg, hsrc⟩ => whenWf_becomes (by simp [htg, hsrc])
  case tgtReset => exact fun _ => whenWf_becomes rfl
  case swtrig => exact fun _ => whenWf_becomes rfl
  case pendClear => exact fun hword => whenWf_becomes (decide_eq_true hword)
  case malformed => exact fun harrives => whenWf_onlyIf_becomes rfl harrives
  case offerTaken => exact fun _ => whenWf_becomes (decide_eq_true hhart)
  case withdrawReceived => exact fun hsrc => whenWf_becomes (by simp [hhart, hsrc])
  case done => exact fun _ => whenWf_becomes (decide_eq_true hhart)
  case down => exact fun _ => whenWf_onlyIf_becomes rfl (by simp [hon, hup])
  case nak => exact fun hfits => whenWf_onlyIf_becomes rfl (by simp [hon, hup, hfits])
  case replayTimeout =>
    exact fun ⟨hopen, hold⟩ => whenWf_onlyIf_becomes rfl
      (by simp only [hon, hup, hopen, hold, decide_true, Bool.not_false, Bool.and_self])
  case crcError =>
    exact fun _ => whenWf_onlyIf_becomes (f := fun t => t.modDieLink (fun l =>
      let l1 := l.modDir dir (fun d => { d with naking := true })
      { l1 with errors := if dir = .toFabric then satAdd l.errors 1 else l.errors })) rfl (by simp [hon, hup])
  case broadcast => exact fun hdue => whenWf_onlyIf_becomes rfl (by simp [hon, hup, hdue])
  case credit =>
    rintro hon ⟨hch, hn, hup⟩
    obtain ⟨t, ht, _⟩ := exec_next (c := .dieLinkCredit dir ch n) (s := s) (by simp [Instr.wf, hch, hn])
    exact ⟨t, ht⟩

/-! Events that look their subject up: the forward whose first receipt is late, and the test that has run longest (R360, R557). -/

section TellerEvents

variable {s : State}

theorem exec_forwardTimeout {ring : Nat} {tag : BitVec 32} {f : Forward} (hon : s.fabricOn = true) (hring : ring < 16)
    (hfind : s.teller.forwards.find? (fun x => decide (x.ring = ring ∧ x.tag = tag)) = some f) (hlate : f.late s.tick = true) :
    exec (.forwardTimeout ring tag) s = s.becomes (forwardTimeout f s) := by
  have hexec : exec (.forwardTimeout ring tag) s = execForwardTimeout ring tag s := rfl
  rw [hexec, execForwardTimeout, hfind]
  exact whenWf_onlyIf_becomes (decide_eq_true hring) (by simp only [hon, hlate, Bool.and_self])

theorem exec_healthBistComplete {mask : Nat} {rest : List Nat} (repairs failing : Nat) (hon : s.fabricOn = true)
    (hruns : s.dev.healthBist = mask :: rest) :
    exec (.healthBistComplete repairs failing) s = s.becomes (healthBistDone mask repairs failing s) := by
  have hexec : exec (.healthBistComplete repairs failing) s = execHealthBistComplete repairs failing s := rfl
  rw [hexec, execHealthBistComplete, hruns]
  exact whenWf_onlyIf_becomes rfl hon

theorem exec_healthVminComplete {supply : Nat} {rest : List Nat} (vmin : Nat) (hon : s.fabricOn = true)
    (hruns : s.dev.healthVmin = supply :: rest) :
    exec (.healthVminComplete vmin) s = s.becomes (healthVminDone supply vmin s) := by
  have hexec : exec (.healthVminComplete vmin) s = execHealthVminComplete vmin s := rfl
  rw [hexec, execHealthVminComplete, hruns]
  exact whenWf_onlyIf_becomes rfl hon

end TellerEvents

/-- Settles O19: each row by its meaning, whose guard the row's condition meets. -/
theorem tellerEventsComplete : Obligations.TellerEventsComplete := by
  intro s ring rp fl mask vmin supply v tag f off data ad e up celsius rest
  simp only [rows_cons, rows_nil, and_true]
  refine ⟨fun hring => ⟨?cmdTail, ?rcptHead, ?forward⟩,
    fun hon => ⟨?deferred, ?forwardTimeout, ?season, ?correction, ?holdover, ?free, ?nowLow, ?snapshot, ?ledgerWrite,
      ?persist, ?thermal, ?bist, ?vmin⟩,
    ?port, ?address, ?hour, ?trip, ?vid⟩
  case cmdTail => exact fun _ => whenWf_becomes (decide_eq_true hring)
  case rcptHead => exact fun _ => whenWf_becomes (decide_eq_true hring)
  case forward => exact fun _ => whenWf_becomes (decide_eq_true hring)
  case deferred => exact fun hring => whenWf_onlyIf_becomes (decide_eq_true hring) hon
  case forwardTimeout => exact fun ⟨hring, hfind, hlate⟩ => exec_forwardTimeout hon hring hfind hlate
  case season => exact fun hrun => whenWf_onlyIf_becomes rfl (by simp [hon, hrun])
  case correction => exact fun ⟨hrun, hdue⟩ => whenWf_onlyIf_becomes rfl (by simp [hon, hrun, hdue])
  case holdover => exact fun ⟨hsync, hold⟩ => whenWf_onlyIf_becomes rfl (by simp [hon, hsync, hold])
  case free => exact fun ⟨hsync, hold⟩ => whenWf_onlyIf_becomes rfl (by simp [hon, hsync, hold])
  case nowLow => exact fun hup => whenWf_onlyIf_becomes rfl (by simp [hon, hup])
  case snapshot => exact fun htrig => whenWf_onlyIf_becomes rfl (by simp only [hon, htrig, Bool.and_self])
  case ledgerWrite => exact fun hdrain => whenWf_onlyIf_becomes rfl (by simp [hon, hdrain])
  case persist => exact fun _ => whenWf_onlyIf_becomes rfl hon
  case thermal => exact fun hdue => whenWf_onlyIf_becomes rfl (by simp [hon, hdue])
  case bist => exact exec_healthBistComplete rp fl hon
  case vmin => exact exec_healthVminComplete vmin hon
  case port =>
    exact fun hlive => whenWf_onlyIf_becomes
      (f := fun t => portWrite off.toNat data (t.modTeller (fun x => { x with csOffset := off }))) rfl hlive
  case address =>
    exact fun hlive => whenWf_onlyIf_becomes (f := fun t => t.modTeller (fun x => { x with csAddress := ad })) rfl hlive
  case hour => exact fun hvaux => whenWf_onlyIf_becomes rfl hvaux
  case trip => exact fun ⟨hvaux, hnot⟩ => whenWf_onlyIf_becomes rfl (by simp [hvaux, hnot])
  case vid => exact fun hmay => whenWf_onlyIf_becomes rfl hmay

end Sys2Proof.Machine
end

section
/-! The plots-and-beds family: the atomic aperture, the commands of plots, beds, extents, ports, lanes and trunks, the rows of the tick
boundary, and the events of the pool, the ports and the mailbox. -/

namespace Sys2Proof.Machine

/-! The atomic aperture (R80, R150): what an access does once it reaches BAR 2 of the device at a vPPB. -/

section AtomicAperture

variable {s u : State} {port vppb p : Nat} {offset : BitVec 64}

/-- An access that reaches the aperture has its effect, counted as an I/O request in a flit of its own (R150). -/
theorem whenWf_aperture {f : State → State} (hport : port < 128) (hvppb : vppb < 17) (hreaches : s.apertureReaches port = true)
    (hin : inAperture offset = true) (hflit : newFlit port (portCount port 14 1 s) = u) :
    whenWf s (decide (port < 128) && decide (vppb < 17)) (onlyIf (s.apertureReaches port && inAperture offset)
      (fun t => f (newFlit port (portCount port 14 1 t))) s) = s.becomes (f u) := by
  subst hflit
  exact whenWf_onlyIf_becomes (f := fun t => f (newFlit port (portCount port 14 1 t))) (by simp [hport, hvppb])
    (by simp [hreaches, hin])

/-- Below a vPPB with a plot, the access goes on to the synthesised DPA that its offset is (R80, R150). -/
theorem apertureRequest_plot {r : HeldReq} (hplot : u.plotAt r.port vppb = some p) :
    apertureRequest r vppb offset u = routeRequest { r with flit := u.flitNow (r.port / 8), vppb := vppb, hpa := offset, io := true }
      true (u.reachDpa p offset.toNat) u := by
  simp only [apertureRequest, hplot]

section AtomicOp

variable {op : AtomOp} {size : Nat} {a b : BitVec 128}

/-- What an AtomicOp does that reaches the aperture: its size decides, then its alignment. -/
def atomicAccess (port vppb : Nat) (offset : BitVec 64) (op : AtomOp) (size : Nat) (a b : BitVec 128) (t : State) : State :=
  if !atomicAccepted op size then unsupportedIo port (18 + vppb) true t
  else if offset.toNat % size ≠ 0 then noteAer port (18 + vppb) true 18 t
  else apertureRequest { port := port, op := .atom, atomOp := op, size := size, a := a, b := b } vppb offset t

theorem exec_atomicop (hport : port < 128) (hvppb : vppb < 17) (hreaches : s.apertureReaches port = true)
    (hin : inAperture offset = true) (hflit : newFlit port (portCount port 14 1 s) = u) :
    exec (.atomicop port vppb offset op size a b) s = s.becomes (atomicAccess port vppb offset op size a b u) :=
  whenWf_aperture (f := atomicAccess port vppb offset op size a b) hport hvppb hreaches hin hflit

theorem atomicAccess_badSize (hsize : atomicAccepted op size = false) :
    atomicAccess port vppb offset op size a b u = unsupportedIo port (18 + vppb) true u := by
  simp [atomicAccess, hsize]

theorem atomicAccess_misaligned (hsize : atomicAccepted op size = true) (halign : offset.toNat % size ≠ 0) :
    atomicAccess port vppb offset op size a b u = noteAer port (18 + vppb) true 18 u := by
  simp [atomicAccess, hsize, halign]

theorem atomicAccess_accepted (hsize : atomicAccepted op size = true) (halign : offset.toNat % size = 0) :
    atomicAccess port vppb offset op size a b u =
      apertureRequest { port := port, op := .atom, atomOp := op, size := size, a := a, b := b } vppb offset u := by
  simp [atomicAccess, hsize, halign]

end AtomicOp

theorem exec_apertureRead (hport : port < 128) (hvppb : vppb < 17) (hreaches : s.apertureReaches port = true)
    (hin : inAperture offset = true) (hflit : newFlit port (portCount port 14 1 s) = u) :
    exec (.apertureRead port vppb offset) s =
      s.becomes (apertureRequest { port := port, op := .memRd, metaField := .noOp } vppb offset u) :=
  whenWf_aperture hport hvppb hreaches hin hflit

theorem exec_apertureWrite {data : Line} {mask : BitVec 64} (hport : port < 128) (hvppb : vppb < 17)
    (hreaches : s.apertureReaches port = true) (hin : inAperture offset = true)
    (hflit : newFlit port (portCount port 14 1 s) = u) :
    exec (.apertureWrite port vppb offset data mask) s =
      s.becomes (apertureRequest { port := port, op := .memWrPtl, data := data, mask := mask } vppb offset u) :=
  whenWf_aperture hport hvppb hreaches hin hflit

end AtomicAperture

/-- Settles O36: each access by its `exec` lemma; then an AtomicOp by its size and alignment, an accepted access by the plot below the
vPPB. -/
theorem atomicAperture : Obligations.AtomicAperture := by
  refine ⟨?accepted, ?badSize, ?misaligned, ?read, ?write⟩
  case accepted =>
    intro port vppb offset op size a b p s u ⟨hport, hvppb, hreaches, hin, hflit⟩ ⟨hsize, halign, hplot⟩
    rw [exec_atomicop hport hvppb hreaches hin hflit, atomicAccess_accepted hsize halign, apertureRequest_plot hplot]
  case badSize =>
    intro port vppb offset op size a b s u ⟨hport, hvppb, hreaches, hin, hflit⟩ hsize
    rw [exec_atomicop hport hvppb hreaches hin hflit, atomicAccess_badSize hsize]
  case misaligned =>
    intro port vppb offset op size a b s u ⟨hport, hvppb, hreaches, hin, hflit⟩ ⟨hsize, halign⟩
    rw [exec_atomicop hport hvppb hreaches hin hflit, atomicAccess_misaligned hsize halign]
  case read =>
    intro port vppb offset p s u ⟨hport, hvppb, hreaches, hin, hflit⟩ hplot
    rw [exec_apertureRead hport hvppb hreaches hin hflit, apertureRequest_plot hplot]
  case write =>
    intro port vppb offset data mask p s u ⟨hport, hvppb, hreaches, hin, hflit⟩ hplot
    rw [exec_apertureWrite hport hvppb hreaches hin hflit, apertureRequest_plot hplot]

/-! Commands whose effect falls at a tick boundary with QUEUED before or a single receipt (R67, R381): the rows marked "tick; Q". -/

section TickQueuedEnds

variable {s : State} {i : Instr} {op ring : Nat}

/-- A row that is not guarded and does not end QUEUED from its start is the Teller's command; COUNTERSIGN is no such row. -/
theorem exec_unguarded {e : Ends} (hcmd : i.command = some (op, ring)) (hpass : s.passes op ring = true)
    (hrow : (opInfo op).map (fun o => (o.guarded, o.ends)) = some (false, e)) (hnow : e ≠ .queued) :
    ∃ o, opInfo op = some o ∧ o.guarded = false ∧ o.ends = e ∧ op ≠ 0x0D01 ∧
      exec i s = .next ((tellerCommand op ring s).setPending s.pending) := by
  obtain ⟨o, hinfo, hfields⟩ := Option.map_eq_some_iff.mp hrow
  obtain ⟨hguard, hends⟩ := Prod.mk.inj hfields
  have hother : op ≠ 0x0D01 := by rintro rfl; cases hrow; exact hnow rfl
  exact ⟨o, hinfo, hguard, hends, hother, by rw [exec_command hcmd, whenWf_passes hpass]⟩

/-- A command marked so that ends with one receipt waits for its boundary. -/
theorem exec_tickQueued_waits {r : List Byte} {t : State} (hcmd : i.command = some (op, ring)) (hpass : s.passes op ring = true)
    (hrow : (opInfo op).map (fun o => (o.guarded, o.ends)) = some (false, .tickQueued))
    (hstill : (s.taken ring).recordsPlot (s.front ring) = false)
    (hrun : runOp (s.front ring) (s.taken ring) = (.final stDone r, t)) : exec i s = s.waitsForBoundary ring := by
  obtain ⟨o, hinfo, hguard, hends, hother, hexec⟩ := exec_unguarded hcmd hpass hrow (by decide)
  exact hexec.trans (tellerCommand_tick hpass hinfo hguard (.inr ⟨hends, hstill⟩) hother (congrArg Prod.fst hrun))

/-- Such a command that begins work is QUEUED, and its work begins at the boundary. -/
theorem exec_isQueuedForBoundary {k : JobKind} {t : State} (hcmd : i.command = some (op, ring)) (hpass : s.passes op ring = true)
    (hrow : (opInfo op).map (fun o => (o.guarded, o.ends)) = some (false, .tickQueued))
    (hstill : (s.taken ring).recordsPlot (s.front ring) = false)
    (hrun : runOp (s.front ring) (s.taken ring) = (.queued k, t)) : exec i s = s.isQueuedForBoundary ring := by
  obtain ⟨o, hinfo, hguard, hends, hother, hexec⟩ := exec_unguarded hcmd hpass hrow (by decide)
  exact hexec.trans (tellerCommand_tickQueued hpass hinfo hguard hends hstill hother (congrArg Prod.fst hrun))

/-- Such a command of a plot that drains or sanitises is recorded at once (R67). -/
theorem exec_isQueued_recorded {k : JobKind} {f : State → State} (hcmd : i.command = some (op, ring))
    (hpass : s.passes op ring = true) (hrow : (opInfo op).map (fun o => (o.guarded, o.ends)) = some (false, .tickQueued))
    (hrecords : (s.taken ring).recordsPlot (s.front ring) = true)
    (hrun : (runOp (s.front ring) (s.taken ring)).1 = .queued k)
    (hwork : (runOp (s.front ring) (s.noted ring k)).2 = f (s.noted ring k)) : exec i s = s.isQueued ring k f := by
  obtain ⟨o, hinfo, hguard, hends, hother, hexec⟩ := exec_unguarded hcmd hpass hrow (by decide)
  exact hexec.trans (tellerCommand_queued hpass hinfo hguard (.inr ⟨hends, hrecords⟩) hother hrun hwork)

/-- Only PLOT_ENABLE and PLOT_RESET are recorded in a plot, and only where it drains or sanitises (R67). -/
theorem State.recordsPlot_eq (u : State) (c : Command) :
    u.recordsPlot c = (decide (c.opcode.toNat = 0x0205 ∨ c.opcode.toNat = 0x0207) && (u.plot c.plotField).moving) := by
  simp [State.recordsPlot, Plot.moving]

/-- A plot that neither drains nor sanitises records nothing. -/
theorem State.recordsPlot_still {u : State} {c : Command} (hstill : (u.plot c.plotField).moving = false) : u.recordsPlot c = false := by
  rw [State.recordsPlot_eq, hstill, Bool.and_false]

end TickQueuedEnds

/-! A FREE, CONFIGURED or ACTIVE plot neither drains nor sanitises (R66). -/

@[simp] theorem Plot.moving_of_free {x : Plot} (h : x.state = .free) : x.moving = false := by simp [Plot.moving, h]
@[simp] theorem Plot.moving_of_configured {x : Plot} (h : x.state = .configured) : x.moving = false := by simp [Plot.moving, h]
@[simp] theorem Plot.moving_of_active {x : Plot} (h : x.state = .active) : x.moving = false := by simp [Plot.moving, h]

/-- A device number has 4 bits (R387). -/
theorem State.self_lt (s : State) : s.self < 16 := s.dev.number.isLt

/-! The plot commands (R65 to R69, R389): what each does once its operands are in range. -/

section PlotCommands

variable {s : State} {c : Command}

theorem runPlotConfigure_done (hfree : (s.plot c.plotField).state = .free) (hslot : c.byte 17 ≤ 7) (hport : c.byte 16 ≤ 127)
    (hup : (s.port (c.byte 16)).upstream = true) (hnone : s.plotAt (c.byte 16) (c.byte 17) = none) :
    runPlotConfigure c s = done (clearLive (plotStat c.plotField 0) 32 (s.modPlot c.plotField (fun x =>
      { x with state := .configured, port := BitVec.ofNat 7 (c.byte 16), vcsSlot := BitVec.ofNat 3 (c.byte 17) }))) := by
  have hin : ¬ (7 < c.byte 17 ∨ 127 < c.byte 16) := by omega
  simp [runPlotConfigure, hfree, hin, hup, hnone]

theorem runPlotRelease_done (hconf : (s.plot c.plotField).state = .configured) :
    runPlotRelease c s = done (((finishJob (.plotQueued c.plotField) stNotInMode []
      (unbindPlot c.plotField (forEach ((s.plot c.plotField).validSlots.map (·.1)) (unmapOne c.plotField) s))).modPlot c.plotField
        (fun x => { nextHandle := x.nextHandle })).modQos c.plotField (fun _ => {})) := by
  simp [runPlotRelease, hconf]

/-- A bed that the plot maps already takes another slot as it is (R65). -/
theorem mapLocal_again {p k bed base : Nat} (hdef : (s.bed bed).state = .defined)
    (hwindow : (s.plot p).windowFree k base (s.bed bed).span.toNat (s.bed bed).ways.toNat = true)
    (hother : s.portMaps p s.self bed = false) (hmaps : (s.plot p).maps s.self bed = true) :
    mapLocal p k bed base s = done (putSlot p k s.self bed base (s.bed bed).span.toNat 0 0 s) := by
  simp [mapLocal, hdef, hwindow, hother, hmaps]

/-- PLOT_MAP_BED of a bed of this device goes to the bed's own checks, where its operands are in range and its slot is free. -/
theorem runPlotMapBed_local (hstill : (s.plot c.plotField).moving = false) (hused : (s.plot c.plotField).state ≠ .free)
    (hslot : c.byte 16 ≤ 7) (hself : c.byte 17 = s.self) (hbed : c.num 18 2 ≤ 4095) (hbase : c.num 20 4 < 2 ^ 17)
    (hvalid : ((s.plot c.plotField).slot (c.byte 16)).valid = false) (hwaits : s.pool.remoteMaps = []) :
    runPlotMapBed c s = mapLocal c.plotField (c.byte 16) (c.num 18 2) (c.num 20 4) s := by
  have hin : ¬ (7 < c.byte 16 ∨ 15 < s.self ∨ 4095 < c.num 18 2 ∨ 2 ^ 17 ≤ c.num 20 4) := by
    have := s.self_lt
    omega
  simp only [runPlotMapBed, checks_cons, checks_nil, hself, hin, hstill, hused, hvalid, hwaits]
  rfl

theorem runPlotUnmapBed_done (hstill : (s.plot c.plotField).moving = false) (hused : (s.plot c.plotField).state ≠ .free)
    (hslot : c.byte 16 ≤ 7) (hvalid : ((s.plot c.plotField).slot (c.byte 16)).valid = true)
    (hgiven : (s.plot c.plotField).state ≠ .active ∨ ((s.plot c.plotField).slot (c.byte 16)).accepted = 0) :
    runPlotUnmapBed c s = done ((unmapOne c.plotField (c.byte 16) s).modPlot c.plotField
      (fun x => { x with events := x.events.filter (fun e => e.slot ≠ c.byte 16) })) := by
  have hin : ¬ 7 < c.byte 16 := by omega
  have hnone : ¬ ((s.plot c.plotField).state = .active ∧ 0 < ((s.plot c.plotField).slot (c.byte 16)).accepted.toNat) := by
    rintro ⟨hactive, hsome⟩
    rcases hgiven with hidle | hzero
    · exact hidle hactive
    · simp [hzero] at hsome
  simp only [runPlotUnmapBed, checks_cons, checks_nil, hstill, hused, hin, hvalid, hnone]
  rfl

theorem runPlotEnable_done (hconf : (s.plot c.plotField).state = .configured) :
    runPlotEnable c s = done (enablePlot c.plotField s) := by
  simp only [runPlotEnable, hconf]

/-- PLOT_ENABLE of a plot that drains or sanitises is recorded in the plot (R67). -/
theorem runPlotEnable_recorded (hmoving : (s.plot c.plotField).moving = true) (hnone : (s.plot c.plotField).queued = .none) :
    runPlotEnable c s = queuedFor (.plotQueued c.plotField) (s.modPlot c.plotField (fun x =>
      { x with queued := .enable, queuedRing := BitVec.ofNat 4 c.ring, queuedTag := c.tag })) := by
  have hqueue : queuePlot c .enable s = queuedFor (.plotQueued c.plotField) (s.modPlot c.plotField (fun x =>
      { x with queued := .enable, queuedRing := BitVec.ofNat 4 c.ring, queuedTag := c.tag })) := if_pos hnone
  rcases of_decide_eq_true hmoving with hstate | hstate <;> simp only [runPlotEnable, hstate, hqueue]

theorem runPlotDisable_queued (hactive : (s.plot c.plotField).state = .active) :
    runPlotDisable c s = queuedFor (.plot c.plotField) (startDrain c.plotField false false s) := by
  simp only [runPlotDisable, hactive]

theorem runPlotReset_done (hconf : (s.plot c.plotField).state = .configured) :
    runPlotReset c s = done (s.modPlot c.plotField (fun x => { x with fault := false })) := by
  simp only [runPlotReset, hconf]

theorem runPlotReset_queued (hactive : (s.plot c.plotField).state = .active) :
    runPlotReset c s = queuedFor (.plot c.plotField) (startDrain c.plotField true (decide (c.byte 16 % 2 = 1)) s) := by
  simp only [runPlotReset, hactive]

theorem runPlotSetSanitize_done (hconf : (s.plot c.plotField).state = .configured) :
    runPlotSetSanitize c s = done (s.modPlot c.plotField (fun x => { x with sanitizeOff := decide (c.byte 16 % 2 = 1) })) := by
  simp [runPlotSetSanitize, hconf]

theorem runPlotSetQos_done (hread : c.num 16 2 = 0 ∨ 4 ≤ c.num 16 2) (hwrite : c.num 18 2 = 0 ∨ 4 ≤ c.num 18 2)
    (hlow : 1 ≤ c.byte 20) (hhigh : c.byte 20 ≤ 15) (hweight : c.byte 21 ≠ 0) (hstill : (s.plot c.plotField).moving = false)
    (hused : (s.plot c.plotField).state ≠ .free) :
    runPlotSetQos c s = done (s.modQos c.plotField (fun q =>
      { q with pending := some (c.num 16 2, c.num 18 2, c.byte 20, c.byte 21) })) := by
  have hin : ¬ ((c.num 16 2 ≠ 0 ∧ c.num 16 2 < 4) ∨ (c.num 18 2 ≠ 0 ∧ c.num 18 2 < 4) ∨ c.byte 20 = 0 ∨ 15 < c.byte 20 ∨
      c.byte 21 = 0) := by omega
  simp only [runPlotSetQos, checks_cons, checks_nil, hstill, hused, hin]
  rfl

variable {ring : Nat}

/-- PLOT_ENABLE of a CONFIGURED plot waits for the boundary. -/
theorem exec_plotEnable_waits (hpass : s.passes 0x0205 ring = true)
    (hconf : ((s.taken ring).plot (s.front ring).plotField).state = .configured) :
    exec (.plotEnable ring) s = s.waitsForBoundary ring :=
  exec_tickQueued_waits rfl hpass rfl (State.recordsPlot_still (Plot.moving_of_configured hconf))
    ((runOp_PlotEnable (State.passes_opcode hpass)).trans (runPlotEnable_done hconf))

/-- PLOT_ENABLE of a plot that drains or sanitises is QUEUED in the plot at once (R67). -/
theorem exec_plotEnable_recorded (hpass : s.passes 0x0205 ring = true)
    (hmoving : (s.plot (s.front ring).plotField).moving = true) (hnone : (s.plot (s.front ring).plotField).queued = .none) :
    exec (.plotEnable ring) s = s.isQueued ring (.plotQueued (s.front ring).plotField)
      (fun t => t.modPlot (s.front ring).plotField (fun x =>
        { x with queued := .enable, queuedRing := BitVec.ofNat 4 (s.front ring).ring, queuedTag := (s.front ring).tag })) := by
  have hop := State.passes_opcode hpass
  have hrun (t : State) (ht : t.plot (s.front ring).plotField = s.plot (s.front ring).plotField) :=
    (runOp_PlotEnable (s := t) hop).trans (runPlotEnable_recorded (ht ▸ hmoving) (ht ▸ hnone))
  have hrecords : (s.taken ring).recordsPlot (s.front ring) = true := by simp [State.recordsPlot_eq, hop, hmoving]
  exact exec_isQueued_recorded rfl hpass rfl hrecords (congrArg Prod.fst (hrun _ (by simp))) (congrArg Prod.snd (hrun _ (by simp)))

/-- PLOT_DISABLE of an ACTIVE plot is QUEUED, and the drain begins at the boundary. -/
theorem exec_plotDisable_queued (hpass : s.passes 0x0206 ring = true)
    (hactive : ((s.taken ring).plot (s.front ring).plotField).state = .active) :
    exec (.plotDisable ring) s = s.isQueuedForBoundary ring :=
  exec_isQueuedForBoundary rfl hpass rfl (State.recordsPlot_still (Plot.moving_of_active hactive))
    ((runOp_PlotDisable (State.passes_opcode hpass)).trans (runPlotDisable_queued hactive))

/-- PLOT_RESET of a CONFIGURED plot waits for the boundary. -/
theorem exec_plotReset_waits (hpass : s.passes 0x0207 ring = true)
    (hconf : ((s.taken ring).plot (s.front ring).plotField).state = .configured) :
    exec (.plotReset ring) s = s.waitsForBoundary ring :=
  exec_tickQueued_waits rfl hpass rfl (State.recordsPlot_still (Plot.moving_of_configured hconf))
    ((runOp_PlotReset (State.passes_opcode hpass)).trans (runPlotReset_done hconf))

/-- PLOT_RESET of an ACTIVE plot is QUEUED, and the drain begins at the boundary. -/
theorem exec_plotReset_queued (hpass : s.passes 0x0207 ring = true)
    (hactive : ((s.taken ring).plot (s.front ring).plotField).state = .active) :
    exec (.plotReset ring) s = s.isQueuedForBoundary ring :=
  exec_isQueuedForBoundary rfl hpass rfl (State.recordsPlot_still (Plot.moving_of_active hactive))
    ((runOp_PlotReset (State.passes_opcode hpass)).trans (runPlotReset_queued hactive))

/-- PLOT_SET_QOS ends at once (R189). -/
theorem exec_plotSetQos (hpass : s.passes 0x0209 ring = true) (hread : (s.front ring).num 16 2 = 0 ∨ 4 ≤ (s.front ring).num 16 2)
    (hwrite : (s.front ring).num 18 2 = 0 ∨ 4 ≤ (s.front ring).num 18 2) (hlow : 1 ≤ (s.front ring).byte 20)
    (hhigh : (s.front ring).byte 20 ≤ 15) (hweight : (s.front ring).byte 21 ≠ 0)
    (hstill : ((s.taken ring).plot (s.front ring).plotField).moving = false)
    (hused : ((s.taken ring).plot (s.front ring).plotField).state ≠ .free) :
    exec (.plotSetQos ring) s = s.endsWith ring stDone [] ((s.taken ring).modQos (s.front ring).plotField (fun q =>
      { q with pending := some ((s.front ring).num 16 2, (s.front ring).num 18 2, (s.front ring).byte 20, (s.front ring).byte 21) })) :=
  exec_endsDone rfl hpass rfl ((runOp_PlotSetQos (State.passes_opcode hpass)).trans
    (runPlotSetQos_done hread hwrite hlow hhigh hweight hstill hused))

theorem exec_plotRead (hpass : s.passes 0x020A ring = true) :
    exec (.plotRead ring) s = s.endsWith ring stDone (plotBytes (s.taken ring) (s.front ring).plotField ++
      bytesOf 16 128 (BitVec.ofNat 128 ((s.taken ring).qos (s.front ring).plotField).image)) (s.taken ring) :=
  exec_endsDone rfl hpass rfl (runOp_PlotRead (State.passes_opcode hpass))

end PlotCommands

/-- Settles O39: each command by the end that the catalogue names for it and by what its run does. -/
theorem plotCommandsRun : Obligations.PlotCommandsRun := by
  refine ⟨fun _ _ hpass => exec_isStaged rfl hpass rfl, ?configure, fun _ _ hpass => exec_isStaged rfl hpass rfl, ?release,
    fun _ _ hpass => exec_isStaged rfl hpass rfl, ?map, fun _ _ hpass => exec_isStaged rfl hpass rfl, ?unmap,
    ?enableWaits, ?enable, ?enableRecorded, ?disableWaits, ?disable, ?resetWaits, ?reset, ?resetQueued, ?resetActive,
    fun _ _ hpass => exec_isStaged rfl hpass rfl, ?sanitize, ?qos, ?read⟩
  case configure =>
    exact fun u c hop hfree ⟨hslot, hport, hup⟩ hnone =>
      (runOp_PlotConfigure hop).trans (runPlotConfigure_done hfree hslot hport hup hnone)
  case release => exact fun u c hop hconf => (runOp_PlotRelease hop).trans (runPlotRelease_done hconf)
  case map =>
    exact fun u c hop ⟨hstill, hused⟩ ⟨hslot, hself, hbed, hbase⟩ ⟨hvalid, hwaits⟩ hdef hwindow hother hmaps =>
      (runOp_PlotMapBed hop).trans ((runPlotMapBed_local hstill hused hslot hself hbed hbase hvalid hwaits).trans
        (mapLocal_again hdef hwindow hother hmaps))
  case unmap =>
    exact fun u c hop ⟨hstill, hused⟩ ⟨hslot, hvalid⟩ hgiven =>
      (runOp_PlotUnmapBed hop).trans (runPlotUnmapBed_done hstill hused hslot hvalid hgiven)
  case enableWaits => rintro s u c ring hpass rfl rfl hconf; exact exec_plotEnable_waits hpass hconf
  case enable => exact fun u c hop hconf => (runOp_PlotEnable hop).trans (runPlotEnable_done hconf)
  case enableRecorded => rintro s c ring hpass rfl ⟨hmoving, hnone⟩; exact exec_plotEnable_recorded hpass hmoving hnone
  case disableWaits => rintro s u c ring hpass rfl rfl hactive; exact exec_plotDisable_queued hpass hactive
  case disable => exact fun u c hop hactive => (runOp_PlotDisable hop).trans (runPlotDisable_queued hactive)
  case resetWaits => rintro s u c ring hpass rfl rfl hconf; exact exec_plotReset_waits hpass hconf
  case reset => exact fun u c hop hconf => (runOp_PlotReset hop).trans (runPlotReset_done hconf)
  case resetQueued => rintro s u c ring hpass rfl rfl hactive; exact exec_plotReset_queued hpass hactive
  case resetActive => exact fun u c hop hactive => (runOp_PlotReset hop).trans (runPlotReset_queued hactive)
  case sanitize => exact fun u c hop hconf => (runOp_PlotSetSanitize hop).trans (runPlotSetSanitize_done hconf)
  case qos =>
    rintro s u c ring hpass rfl rfl hread hwrite ⟨hlow, hhigh, hweight⟩ ⟨hstill, hused⟩
    exact exec_plotSetQos hpass hread hwrite hlow hhigh hweight hstill hused
  case read => rintro s u c ring hpass rfl rfl; exact exec_plotRead hpass

/-! The bed and extent commands (R73 to R78, R85 to R94, R391, R392): what each does once its operands are in range. -/

section BedCommands

variable {s : State} {c : Command}

theorem runBedDefine_done (hbed : c.num 16 2 ≤ 4095) (hspan : 1 ≤ c.num 18 2 ∧ c.num 18 2 ≤ 16384)
    (htop : c.num 20 4 + c.num 18 2 ≤ 2 ^ 20) (hways : c.byte 25 ≤ 4) (hgran : c.byte 26 ≤ 6)
    (hmul : c.num 18 2 % 2 ^ c.byte 25 = 0) (hripen : 1 ≤ c.num 28 2 ∧ c.num 28 2 ≤ 953)
    (hpolicy : c.byte 24 / 2 % 4 ≤ 1 ∨ (c.byte 24 / 2 % 4 = 2 ∧ c.byte 24 % 2 = 1))
    (hclear : s.spanTaken (c.num 16 2) (c.num 20 4) (c.num 18 2) = false) (hfree : (s.bed (c.num 16 2)).state = .free) :
    runBedDefine c s = done (s.modBed (c.num 16 2) (fun _ =>
      { state := .defined, mosi := decide (c.byte 24 % 2 = 1), vault := policyOf (c.byte 24 / 2 % 4),
        async := decide (c.byte 24 / 8 % 2 = 1), ways := BitVec.ofNat 3 (c.byte 25), gran := BitVec.ofNat 3 (c.byte 26),
        ripen := BitVec.ofNat 10 (c.num 28 2), base := BitVec.ofNat 20 (c.num 20 4), span := BitVec.ofNat 15 (c.num 18 2) })) := by
  have hin : ¬ (4095 < c.num 16 2 ∨ c.num 18 2 = 0 ∨ 16384 < c.num 18 2 ∨ 4 < c.byte 25 ∨ 6 < c.byte 26 ∨ c.num 28 2 = 0 ∨
      953 < c.num 28 2 ∨ c.byte 24 / 2 % 4 = 3 ∨ (c.byte 24 / 2 % 4 = 2 ∧ c.byte 24 % 2 = 0) ∨
      c.num 18 2 % 2 ^ c.byte 25 ≠ 0 ∨ 2 ^ 20 < c.num 20 4 + c.num 18 2) := by
    rw [hmul]
    omega
  simp only [runBedDefine, checks_cons, checks_nil, hin, hclear, hfree]
  rfl

theorem runBedUndefine_queued (hbed : c.num 16 2 ≤ 4095) (hdef : (s.bed (c.num 16 2)).state = .defined)
    (hunmapped : (s.bed (c.num 16 2)).mapCount = 0) (hnone : (s.bed (c.num 16 2)).exports = []) :
    runBedUndefine c s = queuedFor (.bedUndefine (c.num 16 2)) (releaseBed (c.num 16 2) s) := by
  simp [runBedUndefine, Nat.not_lt.mpr hbed, hdef, hunmapped, hnone]

/-- BED_SET_POLICY: the vault is scanned where the policy changes; a change of the ripening alone ends its job at once (R146, log 25). -/
theorem runBedSetPolicy_queued (hbed : c.num 16 2 ≤ 4095) (hcode : c.byte 18 ≤ 2) (hlow : 1 ≤ c.num 20 2) (hhigh : c.num 20 2 ≤ 953)
    (hmosi : c.byte 18 = 2 → (s.bed (c.num 16 2)).mosi = true) (hdef : (s.bed (c.num 16 2)).state = .defined)
    (hidle : (s.bed (c.num 16 2)).policyScan = []) :
    runBedSetPolicy c s = queuedFor (.policy (c.num 16 2)) (if policyOf (c.byte 18) = (s.bed (c.num 16 2)).vault then
        finishJob (.policy (c.num 16 2)) stDone [] (s.modBed (c.num 16 2) (fun x =>
          { x with vault := policyOf (c.byte 18), ripen := BitVec.ofNat 10 (c.num 20 2) }))
      else (s.modBed (c.num 16 2) (fun x =>
          { x with vault := policyOf (c.byte 18), ripen := BitVec.ofNat 10 (c.num 20 2) })).modBed (c.num 16 2)
        (fun x => { x with policyScan := List.range 8, policyStart := s.time.beats, policySets := 0 })) := by
  have hin : ¬ (4095 < c.num 16 2 ∨ 2 < c.byte 18 ∨ c.num 20 2 = 0 ∨ 953 < c.num 20 2 ∨
      (c.byte 18 = 2 ∧ (!(s.bed (c.num 16 2)).mosi) = true)) := by
    have hpossible : ¬ (c.byte 18 = 2 ∧ (!(s.bed (c.num 16 2)).mosi) = true) := fun ⟨h, hno⟩ => by simp [hmosi h] at hno
    simp only [hpossible, or_false]
    omega
  simp only [runBedSetPolicy, checks_cons, checks_nil, hin, hdef, hidle]
  by_cases hsame : policyOf (c.byte 18) = (s.bed (c.num 16 2)).vault
  · simp only [hsame, if_true]; rfl
  · simp only [hsame, if_false]; rfl

theorem runBedGrow_queued (hbed : c.num 16 2 ≤ 4095) (hdef : (s.bed (c.num 16 2)).state = .defined)
    (hidle : (s.bed (c.num 16 2)).resize = none)
    (hroom : (s.bed (c.num 16 2)).count.toNat + c.num 18 2 * 2 ^ (s.bed (c.num 16 2)).ways.toNat ≤ (s.bed (c.num 16 2)).span.toNat)
    (hjoin : ((s.bed (c.num 16 2)).joining (c.num 18 2)).all (fun i => decide ((s.extent i).state = .defined)) = true) :
    runBedGrow c s = queuedFor (.grow (c.num 16 2)) (forEach ((s.bed (c.num 16 2)).joining (c.num 18 2))
      (fun i t => t.modExtent i (fun e => if e.zeroed then e else { e with state := .zeroing, toBound := false }))
      (s.modBed (c.num 16 2) (fun x => { x with resize := some { grow := true, sets := c.num 18 2 } }))) := by
  have hready : ((s.bed (c.num 16 2)).joining (c.num 18 2)).any (fun i => decide ((s.extent i).state ≠ .defined)) = false := by
    simpa using hjoin
  simp only [runBedGrow, checks_cons, checks_nil, Nat.not_lt.mpr hbed, Nat.not_lt.mpr hroom, hdef, hidle, hready]
  rfl

/-- How a shrink begins (R87): the hosts whose accepted capacity it touches are asked, until a deadline. -/
def beginShrink (c : Command) (t : State) : State :=
  let b := t.bed (c.num 16 2)
  let n := b.count.toNat / 2 ^ b.ways.toNat
  let left := b.count.toNat - c.num 18 2 * 2 ^ b.ways.toNat
  let users := (t.bedUsers (c.num 16 2)).filter (fun q => (decide (512 ≤ q) && decide (0 < c.num 18 2)) || t.covers q (c.num 16 2) left)
  let limit := if c.num 24 4 = 0 then 1048576 else c.num 24 4
  bedCapacity (c.num 16 2) 1 (n - c.num 18 2) n left users (t.modBed (c.num 16 2) (fun x => { x with
    resize := some { grow := false, sets := c.num 18 2, force := decide (c.byte 20 % 2 = 1), deadline := t.tick + limit, waiting := users } }))

theorem runBedShrink_queued (hbed : c.num 16 2 ≤ 4095) (hdef : (s.bed (c.num 16 2)).state = .defined)
    (hidle : (s.bed (c.num 16 2)).resize = none)
    (hsets : c.num 18 2 ≤ (s.bed (c.num 16 2)).count.toNat / 2 ^ (s.bed (c.num 16 2)).ways.toNat)
    (hstill : ((s.bed (c.num 16 2)).leaving (c.num 18 2)).all (fun i => decide ((s.extent i).state ≠ .migrating)) = true) :
    runBedShrink c s = queuedFor (.shrink (c.num 16 2)) (beginShrink c s) := by
  have hnone : ((s.bed (c.num 16 2)).leaving (c.num 18 2)).any (fun i => decide ((s.extent i).state = .migrating)) = false := by
    simpa using hstill
  have hleave : ((s.bed (c.num 16 2)).extents ((s.bed (c.num 16 2)).count.toNat - c.num 18 2 * 2 ^ (s.bed (c.num 16 2)).ways.toNat)
      ((s.bed (c.num 16 2)).count.toNat - ((s.bed (c.num 16 2)).count.toNat - c.num 18 2 * 2 ^ (s.bed (c.num 16 2)).ways.toNat))).any
      (fun i => decide ((s.extent i).state = .migrating)) = false := hnone
  simp only [runBedShrink, checks_cons, checks_nil, Nat.not_lt.mpr hbed, Nat.not_lt.mpr hsets, hdef, hidle, hleave]
  rfl

theorem runBedExport_revoked (hbed : c.num 16 2 ≤ 4095) (hdev : c.byte 18 ≤ 15) (hdef : (s.bed (c.num 16 2)).state = .defined)
    (hrevoke : c.byte 19 % 2 = 1) (hunused : (s.bed (c.num 16 2)).remote.any (fun r => decide (r.1 = c.byte 18)) = false) :
    runBedExport c s = done (s.modBed (c.num 16 2) (fun x =>
      { x with exports := (s.bed (c.num 16 2)).exports.filter (· ≠ BitVec.ofNat 4 (c.byte 18)) })) := by
  have hin : ¬ (4095 < c.num 16 2 ∨ 15 < c.byte 18) := by omega
  simp only [runBedExport, checks_cons, checks_nil, hin, hdef, hrevoke, hunused]
  rfl

theorem runBedExport_permitted (hbed : c.num 16 2 ≤ 4095) (hdev : c.byte 18 ≤ 15) (hdef : (s.bed (c.num 16 2)).state = .defined)
    (hpermit : c.byte 19 % 2 = 0) (hnew : (s.bed (c.num 16 2)).exports.contains (BitVec.ofNat 4 (c.byte 18)) = false) :
    runBedExport c s = done (s.modBed (c.num 16 2) (fun x =>
      { x with exports := (s.bed (c.num 16 2)).exports ++ [BitVec.ofNat 4 (c.byte 18)] })) := by
  have hin : ¬ (4095 < c.num 16 2 ∨ 15 < c.byte 18) := by omega
  simp only [runBedExport, checks_cons, checks_nil, hin, hdef, hpermit, hnew]
  rfl

theorem runBedRead_done (hbed : c.num 16 2 ≤ 4095) :
    runBedRead c s = doneWith (bytesOf 32 256 (BitVec.ofNat 256 (s.bed (c.num 16 2)).image)) s := by
  simp [runBedRead, Nat.not_lt.mpr hbed]

end BedCommands

section ExtentCommands

variable {s : State} {c : Command}

/-- Where the capacity of an EXTENT_DEFINE lies (R78). -/
def Command.place (c : Command) : Place :=
  { port := BitVec.ofNat 7 (c.byte 20), ld := BitVec.ofNat 4 (c.byte 21), dpaBase := BitVec.ofNat 20 (c.num 24 4) }

theorem runExtentDefine_queued (hext : c.num 16 4 < 2 ^ 20) (hport : c.byte 20 ≤ 127) (hld : c.byte 21 ≤ 15)
    (hdpa : c.num 24 4 < 2 ^ 20) (hdown : (s.port (c.byte 20)).downstream = true)
    (hbound : s.ldBound (c.byte 20) (c.byte 21) = false) (hfree : (s.extent (c.num 16 4)).state = .free)
    (hidle : Tab.find s.pool.defining (c.num 16 4) = none) (hcap : s.capacityHas c.place = true)
    (hdecoder : (Tab.find (s.port (c.byte 20)).decoder0 (c.byte 21)).isSome = true) :
    runExtentDefine c s = queuedFor (.extentDefine (c.num 16 4))
      (s.modPool (fun x => { x with defining := Tab.put x.defining (c.num 16 4) (c.place, s.tick) })) := by
  have hin : ¬ (2 ^ 20 ≤ c.num 16 4 ∨ 127 < c.byte 20 ∨ 15 < c.byte 21 ∨ 2 ^ 20 ≤ c.num 24 4) := by omega
  have hprogrammed : (Tab.find (s.port (c.byte 20)).decoder0 (c.byte 21)).isNone = false := by
    rw [Option.isNone_eq_false_iff]
    exact hdecoder
  simp only [Command.place] at hcap
  simp only [runExtentDefine, checks_cons, checks_nil, hin, hdown, hbound, hfree, hidle, hcap, hprogrammed]
  rfl

theorem runExtentUndefine_done (hext : c.num 16 4 < 2 ^ 20) (hdef : (s.extent (c.num 16 4)).state = .defined)
    (htarget : s.migTarget (c.num 16 4) = false) (hgrow : s.growing (c.num 16 4) = false) :
    runExtentUndefine c s = done (s.modExtent (c.num 16 4) (fun _ => {})) := by
  simp only [runExtentUndefine, checks_cons, checks_nil, Nat.not_le.mpr hext, hdef, htarget, hgrow]
  rfl

theorem runExtentClearFailed_queued (hext : c.num 16 4 < 2 ^ 20) (hfailed : (s.extent (c.num 16 4)).state = .failed) :
    runExtentClearFailed c s = queuedFor (.extentClear (c.num 16 4))
      (s.modExtent (c.num 16 4) (fun e => { e with state := .zeroing, zeroed := false, toBound := s.inBed (c.num 16 4) })) := by
  have hin : ¬ (2 ^ 20 ≤ c.num 16 4 ∨ (s.extent (c.num 16 4)).state ≠ .failed) := by
    rw [hfailed]
    simpa using hext
  simp only [runExtentClearFailed, checks_cons, checks_nil, hin]
  rfl

theorem runExtentRead_done (hext : c.num 16 4 < 2 ^ 20) :
    runExtentRead c s = doneWith (bytesOf 16 128 (BitVec.ofNat 128 (s.extent (c.num 16 4)).image)) s := by
  simp only [runExtentRead, checks_cons, checks_nil, Nat.not_le.mpr hext]
  rfl

/-- An index that the table of extents does not have is refused (R78). -/
theorem runExtentRead_refused (hext : 2 ^ 20 ≤ c.num 16 4) : runExtentRead c s = refuse stInvalidParam s := by
  simp only [runExtentRead, checks_cons, checks_nil, hext, decide_true, if_true]

end ExtentCommands

/-! How `exec` answers the bed and extent commands that are QUEUED. -/

section BedAndExtentEnds

variable {s : State} {i : Instr} {op ring : Nat}

/-- A command that reads the pool and the ports alone is QUEUED with the work that it makes of any state with the same two. -/
theorem exec_isQueued_pool {k : JobKind} {f : State → State} (hcmd : i.command = some (op, ring)) (hpass : s.passes op ring = true)
    (hrow : (opInfo op).map (fun o => (o.guarded, o.ends)) = some (false, .queued)) (hother : op ≠ 0x0D01)
    (hrun : ∀ t : State, t.pool = s.pool → t.ports = s.ports → runOp (s.front ring) t = queuedFor k (f t)) :
    exec i s = s.isQueued ring k f :=
  exec_isQueued hcmd hpass hrow hother
    (congrArg Prod.fst (hrun _ (State.taken_pool s ring) (State.taken_ports s ring)))
    (congrArg Prod.snd (hrun _ (State.noted_pool s ring k) (State.noted_ports s ring k)))

/-- A command that ends at once with a refusal. -/
theorem exec_endsRefused {n : Nat} {t : State} (hcmd : i.command = some (op, ring)) (hpass : s.passes op ring = true)
    (hrow : (opInfo op).map (fun o => (o.guarded, o.ends)) = some (false, .imm))
    (hrun : runOp (s.front ring) (s.taken ring) = refuse n t) : exec i s = s.endsWith ring n [] t := by
  obtain ⟨o, hinfo, hguard, hends, hother, hexec⟩ := exec_unguarded hcmd hpass hrow (by decide)
  exact hexec.trans (tellerCommand_ends hpass hinfo hguard (.inl hends) hother hrun)

theorem exec_bedUndefine (hpass : s.passes 0x0302 ring = true) (hbed : (s.front ring).num 16 2 ≤ 4095)
    (hdef : (s.bed ((s.front ring).num 16 2)).state = .defined) (hunmapped : (s.bed ((s.front ring).num 16 2)).mapCount = 0)
    (hnone : (s.bed ((s.front ring).num 16 2)).exports = []) :
    exec (.bedUndefine ring) s =
      s.isQueued ring (.bedUndefine ((s.front ring).num 16 2)) (releaseBed ((s.front ring).num 16 2)) :=
  exec_isQueued_pool rfl hpass rfl (by decide) fun t hpool _ => (runOp_BedUndefine (State.passes_opcode hpass)).trans
    (runBedUndefine_queued hbed (by simpa [State.bed, hpool] using hdef) (by simpa [State.bed, hpool] using hunmapped)
      (by simpa [State.bed, hpool] using hnone))

theorem exec_bedSetPolicy (hpass : s.passes 0x0303 ring = true) (hbed : (s.front ring).num 16 2 ≤ 4095)
    (hcode : (s.front ring).byte 18 ≤ 2) (hlow : 1 ≤ (s.front ring).num 20 2) (hhigh : (s.front ring).num 20 2 ≤ 953)
    (hmosi : (s.front ring).byte 18 = 2 → ((s.taken ring).bed ((s.front ring).num 16 2)).mosi = true)
    (hdef : ((s.taken ring).bed ((s.front ring).num 16 2)).state = .defined)
    (hidle : ((s.taken ring).bed ((s.front ring).num 16 2)).policyScan = []) :
    exec (.bedSetPolicy ring) s = s.isQueuedForBoundary ring := by
  have hop := State.passes_opcode hpass
  have hrecords : (s.taken ring).recordsPlot (s.front ring) = false := by simp [State.recordsPlot_eq, hop]
  exact exec_isQueuedForBoundary rfl hpass rfl hrecords
    ((runOp_BedSetPolicy hop).trans (runBedSetPolicy_queued hbed hcode hlow hhigh hmosi hdef hidle))

theorem exec_bedShrink (hpass : s.passes 0x0305 ring = true) (hbed : (s.front ring).num 16 2 ≤ 4095)
    (hdef : (s.bed ((s.front ring).num 16 2)).state = .defined) (hidle : (s.bed ((s.front ring).num 16 2)).resize = none)
    (hsets : (s.front ring).num 18 2 ≤
      (s.bed ((s.front ring).num 16 2)).count.toNat / 2 ^ (s.bed ((s.front ring).num 16 2)).ways.toNat)
    (hstill : ((s.bed ((s.front ring).num 16 2)).leaving ((s.front ring).num 18 2)).all
      (fun i => decide ((s.extent i).state ≠ .migrating)) = true) :
    exec (.bedShrink ring) s = s.isQueued ring (.shrink ((s.front ring).num 16 2)) (beginShrink (s.front ring)) :=
  exec_isQueued_pool rfl hpass rfl (by decide) fun t hpool _ => by
    have hsame : t.bed ((s.front ring).num 16 2) = s.bed ((s.front ring).num 16 2) := by simp [State.bed, hpool]
    have hextents : t.extent = s.extent := by funext x; simp [State.extent, hpool]
    exact (runOp_BedShrink (State.passes_opcode hpass)).trans
      (runBedShrink_queued hbed (hsame ▸ hdef) (hsame ▸ hidle) (hsame ▸ hsets) (hsame ▸ hextents ▸ hstill))

theorem exec_extentDefine (hpass : s.passes 0x0308 ring = true) (hext : (s.front ring).num 16 4 < 2 ^ 20)
    (hport : (s.front ring).byte 20 ≤ 127) (hld : (s.front ring).byte 21 ≤ 15) (hdpa : (s.front ring).num 24 4 < 2 ^ 20)
    (hdown : (s.port ((s.front ring).byte 20)).downstream = true)
    (hbound : s.ldBound ((s.front ring).byte 20) ((s.front ring).byte 21) = false)
    (hfree : (s.extent ((s.front ring).num 16 4)).state = .free)
    (hidle : Tab.find s.pool.defining ((s.front ring).num 16 4) = none) (hcap : s.capacityHas (s.front ring).place = true)
    (hdecoder : (Tab.find (s.port ((s.front ring).byte 20)).decoder0 ((s.front ring).byte 21)).isSome = true) :
    exec (.extentDefine ring) s = s.isQueued ring (.extentDefine ((s.front ring).num 16 4)) (fun t => t.modPool (fun x =>
      { x with defining := Tab.put x.defining ((s.front ring).num 16 4) ((s.front ring).place, t.tick) })) :=
  exec_isQueued_pool rfl hpass rfl (by decide) fun t hpool hports => by
    have hsame (x : Nat) : t.port x = s.port x := by simp [State.port, hports]
    exact (runOp_ExtentDefine (State.passes_opcode hpass)).trans
      (runExtentDefine_queued hext hport hld hdpa (hsame _ ▸ hdown) (by simpa [State.ldBound, hports] using hbound)
        (by simpa [State.extent, hpool] using hfree) (hpool ▸ hidle) (by simpa [State.capacityHas, hsame] using hcap)
        (hsame _ ▸ hdecoder))

theorem exec_extentUndefine (hpass : s.passes 0x0309 ring = true) (hext : (s.front ring).num 16 4 < 2 ^ 20)
    (hdef : ((s.taken ring).extent ((s.front ring).num 16 4)).state = .defined)
    (htarget : (s.taken ring).migTarget ((s.front ring).num 16 4) = false)
    (hgrow : (s.taken ring).growing ((s.front ring).num 16 4) = false) :
    exec (.extentUndefine ring) s = s.waitsForBoundary ring :=
  exec_waitsForBoundary rfl hpass rfl
    ((runOp_ExtentUndefine (State.passes_opcode hpass)).trans (runExtentUndefine_done hext hdef htarget hgrow))

theorem exec_extentClearFailed (hpass : s.passes 0x030A ring = true) (hext : (s.front ring).num 16 4 < 2 ^ 20)
    (hfailed : (s.extent ((s.front ring).num 16 4)).state = .failed) :
    exec (.extentClearFailed ring) s = s.isQueued ring (.extentClear ((s.front ring).num 16 4))
      (fun t => t.modExtent ((s.front ring).num 16 4) (fun e =>
        { e with state := .zeroing, zeroed := false, toBound := t.inBed ((s.front ring).num 16 4) })) :=
  exec_isQueued_pool rfl hpass rfl (by decide) fun t hpool _ => (runOp_ExtentClearFailed (State.passes_opcode hpass)).trans
    (runExtentClearFailed_queued hext (by simpa [State.extent, hpool] using hfailed))

end BedAndExtentEnds

/-- Settles O40: each command by the end that the catalogue names for it and by what its run does. -/
theorem bedAndExtentCommandsRun : Obligations.BedAndExtentCommandsRun := by
  refine ⟨fun _ _ hpass => exec_isStaged rfl hpass rfl, ?define, ?undefine, ?policyQueued, ?policy,
    fun _ _ hpass => exec_isStaged rfl hpass rfl, ?grow, ?shrink, fun _ _ hpass => exec_isStaged rfl hpass rfl, ?revoke, ?permit,
    ?bedRead, ?extentDefine, ?extentUndefineWaits, ?extentUndefine, ?clear, ?extentRead, ?refused⟩
  case define =>
    exact fun u c hop hbed ⟨hlow, hhigh, htop⟩ ⟨hways, hgran, hmul⟩ hripen hpolicy hclear hfree =>
      (runOp_BedDefine hop).trans (runBedDefine_done hbed ⟨hlow, hhigh⟩ htop hways hgran hmul hripen hpolicy hclear hfree)
  case undefine =>
    rintro s c ring hpass rfl hbed ⟨hdef, hunmapped, hnone⟩
    exact exec_bedUndefine hpass hbed hdef hunmapped hnone
  case policyQueued =>
    rintro s u c ring hpass rfl rfl ⟨hbed, hcode, hlow, hhigh⟩ hmosi ⟨hdef, hidle⟩
    exact exec_bedSetPolicy hpass hbed hcode hlow hhigh hmosi hdef hidle
  case policy =>
    exact fun u c hop ⟨hbed, hcode, hlow, hhigh⟩ hmosi ⟨hdef, hidle⟩ =>
      (runOp_BedSetPolicy hop).trans (runBedSetPolicy_queued hbed hcode hlow hhigh hmosi hdef hidle)
  case grow =>
    exact fun u c hop hbed ⟨hdef, hidle⟩ hroom hjoin =>
      (runOp_BedGrow hop).trans (runBedGrow_queued hbed hdef hidle hroom hjoin)
  case shrink =>
    rintro s c ring hpass rfl hbed ⟨hdef, hidle⟩ hsets hstill
    exact exec_bedShrink hpass hbed hdef hidle hsets hstill
  case revoke =>
    exact fun u c hop ⟨hbed, hdev⟩ hdef hrevoke hunused =>
      (runOp_BedExport hop).trans (runBedExport_revoked hbed hdev hdef hrevoke hunused)
  case permit =>
    exact fun u c hop ⟨hbed, hdev⟩ hdef hpermit hnew =>
      (runOp_BedExport hop).trans (runBedExport_permitted hbed hdev hdef hpermit hnew)
  case bedRead =>
    rintro s u c ring hpass rfl rfl hbed
    exact exec_endsDone rfl hpass rfl ((runOp_BedRead (State.passes_opcode hpass)).trans (runBedRead_done hbed))
  case extentDefine =>
    rintro s c ring hpass rfl ⟨hext, hport, hld, hdpa⟩ hdown hbound ⟨hfree, hidle⟩ ⟨hcap, hdecoder⟩
    exact exec_extentDefine hpass hext hport hld hdpa hdown hbound hfree hidle hcap hdecoder
  case extentUndefineWaits =>
    rintro s u c ring hpass rfl rfl hext ⟨hdef, htarget, hgrow⟩
    exact exec_extentUndefine hpass hext hdef htarget hgrow
  case extentUndefine =>
    exact fun u c hop hext ⟨hdef, htarget, hgrow⟩ =>
      (runOp_ExtentUndefine hop).trans (runExtentUndefine_done hext hdef htarget hgrow)
  case clear => rintro s c ring hpass rfl hext hfailed; exact exec_extentClearFailed hpass hext hfailed
  case extentRead =>
    rintro s u c ring hpass rfl rfl hext
    exact exec_endsDone rfl hpass rfl ((runOp_ExtentRead (State.passes_opcode hpass)).trans (runExtentRead_done hext))
  case refused =>
    rintro s u c ring hpass rfl rfl hext
    exact exec_endsRefused rfl hpass rfl ((runOp_ExtentRead (State.passes_opcode hpass)).trans (runExtentRead_refused hext))

/-! The device commands (R384 to R388): what each does once its operands are in range. -/

section DeviceCommands

variable {s : State} {c : Command} {ring : Nat}

theorem runDevReset_done (hlow : 1 ≤ c.byte 16) (hhigh : c.byte 16 ≤ 3)
    (hidle : s.hasJob (fun k => decide (k = .mode ∨ k = .modeRecord)) = false) :
    runDevReset c s = done (s.modDev (fun d =>
      { d with resetDue := some (if c.byte 16 = 1 then .warm else if c.byte 16 = 2 then .fabric else .steward) })) := by
  have hin : ¬ (c.byte 16 < 1 ∨ 3 < c.byte 16) := by omega
  simp only [runDevReset, checks_cons, checks_nil, hin, hidle]
  rfl

theorem runDevSetNumber_done (hnumber : c.byte 16 ≤ 15) (halone : s.pair.state = .unpaired)
    (hdown : s.trunks.trunk.any (fun e => decide (e.2.state ≠ .down ∧ e.2.state ≠ .broken)) = false) :
    runDevSetNumber c s = done ((s.modDev (fun d => { d with number := BitVec.ofNat 4 (c.byte 16) })).modRecords
      (fun r => { r with number := BitVec.ofNat 4 (c.byte 16) })) := by
  simp only [runDevSetNumber, checks_cons, checks_nil, Nat.not_lt.mpr hnumber, halone, hdown]
  rfl

/-- Where no check of a list applies, the command goes on. -/
theorem checks_none {l : List (Bool × Nat)} {go : State → Ran} (h : l.all (fun x => !x.1) = true) : checks l s go = go s := by
  have hnone : l.find? (·.1) = none := by simpa [List.find?_eq_none] using h
  simp only [checks, hnone]

/-- How a change of mode begins (R385, R485). -/
def beginMode (m : Mode) (t : State) : State :=
  if m = .dormant then startDormant t else t.modDev (fun d => { d with transition := some { target := m, started := t.tick } })

/-- DEV_SET_MODE to a mode that the device may take, from a ring of software (R385). -/
theorem runDevSetMode_queued {m : Mode} (hring : c.ring ≠ 15) (hcode : modeOfCode (c.byte 16) = some m) (hsprout : m ≠ .sprout)
    (hshadow : m ≠ .shadow) (hnew : m ≠ s.dev.mode) (hstill : s.dev.transition = none) (hawake : s.dev.dormantDue = false)
    (hmay : (modeRefusal m s).all (fun x => !x.1) = true) : runDevSetMode c s = queuedFor .mode (beginMode m s) := by
  simp only [runDevSetMode, hcode, if_neg hring, hsprout, hshadow, hstill, hawake, hnew, checks_none hmay]
  rfl

/-- The checks on a change of mode read the device, its records, its pair and its pool. -/
theorem modeRefusal_congr {m : Mode} {t : State} (hdev : t.dev = s.dev) (hrecords : t.records = s.records) (hpair : t.pair = s.pair)
    (hpool : t.pool = s.pool) : modeRefusal m t = modeRefusal m s := by
  simp only [modeRefusal, hdev, hrecords, hpair, hpool]

theorem exec_devSetMode {m : Mode} (hpass : s.passes 0x0103 ring = true) (hring : ring ≠ 15)
    (hcode : modeOfCode ((s.front ring).byte 16) = some m) (hsprout : m ≠ .sprout) (hshadow : m ≠ .shadow) (hnew : m ≠ s.dev.mode)
    (hstill : s.dev.transition = none) (hawake : s.dev.dormantDue = false) (hmay : (modeRefusal m s).all (fun x => !x.1) = true) :
    exec (.devSetMode ring) s = s.isQueued ring .mode (beginMode m) := by
  have hrun (t : State) (hdev : t.dev = s.dev) (hrefusal : modeRefusal m t = modeRefusal m s) :
      runOp (s.front ring) t = queuedFor .mode (beginMode m t) :=
    (runOp_DevSetMode (State.passes_opcode hpass)).trans (runDevSetMode_queued (by simpa using hring) hcode hsprout hshadow
      (hdev ▸ hnew) (hdev ▸ hstill) (hdev ▸ hawake) (hrefusal ▸ hmay))
  exact exec_isQueued rfl hpass rfl (by decide)
    (congrArg Prod.fst (hrun _ (by simp) (modeRefusal_congr (by simp) (by simp) (by simp) (by simp))))
    (congrArg Prod.snd (hrun _ (by simp) (modeRefusal_congr (by simp) (by simp) (by simp) (by simp))))

end DeviceCommands

/-- Each command of a table of guarded rows becomes a proposal where it passes (R368). -/
theorem stagedRows {s : State} {ring : Nat} {rows : List (Nat × (Nat → Instr))}
    (hrows : ∀ x ∈ rows, (x.2 ring).command = some (x.1, ring) ∧ (opInfo x.1).map (fun o => o.guarded) = some true) :
    ∀ o i, (o, i) ∈ rows → s.passes o ring = true → exec (i ring) s = s.isStaged ring :=
  fun o i hmem hpass => exec_isStaged (hrows (o, i) hmem).1 hpass (hrows (o, i) hmem).2

/-- Settles O1: each row by the end that the catalogue names for it and by what its run finds. -/
theorem plotBedAndDeviceCommandsComplete : Obligations.PlotBedAndDeviceCommandsComplete := by
  rintro s u c ring n b e m rfl rfl rfl rfl rfl
  have hop {op : Nat} : s.passes op ring = true → (s.front ring).opcode.toNat = op := State.passes_opcode
  simp only [commandRows_cons, commandRows_nil, and_true]
  refine ⟨stagedRows fun x hx => by fin_cases hx <;> exact ⟨rfl, rfl⟩,
    ⟨fun hconf hpass => exec_plotEnable_waits hpass hconf, fun hconf hpass => exec_plotReset_waits hpass hconf, ?undefineExtent⟩,
    ⟨?identify, ?status, ?reset, ?number, ?qos, ?plotRead, ?bedRead, ?extentRead⟩,
    ⟨?mode, ?undefineBed, ?shrink, ?defineExtent, ?clear⟩,
    fun hactive hpass => exec_plotDisable_queued hpass hactive, ?policy⟩
  case undefineExtent =>
    exact fun ⟨hext, hdef, htarget, hgrow⟩ hpass => exec_extentUndefine hpass hext hdef htarget hgrow
  case identify => exact fun _ hpass => ⟨_, _, exec_endsDone rfl hpass rfl (runOp_DevIdentify (hop hpass))⟩
  case status => exact fun _ hpass => ⟨_, _, exec_endsDone rfl hpass rfl (runOp_DevStatus (hop hpass))⟩
  case reset =>
    rintro ⟨hlow, hhigh, hidle⟩ hpass
    have hrun := runDevReset_done (s := s.taken ring) hlow hhigh (by simpa [State.hasJob] using hidle)
    exact ⟨_, _, exec_endsDone rfl hpass rfl ((runOp_DevReset (hop hpass)).trans hrun)⟩
  case number =>
    rintro ⟨hnumber, halone, hdown⟩ hpass
    have hrun := runDevSetNumber_done (s := s.taken ring) hnumber (by simpa using halone) (by simpa using hdown)
    exact ⟨_, _, exec_endsDone rfl hpass rfl ((runOp_DevSetNumber (hop hpass)).trans hrun)⟩
  case qos =>
    exact fun ⟨hread, hwrite, hlow, hhigh, hweight, hstill, hused⟩ hpass =>
      ⟨_, _, exec_plotSetQos hpass hread hwrite hlow hhigh hweight hstill hused⟩
  case plotRead => exact fun _ hpass => ⟨_, _, exec_plotRead hpass⟩
  case bedRead =>
    exact fun hbed hpass => ⟨_, _, exec_endsDone rfl hpass rfl ((runOp_BedRead (hop hpass)).trans (runBedRead_done hbed))⟩
  case extentRead =>
    exact fun hext hpass => ⟨_, _, exec_endsDone rfl hpass rfl ((runOp_ExtentRead (hop hpass)).trans (runExtentRead_done hext))⟩
  case mode =>
    exact fun ⟨hring, hcode, hsprout, hshadow, hnew, hstill, hawake, hmay⟩ hpass =>
      ⟨_, _, exec_devSetMode hpass hring hcode hsprout hshadow hnew hstill hawake hmay⟩
  case undefineBed =>
    exact fun ⟨hbed, hdef, hunmapped, hnone⟩ hpass => ⟨_, _, exec_bedUndefine hpass hbed hdef hunmapped hnone⟩
  case shrink =>
    exact fun ⟨hbed, hdef, hidle, hsets, hstill⟩ hpass => ⟨_, _, exec_bedShrink hpass hbed hdef hidle hsets hstill⟩
  case defineExtent =>
    exact fun ⟨hext, hport, hld, hdpa, hdown, hbound, hfree, hidle, hcap, hdecoder⟩ hpass =>
      ⟨_, _, exec_extentDefine hpass hext hport hld hdpa hdown hbound hfree hidle hcap hdecoder⟩
  case clear => exact fun ⟨hext, hfailed⟩ hpass => ⟨_, _, exec_extentClearFailed hpass hext hfailed⟩
  case policy =>
    exact fun ⟨hbed, hcode, hlow, hhigh⟩ hmosi ⟨hdef, hidle⟩ hpass =>
      exec_bedSetPolicy hpass hbed hcode hlow hhigh hmosi hdef hidle

/-! The port, lane and trunk commands (R187, R217, R223, R250 to R253, R261, R272, R281, R291): what each does once its operands are in
range. -/

section PortCommands

variable {s : State} {c : Command}

theorem runPortSetLink_done (hport : c.byte 16 ≤ 127) (hrate : c.byte 17 ≤ 6) :
    runPortSetLink c s = done (toRecovery (c.byte 16) (s.modPort (c.byte 16) (fun p => p.withEntry
      { p.entry with maxRate := BitVec.ofNat 3 (c.byte 17), cxl128 := decide (c.byte 18 % 2 = 1), l0p := decide (c.byte 18 / 2 % 2 = 1) }
      true))) := by
  have hin : ¬ (127 < c.byte 16 ∨ 6 < c.byte 17) := by omega
  simp only [runPortSetLink, checks_cons, checks_nil, hin]
  rfl

theorem runPortRetrain_done (hport : c.byte 16 ≤ 127) :
    runPortRetrain c s = done (toRecovery (c.byte 16) (s.modPort (c.byte 16) (fun p =>
      { p with ltssm := if p.ltssm = .disabled then .detect else p.ltssm }))) := by
  simp only [runPortRetrain, checks_cons, checks_nil, Nat.not_lt.mpr hport]
  rfl

/-- A port's store of IDE keys after a PORT_SET_IDE_KEY (R217). -/
def ideStoreOf (c : Command) (p : Port) : Tab (BitVec 352) :=
  Tab.put p.ideStore (4 * c.blk 1 1 + 2 * c.blk 2 1 + c.blk 3 1) (BitVec.ofNat 352 (c.blk 8 44))

theorem runPortSetIdeKey_done (hport : c.blk 0 1 ≤ 127) (hstream : c.blk 1 1 ≤ 1) (hdir : c.blk 2 1 ≤ 1) (hset : c.blk 3 1 ≤ 1)
    (hup : (s.port (c.blk 0 1)).upstream = true) :
    runPortSetIdeKey c s = done (s.modPort (c.blk 0 1) (fun p =>
      { p with ideStore := ideStoreOf c p, ide := ideCode (ideStoreOf c p) })) := by
  have hin : ¬ (127 < c.blk 0 1 ∨ 1 < c.blk 1 1 ∨ 1 < c.blk 2 1 ∨ 1 < c.blk 3 1) := by omega
  simp only [runPortSetIdeKey, checks_cons, checks_nil, hin, hup]
  rfl

theorem runPortSetLoadThresholds_done (h1 : 1 ≤ c.num 18 2) (h2 : c.num 18 2 < c.num 20 2) (h3 : c.num 20 2 < c.num 22 2)
    (hhigh : c.num 22 2 ≤ 4095) :
    runPortSetLoadThresholds c s = done (forEach ((List.range 128).filter (fun p => (c.num 24 16).testBit p))
      (fun p t => t.modPort p (fun x => { x with t1 := c.num 18 2, t2 := c.num 20 2, t3 := c.num 22 2 })) s) := by
  have hin : 1 ≤ c.num 18 2 ∧ c.num 18 2 < c.num 20 2 ∧ c.num 20 2 < c.num 22 2 ∧ c.num 22 2 ≤ 4095 := ⟨h1, h2, h3, hhigh⟩
  simp only [runPortSetLoadThresholds, checks_cons, checks_nil, hin]
  rfl

theorem runPortRead_done (hport : c.byte 16 ≤ 127) :
    runPortRead c s = doneWith (bytesOf 8 64 (BitVec.ofNat 64 (s.port (c.byte 16)).entry.image)) s := by
  simp only [runPortRead, checks_cons, checks_nil, Nat.not_lt.mpr hport]
  rfl

theorem runPortStatus_done (hport : c.byte 16 ≤ 127) :
    runPortStatus c s = doneWith (bytesOf 16 128 (BitVec.ofNat 128 (s.shownPort (c.byte 16)).status)) s := by
  simp only [runPortStatus, checks_cons, checks_nil, Nat.not_lt.mpr hport]
  rfl

theorem runPortPrepareRemoval_queued (hport : c.byte 16 ≤ 127) (hdown : (s.port (c.byte 16)).downstream = true)
    (hidle : s.removalBusy (c.byte 16) = false) :
    runPortPrepareRemoval c s = queuedFor (.removal (c.byte 16))
      (if (s.port (c.byte 16)).entry.slotValid && (s.chCopy (s.port (c.byte 16)).entry.slot.toNat).powered then removePort (c.byte 16) s
        else finishJob (.removal (c.byte 16)) stDone [] (removePort (c.byte 16) s)) := by
  simp only [runPortPrepareRemoval, checks_cons, checks_nil, Nat.not_lt.mpr hport, hdown, hidle]
  rfl

end PortCommands

section LaneCommands

variable {s : State} {c : Command}

theorem runLaneSet_done
    (hpreset : bitsOf (BitVec.ofNat 64 (c.num 16 8)) 43 40 ≤ 10 ∨ bitsOf (BitVec.ofNat 64 (c.num 16 8)) 43 40 = 15)
    (hmode : bitsOf (BitVec.ofNat 64 (c.num 16 8)) 36 35 ≠ 3)
    (hidle : bitsOf (BitVec.ofNat 64 (c.num 16 8)) 34 32 ≤ 4 ∨ bitsOf (BitVec.ofNat 64 (c.num 16 8)) 34 32 = 7)
    (hlos : bitsOf (BitVec.ofNat 64 (c.num 16 8)) 31 24 ≠ 0) (hlol : bitsOf (BitVec.ofNat 64 (c.num 16 8)) 19 16 ≠ 0)
    (hzero : bitsOf (BitVec.ofNat 64 (c.num 16 8)) 14 0 = 0) :
    runLaneSet c s = done (forEach c.lanes (fun i t => t.modLane i (fun l => l.withImage (BitVec.ofNat 64 (c.num 16 8)))) s) := by
  have hin : ¬ ((10 < bitsOf (BitVec.ofNat 64 (c.num 16 8)) 43 40 ∧ bitsOf (BitVec.ofNat 64 (c.num 16 8)) 43 40 ≠ 15) ∨
      bitsOf (BitVec.ofNat 64 (c.num 16 8)) 36 35 = 3 ∨
      (4 < bitsOf (BitVec.ofNat 64 (c.num 16 8)) 34 32 ∧ bitsOf (BitVec.ofNat 64 (c.num 16 8)) 34 32 ≠ 7) ∨
      bitsOf (BitVec.ofNat 64 (c.num 16 8)) 31 24 = 0 ∨ bitsOf (BitVec.ofNat 64 (c.num 16 8)) 19 16 = 0 ∨
      bitsOf (BitVec.ofNat 64 (c.num 16 8)) 14 0 ≠ 0) := by omega
  simp only [runLaneSet, checks_cons, checks_nil, hin]
  rfl

/-- A lane's loop is set (R250); its port, where the lane is looped, leaves L0 with the lane's scan. -/
def setLoop (loop i : Nat) (t : State) : State :=
  let t1 := t.modLane i (fun l => { l with loop := BitVec.ofNat 3 loop })
  if loop = 0 then t1 else match t.portOfLane i with
    | some p => portLeavesL0 p (abortScan i t1)
    | none => t1

theorem runLaneSetLoop_done (hloop : c.byte 16 ≤ 3) : runLaneSetLoop c s = done (forEach c.lanes (setLoop (c.byte 16)) s) := by
  simp only [runLaneSetLoop, checks_cons, checks_nil, Nat.not_lt.mpr hloop]
  rfl

theorem runLanePrbs_done (hgen : c.byte 17 ≤ 4) (hchk : c.byte 18 ≤ 4) :
    runLanePrbs c s = doneWith (bytesOf 8 64 (if c.byte 18 = 0 then 0 else s.now)) (s.modLane (c.byte 16) (fun l =>
      { l with prbsGen := BitVec.ofNat 4 (c.byte 17), prbsChk := BitVec.ofNat 4 (c.byte 18), prbsLock := false,
               prbsErrors := if c.byte 18 = 0 then l.prbsErrors else 0 })) := by
  have hin : ¬ (4 < c.byte 17 ∨ 4 < c.byte 18) := by omega
  simp only [runLanePrbs, checks_cons, checks_nil, hin]
  rfl

theorem runLaneEyeScan_queued (hlow : 16 ≤ c.byte 17) (hhigh : c.byte 17 ≤ 30) (hup : s.laneInL0 (c.byte 16) = true)
    (hidle : (s.lane (c.byte 16)).marginStatus ≠ 3) (hnone : (s.lane (c.byte 16)).scanWaits = none)
    (hfree : (s.lane (c.byte 16)).margining = false) :
    runLaneEyeScan c s = queuedFor (.eyeScan (c.byte 16)) (startScan (c.byte 16) (c.byte 17) false s) := by
  have hin : ¬ (c.byte 17 < 16 ∨ 30 < c.byte 17) := by omega
  simp only [runLaneEyeScan, checks_cons, checks_nil, hin, hup, beq_false_of_ne hidle, hnone, hfree, hidle]
  rfl

end LaneCommands

section TrunkCommands

variable {s : State} {c : Command}

theorem State.notTrunk_of_isTrunk {port : Nat} (hport : port ≤ 127) (htrunk : (s.port port).isTrunk = true) :
    s.notTrunk port = false := by
  simp [State.notTrunk, Nat.not_lt.mpr hport, htrunk]

theorem runTrunkSet_done (htrunk : s.notTrunk (c.byte 16) = false) (hlow : 10 ≤ (trunkEntryOf (c.num 24 8)).leakPct.toNat)
    (hhigh : (trunkEntryOf (c.num 24 8)).leakPct.toNat ≤ 90) (hhold : 4 ≤ (trunkEntryOf (c.num 24 8)).holdoff.toNat)
    (hrate : (trunkEntryOf (c.num 24 8)).maxRate ≠ 3) :
    runTrunkSet c s = done (setTrunkEntry (c.byte 16 / 8) (trunkEntryOf (c.num 24 8)) s) := by
  have hin : ¬ ((trunkEntryOf (c.num 24 8)).leakPct.toNat < 10 ∨ 90 < (trunkEntryOf (c.num 24 8)).leakPct.toNat ∨
      (trunkEntryOf (c.num 24 8)).holdoff.toNat < 4 ∨ (trunkEntryOf (c.num 24 8)).maxRate = 3) := by
    simp only [hrate, or_false]
    omega
  simp only [runTrunkSet, checks_cons, checks_nil, htrunk, hin]
  rfl

theorem runTrunkRead_done (htrunk : s.notTrunk (c.byte 16) = false) :
    runTrunkRead c s = doneWith (bytesOf 8 64 (BitVec.ofNat 64 (s.trunk (c.byte 16 / 8)).lastEntry.image) ++
      (List.range 16).map (fun d => BitVec.ofNat 8 (Tab.get s.trunks.route {} d).image)) s := by
  simp only [runTrunkRead, checks_cons, checks_nil, htrunk]
  rfl

theorem runTrunkStatus_done (htrunk : s.notTrunk (c.byte 16) = false) :
    runTrunkStatus c s = doneWith (bytesOf 16 128 (BitVec.ofNat 128 (s.trunk (c.byte 16 / 8)).status)) s := by
  simp only [runTrunkStatus, checks_cons, checks_nil, htrunk]
  rfl

theorem runTrunkRestart_done (htrunk : s.notTrunk (c.byte 16) = false)
    (hdown : (s.trunk (c.byte 16 / 8)).state = .broken ∨ (s.trunk (c.byte 16 / 8)).state = .down) :
    runTrunkRestart c s = done (startHello (c.byte 16 / 8) s) := by
  have hin : ¬ ((s.trunk (c.byte 16 / 8)).state ≠ .broken ∧ (s.trunk (c.byte 16 / 8)).state ≠ .down) :=
    fun ⟨hbroken, hnot⟩ => hdown.elim hbroken hnot
  simp only [runTrunkRestart, checks_cons, checks_nil, htrunk, hin]
  rfl

/-- The eight buffer sizes of a TRUNK_SET_BUFFERS (R272): VC1 is given none, a control-class VC at least 16, a data-class
VC at least 64. -/
theorem runTrunkSetBuffers_done (htrunk : s.notTrunk (c.byte 16) = false)
    (hsum : ((List.range 8).map (fun n => c.num (24 + 2 * n) 2)).sum ≤ 3584) (h1 : c.num 26 2 = 0) (h0 : 16 ≤ c.num 24 2)
    (h2 : 16 ≤ c.num 28 2) (h3 : 16 ≤ c.num 30 2) (h4 : 16 ≤ c.num 32 2) (h5 : 64 ≤ c.num 34 2) (h6 : 64 ≤ c.num 36 2)
    (h7 : 64 ≤ c.num 38 2) :
    runTrunkSetBuffers c s = done (s.modTrunk (c.byte 16 / 8) (fun t =>
      { t with newSlots := some ((List.range 8).map (fun n => c.num (24 + 2 * n) 2)) })) := by
  simp only [runTrunkSetBuffers, checks_cons, checks_nil, htrunk, Nat.not_lt.mpr hsum]
  simp [List.range, List.range.loop, h1, Nat.not_lt.mpr h0, Nat.not_lt.mpr h2, Nat.not_lt.mpr h3, Nat.not_lt.mpr h4,
    Nat.not_lt.mpr h5, Nat.not_lt.mpr h6, Nat.not_lt.mpr h7]

theorem runTrunkSetLink_queued (htrunk : s.notTrunk (c.byte 16) = false) (hlow : 1 ≤ c.byte 17)
    (hwidth : c.byte 17 ≤ (s.port (c.byte 16)).entry.width.toNat)
    (hrate : c.byte 18 ≤ (s.trunk (c.byte 16 / 8)).entry.maxRate.toNat) (hup : (s.trunk (c.byte 16 / 8)).state = .up) :
    runTrunkSetLink c s = retrainFor (c.byte 16 / 8) (c.byte 17) (c.byte 18) s := by
  have hin : ¬ (c.byte 17 = 0 ∨ (s.port (c.byte 16)).entry.width.toNat < c.byte 17 ∨
      (s.trunk (c.byte 16 / 8)).entry.maxRate.toNat < c.byte 18) := by omega
  simp only [runTrunkSetLink, checks_cons, checks_nil, htrunk, hin, hup]
  rfl

theorem runTrunkRetrain_queued (htrunk : s.notTrunk (c.byte 16) = false) (hup : (s.trunk (c.byte 16 / 8)).state = .up) :
    runTrunkRetrain c s = retrainFor (c.byte 16 / 8) ((s.trunk (c.byte 16 / 8)).width.toNat + 1) (s.trunk (c.byte 16 / 8)).rate.toNat s := by
  simp only [runTrunkRetrain, checks_cons, checks_nil, htrunk, hup]
  rfl

end TrunkCommands

/-- Settles O2: each row by the end that the catalogue names for it and by what its run finds. -/
theorem portLaneAndTrunkCommandsComplete : Obligations.PortLaneAndTrunkCommandsComplete := by
  rintro s u c ring n b e rfl rfl rfl rfl rfl
  have hop {op : Nat} : s.passes op ring = true → (s.front ring).opcode.toNat = op := State.passes_opcode
  simp only [commandRows_cons, commandRows_nil, and_true]
  refine ⟨stagedRows fun x hx => by fin_cases hx <;> exact ⟨rfl, rfl⟩,
    ⟨?setLink, ?retrain, ?ideKey, ?thresholds, ?laneSet, ?laneLoop, ?prbs, ?trunkSet, ?route⟩,
    ⟨?portRead, ?portStatus, ?laneRead, ?laneStatus, ?trunkRead, ?trunkStatus, ?restart, ?buffers⟩,
    ⟨?removal, ?eyeScan, ?trunkLink, ?trunkRetrain⟩⟩
  case setLink =>
    exact fun ⟨hport, hrate⟩ hpass => exec_waitsForBoundary rfl hpass rfl
      ((runOp_PortSetLink (hop hpass)).trans (runPortSetLink_done hport hrate))
  case retrain =>
    exact fun hport hpass => exec_waitsForBoundary rfl hpass rfl
      ((runOp_PortRetrain (hop hpass)).trans (runPortRetrain_done hport))
  case ideKey =>
    exact fun ⟨hport, hstream, hdir, hset, hup⟩ hpass => exec_waitsForBoundary rfl hpass rfl
      ((runOp_PortSetIdeKey (hop hpass)).trans (runPortSetIdeKey_done hport hstream hdir hset hup))
  case thresholds =>
    exact fun ⟨h1, h2, h3, hhigh⟩ hpass => exec_waitsForBoundary rfl hpass rfl
      ((runOp_PortSetLoadThresholds (hop hpass)).trans (runPortSetLoadThresholds_done h1 h2 h3 hhigh))
  case laneSet =>
    exact fun ⟨hpreset, hmode, hidle, hlos, hlol, hzero⟩ hpass => exec_waitsForBoundary rfl hpass rfl
      ((runOp_LaneSet (hop hpass)).trans (runLaneSet_done hpreset hmode hidle hlos hlol hzero))
  case laneLoop =>
    exact fun hloop hpass => exec_waitsForBoundary rfl hpass rfl
      ((runOp_LaneSetLoop (hop hpass)).trans (runLaneSetLoop_done hloop))
  case prbs =>
    exact fun ⟨hgen, hchk⟩ hpass => exec_waitsForBoundary rfl hpass rfl
      ((runOp_LanePrbs (hop hpass)).trans (runLanePrbs_done hgen hchk))
  case trunkSet =>
    exact fun ⟨hport, htrunk, hlow, hhigh, hhold, hrate⟩ hpass => exec_waitsForBoundary rfl hpass rfl
      ((runOp_TrunkSet (hop hpass)).trans (runTrunkSet_done (State.notTrunk_of_isTrunk hport htrunk) hlow hhigh hhold hrate))
  case route => exact fun _ hpass => exec_waitsForBoundary rfl hpass rfl (runOp_TrunkSetRoute (hop hpass))
  case portRead =>
    exact fun hport hpass => ⟨_, _, exec_endsDone rfl hpass rfl ((runOp_PortRead (hop hpass)).trans (runPortRead_done hport))⟩
  case portStatus =>
    exact fun hport hpass => ⟨_, _, exec_endsDone rfl hpass rfl ((runOp_PortStatus (hop hpass)).trans (runPortStatus_done hport))⟩
  case laneRead => exact fun _ hpass => ⟨_, _, exec_endsDone rfl hpass rfl (runOp_LaneRead (hop hpass))⟩
  case laneStatus => exact fun _ hpass => ⟨_, _, exec_endsDone rfl hpass rfl (runOp_LaneStatus (hop hpass))⟩
  case trunkRead =>
    exact fun ⟨hport, htrunk⟩ hpass => ⟨_, _, exec_endsDone rfl hpass rfl ((runOp_TrunkRead (hop hpass)).trans
      (runTrunkRead_done (State.notTrunk_of_isTrunk hport htrunk)))⟩
  case trunkStatus =>
    exact fun ⟨hport, htrunk⟩ hpass => ⟨_, _, exec_endsDone rfl hpass rfl ((runOp_TrunkStatus (hop hpass)).trans
      (runTrunkStatus_done (State.notTrunk_of_isTrunk hport htrunk)))⟩
  case restart =>
    exact fun ⟨hport, htrunk, hdown⟩ hpass => ⟨_, _, exec_endsDone rfl hpass rfl ((runOp_TrunkRestart (hop hpass)).trans
      (runTrunkRestart_done (State.notTrunk_of_isTrunk hport htrunk) hdown))⟩
  case buffers =>
    exact fun ⟨hport, htrunk, hsum, h1, h0, h2, h3, h4, h5, h6, h7⟩ hpass => ⟨_, _, exec_endsDone rfl hpass rfl
      ((runOp_TrunkSetBuffers (hop hpass)).trans
        (runTrunkSetBuffers_done (State.notTrunk_of_isTrunk hport htrunk) hsum h1 h0 h2 h3 h4 h5 h6 h7))⟩
  case removal =>
    rintro ⟨hport, hdown, hidle⟩ hpass
    have hrun := runPortPrepareRemoval_queued (s := s.taken ring) hport (by simpa using hdown)
      (by simpa [State.removalBusy, State.boundVppbs] using hidle)
    exact ⟨_, _, exec_isQueued_run rfl hpass rfl (by decide) ((runOp_PortPrepareRemoval (hop hpass)).trans hrun)⟩
  case eyeScan =>
    rintro ⟨hlow, hhigh, hup, hidle, hnone, hfree⟩ hpass
    have hrun := runLaneEyeScan_queued (s := s.taken ring) hlow hhigh
      (by simpa [State.laneInL0, State.laneActive, State.portOfLane] using hup) (by simpa using hidle) (by simpa using hnone)
      (by simpa using hfree)
    exact ⟨_, _, exec_isQueued_run rfl hpass rfl (by decide) ((runOp_LaneEyeScan (hop hpass)).trans hrun)⟩
  case trunkLink =>
    rintro ⟨hport, htrunk, hlow, hwidth, hrate, hup⟩ hpass
    have hrun := runTrunkSetLink_queued (s := s.taken ring) (State.notTrunk_of_isTrunk hport (by simpa using htrunk)) hlow
      (by simpa using hwidth) (by simpa using hrate) (by simpa using hup)
    exact ⟨_, _, exec_isQueued_run rfl hpass rfl (by decide) ((runOp_TrunkSetLink (hop hpass)).trans hrun)⟩
  case trunkRetrain =>
    rintro ⟨hport, htrunk, hup⟩ hpass
    have hrun := runTrunkRetrain_queued (s := s.taken ring) (State.notTrunk_of_isTrunk hport (by simpa using htrunk))
      (by simpa using hup)
    exact ⟨_, _, exec_isQueued_run rfl hpass rfl (by decide) ((runOp_TrunkRetrain (hop hpass)).trans hrun)⟩

/-! Rows whose item is due at the next tick boundary (R40, R571): the rest of the tick passes. -/

/-- A row of the tick boundary lets the tick pass where its item is due at the boundary. -/
theorem whenWf_atBoundary_becomes {s : State} {ok : Bool} {due : State → Bool} (hon : s.fabricOn = true)
    (hrun : s.time.running = true) (hok : ok = true) (hdue : due s.nextTick = true) :
    whenWf s ok (atBoundary due s) = s.becomes (passTick s) :=
  whenWf_onlyIf_becomes hok (by simp only [hon, hrun, hdue, Bool.and_self])

/-- Each row of a table of rows with one next state holds where its head does and those of its tail do. -/
theorem sameRows_cons {s : State} {out : Out} {p : Prop} {c : Instr} {rows : List (Prop × Instr)} :
    (∀ h i, (h, i) ∈ (p, c) :: rows → h → exec i s = out) ↔
      (p → exec c s = out) ∧ ∀ h i, (h, i) ∈ rows → h → exec i s = out := by
  simpa only [Prod.forall] using List.forall_mem_cons (p := fun x : Prop × Instr => x.1 → exec x.2 s = out)

/-- A table without rows asks for nothing. -/
theorem sameRows_nil {s : State} {out : Out} : (∀ h i, (h, i) ∈ ([] : List (Prop × Instr)) → h → exec i s = out) ↔ True := by
  simp

/-- Settles O6: each row by its condition, which makes its item due at the next boundary. -/
theorem boundaryRowsComplete : Obligations.BoundaryRowsComplete := by
  intro s n ag sl pos port bed plot x st k
  refine ⟨?rows, ?plotRows⟩
  case plotRows =>
    rintro hon hrun rfl hplot
    have row {due : State → Bool} := whenWf_atBoundary_becomes (due := due) hon hrun (decide_eq_true hplot)
    simp only [sameRows_cons, sameRows_nil, and_true]
    refine ⟨?drained, ?late, ?sanitized, ?queued⟩
    case drained => exact fun ⟨hserves, hdue⟩ => row (by simp only [hserves, hdue, Bool.and_self])
    case late => exact fun ⟨hserves, hdue⟩ => row (by simp only [hserves, hdue, Bool.and_self])
    case sanitized => exact fun ⟨hserves, hstate, hclean⟩ => row (by simp [hserves, hstate, hclean])
    case queued => exact fun ⟨hserves, hdue⟩ => row (by simp only [hserves, hdue, Bool.and_self])
  case rows =>
    rintro hon hrun rfl
    have row {ok : Bool} {due : State → Bool} := whenWf_atBoundary_becomes (ok := ok) (due := due) hon hrun
    simp only [sameRows_cons, sameRows_nil, and_true]
    refine ⟨?loss, ?passStart, ?passEnd, ?retry, ?poison, ?scan, ?shrink, ?count, ?flip, ?frozen, ?promotion, ?quiesced,
      ?switchover, ?forming, ?pause, ?deadline, row rfl, row rfl, ?dormant, ?reset, ?stewardReset, ?commit, ?expiry, row rfl,
      fun _ => whenWf_onlyIf_becomes rfl (by simp only [hon, hrun, Bool.and_self])⟩
    case loss => exact fun ⟨hagent, hdue⟩ => row (decide_eq_true hagent) hdue
    case passStart => exact fun ⟨hdue, hidle, hids⟩ => row rfl (by simp only [hdue, hidle, hids]; rfl)
    case passEnd => exact fun ⟨hscan, hold⟩ => row rfl (by simp [hscan, hold])
    case retry => exact fun ⟨hsl, hpos, hfailed, hleft, hold⟩ => row (by simp [hsl, hpos]) (decide_eq_true ⟨hfailed, hleft, hold⟩)
    case poison => exact fun ⟨hsl, hpos, hfailed, hspent, hold⟩ => row (by simp [hsl, hpos]) (decide_eq_true ⟨hfailed, hspent, hold⟩)
    case scan => exact fun ⟨hport, hdue⟩ => row (decide_eq_true hport) hdue
    case shrink => exact fun ⟨hbed, hserves, hlate⟩ => row (decide_eq_true hbed) (by simp only [hserves, hlate, Bool.and_self])
    case count => exact fun ⟨hbed, hserves, hready⟩ => row (decide_eq_true hbed) (by simp only [hserves, hready, Bool.and_self])
    case flip => exact fun ⟨hext, hserves, hready⟩ => row (decide_eq_true hext) (by simp only [hserves, hready, Bool.and_self])
    case frozen => exact fun ⟨hsl, hnow⟩ => row (decide_eq_true hsl) hnow
    case promotion => exact fun ⟨hshadow, hdue⟩ => row rfl (by simp [hshadow, hdue])
    case quiesced => exact fun ⟨hswitch, hactive, hquiet⟩ => row rfl (by simp [hswitch, hactive, hquiet])
    case switchover =>
      intro h
      obtain ⟨_, hsome, hdue⟩ := (Option.any_eq_true _ _).mp h
      exact row rfl (by simpa only [hsome] using hdue)
    case forming =>
      intro h
      obtain ⟨_, hsome, hdue⟩ := (Option.any_eq_true _ _).mp h
      exact row rfl (by simpa only [hsome] using hdue)
    case pause => exact fun ⟨hst, hdue⟩ => row (decide_eq_true hst) hdue
    case deadline => exact fun ⟨hsprout, hopen, hpassed⟩ => row rfl (by simp only [hsprout, hopen, hpassed]; rfl)
    case dormant => exact fun hdue => row rfl (by simpa using hdue)
    case reset => exact fun hdue => row rfl (decide_eq_true hdue)
    case stewardReset => exact fun hdue => row rfl (decide_eq_true hdue)
    case commit =>
      intro h
      obtain ⟨_, hsome, hdue⟩ := (Option.any_eq_true _ _).mp h
      exact row rfl (by simpa only [hsome] using hdue)
    case expiry =>
      intro h
      obtain ⟨_, hsome, hdue⟩ := (Option.any_eq_true _ _).mp h
      exact row rfl (by simpa only [hsome] using hdue)

/-! Events of the home slices and of the pool that look their subject up (R78, R148). -/

section HomeAndPoolEvents

variable {s : State}

/-- The release transaction at the head of its row moves on (R148). -/
theorem exec_lineRelease {sl pos j : Nat} (hon : s.fabricOn = true) (hsl : sl < 8) (hpos : pos < 512)
    (hhead : s.releaseHead sl pos = some j) : exec (.lineRelease sl pos) s = s.becomes (writesMoved sl (homeStage sl j s)) := by
  have hexec : exec (.lineRelease sl pos) s = execLineRelease sl pos s := rfl
  rw [hexec, execLineRelease, whenWf_onlyIf_becomes (by simp [hsl, hpos]) hon]
  simp only [hhead]

/-- The scan of an EXTENT_DEFINE has had its 32 ticks (R78). -/
theorem exec_extentDefineScanComplete {x : Nat} (hext : x < 1048576) (hserves : s.serving = true)
    (hold : (Tab.find s.pool.defining x).any (fun d => decide (d.2 + 32 ≤ s.tick)) = true) :
    exec (.extentDefineScanComplete x) s = s.becomes (mirrored (defineScanned x) s) := by
  obtain ⟨d, hfind, hdue⟩ := (Option.any_eq_true _ _).mp hold
  have hexec : exec (.extentDefineScanComplete x) s = execExtentDefineScanComplete x s := rfl
  rw [hexec, execExtentDefineScanComplete]
  exact whenWf_onlyIf_becomes (decide_eq_true hext) (by simp only [hfind, hserves, hdue, Bool.and_self])

end HomeAndPoolEvents

/-- Settles O7: each row by its meaning, whose guard the row's condition meets. -/
theorem homeAndPoolEventsComplete : Obligations.HomeAndPoolEventsComplete := by
  intro s port sl txn ag pos j bank job bed x plot slot st head dpa data psn ok rec
  simp only [rows_cons, rows_nil, and_true]
  refine ⟨fun ⟨hport, hld, hin⟩ => ⟨_, whenWf_onlyIf_becomes (by simp [hport, hld]) hin⟩,
    fun ⟨hport, hld, hin⟩ => ⟨_, whenWf_onlyIf_becomes (by simp [hport, hld]) hin⟩,
    fun hon hsl => ⟨?readmit, ?snoop, ?loss, ?write, ?release⟩,
    ⟨?ripener, ?zeroStart, ?zeroEnd, ?copy, ?define, ?map, ?mgmt⟩, fun hon => ⟨?flush, ?policy⟩⟩
  case readmit => exact fun _ => whenWf_onlyIf_becomes (decide_eq_true hsl) hon
  case snoop =>
    exact fun ⟨htxn, hag, hwaits, hold⟩ => whenWf_onlyIf_becomes (by simp [hsl, htxn, hag]) (by simp [hon, hwaits, hold])
  case loss =>
    exact fun ⟨hag, hscan, hold, hidle, hclear⟩ => whenWf_onlyIf_becomes (by simp [hsl, hag])
      (by simp only [hon, hscan, hold, hidle, hclear]; rfl)
  case write => exact fun ⟨hpos, hsent, hold⟩ => whenWf_onlyIf_becomes (by simp [hsl, hpos]) (by simp [hon, hsent, hold])
  case release => exact fun ⟨hpos, hhead⟩ => exec_lineRelease hon hsl hpos hhead
  case ripener =>
    exact fun ⟨hbank, hserves, hrun⟩ => whenWf_onlyIf_becomes (decide_eq_true hbank) (by simp only [hserves, hrun, Bool.and_self])
  case zeroStart => exact fun ⟨hext, hserves, hnext⟩ => whenWf_onlyIf_becomes (decide_eq_true hext) (by simp [hserves, hnext])
  case zeroEnd =>
    exact fun ⟨hext, hserves, hfound, hdone⟩ => whenWf_onlyIf_becomes (decide_eq_true hext)
      (by simp only [hserves, hfound, hdone, Bool.and_self])
  case copy =>
    exact fun ⟨hext, hserves, hturns, hcopies⟩ => whenWf_onlyIf_becomes (decide_eq_true hext)
      (by simp only [hserves, hturns, hcopies, Bool.and_self])
  case define => exact fun ⟨hext, hserves, hold⟩ => exec_extentDefineScanComplete hext hserves hold
  case map =>
    exact fun ⟨hplot, hslot, hserves, hlate⟩ => whenWf_onlyIf_becomes (by simp [hplot, hslot])
      (by simp only [hserves, hlate, Bool.and_self])
  case mgmt => exact fun ⟨hst, hhears⟩ => whenWf_onlyIf_becomes (decide_eq_true hst) hhears
  case flush => exact fun ⟨hended, hjob⟩ => whenWf_onlyIf_becomes rfl (by simp only [hon, hended, hjob, Bool.and_self])
  case policy =>
    exact fun ⟨hbed, hscanned⟩ => whenWf_onlyIf_becomes (decide_eq_true hbed) (by simp only [hon, hscanned, Bool.and_self])

/-! Events of the ports with more than one guard: a change of width in L0 and the training to L0 (R199, R226), and the loopback (R251). -/

section PortEvents

variable {s : State} {port : Nat} {rate : BitVec 3} {wd : BitVec 4} {cxl flit : Bool}

/-- Only a link in L0 changes its width there (R199). -/
theorem Port.l0_of_mayL0p {p : Port} (h : p.mayL0p rate wd cxl flit = true) : p.ltssm = .L0 := by
  simp only [Port.mayL0p, Bool.and_eq_true, decide_eq_true_eq, and_assoc] at h
  exact h.1

/-- A link in L0 that may change its width does so. -/
theorem exec_portReachesL0_width (hon : s.fabricOn = true) (hport : port < 128)
    (hmay : (s.port port).mayL0p rate wd cxl flit = true) :
    exec (.portReachesL0 port rate wd cxl flit) s = s.becomes (changeL0p port wd s) := by
  have hexec : exec (.portReachesL0 port rate wd cxl flit) s = execPortReachesL0 port rate wd cxl flit s := rfl
  simp [hexec, execPortReachesL0, Port.l0_of_mayL0p hmay, hmay, hon, hport, whenWf, onlyIf, State.becomes]

/-- A link that trains reaches L0 as its two ends allow. -/
theorem exec_portReachesL0_trains (hport : port < 128) (htrain : s.mayTrain port = true) (hnotL0 : (s.port port).ltssm ≠ .L0)
    (hnotL0s : (s.port port).ltssm ≠ .L0s) (hrun : (s.port port).mayRun s.dev.retryStatus rate wd cxl flit = true) :
    exec (.portReachesL0 port rate wd cxl flit) s = s.becomes (reachL0 port rate wd cxl flit s) := by
  have hexec : exec (.portReachesL0 port rate wd cxl flit) s = execPortReachesL0 port rate wd cxl flit s := rfl
  have hwidth : (s.port port).mayL0p rate wd cxl flit = false := Bool.eq_false_iff.mpr fun h => hnotL0 (Port.l0_of_mayL0p h)
  simp [hexec, execPortReachesL0, hwidth, htrain, hnotL0, hnotL0s, hrun, hport, whenWf, onlyIf, State.becomes]

/-- How the link of a port goes down for its loopback (R251). -/
def downForLoopback (port : Nat) (s : State) : State :=
  if !(s.port port).inL0 then s else if (s.port port).upstream then upstreamDown port false s else downstreamDown port .loopback s

theorem exec_loopbackRequest (hon : s.fabricOn = true) (hport : port < 128)
    (hrole : ((s.port port).upstream || (s.port port).downstream) = true) (hfree : (s.port port).held = false)
    (hdetect : (s.port port).ltssm ≠ .detect) (hdisabled : (s.port port).ltssm ≠ .disabled) :
    exec (.loopbackRequest port) s =
      s.becomes ((downForLoopback port s).modPort port (fun q => { q with ltssm := .loopback })) := by
  have hexec : exec (.loopbackRequest port) s = execLoopbackRequest port s := rfl
  rw [hexec, execLoopbackRequest]
  dsimp only
  rw [whenWf_onlyIf_becomes (decide_eq_true hport) (by simp [hon, hrole, hfree, hdetect, hdisabled])]
  rfl

theorem downForLoopback_down (hdown : (s.port port).inL0 = false) : downForLoopback port s = s := by
  simp [downForLoopback, hdown]

theorem downForLoopback_upstream (hup : (s.port port).upstream = true) (hl0 : (s.port port).inL0 = true) :
    downForLoopback port s = upstreamDown port false s := by
  simp [downForLoopback, hup, hl0]

theorem downForLoopback_downstream (hnot : (s.port port).upstream = false) (hl0 : (s.port port).inL0 = true) :
    downForLoopback port s = downstreamDown port .loopback s := by
  simp [downForLoopback, hnot, hl0]

end PortEvents

/-- Settles O8: each row by its meaning, whose guard the row's condition meets. -/
theorem portAndLaneEventsComplete : Obligations.PortAndLaneEventsComplete := by
  intro s port ld vppb ix ways gran po plot bl n r f rate v base size db clear cxl flit tlp wd
  simp only [rows_cons, rows_nil, and_true]
  refine ⟨fun hon hport => ⟨?upDown, ?upReturn, ?downDown, ?scan, ?hostViral, ?attempt, ?failed, ?retry, ?ide, ?loopDown, ?loopUp,
      ?loopDownstream, exec_portReachesL0_width hon hport, ?trains, ?l0sEntry, ?l0sExit⟩,
    fun hport hin => ⟨?error, ?viral, ?discovery, ?add, ?request, ?forced⟩, ?dvsec, ?commit, ?reset, ?passThrough⟩
  case upDown =>
    exact fun ⟨hup, hl0⟩ => whenWf_onlyIf_becomes (decide_eq_true hport) (by simp only [hon, hup, hl0, Bool.and_self])
  case upReturn =>
    exact fun ⟨hup, hmay⟩ => whenWf_onlyIf_becomes (decide_eq_true hport) (by simp only [hon, hup, hmay, Bool.and_self])
  case downDown =>
    exact fun ⟨hdown, hl0⟩ => whenWf_onlyIf_becomes (decide_eq_true hport) (by simp only [hon, hdown, hl0, Bool.and_self])
  case scan => exact fun hover => whenWf_onlyIf_becomes (decide_eq_true hport) (by simp only [hon, hover, Bool.and_self])
  case hostViral =>
    exact fun ⟨hup, hl0⟩ => whenWf_onlyIf_becomes (decide_eq_true hport) (by simp only [hon, hup, hl0, Bool.and_self])
  case attempt => exact fun hmay => whenWf_onlyIf_becomes (decide_eq_true hport) (by simp only [hon, hmay, Bool.and_self])
  case failed => exact fun ⟨hpending, hrate⟩ => whenWf_onlyIf_becomes (decide_eq_true hport) (by simp [hon, hpending, hrate])
  case retry =>
    exact fun ⟨hup, hl0, hretry⟩ => whenWf_onlyIf_becomes (decide_eq_true hport) (by simp only [hon, hup, hl0, hretry, Bool.and_self])
  case ide =>
    exact fun ⟨hup, hl0, hide⟩ => whenWf_onlyIf_becomes (decide_eq_true hport)
      (by simpa only [hon, hup, hl0, Bool.true_and, Bool.or_eq_true, beq_iff_eq] using hide)
  case loopDown =>
    rintro ⟨hrole, hdown, hfree, hdetect, hdisabled⟩
    rw [exec_loopbackRequest hon hport (by simpa using hrole) hfree hdetect hdisabled, downForLoopback_down hdown]
  case loopUp =>
    rintro ⟨hup, hl0, hfree, hdetect, hdisabled⟩
    rw [exec_loopbackRequest hon hport (by simp [hup]) hfree hdetect hdisabled, downForLoopback_upstream hup hl0]
  case loopDownstream =>
    rintro ⟨hnot, hdown, hl0, hfree, hdetect, hdisabled⟩
    rw [exec_loopbackRequest hon hport (by simp [hdown]) hfree hdetect hdisabled, downForLoopback_downstream hnot hl0]
  case trains => exact fun ⟨htrain, hnotL0, hnotL0s, hrun⟩ => exec_portReachesL0_trains hport htrain hnotL0 hnotL0s hrun
  case l0sEntry =>
    exact fun ⟨hlink, hl0, hempty, hold⟩ => whenWf_onlyIf_becomes (decide_eq_true hport) (by simp only [hon, hlink, hl0, hempty, hold]; rfl)
  case l0sExit => exact fun htx => whenWf_onlyIf_becomes (decide_eq_true hport) (by simp only [hon, htx, Bool.and_self])
  case error => exact fun hld => whenWf_onlyIf_becomes (by simp [hport, hld]) hin
  case viral => exact fun hld => whenWf_onlyIf_becomes (by simp [hport, hld]) hin
  case discovery => exact fun hunread => whenWf_onlyIf_becomes (decide_eq_true hport) (by simp [hin, hunread])
  case add => exact fun ⟨hld, hdcd⟩ => whenWf_onlyIf_becomes (by simp [hport, hld]) (by simp only [hin, hdcd, Bool.and_self])
  case request =>
    exact fun ⟨hld, hdcd⟩ => whenWf_onlyIf_becomes (by simp [hport, hld]) (by simp only [hin, hdcd, Bool.and_self])
  case forced => exact fun ⟨hld, hdcd⟩ => whenWf_onlyIf_becomes (by simp [hport, hld]) (by simp only [hin, hdcd, Bool.and_self])
  case dvsec => exact fun ⟨hport, hin⟩ => whenWf_onlyIf_becomes (decide_eq_true hport) hin
  case commit => exact fun ⟨hport, hvppb, hix, hin⟩ => whenWf_onlyIf_becomes (by simp [hport, hvppb, hix]) hin
  case reset =>
    exact fun ⟨hport, hplot, hin, hused, hmine, hroom⟩ => whenWf_onlyIf_becomes (by simp [hport, hplot]) (by simp [hin, hused, hmine, hroom])
  case passThrough => exact fun ⟨hport, hin, hroom⟩ => whenWf_onlyIf_becomes (decide_eq_true hport) (by simpa [hroom] using hin)

/-- Settles O10: each mailbox command by its meaning; the two that name a slot ask for it. -/
theorem mailboxCommandsComplete : Obligations.MailboxCommandsComplete := by
  intro s plot slot log sets hs o hplot hin
  simp only [rows_cons, rows_nil, and_true]
  have answers {f : State → State} : whenWf s (decide (plot < 512)) (onlyIf (s.mailReaches plot) f s) = s.becomes (f s) :=
    whenWf_onlyIf_becomes (decide_eq_true hplot) hin
  refine ⟨fun _ => answers, fun _ => answers, fun _ => answers, ?add, ?release, fun _ => answers, fun _ => answers, fun _ => answers,
    fun _ => answers, fun _ => answers, fun _ => answers⟩
  case add =>
    exact fun ⟨hslot, hactive, hvalid⟩ => whenWf_onlyIf_becomes (by simp [hplot, hslot]) (by simp [hin, hactive, hvalid])
  case release =>
    exact fun ⟨hslot, hvalid⟩ => whenWf_onlyIf_becomes (by simp [hplot, hslot]) (by simp only [hin, hvalid, Bool.and_self])

end Sys2Proof.Machine
end

section
/-! The coherence-home family: the lines of a slice, the answers of hosts to its snoops, and the commands of the home, the vault and
the Barrow's slices. -/

namespace Sys2Proof.Machine

/-! The pool line number of a line, with its directory set and tag (R81, R102). -/

/-- A pool line number is the line's extent, then the line within it. -/
theorem Bed.pl_eq (b : Bed) (line : Nat) : b.pl line = (b.locate (64 * line)).1 * 2 ^ 22 + (b.locate (64 * line)).2 >>> 6 := by
  simp only [Bed.pl, extentLines, Nat.shiftRight_eq_div_pow, Nat.reducePow]

/-- A line of an extent of the table has a pool line number of 42 bits. -/
theorem poolLine_lt {idx inx : Nat} (hidx : idx < 2 ^ 20) (hinx : inx < 2 ^ 28) : idx * 2 ^ 22 + inx >>> 6 < 2 ^ 42 := by
  rw [Nat.shiftRight_eq_div_pow]
  omega

theorem dirSetOf_toNat (pl : BitVec 42) : dirSetOf pl.toNat = (pl.extractLsb' 0 16 ^^^ pl.extractLsb' 16 16).toNat := by
  simp only [dirSetOf, BitVec.toNat_xor, BitVec.extractLsb'_toNat, Nat.shiftRight_eq_div_pow, Nat.pow_zero, Nat.div_one]

theorem dirTagOf_toNat (pl : BitVec 42) : dirTagOf pl.toNat = (pl.extractLsb' 16 26).toNat := by
  simp only [dirTagOf, BitVec.extractLsb'_toNat, Nat.shiftRight_eq_div_pow]

/-- Settles O34: the number, its width, and its set and tag. -/
theorem poolLineNumbers : Obligations.PoolLineNumbers :=
  ⟨Bed.pl_eq, fun _ _ hidx hinx => poolLine_lt hidx hinx, fun pl => ⟨dirSetOf_toNat pl, dirTagOf_toNat pl⟩⟩

/-! A host's answer to a snoop, or its BIConflict, on its way from the port to the home slice of its line (R107, R110, R118, R574). -/

section HostAnswers

variable {s u : State} {port bd line a plot : Nat} {hpa : BitVec 64} {d : Nat × Nat} {op : MsgOp}

/-- The cell in which a host's message about a line crosses to the line's slice. -/
def answerCell (u : State) (port bd line plot a : Nat) (m : HomeMsg) : SwCell :=
  { src := port / 8, dst := 16 + sliceOf bd line, cls := clsResponse, length := 16, bed := bd, offset := 64 * line, home := u.self,
    plot := some plot, agent := a, items := [m] }

section

variable (hflit : newFlit port (flitIn port 64 s) = u) (hbound : u.boundAt port hpa = none)
include hflit hbound

/-- An answer that names no line is dropped with the flit that brought it. -/
theorem hostAnswer_unknown (hop : op ≠ .biConflict) (hline : u.lineAt port hpa = none) : hostAnswer port hpa op s = u := by
  unfold hostAnswer
  rw [hflit]
  simp only [hbound, hline, hop, if_false]

/-- A BIConflict that names no line is answered by the ingress. -/
theorem hostAnswer_biConflict_unknown (hline : u.lineAt port hpa = none) :
    hostAnswer port hpa .biConflict s = ingressRespond port none none { op := .biConflictAck, addr := hpa } u := by
  unfold hostAnswer
  rw [hflit]
  simp only [hbound, hline, if_true]

variable (hline : u.lineAt port hpa = some (u.self, bd, line)) (hagent : u.agentOf u.self port = some a)
  (hdecode : u.decode port hpa = some d) (hplot : u.plotAt port d.1 = some plot)
include hline hagent hdecode hplot

/-- An answer about a line whose home is here crosses to the line's slice. -/
theorem hostAnswer_here (hop : op ≠ .biConflict) :
    hostAnswer port hpa op s = enqueueCell (answerCell u port bd line plot a (.answer a ((u.bed bd).pl line) op)) u := by
  unfold hostAnswer
  rw [hflit]
  simp only [hbound, hline, hagent, hdecode, hplot, hop, if_true, if_false, Option.getD_some, answerCell]

/-- A BIConflict about a line whose home is here crosses to the line's slice, counted in its plot. -/
theorem hostAnswer_biConflict_here :
    hostAnswer port hpa .biConflict s =
      enqueueCell (answerCell u port bd line plot a (.conflict a bd line plot hpa)) (plotCount plot 10 1 u) := by
  have hself : (plotCount plot 10 1 u).self = u.self := by simp only [State.self, plotCount_dev]
  unfold hostAnswer
  rw [hflit]
  simp only [hbound, hline, hagent, hdecode, hplot, hself, if_true, Option.getD_some, answerCell]

end

/-! Each message that reaches its port does so (R106). -/

section

variable (hport : port < 128) (hreaches : s.memReaches port clsResponse = true)
include hport hreaches

theorem exec_birspi : exec (.birspi port hpa) s = s.becomes (hostAnswer port hpa .rspI s) :=
  whenWf_onlyIf_becomes (decide_eq_true hport) hreaches

theorem exec_birsps : exec (.birsps port hpa) s = s.becomes (hostAnswer port hpa .rspS s) :=
  whenWf_onlyIf_becomes (decide_eq_true hport) hreaches

theorem exec_birspe : exec (.birspe port hpa) s = s.becomes (hostAnswer port hpa .rspE s) :=
  whenWf_onlyIf_becomes (decide_eq_true hport) hreaches

theorem exec_biconflict : exec (.biconflict port hpa) s = s.becomes (hostAnswer port hpa .biConflict s) :=
  whenWf_onlyIf_becomes (decide_eq_true hport) hreaches

end

/-- An answer that no open transaction of its slice waits for is counted there. -/
theorem snoopAnswer_unmatched {sl pl : Nat} (hnone : (s.slice sl).awaits a pl = none) :
    snoopAnswer sl a pl op s = count (16 + sl) 0x0B 1 s := by
  simp only [snoopAnswer, hnone]

end HostAnswers

/-- Settles O37: each message by its `exec` lemma and by the line that its address names. -/
theorem snoopAnswersOfHosts : Obligations.SnoopAnswersOfHosts := by
  refine ⟨?rspI, ?rspS, ?rspE, fun _ _ _ _ _ hnone => snoopAnswer_unmatched hnone, ?dropped, ?acknowledged, ?conflict⟩
  case rspI =>
    intro port hpa bd line a plot d s u ⟨hport, hreaches, hflit⟩ ⟨hbound, hline, hagent⟩ ⟨hdecode, hplot⟩
    rw [exec_birspi hport hreaches, hostAnswer_here hflit hbound hline hagent hdecode hplot (by decide), answerCell]
  case rspS =>
    intro port hpa bd line a plot d s u ⟨hport, hreaches, hflit⟩ ⟨hbound, hline, hagent⟩ ⟨hdecode, hplot⟩
    rw [exec_birsps hport hreaches, hostAnswer_here hflit hbound hline hagent hdecode hplot (by decide), answerCell]
  case rspE =>
    intro port hpa bd line a plot d s u ⟨hport, hreaches, hflit⟩ ⟨hbound, hline, hagent⟩ ⟨hdecode, hplot⟩
    rw [exec_birspe hport hreaches, hostAnswer_here hflit hbound hline hagent hdecode hplot (by decide), answerCell]
  case dropped =>
    intro port hpa s u ⟨hport, hreaches, hflit⟩ ⟨hbound, hline⟩
    rw [exec_birspi hport hreaches, hostAnswer_unknown hflit hbound (by decide) hline]
  case acknowledged =>
    intro port hpa s u ⟨hport, hreaches, hflit⟩ ⟨hbound, hline⟩
    rw [exec_biconflict hport hreaches, hostAnswer_biConflict_unknown hflit hbound hline]
  case conflict =>
    intro port hpa bd line a plot d s u ⟨hport, hreaches, hflit⟩ ⟨hbound, hline, hagent⟩ ⟨hdecode, hplot⟩
    rw [exec_biconflict hport hreaches, hostAnswer_biConflict_here hflit hbound hline hagent hdecode hplot, answerCell]

/-- A MemSpecRd that reaches its port makes a next state, wherever its address lies. -/
theorem exec_memspecrd_next {s : State} {port : Nat} (hpa : BitVec 64) (hport : port < 128) :
    ∃ t, exec (.memspecrd port hpa) s = .next t := by
  obtain ⟨t, ht, _⟩ := exec_next (c := .memspecrd port hpa) (s := s) (decide_eq_true hport)
  exact ⟨t, ht⟩

/-- A tail status that arrives in a fabric die that runs settles its flit, good or bad (R173). -/
theorem exec_tailStatus {s : State} {station : Nat} (tag : BitVec 12) (good : Bool) (hon : s.fabricOn = true) (hst : station < 16) :
    exec (.tailStatus station tag good) s = s.becomes (if good then tailGood station tag s else tailBad station tag s) := by
  have hexec : exec (.tailStatus station tag good) s =
      s.becomes ((if good then tailGood station tag else tailBad station tag) s) :=
    whenWf_onlyIf_becomes (decide_eq_true hst) hon
  rw [hexec]
  cases good <;> rfl

/-- Settles O18: each row by its `exec` lemma, or by its meaning, whose guard the row's condition meets. -/
theorem hostRequestsComplete : Obligations.HostRequestsComplete := by
  intro s port vppb size st plot hpa mask off mf mv snp nt psn good data op a b tag
  simp only [rows_cons, rows_nil, and_true]
  refine ⟨fun hport hreaches => ⟨fun _ => exec_memrd hport hreaches, fun _ => exec_memrddata hport hreaches,
      fun _ => exec_meminv hport hreaches⟩,
    fun hport => ⟨exec_memwr hport, exec_memwrptl hport, exec_biconflict hport, exec_birspi hport, exec_birsps hport,
      exec_birspe hport⟩,
    fun ⟨hport, _⟩ => exec_memspecrd_next hpa hport, ?atomic, ⟨?read, ?write⟩, fun hon => ⟨?tail, ?matching, ?replenish⟩⟩
  case atomic => exact fun ⟨hport, hvppb, hreaches, hin⟩ => ⟨_, exec_atomicop hport hvppb hreaches hin rfl⟩
  case read => exact fun ⟨hport, hvppb, hreaches, hin⟩ => exec_apertureRead hport hvppb hreaches hin rfl
  case write => exact fun ⟨hport, hvppb, hreaches, hin⟩ => exec_apertureWrite hport hvppb hreaches hin rfl
  case tail => exact exec_tailStatus tag good hon
  case matching => exact fun hnew => whenWf_onlyIf_becomes rfl (by simp only [hon, decide_eq_true hnew, Bool.and_self])
  case replenish =>
    exact fun ⟨hplot, hdue, hbeat⟩ => whenWf_onlyIf_becomes (decide_eq_true hplot) (by simp [hon, hdue, hbeat])

/-! The commands of the home and the vault (R395, R396): what each does once its operands are in range. -/

section HomeCommands

variable {s : State} {c : Command}

theorem runCohSetWeeder_done (hbudget : c.byte 17 ≤ 64) :
    runCohSetWeeder c s = done (forEach c.slices (fun i t =>
      t.modDev (fun d => { d with weederBudget := Tab.set d.weederBudget 8 i (BitVec.ofNat 7 (c.byte 17)) })) s) := by
  simp [runCohSetWeeder, Nat.not_lt.mpr hbudget]

theorem runCohSetSnoopTimeout_done (hlow : 16 ≤ c.num 16 2) (hhigh : c.num 16 2 ≤ 4096) :
    runCohSetSnoopTimeout c s = done (s.modDev (fun d => { d with snoopTimeout := BitVec.ofNat 13 (c.num 16 2) })) := by
  have hin : ¬ (c.num 16 2 < 16 ∨ 4096 < c.num 16 2) := by omega
  simp [runCohSetSnoopTimeout, hin]

theorem runCohSetLoadThresholds_done (h1 : 1 ≤ c.num 18 2) (h2 : c.num 18 2 < c.num 20 2) (h3 : c.num 20 2 < c.num 22 2)
    (hhigh : c.num 22 2 ≤ 1024) :
    runCohSetLoadThresholds c s = done (forEach c.slices
      (fun i t => t.modSlice i (fun x => { x with t1 := c.num 18 2, t2 := c.num 20 2, t3 := c.num 22 2 })) s) := by
  have hin : 1 ≤ c.num 18 2 ∧ c.num 18 2 < c.num 20 2 ∧ c.num 20 2 < c.num 22 2 ∧ c.num 22 2 ≤ 1024 := ⟨h1, h2, h3, hhigh⟩
  simp [runCohSetLoadThresholds, hin]

theorem runCohReadEntry_done (hslice : c.byte 16 ≤ 7) (hway : c.byte 20 ≤ 15) :
    runCohReadEntry c s = doneWith (bytesOf 9 72 ((s.slice (c.byte 16)).entry (16 * c.num 18 2 + c.byte 20)).stored) s := by
  have hin : ¬ (7 < c.byte 16 ∨ 15 < c.byte 20) := by omega
  simp [runCohReadEntry, hin]

/-- A line of a bed that its slice's directory does not hold is answered as a miss. -/
theorem runCohLookup_miss (hbed : c.num 16 2 ≤ 4095) (hdef : (s.bed (c.num 16 2)).state = .defined)
    (hoff : c.num 24 8 < (s.bed (c.num 16 2)).span.toNat * 2 ^ 28)
    (hmiss : (s.slice (sliceOf (c.num 16 2) (c.num 24 8 / 64))).hit ((s.bed (c.num 16 2)).pl (c.num 24 8 / 64)) = none) :
    runCohLookup c s = doneWith ([BitVec.ofNat 8 (sliceOf (c.num 16 2) (c.num 24 8 / 64)), 0xFF] ++
      bytesOf 2 16 (BitVec.ofNat 16 (dirSetOf ((s.bed (c.num 16 2)).pl (c.num 24 8 / 64)))) ++ List.replicate 9 0) s := by
  have hin : ¬ (4095 < c.num 16 2 ∨ (s.bed (c.num 16 2)).state ≠ .defined ∨
      (s.bed (c.num 16 2)).span.toNat * 2 ^ 28 ≤ c.num 24 8) := by
    simp only [hdef, ne_eq, not_true_eq_false, false_or]
    omega
  simp only [runCohLookup, checks_cons, checks_nil, hin, hmiss]
  rfl

theorem runCohStatus_done (hslice : c.byte 16 ≤ 7) :
    runCohStatus c s = doneWith (bytesOf 16 128 (BitVec.ofNat 128 (s.cohStatus (c.byte 16)))) s := by
  simp only [runCohStatus, checks_cons, checks_nil, Nat.not_lt.mpr hslice]
  rfl

/-- A slice that the device does not have is refused (R2). -/
theorem runCohStatus_refused (hslice : 8 ≤ c.byte 16) : runCohStatus c s = refuse stInvalidParam s := by
  have hout : 7 < c.byte 16 := hslice
  simp only [runCohStatus, checks_cons, checks_nil, hout, decide_true, if_true]

/-- VAULT_FLUSH of a bed, or of the whole device where the bed is 0xFFFF. -/
theorem runVaultFlush_queued (hbed : c.num 16 2 ≤ 4095 ∨ c.num 16 2 = 0xFFFF) :
    runVaultFlush c s = queuedFor (.flush s.home.nextFlush) (startFlush
      { bed := if c.num 16 2 = 0xFFFF then none else some (c.num 16 2), invalidate := decide (c.byte 18 % 2 = 1) } s) := by
  have hin : ¬ (4095 < c.num 16 2 ∧ c.num 16 2 ≠ 0xFFFF) := by omega
  simp only [runVaultFlush, checks_cons, checks_nil, hin]
  rfl

theorem runVaultSetWriteTimeout_done (hlow : 4 ≤ c.num 16 2) (hhigh : c.num 16 2 ≤ 256) :
    runVaultSetWriteTimeout c s = done (s.modHome (fun h => { h with writeTimeout := c.num 16 2 })) := by
  have hin : ¬ (c.num 16 2 < 4 ∨ 256 < c.num 16 2) := by omega
  simp [runVaultSetWriteTimeout, hin]

theorem runVaultSetPredictor_done (hlow : 1 ≤ c.byte 17) (hhigh : c.byte 17 ≤ 15) (hoff : c.byte 18 < c.byte 17) :
    runVaultSetPredictor c s = done (forEach c.slices
      (fun i t => t.modSlice i (fun x => { x with parkOn := c.byte 17, passAt := c.byte 18 })) s) := by
  have hin : ¬ (c.byte 17 < 1 ∨ 15 < c.byte 17 ∨ 14 < c.byte 18 ∨ c.byte 17 ≤ c.byte 18) := by omega
  simp only [runVaultSetPredictor, checks_cons, checks_nil, hin]
  rfl

theorem runVaultStatus_done (hslice : c.byte 16 ≤ 7) :
    runVaultStatus c s = doneWith (bytesOf 16 128 (BitVec.ofNat 128 (s.vaultStatus (c.byte 16)))) s := by
  simp only [runVaultStatus, checks_cons, checks_nil, Nat.not_lt.mpr hslice]
  rfl

/-- VAULT_READ_TAG answers the tag as the set's check leaves it (R137). -/
theorem runVaultReadTag_done {t : State} (hslice : c.byte 16 ≤ 7) (hset : c.num 18 2 ≤ 4095) (hway : c.byte 20 ≤ 15)
    (hcheck : checkVaultSet (c.byte 16) (c.num 18 2) s = t) :
    runVaultReadTag c s = doneWith
      (bytesOf 6 48 (BitVec.ofNat 48 ((t.slice (c.byte 16)).vline (16 * c.num 18 2 + c.byte 20)).tagImage)) t := by
  have hin : ¬ (7 < c.byte 16 ∨ 4095 < c.num 18 2 ∨ 15 < c.byte 20) := by omega
  simp only [runVaultReadTag, checks_cons, checks_nil, hin, hcheck]
  rfl

theorem runVaultReadPredictor_done (hslice : c.byte 16 ≤ 7) (hindex : c.num 18 2 ≤ 4095) :
    runVaultReadPredictor c s = doneWith
      (bytesOf 11 88 (BitVec.ofNat 88 (Tab.get (s.slice (c.byte 16)).predictor {} (c.num 18 2)).image)) s := by
  have hin : ¬ (7 < c.byte 16 ∨ 4095 < c.num 18 2) := by omega
  simp only [runVaultReadPredictor, checks_cons, checks_nil, hin]
  rfl

end HomeCommands

/-! How `exec` answers them: which wait for the boundary, which are QUEUED for it, and which end at once. -/

section HomeEnds

variable {s : State} {ring : Nat}

/-- A command other than PLOT_ENABLE and PLOT_RESET that begins work is QUEUED, and its work begins at the boundary (R67). -/
theorem exec_isQueuedForBoundary_other {i : Instr} {op : Nat} {k : JobKind} {t : State} (hcmd : i.command = some (op, ring))
    (hpass : s.passes op ring = true) (hrow : (opInfo op).map (fun o => (o.guarded, o.ends)) = some (false, .tickQueued))
    (hother : op ≠ 0x0205 ∧ op ≠ 0x0207) (hrun : runOp (s.front ring) (s.taken ring) = (.queued k, t)) :
    exec i s = s.isQueuedForBoundary ring := by
  have hrecords : (s.taken ring).recordsPlot (s.front ring) = false := by
    simp [State.recordsPlot_eq, State.passes_opcode hpass, hother]
  exact exec_isQueuedForBoundary hcmd hpass hrow hrecords hrun

theorem exec_cohSetWeeder (hpass : s.passes 0x0501 ring = true) (hbudget : (s.front ring).byte 17 ≤ 64) :
    exec (.cohSetWeeder ring) s = s.waitsForBoundary ring :=
  exec_waitsForBoundary rfl hpass rfl ((runOp_CohSetWeeder (State.passes_opcode hpass)).trans (runCohSetWeeder_done hbudget))

theorem exec_cohSetSnoopTimeout (hpass : s.passes 0x0502 ring = true) (hlow : 16 ≤ (s.front ring).num 16 2)
    (hhigh : (s.front ring).num 16 2 ≤ 4096) : exec (.cohSetSnoopTimeout ring) s = s.waitsForBoundary ring :=
  exec_waitsForBoundary rfl hpass rfl
    ((runOp_CohSetSnoopTimeout (State.passes_opcode hpass)).trans (runCohSetSnoopTimeout_done hlow hhigh))

theorem exec_cohSetLoadThresholds (hpass : s.passes 0x0503 ring = true) (h1 : 1 ≤ (s.front ring).num 18 2)
    (h2 : (s.front ring).num 18 2 < (s.front ring).num 20 2) (h3 : (s.front ring).num 20 2 < (s.front ring).num 22 2)
    (hhigh : (s.front ring).num 22 2 ≤ 1024) : exec (.cohSetLoadThresholds ring) s = s.waitsForBoundary ring :=
  exec_waitsForBoundary rfl hpass rfl
    ((runOp_CohSetLoadThresholds (State.passes_opcode hpass)).trans (runCohSetLoadThresholds_done h1 h2 h3 hhigh))

theorem exec_cohReadEntry (hpass : s.passes 0x0504 ring = true) (hslice : (s.front ring).byte 16 ≤ 7)
    (hway : (s.front ring).byte 20 ≤ 15) :
    exec (.cohReadEntry ring) s = s.endsWith ring stDone (bytesOf 9 72 (((s.taken ring).slice ((s.front ring).byte 16)).entry
      (16 * (s.front ring).num 18 2 + (s.front ring).byte 20)).stored) (s.taken ring) :=
  exec_endsDone rfl hpass rfl ((runOp_CohReadEntry (State.passes_opcode hpass)).trans (runCohReadEntry_done hslice hway))

theorem exec_cohStatus (hpass : s.passes 0x0506 ring = true) (hslice : (s.front ring).byte 16 ≤ 7) :
    exec (.cohStatus ring) s = s.endsWith ring stDone
      (bytesOf 16 128 (BitVec.ofNat 128 ((s.taken ring).cohStatus ((s.front ring).byte 16)))) (s.taken ring) :=
  exec_endsDone rfl hpass rfl ((runOp_CohStatus (State.passes_opcode hpass)).trans (runCohStatus_done hslice))

theorem exec_vaultFlush (hpass : s.passes 0x0601 ring = true)
    (hbed : (s.front ring).num 16 2 ≤ 4095 ∨ (s.front ring).num 16 2 = 0xFFFF) :
    exec (.vaultFlush ring) s = s.isQueuedForBoundary ring :=
  exec_isQueuedForBoundary_other rfl hpass rfl (by decide)
    ((runOp_VaultFlush (State.passes_opcode hpass)).trans (runVaultFlush_queued hbed))

theorem exec_vaultSetWriteTimeout (hpass : s.passes 0x0602 ring = true) (hlow : 4 ≤ (s.front ring).num 16 2)
    (hhigh : (s.front ring).num 16 2 ≤ 256) : exec (.vaultSetWriteTimeout ring) s = s.waitsForBoundary ring :=
  exec_waitsForBoundary rfl hpass rfl
    ((runOp_VaultSetWriteTimeout (State.passes_opcode hpass)).trans (runVaultSetWriteTimeout_done hlow hhigh))

theorem exec_vaultSetPredictor (hpass : s.passes 0x0603 ring = true) (hlow : 1 ≤ (s.front ring).byte 17)
    (hhigh : (s.front ring).byte 17 ≤ 15) (hoff : (s.front ring).byte 18 < (s.front ring).byte 17) :
    exec (.vaultSetPredictor ring) s = s.waitsForBoundary ring :=
  exec_waitsForBoundary rfl hpass rfl
    ((runOp_VaultSetPredictor (State.passes_opcode hpass)).trans (runVaultSetPredictor_done hlow hhigh hoff))

theorem exec_vaultStatus (hpass : s.passes 0x0604 ring = true) (hslice : (s.front ring).byte 16 ≤ 7) :
    exec (.vaultStatus ring) s = s.endsWith ring stDone
      (bytesOf 16 128 (BitVec.ofNat 128 ((s.taken ring).vaultStatus ((s.front ring).byte 16)))) (s.taken ring) :=
  exec_endsDone rfl hpass rfl ((runOp_VaultStatus (State.passes_opcode hpass)).trans (runVaultStatus_done hslice))

theorem exec_vaultReadPredictor (hpass : s.passes 0x0606 ring = true) (hslice : (s.front ring).byte 16 ≤ 7)
    (hindex : (s.front ring).num 18 2 ≤ 4095) :
    exec (.vaultReadPredictor ring) s = s.endsWith ring stDone (bytesOf 11 88 (BitVec.ofNat 88
      (Tab.get ((s.taken ring).slice ((s.front ring).byte 16)).predictor {} ((s.front ring).num 18 2)).image)) (s.taken ring) :=
  exec_endsDone rfl hpass rfl
    ((runOp_VaultReadPredictor (State.passes_opcode hpass)).trans (runVaultReadPredictor_done hslice hindex))

end HomeEnds

/-- Settles O43: each command by the end that the catalogue names for it and by what its run does. -/
theorem homeCommandsRun : Obligations.HomeCommandsRun := by
  refine ⟨?weederWaits, ?weeder, ?timeoutWaits, ?timeout, ?thresholdsWait, ?thresholds, ?entry, ?lookup, ?status, ?refused,
    ?flushQueued, ?flush, ?writeWaits, ?write, ?predictorWaits, ?predictor, ?vaultStatus, ?tag, ?readPredictor⟩
  case weederWaits => rintro s u c ring hpass rfl rfl hbudget; exact exec_cohSetWeeder hpass hbudget
  case weeder => exact fun u c hop hbudget => (runOp_CohSetWeeder hop).trans (runCohSetWeeder_done hbudget)
  case timeoutWaits => rintro s u c ring hpass rfl rfl ⟨hlow, hhigh⟩; exact exec_cohSetSnoopTimeout hpass hlow hhigh
  case timeout => exact fun u c hop ⟨hlow, hhigh⟩ => (runOp_CohSetSnoopTimeout hop).trans (runCohSetSnoopTimeout_done hlow hhigh)
  case thresholdsWait => rintro s u c ring hpass rfl rfl ⟨h1, h2, h3, hhigh⟩; exact exec_cohSetLoadThresholds hpass h1 h2 h3 hhigh
  case thresholds =>
    exact fun u c hop ⟨h1, h2, h3, hhigh⟩ =>
      (runOp_CohSetLoadThresholds hop).trans (runCohSetLoadThresholds_done h1 h2 h3 hhigh)
  case entry => rintro s u c ring hpass rfl rfl ⟨hslice, hway⟩; exact exec_cohReadEntry hpass hslice hway
  case lookup =>
    rintro s u c ring hpass rfl rfl ⟨hbed, hdef, hoff⟩ hmiss
    exact exec_endsDone rfl hpass rfl
      ((runOp_CohLookup (State.passes_opcode hpass)).trans (runCohLookup_miss hbed hdef hoff hmiss))
  case status => rintro s u c ring hpass rfl rfl hslice; exact exec_cohStatus hpass hslice
  case refused =>
    rintro s u c ring hpass rfl rfl hslice
    exact exec_endsRefused rfl hpass rfl ((runOp_CohStatus (State.passes_opcode hpass)).trans (runCohStatus_refused hslice))
  case flushQueued => rintro s u c ring hpass rfl rfl hbed; exact exec_vaultFlush hpass hbed
  case flush => exact fun u c hop hbed => (runOp_VaultFlush hop).trans (runVaultFlush_queued hbed)
  case writeWaits => rintro s u c ring hpass rfl rfl ⟨hlow, hhigh⟩; exact exec_vaultSetWriteTimeout hpass hlow hhigh
  case write => exact fun u c hop ⟨hlow, hhigh⟩ => (runOp_VaultSetWriteTimeout hop).trans (runVaultSetWriteTimeout_done hlow hhigh)
  case predictorWaits => rintro s u c ring hpass rfl rfl ⟨hlow, hhigh, hoff⟩; exact exec_vaultSetPredictor hpass hlow hhigh hoff
  case predictor =>
    exact fun u c hop ⟨hlow, hhigh, hoff⟩ => (runOp_VaultSetPredictor hop).trans (runVaultSetPredictor_done hlow hhigh hoff)
  case vaultStatus => rintro s u c ring hpass rfl rfl hslice; exact exec_vaultStatus hpass hslice
  case tag =>
    rintro s u t c ring hpass rfl rfl ⟨hslice, hset, hway⟩ hcheck
    exact exec_endsDone rfl hpass rfl
      ((runOp_VaultReadTag (State.passes_opcode hpass)).trans (runVaultReadTag_done hslice hset hway hcheck))
  case readPredictor => rintro s u c ring hpass rfl rfl ⟨hslice, hindex⟩; exact exec_vaultReadPredictor hpass hslice hindex

/-! The control requests of a slice of the Barrow (R334), and the commands of group 0x07 (R322, R323, R341, R397, R398). -/

section SliceActs

variable {s : State} {k : Nat} {byBar : Bool}

theorem sliceAct_reset (hbound : (s.bslice k).state ≠ .unbound) : sliceAct k .reset byBar s = done (resetSlice k s) := by
  unfold sliceAct
  cases hstate : (s.bslice k).state <;> simp_all

theorem sliceAct_clearFault (hbound : (s.bslice k).state ≠ .unbound) :
    sliceAct k .clearFault byBar s = done (s.modBslice k (fun x => { x with fault := false })) := by
  unfold sliceAct
  cases hstate : (s.bslice k).state <;> simp_all

theorem sliceAct_freeze (all : Bool) (hrun : (s.bslice k).state = .running) :
    sliceAct k (.freeze all) byBar s = queuedFor (.freeze k)
      (s.modBslice k (fun x => { x with state := .freezing, freezeAll := all, freezeBar := byBar })) := by
  simp only [sliceAct, hrun]

theorem sliceAct_thaw (hfrozen : (s.bslice k).state = .frozen) :
    sliceAct k .thaw byBar s = done (s.modBslice k (fun x => { x with state := .running })) := by
  simp only [sliceAct, hfrozen]

theorem sliceAct_save (ad : BitVec 64) (up : Bool) (hfrozen : (s.bslice k).state = .frozen) (hidle : (s.bslice k).job = none) :
    sliceAct k (.save ad up) byBar s = queuedFor (.save k)
      (startSave k { save := true, byBar := byBar, address := ad, usePasid := up } s) := by
  simp only [sliceAct, hfrozen, hidle, Option.isSome_none, Bool.false_eq_true, if_false]

theorem sliceAct_restore (ad : BitVec 64) (up : Bool) (hfrozen : (s.bslice k).state = .frozen) (hidle : (s.bslice k).job = none)
    (hempty : (s.bslice k).queue = []) :
    sliceAct k (.restore ad up) byBar s = queuedFor (.restore k) (restoreRead k (s.modBslice k (fun x =>
      { x with job := some { save := false, byBar := byBar, address := ad, usePasid := up } }))) := by
  simp [sliceAct, hfrozen, hidle, hempty]

end SliceActs

section SliceCommands

variable {s : State} {c : Command}

/-- The device has 512 slices of the Barrow (R2). -/
theorem Command.badSlice_eq_false (hslice : c.num 16 2 ≤ 511) : c.badSlice = false :=
  decide_eq_false (Nat.not_lt.mpr hslice)

theorem runSliceBind_done (hslice : c.num 16 2 ≤ 511) (hvector : c.byte 18 ≤ 63) (hpasid : c.num 20 4 < 2 ^ 20)
    (hused : (s.plot c.plotField).state ≠ .free) (hunbound : (s.bslice (c.num 16 2)).state = .unbound) :
    runSliceBind c s = done (s.modBslice (c.num 16 2) (fun b =>
      { state := if c.byte 19 / 2 % 2 = 1 then .frozen else .running, plot := BitVec.ofNat 9 c.plotField,
        vector := BitVec.ofNat 6 (c.byte 18), dmaPasid := BitVec.ofNat 20 (c.num 20 4), pasidEn := decide (c.byte 19 % 2 = 1),
        runNo := b.runNo, running := b.running })) := by
  have hin : ¬ (63 < c.byte 18 ∨ 2 ^ 20 ≤ c.num 20 4 ∨ (s.plot c.plotField).state = .free) := by
    simp only [hused, or_false]
    omega
  simp only [runSliceBind, checks_cons, checks_nil, Command.badSlice_eq_false hslice, hin, Command.sliceNo, hunbound]
  rfl

theorem runSliceUnbind_done (hslice : c.num 16 2 ≤ 511) (hbound : (s.bslice (c.num 16 2)).state ≠ .unbound) :
    runSliceUnbind c s = done (unbindSlice (c.num 16 2) s) := by
  simp only [runSliceUnbind, checks_cons, checks_nil, Command.badSlice_eq_false hslice, Command.sliceNo, hbound]
  rfl

/-- An empty PASID table takes its first key at entry 0 (R323). -/
theorem runSliceMapPasid_done (hslice : c.num 16 2 ≤ 511) (hkey : c.badKey = false)
    (hbound : (s.bslice (c.num 16 2)).state ≠ .unbound)
    (hport : (s.plot (s.bslice (c.num 16 2)).plot.toNat).port.toNat = c.byte 18)
    (hnew : s.pasidKey (c.byte 18) (decide (c.byte 19 % 2 = 1)) (c.num 20 4) = none) (hempty : s.barrow.pasids = []) :
    runSliceMapPasid c s = done (s.modBarrow (fun b => { b with
      pasids := Tab.put b.pasids 0
        { valid := true, noPasid := decide (c.byte 19 % 2 = 1), port := BitVec.ofNat 7 (c.byte 18),
          pasid := BitVec.ofNat 20 (c.num 20 4), slice := BitVec.ofNat 9 (c.num 16 2) } })) := by
  have hfree : (List.range 4096).find? (fun i => !(Tab.get s.barrow.pasids {} i).valid) = some 0 := by
    rw [hempty, List.range_succ_eq_map]
    rfl
  simp only [runSliceMapPasid, checks_cons, checks_nil, hfree, Command.badSlice_eq_false hslice, hkey, Command.sliceNo, hbound, hport,
    hnew, ne_eq, not_true_eq_false]
  rfl

/-- The key leaves the entry at which the table has it. -/
theorem runSliceUnmapPasid_done {i : Nat} (hkey : c.badKey = false)
    (hfound : s.pasidKey (c.byte 18) (decide (c.byte 19 % 2 = 1)) (c.num 20 4) = some i) :
    runSliceUnmapPasid c s = done (s.modBarrow (fun b => { b with pasids := Tab.drop b.pasids i })) := by
  simp only [runSliceUnmapPasid, checks_cons, checks_nil, hkey, hfound]
  rfl

theorem runSliceFreeze_act (hslice : c.num 16 2 ≤ 511) (hmode : c.byte 18 ≤ 1) :
    runSliceFreeze c s = sliceAct (c.num 16 2) (.freeze (c.byte 18 == 0)) false s := by
  simp [runSliceFreeze, Command.badSlice_eq_false hslice, Nat.not_lt.mpr hmode, Command.sliceNo]

theorem runSliceThaw_act (hslice : c.num 16 2 ≤ 511) : runSliceThaw c s = sliceAct (c.num 16 2) .thaw false s := by
  simp [runSliceThaw, Command.badSlice_eq_false hslice, Command.sliceNo]

theorem runSliceReset_act (hslice : c.num 16 2 ≤ 511) : runSliceReset c s = sliceAct (c.num 16 2) .reset false s := by
  simp [runSliceReset, Command.badSlice_eq_false hslice, Command.sliceNo]

theorem runSliceClearFault_act (hslice : c.num 16 2 ≤ 511) :
    runSliceClearFault c s = sliceAct (c.num 16 2) .clearFault false s := by
  simp [runSliceClearFault, Command.badSlice_eq_false hslice, Command.sliceNo]

/-- The image of a save lies at a multiple of 4 KiB (R339). -/
theorem runSliceSave_act (hslice : c.num 16 2 ≤ 511) (halign : c.num 24 8 % 4096 = 0) :
    runSliceSave c s =
      sliceAct (c.num 16 2) (.save (BitVec.ofNat 64 (c.num 24 8)) (decide (c.byte 18 % 2 = 1))) false s := by
  simp [runSliceSave, Command.badSlice_eq_false hslice, halign, Command.sliceNo]

/-- The image of a restore lies at a multiple of 4 KiB (R340). -/
theorem runSliceRestore_act (hslice : c.num 16 2 ≤ 511) (halign : c.num 24 8 % 4096 = 0) :
    runSliceRestore c s =
      sliceAct (c.num 16 2) (.restore (BitVec.ofNat 64 (c.num 24 8)) (decide (c.byte 18 % 2 = 1))) false s := by
  simp [runSliceRestore, Command.badSlice_eq_false hslice, halign, Command.sliceNo]

theorem runSliceStatus_done (hslice : c.num 16 2 ≤ 511) (hbound : (s.bslice (c.num 16 2)).state ≠ .unbound) :
    runSliceStatus c s =
      doneWith (bytesOf 8 64 (s.bslice (c.num 16 2)).status ++ bytesOf 8 64 (s.bslice (c.num 16 2)).counts) s := by
  simp only [runSliceStatus, checks_cons, checks_nil, Command.badSlice_eq_false hslice, Command.sliceNo, hbound]
  rfl

/-- How a migration begins (R341, R342): the lines that the write buffer holds go to the target too. -/
def beginMigration (c : Command) (s : State) : State :=
  let q := (s.extent (c.num 20 4)).place
  let m : Migration :=
    { target := c.num 20 4, started := s.time.beats, rate := if c.num 24 2 = 0 then 512 else c.num 24 2 }
  alsoToTarget (c.num 16 4) q ((s.modPool (fun p => { p with migrations := Tab.put p.migrations (c.num 16 4) m })).modExtent (c.num 16 4)
    (fun e => { e with state := .migrating, mig := q }))

theorem runExtentMigrate_queued (hsrc : c.num 16 4 < 2 ^ 20) (hdst : c.num 20 4 < 2 ^ 20)
    (hrate : c.num 24 2 = 0 ∨ 64 ≤ c.num 24 2) (hmax : c.num 24 2 ≤ 16384) (hnone : s.pool.migrations = [])
    (hbound : (s.extent (c.num 16 4)).state = .bound) (hdef : (s.extent (c.num 20 4)).state = .defined)
    (houtside : s.pool.beds.any (fun e => decide (e.2.state ≠ .free ∧ e.2.base.toNat ≤ c.num 20 4 ∧
      c.num 20 4 < e.2.base.toNat + e.2.span.toNat)) = false) :
    runExtentMigrate c s = queuedFor (.migrate (c.num 16 4)) (beginMigration c s) := by
  have hin : ¬ (2 ^ 20 ≤ c.num 16 4 ∨ 2 ^ 20 ≤ c.num 20 4 ∨ (c.num 24 2 ≠ 0 ∧ c.num 24 2 < 64) ∨ 16384 < c.num 24 2) := by omega
  have htarget (n : Nat) : s.migTarget n = false := by simp [State.migTarget, hnone]
  simp only [runExtentMigrate, checks_cons, checks_nil, hin, htarget, hnone, hbound, hdef, houtside]
  simp only [beginMigration]
  rfl

theorem runExtentMigrateCancel_done (hext : c.num 16 4 < 2 ^ 20) (hmig : (s.extent (c.num 16 4)).state = .migrating) :
    runExtentMigrateCancel c s = done (s.modPool (fun p => { p with migrations := p.migrations.map (fun m =>
      if m.1 = c.num 16 4 then (m.1, { m.2 with cancel := some (m.2.cancel.getD s.teller.atTick.length) }) else m) })) := by
  simp only [runExtentMigrateCancel, checks_cons, checks_nil, Nat.not_le.mpr hext, hmig]
  rfl

end SliceCommands

/-- Settles O3: each row by the end that the catalogue names for it and by what its run finds. -/
theorem homeVaultAndSliceCommandsComplete : Obligations.HomeVaultAndSliceCommandsComplete := by
  rintro s u c ring n b e t rfl rfl rfl rfl rfl
  have hop {op : Nat} : s.passes op ring = true → (s.front ring).opcode.toNat = op := State.passes_opcode
  simp only [commandRows_cons, commandRows_nil, and_true]
  refine ⟨⟨fun hbudget hpass => exec_cohSetWeeder hpass hbudget, fun ⟨hlow, hhigh⟩ hpass => exec_cohSetSnoopTimeout hpass hlow hhigh,
      fun ⟨h1, h2, h3, hhigh⟩ hpass => exec_cohSetLoadThresholds hpass h1 h2 h3 hhigh,
      fun ⟨hlow, hhigh⟩ hpass => exec_vaultSetWriteTimeout hpass hlow hhigh,
      fun ⟨hlow, hhigh, hoff⟩ hpass => exec_vaultSetPredictor hpass hlow hhigh hoff,
      ?bind, ?unbind, ?mapPasid, ?unmapPasid, ?thaw, ?reset, ?clearFault⟩,
    ⟨fun ⟨hslice, hway⟩ hpass => ⟨_, _, exec_cohReadEntry hpass hslice hway⟩, ?lookup,
      fun hslice hpass => ⟨_, _, exec_cohStatus hpass hslice⟩, fun hslice hpass => ⟨_, _, exec_vaultStatus hpass hslice⟩, ?tag,
      fun ⟨hslice, hindex⟩ hpass => ⟨_, _, exec_vaultReadPredictor hpass hslice hindex⟩, ?sliceStatus, ?cancel⟩,
    fun hbed hpass => exec_vaultFlush hpass hbed, ?freeze, ?save, ?restore, ?migrate⟩
  case bind =>
    exact fun ⟨hslice, hvector, hpasid, hused, hunbound⟩ hpass => exec_waitsForBoundary rfl hpass rfl
      ((runOp_SliceBind (hop hpass)).trans (runSliceBind_done hslice hvector hpasid hused hunbound))
  case unbind =>
    exact fun ⟨hslice, hbound⟩ hpass => exec_waitsForBoundary rfl hpass rfl
      ((runOp_SliceUnbind (hop hpass)).trans (runSliceUnbind_done hslice hbound))
  case mapPasid =>
    exact fun ⟨hslice, hkey, hbound, hport, hnew, hempty⟩ hpass => exec_waitsForBoundary rfl hpass rfl
      ((runOp_SliceMapPasid (hop hpass)).trans (runSliceMapPasid_done hslice hkey hbound hport hnew hempty))
  case unmapPasid =>
    exact fun ⟨hkey, hfound⟩ hpass => exec_waitsForBoundary rfl hpass rfl
      ((runOp_SliceUnmapPasid (hop hpass)).trans (runSliceUnmapPasid_done hkey hfound))
  case thaw =>
    exact fun ⟨hslice, hfrozen⟩ hpass => exec_waitsForBoundary rfl hpass rfl
      ((runOp_SliceThaw (hop hpass)).trans ((runSliceThaw_act hslice).trans (sliceAct_thaw hfrozen)))
  case reset =>
    exact fun ⟨hslice, hbound⟩ hpass => exec_waitsForBoundary rfl hpass rfl
      ((runOp_SliceReset (hop hpass)).trans ((runSliceReset_act hslice).trans (sliceAct_reset hbound)))
  case clearFault =>
    exact fun ⟨hslice, hbound⟩ hpass => exec_waitsForBoundary rfl hpass rfl
      ((runOp_SliceClearFault (hop hpass)).trans ((runSliceClearFault_act hslice).trans (sliceAct_clearFault hbound)))
  case lookup =>
    exact fun ⟨hbed, hdef, hoff, hmiss⟩ hpass => ⟨_, _, exec_endsDone rfl hpass rfl
      ((runOp_CohLookup (hop hpass)).trans (runCohLookup_miss hbed hdef hoff hmiss))⟩
  case tag =>
    exact fun ⟨hslice, hset, hway, hcheck⟩ hpass => ⟨_, _, exec_endsDone rfl hpass rfl
      ((runOp_VaultReadTag (hop hpass)).trans (runVaultReadTag_done hslice hset hway hcheck))⟩
  case sliceStatus =>
    exact fun ⟨hslice, hbound⟩ hpass => ⟨_, _, exec_endsDone rfl hpass rfl
      ((runOp_SliceStatus (hop hpass)).trans (runSliceStatus_done hslice hbound))⟩
  case cancel =>
    exact fun ⟨hext, hmig⟩ hpass => ⟨_, _, exec_endsDone rfl hpass rfl
      ((runOp_ExtentMigrateCancel (hop hpass)).trans (runExtentMigrateCancel_done hext hmig))⟩
  case freeze =>
    exact fun ⟨hslice, hmode⟩ hrun hpass => exec_isQueuedForBoundary_other rfl hpass rfl (by decide)
      ((runOp_SliceFreeze (hop hpass)).trans ((runSliceFreeze_act hslice hmode).trans (sliceAct_freeze _ hrun)))
  case save =>
    exact fun ⟨hslice, halign⟩ hfrozen hidle hpass => exec_isQueuedForBoundary_other rfl hpass rfl (by decide)
      ((runOp_SliceSave (hop hpass)).trans ((runSliceSave_act hslice halign).trans (sliceAct_save _ _ hfrozen hidle)))
  case restore =>
    exact fun ⟨hslice, halign⟩ hfrozen ⟨hidle, hempty⟩ hpass => exec_isQueuedForBoundary_other rfl hpass rfl (by decide)
      ((runOp_SliceRestore (hop hpass)).trans
        ((runSliceRestore_act hslice halign).trans (sliceAct_restore _ _ hfrozen hidle hempty)))
  case migrate =>
    exact fun ⟨hsrc, hdst, hrate, hmax⟩ hnone ⟨hbound, hdef⟩ houtside hpass =>
      exec_isQueuedForBoundary_other rfl hpass rfl (by decide) ((runOp_ExtentMigrate (hop hpass)).trans
        (runExtentMigrate_queued hsrc hdst hrate hmax hnone hbound hdef houtside))

end Sys2Proof.Machine
end

section
/-! The switch-core family: the load levels of ports and home slices, and the commands that set their thresholds. -/

namespace Sys2Proof.Machine

/-! The grades of a depth or an occupancy, and where COH_STATUS shows the occupancy (R131, R182, R183). -/

/-- The cells that wait for a port, those in the virtual output queues and those in its staging (R182). -/
theorem State.depth_eq (s : State) (port : Nat) :
    s.depth port = s.switch.voq.countP (fun c => c.dst < 16 && c.egress == port) +
      s.switch.staging.countP (fun c => c.dst < 16 && c.egress == port) := by
  rw [State.depth, ← List.countP_eq_length_filter, List.countP_append]

/-- Rising thresholds cut the numbers into four grades. -/
theorem levelOf_eq_iff (n : Nat) {t1 t2 t3 : Nat} (h12 : t1 < t2) (h23 : t2 < t3) :
    (levelOf n t1 t2 t3 = 0 ↔ n < t1) ∧ (levelOf n t1 t2 t3 = 1 ↔ t1 ≤ n ∧ n ≤ t2 - 1) ∧
      (levelOf n t1 t2 t3 = 2 ↔ t2 ≤ n ∧ n ≤ t3 - 1) ∧ (levelOf n t1 t2 t3 = 3 ↔ t3 ≤ n) := by
  unfold levelOf
  split_ifs with light optimal moderate
  all_goals
    simp only [Nat.reduceEqDiff, true_iff, false_iff]
    omega

/-- A field at or above a bit leaves the bits below it clear. -/
theorem two_pow_dvd_fieldAt (v : Nat) {k lo : Nat} (h : k ≤ lo) : 2 ^ k ∣ fieldAt v lo :=
  (Nat.pow_dvd_pow 2 h).mul_left v

/-- Above the occupancy of COH_STATUS stand fields from bit 43 on, below it the stalls (R131). -/
theorem State.cohStatus_split (s : State) (sl : Nat) : ∃ above, 2 ^ 43 ∣ above ∧
    s.cohStatus sl = above + fieldAt (s.slice sl).openEntries 32 + (s.slice sl).stalls.toNat := by
  refine ⟨_, ?_, rfl⟩
  iterate 6 refine dvd_add ?_ (two_pow_dvd_fieldAt _ (by decide))
  exact two_pow_dvd_fieldAt _ (by decide)

theorem State.cohStatus_occupancy (s : State) (sl : Nat) :
    s.cohStatus sl / 2 ^ 32 % 2 ^ 11 = (s.slice sl).openEntries % 2 ^ 11 := by
  obtain ⟨_, ⟨q, rfl⟩, hsplit⟩ := s.cohStatus_split sl
  have hstalls : (s.slice sl).stalls.toNat < 2 ^ 32 := BitVec.isLt _
  rw [hsplit, fieldAt]
  omega

/-- Settles O53: the depth as a count, both levels by the one table of grades, the occupancy by the fields around it. -/
theorem loadLevels : Obligations.LoadLevels :=
  ⟨State.depth_eq, fun s port ⟨h12, h23⟩ => levelOf_eq_iff (s.depth port) h12 h23, State.cohStatus_occupancy,
    fun s sl ⟨h12, h23⟩ => levelOf_eq_iff (s.slice sl).openEntries h12 h23, fun _ _ _ => ⟨⟨rfl, rfl, rfl⟩, rfl, rfl, rfl⟩⟩

/-! The commands that set the thresholds (R187), and how a command of the tick boundary that its own check refuses is answered. -/

section LoadThresholds

variable {s : State} {c : Command}

/-- The thresholds of a command rise from 1 to a maximum (R187). -/
abbrev Command.thresholdsRise (c : Command) (most : Nat) : Prop :=
  1 ≤ c.num 18 2 ∧ c.num 18 2 < c.num 20 2 ∧ c.num 20 2 < c.num 22 2 ∧ c.num 22 2 ≤ most

theorem runPortSetLoadThresholds_refused (hout : ¬ c.thresholdsRise 4095) : runPortSetLoadThresholds c s = refuse stInvalidParam s := by
  simp only [runPortSetLoadThresholds, checks_cons, hout, not_false_eq_true, decide_true, if_true]

theorem runCohSetLoadThresholds_refused (hout : ¬ c.thresholdsRise 1024) : runCohSetLoadThresholds c s = refuse stInvalidParam s := by
  simp only [runCohSetLoadThresholds, checks_cons, hout, not_false_eq_true, decide_true, if_true]

theorem runOp_portSetLoadThresholds_eq (hop : c.opcode.toNat = 0x040A) :
    runOp c s = if c.thresholdsRise 4095 then
        done (forEach ((List.range 128).filter (fun p => (c.num 24 16).testBit p))
          (fun p t => t.modPort p (fun x => { x with t1 := c.num 18 2, t2 := c.num 20 2, t3 := c.num 22 2 })) s)
      else refuse stInvalidParam s := by
  rw [runOp_PortSetLoadThresholds hop]
  split
  case isTrue hrise =>
    obtain ⟨h1, h2, h3, hhigh⟩ := hrise
    exact runPortSetLoadThresholds_done h1 h2 h3 hhigh
  case isFalse hout => exact runPortSetLoadThresholds_refused hout

theorem runOp_cohSetLoadThresholds_eq (hop : c.opcode.toNat = 0x0503) :
    runOp c s = if c.thresholdsRise 1024 then
        done (forEach c.slices (fun i t => t.modSlice i (fun x => { x with t1 := c.num 18 2, t2 := c.num 20 2, t3 := c.num 22 2 })) s)
      else refuse stInvalidParam s := by
  rw [runOp_CohSetLoadThresholds hop]
  split
  case isTrue hrise =>
    obtain ⟨h1, h2, h3, hhigh⟩ := hrise
    exact runCohSetLoadThresholds_done h1 h2 h3 hhigh
  case isFalse hout => exact runCohSetLoadThresholds_refused hout

end LoadThresholds

section TickEnds

variable {s : State} {i : Instr} {op ring : Nat}

/-- A command of the tick boundary that its own check refuses is answered at once, and nothing waits (R359, R381). -/
theorem exec_tickRefused {n : Nat} {t : State} (hcmd : i.command = some (op, ring)) (hpass : s.passes op ring = true)
    (hrow : (opInfo op).map (fun o => (o.guarded, o.ends)) = some (false, .tick)) (hstatus : n ≠ stDone)
    (hrun : runOp (s.front ring) (s.taken ring) = refuse n t) :
    exec i s = s.becomes (answerStart (s.front ring) n [] (s.taken ring)) := by
  obtain ⟨o, hinfo, hguard, hends, hother, hexec⟩ := exec_unguarded hcmd hpass hrow (by decide)
  have hruns : tellerCommand op ring s = answerStart (s.front ring) n [] (s.taken ring) := by
    rw [tellerCommand_runs hpass hinfo hguard]
    simp only [runStarted, State.passes_opcode hpass, hother, hends, runAtBoundary, hrun, refuse, hstatus, if_false]
  rw [hexec, hruns, State.becomes]

/-- A command of the tick boundary with one check waits for the boundary where the check holds, and is refused where it fails. -/
theorem exec_tickChecked {P : Prop} [Decidable P] {n : Nat} {t u : State} (hcmd : i.command = some (op, ring))
    (hpass : s.passes op ring = true) (hrow : (opInfo op).map (fun o => (o.guarded, o.ends)) = some (false, .tick))
    (hstatus : n ≠ stDone) (hrun : runOp (s.front ring) (s.taken ring) = if P then done t else refuse n u) :
    exec i s = if P then s.waitsForBoundary ring else s.becomes (answerStart (s.front ring) n [] (s.taken ring)) := by
  split
  case isTrue h => exact exec_waitsForBoundary hcmd hpass hrow (hrun.trans (if_pos h))
  case isFalse h => exact exec_tickRefused hcmd hpass hrow hstatus (hrun.trans (if_neg h))

end TickEnds

/-- Settles O54: each command by its run, which its one check decides, now and again at the boundary. -/
theorem loadThresholdCommands : Obligations.LoadThresholdCommands := by
  refine ⟨?rows, ?port, fun _ _ => runOp_portSetLoadThresholds_eq, ?slice, fun _ _ => runOp_cohSetLoadThresholds_eq⟩
  case rows =>
    rintro op (rfl | rfl)
    · exact ⟨_, rfl, rfl, rfl⟩
    · exact ⟨_, rfl, rfl, rfl⟩
  case port =>
    rintro s u c ring hpass rfl rfl
    exact exec_tickChecked rfl hpass rfl (by decide) (runOp_portSetLoadThresholds_eq (State.passes_opcode hpass))
  case slice =>
    rintro s u c ring hpass rfl rfl
    exact exec_tickChecked rfl hpass rfl (by decide) (runOp_cohSetLoadThresholds_eq (State.passes_opcode hpass))

end Sys2Proof.Machine
end

section
/-! The family of the CXL ports: the port commands of group 0x04 (R204 to R228, R393, R394). -/

namespace Sys2Proof.Machine

/-! What the guarded commands do at their commit, and what PORT_READ refuses. The other runs stand with O2. -/

section PortCommandRuns

variable {s : State} {c : Command}

/-- A layout that keeps the rules and the limits is taken where no port of the station is in use, whichever of them change (R206). -/
theorem runPortSetRole_done (hstation : c.blk 0 1 ≤ 15) (hgood : layoutGood (layoutOf c s) (fun i => c.blk (8 + 8 * i) 8 == 0) = true)
    (hup : s.roleCount (c.blk 0 1) (layoutOf c s) 1 ≤ 64) (hdown : s.roleCount (c.blk 0 1) (layoutOf c s) 2 ≤ 96)
    (hidle : ∀ i < 8, s.portInUse (8 * c.blk 0 1 + i) = false) :
    runPortSetRole c s = done (forEach (List.range 8)
      (fun i t => setPortRole (8 * c.blk 0 1 + i) (((layoutOf c s)[i]?).getD {}) t) s) := by
  have hlimits : ¬ (64 < s.roleCount (c.blk 0 1) (layoutOf c s) 1 ∨ 96 < s.roleCount (c.blk 0 1) (layoutOf c s) 2) := by omega
  have hunused (p : Nat → Bool) : ((List.range 8).filter p).any (fun i => s.portInUse (8 * c.blk 0 1 + i)) = false :=
    List.any_eq_false.mpr fun i hi => by simp [hidle i (List.mem_range.mp (List.mem_of_mem_filter hi))]
  simp only [runPortSetRole, checks_cons, checks_nil, Nat.not_lt.mpr hstation, hgood, hlimits, hunused]
  rfl

theorem runPortBindLd_done (hport : c.byte 16 ≤ 127) (hhost : c.byte 18 ≤ 127) (hld : c.byte 17 ≤ 15 ∨ c.byte 17 = 0xFF)
    (hlow : 8 ≤ c.byte 19) (hhigh : c.byte 19 ≤ 15) (hdown : (s.port (c.byte 16)).downstream = true)
    (hup : (s.port (c.byte 18)).upstream = true)
    (hfree : s.pool.extents.any (fun e => decide (e.2.state ≠ .free ∧ e.2.place.port.toNat = c.byte 16 ∧
      (c.byte 17 = 0xFF ∨ e.2.place.ld.toNat = c.byte 17))) = false)
    (hempty : (s.vppb (c.byte 18) (c.byte 19)).bound = none) {t : State}
    (ht : (s.modVppb (c.byte 18) (c.byte 19) (fun x => { x with bound := some (c.byte 16, c.byte 17) })).modPort (c.byte 16)
      (fun p => { p with decoder0 := if c.byte 17 = 0xFF then [] else Tab.drop p.decoder0 (c.byte 17) }) = t) :
    runPortBindLd c s = done (if (s.port (c.byte 16)).inL0 then showDevice (c.byte 18) (c.byte 19) true t else t) := by
  have hin : ¬ (127 < c.byte 16 ∨ 127 < c.byte 18 ∨ (15 < c.byte 17 ∧ c.byte 17 ≠ 0xFF) ∨ c.byte 19 < 8 ∨ 15 < c.byte 19) := by
    omega
  simp only [runPortBindLd, checks_cons, checks_nil, hin, hdown, hup, hfree, hempty, ht]
  rfl

theorem runPortUnbindLd_done (hhost : c.byte 16 ≤ 127) (hlow : 8 ≤ c.byte 17) (hhigh : c.byte 17 ≤ 15)
    (hup : (s.port (c.byte 16)).upstream = true) (hbound : (s.vppb (c.byte 16) (c.byte 17)).bound.isSome = true) {t : State}
    (ht : giveDecoders (s.vppb (c.byte 16) (c.byte 17)).bound
      (s.modVppb (c.byte 16) (c.byte 17) (fun x => { x with bound := none })) = t) :
    runPortUnbindLd c s =
      done (if (s.vppb (c.byte 16) (c.byte 17)).presence then showDevice (c.byte 16) (c.byte 17) false t else t) := by
  have hin : ¬ (127 < c.byte 16 ∨ c.byte 17 < 8 ∨ 15 < c.byte 17) := by omega
  have hcarries : (s.vppb (c.byte 16) (c.byte 17)).bound.isNone = false := by rw [← Option.not_isSome, hbound]; rfl
  simp only [runPortUnbindLd, checks_cons, checks_nil, hin, hup, hcarries, ht]
  rfl

theorem runPortRead_refused (hport : 127 < c.byte 16) : runPortRead c s = refuse stInvalidParam s := by
  simp only [runPortRead, checks_cons, checks_nil, hport]
  rfl

end PortCommandRuns

section PortCommandEnds

variable {s : State} {ring : Nat}

/-- PORT_PREPARE_REMOVAL reads the extents and the ports alone for its checks, so what it finds holds in the state that is QUEUED. -/
theorem exec_portPrepareRemoval (hpass : s.passes 0x0406 ring = true) (hport : (s.front ring).byte 16 ≤ 127)
    (hdown : (s.port ((s.front ring).byte 16)).downstream = true) (hidle : s.removalBusy ((s.front ring).byte 16) = false) :
    exec (.portPrepareRemoval ring) s = s.isQueued ring (.removal ((s.front ring).byte 16)) (fun t =>
      if (t.port ((s.front ring).byte 16)).entry.slotValid && (t.chCopy (t.port ((s.front ring).byte 16)).entry.slot.toNat).powered
      then removePort ((s.front ring).byte 16) t
      else finishJob (.removal ((s.front ring).byte 16)) stDone [] (removePort ((s.front ring).byte 16) t)) :=
  exec_isQueued_pool rfl hpass rfl (by decide) fun t hpool hports =>
    (runOp_PortPrepareRemoval (State.passes_opcode hpass)).trans (runPortPrepareRemoval_queued hport
      (by simpa [State.port, hports] using hdown) (by simpa [State.removalBusy, State.boundVppbs, hpool, hports] using hidle))

end PortCommandEnds

/-- Settles O41: each command by the end that the catalogue names for it and by what its run does. -/
theorem portCommandsRun : Obligations.PortCommandsRun := by
  refine ⟨fun _ _ hpass => exec_isStaged rfl hpass rfl, ?role, ?linkWaits, ?link, ?retrainWaits, ?retrain, ?read, ?refused, ?status,
    ?removal, ?keyWaits, ?key, fun _ _ hpass => exec_isStaged rfl hpass rfl, ?bind, fun _ _ hpass => exec_isStaged rfl hpass rfl,
    ?unbind, ?thresholdsWait, ?thresholds⟩
  case role =>
    exact fun u c hop hstation hgood ⟨hup, hdown⟩ hidle =>
      (runOp_PortSetRole hop).trans (runPortSetRole_done hstation hgood hup hdown hidle)
  case linkWaits =>
    rintro s u c ring hpass rfl rfl ⟨hport, hrate⟩
    exact exec_waitsForBoundary rfl hpass rfl
      ((runOp_PortSetLink (State.passes_opcode hpass)).trans (runPortSetLink_done hport hrate))
  case link => exact fun u c hop ⟨hport, hrate⟩ => (runOp_PortSetLink hop).trans (runPortSetLink_done hport hrate)
  case retrainWaits =>
    rintro s u c ring hpass rfl rfl hport
    exact exec_waitsForBoundary rfl hpass rfl ((runOp_PortRetrain (State.passes_opcode hpass)).trans (runPortRetrain_done hport))
  case retrain => exact fun u c hop hport => (runOp_PortRetrain hop).trans (runPortRetrain_done hport)
  case read =>
    rintro s u c ring hpass rfl rfl hport
    exact exec_endsDone rfl hpass rfl ((runOp_PortRead (State.passes_opcode hpass)).trans (runPortRead_done hport))
  case refused =>
    rintro s u c ring hpass rfl rfl hport
    exact exec_endsRefused rfl hpass rfl ((runOp_PortRead (State.passes_opcode hpass)).trans (runPortRead_refused hport))
  case status =>
    rintro s u c ring hpass rfl rfl hport
    exact exec_endsDone rfl hpass rfl ((runOp_PortStatus (State.passes_opcode hpass)).trans (runPortStatus_done hport))
  case removal => rintro s c ring hpass rfl ⟨hport, hdown⟩ hidle; exact exec_portPrepareRemoval hpass hport hdown hidle
  case keyWaits =>
    rintro s u c ring hpass rfl rfl ⟨hport, hstream, hset, hdir⟩ hup
    exact exec_waitsForBoundary rfl hpass rfl
      ((runOp_PortSetIdeKey (State.passes_opcode hpass)).trans (runPortSetIdeKey_done hport hstream hset hdir hup))
  case key =>
    exact fun u c hop ⟨hport, hstream, hset, hdir⟩ hup =>
      (runOp_PortSetIdeKey hop).trans (runPortSetIdeKey_done hport hstream hset hdir hup)
  case bind =>
    exact fun u t c hop ⟨hport, hhost, hld, hlow, hhigh⟩ ⟨hdown, hup⟩ hfree hempty ht =>
      (runOp_PortBindLd hop).trans (runPortBindLd_done hport hhost hld hlow hhigh hdown hup hfree hempty ht)
  case unbind =>
    exact fun u t c hop ⟨hhost, hlow, hhigh⟩ ⟨hup, hbound⟩ ht =>
      (runOp_PortUnbindLd hop).trans (runPortUnbindLd_done hhost hlow hhigh hup hbound ht)
  case thresholdsWait =>
    rintro s u c ring hpass rfl rfl ⟨h1, h2, h3, hhigh⟩
    exact exec_waitsForBoundary rfl hpass rfl
      ((runOp_PortSetLoadThresholds (State.passes_opcode hpass)).trans (runPortSetLoadThresholds_done h1 h2 h3 hhigh))
  case thresholds =>
    exact fun u c hop ⟨h1, h2, h3, hhigh⟩ =>
      (runOp_PortSetLoadThresholds hop).trans (runPortSetLoadThresholds_done h1 h2 h3 hhigh)

end Sys2Proof.Machine
end

section
/-! The family of the serial lanes: the events of the lanes and of the trunks, the flits of a trunk, and the lane and trunk commands
of group 0x04 (R236 to R294). -/

namespace Sys2Proof.Machine

/-! What LANE_STATUS does, without and with its clear flag (R257). The other runs stand with O2. -/

section LaneStatusRuns

variable {s : State} {c : Command}

theorem runLaneStatus_keeps (hkeep : c.byte 17 % 2 = 0) :
    runLaneStatus c s = doneWith (bytesOf 16 128 (BitVec.ofNat 128 (s.laneStatus (c.byte 16)))) s := by
  have hclear : ¬ c.byte 17 % 2 = 1 := by omega
  simp only [runLaneStatus, hclear, if_false]

/-- LANE_STATUS with its clear flag answers the sticky flags as they stood and clears them (R257). -/
theorem runLaneStatus_clears (hclear : c.byte 17 % 2 = 1) :
    runLaneStatus c s = doneWith (bytesOf 16 128 (BitVec.ofNat 128 (s.laneStatus (c.byte 16))))
      (s.modLane (c.byte 16) (fun l => { l with losSticky := false, lolSticky := false })) := by
  simp only [runLaneStatus, hclear, if_true]

end LaneStatusRuns

/-! How `exec` answers the lane and trunk commands that are QUEUED. They read the ports, the lanes and the trunks alone, which being
QUEUED leaves as they are. -/

section LaneAndTrunkEnds

variable {s t : State} {ring : Nat}

theorem State.port_congr (hports : t.ports = s.ports) : t.port = s.port := by
  unfold State.port; rw [hports]

theorem State.lane_congr (hlanes : t.lanes = s.lanes) : t.lane = s.lane := by
  unfold State.lane; rw [hlanes]

theorem State.trunk_congr (htrunks : t.trunks = s.trunks) : t.trunk = s.trunk := by
  unfold State.trunk; rw [htrunks]

theorem State.portOfLane_congr (hports : t.ports = s.ports) : t.portOfLane = s.portOfLane := by
  unfold State.portOfLane; rw [hports]

/-- Whether a lane is active in L0 is a matter of the tables of ports, lanes and trunks (R241, R250, R253). -/
theorem State.laneInL0_congr (hports : t.ports = s.ports) (hlanes : t.lanes = s.lanes) (htrunks : t.trunks = s.trunks) :
    t.laneInL0 = s.laneInL0 := by
  unfold State.laneInL0 State.laneActive
  rw [State.portOfLane_congr hports, State.port_congr hports, State.lane_congr hlanes, State.trunk_congr htrunks]

/-- A command that reads the ports, the lanes and the trunks alone is QUEUED with the work that it makes of any state with the same
three. -/
theorem exec_isQueued_links {i : Instr} {op : Nat} {k : JobKind} {f : State → State} (hcmd : i.command = some (op, ring))
    (hpass : s.passes op ring = true) (hrow : (opInfo op).map (fun o => (o.guarded, o.ends)) = some (false, .queued))
    (hother : op ≠ 0x0D01)
    (hrun : ∀ t : State, t.ports = s.ports → t.lanes = s.lanes → t.trunks = s.trunks → runOp (s.front ring) t = queuedFor k (f t)) :
    exec i s = s.isQueued ring k f :=
  exec_isQueued hcmd hpass hrow hother
    (congrArg Prod.fst (hrun _ (State.taken_ports s ring) (State.taken_lanes s ring) (State.taken_trunks s ring)))
    (congrArg Prod.snd (hrun _ (State.noted_ports s ring k) (State.noted_lanes s ring k) (State.noted_trunks s ring k)))

theorem exec_laneEyeScan (hpass : s.passes 0x0415 ring = true) (hlow : 16 ≤ (s.front ring).byte 17)
    (hhigh : (s.front ring).byte 17 ≤ 30) (hup : s.laneInL0 ((s.front ring).byte 16) = true)
    (hidle : (s.lane ((s.front ring).byte 16)).marginStatus ≠ 3) (hnone : (s.lane ((s.front ring).byte 16)).scanWaits = none)
    (hfree : (s.lane ((s.front ring).byte 16)).margining = false) :
    exec (.laneEyeScan ring) s = s.isQueued ring (.eyeScan ((s.front ring).byte 16))
      (fun t => startScan ((s.front ring).byte 16) ((s.front ring).byte 17) false t) :=
  exec_isQueued_links rfl hpass rfl (by decide) fun t hports hlanes htrunks => by
    have hlane := State.lane_congr hlanes
    exact (runOp_LaneEyeScan (State.passes_opcode hpass)).trans (runLaneEyeScan_queued hlow hhigh
      (State.laneInL0_congr hports hlanes htrunks ▸ hup) (hlane ▸ hidle) (hlane ▸ hnone) (hlane ▸ hfree))

theorem exec_trunkSetLink (hpass : s.passes 0x0423 ring = true) (hport : (s.front ring).byte 16 ≤ 127)
    (htrunk : (s.port ((s.front ring).byte 16)).isTrunk = true) (hlow : 1 ≤ (s.front ring).byte 17)
    (hwidth : (s.front ring).byte 17 ≤ (s.port ((s.front ring).byte 16)).entry.width.toNat)
    (hrate : (s.front ring).byte 18 ≤ (s.trunk ((s.front ring).byte 16 / 8)).entry.maxRate.toNat)
    (hup : (s.trunk ((s.front ring).byte 16 / 8)).state = .up) :
    exec (.trunkSetLink ring) s = s.isQueued ring (.trunk ((s.front ring).byte 16 / 8))
      (fun t => startRetrain ((s.front ring).byte 16 / 8) ((s.front ring).byte 17) ((s.front ring).byte 18) 1 t) :=
  exec_isQueued_links rfl hpass rfl (by decide) fun t hports _ htrunks => by
    have hsame := State.port_congr hports
    have hsameTrunk := State.trunk_congr htrunks
    exact (runOp_TrunkSetLink (State.passes_opcode hpass)).trans (runTrunkSetLink_queued
      (State.notTrunk_of_isTrunk hport (hsame ▸ htrunk)) hlow (hsame ▸ hwidth) (hsameTrunk ▸ hrate) (hsameTrunk ▸ hup))

theorem exec_trunkRetrain (hpass : s.passes 0x0424 ring = true) (hport : (s.front ring).byte 16 ≤ 127)
    (htrunk : (s.port ((s.front ring).byte 16)).isTrunk = true) (hup : (s.trunk ((s.front ring).byte 16 / 8)).state = .up) :
    exec (.trunkRetrain ring) s = s.isQueued ring (.trunk ((s.front ring).byte 16 / 8))
      (fun t => startRetrain ((s.front ring).byte 16 / 8) ((t.trunk ((s.front ring).byte 16 / 8)).width.toNat + 1)
        (t.trunk ((s.front ring).byte 16 / 8)).rate.toNat 1 t) :=
  exec_isQueued_links rfl hpass rfl (by decide) fun t hports _ htrunks => by
    have hsame := State.port_congr hports
    have hsameTrunk := State.trunk_congr htrunks
    exact (runOp_TrunkRetrain (State.passes_opcode hpass)).trans
      (runTrunkRetrain_queued (State.notTrunk_of_isTrunk hport (hsame ▸ htrunk)) (hsameTrunk ▸ hup))

end LaneAndTrunkEnds

/-- Settles O42: each command by the end that the catalogue names for it and by what its run does. -/
theorem laneAndTrunkCommandsRun : Obligations.LaneAndTrunkCommandsRun := by
  refine ⟨?laneSetWaits, ?laneSet, ?laneRead, ?statusKeeps, ?statusClears, ?loopWaits, ?loop, ?prbsWaits, ?prbs, ?eyeScan,
    ?trunkSetWaits, ?trunkSet, ?trunkRead, ?trunkStatus, ?trunkLink, ?trunkRetrain, ?restart, ?buffers, ?routeWaits,
    fun _ _ => runOp_TrunkSetRoute⟩
  case laneSetWaits =>
    rintro s u c ring hpass rfl rfl hpreset hmode hidle ⟨hlos, hlol, hzero⟩
    exact exec_waitsForBoundary rfl hpass rfl
      ((runOp_LaneSet (State.passes_opcode hpass)).trans (runLaneSet_done hpreset hmode hidle hlos hlol hzero))
  case laneSet =>
    exact fun u c hop hpreset hmode hidle ⟨hlos, hlol, hzero⟩ =>
      (runOp_LaneSet hop).trans (runLaneSet_done hpreset hmode hidle hlos hlol hzero)
  case laneRead =>
    rintro s u c ring hpass rfl rfl
    exact exec_endsDone rfl hpass rfl (runOp_LaneRead (State.passes_opcode hpass))
  case statusKeeps =>
    rintro s u c ring hpass rfl rfl hkeep
    exact exec_endsDone rfl hpass rfl ((runOp_LaneStatus (State.passes_opcode hpass)).trans (runLaneStatus_keeps hkeep))
  case statusClears =>
    rintro s u c ring hpass rfl rfl hclear
    exact exec_endsDone rfl hpass rfl ((runOp_LaneStatus (State.passes_opcode hpass)).trans (runLaneStatus_clears hclear))
  case loopWaits =>
    rintro s u c ring hpass rfl rfl hloop
    exact exec_waitsForBoundary rfl hpass rfl
      ((runOp_LaneSetLoop (State.passes_opcode hpass)).trans (runLaneSetLoop_done hloop))
  case loop =>
    -- `setLoop` asks for the lane's port before the lane is looped: the port table stays as it is.
    intro u c hop hloop
    exact (runOp_LaneSetLoop hop).trans (runLaneSetLoop_done hloop)
  case prbsWaits =>
    rintro s u c ring hpass rfl rfl ⟨hgen, hchk⟩
    exact exec_waitsForBoundary rfl hpass rfl ((runOp_LanePrbs (State.passes_opcode hpass)).trans (runLanePrbs_done hgen hchk))
  case prbs => exact fun u c hop ⟨hgen, hchk⟩ => (runOp_LanePrbs hop).trans (runLanePrbs_done hgen hchk)
  case eyeScan =>
    rintro s c ring hpass rfl ⟨hlow, hhigh⟩ hup ⟨hidle, hnone, hfree⟩
    exact exec_laneEyeScan hpass hlow hhigh hup hidle hnone hfree
  case trunkSetWaits =>
    rintro s u c ring hpass rfl rfl ⟨hport, htrunk⟩ ⟨hlow, hhigh, hhold, hrate⟩
    exact exec_waitsForBoundary rfl hpass rfl ((runOp_TrunkSet (State.passes_opcode hpass)).trans
      (runTrunkSet_done (State.notTrunk_of_isTrunk hport htrunk) hlow hhigh hhold hrate))
  case trunkSet =>
    exact fun u c hop ⟨hport, htrunk⟩ ⟨hlow, hhigh, hhold, hrate⟩ =>
      (runOp_TrunkSet hop).trans (runTrunkSet_done (State.notTrunk_of_isTrunk hport htrunk) hlow hhigh hhold hrate)
  case trunkRead =>
    rintro s u c ring hpass rfl rfl ⟨hport, htrunk⟩
    exact exec_endsDone rfl hpass rfl
      ((runOp_TrunkRead (State.passes_opcode hpass)).trans (runTrunkRead_done (State.notTrunk_of_isTrunk hport htrunk)))
  case trunkStatus =>
    rintro s u c ring hpass rfl rfl ⟨hport, htrunk⟩
    exact exec_endsDone rfl hpass rfl
      ((runOp_TrunkStatus (State.passes_opcode hpass)).trans (runTrunkStatus_done (State.notTrunk_of_isTrunk hport htrunk)))
  case trunkLink =>
    rintro s c ring hpass rfl ⟨hport, htrunk⟩ ⟨hlow, hwidth, hrate⟩ hup
    exact exec_trunkSetLink hpass hport htrunk hlow hwidth hrate hup
  case trunkRetrain => rintro s c ring hpass rfl ⟨hport, htrunk⟩ hup; exact exec_trunkRetrain hpass hport htrunk hup
  case restart =>
    rintro s u c ring hpass rfl rfl ⟨hport, htrunk⟩ hdown
    exact exec_endsDone rfl hpass rfl
      ((runOp_TrunkRestart (State.passes_opcode hpass)).trans (runTrunkRestart_done (State.notTrunk_of_isTrunk hport htrunk) hdown))
  case buffers =>
    rintro s u c ring hpass rfl rfl ⟨hport, htrunk⟩ ⟨hsum, h1⟩ ⟨h0, h2, h3, h4⟩ ⟨h5, h6, h7⟩
    exact exec_endsDone rfl hpass rfl ((runOp_TrunkSetBuffers (State.passes_opcode hpass)).trans
      (runTrunkSetBuffers_done (State.notTrunk_of_isTrunk hport htrunk) hsum h1 h0 h2 h3 h4 h5 h6 h7))
  case routeWaits =>
    rintro s u c ring hpass rfl rfl
    exact exec_waitsForBoundary rfl hpass rfl (runOp_TrunkSetRoute (State.passes_opcode hpass))

/-! Events of the lanes and of the trunks that look their subject up (R243, R254, R262, R276, R282). -/

section LaneAndTrunkEvents

variable {s : State}

/-- A margining request of a host names a lane of an upstream port in L0; one that begins ends the lane's scan (R254). -/
theorem exec_laneMarginingRequest {lane p : Nat} (on : Bool) (hon : s.fabricOn = true) (hlane : lane < 256)
    (hport : s.portOfLane lane = some p) (hup : (s.port p).upstream = true) (hl0 : (s.port p).inL0 = true) :
    exec (.laneMarginingRequest lane on) s =
      s.becomes ((if on then abortScan lane else id) (s.modLane lane (fun l => { l with margining := on }))) := by
  have hexec : exec (.laneMarginingRequest lane on) s = execLaneMarginingRequest lane on s := rfl
  rw [hexec, execLaneMarginingRequest, hport]
  refine (whenWf_onlyIf_becomes (decide_eq_true hlane) (by simp only [hon, hup, hl0, Bool.and_self])).trans ?_
  cases on <;> rfl

/-- An unacknowledged RETRAIN request is sent again once per tick (R282). -/
theorem exec_retrainRequestRepeat {st : Nat} (hon : s.fabricOn = true) (hst : st < 16) (hwaits : (s.trunk st).acked = false)
    (hstate : (s.trunk st).state = .up ∨ (s.trunk st).state = .retrain)
    (hdue : (s.trunk st).request.any (fun q => decide (q.2.2.2 + (s.trunk st).requestSent ≤ s.tick)) = true) :
    exec (.retrainRequestRepeat st) s = s.becomes (repeatRequest st s) := by
  obtain ⟨⟨width, rate, reason, sent⟩, hrequest, hold⟩ := (Option.any_eq_true _ _).mp hdue
  have hexec : exec (.retrainRequestRepeat st) s = execRetrainRequestRepeat st s := rfl
  rw [hexec, execRetrainRequestRepeat]
  exact whenWf_onlyIf_becomes (decide_eq_true hst) (by simp only [hon, hwaits, hstate, hrequest, hold]; rfl)

/-- A quiet trunk whose idle count has run out goes to lane idle (R243). -/
theorem exec_laneIdleEntry {st : Nat} (hon : s.fabricOn = true) (hst : st < 16) (hup : (s.trunk st).state = .up)
    (hawake : (s.trunk st).idle = false) (hquiet : s.trunkQuiet st = true)
    (hdue : (s.idleCount st).any (fun n => decide ((s.trunk st).lastTx + n ≤ s.time.beats)) = true) :
    exec (.laneIdleEntry st) s = s.becomes (s.modTrunk st (fun x =>
      { x with idle := true, idleBeat := s.time.beats, wakeBeat := none, burst := sleepMarker })) := by
  obtain ⟨n, hcount, hold⟩ := (Option.any_eq_true _ _).mp hdue
  have hexec : exec (.laneIdleEntry st) s = execLaneIdleEntry st s := rfl
  rw [hexec, execLaneIdleEntry]
  exact whenWf_onlyIf_becomes (decide_eq_true hst) (by simp only [hon, hup, hawake, hquiet, hcount, hold]; rfl)

/-- Hellos begin again after the wait that a failed hello leaves (R262). -/
theorem exec_helloWaitEnd {st : Nat} (hon : s.fabricOn = true) (hst : st < 16) (hhello : (s.trunk st).state = .hello)
    (hdue : (s.trunk st).waitFrom.any (fun w => decide (w + 1024 ≤ s.tick)) = true) :
    exec (.helloWaitEnd st) s = s.becomes (startHello st s) := by
  obtain ⟨w, hfrom, hold⟩ := (Option.any_eq_true _ _).mp hdue
  have hexec : exec (.helloWaitEnd st) s = execHelloWaitEnd st s := rfl
  rw [hexec, execHelloWaitEnd]
  exact whenWf_onlyIf_becomes (decide_eq_true hst) (by simp only [hon, hhello, hfrom, hold]; rfl)

/-- A NAK of 1 to 16 records resends its flits where the trunk, with the NAK's header taken in, is UP (R267, R276). -/
theorem exec_trunkNak {st n : Nat} (hdr : LinkHeader) (rec : List NakRecord) (hst : st < 16) (hhears : s.hears st = true)
    (hlow : 1 ≤ n) (hhigh : n ≤ 16) (hup : ((otherFlit st hdr s).trunk st).state = .up) :
    exec (.trunkNak st hdr n rec) s = s.becomes (nakOp st (rec.take n) (otherFlit st hdr s)) := by
  have hexec : exec (.trunkNak st hdr n rec) s = execTrunkNak st hdr n rec s := rfl
  rw [hexec, execTrunkNak, whenWf_onlyIf_becomes (decide_eq_true hst) hhears]
  simp only [hlow, hhigh, hup, and_self, if_true]

end LaneAndTrunkEvents

/-- Settles O9: each row by its meaning, whose guard the row's condition meets. -/
theorem laneEventsComplete : Obligations.LaneEventsComplete := by
  intro s lane p errors on lf ri tp bo
  simp only [rows_cons, rows_nil, and_true]
  refine ⟨fun hon hlane => ⟨?margining, ?los, ?lol, ?scan, ?losEnds, ?lolEnds⟩, ?lock, ?lockLost⟩
  case margining => exact fun ⟨hport, hup, hl0⟩ => exec_laneMarginingRequest on hon hlane hport hup hl0
  case los => exact fun hclear => whenWf_onlyIf_becomes (decide_eq_true hlane) (by simp [hon, hclear])
  case lol => exact fun hclear => whenWf_onlyIf_becomes (decide_eq_true hlane) (by simp [hon, hclear])
  case scan =>
    exact fun ⟨hruns, hsizes⟩ => whenWf_onlyIf_becomes (decide_eq_true hlane)
      (by simp only [hon, hruns, hsizes, and_self, decide_true, Bool.and_self])
  case losEnds => exact fun hlos => whenWf_onlyIf_becomes (decide_eq_true hlane) (by simp only [hon, hlos, Bool.and_self])
  case lolEnds => exact fun hlol => whenWf_onlyIf_becomes (decide_eq_true hlane) (by simp only [hon, hlol, Bool.and_self])
  case lock => exact fun ⟨hlane, hchecks, hnot⟩ => whenWf_onlyIf_becomes (decide_eq_true hlane) (by simp [hchecks, hnot])
  case lockLost =>
    exact fun ⟨hlane, hchecks, hlocked⟩ => whenWf_onlyIf_becomes (decide_eq_true hlane)
      (by simp only [hchecks, hlocked, Bool.and_self])

/-- Settles O13: each row by its meaning, whose guard the row's condition meets. -/
theorem trunkEventsComplete : Obligations.TrunkEventsComplete := by
  intro s st vc locked hon hst
  have row {b : Bool} {f : State → State} := whenWf_onlyIf_becomes (s := s) (b := b) (f := f) (decide_eq_true hst)
  simp only [rows_cons, rows_nil, and_true]
  refine ⟨?hello, ?step, ?nak, ?replay, ?requestRepeat, ?retrainTimeout, ?silence, ?stall, ?restart, ?idleEntry, ?idleExit, ?wait,
    ?further, ?retrainEnd⟩
  case hello => exact fun ⟨hstate, hold, hnone, hnot⟩ => row (by simp only [hon, hstate, hold, hnone, hnot]; rfl)
  case step => exact fun ⟨hstate, hold⟩ => row (by simp [hon, hstate, hold])
  case nak => exact fun ⟨hup, hdue⟩ => row (by simp only [hon, hup, hdue]; rfl)
  case replay => exact fun ⟨hup, hold, hsome⟩ => row (by simp only [hon, hup, hold, hsome]; rfl)
  case requestRepeat => exact fun ⟨hwaits, hstate, hdue⟩ => exec_retrainRequestRepeat hon hst hwaits hstate hdue
  case retrainTimeout => exact fun ⟨hstate, hold⟩ => row (by simp [hon, hstate, hold])
  case silence => exact fun ⟨hup, hold⟩ => row (by simp [hon, hup, hold])
  case stall =>
    exact fun ⟨hvc, hcontrol, hwaits, hup, hnone, hfrom, hold⟩ => whenWf_onlyIf_becomes (by simp [hst, hvc])
      (by simp [hon, hcontrol, hwaits, hup, hnone, hfrom, hold])
  case restart => exact fun ⟨hauto, hbroken, hold⟩ => row (by simp [hon, hauto, hbroken, hold])
  case idleEntry => exact fun ⟨hup, hawake, hquiet, hdue⟩ => exec_laneIdleEntry hon hst hup hawake hquiet hdue
  case idleExit => exact fun hdue => row (by simp only [hon, hdue, Bool.and_self])
  case wait => exact fun ⟨hhello, hdue⟩ => exec_helloWaitEnd hon hst hhello hdue
  case further => exact fun ⟨hhello, hold, hdone⟩ => row (by simp [hon, hhello, hold, hdone])
  case retrainEnd => exact fun ⟨hretrain, hopen⟩ => row (by simp [hon, hretrain, hopen])

/-- Settles O14: each row by its meaning, whose guard the row's condition meets. -/
theorem trunkFlitsComplete : Obligations.TrunkFlitsComplete := by
  intro s st lane n he good isAck hdr dv flitType ser expLess1 free check msgs rec ret kind mode wd rate t1 t2 t3 stamp flags reason
  simp only [rows_cons, rows_nil, and_true, forall_const]
  refine ⟨fun hon hst => ⟨?hello, ?train, ?init⟩, ⟨?data, ?null⟩, fun hst hhears => ⟨?nak, ?audit, ?time, ?heartbeat, ?retrain⟩⟩
  case hello =>
    exact fun ⟨hlane, hstate, hnone, hloop, hmine⟩ => whenWf_onlyIf_becomes (by simp [hst, hlane])
      (by simp only [hon, hstate, hnone, hloop, hmine]; rfl)
  case train =>
    exact fun ⟨hlane, hstate, hloop, hmine⟩ => whenWf_onlyIf_becomes (by simp [hst, hlane])
      (by simp only [hon, hstate, hloop, hmine]; rfl)
  case init =>
    exact fun ⟨hclear, hstate⟩ => whenWf_onlyIf_becomes (decide_eq_true hst) (by simpa [hon, hclear] using hstate)
  case data => exact fun ⟨hst, hlinked⟩ => whenWf_onlyIf_becomes (decide_eq_true hst) hlinked
  case null => exact fun ⟨hst, hlinked⟩ => whenWf_onlyIf_becomes (decide_eq_true hst) hlinked
  case nak => exact fun ⟨hlow, hhigh, hup⟩ => exec_trunkNak hdr rec hst hhears hlow hhigh hup
  case audit => exact whenWf_onlyIf_becomes (decide_eq_true hst) hhears
  case time => exact whenWf_onlyIf_becomes (decide_eq_true hst) hhears
  case heartbeat => exact whenWf_onlyIf_becomes (decide_eq_true hst) hhears
  case retrain => exact whenWf_onlyIf_becomes (decide_eq_true hst) hhears

end Sys2Proof.Machine
end

section
/-! The family of the redundant pair: its commands of group 0x08, the event and counter commands of groups 0x09 and 0x0A, and the
events of the pair (R295 to R320, R399 to R403). -/

namespace Sys2Proof.Machine

/-! The pair commands (R296, R303, R307, R309, R313): what each does in a pair state that allows it. -/

section PairCommands

variable {s : State} {c : Command}

/-- An UNPAIRED device whose trunk names the partner notes the partner, asks it and waits for its answer (R296, R319). -/
theorem runPairForm_queued (hstate : s.pair.state = .unpaired) (hnone : s.pair.forming = none) (hstation : c.byte 16 ≤ 15)
    (htrunk : (s.port (s.trunkPort (c.byte 16))).isTrunk = true) (hpair : (s.trunk (c.byte 16)).entry.pair = true)
    (hserial : (s.trunk (c.byte 16)).peerSerial.toNat = c.num 18 6) :
    runPairForm c s = queuedFor .pairForm (pairMgmt (.pairRequest s.pair.generation (decide (c.byte 17 % 2 = 1)))
      (s.modPair (fun p => { p with
        forming := some s.tick, pinBefore := p.pinPromote, station := c.byte 16, pinPromote := decide (c.byte 17 % 2 = 1),
        partnerSerial := (s.trunk (c.byte 16)).peerSerial, partnerDev := (s.trunk (c.byte 16)).peer }))) := by
  simp only [runPairForm, checks_cons, checks_nil, hstate, hnone, Nat.not_lt.mpr hstation, htrunk, hpair, hserial, ne_eq,
    not_true_eq_false, decide_false]
  rfl

/-- A device in WAITING has no partner to tell: it goes to UNPAIRED and leaves mode SHADOW (R307). -/
theorem runPairDissolve_waiting (hstate : s.pair.state = .waiting) :
    runPairDissolve c s = done (toGrow (savePair (setPairState .unpaired ((endSwitch stAborted s).modPair (fun p =>
      { p with units := [], resyncing := 0, partnerSerial := 0, partnerDev := 0 }))))) := by
  simp only [runPairDissolve, hstate]

theorem runPairSwitchover_queued (hstate : s.pair.state = .active) (hsynced : s.pair.resyncing = 0)
    (hnone : s.pair.switching = none) :
    runPairSwitchover c s = queuedFor .switchover (forEach (List.range 8)
      (fun sl t => t.modSlice sl (fun x => { x with admissionHeld := true }))
      (s.modPair (fun p => { p with switching := some s.tick }))) := by
  simp only [runPairSwitchover, checks_cons, checks_nil, hstate, hsynced, hnone]
  rfl

theorem runPairAssume_done (hstate : s.pair.state = .waiting) :
    runPairAssume c s = done (toGrow (logFault 0x30 blockDevice 0 0 0 (BitVec.ofNat 64 s.pair.generation.toNat)
      (BitVec.ofNat 64 (s.pair.generation + 1).toNat)
      (savePair (setPairState .alone (s.modPair (fun p => { p with generation := s.pair.generation + 1 })))))) := by
  simp only [runPairAssume, checks_cons, checks_nil, hstate]
  rfl

theorem runPairPromote_done (hstate : s.pair.state = .shadow) :
    runPairPromote c s = done (s.modPair (fun p => { p with promoteLatch := true, trunkAnew := false })) := by
  simp only [runPairPromote, checks_cons, checks_nil, hstate]
  rfl

theorem runPairSetLag_done (hlag : c.byte 16 ≠ 0) :
    runPairSetLag c s = done (s.modPair (fun p => { p with asyncLag := BitVec.ofNat 8 (c.byte 16) })) := by
  simp only [runPairSetLag, checks_cons, checks_nil, hlag]
  rfl

end PairCommands

/-- Settles O45: each command by the end that the catalogue names for it and by what its run does. -/
theorem pairCommandsRun : Obligations.PairCommandsRun := by
  refine ⟨fun _ _ hpass => exec_isStaged rfl hpass rfl, ?form, fun _ _ hpass => exec_isStaged rfl hpass rfl, ?dissolve,
    fun _ _ hpass => exec_isStaged rfl hpass rfl, ?switchover, fun _ _ hpass => exec_isStaged rfl hpass rfl, ?assume, ?promote,
    ?lagWaits, ?lag, ?recovery, ?status⟩
  case form =>
    exact fun u c hop ⟨hstate, hnone⟩ ⟨hstation, htrunk⟩ ⟨hpair, hserial⟩ =>
      (runOp_PairForm hop).trans (runPairForm_queued hstate hnone hstation htrunk hpair hserial)
  case dissolve => exact fun u c hop hstate => (runOp_PairDissolve hop).trans (runPairDissolve_waiting hstate)
  case switchover =>
    exact fun u c hop ⟨hstate, hsynced, hnone⟩ =>
      (runOp_PairSwitchover hop).trans (runPairSwitchover_queued hstate hsynced hnone)
  case assume => exact fun u c hop hstate => (runOp_PairAssume hop).trans (runPairAssume_done hstate)
  case promote =>
    rintro s u c ring hpass rfl rfl hstate
    exact exec_endsDone rfl hpass rfl ((runOp_PairPromote (State.passes_opcode hpass)).trans (runPairPromote_done hstate))
  case lagWaits =>
    rintro s u c ring hpass rfl rfl hlag
    exact exec_waitsForBoundary rfl hpass rfl ((runOp_PairSetLag (State.passes_opcode hpass)).trans (runPairSetLag_done hlag))
  case lag => exact fun u c hop hlag => (runOp_PairSetLag hop).trans (runPairSetLag_done hlag)
  case recovery =>
    rintro s u c ring hpass rfl rfl
    exact exec_endsDone rfl hpass rfl (runOp_PairClearRecovery (State.passes_opcode hpass))
  case status =>
    rintro s u c ring hpass rfl rfl
    exact exec_endsDone rfl hpass rfl (runOp_PairStatus (State.passes_opcode hpass))

/-! The event and counter commands (R401 to R403, R522, R530): what each does once its operands are in range. -/

section EventAndCounterCommands

variable {s : State} {c : Command}

theorem runEvtSetSource_done (hlow : 1 ≤ c.num 16 2) (hhigh : c.num 16 2 ≤ 2047) :
    runEvtSetSource c s = done (setSourceVector (c.num 16 2) (BitVec.ofNat 64 (c.num 24 8))
      (setSourceConfig (c.num 16 2) (BitVec.ofNat 32 (c.num 20 4)) s)) := by
  have hin : ¬ (c.num 16 2 < 1 ∨ 2047 < c.num 16 2) := by omega
  simp only [runEvtSetSource, checks_cons, checks_nil, hin]
  rfl

theorem runEvtReadSource_done (hsource : c.num 16 2 ≤ 2047) :
    runEvtReadSource c s = doneWith (bytesOf 4 32 (BitVec.ofNat 32 (sourceConfig s (c.num 16 2))) ++
      [BitVec.ofNat 8 (s.sourceFlags (c.num 16 2)), 0, 0, 0] ++ bytesOf 8 64 (vectorOf s (c.num 16 2)) ++
      bytesOf 8 64 (s.source (c.num 16 2)).stamp) s := by
  simp only [runEvtReadSource, checks_cons, checks_nil, Nat.not_lt.mpr hsource]
  rfl

theorem runEvtTrigger_done (hsource : c.num 16 2 ≤ 511) : runEvtTrigger c s = done (softwareTrigger (c.num 16 2) s) := by
  simp only [runEvtTrigger, checks_cons, checks_nil, Nat.not_lt.mpr hsource]
  rfl

/-- An event that the block may count is selected, and its counter begins anew at 0 (R522). -/
theorem runCtrSetSelect_done (hblock : c.byte 16 ≤ 26) (hcounter : c.byte 17 ≤ 7)
    (hvalid : selectValid (c.byte 16) (BitVec.ofNat 16 (c.num 18 2)) = true) :
    runCtrSetSelect c s = done (s.modCtr (fun x => { x with
      select := Tab.set x.select 0 (8 * c.byte 16 + c.byte 17) (BitVec.ofNat 16 (c.num 18 2)),
      value := Tab.drop x.value (8 * c.byte 16 + c.byte 17) })) := by
  have hin : ¬ (26 < c.byte 16 ∨ 7 < c.byte 17) := by omega
  simp only [runCtrSetSelect, checks_cons, checks_nil, hin, hvalid]
  rfl

theorem runCtrRead_done (hblock : c.byte 16 ≤ 26) :
    runCtrRead c s = doneWith (bytesOf 8 64 (if c.byte 17 % 2 = 1 then s.ctr.snapCycle else cycleCounter s) ++
      (List.range 8).flatMap (fun i => bytesOf 8 48
        (Tab.get (if c.byte 17 % 2 = 1 then s.ctr.snap else s.ctr.value) 0 (8 * c.byte 16 + i)))) s := by
  simp only [runCtrRead, checks_cons, checks_nil, Nat.not_lt.mpr hblock, decide_eq_true_eq]
  rfl

/-- STAT_READ of a port's statistics in the season that runs (R530). -/
theorem runStatRead_livePort (hport : c.byte 16 = 1) (hlive : c.byte 17 = 1) (hhigh : c.num 18 2 ≤ 127) :
    runStatRead c s = doneWith ((bytesOf 8 64 s.time.seasonStart ++ bytesOf 4 32 s.time.seasonNum ++ [0, 0, 0, 0]) ++
      (List.range 16).flatMap (fun j => bytesOf 8 64 (s.statValue true false (c.num 18 2) j))) s := by
  have hin : ¬ 127 < c.num 18 2 := Nat.not_lt.mpr hhigh
  simp [runStatRead, hport, hlive, hin]

end EventAndCounterCommands

/-- Settles O4: each row by the end that the catalogue names for it and by what its run finds. -/
theorem pairEventAndCounterCommandsComplete : Obligations.PairEventAndCounterCommandsComplete := by
  rintro s u c ring n b e rfl rfl rfl rfl rfl
  have hop {op : Nat} : s.passes op ring = true → (s.front ring).opcode.toNat = op := State.passes_opcode
  simp only [commandRows_cons, commandRows_nil, and_true]
  refine ⟨stagedRows fun x hx => by fin_cases hx <;> exact ⟨rfl, rfl⟩,
    ⟨?lag, ?setSource, ?select, ?snapshot⟩,
    ⟨?promote, ?recovery, ?status, ?readSource, ?trigger, ?ctrRead, ?statRead⟩⟩
  case lag =>
    exact fun hlag hpass => exec_waitsForBoundary rfl hpass rfl ((runOp_PairSetLag (hop hpass)).trans (runPairSetLag_done hlag))
  case setSource =>
    exact fun ⟨hlow, hhigh⟩ hpass => exec_waitsForBoundary rfl hpass rfl
      ((runOp_EvtSetSource (hop hpass)).trans (runEvtSetSource_done hlow hhigh))
  case select =>
    exact fun ⟨hblock, hcounter, hvalid⟩ hpass => exec_waitsForBoundary rfl hpass rfl
      ((runOp_CtrSetSelect (hop hpass)).trans (runCtrSetSelect_done hblock hcounter hvalid))
  case snapshot => exact fun _ hpass => exec_waitsForBoundary rfl hpass rfl (runOp_CtrSnapshot (hop hpass))
  case promote =>
    exact fun hstate hpass =>
      ⟨_, _, exec_endsDone rfl hpass rfl ((runOp_PairPromote (hop hpass)).trans (runPairPromote_done hstate))⟩
  case recovery => exact fun _ hpass => ⟨_, _, exec_endsDone rfl hpass rfl (runOp_PairClearRecovery (hop hpass))⟩
  case status => exact fun _ hpass => ⟨_, _, exec_endsDone rfl hpass rfl (runOp_PairStatus (hop hpass))⟩
  case readSource =>
    exact fun hsource hpass =>
      ⟨_, _, exec_endsDone rfl hpass rfl ((runOp_EvtReadSource (hop hpass)).trans (runEvtReadSource_done hsource))⟩
  case trigger =>
    exact fun hsource hpass =>
      ⟨_, _, exec_endsDone rfl hpass rfl ((runOp_EvtTrigger (hop hpass)).trans (runEvtTrigger_done hsource))⟩
  case ctrRead =>
    exact fun hblock hpass =>
      ⟨_, _, exec_endsDone rfl hpass rfl ((runOp_CtrRead (hop hpass)).trans (runCtrRead_done hblock))⟩
  case statRead =>
    exact fun ⟨hport, hlive, hhigh⟩ hpass =>
      ⟨_, _, exec_endsDone rfl hpass rfl ((runOp_StatRead (hop hpass)).trans (runStatRead_livePort hport hlive hhigh))⟩

/-! Events of the pair. A device that is on takes a mirror record of any head: what the head says is `recordArrives`'s matter
(R301, R304). -/

/-- A resync ends at the ACTIVE once its walks are over, and at the SYNCING device once no record waits (R307, R308). -/
theorem exec_resyncComplete {s : State} (hon : s.fabricOn = true)
    (hover : s.resyncOver = true ∨ (s.pair.state = .syncing ∧ (List.range 9).all (fun u => (s.munit u).rxWait.isEmpty) = true)) :
    exec .resyncComplete s = s.becomes (resyncComplete s) :=
  whenWf_onlyIf_becomes rfl (by simpa only [hon, Bool.true_and, Bool.or_eq_true, Bool.and_eq_true, decide_eq_true_eq] using hover)

/-- Settles O12: each row by its meaning, whose guard the row's condition meets. -/
theorem pairEventsComplete : Obligations.PairEventsComplete := by
  intro s st table ix rec set way pos pl un sl bed ser tag dv gen mseq pinPromote psn head im pn en data hon
  simp only [rows_cons, rows_nil, and_true, forall_const]
  refine ⟨?request, ?config, ?commit, ?dir, ?vaultDirty, ?vaultClean, ?wbPending, ?wbDone, ?ack, exec_resyncComplete hon, ?lag,
    ?sweep, ?handoff, ?edge, ?stopped⟩
  case request => exact fun ⟨hst, hup⟩ => whenWf_onlyIf_becomes (decide_eq_true hst) (by simp [hon, hup])
  case config => exact whenWf_onlyIf_becomes rfl hon
  case commit => exact whenWf_onlyIf_becomes rfl hon
  case dir => exact fun ⟨hset, hway⟩ => whenWf_onlyIf_becomes (by simp [hset, hway]) hon
  case vaultDirty => exact fun ⟨hset, hway⟩ => whenWf_onlyIf_becomes (by simp [hset, hway]) hon
  case vaultClean => exact fun ⟨hset, hway⟩ => whenWf_onlyIf_becomes (by simp [hset, hway]) hon
  case wbPending => exact fun hpos => whenWf_onlyIf_becomes (decide_eq_true hpos) hon
  case wbDone => exact fun hpos => whenWf_onlyIf_becomes (decide_eq_true hpos) hon
  case ack => exact fun hunit => whenWf_onlyIf_becomes (decide_eq_true hunit) hon
  case lag => exact fun hunit => whenWf_onlyIf_becomes (decide_eq_true hunit) hon
  case sweep =>
    exact fun ⟨hslice, hbed, hover⟩ => whenWf_onlyIf_becomes (by simp [hslice, hbed]) (by simp only [hon, hover, Bool.and_self])
  case handoff => exact fun hshadow => whenWf_onlyIf_becomes rfl (by simp [hon, hshadow])
  case edge => exact whenWf_onlyIf_becomes rfl hon
  case stopped => exact fun ⟨halive, hold⟩ => whenWf_onlyIf_becomes rfl (by simp [hon, halive, hold])

end Sys2Proof.Machine
end

section
/-! The family of the Barrow: the commands of its slices and of extent migration (R322 to R347, R397, R398), and the events of its
submissions, descriptors, images and SLC_CONTROL writes (R321 to R340). -/

namespace Sys2Proof.Machine

/-! The first entries of the PASID table and of the migrations (R323, R341), and a freeze of a slice that is frozen (R334). The other
runs stand with O3. -/

section SliceCommandRuns

variable {s : State} {c : Command}

/-- What a change makes of the Barrow is all that it makes of the state. -/
theorem State.modBarrow_congr {f g : Barrow → Barrow} (h : f s.barrow = g s.barrow) : s.modBarrow f = s.modBarrow g :=
  congrArg s.setBarrow h

/-- What a change makes of the pool is all that it makes of the state. -/
theorem State.modPool_congr {f g : Pool → Pool} (h : f s.pool = g s.pool) : s.modPool f = s.modPool g :=
  congrArg s.setPool h

theorem State.modBarrow_putFirstPasid (hempty : s.barrow.pasids = []) (i : Nat) (e : Pasid) :
    s.modBarrow (fun b => { b with pasids := Tab.put b.pasids i e }) = s.modBarrow (fun b => { b with pasids := [(i, e)] }) :=
  State.modBarrow_congr (by simp only [hempty, Tab.put])

theorem State.modPool_putFirstMigration (hnone : s.pool.migrations = []) (x : Nat) (m : Migration) :
    s.modPool (fun p => { p with migrations := Tab.put p.migrations x m }) = s.modPool (fun p => { p with migrations := [(x, m)] }) :=
  State.modPool_congr (by simp only [hnone, Tab.put])

theorem beginMigration_first (hnone : s.pool.migrations = []) :
    beginMigration c s = alsoToTarget (c.num 16 4) (s.extent (c.num 20 4)).place
      ((s.modPool (fun p =>
        { p with migrations :=
          [(c.num 16 4, { target := c.num 20 4, started := s.time.beats, rate := if c.num 24 2 = 0 then 512 else c.num 24 2 })]
        })).modExtent (c.num 16 4) (fun e => { e with state := .migrating, mig := (s.extent (c.num 20 4)).place })) := by
  simp only [beginMigration, State.modPool_putFirstMigration hnone]

theorem sliceAct_freeze_frozen {k : Nat} (all byBar : Bool) (hfrozen : (s.bslice k).state = .frozen) :
    sliceAct k (.freeze all) byBar s = done s := by
  simp only [sliceAct, hfrozen]

end SliceCommandRuns

/-- Settles O44: each command by the end that the catalogue names for it and by what its run does. -/
theorem sliceCommandsRun : Obligations.SliceCommandsRun := by
  have hop {s : State} {op ring : Nat} : s.passes op ring = true → (s.front ring).opcode.toNat = op := State.passes_opcode
  refine ⟨?bindWaits, ?bind, ?unbindWaits, ?unbind, ?mapPasidWaits, ?mapPasid, ?unmapPasidWaits, ?unmapPasid, ?freezeQueued, ?freeze,
    ?freezeFrozenWaits, ?freezeFrozen, ?thawWaits, ?thaw, ?resetWaits, ?reset, ?clearFaultWaits, ?clearFault, ?saveQueued, ?save,
    ?restoreQueued, ?restore, ?status, ?migrateQueued, ?migrate, ?cancel⟩
  case bindWaits =>
    rintro s u c ring hpass rfl rfl ⟨hslice, hvector, hpasid⟩ hused hunbound
    exact exec_waitsForBoundary rfl hpass rfl
      ((runOp_SliceBind (hop hpass)).trans (runSliceBind_done hslice hvector hpasid hused hunbound))
  case bind =>
    exact fun u c hop ⟨hslice, hvector, hpasid⟩ hused hunbound =>
      (runOp_SliceBind hop).trans (runSliceBind_done hslice hvector hpasid hused hunbound)
  case unbindWaits =>
    rintro s u c ring hpass rfl rfl hslice hbound
    exact exec_waitsForBoundary rfl hpass rfl ((runOp_SliceUnbind (hop hpass)).trans (runSliceUnbind_done hslice hbound))
  case unbind => exact fun u c hop hslice hbound => (runOp_SliceUnbind hop).trans (runSliceUnbind_done hslice hbound)
  case mapPasidWaits =>
    rintro s u c ring hpass rfl rfl ⟨hslice, hkey⟩ ⟨hbound, hport⟩ hnew hempty
    exact exec_waitsForBoundary rfl hpass rfl
      ((runOp_SliceMapPasid (hop hpass)).trans (runSliceMapPasid_done hslice hkey hbound hport hnew hempty))
  case mapPasid =>
    intro u c hop ⟨hslice, hkey⟩ ⟨hbound, hport⟩ hnew hempty
    rw [← State.modBarrow_putFirstPasid hempty]
    exact (runOp_SliceMapPasid hop).trans (runSliceMapPasid_done hslice hkey hbound hport hnew hempty)
  case unmapPasidWaits =>
    rintro s u c ring hpass rfl rfl hkey hfound
    exact exec_waitsForBoundary rfl hpass rfl ((runOp_SliceUnmapPasid (hop hpass)).trans (runSliceUnmapPasid_done hkey hfound))
  case unmapPasid => exact fun u c hop hkey hfound => (runOp_SliceUnmapPasid hop).trans (runSliceUnmapPasid_done hkey hfound)
  case freezeQueued =>
    rintro s u c ring hpass rfl rfl ⟨hslice, hmode⟩ hrun
    exact exec_isQueuedForBoundary_other rfl hpass rfl (by decide)
      ((runOp_SliceFreeze (hop hpass)).trans ((runSliceFreeze_act hslice hmode).trans (sliceAct_freeze _ hrun)))
  case freeze =>
    exact fun u c hop ⟨hslice, hmode⟩ hrun =>
      (runOp_SliceFreeze hop).trans ((runSliceFreeze_act hslice hmode).trans (sliceAct_freeze _ hrun))
  case freezeFrozenWaits =>
    rintro s u c ring hpass rfl rfl ⟨hslice, hmode⟩ hfrozen
    exact exec_tickQueued_waits rfl hpass rfl (by simp [State.recordsPlot_eq, hop hpass])
      ((runOp_SliceFreeze (hop hpass)).trans ((runSliceFreeze_act hslice hmode).trans (sliceAct_freeze_frozen _ _ hfrozen)))
  case freezeFrozen =>
    exact fun u c hop ⟨hslice, hmode⟩ hfrozen =>
      (runOp_SliceFreeze hop).trans ((runSliceFreeze_act hslice hmode).trans (sliceAct_freeze_frozen _ _ hfrozen))
  case thawWaits =>
    rintro s u c ring hpass rfl rfl hslice hfrozen
    exact exec_waitsForBoundary rfl hpass rfl
      ((runOp_SliceThaw (hop hpass)).trans ((runSliceThaw_act hslice).trans (sliceAct_thaw hfrozen)))
  case thaw =>
    exact fun u c hop hslice hfrozen => (runOp_SliceThaw hop).trans ((runSliceThaw_act hslice).trans (sliceAct_thaw hfrozen))
  case resetWaits =>
    rintro s u c ring hpass rfl rfl hslice hbound
    exact exec_waitsForBoundary rfl hpass rfl
      ((runOp_SliceReset (hop hpass)).trans ((runSliceReset_act hslice).trans (sliceAct_reset hbound)))
  case reset =>
    exact fun u c hop hslice hbound => (runOp_SliceReset hop).trans ((runSliceReset_act hslice).trans (sliceAct_reset hbound))
  case clearFaultWaits =>
    rintro s u c ring hpass rfl rfl hslice hbound
    exact exec_waitsForBoundary rfl hpass rfl
      ((runOp_SliceClearFault (hop hpass)).trans ((runSliceClearFault_act hslice).trans (sliceAct_clearFault hbound)))
  case clearFault =>
    exact fun u c hop hslice hbound =>
      (runOp_SliceClearFault hop).trans ((runSliceClearFault_act hslice).trans (sliceAct_clearFault hbound))
  case saveQueued =>
    rintro s u c ring hpass rfl rfl ⟨hslice, halign⟩ hfrozen hidle
    exact exec_isQueuedForBoundary_other rfl hpass rfl (by decide)
      ((runOp_SliceSave (hop hpass)).trans ((runSliceSave_act hslice halign).trans (sliceAct_save _ _ hfrozen hidle)))
  case save =>
    exact fun u c hop ⟨hslice, halign⟩ hfrozen hidle =>
      (runOp_SliceSave hop).trans ((runSliceSave_act hslice halign).trans (sliceAct_save _ _ hfrozen hidle))
  case restoreQueued =>
    rintro s u c ring hpass rfl rfl ⟨hslice, halign⟩ hfrozen ⟨hidle, hempty⟩
    exact exec_isQueuedForBoundary_other rfl hpass rfl (by decide)
      ((runOp_SliceRestore (hop hpass)).trans
        ((runSliceRestore_act hslice halign).trans (sliceAct_restore _ _ hfrozen hidle hempty)))
  case restore =>
    exact fun u c hop ⟨hslice, halign⟩ hfrozen ⟨hidle, hempty⟩ =>
      (runOp_SliceRestore hop).trans ((runSliceRestore_act hslice halign).trans (sliceAct_restore _ _ hfrozen hidle hempty))
  case status =>
    rintro s u c ring hpass rfl rfl ⟨hslice, hbound⟩
    exact exec_endsDone rfl hpass rfl ((runOp_SliceStatus (hop hpass)).trans (runSliceStatus_done hslice hbound))
  case migrateQueued =>
    rintro s u c ring hpass rfl rfl ⟨hsrc, hdst, hrate, hmax⟩ hnone ⟨hbound, hdef⟩ houtside
    exact exec_isQueuedForBoundary_other rfl hpass rfl (by decide) ((runOp_ExtentMigrate (hop hpass)).trans
      (runExtentMigrate_queued hsrc hdst hrate hmax hnone hbound hdef houtside))
  case migrate =>
    intro u c hop ⟨hsrc, hdst, hrate, hmax⟩ hnone ⟨hbound, hdef⟩ houtside
    rw [← beginMigration_first hnone]
    exact (runOp_ExtentMigrate hop).trans (runExtentMigrate_queued hsrc hdst hrate hmax hnone hbound hdef houtside)
  case cancel =>
    rintro s u c ring hpass rfl rfl ⟨hext, hmig⟩
    exact exec_endsDone rfl hpass rfl ((runOp_ExtentMigrateCancel (hop hpass)).trans (runExtentMigrateCancel_done hext hmig))

/-! Events of the Barrow. -/

section BarrowEvents

variable {s : State} {sl : Nat}

/-- A host read of a slice times out once its completion is 16 ticks late (R330). -/
theorem exec_barrowHostReadTimeout (hon : s.fabricOn = true) (hsl : sl < 512)
    (hdue : (s.bslice sl).readSince.any (fun n => decide (n + 16 ≤ s.tick)) = true) :
    exec (.barrowHostReadTimeout sl) s = s.becomes (hostCompletion sl .timeout [] s) := by
  obtain ⟨n, hsince, hold⟩ := (Option.any_eq_true _ _).mp hdue
  have hexec : exec (.barrowHostReadTimeout sl) s = execBarrowHostReadTimeout sl s := rfl
  rw [hexec, execBarrowHostReadTimeout]
  exact whenWf_onlyIf_becomes (decide_eq_true hsl) (by simp only [hon, hsince, hold]; rfl)

/-- A restore that ends well has read the 4,096 bytes of its image (R340). -/
theorem exec_sliceRestoreComplete {ok : Bool} (hon : s.fabricOn = true) (hsl : sl < 512) (hreads : (s.bslice sl).images false = true)
    (hwhole : ok = true → (s.bslice sl).job.any (fun j => decide (j.image.length = 4096)) = true) :
    exec (.sliceRestoreComplete sl ok) s = s.becomes (restoreEnds sl ok s) := by
  have hexec : exec (.sliceRestoreComplete sl ok) s = execSliceRestoreComplete sl ok s := rfl
  rw [hexec, execSliceRestoreComplete]
  refine whenWf_onlyIf_becomes (decide_eq_true hsl) ?_
  cases ok with
  | false => simp only [hon, hreads]; rfl
  | true =>
    obtain ⟨j, hjob, hlen⟩ := (Option.any_eq_true _ _).mp (hwhole rfl)
    simp only [hon, hreads, hjob, hlen]
    rfl

end BarrowEvents

/-- Settles O11: each row by its meaning, whose guard the row's condition meets. -/
theorem barrowEventsComplete : Obligations.BarrowEventsComplete := by
  intro s port off len sl df ok pa data v sts data2
  simp only [rows_cons, rows_nil, and_true]
  refine ⟨fun ⟨hport, hreaches⟩ => whenWf_onlyIf_becomes (decide_eq_true hport) hreaches,
    fun hon hsl => ⟨?start, ?complete, exec_barrowHostReadTimeout hon hsl, ?save,
      fun ⟨hreads, hwhole⟩ => exec_sliceRestoreComplete hon hsl hreads hwhole, ?hostCompletion⟩,
    fun hsl => ?turns, fun hport hreaches => ?controls⟩
  case start => exact fun hmay => whenWf_onlyIf_becomes (decide_eq_true hsl) (by simp only [hon, hmay, Bool.and_self])
  case complete => exact fun hover => whenWf_onlyIf_becomes (decide_eq_true hsl) (by simp only [hon, hover, Bool.and_self])
  case save =>
    intro ⟨hsaves, hsent⟩
    exact whenWf_onlyIf_becomes
      (f := fun t => if ok then imageEnds sl stDone 1 t else imageEnds sl stFaulted 5 t) (decide_eq_true hsl)
      (by simp only [hon, hsaves, hsent]; rfl)
  case hostCompletion =>
    exact fun ⟨hroom, hwaits⟩ => whenWf_onlyIf_becomes (decide_eq_true hsl) (by simpa [hon, hroom] using hwaits)
  case turns =>
    have row {b : Bool} : b = true → whenWf s (decide (sl < 512)) (onlyIf b (barrowTurn sl) s) = s.becomes (barrowTurn sl s) :=
      whenWf_onlyIf_becomes (decide_eq_true hsl)
    exact ⟨row, row, row, row, row⟩
  case controls =>
    have row (w : BitVec 64) (hsl : sl < 512) : whenWf s (decide (port < 128) && decide (sl < 512))
        (onlyIf (s.barReaches port sl) (tlpInside port xbarBarrow (.control sl w)) s) =
          s.becomes (tlpInside port xbarBarrow (.control sl w) s) :=
      whenWf_onlyIf_becomes (by simp [hport, hsl]) hreaches
    exact ⟨row 0x02, row 0x04, row 0x08, row 0x10, row 0x20, row 0x40, row 0x80, fun ⟨hsl, hmany⟩ =>
      whenWf_onlyIf_becomes (by simp [hport, hsl]) (by simp [hreaches, hmany])⟩

end Sys2Proof.Machine
end

section
/-! The family of the Teller: the step that runs the front command, refused and repeated commands, the ring registers and the
countersign port, and the canonical body of a command (R350 to R369). -/

namespace Sys2Proof.Machine

/-- Settles O21, by what a step does with an empty and with a filled queue. -/
theorem stepRunsFrontCommand : Obligations.StepRunsFrontCommand :=
  ⟨fun _ _ _ hfront => step_of_pending_cons hfront, fun _ hempty => step_of_pending_nil hempty⟩

/-! The frame composes: what changes only some components of the state, twice over, changes only those. -/

section Frame

variable {s t u : State} {l : List Part}

theorem Part.same_trans {k : Part} (hst : k.same s t) (htu : k.same t u) : k.same s u := by
  cases k <;> exact Eq.trans htu hst

theorem State.onlyChanges_trans (hst : s.onlyChanges l t) (htu : t.onlyChanges l u) : s.onlyChanges l u :=
  fun k hk => Part.same_trans (hst k hk) (htu k hk)

theorem State.onlyChanges_mono {m : List Part} (hst : s.onlyChanges l t) (hsub : l ⊆ m) : s.onlyChanges m t :=
  fun k hk => hst k (fun hl => hk (hsub hl))

/-- Putting the waiting commands back leaves a frame as it was. -/
theorem State.onlyChanges_setPending (hst : s.onlyChanges l t) : s.onlyChanges l (t.setPending s.pending) := by
  intro k hk
  have hsame := hst k hk
  cases k with
  | pending => rfl
  | _ => exact hsame

end Frame

/-! What the Teller does with a command that it does not execute (R357, R361, R363): the command is copied, and one receipt is
written. -/

section Answers

variable {s : State} {i : Instr} {op ring status : Nat}

theorem takeCommand_onlyChanges {c : Command} : s.onlyChanges [.teller, .evc, .ctr] (takeCommand ring c s) := by
  intro k hk
  cases k <;> simp [Part.same, takeCommand, State.modTeller] at hk ⊢

theorem State.modRing_onlyChanges {f : Ring → Ring} : s.onlyChanges [.teller, .evc, .ctr] (s.modRing ring f) := by
  intro k hk
  cases k <;> simp [Part.same] at hk ⊢

theorem State.taken_onlyChanges : s.onlyChanges [.teller, .evc, .ctr] (s.taken ring) :=
  State.onlyChanges_trans takeCommand_onlyChanges State.modRing_onlyChanges

theorem writeReceipt_onlyChanges {origin : Nat} {tag : BitVec 32} {opcode : BitVec 16} {result : List Byte} {q : Option Nat} :
    s.onlyChanges [.teller, .evc, .ctr] (writeReceipt ring origin tag opcode status result q s) := by
  intro k hk
  cases k <;> simp [Part.same] at hk ⊢

theorem noteCxlReset_onlyChanges {c : Command} : s.onlyChanges [.pool] (noteCxlReset c status s) := by
  intro k hk
  cases k <;> simp [Part.same] at hk ⊢

/-- Only a PLOT_RESET of ring 15 leaves CXL Reset Error (R68). -/
theorem noteCxlReset_other {c : Command} (hother : ¬ (c.ring = 15 ∧ c.opcode.toNat = 0x0207)) : noteCxlReset c status s = s :=
  if_neg fun ⟨hring, hop, _⟩ => hother ⟨hring, hop⟩

/-- An answer without a result is its receipt. -/
theorem answerStart_nil (c : Command) (status : Nat) (s : State) : answerStart c status [] s =
    writeReceipt c.ring c.origin c.tag c.opcode status [] c.proposalNo (noteCxlReset c status s) := by
  simp only [answerStart, answer, writeBlock_nil]

theorem answerStart_nil_onlyChanges {c : Command} : s.onlyChanges [.teller, .evc, .ctr, .pool] (answerStart c status [] s) := by
  rw [answerStart_nil]
  exact State.onlyChanges_trans (State.onlyChanges_mono noteCxlReset_onlyChanges (by simp))
    (State.onlyChanges_mono writeReceipt_onlyChanges (by simp))

/-- A row whose command is next is what the Teller makes of starting it (R353, R358). -/
theorem exec_startCommand (hcmd : i.command = some (op, ring)) (hring : ring < 16) (hwait : s.waitsFor op ring false = true)
    (hfree : s.startFree = true) : exec i s = s.becomes (startCommand ring s) := by
  rw [exec_command hcmd, whenWf_becomes (decide_eq_true hring)]
  simp only [tellerCommand, hwait, State.waitBeat_free hfree, if_true]

/-- A command that fails a check is answered with the status of the first that it fails (R357). -/
theorem exec_refused (hcmd : i.command = some (op, ring)) (hring : ring < 16) (hwait : s.waitsFor op ring false = true)
    (hfree : s.startFree = true) (hnew : (takeCommand ring (s.front ring) s).held (s.front ring) = none)
    (hfail : (s.taken ring).firstFailure (s.front ring) = some status) :
    exec i s = s.becomes (answerStart (s.front ring) status [] (s.taken ring)) := by
  rw [exec_startCommand hcmd hring hwait hfree, startCommand_new hnew, decideCommand, hfail]

/-- A command with fwd 0 whose tag the history holds is not executed (R357 step 1, R363). -/
theorem startCommand_held {e : HistEntry} (hfwd : (s.front ring).fwd = false)
    (hheld : (takeCommand ring (s.front ring) s).held (s.front ring) = some e) :
    startCommand ring s = duplicate (s.front ring) e (takeCommand ring (s.front ring) s) := by
  simp only [startCommand, hheld, hfwd, Bool.false_and, Bool.false_eq_true, if_false]

theorem State.waitsFor_ne_plotReset (hwait : s.waitsFor op ring false = true) (hother : ¬ (ring = 15 ∧ op = 0x0207)) :
    ¬ ((s.front ring).ring = 15 ∧ (s.front ring).opcode.toNat = 0x0207) := by
  obtain ⟨_, _, hop, _⟩ := State.waitsFor_parts hwait
  rwa [State.front_ring, hop]

/-- The ring memory after a refusal that finds room: the receipt in the ring's next slot (R351, R361). -/
theorem answerStart_taken_mem (hwait : s.waitsFor op ring false = true) (hother : ¬ (ring = 15 ∧ op = 0x0207))
    (hrings : Tab.above none s.teller.rings = true) (hroom : (s.taken ring).receiptWaits ring = false) :
    (answerStart (s.front ring) status [] (s.taken ring)).teller.mem = memWrite 0 s.teller.mem (s.receiptSlot ring)
      ({ tag := (s.front ring).tag, opcode := (s.front ring).opcode, status := BitVec.ofNat 16 status, stamp := s.now, result := 0 } :
        Receipt).bytes := by
  rw [answerStart_nil, noteCxlReset_other (State.waitsFor_ne_plotReset hwait hother), State.front_ring,
    writeReceipt_mem _ _ _ _ _ _ _ _ (State.above_taken ring hrings) hroom, State.receiptSlot_taken ring hrings]
  simp only [State.taken_teller_mem, State.taken_at_now]
  rfl

end Answers

/-- Settles O25: a refusal copies the command and writes one receipt, whose bytes read back from the ring's receipt slot; a repeated
tag is answered with DUPLICATE before any check. -/
theorem refusedCommandOnlyAnswers : Obligations.RefusedCommandOnlyAnswers := by
  refine ⟨?frame, ?memory, ?duplicate⟩
  case frame =>
    intro i s op ring status ⟨hcmd, hring⟩ ⟨hwait, hfree⟩ hnew hfail
    have hframe : s.onlyChanges [.teller, .evc, .ctr, .pool] (answerStart (s.front ring) status [] (s.taken ring)) :=
      State.onlyChanges_trans (State.onlyChanges_mono State.taken_onlyChanges (by simp)) answerStart_nil_onlyChanges
    refine ⟨_, exec_refused hcmd hring hwait hfree hnew hfail, rfl, State.onlyChanges_setPending hframe, fun hother => ?_⟩
    rw [answerStart_nil, noteCxlReset_other (State.waitsFor_ne_plotReset hwait hother)]
    simp only [State.setPending_pool, writeReceipt_pool, State.taken_pool]
  case memory =>
    intro i s op ring status ⟨hcmd, hring⟩ ⟨hwait, hfree⟩ hnew hfail ⟨⟨hmem, _⟩, hrings, hother⟩ hroom
    have hwritten := answerStart_taken_mem (status := status) hwait hother hrings hroom
    refine ⟨_, exec_refused hcmd hring hwait hfree hnew hfail, ?_, fun a hout => ?_⟩
    · rw [State.setPending_teller, hwritten]
      exact memRead_memWrite (Receipt.bytes _) (s.receiptSlot ring) hmem
    · rw [State.setPending_teller, hwritten]
      exact memGet_memWrite_out _ hmem (by rwa [Receipt.bytes_length])
  case duplicate =>
    intro i s op ring e ⟨hcmd, hring⟩ ⟨hwait, hfree⟩ hheld
    obtain ⟨_, _, _, hfwd⟩ := State.waitsFor_parts hwait
    have hexec := exec_startCommand hcmd hring hwait hfree
    rw [startCommand_held hfwd hheld, duplicate, State.front_ring] at hexec
    exact ⟨_, hexec, State.onlyChanges_setPending
      (State.onlyChanges_trans takeCommand_onlyChanges writeReceipt_onlyChanges), rfl⟩

/-! The ring registers (R352, R353): a write at most 256 from the other end takes effect, and any other sets overrun. -/

section RingWrites

variable {s t u : State} {ring : Nat} {value : BitVec 32}

/-- What a ring becomes depends on the ring as it stands. -/
theorem State.modRing_congr {f g : Ring → Ring} (h : f (s.ring ring) = g (s.ring ring)) : s.modRing ring f = s.modRing ring g := by
  simp only [State.modRing, h]

theorem writeCmdTail_near (hnear : (value.truncate 16 - (s.ring ring).cmdHead).toNat ≤ 256) :
    writeCmdTail ring value s = s.modRing ring (fun r => { r with cmdTail := value.truncate 16 }) := by
  unfold writeCmdTail
  exact State.modRing_congr (if_neg (Nat.not_lt.mpr hnear))

theorem writeCmdTail_far (hfar : 256 < (value.truncate 16 - (s.ring ring).cmdHead).toNat) :
    writeCmdTail ring value s = s.modRing ring (Ring.overran s.time.beats) := by
  unfold writeCmdTail
  exact State.modRing_congr (if_pos hfar)

theorem writeRcptHead_near (hnear : ((s.ring ring).rcptTail - value.truncate 16).toNat ≤ 256) :
    writeRcptHead ring value s = s.modRing ring (fun r => { r with rcptHead := value.truncate 16 }) := by
  unfold writeRcptHead
  exact State.modRing_congr (if_neg (Nat.not_lt.mpr hnear))

theorem writeRcptHead_far (hfar : 256 < ((s.ring ring).rcptTail - value.truncate 16).toNat) :
    writeRcptHead ring value s = s.modRing ring (Ring.overran s.time.beats) := by
  unfold writeRcptHead
  exact State.modRing_congr (if_pos hfar)

/-- The state of the Teller when a store of hart 0 has crossed the die link (R27, R427, log 102). -/
def storeArrives (address : BitVec 64) (value : BitVec 32) (s : State) : State :=
  fromSteward chTeller 0 (.access true address 4 (value.setWidth 64))
    ((deliverNext (fun f => f.channel == chCompletion && f.hart == 0) s).modHart 0 (fun h => { h with access := some (true, address) }))

/-- A register of a ring of the steward is written by the store that brings the value, and hart 0 is answered. -/
theorem ringAccess_steward {offset : Nat} {f : State → State} (hring : ring < 13) (hon : s.fabricOn = true)
    (hreach : s.stewardCanReach chTeller = true)
    (harrives : storeArrives (BitVec.ofNat 64 (0x20006000 + 0x8000 * ring + offset)) value s = u) (hwrites : f u = t) :
    ringAccess ring offset value f s = completeToHart 0 cplDone 0 t := by
  subst hwrites harrives
  simp only [ringAccess, hring, if_true, hartAccess, hartAccessAs, hon, Bool.not_true, Bool.false_eq_true, if_false, hreach, storeArrives]

/-- Ring 13 is written through the countersign port, from stage 2 on (R366, R383). -/
theorem ringAccess_port {offset : Nat} {f : State → State} (hlive : s.dev.inReset = false) : ringAccess 13 offset value f s = f s := by
  simp [ringAccess, State.portLive, hlive]

theorem afterTail13_awake (hmode : s.dev.mode ≠ .dormant) : afterTail13 s = s := if_neg hmode

theorem afterTail13_dormant (hmode : s.dev.mode = .dormant) : afterTail13 s = wakeOp s := if_pos hmode

theorem exec_ringCmdTailWrite_steward (hring : ring < 13) (hon : s.fabricOn = true) (hreach : s.stewardCanReach chTeller = true)
    (harrives : storeArrives (BitVec.ofNat 64 (0x20006000 + 0x8000 * ring)) value s = u) (hwrites : writeCmdTail ring value u = t) :
    exec (.ringCmdTailWrite ring value) s = s.becomes (completeToHart 0 cplDone 0 t) := by
  have hnot : ring ≠ 13 := by omega
  refine (whenWf_becomes (decide_eq_true (by omega))).trans (congrArg s.becomes ?_)
  exact ringAccess_steward hring hon hreach harrives (by simpa only [hnot, if_false] using hwrites)

theorem exec_ringCmdTailWrite_port (hlive : s.dev.inReset = false) (hwrites : writeCmdTail 13 value s = t) :
    exec (.ringCmdTailWrite 13 value) s = s.becomes (afterTail13 t) := by
  subst hwrites
  exact (whenWf_becomes rfl).trans (congrArg s.becomes (ringAccess_port hlive))

theorem exec_ringRcptHeadWrite_steward (hring : ring < 13) (hon : s.fabricOn = true) (hreach : s.stewardCanReach chTeller = true)
    (harrives : storeArrives (BitVec.ofNat 64 (0x2000600C + 0x8000 * ring)) value s = u) (hwrites : writeRcptHead ring value u = t) :
    exec (.ringRcptHeadWrite ring value) s = s.becomes (completeToHart 0 cplDone 0 t) := by
  have haddr : 0x2000600C + 0x8000 * ring = 0x20006000 + 0x8000 * ring + 0x0C := by omega
  rw [haddr] at harrives
  exact (whenWf_becomes (decide_eq_true (by omega))).trans (congrArg s.becomes (ringAccess_steward hring hon hreach harrives hwrites))

theorem exec_ringRcptHeadWrite_port (hlive : s.dev.inReset = false) (hwrites : writeRcptHead 13 value s = t) :
    exec (.ringRcptHeadWrite 13 value) s = s.becomes t := by
  subst hwrites
  exact (whenWf_becomes rfl).trans (congrArg s.becomes (ringAccess_port hlive))

/-- The oldest receipt that waits is written where the receipt area has room (R359). -/
theorem writeDeferred_room {d : Returned} {rest : List Returned} (hwaits : (s.ring ring).deferred = d :: rest)
    (hroom : (s.ring ring).unread < 256) :
    writeDeferred ring s = issueReceipt ring d (s.modRing ring (fun r => { r with deferred := rest })) := by
  simp only [writeDeferred, hwaits, if_neg (Nat.not_le.mpr hroom)]

end RingWrites

/-! The countersign port (R366, R367): a write by the part of ring 13's space that it names, and what a read finds there. -/

section CountersignPort

variable {s : State} {offset : Nat} {data : List Byte}

theorem State.portLive_of_fabricOn (hon : s.fabricOn = true) : s.portLive = true := by
  simp only [State.fabricOn, Bool.and_eq_true] at hon
  exact hon.1

theorem exec_countersignPortWrite {o : BitVec 16} (hlive : s.portLive = true) :
    exec (.countersignPortWrite o data) s = s.becomes (portWrite o.toNat data (s.modTeller (fun t => { t with csOffset := o }))) :=
  whenWf_onlyIf_becomes (f := fun t => portWrite o.toNat data (t.modTeller (fun x => { x with csOffset := o }))) rfl hlive

/-- Data within the command slots goes into ring memory. -/
theorem portWrite_slots (hfits : offset + data.length ≤ 0x4000) :
    portWrite offset data s = s.modTeller (fun t => { t with mem := memWrite 0 t.mem (13 * 0x8000 + offset) data }) := by
  induction data generalizing offset s with
  | nil => rfl
  | cons b rest ih =>
    simp only [List.length_cons] at hfits
    rw [portWrite, portByte, if_pos (by omega), ih (by omega)]
    rfl

/-- Data within the parameter buffer goes there. -/
theorem portWrite_params (hon : s.fabricOn = true) (hlow : 0x7000 ≤ offset) (hfits : offset + data.length ≤ 0x8000) :
    portWrite offset data s = s.modTeller (fun t => { t with csParam := memWrite 0 t.csParam (offset - 0x7000) data }) := by
  induction data generalizing offset s with
  | nil => rfl
  | cons b rest ih =>
    simp only [List.length_cons] at hfits
    have hnext : offset + 1 - 0x7000 = offset - 0x7000 + 1 := by omega
    rw [portWrite, portByte, if_neg (by omega), if_neg (by omega), if_pos ⟨hlow, by omega, hon⟩,
      ih (s := s.modTeller _) hon (by omega) (by omega), hnext]
    rfl

/-- Data within the receipt slots is ignored. -/
theorem portWrite_receipts (hlow : 0x4000 ≤ offset) (hfits : offset + data.length ≤ 0x6000) : portWrite offset data s = s := by
  induction data generalizing offset with
  | nil => rfl
  | cons b rest ih =>
    simp only [List.length_cons] at hfits
    have hbyte : portByte offset b s = s := by
      rw [portByte, if_neg (by omega), if_neg (by omega), if_neg (by omega)]
    rw [portWrite, hbyte, ih (by omega) (by omega)]

theorem State.portByteAt_revision (hon : s.fabricOn = true) : s.portByteAt 0x9006 = 0xA0 := by
  simp [State.portByteAt, hon, Config.revision]

theorem State.portByteAt_above (hon : s.fabricOn = true) (habove : 0x9010 ≤ offset) : s.portByteAt offset = 0 := by
  rw [State.portByteAt, if_neg (by omega), if_neg (by omega), if_neg (by simp [hon]), if_neg (by omega), if_neg (by omega),
    if_neg (by omega), if_neg (by omega)]

end CountersignPort

/-- Settles O26: each write by the register or the part of the port that it names, at most 256 from the other end or not. -/
theorem ringRegisterWrites : Obligations.RingRegisterWrites := by
  refine ⟨?tailNear, ?tailNear13, ?tailFar, ?tailFar13, ?tailDormant, ?headNear, ?headNear13, ?headFar, ?headFar13, ?deferred, ?slots,
    ?params, ?receipts, ?address, ?reads⟩
  case tailNear =>
    exact fun ring value s u ⟨hring, hon, hreach⟩ harrives hnear =>
      exec_ringCmdTailWrite_steward hring hon hreach harrives (writeCmdTail_near hnear)
  case tailNear13 =>
    intro value s ⟨hlive, hmode⟩ hnear
    rw [exec_ringCmdTailWrite_port hlive (writeCmdTail_near hnear)]
    exact congrArg s.becomes (afterTail13_awake hmode)
  case tailFar =>
    exact fun ring value s u ⟨hring, hon, hreach⟩ harrives hfar =>
      exec_ringCmdTailWrite_steward hring hon hreach harrives (writeCmdTail_far hfar)
  case tailFar13 =>
    intro value s ⟨hlive, hmode⟩ hfar
    rw [exec_ringCmdTailWrite_port hlive (writeCmdTail_far hfar)]
    exact congrArg s.becomes (afterTail13_awake hmode)
  case tailDormant =>
    intro value s ⟨hlive, hmode⟩ hnear
    rw [exec_ringCmdTailWrite_port hlive (writeCmdTail_near hnear)]
    exact congrArg s.becomes (afterTail13_dormant hmode)
  case headNear =>
    exact fun ring value s u ⟨hring, hon, hreach⟩ harrives hnear =>
      exec_ringRcptHeadWrite_steward hring hon hreach harrives (writeRcptHead_near hnear)
  case headNear13 => exact fun value s hlive hnear => exec_ringRcptHeadWrite_port hlive (writeRcptHead_near hnear)
  case headFar =>
    exact fun ring value s u ⟨hring, hon, hreach⟩ harrives hfar =>
      exec_ringRcptHeadWrite_steward hring hon hreach harrives (writeRcptHead_far hfar)
  case headFar13 => exact fun value s hlive hfar => exec_ringRcptHeadWrite_port hlive (writeRcptHead_far hfar)
  case deferred =>
    intro ring d rest s ⟨hring, hon⟩ ⟨hwaits, hroom⟩
    exact (whenWf_onlyIf_becomes (decide_eq_true hring) hon).trans (congrArg s.becomes (writeDeferred_room hwaits hroom))
  case slots =>
    intro o data s ⟨hlive, hfits⟩
    rw [exec_countersignPortWrite (by simp [State.portLive, hlive]), portWrite_slots hfits]
    rfl
  case params =>
    intro o data s hon ⟨hlow, hfits⟩
    rw [exec_countersignPortWrite (State.portLive_of_fabricOn hon), portWrite_params (s := s.modTeller _) hon hlow hfits]
    rfl
  case receipts =>
    intro o data s hlive ⟨hlow, hfits⟩
    rw [exec_countersignPortWrite (by simp [State.portLive, hlive]), portWrite_receipts hlow hfits]
  case address =>
    intro address byEntdaa s hlive
    exact whenWf_onlyIf_becomes (f := fun t => t.modTeller (fun x => { x with csAddress := address })) rfl
      (by simp [State.portLive, hlive])
  case reads => exact fun s hon => ⟨State.portByteAt_revision hon, fun _ habove => State.portByteAt_above hon habove⟩

/-! The canonical body (R369): the command's word with bits cleared, and the parameter block. -/

section CanonicalBody

variable {c d : Command} {i : Nat}

/-- A word with its bits `lo` to `hi` zero, where `b` holds. -/
def clearIf (b : Bool) (hi lo : Nat) (w : BitVec 512) : BitVec 512 := if b then w &&& ~~~ (BitVec.ofNat 512 (2 ^ (hi + 1) - 2 ^ lo)) else w

theorem getLsbD_clearIf {b : Bool} {hi lo : Nat} {w : BitVec 512} (hle : lo ≤ hi) :
    (clearIf b hi lo w).getLsbD i = (w.getLsbD i && !(b && decide (lo ≤ i ∧ i ≤ hi))) := by
  have hones : 2 ^ (hi + 1) - 2 ^ lo = 2 ^ lo * (2 ^ (hi + 1 - lo) - 1) := by
    rw [Nat.mul_sub, ← Nat.pow_add, Nat.mul_one, Nat.add_sub_cancel' (by omega)]
  have hbit : (2 ^ (hi + 1) - 2 ^ lo).testBit i = decide (lo ≤ i ∧ i ≤ hi) := by
    rw [hones, Nat.testBit_two_pow_mul, Nat.testBit_two_pow_sub_one, ← Bool.decide_and]
    exact decide_eq_decide.mpr (by omega)
  cases b with
  | false => simp [clearIf]
  | true =>
    rw [clearIf, if_pos rfl, BitVec.getLsbD_and, BitVec.getLsbD_not, BitVec.getLsbD_ofNat, hbit]
    by_cases hi512 : i < 512
    · simp [hi512]
    · simp [BitVec.getLsbD_of_ge w i (by omega)]

/-- The bits that the canonical body holds as zero: tag, fwd and ext_result, the result address where one is given, and the parameter
address where a block is given (R354, R369). -/
def Command.clears (c : Command) (i : Nat) : Bool :=
  decide (32 ≤ i ∧ i ≤ 63) || decide (17 ≤ i ∧ i ≤ 18) || (c.extResult && decide (448 ≤ i ∧ i ≤ 511)) ||
    (c.extParam && decide (128 ≤ i ∧ i ≤ 191))

theorem Command.clears_iff : c.clears i = true ↔ (32 ≤ i ∧ i ≤ 63) ∨ (17 ≤ i ∧ i ≤ 18) ∨
    (c.extResult = true ∧ 448 ≤ i ∧ i ≤ 511) ∨ (c.extParam = true ∧ 128 ≤ i ∧ i ≤ 191) := by
  simp [clears, or_assoc]

/-- The 64 bytes of the canonical body, as a word. -/
def Command.canonicalWord (c : Command) : BitVec 512 :=
  clearIf c.extParam 191 128 (clearIf c.extResult 511 448 (clearIf true 18 17 (clearIf true 63 32 c.word)))

theorem Command.canonical_eq (c : Command) : c.canonical = bytesOf 64 512 c.canonicalWord ++ (if c.extParam then c.block else []) := rfl

theorem Command.getLsbD_canonicalWord (c : Command) (i : Nat) : c.canonicalWord.getLsbD i = (c.word.getLsbD i && !c.clears i) := by
  simp [canonicalWord, clears, getLsbD_clearIf, Bool.and_assoc]

theorem length_bytesOf {n w : Nat} (v : BitVec w) : (bytesOf n w v).length = n := by
  rw [bytesOf, List.length_map, List.length_range]

/-- Byte i of a word holds its bits 8 i to 8 i + 7. -/
theorem getLsbD_byteOf {w : Nat} (v : BitVec w) (i j : Nat) :
    (BitVec.ofNat 8 (v.toNat / 256 ^ i)).getLsbD j = (decide (j < 8) && v.getLsbD (8 * i + j)) := by
  rw [BitVec.getLsbD_ofNat, show 256 = 2 ^ 8 from rfl, ← Nat.pow_mul, Nat.testBit_div_two_pow, BitVec.getLsbD, Nat.add_comm]

theorem Command.byte_lt (c : Command) (i : Nat) : c.byte i < 256 := by
  have hwidth : 8 * i + 7 + 1 - 8 * i = 8 := by omega
  rw [byte, bitsOf, hwidth]
  exact Nat.mod_lt _ (by decide)

/-- Byte i of a command holds the bits 8 i to 8 i + 7 of its word. -/
theorem Command.testBit_byte (c : Command) (i j : Nat) : (c.byte i).testBit j = (decide (j < 8) && c.word.getLsbD (8 * i + j)) := by
  have hwidth : 8 * i + 7 + 1 - 8 * i = 8 := by omega
  rw [byte, bitsOf, hwidth, Nat.testBit_mod_two_pow, Nat.testBit_div_two_pow, BitVec.getLsbD, Nat.add_comm]

/-- Byte i of the canonical body. -/
def Command.canonicalByte (c : Command) (i : Nat) : Byte := BitVec.ofNat 8 (c.canonicalWord.toNat / 256 ^ i)

theorem Command.canonical_getElem? (hi : i < 64) : c.canonical[i]? = some (c.canonicalByte i) := by
  rw [canonical_eq, List.getElem?_append_left (by rwa [length_bytesOf])]
  simp [bytesOf, hi, canonicalByte]

theorem Command.getLsbD_canonicalByte (c : Command) (i j : Nat) :
    (c.canonicalByte i).getLsbD j = ((c.byte i).testBit j && !c.clears (8 * i + j)) := by
  rw [canonicalByte, getLsbD_byteOf, getLsbD_canonicalWord, testBit_byte, Bool.and_assoc]

/-- A byte whose bits are all cleared. -/
theorem Command.canonicalByte_zero (hclears : ∀ j < 8, c.clears (8 * i + j) = true) : c.canonicalByte i = 0 := by
  apply BitVec.eq_of_getLsbD_eq
  intro j hj
  simp [getLsbD_canonicalByte, hclears j hj]

/-- A byte of which a mask is left. -/
theorem Command.canonicalByte_mask {mask : Nat} (hclears : ∀ j < 8, c.clears (8 * i + j) = !mask.testBit j) :
    c.canonicalByte i = BitVec.ofNat 8 (c.byte i &&& mask) := by
  apply BitVec.eq_of_getLsbD_eq
  intro j hj
  rw [getLsbD_canonicalByte, hclears j hj, Bool.not_not, BitVec.getLsbD_ofNat, Nat.testBit_and, decide_eq_true hj, Bool.true_and]

/-- A byte of which nothing is cleared. -/
theorem Command.canonicalByte_kept (hkeeps : ∀ j < 8, c.clears (8 * i + j) = false) : c.canonicalByte i = BitVec.ofNat 8 (c.byte i) := by
  apply BitVec.eq_of_getLsbD_eq
  intro j hj
  rw [getLsbD_canonicalByte, hkeeps j hj, Bool.not_false, Bool.and_true, BitVec.getLsbD_ofNat, decide_eq_true hj, Bool.true_and]

/-- A byte without its bits 1 and 2. -/
theorem byte_without_bits_1_2 : ∀ b < 256, b &&& 0xF9 = b - b / 2 % 4 * 2 := by decide +kernel

/-- The same mask, bit by bit. -/
theorem testBit_without_bits_1_2 : ∀ j < 8, (!Nat.testBit 0xF9 j) = decide (j = 1 ∨ j = 2) := by decide

/-- Byte 2 loses ext_result and fwd, its bits 1 and 2 (R354). -/
theorem Command.canonicalByte_flags (c : Command) : c.canonicalByte 2 = BitVec.ofNat 8 (c.byte 2 - c.byte 2 / 2 % 4 * 2) := by
  have hclears : ∀ j < 8, c.clears (8 * 2 + j) = !Nat.testBit 0xF9 j := by
    intro j hj
    rw [testBit_without_bits_1_2 j hj, Bool.eq_iff_iff, clears_iff, decide_eq_true_iff]
    constructor
    · rintro (h | h | ⟨_, h⟩ | ⟨_, h⟩) <;> omega
    · exact fun h => .inr (.inl (by omega))
  rw [canonicalByte_mask hclears, byte_without_bits_1_2 _ (c.byte_lt 2)]

theorem Command.canonicalByte_eq (c : Command) (hi : i < 64) : c.canonicalByte i = BitVec.ofNat 8 (if 4 ≤ i ∧ i < 8 then 0
    else if i = 2 then c.byte 2 - c.byte 2 / 2 % 4 * 2
    else if 56 ≤ i ∧ c.extResult = true then 0
    else if 16 ≤ i ∧ i < 24 ∧ c.extParam = true then 0
    else c.byte i) := by
  split_ifs with htag hflags hresult hparam
  · exact canonicalByte_zero fun j hj => clears_iff.mpr (.inl (by omega))
  · rw [hflags, canonicalByte_flags]
  · exact canonicalByte_zero fun j hj => clears_iff.mpr (.inr (.inr (.inl ⟨hresult.2, by omega⟩)))
  · exact canonicalByte_zero fun j hj => clears_iff.mpr (.inr (.inr (.inr ⟨hparam.2.2, by omega⟩)))
  · refine canonicalByte_kept fun j hj => Bool.eq_false_iff.mpr fun hclears => ?_
    rcases clears_iff.mp hclears with h | h | ⟨hres, h⟩ | ⟨hpar, h⟩
    · omega
    · omega
    · exact hresult ⟨by omega, hres⟩
    · exact hparam ⟨by omega, by omega, hpar⟩

/-- Words that agree wherever nothing is cleared have one canonical word. -/
theorem Command.canonicalWord_congr (hresult : c.extResult = d.extResult) (hparam : c.extParam = d.extParam)
    (hword : ∀ i < 512, c.clears i = false → c.word.getLsbD i = d.word.getLsbD i) : c.canonicalWord = d.canonicalWord := by
  apply BitVec.eq_of_getLsbD_eq
  intro i hi
  have hclears : d.clears i = c.clears i := by simp only [clears, hresult, hparam]
  rw [getLsbD_canonicalWord, getLsbD_canonicalWord, hclears]
  cases hc : c.clears i with
  | true => simp only [Bool.not_true, Bool.and_false]
  | false => rw [hword i hi hc]

end CanonicalBody

/-- Settles O51: the canonical body's bytes are those of its word, whose bits are the command's where nothing is cleared. -/
theorem canonicalBodies : Obligations.CanonicalBodies := by
  refine ⟨?bytes, ?block, fun _ => rfl, ?congr⟩
  case bytes => exact fun c i hi => (Command.canonical_getElem? hi).trans (congrArg some (c.canonicalByte_eq hi))
  case block =>
    intro c
    rw [Command.canonical_eq, List.drop_left' (length_bytesOf _)]
  case congr =>
    intro c d hresult hblock hword
    have hparam : c.extParam = d.extParam := hword 16 (by decide) (by decide) (by decide) (by decide) (by simp) (by simp)
    have hsame : c.canonicalWord = d.canonicalWord :=
      Command.canonicalWord_congr hresult hparam fun i hi hkept => by
        have hnot : ¬ c.clears i = true := Bool.eq_false_iff.mp hkept
        simp only [Command.clears_iff, not_or] at hnot
        obtain ⟨htag, hflags, hres, hpar⟩ := hnot
        exact hword i hi (by omega) (by omega) (by omega) (fun ⟨hlow, hext⟩ => hres ⟨hext, hlow, by omega⟩)
          (fun ⟨hlow, hhigh, hext⟩ => hpar ⟨hext, hlow, by omega⟩)
    have hbody : c.canonical = d.canonical := by
      rw [Command.canonical_eq, Command.canonical_eq, hsame, ← hparam]
      split_ifs with hext
      · rw [hblock hext]
      · rfl
    exact ⟨hbody, by rw [Command.digest, Command.digest, hbody]⟩

end Sys2Proof.Machine
end

section
/-! The family of the command catalogue: the commands of groups 0x01, 0x09 to 0x0C and the trace rows of 0x0E, and the entries of CS_LIST
(R384 to R388, R401 to R411). -/

namespace Sys2Proof.Machine

/-! How a command that may end QUEUED answers (R359). -/

section QueuedEnds

variable {s : State} {i : Instr} {op ring : Nat}

/-- A command that the catalogue lets end QUEUED ends DONE where nothing is left to do. -/
theorem exec_endsDone_atOnce {r : List Byte} {t : State} (hcmd : i.command = some (op, ring)) (hpass : s.passes op ring = true)
    (hrow : (opInfo op).map (fun o => (o.guarded, o.ends)) = some (false, .queued)) (hother : op ≠ 0x0D01)
    (hrun : runOp (s.front ring) (s.taken ring) = doneWith r t) : exec i s = s.endsWith ring stDone r t := by
  obtain ⟨o, hinfo, hends⟩ := Option.map_eq_some_iff.mp hrow
  obtain ⟨hguard, hqueued⟩ := Prod.mk.inj hends
  rw [exec_command hcmd, whenWf_passes hpass]
  exact tellerCommand_ends hpass hinfo hguard (.inr hqueued) hother hrun

/-- A command that reads the power die's copies alone is QUEUED with the work that it makes of any state with the same copies. -/
theorem exec_isQueued_power {k : JobKind} {f : State → State} (hcmd : i.command = some (op, ring)) (hpass : s.passes op ring = true)
    (hrow : (opInfo op).map (fun o => (o.guarded, o.ends)) = some (false, .queued)) (hother : op ≠ 0x0D01)
    (hrun : ∀ t : State, t.power = s.power → runOp (s.front ring) t = queuedFor k (f t)) : exec i s = s.isQueued ring k f :=
  exec_isQueued hcmd hpass hrow hother (congrArg Prod.fst (hrun _ (State.taken_power s ring)))
    (congrArg Prod.snd (hrun _ (State.noted_power s ring k)))

end QueuedEnds

/-! The device commands (R384 to R388) that O1 leaves out: the present mode, and the key slots at their commit. -/

section DeviceCommandRuns

variable {s : State} {c : Command}

/-- DEV_SET_MODE to the present mode answers that mode, from ring 15 as from a ring of software (R385). -/
theorem runDevSetMode_present (hcode : modeOfCode (c.byte 16) = some s.dev.mode) (hsprout : s.dev.mode ≠ .sprout)
    (hshadow : s.dev.mode ≠ .shadow) (hstill : s.dev.transition = none) (hawake : s.dev.dormantDue = false) :
    runDevSetMode c s = doneWith s.modeByte s := by
  by_cases hring : c.ring = 15
  · simp only [runDevSetMode, hring, if_true, hcode, recordMode]
  · simp [runDevSetMode, hring, hcode, hsprout, hshadow, hstill, hawake]

theorem runDevSetKeySlot_done (hslot : c.byte 16 ≤ 3) (halgorithm : c.byte 17 = 1) :
    runDevSetKeySlot c s =
      done (setKeySlot (c.byte 16) { valid := true, algorithm := 1, digest := BitVec.ofNat 256 (c.num 24 32) } s) := by
  simp [runDevSetKeySlot, Nat.not_lt.mpr hslot, halgorithm]

/-- A key slot is cleared where another one stays valid (R388). -/
theorem runDevRevokeKeySlot_done (hslot : c.byte 16 ≤ 3)
    (hother : s.steward.keys.any (fun e => decide (e.1 ≠ c.byte 16) && e.2.valid) = true) :
    runDevRevokeKeySlot c s = done (setKeySlot (c.byte 16) {} s) := by
  simp only [runDevRevokeKeySlot, checks_cons, checks_nil, Nat.not_lt.mpr hslot, hother]
  rfl

theorem runDevRevokeKeySlot_refused (hlast : s.steward.keys.any (fun e => decide (e.1 ≠ c.byte 16) && e.2.valid) = false) :
    runDevRevokeKeySlot c s = refuse stInvalidParam s := by
  simp only [runDevRevokeKeySlot, checks_cons, hlast, Bool.not_false, Bool.or_true, if_true]

end DeviceCommandRuns

/-- Settles O38: each command by the end that the catalogue names for it and by what its run does. -/
theorem deviceCommandsRun : Obligations.DeviceCommandsRun := by
  refine ⟨?identify, ?status, ?mode, ?present, ?reset, ?number, fun _ _ hpass => exec_isStaged rfl hpass rfl, ?setKey,
    fun _ _ hpass => exec_isStaged rfl hpass rfl, ?revoke, ?refused⟩
  case identify =>
    intro s ring hpass
    have hrun := exec_endsDone (i := .devIdentify ring) rfl hpass rfl (runOp_DevIdentify (State.passes_opcode hpass))
    simpa [State.self, State.hostSerial, Config.revision] using hrun
  case status =>
    intro s ring hpass
    have hrun := exec_endsDone (i := .devStatus ring) rfl hpass rfl (runOp_DevStatus (State.passes_opcode hpass))
    simpa [State.modeByte, fieldAt, Nat.mul_comm] using hrun
  case mode =>
    exact fun s ring m hpass hring hcode ⟨hsprout, hshadow, hnew⟩ ⟨hstill, hawake⟩ hmay =>
      exec_devSetMode hpass hring hcode hsprout hshadow hnew hstill hawake hmay
  case present =>
    intro s ring hpass hcode ⟨hsprout, hshadow⟩ ⟨hstill, hawake⟩
    have hdev := State.taken_dev s ring
    have hrun := runDevSetMode_present (s := s.taken ring) (hdev ▸ hcode) (hdev ▸ hsprout) (hdev ▸ hshadow) (hdev ▸ hstill) (hdev ▸ hawake)
    have hexec := exec_endsDone_atOnce (i := .devSetMode ring) rfl hpass rfl (by decide) ((runOp_DevSetMode (State.passes_opcode hpass)).trans hrun)
    rwa [State.modeByte, hdev] at hexec
  case reset =>
    intro s ring hpass ⟨hlow, hhigh⟩ hidle
    exact exec_endsDone rfl hpass rfl ((runOp_DevReset (State.passes_opcode hpass)).trans
      (runDevReset_done hlow hhigh (by simpa [State.hasJob] using hidle)))
  case number =>
    intro s ring hpass hnumber halone hdown
    exact exec_endsDone rfl hpass rfl ((runOp_DevSetNumber (State.passes_opcode hpass)).trans
      (runDevSetNumber_done hnumber (by simpa using halone) (by simpa using hdown)))
  case setKey => exact fun u c hop hslot halgorithm => (runOp_DevSetKeySlot hop).trans (runDevSetKeySlot_done hslot halgorithm)
  case revoke => exact fun u c hop hslot hother => (runOp_DevRevokeKeySlot hop).trans (runDevRevokeKeySlot_done hslot hother)
  case refused => exact fun u c hop hlast => (runOp_DevRevokeKeySlot hop).trans (runDevRevokeKeySlot_refused hlast)

/-- TRACE_READ waits for TRACE_STOP (R410). -/
theorem runTraceRead_busy {s : State} {c : Command} (hfirst : c.num 16 4 ≤ 262143) (hlow : 1 ≤ c.num 20 2) (hhigh : c.num 20 2 ≤ 128)
    (hopen : s.ctr.traceOpen = true) : runTraceRead c s = refuse stBusy s := by
  have hin : ¬ (262143 < c.num 16 4 ∨ c.num 20 2 < 1 ∨ 128 < c.num 20 2) := by omega
  simp only [runTraceRead, checks_cons, hin, hopen, decide_false, Bool.false_eq_true, if_false, if_true]

/-- Settles O46: each command by the end that the catalogue names for it and by what its run does. -/
theorem eventCounterTraceCommandsRun : Obligations.EventCounterTraceCommandsRun := by
  refine ⟨?setWaits, ?set, ?readSource, ?trigger, ?selectWaits, ?select, ?snapshotWaits, fun u c hop => runOp_CtrSnapshot hop, ?ctrRead,
    ?statRead, ?filterWaits, ?filter, ?startWaits, ?start, ?stopWaits, fun u c hop => runOp_TraceStop hop, ?traceRead, ?traceBusy⟩
  case setWaits =>
    rintro s u c ring hpass rfl rfl ⟨hlow, hhigh⟩
    exact exec_waitsForBoundary rfl hpass rfl ((runOp_EvtSetSource (State.passes_opcode hpass)).trans (runEvtSetSource_done hlow hhigh))
  case set => exact fun u c hop ⟨hlow, hhigh⟩ => (runOp_EvtSetSource hop).trans (runEvtSetSource_done hlow hhigh)
  case readSource =>
    rintro s u c ring hpass rfl rfl hsource
    exact exec_endsDone rfl hpass rfl ((runOp_EvtReadSource (State.passes_opcode hpass)).trans (runEvtReadSource_done hsource))
  case trigger =>
    rintro s u c ring hpass rfl rfl hsource
    exact exec_endsDone rfl hpass rfl ((runOp_EvtTrigger (State.passes_opcode hpass)).trans (runEvtTrigger_done hsource))
  case selectWaits =>
    rintro s u c ring hpass rfl rfl ⟨hblock, hcounter⟩ hvalid
    exact exec_waitsForBoundary rfl hpass rfl
      ((runOp_CtrSetSelect (State.passes_opcode hpass)).trans (runCtrSetSelect_done hblock hcounter hvalid))
  case select =>
    exact fun u c hop ⟨hblock, hcounter⟩ hvalid => (runOp_CtrSetSelect hop).trans (runCtrSetSelect_done hblock hcounter hvalid)
  case snapshotWaits =>
    rintro s u c ring hpass rfl rfl
    exact exec_waitsForBoundary rfl hpass rfl (runOp_CtrSnapshot (State.passes_opcode hpass))
  case ctrRead =>
    rintro s u c ring hpass rfl rfl hblock
    exact exec_endsDone rfl hpass rfl ((runOp_CtrRead (State.passes_opcode hpass)).trans (runCtrRead_done hblock))
  case statRead =>
    rintro s u c ring hpass rfl rfl ⟨hport, hlive, hhigh⟩
    exact exec_endsDone rfl hpass rfl ((runOp_StatRead (State.passes_opcode hpass)).trans (runStatRead_livePort hport hlive hhigh))
  case filterWaits =>
    rintro s u c ring hpass rfl rfl hfilter hpoint
    exact exec_waitsForBoundary rfl hpass rfl
      ((runOp_TraceSetFilter (State.passes_opcode hpass)).trans (runTraceSetFilter_done hfilter hpoint))
  case filter => exact fun u c hop hfilter hpoint => (runOp_TraceSetFilter hop).trans (runTraceSetFilter_done hfilter hpoint)
  case startWaits =>
    rintro s u c ring hpass rfl rfl hidle
    exact exec_waitsForBoundary rfl hpass rfl ((runOp_TraceStart (State.passes_opcode hpass)).trans (runTraceStart_done hidle))
  case start => exact fun u c hop hidle => (runOp_TraceStart hop).trans (runTraceStart_done hidle)
  case stopWaits =>
    rintro s u c ring hpass rfl rfl
    exact exec_waitsForBoundary rfl hpass rfl (runOp_TraceStop (State.passes_opcode hpass))
  case traceRead =>
    rintro s u c ring hpass rfl rfl ⟨hfirst, hlow, hhigh⟩ hclosed
    exact exec_endsDone rfl hpass rfl
      ((runOp_TraceRead (State.passes_opcode hpass)).trans (runTraceRead_done hfirst hlow hhigh hclosed))
  case traceBusy =>
    rintro s u c ring hpass rfl rfl ⟨hfirst, hlow, hhigh⟩ hopen
    exact exec_endsRefused rfl hpass rfl
      ((runOp_TraceRead (State.passes_opcode hpass)).trans (runTraceRead_busy hfirst hlow hhigh hopen))

/-! The slot commands (R404, R405): what SLOT_READ and FEED_STATUS answer, and what no command but the status rows does while the power
link is down. -/

section SlotCommandRuns

variable {s : State} {c : Command}

/-- The result of SLOT_READ: a channel's registers, laid out as SLOT_SET's bytes 16 to 25 (R404, R516). -/
def slotReadBytes (ch : Nat) (x : ChCopy) : List Byte :=
  [BitVec.ofNat 8 ch, BitVec.ofNat 8 (bitsOf x.seqReg 5 3), BitVec.ofNat 8 (bitsOf x.seqReg 9 6 + 1), 0] ++
    bytesOf 2 16 (BitVec.ofNat 16 (bitsOf x.limitReg 8 0)) ++
    [BitVec.ofNat 8 (bitsOf x.limitReg 23 16), BitVec.ofNat 8 (bitsOf x.seqReg 16 10)] ++
    bytesOf 2 16 (BitVec.ofNat 16 (bitsOf x.seqReg 23 17))

theorem runSlotRead_answers (hlink : s.power.link = true) (hch : c.byte 16 ≤ 47) :
    runSlotRead c s = doneWith (slotReadBytes (c.byte 16) (s.chCopy (c.byte 16))) s :=
  checks_slotChecks (l := []) hlink hch

theorem runSlotRead_linkDown (hlink : s.power.link = false) : runSlotRead c s = refuse stNotInMode s := by
  simp only [runSlotRead, slotChecks, checks_cons, hlink, Bool.not_false, if_true]

end SlotCommandRuns

/-- Settles O47: each command by the end that the catalogue names for it and by what its run does. -/
theorem slotCommandsRun : Obligations.SlotCommandsRun := by
  refine ⟨?setWaits, ?set, ?on, ?offWaits, ?off, ?clearWaits, ?clear, ?read, ?readDown, ?status, ?feedWaits, ?feed, ?feedStatus⟩
  case setWaits =>
    rintro s u c ring hpass rfl rfl ⟨hlink, hch⟩ ⟨hseq, hshare, hshare', hlimit⟩ ⟨hfast, hfast', hramp, hramp', hdelay⟩ hoff
    exact exec_waitsForBoundary rfl hpass rfl ((runOp_SlotSet (State.passes_opcode hpass)).trans
      (runSlotSet_done hlink hch hseq ⟨hshare, hshare'⟩ hlimit ⟨hfast, hfast'⟩ ⟨hramp, hramp'⟩ hdelay hoff))
  case set =>
    exact fun u c hop ⟨hlink, hch⟩ ⟨hseq, hshare, hshare', hlimit⟩ ⟨hfast, hfast', hramp, hramp', hdelay⟩ hoff =>
      (runOp_SlotSet hop).trans
        (runSlotSet_done hlink hch hseq ⟨hshare, hshare'⟩ hlimit ⟨hfast, hfast'⟩ ⟨hramp, hramp'⟩ hdelay hoff)
  case on =>
    rintro s c ring hpass rfl ⟨hlink, hch⟩ ⟨hprsnt, hready⟩
    exact exec_isQueued_power rfl hpass rfl (by decide) fun t hpower => (runOp_SlotOn (State.passes_opcode hpass)).trans
      (runSlotOn_queued (hpower ▸ hlink) hch (by simpa [State.channel, hpower] using hprsnt)
        (by simpa [State.chCopy, hpower] using hready))
  case offWaits =>
    rintro s u c ring hpass rfl rfl ⟨hlink, hch⟩ ⟨hidle, hnone⟩
    exact exec_waitsForBoundary rfl hpass rfl
      ((runOp_SlotOff (State.passes_opcode hpass)).trans (runSlotOff_done hlink hch hidle hnone))
  case off => exact fun u c hop ⟨hlink, hch⟩ ⟨hidle, hnone⟩ => (runOp_SlotOff hop).trans (runSlotOff_done hlink hch hidle hnone)
  case clearWaits =>
    rintro s u c ring hpass rfl rfl ⟨hlink, hch⟩
    exact exec_waitsForBoundary rfl hpass rfl
      ((runOp_SlotClearLatch (State.passes_opcode hpass)).trans (runSlotClearLatch_done hlink hch))
  case clear => exact fun u c hop ⟨hlink, hch⟩ => (runOp_SlotClearLatch hop).trans (runSlotClearLatch_done hlink hch)
  case read =>
    rintro s u c ring hpass rfl rfl ⟨hlink, hch⟩
    exact exec_endsDone rfl hpass rfl ((runOp_SlotRead (State.passes_opcode hpass)).trans (runSlotRead_answers hlink hch))
  case readDown =>
    rintro s u c ring hpass rfl rfl hlink
    exact exec_endsRefused rfl hpass rfl ((runOp_SlotRead (State.passes_opcode hpass)).trans (runSlotRead_linkDown hlink))
  case status =>
    rintro s u c ring hpass rfl rfl hch
    exact exec_endsDone rfl hpass rfl ((runOp_SlotStatus (State.passes_opcode hpass)).trans (runSlotStatus_done hch))
  case feedWaits =>
    rintro s u c ring hpass rfl rfl ⟨hlink, hfeed⟩ ⟨hlow, hhigh⟩ hdeadA hdeadB
    exact exec_waitsForBoundary rfl hpass rfl
      ((runOp_FeedSet (State.passes_opcode hpass)).trans (runFeedSet_done hlink hfeed hlow hhigh hdeadA hdeadB))
  case feed =>
    exact fun u c hop ⟨hlink, hfeed⟩ ⟨hlow, hhigh⟩ hdeadA hdeadB =>
      (runOp_FeedSet hop).trans (runFeedSet_done hlink hfeed hlow hhigh hdeadA hdeadB)
  case feedStatus =>
    rintro s u c ring hpass rfl rfl
    have hrun := exec_endsDone (i := .feedStatus ring) rfl hpass rfl (runOp_FeedStatus (State.passes_opcode hpass))
    simpa only [fieldAt, Nat.mul_comm, pow_one, Nat.reducePow] using hrun

/-! The wear commands (R406, R407): what WEAR_READ answers for a monitor and for a lane. -/

section WearCommandRuns

variable {s : State} {c : Command}

theorem runWearRead_monitor (hcls : c.byte 16 ≠ 0x0A) (hinst : c.num 18 2 < monitorInstances (c.byte 16)) :
    runWearRead c s = doneWith (bytesOf 4 32 (BitVec.ofNat 32 (monitorPrediction s.wear (c.byte 16) (c.num 18 2)).1) ++
      bytesOf 4 32 (BitVec.ofNat 32 (monitorPrediction s.wear (c.byte 16) (c.num 18 2)).2) ++
      bytesOf 8 64 (BitVec.ofNat 64 (latestSample s.wear (c.byte 16) (c.num 18 2)))) s := by
  simp only [runWearRead, checks_cons, checks_nil, hcls, if_false, Nat.not_le.mpr hinst, decide_false, Bool.false_eq_true]

theorem runWearRead_lane (hcls : c.byte 16 = 0x0A) (hlane : c.num 18 2 < 256) :
    runWearRead c s = doneWith (bytesOf 4 32 (BitVec.ofNat 32 (s.wear.bookLane (c.num 18 2)).1) ++
      bytesOf 4 32 (BitVec.ofNat 32 (s.wear.bookLane (c.num 18 2)).2)) s := by
  simp only [runWearRead, checks_cons, checks_nil, hcls, if_true, Nat.not_le.mpr hlane, decide_false, Bool.false_eq_true, if_false]

end WearCommandRuns

/-- Settles O48: each command by the end that the catalogue names for it and by what its run does. -/
theorem wearCommandsRun : Obligations.WearCommandsRun := by
  refine ⟨?monitor, ?lane, ?summary, ?ledgerRead, ?ledgerStatus, ?bist, ?vmin⟩
  case monitor =>
    rintro s u c ring hpass rfl rfl ⟨hcls, hinst⟩
    exact exec_endsDone rfl hpass rfl ((runOp_WearRead (State.passes_opcode hpass)).trans (runWearRead_monitor hcls hinst))
  case lane =>
    rintro s u c ring hpass rfl rfl ⟨hcls, hlane⟩
    exact exec_endsDone rfl hpass rfl ((runOp_WearRead (State.passes_opcode hpass)).trans (runWearRead_lane hcls hlane))
  case summary =>
    rintro s u c ring hpass rfl rfl
    have hrun := exec_endsDone (i := .wearSummary ring) rfl hpass rfl (runOp_WearSummary (State.passes_opcode hpass))
    simpa only [fieldAt, Nat.mul_comm, pow_one] using hrun
  case ledgerRead =>
    rintro s u c ring hpass rfl rfl ⟨hfirst, hlow, hhigh⟩
    exact exec_endsDone rfl hpass rfl
      ((runOp_LedgerRead (State.passes_opcode hpass)).trans (runLedgerRead_done hfirst hlow hhigh))
  case ledgerStatus =>
    rintro s u c ring hpass rfl rfl
    exact exec_endsDone rfl hpass rfl (runOp_LedgerStatus (State.passes_opcode hpass))
  case bist =>
    rintro s c ring hpass rfl
    exact exec_isQueued_power rfl hpass rfl (by decide) fun t _ => runOp_HealthBist (State.passes_opcode hpass)
  case vmin =>
    rintro s c ring hpass rfl hsupply
    exact exec_isQueued_power rfl hpass rfl (by decide) fun t _ =>
      (runOp_HealthVmin (State.passes_opcode hpass)).trans (runHealthVmin_queued hsupply)

/-! The entries of CS_LIST (R408, R409), and the proposal that a guarded command becomes (R368). -/

section CountersignLists

variable {p : Proposal} {c : Command} {s : State} {i : Nat}

theorem getElem?_bytesOf {n w : Nat} (v : BitVec w) (hi : i < n) : (bytesOf n w v)[i]? = some (BitVec.ofNat 8 (v.toNat / 256 ^ i)) := by
  rw [bytesOf, List.getElem?_map, List.getElem?_range hi, Option.map_some]

/-- A number cut to 32 bits keeps its lowest four bytes. -/
theorem byteOf_ofNat32 (n : Nat) (hi : i < 4) : BitVec.ofNat 8 ((BitVec.ofNat 32 n).toNat / 256 ^ i) = BitVec.ofNat 8 (n / 256 ^ i) := by
  apply BitVec.eq_of_getLsbD_eq
  intro j hj
  have hlow : 8 * i + j < 32 := by omega
  rw [getLsbD_byteOf, BitVec.getLsbD_ofNat, BitVec.getLsbD_ofNat, show 256 = 2 ^ 8 from rfl, ← Nat.pow_mul, Nat.testBit_div_two_pow,
    Nat.add_comm j]
  simp [hlow]

/-- An entry is its head of 32 bytes, and the digest. -/
def Proposal.listedHead (p : Proposal) : List Byte :=
  bytesOf 2 16 p.number ++ (bytesOf 2 16 p.cmd.opcode ++
    ([p.authority.zeroExtend 8, BitVec.ofNat 8 p.cmd.ring, BitVec.ofNat 8 (bit p.signer.isSome), 0] ++
      (bytesOf 4 32 p.cmd.tag ++ (bytesOf 4 32 (BitVec.ofNat 32 p.remaining) ++ List.replicate 16 0))))

theorem Proposal.listed_eq (p : Proposal) : p.listed = p.listedHead ++ bytesOf 32 256 p.digest := by
  simp only [listed, listedHead, List.append_assoc]

theorem Proposal.length_listedHead (p : Proposal) : p.listedHead.length = 32 := by
  simp [listedHead, length_bytesOf]

theorem Proposal.length_listed (p : Proposal) : p.listed.length = 64 := by
  rw [listed_eq, List.length_append, length_listedHead, length_bytesOf]

/-- An index past a field of known length is an index into what follows it. -/
theorem getElem?_past {l r : List Byte} {n : Nat} (hlen : l.length = n) (hi : n ≤ i) : (l ++ r)[i]? = r[i - n]? := by
  rw [List.getElem?_append_right (by omega), hlen]

theorem getElem?_within {l r : List Byte} {n : Nat} (hlen : l.length = n) (hi : i < n) : (l ++ r)[i]? = l[i]? :=
  List.getElem?_append_left (by omega)

/-- The head's bytes, field by field (R409). -/
theorem Proposal.getElem?_listedHead (p : Proposal) (hi : i < 32) : p.listedHead[i]? = some (BitVec.ofNat 8
    (if i < 2 then p.number.toNat / 256 ^ i
      else if i < 4 then p.cmd.opcode.toNat / 256 ^ (i - 2)
      else if i = 4 then p.authority.toNat
      else if i = 5 then p.cmd.ring
      else if i = 6 then (if p.signer.isSome then 1 else 0)
      else if 8 ≤ i ∧ i < 12 then p.cmd.tag.toNat / 256 ^ (i - 8)
      else if 12 ≤ i ∧ i < 16 then p.remaining / 256 ^ (i - 12)
      else 0)) := by
  rw [listedHead]
  by_cases hnumber : i < 2
  · rw [getElem?_within (length_bytesOf _) hnumber, getElem?_bytesOf _ hnumber, if_pos hnumber]
  rw [getElem?_past (length_bytesOf _) (by omega), if_neg hnumber]
  by_cases hopcode : i < 4
  · rw [getElem?_within (length_bytesOf _) (by omega), getElem?_bytesOf _ (by omega), if_pos hopcode]
  rw [getElem?_past (length_bytesOf _) (by omega), if_neg hopcode]
  by_cases hflags : i < 8
  · rw [getElem?_within (n := 4) rfl (by omega)]
    obtain rfl | rfl | rfl | rfl : i = 4 ∨ i = 5 ∨ i = 6 ∨ i = 7 := by omega
    · exact congrArg some (BitVec.ofNat_toNat 8 p.authority).symm
    · rfl
    · rfl
    · rfl
  rw [getElem?_past (n := 4) rfl (by omega), if_neg (by omega), if_neg (by omega), if_neg (by omega)]
  have htagAt : i - 2 - 2 - 4 = i - 8 := by omega
  rw [htagAt]
  by_cases htag : i < 12
  · rw [getElem?_within (length_bytesOf _) (by omega), getElem?_bytesOf _ (by omega), if_pos ⟨by omega, htag⟩]
  have hticksAt : i - 8 - 4 = i - 12 := by omega
  rw [getElem?_past (length_bytesOf _) (by omega), hticksAt, if_neg (by omega)]
  by_cases hticks : i < 16
  · rw [getElem?_within (length_bytesOf _) (by omega), getElem?_bytesOf _ (by omega), byteOf_ofNat32 _ (by omega),
      if_pos ⟨by omega, hticks⟩]
  · rw [getElem?_past (length_bytesOf _) (by omega), if_neg (by omega), List.getElem?_replicate, if_pos (by omega)]
    rfl

/-- The low two bits of RING_STATUS are the authority of the ring (R352). -/
theorem ofNat_ringStatus (t : State) (ring : Nat) : BitVec.ofNat 2 (ringStatus t ring) = BitVec.ofNat 2 (authorityOf ring) := by
  apply BitVec.eq_of_toNat_eq
  simp only [ringStatus, fieldAt, BitVec.toNat_ofNat]
  omega

theorem writeBlock_teller_proposals (c : Command) (result : List Byte) (s : State) :
    (writeBlock c result s).teller.proposals = s.teller.proposals := by
  unfold writeBlock
  split_ifs <;> rfl

/-- What a staged command adds to the outstanding proposals carries the command and the authority of its ring (R368). -/
theorem mem_propose (hnew : p ∈ (propose c s).teller.proposals) (hold : p ∉ s.teller.proposals) :
    p.cmd = c ∧ p.authority = BitVec.ofNat 2 (authorityOf c.ring) := by
  have hanswer (status : Nat) (result : List Byte) (q : Option Nat) (t : State) :
      (answer c status result q t).teller.proposals = t.teller.proposals := by
    simp only [answer, writeReceipt_teller_proposals, writeBlock_teller_proposals, noteCxlReset_teller]
  by_cases hfull : 8 ≤ s.teller.proposals.length
  · rw [propose, if_pos hfull, hanswer] at hnew
    exact absurd hnew hold
  · rw [propose, if_neg hfull] at hnew
    simp only [count_teller, hanswer, State.modTeller, State.setTeller_teller, List.mem_append, hold, List.mem_singleton,
      false_or] at hnew
    subst hnew
    exact ⟨rfl, rfl⟩

/-- In a list of blocks of one length, a block stands at its index times that length. -/
theorem take_drop_flatMap {α β : Type} {f : α → List β} {k : Nat} (hlen : ∀ x, (f x).length = k) {l : List α} {r : List β} {x : α}
    (hat : l[i]? = some x) : ((l.flatMap f ++ r).drop (k * i)).take k = f x := by
  induction l generalizing i with
  | nil => simp at hat
  | cons y rest ih =>
    rw [List.flatMap_cons, List.append_assoc]
    cases i with
    | zero =>
      obtain rfl : y = x := by simpa using hat
      rw [Nat.mul_zero, List.drop_zero, List.take_left' (hlen y)]
    | succ i =>
      rw [Nat.mul_succ, Nat.add_comm, ← List.drop_drop, List.drop_left' (hlen y)]
      exact ih (by simpa using hat)

end CountersignLists

/-- Settles O52: the entry's bytes by its fields, the staged proposal by `mem_propose`, and the block of CS_LIST by its entries of 64 bytes
after a head of 8. -/
theorem countersignListEntries : Obligations.CountersignListEntries := by
  refine ⟨Proposal.length_listed, ?bytes, ?staged, ?list⟩
  case bytes =>
    intro p i hi
    rw [Proposal.listed_eq]
    by_cases hhead : i < 32
    · have hdigest : ¬ 32 ≤ i := by omega
      rw [getElem?_within p.length_listedHead hhead, p.getElem?_listedHead hhead, if_neg hdigest]
    · have hdigest : 32 ≤ i := by omega
      rw [getElem?_past p.length_listedHead hdigest, getElem?_bytesOf _ (by omega)]
      rw [if_neg (by omega), if_neg (by omega), if_neg (by omega), if_neg (by omega), if_neg (by omega), if_neg (by omega),
        if_neg (by omega), if_pos hdigest]
  case staged =>
    intro c s t p hnew hold
    rw [ofNat_ringStatus]
    exact mem_propose hnew hold
  case list =>
    rintro s u c ring hpass rfl rfl
    refine ⟨_, exec_endsDone rfl hpass rfl (runOp_CsList (State.passes_opcode hpass)), fun i p hat => ?_⟩
    rw [List.append_assoc, ← List.drop_drop, List.drop_left' (length_bytesOf _)]
    exact take_drop_flatMap Proposal.length_listed hat

end Sys2Proof.Machine
end

section
/-! The family of the steward die and its event controller: accesses of a hart that reach the fabric die, the offers, takes and completions of
the event controller, and the harts' side of an offer (R416, R417, R427, R457 to R473). -/

namespace Sys2Proof.Machine

/-! A hart's access that crosses the die link (R427, R429). -/

section HartStores

variable {s u : State} {channel hart size : Nat} {store : Bool} {address data : BitVec 64}

/-- An access that reaches the fabric die has its effect there. -/
theorem hartAccess_arrives (f : State → State) (hon : s.fabricOn = true) (hreach : s.stewardCanReach channel = true)
    (harrives : fromSteward channel hart (.access store address size data)
      ((deliverNext (fun g => g.channel == chCompletion && g.hart == hart) s).modHart hart
        (fun h => { h with access := some (store, address) })) = u) :
    hartAccess channel hart store address size data f s = f u := by
  subst harrives
  simp only [hartAccess, hartAccessAs, hon, hreach, Bool.not_true, Bool.false_eq_true, if_false, if_true]

/-- A store of hart 0 to a register of the event controller has its effect there and is answered (log 102). -/
theorem evcRegisterStore_arrives {offset : Nat} (f : State → State) (hon : s.fabricOn = true) (hreach : s.stewardCanReach chRequest = true)
    (haddress : BitVec.ofNat 64 (0x20080000 + offset) = address)
    (harrives : fromSteward chRequest 0 (.access true address size data)
      ((deliverNext (fun g => g.channel == chCompletion && g.hart == 0) s).modHart 0
        (fun h => { h with access := some (true, address) })) = u) :
    evcRegisterStore offset size data f s = completeToHart 0 4 0 (f u) := by
  subst haddress
  exact hartAccess_arrives (fun t => completeToHart 0 4 0 (f t)) hon hreach harrives

end HartStores

/-! Offers, takes and completions at a target (R459 to R465). -/

section Targets

variable {s u : State} {target src prio : Nat}

/-- The fourth beat of a selection sends the offer and ends the selection (R460). -/
theorem evcBeat_sends {c : Nat × Nat} (hreviewed : evcReview target (evcResolve target s) = u) (hnone : (u.target target).offer = none)
    (hmay : u.canOffer = true) (hbest : bestCandidate u target = some c) (hstarted : 0 < (u.target target).selBeat)
    (hold : (u.target target).selBeat + 3 ≤ u.time.beats) :
    evcBeat target s = (evcSendOffer target c.1 c.2 u).modTarget target (fun x => { x with selBeat := 0 }) := by
  have hoffer : u.toOffer target = some c := by simp [State.toOffer, hnone, hmay, hbest]
  have hfourth : (u.target target).selBeat - 1 + 4 ≤ u.time.beats := by omega
  simp only [evcBeat, hreviewed, hoffer, if_neg (Nat.ne_of_gt hstarted), if_pos hfourth]

/-- A TAKE that is the next flit on its way arrives (R431). -/
theorem takeArrives_inFlight {f : DieFlit} {rest : List DieFlit} {a b : Nat} (hon : s.fabricOn = true) (hup : s.dieUp = true)
    (hclear : s.dieLink.toFabric.naking = false) (hflight : s.dieLink.toFabric.inFlight = f :: rest) (hchannel : f.channel = chEvent)
    (hhart : f.hart = target) (hmsg : f.msg = .take a b) :
    takeArrives target src prio s = evcTakeOp target a b (takeFromSteward f s) := by
  simp only [takeArrives, hon, hup, hclear, hflight, hchannel, hhart, hmsg, Bool.not_true, Bool.or_self, Bool.false_eq_true, if_false,
    and_self, if_true]

/-- A TAKE of the offered source above the target's level (R462, R463). -/
theorem evcTakeOp_offered {o : EvcOffer} (hoffer : (s.target target).offer = some o) (hsource : o.source = src) (hsrc : src ≠ 0)
    (habove : (s.target target).level < o.priority) :
    evcTakeOp target src prio s = (let late := !o.isOpen || !(s.source src).enable
      traceEvc src target o.priority 3 ((count 26 0x06 1 ((if late then count 26 0x08 1 else id)
        ((s.modTarget target (fun y => { y with offer := none, quietDone := false })).modSource src (fun y =>
          { y with pending := false, inService := true, late := y.late || late,
                   lateBeat := if late then 1 + s.time.beats else y.lateBeat })))).modTarget target
          (fun y => { y with stack := (o.priority, src) :: y.stack }))) := by
  simp only [evcTakeOp, hoffer, hsource, ne_eq, not_true_eq_false, if_false, hsrc, not_false_eq_true, decide_true, Bool.true_and,
    false_and, true_and, false_or, if_neg (Nat.not_le.mpr habove), EvcTarget.push, ite_apply, id]

/-- A TAKE of a source that the target was not offered is a fault of the record only (R464). -/
theorem evcTakeOp_notOffered (hnone : ∀ o, (s.target target).offer = some o → o.source ≠ src) :
    evcTakeOp target src prio s = logFault 0x49 blockEvc target src 0 0 0 s := by
  cases hoffer : (s.target target).offer with
  | none => simp only [evcTakeOp, hoffer]
  | some o => simp only [evcTakeOp, hoffer, if_pos (hnone o hoffer)]

theorem evcDoneOp_top (htop : (s.target target).top = some src) :
    evcDoneOp target src s =
      traceEvc src target 0 4 ((s.modTarget target EvcTarget.pop).modSource src (fun y => { y with inService := false })) := by
  simp only [evcDoneOp, htop, if_true]

theorem evcDoneOp_other (hother : (s.target target).top ≠ some src)
    (hloud : (s.target target).quietDone = false ∨ (s.target target).top ≠ none) :
    evcDoneOp target src s = stackOrderFault target src s := by
  have hfault : ((s.target target).quietDone && (s.target target).top.isNone) = false :=
    Bool.and_eq_false_iff.mpr (hloud.imp_right fun hbusy => Option.isNone_eq_false_iff.mpr (Option.isSome_iff_ne_none.mpr hbusy))
  simp only [evcDoneOp, if_neg hother, hfault, Bool.false_eq_true, if_false]

theorem evcDoneOp_quiet (hempty : (s.target target).top = none) (hquiet : (s.target target).quietDone = true) :
    evcDoneOp target src s = s := by
  simp [evcDoneOp, hempty, hquiet]

/-- An edge that was not set in this beat is cleared, for source 0 at every target (R457, R10). -/
theorem pendClearOne_clears (hedge : (s.source src).edge = true) (hold : (s.source src).setBeat ≠ 1 + s.time.beats) :
    pendClearOne src s =
      (if src = 0 then forEach (List.range 4) (fun t u => u.modTarget t (fun x => { x with faultPending := false }))
          (s.modSource src (fun x => { x with pending := false }))
        else s.modSource src (fun x => { x with pending := false })) := by
  simp only [pendClearOne, State.clears, hedge, hold, ne_eq, not_false_eq_true, decide_true, Bool.not_true, Bool.or_self,
    Bool.false_eq_true, if_false]

/-- What sets a bit in a beat wins over the write that clears it (R10). -/
theorem pendClearOne_kept (hnow : (s.source src).setBeat = 1 + s.time.beats) : pendClearOne src s = s := by
  simp [pendClearOne, State.clears, hnow]

end Targets

/-- Settles O28: each row by its meaning, and each operation of a target by the case that its stack and its offer name. -/
theorem eventControllerTakesAndDone : Obligations.EventControllerTakesAndDone := by
  refine ⟨?assertion, ?offer, ?beat, fun _ _ _ _ => rfl, ?take, ?offered, ?notOffered, ?done, fun _ _ _ htop => evcDoneOp_top htop,
    fun _ _ _ ⟨hother, hloud⟩ => evcDoneOp_other hother hloud, fun _ _ _ ⟨hempty, hquiet⟩ => evcDoneOp_quiet hempty hquiet,
    ?tgtReset, ?swtrig, ?pendClear, ?clears, fun _ _ hnow => pendClearOne_kept hnow, ?clearsFault⟩
  case assertion =>
    exact fun source s ⟨hsource, hon⟩ =>
      whenWf_onlyIf_becomes (f := fun t => evcReviewAll (raise source t)) (decide_eq_true hsource) hon
  case offer =>
    exact fun target s ⟨htarget, hon⟩ => whenWf_onlyIf_becomes (f := evcOfferOp target) (decide_eq_true htarget) hon
  case beat =>
    exact fun target c s u hreviewed ⟨hnone, hmay, hbest⟩ ⟨hstarted, hold⟩ =>
      evcBeat_sends hreviewed hnone hmay hbest hstarted hold
  case take =>
    rintro target source priority f rest s u ⟨htarget, hsource, hon, hup, hclear⟩ ⟨hflight, hchannel, hhart, hmsg⟩ rfl
    exact (whenWf_becomes (by simp [htarget, hsource])).trans
      (congrArg s.becomes (takeArrives_inFlight hon hup hclear hflight hchannel hhart hmsg))
  case offered =>
    exact fun s t src prio o ⟨hoffer, hsource, hsrc⟩ habove => evcTakeOp_offered hoffer hsource hsrc habove
  case notOffered => exact fun s t src prio hnone => evcTakeOp_notOffered hnone
  case done =>
    exact fun hart value s u ⟨hhart, hon, hreach⟩ harrives => (whenWf_becomes (decide_eq_true hhart)).trans
      (congrArg s.becomes (hartAccess_arrives (fun t => completeToHart hart 4 0 (evcDoneOp hart (bitsOf value 10 0) t)) hon hreach harrives))
  case tgtReset =>
    exact fun value s u ⟨hon, hreach⟩ harrives =>
      (whenWf_becomes rfl).trans (congrArg s.becomes (evcRegisterStore_arrives _ hon hreach rfl harrives))
  case swtrig =>
    intro value s u ⟨hon, hreach⟩ harrives
    have hsource : bitsOf value 8 0 % 512 = bitsOf value 8 0 := Nat.mod_mod _ _
    have htrigger : softwareTrigger (bitsOf value 8 0) u = evcReviewAll (raise (1536 + bitsOf value 8 0) u) := by
      rw [softwareTrigger, hsource]
    rw [← htrigger]
    exact (whenWf_becomes rfl).trans (congrArg s.becomes (evcRegisterStore_arrives _ hon hreach rfl harrives))
  case pendClear =>
    intro word value s u ⟨hword, hon, hreach⟩ harrives
    have haddress : BitVec.ofNat 64 (0x20080000 + (0xA000 + 8 * word)) = BitVec.ofNat 64 (0x2008A000 + 8 * word) := by
      rw [← Nat.add_assoc]
    exact (whenWf_becomes (decide_eq_true hword)).trans
      (congrArg s.becomes (evcRegisterStore_arrives (pendClear word value) hon hreach haddress harrives))
  case clears => exact fun src s ⟨hedge, hsrc, hold⟩ => (pendClearOne_clears hedge hold).trans (if_neg hsrc)
  case clearsFault => exact fun s ⟨hedge, hold⟩ => (pendClearOne_clears hedge hold).trans (if_pos rfl)

/-! The harts' side of an offer (R416, R417, R460). -/

section HartOffers

variable {s : State} {hart target : Nat}

/-- A hart that can take the offer it holds enters its handler and sends TAKE (R416). -/
theorem offerTakenOp_takes {src prio : Nat} {vec : BitVec 64} (hout : s.steward.inReset = false)
    (hoffer : (s.hart hart).offer = some (src, prio, vec)) (hcan : (s.hart hart).canTake = true) :
    offerTakenOp hart s =
      dieSend .toFabric chEvent hart 0 1 (.take src prio) (s.modHart hart (fun h => h.enter src vec)) := by
  simp only [offerTakenOp, hoffer, Option.isNone_some, Bool.false_eq_true, if_false, hout, hcan, Bool.not_true, Bool.or_self]

/-- An offer that a hart holds and cannot take stays with it. -/
theorem offerTakenOp_holds (hcannot : (s.hart hart).canTake = false) (hheld : (s.hart hart).offer ≠ none) : offerTakenOp hart s = s := by
  have hsome : (s.hart hart).offer.isNone = false := by simpa [Option.isNone_eq_false_iff, Option.isSome_iff_ne_none] using hheld
  simp only [offerTakenOp, hsome, Bool.false_eq_true, if_false, hcannot, Bool.not_false, Bool.or_true, if_true]

/-- The oldest flit in flight that meets a test is delivered alone (R431). -/
theorem deliverNext_first {p : DieFlit → Bool} {f : DieFlit} {rest : List DieFlit} (hup : s.dieUp = true)
    (hclear : s.dieLink.toSteward.naking = false) (hflight : s.dieLink.toSteward.inFlight = f :: rest) (hmeets : p f = true) :
    deliverNext p s = diePump .toFabric
      (((deliverToSteward f s).modDir .toSteward (fun d => ({ d with exp := f.seq + 1 }).free f.channel f.flits)).modDir .toFabric
        (DieDir.acknowledge .toFabric f.ack (deliverToSteward f s).time.beats)) := by
  simp only [deliverNext, hup, hclear, hflight, List.any_cons, hmeets, Bool.not_false, Bool.and_self, Bool.true_or, if_true, deliverUpTo]
  rfl

/-- A hart loses the offer of a source (R417). -/
def Hart.loseOffer (source : Nat) (h : Hart) : Hart :=
  match h.offer with
  | some o => if o.1 = source then { h with offer := none } else h
  | none => h

/-- A WITHDRAW takes the offer of its source away from the hart that it reaches (R417). -/
theorem deliverToSteward_withdraw {f : DieFlit} {source prio : Nat} (hhart : f.hart = hart) (hmsg : f.msg = .withdraw source prio) :
    deliverToSteward f s = s.modHart hart (Hart.loseOffer source) := by
  simp only [deliverToSteward, hmsg, hhart]
  rfl

/-- The acknowledgement of a WITHDRAW that no TAKE raced resolves the offer in doubt (R460). -/
theorem withdrawAckOp_replayed {o : EvcOffer} {f : DieFlit} (hup : s.dieUp = true) (hclear : s.dieLink.toSteward.naking = false)
    (hoffer : (s.target target).offer = some o) (hdoubt : o.isOpen = false) (hnone : s.dieLink.toFabric.inFlight = [])
    (hfind : s.dieLink.toSteward.replay.find? (·.withdraws target) = some f) :
    withdrawAckOp target s = evcResolve target (dieAck .toSteward f.seq (deliverNext (fun g => g.seq == f.seq) s)) := by
  simp only [withdrawAckOp, hoffer, hdoubt, hup, hclear, hnone, hfind, List.any_nil, Bool.not_true, Bool.or_self, Bool.false_eq_true,
    if_false]

/-- An offer in doubt is resolved once no WITHDRAW of it waits or is unacknowledged (R460). -/
theorem evcResolve_resolved {o : EvcOffer} (hoffer : (s.target target).offer = some o) (hdoubt : o.isOpen = false)
    (hdone : (s.dieLink.toSteward.waiting ++ s.dieLink.toSteward.replay).any (·.withdraws target) = false) :
    evcResolve target s = s.modTarget target (fun x => { x with offer := none }) := by
  simp only [evcResolve, hoffer, hdoubt, hdone, Bool.or_self, Bool.false_eq_true, if_false]

/-- A WITHDRAW that waits or is unacknowledged keeps its offer in doubt (R460). -/
theorem evcResolve_waits (hwaits : (s.dieLink.toSteward.waiting ++ s.dieLink.toSteward.replay).any (·.withdraws target) = true) :
    evcResolve target s = s := by
  cases hoffer : (s.target target).offer with
  | none => simp only [evcResolve, hoffer]
  | some o => simp only [evcResolve, hoffer, hwaits, Bool.or_true, if_true]

end HartOffers

/-- Settles O29: each row by what its flit or its hart does. -/
theorem hartsTakeOffers : Obligations.HartsTakeOffers := by
  refine ⟨?takes, ?holds, ?withdrawn, ?acknowledged, fun _ _ _ ⟨hoffer, hdoubt⟩ hdone => evcResolve_resolved hoffer hdoubt hdone,
    fun _ _ hwaits => evcResolve_waits hwaits⟩
  case takes =>
    exact fun hart src prio vec s ⟨hhart, hout, hoffer⟩ hcan =>
      (whenWf_becomes (decide_eq_true hhart)).trans (congrArg s.becomes (offerTakenOp_takes hout hoffer hcan))
  case holds =>
    exact fun hart s ⟨hhart, hcannot⟩ hheld =>
      (whenWf_becomes (decide_eq_true hhart)).trans (congrArg s.becomes (offerTakenOp_holds hcannot hheld))
  case withdrawn =>
    intro hart source f rest prio s ⟨hhart, hsource, hup, hclear⟩ ⟨hflight, hto, hmsg⟩
    refine (whenWf_becomes (by simp [hhart, hsource])).trans (congrArg s.becomes ?_)
    rw [withdrawReceivedOp, deliverNext_first hup hclear hflight (by simp [hto, hmsg]), deliverToSteward_withdraw hto hmsg]
    rfl
  case acknowledged =>
    exact fun target o f s ⟨htarget, hon, hup, hclear⟩ ⟨hoffer, hdoubt⟩ ⟨hnone, hfind⟩ =>
      (whenWf_onlyIf_becomes (decide_eq_true htarget) hon).trans
        (congrArg s.becomes (withdrawAckOp_replayed hup hclear hoffer hdoubt hnone hfind))

end Sys2Proof.Machine
end

section
/-! The family of start and modes: power-on, resets, start stages and the wake, and the events of the fault ledger, the wear book, the
monitors and the health tests (R474 to R489, R538 to R563). -/

namespace Sys2Proof.Machine

/-- Settles O16: each row by its meaning, whose guard the row's condition meets. -/
theorem resetAndModeEventsComplete : Obligations.ResetAndModeEventsComplete := by
  intro s pr goodA goodB bad fl src
  simp only [rows_cons, rows_nil, and_true]
  refine ⟨⟨?powerOn, ?loss, ?assert, ?release, ?wake⟩, fun hon => ⟨?records, ?bist, ?quiet⟩⟩
  case powerOn => exact fun hoff => whenWf_onlyIf_becomes rfl (by simp [hoff])
  case loss => exact fun hvaux => whenWf_onlyIf_becomes rfl hvaux
  case assert => exact fun ⟨hvaux, hhigh⟩ => whenWf_onlyIf_becomes rfl (by simp [hvaux, hhigh])
  case release => exact fun ⟨hvaux, hready, hreset⟩ => whenWf_onlyIf_becomes rfl (by simp [hvaux, hready, hreset])
  case wake => exact fun ⟨hmode, hout⟩ => whenWf_onlyIf_becomes rfl (by simp [hmode, hout])
  case records => exact fun hdue => whenWf_onlyIf_becomes rfl (by simp [hon, hdue])
  case bist =>
    exact fun ⟨hstage, hnotDone, hnotFailed⟩ => whenWf_onlyIf_becomes
      (f := fun t => t.modDev (fun d => { d with bistWait := some fl })) rfl (by simp [hon, hstage, hnotDone, hnotFailed])
  case quiet =>
    rintro ⟨hwaits, hloud, hold⟩
    obtain ⟨t, htransition, hlate⟩ := (Option.any_eq_true ..).mp hold
    exact whenWf_onlyIf_becomes rfl (by simp only [hon, hwaits, hloud, htransition, hlate, Bool.not_false, Bool.and_self])

/-! The fault ledger and the wear book (R538 to R551). -/

section LedgerAndWear

variable {s : State}

/-- The ledger takes the oldest entry of the next block's queue, and the entry gets the next index (R538, R540, R543). -/
theorem drainOne_takes {b : Nat} {e : LedgerEntry} {rest : List LedgerEntry} (hnext : nextLogBlock s.ledger = some b)
    (hqueue : Tab.get s.ledger.queues [] b = e :: rest) :
    drainOne s = writeEntry e (s.modLedger (fun l =>
      { l with queues := Tab.set l.queues [] b rest, turn := b, drained := 1 + s.time.beats })) := by
  simp only [drainOne, hnext, hqueue]

/-- The oldest summary is queued for the next slot (R543, R544). -/
theorem ledgerPersistOp_queues {e : LedgerEntry} {rest : List LedgerEntry} (hqueue : s.ledger.persist = e :: rest) :
    ledgerPersistOp s = writeBook (0x2000 + 32 * s.ledger.nextSlot) (e.summary s.ledger.psn) (s.modLedger (fun l =>
      { l with persist := rest, psn := (l.psn + 1) % 65536, nextSlot := (l.nextSlot + 1) % 256,
               persisting := l.persisting ++ [(0x2000 + 32 * l.nextSlot, e)] })) := by
  simp only [ledgerPersistOp, hqueue]

theorem State.modLedger_onlyChanges (f : Ledger → Ledger) : s.onlyChanges [.ledger] (s.modLedger f) := by
  intro k hk
  cases k <;> simp [Part.same] at hk ⊢

theorem State.modWear_onlyChanges (f : Wear → Wear) : s.onlyChanges [.wear] (s.modWear f) := by
  intro k hk
  cases k <;> simp [Part.same] at hk ⊢

/-- The record of the life clock: the hours, four zeros and their check (R550). -/
def lifeClockRecord (hours : Nat) : List Byte :=
  (bytesOf 8 64 (BitVec.ofNat 64 hours) ++ [0, 0, 0, 0]) ++
    bytesOf 4 32 (crc32c 0 (bytesOf 8 64 (BitVec.ofNat 64 hours) ++ [0, 0, 0, 0]))

theorem length_lifeClockRecord (hours : Nat) : (lifeClockRecord hours).length = 16 := by
  simp [lifeClockRecord, length_bytesOf]

theorem take_lifeClockRecord (hours : Nat) : (lifeClockRecord hours).take 8 = bytesOf 8 64 (BitVec.ofNat 64 hours) := by
  rw [lifeClockRecord, List.append_assoc, List.take_left' (length_bytesOf _)]

theorem lifeClockHourOp_book : (lifeClockHourOp s).wear.book =
    memWrite 0xFF s.wear.book (0x1000 + 16 * (s.wear.hours % 16)) (lifeClockRecord (s.wear.hours + 1)) := rfl

/-- A shorter read finds the first bytes of a longer one. -/
theorem memRead_eq_take {d : Byte} {m : List (Nat × Byte)} {a k n : Nat} (hle : k ≤ n) : memRead d m a k = (memRead d m a n).take k := by
  rw [memRead, memRead, ← List.map_take, List.take_range, Nat.min_eq_left hle]

/-- A reading after the first counts its bin, and is the latest one (R553). -/
theorem thermalReadingOp_counts {celsius : Int} (hlater : s.wear.thermalTick ≠ 0) :
    (thermalReadingOp celsius s).wear.celsius = celsius ∧ (thermalReadingOp celsius s).wear.thermalTick = 1 + s.tick ∧
      (thermalReadingOp celsius s).wear.binTicks = s.wear.binTicks + 1024 * binWeight celsius := by
  simp only [thermalReadingOp, State.modWear, State.setWear_wear, hlater, if_false]
  split_ifs <;> exact ⟨rfl, rfl, rfl⟩

/-- A cycle counts where the temperature falls by 20 degrees after a rise by 20 degrees, and only then (R553). -/
theorem thermalReadingOp_cycles {celsius : Int} (hlater : s.wear.thermalTick ≠ 0) :
    (thermalReadingOp celsius s).wear.cycles =
        s.wear.cycles + (if s.wear.risen = true ∧ celsius ≤ s.wear.extreme - 20 then 1 else 0) ∧
      (thermalReadingOp celsius s).wear.risen =
        (if s.wear.risen then decide (s.wear.extreme - 20 < celsius) else decide (s.wear.extreme + 20 ≤ celsius)) := by
  simp only [thermalReadingOp, State.modWear, State.setWear_wear, hlater, if_false]
  cases hrisen : s.wear.risen with
  | false => by_cases hrise : s.wear.extreme + 20 ≤ celsius <;> simp [hrise]
  | true =>
    by_cases hfall : celsius ≤ s.wear.extreme - 20
    · simp [hfall, Int.not_lt.mpr hfall]
    · simp [hfall, Int.not_le.mp hfall]

/-- The first reading after power-on is the first extreme (R553). -/
theorem thermalReadingOp_first {celsius : Int} (hfirst : s.wear.thermalTick = 0) :
    thermalReadingOp celsius s = s.modWear (fun w =>
      { w with celsius := celsius, thermalTick := 1 + s.tick, binTicks := w.binTicks + 1024 * binWeight celsius, extreme := celsius }) := by
  simp only [thermalReadingOp, State.modWear, hfirst, if_true]

end LedgerAndWear

/-! The ends of the health tests and the steps of the VID (R557, R559). -/

section HealthAndVid

variable {s : State}

theorem healthBistDone_passes {mask repairs failing : Nat} {rest : List Nat} (hruns : s.dev.healthBist = mask :: rest)
    (hgood : failing = 0) :
    healthBistDone mask repairs failing s =
      finishFirst .bist stDone (bytesOf 4 32 (BitVec.ofNat 32 repairs) ++ bytesOf 4 32 (BitVec.ofNat 32 0))
        (gatherRepairs ((overwriteArrays mask (s.modDev (fun d => { d with healthBist := rest }))).modWear
          (fun w => { w with repairs := repairs }))) := by
  simp only [healthBistDone, State.modDev, hruns, List.tail_cons, hgood, if_true]

theorem healthBistDone_fails {mask repairs failing : Nat} {rest : List Nat} (hruns : s.dev.healthBist = mask :: rest)
    (hbad : failing ≠ 0) :
    healthBistDone mask repairs failing s =
      finishFirst .bist stFaulted (bytesOf 4 32 (BitVec.ofNat 32 repairs) ++ bytesOf 4 32 (BitVec.ofNat 32 failing))
        (logFaultSev 2 0x04 blockDevice 0xFFFF failing 0 0 0
          (gatherRepairs ((overwriteArrays mask (s.modDev (fun d => { d with healthBist := rest }))).modWear
            (fun w => { w with repairs := repairs })))) := by
  simp only [healthBistDone, State.modDev, hruns, List.tail_cons, if_neg hbad]

theorem healthVminDone_passes {supply vmin : Nat} {rest : List Nat} (hruns : s.dev.healthVmin = supply :: rest)
    (hlow : vmin ≤ s.nominal supply) :
    healthVminDone supply vmin s =
      finishFirst .vmin stDone (bytesOf 2 16 (BitVec.ofNat 16 vmin) ++ bytesOf 2 16 (BitVec.ofNat 16 (s.nominal supply - vmin)))
        (gatherValue 4 supply (s.nominal supply - vmin) (s.modDev (fun d => { d with healthVmin := rest }))) := by
  simp only [healthVminDone, State.modDev, hruns, List.tail_cons, if_neg (Nat.not_lt.mpr hlow)]

theorem healthVminDone_fails {supply vmin : Nat} {rest : List Nat} (hruns : s.dev.healthVmin = supply :: rest)
    (hhigh : s.nominal supply < vmin) :
    healthVminDone supply vmin s = finishFirst .vmin stFaulted [] (s.modDev (fun d => { d with healthVmin := rest })) := by
  simp only [healthVminDone, State.modDev, hruns, List.tail_cons, if_pos hhigh]

/-- The VID may move by a code within 0 to 10, once in 1,024 ticks (R559). -/
theorem State.vidMay_within {up : Bool} (hon : s.fabricOn = true) (hold : s.dev.vidTicks + 1024 ≤ s.tick)
    (hup : up = true → s.dev.vid < 10) (hdown : up = false → 0 < s.dev.vid) : s.vidMay up = true := by
  cases up with
  | false => simp [vidMay, hon, hold, hdown rfl]
  | true => simp [vidMay, hon, hold, hup rfl]

theorem State.vidMay_atEnd {up : Bool} (hend : (if up then 10 else s.dev.vid) ≤ (if up then s.dev.vid else 0)) : s.vidMay up = false := by
  cases up with
  | false =>
    have hzero : s.dev.vid = 0 := by simpa using hend
    simp [vidMay, hzero]
  | true =>
    have hten : 10 ≤ s.dev.vid := by simpa using hend
    simp [vidMay, hten]

/-- A VID_STEP that may not come about changes nothing. -/
theorem exec_vidStep_stays {up : Bool} (hmay : s.vidMay up = false) : exec (.vidStep up) s = s.becomes s := by
  have hexec : exec (.vidStep up) s = execVidStep up s := rfl
  rw [hexec, execVidStep, hmay]
  rfl

end HealthAndVid

/-- Settles O32: each event by its meaning, whose guard its condition meets, and by what its operation does. -/
theorem ledgerWearHealthEvents : Obligations.LedgerWearHealthEvents := by
  refine ⟨?write, ?persist, ?hour, ?later, ?first, ?trip, ?vid, ?vidStays, ?bistPasses, ?bistFails, ?vminPasses, ?vminFails⟩
  case write =>
    intro b e rest s ⟨hon, hnext, hqueue, hfree⟩
    refine (whenWf_onlyIf_becomes rfl (by simp [hon, hfree])).trans (congrArg s.becomes ?_)
    rw [drainOne_takes hnext hqueue]
    rfl
  case persist =>
    intro e rest s ⟨hon, hqueue⟩
    refine ⟨_, whenWf_onlyIf_becomes rfl hon, ?_⟩
    rw [ledgerPersistOp_queues hqueue]
    refine ⟨rfl, rfl, rfl, rfl, rfl, State.onlyChanges_setPending ?_⟩
    exact State.onlyChanges_trans (State.onlyChanges_mono (State.modLedger_onlyChanges _) (by simp))
      (State.onlyChanges_mono (State.modWear_onlyChanges _) (by simp))
  case hour =>
    intro s ⟨hvaux, hbook⟩
    have hlength := length_lifeClockRecord (s.wear.hours + 1)
    refine ⟨_, whenWf_onlyIf_becomes rfl hvaux, rfl, rfl, ?_, fun a hout => ?_,
      State.onlyChanges_setPending (State.modWear_onlyChanges _)⟩
    · rw [State.setPending_wear, lifeClockHourOp_book, memRead_eq_take (n := 16) (by omega), ← take_lifeClockRecord]
      exact congrArg (List.take 8) (hlength ▸ memRead_memWrite _ _ hbook)
    · rw [State.setPending_wear, lifeClockHourOp_book]
      exact memGet_memWrite_out _ hbook (by rwa [hlength])
  case later =>
    intro celsius s ⟨hon, hdue, hlater⟩
    obtain ⟨hcelsius, htick, hbin⟩ := thermalReadingOp_counts (celsius := celsius) hlater
    obtain ⟨hcycles, hrisen⟩ := thermalReadingOp_cycles (celsius := celsius) hlater
    exact ⟨_, whenWf_onlyIf_becomes rfl (by simp [hon, hdue]), hcelsius, htick, hbin,
      State.onlyChanges_setPending (State.modWear_onlyChanges _), hcycles, hrisen⟩
  case first =>
    exact fun celsius s ⟨hon, hfirst⟩ => (whenWf_onlyIf_becomes rfl (by simp [hon, State.thermalDue, hfirst])).trans
      (congrArg s.becomes (thermalReadingOp_first hfirst))
  case trip => exact fun s ⟨hvaux, hnot⟩ => whenWf_onlyIf_becomes (f := thermalTripOp) rfl (by simp [hvaux, hnot])
  case vid =>
    exact fun up s ⟨hon, hold⟩ hup hdown => whenWf_onlyIf_becomes (f := vidStepOp up) rfl (State.vidMay_within hon hold hup hdown)
  case vidStays => exact fun up s hend => exec_vidStep_stays (State.vidMay_atEnd hend)
  case bistPasses =>
    exact fun repairs failing mask rest s ⟨hon, hruns, hgood⟩ =>
      (exec_healthBistComplete repairs failing hon hruns).trans (congrArg s.becomes (healthBistDone_passes hruns hgood))
  case bistFails =>
    exact fun repairs failing mask rest s ⟨hon, hruns, hbad⟩ =>
      (exec_healthBistComplete repairs failing hon hruns).trans (congrArg s.becomes (healthBistDone_fails hruns hbad))
  case vminPasses =>
    exact fun vmin supply rest s ⟨hon, hruns, hlow⟩ =>
      (exec_healthVminComplete vmin hon hruns).trans (congrArg s.becomes (healthVminDone_passes hruns hlow))
  case vminFails =>
    exact fun vmin supply rest s ⟨hon, hruns, hhigh⟩ =>
      (exec_healthVminComplete vmin hon hruns).trans (congrArg s.becomes (healthVminDone_fails hruns hhigh))

end Sys2Proof.Machine
end
